-- ==== Sys2Proof/Word.lean ====
section
/-! DEFINITION. The word types of the model: bytes, 32-bit and 64-bit words, and the plainest bit-field arithmetic on
them. Every multi-byte field the spec defines is little-endian (R11); byte order is settled in Machine/Ops.lean. -/

namespace Sys2Proof

/-- A byte. -/
abbrev Byte := BitVec 8

/-- A 32-bit half of a register. -/
abbrev Half := BitVec 32

/-- A 64-bit register, general register, or ring-entry word. -/
abbrev Word := BitVec 64

end Sys2Proof
end

