-- ==== Sys2Proof/Machine/Containers.lean ====
section
/-! DEFINITION. Plain-data containers of the state: sparse tables in one canonical form (keys strictly rising, no entry
equal to what an unlisted key reads as), byte memories, and little-endian conversions (R11). -/

namespace Sys2Proof.Machine

/-- A sparse table from numbers to entries. What an unlisted key reads as is a default function named with each use. -/
abbrev Tbl (α : Type) := List (Nat × α)

/-- The entry listed for key `k`, else the default `d k`. -/
def Tbl.get {α : Type} (d : Nat → α) : Tbl α → Nat → α
  | [], k => d k
  | e :: t, k => if e.1 = k then e.2 else Tbl.get d t k

/-- The table without key `k`. -/
def Tbl.erase {α : Type} (t : Tbl α) (k : Nat) : Tbl α := t.filter (fun e => e.1 != k)

/-- Insert at the place that keeps keys rising. -/
def Tbl.put {α : Type} (k : Nat) (v : α) : Tbl α → Tbl α
  | [] => [(k, v)]
  | e :: t => if k < e.1 then (k, v) :: e :: t else e :: Tbl.put k v t

/-- Write entry `k`: the canonical form lists no entry equal to the default. -/
def Tbl.set {α : Type} [DecidableEq α] (d : Nat → α) (t : Tbl α) (k : Nat) (v : α) : Tbl α :=
  if v = d k then t.erase k else Tbl.put k v (t.erase k)

/-- The canonical form: keys strictly rising, no entry equal to the default. -/
abbrev Tbl.Wf {α : Type} (d : Nat → α) (t : Tbl α) : Prop :=
  t.Pairwise (fun a b => a.1 < b.1) ∧ ∀ e ∈ t, e.2 ≠ d e.1

/-- A byte memory: unlisted addresses read as zero (log entry 3). -/
abbrev Mem := Tbl Byte

/-- What an unlisted byte reads as (log entry 3). -/
def zeroByte (_ : Nat) : Byte := 0

/-- Read one byte. -/
def Mem.read (m : Mem) (a : Nat) : Byte := Tbl.get zeroByte m a

/-- Write one byte. -/
def Mem.write (m : Mem) (a : Nat) (b : Byte) : Mem := Tbl.set zeroByte m a b

/-- Memory is in its canonical form. -/
abbrev Mem.wf (m : Mem) : Prop := Tbl.Wf zeroByte m

/-- Write bytes at rising addresses. -/
def Mem.writeBytes (m : Mem) (a : Nat) : List Byte → Mem
  | [] => m
  | b :: bs => Mem.writeBytes (m.write a b) (a + 1) bs

/-- Read `n` bytes from rising addresses. -/
def Mem.readBytes (m : Mem) (a : Nat) : Nat → List Byte
  | 0 => []
  | n + 1 => m.read a :: Mem.readBytes m (a + 1) n

/-- Bytes of a number, least significant first (R11). -/
def leBytes : Nat → Nat → List Byte
  | 0, _ => []
  | n + 1, v => BitVec.ofNat 8 v :: leBytes n (v / 256)

/-- The number that bytes spell, least significant first (R11). -/
def leNat : List Byte → Nat
  | [] => 0
  | b :: bs => b.toNat + 256 * leNat bs

/-- Bytes of a number, most significant first (protection information keeps this order, R11). -/
def beBytes (n v : Nat) : List Byte := (leBytes n v).reverse

/-- The number that bytes spell, most significant first. -/
def beNat (bs : List Byte) : Nat := leNat bs.reverse

/-- Read an 8-byte word of a memory. -/
def Mem.readWord (m : Mem) (a : Nat) : Word := BitVec.ofNat 64 (leNat (m.readBytes a 8))

/-- Write an 8-byte word of a memory. -/
def Mem.writeWord (m : Mem) (a : Nat) (w : Word) : Mem := m.writeBytes a (leBytes 8 w.toNat)

/-- Bits [lo + width − 1 : lo] of a number. -/
def bits (v lo width : Nat) : Nat := v / 2 ^ lo % 2 ^ width

/-- Bit `i` of a number. -/
def bit (v i : Nat) : Bool := v / 2 ^ i % 2 == 1

/-- The number `v` with bits [lo + width − 1 : lo] replaced by `x`. -/
def putBits (v lo width x : Nat) : Nat :=
  v % 2 ^ lo + 2 ^ lo * (x % 2 ^ width) + 2 ^ (lo + width) * (v / 2 ^ (lo + width))

/-- Bit `i` of a number set or cleared. -/
def putBit (v i : Nat) (b : Bool) : Nat := putBits v i 1 b.toNat

/-- The positions below `n` at which `v` has a 1, rising. -/
def setBits (v n : Nat) : List Nat := (List.range n).filter (bit v)

/-- Number of 1 bits among the lowest `n`. -/
def popcount (v n : Nat) : Nat := (setBits v n).length

/-- A number taken modulo 2^w, as a signed value. -/
def signed (w v : Nat) : Int := if bit v (w - 1) then (v % 2 ^ w : Int) - 2 ^ w else (v % 2 ^ w : Int)

/-- The ceiling of a division. -/
def ceilDiv (a b : Nat) : Nat := (a + b - 1) / b

/-- Clamp a number into a range. -/
def clamp (lo hi v : Nat) : Nat := min hi (max lo v)

/-- A list with its last `n` entries kept. -/
def lastN {α : Type} (n : Nat) (l : List α) : List α := l.drop (l.length - n)

/-- A list padded with `x` to length `n`. -/
def padTo {α : Type} (n : Nat) (x : α) (l : List α) : List α := l ++ List.replicate (n - l.length) x

end Sys2Proof.Machine
end

