-- ==== Sys2Proof/Machine/RegMap.lean ====
section
/-! DEFINITION. The register map of BAR0 as the spec's register tables give it (R4, R5, R28 to R33, R64, the Registers
sections of every chapter, and the summary R457 to R474): for each register its offset, its index strides and, field by
field, bits, access type (R13) and reset value. Named fields follow, one for each field of the tables. -/

namespace Sys2Proof.Machine

/-- Access types of register fields (R13). -/
inductive Access where
  | ro | rw | rw1c | wo | rws | rwl
  deriving DecidableEq, Repr

/-- One field of a register: lowest bit, width, access type, reset value. -/
structure FieldRow where
  lo : Nat
  width : Nat
  access : Access
  reset : Nat
  deriving DecidableEq, Repr

/-- A register, or a family of registers with up to two indices: the first at `base`, `n1` copies `s1` apart, each with
`n2` copies `s2` apart. -/
structure RegRow where
  base : Nat
  s1 : Nat
  n1 : Nat
  s2 : Nat
  n2 : Nat
  fields : List FieldRow
  deriving DecidableEq, Repr

/-- A named field of one register. -/
structure Field where
  off : Nat
  lo : Nat
  width : Nat
  deriving DecidableEq, Repr

/-- Register rows of the global block. -/
def regRows_global : List RegRow := [
  /- DEV_ID -/ ⟨0, 8, 1, 8, 1, [⟨0, 16, .ro, 0⟩, ⟨16, 8, .ro, 1⟩]⟩,
  /- DEV_CAP0 -/ ⟨8, 8, 1, 8, 1, [⟨0, 4, .ro, 0⟩, ⟨8, 6, .ro, 0⟩, ⟨16, 4, .ro, 0⟩, ⟨20, 3, .ro, 0⟩, ⟨24, 1, .ro, 0⟩, ⟨25, 1, .ro, 0⟩, ⟨26, 1, .ro, 0⟩, ⟨32, 8, .ro, 0⟩]⟩,
  /- DEV_CAP1 -/ ⟨0x10, 8, 1, 8, 1, [⟨0, 32, .ro, 0⟩, ⟨32, 8, .ro, 0⟩, ⟨40, 4, .ro, 0⟩]⟩,
  /- DEV_MODE -/ ⟨0x18, 8, 1, 8, 1, [⟨0, 3, .ro, 1⟩, ⟨3, 1, .ro, 0⟩, ⟨4, 3, .ro, 1⟩, ⟨7, 1, .wo, 0⟩, ⟨12, 3, .wo, 0⟩, ⟨15, 1, .rw1c, 0⟩, ⟨16, 8, .ro, 0⟩]⟩,
  /- DEV_STATUS -/ ⟨0x20, 8, 1, 8, 1, [⟨0, 16, .ro, 0⟩, ⟨16, 16, .ro, 0⟩, ⟨32, 1, .ro, 0⟩, ⟨33, 1, .ro, 0⟩, ⟨34, 1, .ro, 0⟩, ⟨35, 1, .ro, 0⟩]⟩,
  /- DEV_HALT_CAUSE -/ ⟨0x28, 8, 1, 8, 1, [⟨0, 8, .ro, 0⟩, ⟨8, 4, .ro, 0⟩, ⟨12, 1, .ro, 0⟩, ⟨13, 10, .ro, 0⟩, ⟨23, 17, .ro, 0⟩, ⟨40, 8, .ro, 0⟩]⟩,
  /- DEV_HALT_DETAIL -/ ⟨0x30, 8, 1, 8, 1, [⟨0, 32, .ro, 0⟩, ⟨32, 32, .ro, 0⟩]⟩,
  /- DEV_LOCK -/ ⟨0x38, 8, 1, 8, 1, [⟨0, 1, .rws, 0⟩]⟩,
  /- DEV_TBASE -/ ⟨0x40, 8, 1, 8, 1, [⟨0, 64, .ro, 0⟩]⟩,
  /- DEV_EVT -/ ⟨0x48, 8, 1, 8, 1, [⟨0, 64, .rw1c, 0⟩]⟩,
  /- DEV_POLICY -/ ⟨0x50, 8, 1, 8, 1, [⟨0, 1, .rwl, 0⟩, ⟨1, 1, .rwl, 0⟩]⟩,
  /- DEV_BOOT_STAT -/ ⟨0x200, 8, 1, 8, 1, [⟨0, 32, .ro, 0⟩, ⟨32, 9, .ro, 0⟩, ⟨41, 4, .ro, 0⟩, ⟨45, 1, .ro, 0⟩]⟩,
  /- DEV_BOOT_CTL -/ ⟨0x208, 8, 1, 8, 1, [⟨0, 1, .rws, 0⟩]⟩,
  /- DEV_LEDGER_SEL -/ ⟨0x210, 8, 1, 8, 1, [⟨0, 12, .rw, 0⟩, ⟨12, 2, .rw, 0⟩]⟩,
  /- DEV_LEDGER_DATA -/ ⟨0x218, 8, 1, 8, 1, [⟨0, 64, .ro, 0⟩]⟩,
  /- DEV_MEAS_STAT -/ ⟨0x220, 8, 1, 8, 1, [⟨0, 11, .ro, 0⟩, ⟨11, 1, .ro, 0⟩]⟩,
  /- DEV_MEAS_SEL -/ ⟨0x228, 8, 1, 8, 1, [⟨0, 10, .rw, 0⟩, ⟨10, 4, .rw, 0⟩, ⟨14, 1, .rw, 0⟩]⟩,
  /- DEV_MEAS_DATA -/ ⟨0x230, 8, 1, 8, 1, [⟨0, 64, .ro, 0⟩]⟩,
  /- DEV_FW -/ ⟨0x238, 8, 1, 8, 1, [⟨0, 2, .wo, 0⟩, ⟨2, 1, .ro, 0⟩, ⟨3, 1, .ro, 0⟩, ⟨4, 1, .rw1c, 0⟩, ⟨5, 13, .wo, 0⟩, ⟨24, 28, .wo, 0⟩]⟩]

/-- Register rows of the rings block. -/
def regRows_rings : List RegRow := [
  /- SQ_BASE -/ ⟨0x10000, 0x40, 1024, 8, 1, [⟨12, 52, .rw, 0⟩]⟩,
  /- SQ_CTL -/ ⟨0x10008, 0x40, 1024, 8, 1, [⟨0, 1, .rw, 0⟩, ⟨1, 5, .rw, 4⟩, ⟨6, 10, .rw, 0⟩, ⟨16, 3, .rw, 0⟩, ⟨19, 1, .rw, 0⟩, ⟨20, 1, .rw, 0⟩, ⟨21, 5, .rw, 0⟩]⟩,
  /- SQ_IDX -/ ⟨0x10010, 0x40, 1024, 8, 1, [⟨0, 17, .ro, 0⟩, ⟨32, 17, .ro, 0⟩]⟩,
  /- SQ_STAT -/ ⟨0x10018, 0x40, 1024, 8, 1, [⟨0, 1, .ro, 0⟩, ⟨1, 1, .ro, 0⟩, ⟨2, 1, .ro, 0⟩, ⟨3, 1, .rw1c, 0⟩, ⟨16, 17, .ro, 0⟩]⟩,
  /- SQ_HR0_BASE -/ ⟨0x10020, 0x40, 1024, 8, 1, [⟨12, 52, .rw, 0⟩]⟩,
  /- SQ_HR0_LIMIT -/ ⟨0x10028, 0x40, 1024, 8, 1, [⟨12, 52, .rw, 0⟩]⟩,
  /- SQ_HR1_BASE -/ ⟨0x10030, 0x40, 1024, 8, 1, [⟨12, 52, .rw, 0⟩]⟩,
  /- SQ_HR1_LIMIT -/ ⟨0x10038, 0x40, 1024, 8, 1, [⟨12, 52, .rw, 0⟩]⟩,
  /- CQ_BASE -/ ⟨0x20000, 0x40, 1024, 8, 1, [⟨12, 52, .rw, 0⟩]⟩,
  /- CQ_CTL -/ ⟨0x20008, 0x40, 1024, 8, 1, [⟨0, 1, .rw, 0⟩, ⟨1, 5, .rw, 4⟩, ⟨6, 1, .rw, 0⟩, ⟨7, 1, .rw, 0⟩, ⟨8, 1, .rw, 0⟩, ⟨16, 8, .rw, 1⟩, ⟨32, 16, .rw, 1⟩]⟩,
  /- CQ_IDX -/ ⟨0x20010, 0x40, 1024, 8, 1, [⟨0, 17, .ro, 0⟩, ⟨32, 17, .ro, 0⟩]⟩,
  /- CQ_STAT -/ ⟨0x20018, 0x40, 1024, 8, 1, [⟨0, 7, .ro, 0⟩, ⟨7, 1, .ro, 0⟩, ⟨8, 1, .rw1c, 0⟩, ⟨9, 1, .rw1c, 0⟩, ⟨16, 11, .ro, 0⟩, ⟨32, 16, .ro, 0⟩]⟩]

/-- Register rows of the host block. -/
def regRows_host : List RegRow := [
  /- WIN_W0 -/ ⟨0x40000, 0x10, 4096, 8, 1, [⟨0, 1, .rw, 0⟩, ⟨1, 1, .rw, 0⟩, ⟨2, 1, .rw, 0⟩, ⟨3, 1, .rw, 0⟩, ⟨4, 2, .rw, 0⟩, ⟨16, 16, .rw, 0⟩]⟩,
  /- WIN_W1 -/ ⟨0x40008, 0x10, 4096, 8, 1, [⟨0, 12, .rw, 0⟩, ⟨12, 28, .rw, 0⟩]⟩,
  /- HE_LINK -/ ⟨0x50000, 8, 1, 8, 1, [⟨0, 4, .ro, 0⟩, ⟨4, 5, .ro, 0⟩, ⟨9, 1, .ro, 0⟩, ⟨10, 1, .ro, 0⟩, ⟨11, 1, .ro, 0⟩, ⟨12, 4, .ro, 0⟩, ⟨16, 5, .ro, 0⟩, ⟨21, 1, .ro, 0⟩, ⟨22, 1, .ro, 0⟩]⟩,
  /- HE_BUF_BASE -/ ⟨0x50008, 8, 1, 8, 1, [⟨0, 40, .ro, 0⟩]⟩,
  /- HE_BUF_LEN -/ ⟨0x50010, 8, 1, 8, 1, [⟨0, 41, .ro, 0x100000000⟩]⟩,
  /- HE_DUMP_BASE -/ ⟨0x50018, 8, 1, 8, 1, [⟨0, 40, .ro, 0⟩]⟩,
  /- HE_DUMP_LEN -/ ⟨0x50020, 8, 1, 8, 1, [⟨0, 32, .ro, 0x11000000⟩]⟩,
  /- HE_WIN_STAT -/ ⟨0x50028, 8, 1, 8, 1, [⟨0, 32, .ro, 0⟩, ⟨32, 16, .ro, 0⟩, ⟨48, 1, .rw1c, 0⟩]⟩,
  /- HE_WIN_LAST -/ ⟨0x50030, 8, 1, 8, 1, [⟨0, 36, .ro, 0⟩, ⟨36, 1, .ro, 0⟩, ⟨37, 1, .ro, 0⟩, ⟨38, 16, .ro, 0⟩]⟩,
  /- HE_LATE -/ ⟨0x50038, 8, 1, 8, 1, [⟨0, 32, .ro, 0⟩, ⟨32, 32, .ro, 0⟩]⟩,
  /- HE_XERR -/ ⟨0x50040, 8, 1, 8, 1, [⟨0, 16, .ro, 0⟩, ⟨16, 16, .ro, 0⟩, ⟨32, 16, .ro, 0⟩, ⟨48, 16, .ro, 0⟩]⟩]

/-- Register rows of the mapCache block. -/
def regRows_mapCache : List RegRow := [
  /- MC_CTL -/ ⟨0x80000, 8, 1, 8, 1, [⟨0, 1, .rws, 0⟩, ⟨1, 1, .rw1c, 0⟩, ⟨2, 2, .ro, 0⟩, ⟨4, 1, .ro, 0⟩, ⟨5, 1, .ro, 0⟩]⟩,
  /- MC_MAINT_BASE -/ ⟨0x80008, 8, 1, 8, 1, [⟨0, 4, .rw, 0⟩, ⟨8, 40, .rw, 0⟩]⟩,
  /- MC_MAINT_LEN -/ ⟨0x80010, 8, 1, 8, 1, [⟨0, 41, .rw, 0⟩]⟩,
  /- MC_MAINT_CMD -/ ⟨0x80018, 8, 1, 8, 1, [⟨0, 3, .wo, 0⟩, ⟨3, 1, .wo, 0⟩, ⟨16, 16, .wo, 0⟩]⟩,
  /- MC_MAINT_STAT -/ ⟨0x80020, 8, 1, 8, 1, [⟨0, 1, .ro, 0⟩, ⟨1, 1, .rw1c, 0⟩, ⟨2, 1, .ro, 0⟩, ⟨4, 3, .ro, 0⟩, ⟨8, 4, .ro, 0⟩, ⟨16, 10, .ro, 0⟩]⟩,
  /- MC_MAINT_POS -/ ⟨0x80028, 8, 1, 8, 1, [⟨0, 40, .ro, 0⟩]⟩,
  /- MC_WAYLOCK -/ ⟨0x80030, 8, 1, 8, 1, [⟨0, 16, .rws, 0⟩]⟩,
  /- MC_WAYPRE -/ ⟨0x80038, 8, 1, 8, 1, [⟨0, 16, .ro, 0⟩]⟩,
  /- MC_WAYDIS -/ ⟨0x80040, 8, 1, 8, 1, [⟨0, 16, .ro, 0⟩, ⟨16, 3, .ro, 0⟩]⟩,
  /- MC_ECC -/ ⟨0x80048, 8, 1, 8, 1, [⟨0, 32, .ro, 0⟩, ⟨32, 16, .ro, 0⟩, ⟨48, 4, .ro, 0⟩]⟩,
  /- MC_HITS -/ ⟨0x80050, 8, 1, 8, 1, [⟨0, 64, .ro, 0⟩]⟩,
  /- MC_MISSES -/ ⟨0x80058, 8, 1, 8, 1, [⟨0, 64, .ro, 0⟩]⟩]

/-- Register rows of the hoop block. -/
def regRows_hoop : List RegRow := [
  /- HOOP_SIZE -/ ⟨0x90000, 8, 1, 8, 1, [⟨0, 7, .ro, 0⟩]⟩,
  /- HOOP_DIRTY_LIMIT -/ ⟨0x90008, 8, 1, 8, 1, [⟨0, 17, .rws, 0x1000⟩, ⟨32, 17, .ro, 0⟩]⟩,
  /- HOOP_STAT -/ ⟨0x90010, 8, 1, 8, 1, [⟨0, 25, .ro, 0⟩, ⟨32, 1, .ro, 0⟩, ⟨33, 1, .ro, 0⟩, ⟨34, 1, .ro, 0⟩, ⟨35, 1, .rw1c, 0⟩, ⟨36, 2, .ro, 0⟩]⟩,
  /- HOOP_AGE -/ ⟨0x90018, 8, 1, 8, 1, [⟨0, 32, .rw, 0x5F5E100⟩]⟩,
  /- HOOP_BANK_WAIT -/ ⟨0x90020, 8, 1, 8, 1, [⟨0, 32, .rw, 0x3B9ACA00⟩]⟩,
  /- CLOG_STAT -/ ⟨0x90028, 8, 1, 8, 1, [⟨0, 13, .ro, 0⟩, ⟨16, 1, .ro, 0⟩, ⟨17, 2, .ro, 0⟩, ⟨19, 1, .ro, 0⟩, ⟨20, 2, .ro, 0⟩]⟩,
  /- CLOG_REPL -/ ⟨0x90030, 8, 1, 8, 1, [⟨0, 16, .ro, 0xFFFF⟩, ⟨16, 16, .ro, 0xFFFF⟩, ⟨32, 16, .ro, 0xFFFF⟩]⟩,
  /- CLOG_SYNC -/ ⟨0x90038, 8, 1, 8, 1, [⟨0, 32, .rw, 0xF4240⟩]⟩,
  /- CLOG_RSEQ -/ ⟨0x90040, 8, 1, 8, 1, [⟨0, 64, .ro, 0⟩]⟩,
  /- DRB_STAT -/ ⟨0x90048, 8, 1, 8, 1, [⟨0, 25, .ro, 0⟩, ⟨32, 1, .ro, 0⟩]⟩,
  /- DRB_RESYNC -/ ⟨0x90050, 8, 1, 8, 1, [⟨0, 25, .ro, 0⟩, ⟨32, 10, .ro, 0⟩]⟩,
  /- DRB_SEL -/ ⟨0x90058, 8, 1, 8, 1, [⟨0, 18, .rw, 0⟩]⟩,
  /- DRB_DATA -/ ⟨0x90060, 8, 1, 8, 1, [⟨0, 64, .ro, 0⟩]⟩,
  /- DRB_ARR -/ ⟨0x90100, 8, 16, 8, 1, [⟨0, 24, .ro, 0⟩, ⟨24, 25, .ro, 0⟩, ⟨49, 4, .ro, 0⟩]⟩]

/-- Register rows of the shuttle block. -/
def regRows_shuttle : List RegRow := [
  /- SHT_CH_SRC -/ ⟨0xA0000, 0x100, 32, 8, 1, [⟨0, 64, .rw, 0⟩]⟩,
  /- SHT_CH_DST -/ ⟨0xA0008, 0x100, 32, 8, 1, [⟨0, 64, .rw, 0⟩]⟩,
  /- SHT_CH_LEN -/ ⟨0xA0010, 0x100, 32, 8, 1, [⟨0, 37, .rw, 0⟩]⟩,
  /- SHT_CH_CFG -/ ⟨0xA0018, 0x100, 32, 8, 1, [⟨0, 2, .rw, 0⟩, ⟨4, 3, .rw, 0⟩, ⟨8, 3, .rw, 0⟩, ⟨16, 1, .rw, 0⟩]⟩,
  /- SHT_CH_PAT -/ ⟨0xA0020, 0x100, 32, 8, 1, [⟨0, 64, .rw, 0⟩]⟩,
  /- SHT_CH_GO -/ ⟨0xA0028, 0x100, 32, 8, 1, [⟨0, 1, .wo, 0⟩]⟩,
  /- SHT_CH_STAT -/ ⟨0xA0030, 0x100, 32, 8, 1, [⟨0, 2, .ro, 0⟩, ⟨2, 1, .ro, 0⟩, ⟨3, 1, .rw1c, 0⟩, ⟨4, 1, .ro, 0⟩, ⟨5, 1, .rw1c, 0⟩, ⟨6, 1, .rw1c, 0⟩, ⟨7, 1, .rw1c, 0⟩, ⟨8, 4, .ro, 0⟩, ⟨12, 2, .ro, 0⟩, ⟨16, 16, .ro, 0⟩]⟩,
  /- SHT_CH_POS -/ ⟨0xA0038, 0x100, 32, 8, 1, [⟨0, 37, .ro, 0⟩]⟩,
  /- SHT_CH_CMP -/ ⟨0xA0040, 0x100, 32, 8, 1, [⟨0, 64, .ro, 0xFFFFFFFFFFFFFFFF⟩]⟩,
  /- SHT_CH_EADDR -/ ⟨0xA0048, 0x100, 32, 8, 1, [⟨0, 64, .ro, 0⟩]⟩,
  /- SHT_CH_ACTCFG -/ ⟨0xA0050, 0x100, 32, 8, 1, [⟨0, 64, .ro, 0⟩]⟩,
  /- SHT_STAT -/ ⟨0xA2000, 8, 1, 8, 1, [⟨0, 1, .rw1c, 0⟩, ⟨1, 5, .ro, 0⟩]⟩,
  /- SHT_DONE -/ ⟨0xA2008, 8, 1, 8, 1, [⟨0, 32, .rw1c, 0⟩, ⟨32, 32, .ro, 0⟩]⟩,
  /- SHT_RETRY -/ ⟨0xA2010, 8, 1, 8, 1, [⟨0, 2, .rw, 3⟩]⟩]

/-- Register rows of the arrays block. -/
def regRows_arrays : List RegRow := [
  /- ARR_STATE -/ ⟨0xC0000, 0x200, 16, 8, 1, [⟨0, 3, .ro, 0⟩, ⟨3, 1, .ro, 0⟩, ⟨4, 3, .ro, 0⟩, ⟨8, 8, .ro, 0⟩, ⟨16, 2, .ro, 0⟩, ⟨24, 8, .ro, 0⟩, ⟨32, 1, .ro, 0⟩, ⟨33, 1, .ro, 0⟩, ⟨34, 1, .rw1c, 0⟩]⟩,
  /- ARR_MBR_SEL -/ ⟨0xC0008, 0x200, 16, 8, 1, [⟨0, 7, .rw, 0⟩, ⟨7, 1, .rw, 0⟩]⟩,
  /- ARR_MBR -/ ⟨0xC0010, 0x200, 16, 8, 1, [⟨0, 16, .ro, 0⟩, ⟨16, 2, .ro, 0⟩, ⟨18, 3, .ro, 0⟩, ⟨32, 32, .ro, 0⟩]⟩,
  /- ARR_RB_CTL -/ ⟨0xC0018, 0x200, 16, 8, 1, [⟨0, 10, .rws, 0x96⟩, ⟨16, 10, .rws, 0x384⟩, ⟨32, 1, .rws, 0⟩]⟩,
  /- ARR_RB_POS -/ ⟨0xC0020, 0x200, 16, 8, 1, [⟨0, 3, .ro, 0⟩, ⟨4, 21, .ro, 0⟩, ⟨32, 24, .ro, 0⟩, ⟨56, 3, .ro, 0⟩]⟩,
  /- ARR_RB_PROG -/ ⟨0xC0028, 0x200, 16, 8, 1, [⟨0, 40, .ro, 0⟩, ⟨40, 10, .ro, 0⟩, ⟨50, 1, .ro, 0⟩, ⟨51, 3, .ro, 0⟩]⟩,
  /- ARR_RB_TOTAL -/ ⟨0xC0030, 0x200, 16, 8, 1, [⟨0, 40, .ro, 0⟩]⟩,
  /- ARR_RB_LEFT1 -/ ⟨0xC0038, 0x200, 16, 8, 1, [⟨0, 40, .ro, 0⟩]⟩,
  /- ARR_RB_LEFT2 -/ ⟨0xC0040, 0x200, 16, 8, 1, [⟨0, 40, .ro, 0⟩]⟩,
  /- ARR_RB_LEFT3 -/ ⟨0xC0048, 0x200, 16, 8, 1, [⟨0, 40, .ro, 0⟩]⟩,
  /- ARR_LOST -/ ⟨0xC0050, 0x200, 16, 8, 1, [⟨0, 32, .ro, 0⟩, ⟨32, 32, .ro, 0⟩]⟩,
  /- ARR_RS -/ ⟨0xC0058, 0x200, 16, 8, 1, [⟨0, 1, .ro, 0⟩, ⟨1, 1, .ro, 0⟩, ⟨2, 3, .ro, 0⟩, ⟨8, 5, .ro, 0⟩, ⟨16, 5, .ro, 0⟩, ⟨24, 1, .rw1c, 0⟩, ⟨25, 1, .rw1c, 0⟩]⟩,
  /- ARR_RS_GEN -/ ⟨0xC0060, 0x200, 16, 8, 1, [⟨0, 32, .ro, 0⟩, ⟨32, 32, .ro, 0⟩]⟩,
  /- ARR_RS_CTL -/ ⟨0xC0068, 0x200, 16, 8, 1, [⟨0, 10, .rws, 0x32⟩, ⟨16, 10, .rws, 0x258⟩, ⟨32, 1, .rws, 0⟩]⟩,
  /- ARR_RS_PROG -/ ⟨0xC0070, 0x200, 16, 8, 1, [⟨0, 40, .ro, 0⟩, ⟨40, 10, .ro, 0⟩]⟩,
  /- ARR_RS_START -/ ⟨0xC0078, 0x200, 16, 8, 1, [⟨0, 40, .ro, 0⟩]⟩,
  /- ARR_RS_BANDS -/ ⟨0xC0080, 0x200, 16, 8, 1, [⟨0, 21, .ro, 0⟩, ⟨32, 21, .ro, 0⟩, ⟨56, 3, .ro, 0⟩]⟩,
  /- ARR_GEOM -/ ⟨0xC0100, 0x200, 16, 8, 1, [⟨0, 2, .ro, 0⟩, ⟨8, 40, .ro, 0⟩]⟩,
  /- ARR_BAND -/ ⟨0xC0108, 0x200, 16, 8, 1, [⟨0, 21, .ro, 0⟩, ⟨32, 24, .ro, 0⟩]⟩,
  /- ARR_FILL -/ ⟨0xC0110, 0x200, 16, 8, 1, [⟨0, 40, .ro, 0⟩, ⟨40, 10, .ro, 0⟩]⟩,
  /- ARR_FG -/ ⟨0xC0118, 0x200, 16, 8, 1, [⟨0, 9, .ro, 0x190⟩, ⟨32, 21, .ro, 0⟩]⟩,
  /- ARR_GC -/ ⟨0xC0120, 0x200, 16, 8, 1, [⟨0, 1, .ro, 0⟩, ⟨1, 1, .ro, 0⟩, ⟨2, 1, .ro, 0⟩, ⟨3, 1, .ro, 0⟩, ⟨11, 21, .ro, 0⟩, ⟨32, 32, .ro, 0⟩]⟩,
  /- ARR_GC_CTL -/ ⟨0xC0128, 0x200, 16, 8, 1, [⟨0, 16, .rw, 0x40⟩, ⟨16, 16, .rw, 0x10⟩]⟩,
  /- ARR_RETIRE -/ ⟨0xC0130, 0x200, 16, 8, 1, [⟨0, 32, .ro, 0⟩, ⟨32, 32, .ro, 0⟩]⟩,
  /- ARR_DLOG -/ ⟨0xC4000, 8, 1, 8, 1, [⟨0, 18, .ro, 0⟩, ⟨32, 1, .ro, 0⟩, ⟨33, 1, .ro, 0⟩]⟩,
  /- ARR_CKPT -/ ⟨0xC4008, 8, 1, 8, 1, [⟨0, 32, .ro, 0⟩]⟩,
  /- ARR_MTMO -/ ⟨0xC4010, 8, 1, 8, 1, [⟨0, 32, .rw, 0x4C4B40⟩, ⟨32, 8, .rw, 8⟩, ⟨40, 8, .rw, 0x3C⟩]⟩,
  /- ARR_LATE -/ ⟨0xC4018, 8, 1, 8, 1, [⟨0, 32, .ro, 0⟩, ⟨32, 15, .ro, 0⟩]⟩,
  /- ARR_LSL_STAT -/ ⟨0xC4020, 8, 1, 8, 1, [⟨0, 17, .ro, 0⟩, ⟨17, 1, .ro, 0⟩]⟩,
  /- ARR_LSL_SEL -/ ⟨0xC4028, 8, 1, 8, 1, [⟨0, 16, .rw, 0⟩, ⟨16, 3, .rw, 0⟩]⟩,
  /- ARR_LSL_DATA -/ ⟨0xC4030, 8, 1, 8, 1, [⟨0, 64, .ro, 0⟩]⟩,
  /- ARR_LGT -/ ⟨0xC4038, 8, 1, 8, 1, [⟨0, 21, .ro, 0⟩, ⟨21, 1, .ro, 0⟩]⟩,
  /- PRK_STAGE -/ ⟨0xC8000, 8, 64, 8, 1, [⟨0, 64, .rw, 0⟩]⟩,
  /- PRK_CMD -/ ⟨0xC8200, 8, 1, 8, 1, [⟨0, 4, .wo, 0⟩, ⟨8, 5, .wo, 0⟩]⟩,
  /- PRK_STAT -/ ⟨0xC8208, 8, 1, 8, 1, [⟨0, 16, .ro, 0⟩, ⟨16, 1, .ro, 0⟩, ⟨17, 1, .rw1c, 0⟩, ⟨20, 4, .ro, 0⟩, ⟨24, 5, .ro, 0⟩]⟩,
  /- PRK_SLOTS0 -/ ⟨0xC8210, 8, 1, 8, 1, [⟨0, 64, .ro, 0⟩]⟩,
  /- PRK_SLOTS1 -/ ⟨0xC8218, 8, 1, 8, 1, [⟨0, 64, .ro, 0⟩]⟩,
  /- PRK_IMAGE -/ ⟨0xD0000, 0x200, 32, 8, 64, [⟨0, 64, .ro, 0⟩]⟩]

/-- Register rows of the doorbells block. -/
def regRows_doorbells : List RegRow := [
  /- SQ_DB -/ ⟨0x100000, 0x10, 1024, 8, 1, [⟨0, 17, .wo, 0⟩]⟩,
  /- CQ_DB -/ ⟨0x100008, 0x10, 1024, 8, 1, [⟨0, 17, .wo, 0⟩]⟩]

/-- Register rows of the bobbin block. -/
def regRows_bobbin : List RegRow := [
  /- BP_CTL -/ ⟨0x200000, 0x1000, 32, 8, 1, [⟨0, 1, .rw, 1⟩, ⟨1, 1, .wo, 0⟩]⟩,
  /- BP_LINK -/ ⟨0x200008, 0x1000, 32, 8, 1, [⟨0, 2, .ro, 0⟩, ⟨2, 1, .ro, 0⟩, ⟨3, 1, .ro, 0⟩, ⟨4, 3, .ro, 0⟩, ⟨16, 16, .ro, 0⟩]⟩,
  /- BP_FEC -/ ⟨0x200010, 0x1000, 32, 8, 1, [⟨0, 32, .ro, 0⟩, ⟨32, 32, .ro, 0⟩]⟩,
  /- BP_ERR -/ ⟨0x200018, 0x1000, 32, 8, 1, [⟨0, 32, .ro, 0⟩, ⟨32, 16, .ro, 0⟩, ⟨48, 8, .ro, 0⟩]⟩,
  /- BP_TAGS -/ ⟨0x200020, 0x1000, 32, 8, 1, [⟨0, 10, .ro, 0⟩, ⟨16, 10, .ro, 0⟩]⟩,
  /- BP_HOP_STAT -/ ⟨0x200100, 0x1000, 32, 0x40, 4, [⟨0, 3, .ro, 0⟩, ⟨3, 1, .ro, 0⟩, ⟨4, 1, .ro, 0⟩, ⟨5, 1, .ro, 0⟩, ⟨6, 1, .ro, 0⟩, ⟨7, 1, .ro, 0⟩, ⟨8, 2, .ro, 0⟩, ⟨10, 1, .rw1c, 0⟩, ⟨11, 1, .rw1c, 0⟩, ⟨16, 16, .ro, 0xFFFF⟩]⟩,
  /- BP_HOP_CTL -/ ⟨0x200108, 0x1000, 32, 0x40, 4, [⟨0, 1, .rw, 0⟩, ⟨1, 1, .rw, 0⟩, ⟨2, 1, .rw1c, 0⟩]⟩,
  /- BP_HOP_CMD -/ ⟨0x200110, 0x1000, 32, 0x40, 4, [⟨0, 2, .wo, 0⟩]⟩,
  /- BP_HOP_UID0 -/ ⟨0x200118, 0x1000, 32, 0x40, 4, [⟨0, 64, .ro, 0⟩]⟩,
  /- BP_HOP_UID1 -/ ⟨0x200120, 0x1000, 32, 0x40, 4, [⟨0, 64, .ro, 0⟩]⟩,
  /- BP_HOP_GEOM -/ ⟨0x200128, 0x1000, 32, 0x40, 4, [⟨0, 24, .ro, 0⟩, ⟨24, 3, .ro, 0⟩, ⟨28, 4, .ro, 0⟩, ⟨32, 16, .ro, 0⟩]⟩,
  /- BAY_CTL -/ ⟨0x220000, 8, 1, 8, 1, [⟨0, 6, .rws, 0x10⟩]⟩,
  /- BAY_STAT -/ ⟨0x220008, 8, 1, 8, 1, [⟨0, 32, .ro, 0⟩, ⟨32, 32, .ro, 0⟩]⟩]

/-- Register rows of the bride block. -/
def regRows_bride : List RegRow := [
  /- PAIR_CTL -/ ⟨0x400000, 8, 1, 8, 1, [⟨0, 1, .ro, 0⟩, ⟨1, 1, .ro, 0⟩, ⟨2, 1, .ro, 0⟩, ⟨8, 1, .rws, 1⟩]⟩,
  /- PAIR_STAT -/ ⟨0x400008, 8, 1, 8, 1, [⟨0, 3, .ro, 0⟩, ⟨3, 1, .ro, 0⟩, ⟨4, 1, .ro, 0⟩, ⟨5, 1, .ro, 0⟩, ⟨6, 1, .ro, 0⟩, ⟨7, 1, .ro, 0⟩, ⟨8, 1, .ro, 0⟩, ⟨9, 1, .rw1c, 0⟩, ⟨16, 16, .ro, 0⟩]⟩,
  /- PAIR_CLAIM -/ ⟨0x400010, 8, 1, 8, 1, [⟨0, 32, .ro, 0⟩, ⟨32, 16, .ro, 0⟩]⟩,
  /- PAIR_LINK -/ ⟨0x400018, 8, 1, 8, 1, [⟨0, 2, .ro, 0⟩, ⟨16, 16, .ro, 0⟩, ⟨32, 32, .ro, 0⟩]⟩,
  /- PAIR_SYNC -/ ⟨0x400020, 8, 1, 8, 1, [⟨0, 3, .ro, 0⟩, ⟨4, 10, .ro, 0⟩, ⟨16, 16, .ro, 0⟩]⟩,
  /- PAIR_ID0 -/ ⟨0x400028, 8, 1, 8, 1, [⟨0, 64, .ro, 0⟩]⟩,
  /- PAIR_ID1 -/ ⟨0x400030, 8, 1, 8, 1, [⟨0, 64, .ro, 0⟩]⟩,
  /- PAIR_TMO -/ ⟨0x400038, 8, 1, 8, 1, [⟨0, 32, .rws, 0x7A120⟩]⟩,
  /- WIT_CFG -/ ⟨0x400100, 8, 1, 8, 1, [⟨0, 2, .rws, 0⟩]⟩,
  /- WIT_STAT -/ ⟨0x400108, 8, 1, 8, 1, [⟨0, 8, .ro, 0⟩, ⟨8, 2, .ro, 0⟩, ⟨16, 16, .ro, 0⟩]⟩,
  /- WIT_PAIR -/ ⟨0x400140, 8, 4, 8, 1, [⟨0, 32, .ro, 0⟩, ⟨32, 2, .ro, 3⟩, ⟨34, 1, .ro, 0⟩, ⟨35, 1, .ro, 0⟩]⟩,
  /- FED_STAT -/ ⟨0x480000, 8, 1, 8, 1, [⟨0, 3, .ro, 0⟩, ⟨3, 3, .ro, 0⟩, ⟨6, 1, .ro, 0⟩, ⟨7, 1, .ro, 0⟩, ⟨8, 8, .ro, 0⟩, ⟨16, 1, .rw1c, 0⟩, ⟨32, 32, .ro, 0⟩]⟩,
  /- FED_LINK -/ ⟨0x480008, 8, 1, 8, 1, [⟨0, 8, .ro, 0⟩, ⟨8, 8, .ro, 0⟩]⟩,
  /- FED_TOFF -/ ⟨0x480010, 8, 1, 8, 1, [⟨0, 64, .ro, 0⟩]⟩,
  /- FED_SPAN -/ ⟨0x480100, 8, 16, 8, 1, [⟨0, 8, .rw, 0⟩]⟩]

/-- Register rows of the service block. -/
def regRows_service : List RegRow := [
  /- PWR_VIN -/ ⟨0x500000, 8, 1, 8, 1, [⟨0, 16, .ro, 0⟩, ⟨16, 16, .ro, 0⟩, ⟨32, 16, .ro, 0⟩]⟩,
  /- PWR_PF -/ ⟨0x500008, 8, 1, 8, 1, [⟨0, 10, .rws, 0x352⟩, ⟨16, 16, .ro, 0⟩, ⟨32, 16, .ro, 0⟩, ⟨48, 1, .ro, 0⟩, ⟨49, 1, .ro, 0⟩]⟩,
  /- PWR_LOG -/ ⟨0x500010, 8, 1, 8, 1, [⟨0, 32, .ro, 0⟩, ⟨32, 10, .ro, 0⟩, ⟨42, 2, .ro, 0⟩, ⟨44, 1, .ro, 0⟩]⟩,
  /- HU_CTL -/ ⟨0x500040, 8, 1, 8, 1, [⟨0, 10, .rws, 0x1E0⟩, ⟨16, 10, .rws, 0x1F4⟩, ⟨32, 1, .wo, 0⟩]⟩,
  /- HU_STAT -/ ⟨0x500048, 8, 1, 8, 1, [⟨0, 10, .ro, 0⟩, ⟨10, 1, .ro, 0⟩, ⟨11, 1, .ro, 0⟩, ⟨12, 1, .ro, 0⟩, ⟨13, 1, .ro, 0⟩, ⟨14, 1, .rw1c, 0⟩, ⟨16, 3, .ro, 2⟩]⟩,
  /- HU_CAP -/ ⟨0x500050, 8, 1, 8, 1, [⟨0, 16, .ro, 0⟩, ⟨16, 16, .ro, 0⟩, ⟨32, 32, .ro, 0⟩]⟩,
  /- TEMP_STAT -/ ⟨0x500080, 8, 1, 8, 1, [⟨0, 8, .ro, 0⟩, ⟨8, 5, .ro, 0⟩, ⟨16, 8, .ro, 0⟩, ⟨24, 2, .ro, 0⟩, ⟨26, 1, .rw1c, 0⟩]⟩,
  /- TEMP_SEL -/ ⟨0x500088, 8, 1, 8, 1, [⟨0, 5, .rw, 0⟩]⟩,
  /- TEMP_DATA -/ ⟨0x500090, 8, 1, 8, 1, [⟨0, 8, .ro, 0⟩, ⟨8, 8, .ro, 0⟩, ⟨16, 8, .ro, 0⟩]⟩,
  /- HLTH_STAT -/ ⟨0x580000, 8, 1, 8, 1, [⟨0, 32, .ro, 0⟩, ⟨32, 1, .ro, 0⟩]⟩,
  /- HLTH_EVT -/ ⟨0x580008, 8, 1, 8, 1, [⟨0, 1, .rw1c, 0⟩, ⟨1, 1, .rw1c, 0⟩, ⟨8, 8, .ro, 0⟩]⟩,
  /- HLTH_THR -/ ⟨0x580010, 8, 1, 8, 1, [⟨0, 10, .rws, 0x64⟩, ⟨16, 10, .rws, 0x384⟩]⟩,
  /- HLTH_CTL -/ ⟨0x580018, 8, 1, 8, 1, [⟨0, 1, .rw, 0⟩]⟩,
  /- HLTH_SEL -/ ⟨0x580020, 8, 1, 8, 1, [⟨0, 12, .rw, 0⟩]⟩,
  /- HLTH_DATA -/ ⟨0x580028, 8, 1, 8, 1, [⟨0, 64, .ro, 0⟩]⟩,
  /- HLTH_DMP_STAT -/ ⟨0x580030, 8, 1, 8, 1, [⟨0, 2, .ro, 0⟩, ⟨2, 1, .ro, 0⟩, ⟨32, 32, .ro, 0⟩]⟩,
  /- HLTH_DMP_VADDR -/ ⟨0x580038, 8, 1, 8, 1, [⟨0, 38, .ro, 0⟩, ⟨38, 1, .ro, 0⟩]⟩,
  /- ELOG_STAT -/ ⟨0x580100, 8, 1, 8, 1, [⟨0, 13, .ro, 0⟩, ⟨13, 1, .ro, 0⟩, ⟨14, 1, .rw1c, 0⟩, ⟨32, 32, .ro, 0⟩]⟩,
  /- ELOG_SEL -/ ⟨0x580108, 8, 1, 8, 1, [⟨0, 12, .rw, 0⟩, ⟨12, 3, .rw, 0⟩]⟩,
  /- ELOG_DATA -/ ⟨0x580110, 8, 1, 8, 1, [⟨0, 64, .ro, 0⟩]⟩,
  /- ELOG_AON -/ ⟨0x580118, 8, 1, 8, 1, [⟨0, 9, .ro, 0⟩, ⟨9, 1, .ro, 0⟩]⟩]

/-- Register rows of the clusters block. -/
def regRows_clusters : List RegRow := [
  /- SE_STAT -/ ⟨0x600000, 0x40000, 8, 8, 1, [⟨0, 4, .ro, 8⟩, ⟨8, 8, .ro, 0⟩, ⟨16, 11, .ro, 0x400⟩, ⟨32, 17, .ro, 0x10000⟩]⟩,
  /- SE_CLK -/ ⟨0x600100, 0x40000, 8, 8, 1, [⟨0, 3, .rw, 7⟩, ⟨8, 3, .ro, 7⟩, ⟨16, 1, .ro, 0⟩, ⟨17, 3, .ro, 7⟩]⟩,
  /- SE_WAITLIM -/ ⟨0x600108, 0x40000, 8, 8, 1, [⟨0, 32, .rw, 0x989680⟩]⟩,
  /- SE_FLT_STAT -/ ⟨0x600200, 0x40000, 8, 8, 1, [⟨0, 32, .ro, 0⟩, ⟨32, 8, .ro, 0⟩, ⟨40, 1, .ro, 0⟩]⟩,
  /- SE_FLT_SEL -/ ⟨0x600208, 0x40000, 8, 8, 1, [⟨0, 8, .rw, 0⟩, ⟨8, 2, .rw, 0⟩]⟩,
  /- SE_FLT_DATA -/ ⟨0x600210, 0x40000, 8, 8, 1, [⟨0, 64, .ro, 0⟩]⟩,
  /- SE_THR -/ ⟨0x601000, 0x40000, 8, 8, 128, [⟨0, 2, .ro, 0⟩, ⟨2, 1, .ro, 0⟩, ⟨4, 12, .ro, 0⟩, ⟨16, 16, .ro, 0⟩, ⟨32, 11, .ro, 0⟩]⟩,
  /- SE_PTAB -/ ⟨0x610000, 0x40000, 8, 8, 4096, [⟨0, 64, .ro, 0⟩]⟩]

/-- Every register of BAR0 (R457 to R469). -/
def regRows : List RegRow :=
  regRows_global ++ regRows_rings ++ regRows_host ++ regRows_mapCache ++ regRows_hoop ++ regRows_shuttle ++ regRows_arrays ++ regRows_doorbells ++ regRows_bobbin ++ regRows_bride ++ regRows_service ++ regRows_clusters

def R.DEV_ID : Nat := 0
def R.DEV_CAP0 : Nat := 8
def R.DEV_CAP1 : Nat := 0x10
def R.DEV_MODE : Nat := 0x18
def R.DEV_STATUS : Nat := 0x20
def R.DEV_HALT_CAUSE : Nat := 0x28
def R.DEV_HALT_DETAIL : Nat := 0x30
def R.DEV_LOCK : Nat := 0x38
def R.DEV_TBASE : Nat := 0x40
def R.DEV_EVT : Nat := 0x48
def R.DEV_POLICY : Nat := 0x50
def R.DEV_BOOT_STAT : Nat := 0x200
def R.DEV_BOOT_CTL : Nat := 0x208
def R.DEV_LEDGER_SEL : Nat := 0x210
def R.DEV_LEDGER_DATA : Nat := 0x218
def R.DEV_MEAS_STAT : Nat := 0x220
def R.DEV_MEAS_SEL : Nat := 0x228
def R.DEV_MEAS_DATA : Nat := 0x230
def R.DEV_FW : Nat := 0x238
def R.SQ_BASE (r : Nat) : Nat := 0x10000 + 0x40 * r
def R.SQ_CTL (r : Nat) : Nat := 0x10008 + 0x40 * r
def R.SQ_IDX (r : Nat) : Nat := 0x10010 + 0x40 * r
def R.SQ_STAT (r : Nat) : Nat := 0x10018 + 0x40 * r
def R.SQ_HR0_BASE (r : Nat) : Nat := 0x10020 + 0x40 * r
def R.SQ_HR0_LIMIT (r : Nat) : Nat := 0x10028 + 0x40 * r
def R.SQ_HR1_BASE (r : Nat) : Nat := 0x10030 + 0x40 * r
def R.SQ_HR1_LIMIT (r : Nat) : Nat := 0x10038 + 0x40 * r
def R.CQ_BASE (r : Nat) : Nat := 0x20000 + 0x40 * r
def R.CQ_CTL (r : Nat) : Nat := 0x20008 + 0x40 * r
def R.CQ_IDX (r : Nat) : Nat := 0x20010 + 0x40 * r
def R.CQ_STAT (r : Nat) : Nat := 0x20018 + 0x40 * r
def R.WIN_W0 (w : Nat) : Nat := 0x40000 + 0x10 * w
def R.WIN_W1 (w : Nat) : Nat := 0x40008 + 0x10 * w
def R.HE_LINK : Nat := 0x50000
def R.HE_BUF_BASE : Nat := 0x50008
def R.HE_BUF_LEN : Nat := 0x50010
def R.HE_DUMP_BASE : Nat := 0x50018
def R.HE_DUMP_LEN : Nat := 0x50020
def R.HE_WIN_STAT : Nat := 0x50028
def R.HE_WIN_LAST : Nat := 0x50030
def R.HE_LATE : Nat := 0x50038
def R.HE_XERR : Nat := 0x50040
def R.MC_CTL : Nat := 0x80000
def R.MC_MAINT_BASE : Nat := 0x80008
def R.MC_MAINT_LEN : Nat := 0x80010
def R.MC_MAINT_CMD : Nat := 0x80018
def R.MC_MAINT_STAT : Nat := 0x80020
def R.MC_MAINT_POS : Nat := 0x80028
def R.MC_WAYLOCK : Nat := 0x80030
def R.MC_WAYPRE : Nat := 0x80038
def R.MC_WAYDIS : Nat := 0x80040
def R.MC_ECC : Nat := 0x80048
def R.MC_HITS : Nat := 0x80050
def R.MC_MISSES : Nat := 0x80058
def R.HOOP_SIZE : Nat := 0x90000
def R.HOOP_DIRTY_LIMIT : Nat := 0x90008
def R.HOOP_STAT : Nat := 0x90010
def R.HOOP_AGE : Nat := 0x90018
def R.HOOP_BANK_WAIT : Nat := 0x90020
def R.CLOG_STAT : Nat := 0x90028
def R.CLOG_REPL : Nat := 0x90030
def R.CLOG_SYNC : Nat := 0x90038
def R.CLOG_RSEQ : Nat := 0x90040
def R.DRB_STAT : Nat := 0x90048
def R.DRB_RESYNC : Nat := 0x90050
def R.DRB_SEL : Nat := 0x90058
def R.DRB_DATA : Nat := 0x90060
def R.DRB_ARR (A : Nat) : Nat := 0x90100 + 8 * A
def R.SHT_CH_SRC (n : Nat) : Nat := 0xA0000 + 0x100 * n
def R.SHT_CH_DST (n : Nat) : Nat := 0xA0008 + 0x100 * n
def R.SHT_CH_LEN (n : Nat) : Nat := 0xA0010 + 0x100 * n
def R.SHT_CH_CFG (n : Nat) : Nat := 0xA0018 + 0x100 * n
def R.SHT_CH_PAT (n : Nat) : Nat := 0xA0020 + 0x100 * n
def R.SHT_CH_GO (n : Nat) : Nat := 0xA0028 + 0x100 * n
def R.SHT_CH_STAT (n : Nat) : Nat := 0xA0030 + 0x100 * n
def R.SHT_CH_POS (n : Nat) : Nat := 0xA0038 + 0x100 * n
def R.SHT_CH_CMP (n : Nat) : Nat := 0xA0040 + 0x100 * n
def R.SHT_CH_EADDR (n : Nat) : Nat := 0xA0048 + 0x100 * n
def R.SHT_CH_ACTCFG (n : Nat) : Nat := 0xA0050 + 0x100 * n
def R.SHT_STAT : Nat := 0xA2000
def R.SHT_DONE : Nat := 0xA2008
def R.SHT_RETRY : Nat := 0xA2010
def R.ARR_STATE (A : Nat) : Nat := 0xC0000 + 0x200 * A
def R.ARR_MBR_SEL (A : Nat) : Nat := 0xC0008 + 0x200 * A
def R.ARR_MBR (A : Nat) : Nat := 0xC0010 + 0x200 * A
def R.ARR_RB_CTL (A : Nat) : Nat := 0xC0018 + 0x200 * A
def R.ARR_RB_POS (A : Nat) : Nat := 0xC0020 + 0x200 * A
def R.ARR_RB_PROG (A : Nat) : Nat := 0xC0028 + 0x200 * A
def R.ARR_RB_TOTAL (A : Nat) : Nat := 0xC0030 + 0x200 * A
def R.ARR_RB_LEFT1 (A : Nat) : Nat := 0xC0038 + 0x200 * A
def R.ARR_RB_LEFT2 (A : Nat) : Nat := 0xC0040 + 0x200 * A
def R.ARR_RB_LEFT3 (A : Nat) : Nat := 0xC0048 + 0x200 * A
def R.ARR_LOST (A : Nat) : Nat := 0xC0050 + 0x200 * A
def R.ARR_RS (A : Nat) : Nat := 0xC0058 + 0x200 * A
def R.ARR_RS_GEN (A : Nat) : Nat := 0xC0060 + 0x200 * A
def R.ARR_RS_CTL (A : Nat) : Nat := 0xC0068 + 0x200 * A
def R.ARR_RS_PROG (A : Nat) : Nat := 0xC0070 + 0x200 * A
def R.ARR_RS_START (A : Nat) : Nat := 0xC0078 + 0x200 * A
def R.ARR_RS_BANDS (A : Nat) : Nat := 0xC0080 + 0x200 * A
def R.ARR_GEOM (A : Nat) : Nat := 0xC0100 + 0x200 * A
def R.ARR_BAND (A : Nat) : Nat := 0xC0108 + 0x200 * A
def R.ARR_FILL (A : Nat) : Nat := 0xC0110 + 0x200 * A
def R.ARR_FG (A : Nat) : Nat := 0xC0118 + 0x200 * A
def R.ARR_GC (A : Nat) : Nat := 0xC0120 + 0x200 * A
def R.ARR_GC_CTL (A : Nat) : Nat := 0xC0128 + 0x200 * A
def R.ARR_RETIRE (A : Nat) : Nat := 0xC0130 + 0x200 * A
def R.ARR_DLOG : Nat := 0xC4000
def R.ARR_CKPT : Nat := 0xC4008
def R.ARR_MTMO : Nat := 0xC4010
def R.ARR_LATE : Nat := 0xC4018
def R.ARR_LSL_STAT : Nat := 0xC4020
def R.ARR_LSL_SEL : Nat := 0xC4028
def R.ARR_LSL_DATA : Nat := 0xC4030
def R.ARR_LGT : Nat := 0xC4038
def R.PRK_STAGE (j : Nat) : Nat := 0xC8000 + 8 * j
def R.PRK_CMD : Nat := 0xC8200
def R.PRK_STAT : Nat := 0xC8208
def R.PRK_SLOTS0 : Nat := 0xC8210
def R.PRK_SLOTS1 : Nat := 0xC8218
def R.PRK_IMAGE (slot : Nat) (j : Nat) : Nat := 0xD0000 + 0x200 * slot + 8 * j
def R.SQ_DB (r : Nat) : Nat := 0x100000 + 0x10 * r
def R.CQ_DB (r : Nat) : Nat := 0x100008 + 0x10 * r
def R.BP_CTL (p : Nat) : Nat := 0x200000 + 0x1000 * p
def R.BP_LINK (p : Nat) : Nat := 0x200008 + 0x1000 * p
def R.BP_FEC (p : Nat) : Nat := 0x200010 + 0x1000 * p
def R.BP_ERR (p : Nat) : Nat := 0x200018 + 0x1000 * p
def R.BP_TAGS (p : Nat) : Nat := 0x200020 + 0x1000 * p
def R.BP_HOP_STAT (p : Nat) (h : Nat) : Nat := 0x200100 + 0x1000 * p + 0x40 * h
def R.BP_HOP_CTL (p : Nat) (h : Nat) : Nat := 0x200108 + 0x1000 * p + 0x40 * h
def R.BP_HOP_CMD (p : Nat) (h : Nat) : Nat := 0x200110 + 0x1000 * p + 0x40 * h
def R.BP_HOP_UID0 (p : Nat) (h : Nat) : Nat := 0x200118 + 0x1000 * p + 0x40 * h
def R.BP_HOP_UID1 (p : Nat) (h : Nat) : Nat := 0x200120 + 0x1000 * p + 0x40 * h
def R.BP_HOP_GEOM (p : Nat) (h : Nat) : Nat := 0x200128 + 0x1000 * p + 0x40 * h
def R.BAY_CTL : Nat := 0x220000
def R.BAY_STAT : Nat := 0x220008
def R.PAIR_CTL : Nat := 0x400000
def R.PAIR_STAT : Nat := 0x400008
def R.PAIR_CLAIM : Nat := 0x400010
def R.PAIR_LINK : Nat := 0x400018
def R.PAIR_SYNC : Nat := 0x400020
def R.PAIR_ID0 : Nat := 0x400028
def R.PAIR_ID1 : Nat := 0x400030
def R.PAIR_TMO : Nat := 0x400038
def R.WIT_CFG : Nat := 0x400100
def R.WIT_STAT : Nat := 0x400108
def R.WIT_PAIR (q : Nat) : Nat := 0x400140 + 8 * q
def R.FED_STAT : Nat := 0x480000
def R.FED_LINK : Nat := 0x480008
def R.FED_TOFF : Nat := 0x480010
def R.FED_SPAN (A : Nat) : Nat := 0x480100 + 8 * A
def R.PWR_VIN : Nat := 0x500000
def R.PWR_PF : Nat := 0x500008
def R.PWR_LOG : Nat := 0x500010
def R.HU_CTL : Nat := 0x500040
def R.HU_STAT : Nat := 0x500048
def R.HU_CAP : Nat := 0x500050
def R.TEMP_STAT : Nat := 0x500080
def R.TEMP_SEL : Nat := 0x500088
def R.TEMP_DATA : Nat := 0x500090
def R.HLTH_STAT : Nat := 0x580000
def R.HLTH_EVT : Nat := 0x580008
def R.HLTH_THR : Nat := 0x580010
def R.HLTH_CTL : Nat := 0x580018
def R.HLTH_SEL : Nat := 0x580020
def R.HLTH_DATA : Nat := 0x580028
def R.HLTH_DMP_STAT : Nat := 0x580030
def R.HLTH_DMP_VADDR : Nat := 0x580038
def R.ELOG_STAT : Nat := 0x580100
def R.ELOG_SEL : Nat := 0x580108
def R.ELOG_DATA : Nat := 0x580110
def R.ELOG_AON : Nat := 0x580118
def R.SE_STAT (c : Nat) : Nat := 0x600000 + 0x40000 * c
def R.SE_CLK (c : Nat) : Nat := 0x600100 + 0x40000 * c
def R.SE_WAITLIM (c : Nat) : Nat := 0x600108 + 0x40000 * c
def R.SE_FLT_STAT (c : Nat) : Nat := 0x600200 + 0x40000 * c
def R.SE_FLT_SEL (c : Nat) : Nat := 0x600208 + 0x40000 * c
def R.SE_FLT_DATA (c : Nat) : Nat := 0x600210 + 0x40000 * c
def R.SE_THR (c : Nat) (t : Nat) : Nat := 0x601000 + 0x40000 * c + 8 * t
def R.SE_PTAB (c : Nat) (i : Nat) : Nat := 0x610000 + 0x40000 * c + 8 * i

def F.DEV_ID_PART : Field := ⟨R.DEV_ID, 0, 16⟩
def F.DEV_ID_STEP : Field := ⟨R.DEV_ID, 16, 8⟩
def F.DEV_CAP0_VARIANT : Field := ⟨R.DEV_CAP0, 0, 4⟩
def F.DEV_CAP0_BP_COUNT : Field := ⟨R.DEV_CAP0, 8, 6⟩
def F.DEV_CAP0_CL_COUNT : Field := ⟨R.DEV_CAP0, 16, 4⟩
def F.DEV_CAP0_BR_COUNT : Field := ⟨R.DEV_CAP0, 20, 3⟩
def F.DEV_CAP0_PAIR : Field := ⟨R.DEV_CAP0, 24, 1⟩
def F.DEV_CAP0_FED : Field := ⟨R.DEV_CAP0, 25, 1⟩
def F.DEV_CAP0_NET : Field := ⟨R.DEV_CAP0, 26, 1⟩
def F.DEV_CAP0_VAULT_16G : Field := ⟨R.DEV_CAP0, 32, 8⟩
def F.DEV_CAP1_BP_AVAIL : Field := ⟨R.DEV_CAP1, 0, 32⟩
def F.DEV_CAP1_CL_AVAIL : Field := ⟨R.DEV_CAP1, 32, 8⟩
def F.DEV_CAP1_BR_AVAIL : Field := ⟨R.DEV_CAP1, 40, 4⟩
def F.DEV_MODE_CUR : Field := ⟨R.DEV_MODE, 0, 3⟩
def F.DEV_MODE_BUSY : Field := ⟨R.DEV_MODE, 3, 1⟩
def F.DEV_MODE_TGT : Field := ⟨R.DEV_MODE, 4, 3⟩
def F.DEV_MODE_GO : Field := ⟨R.DEV_MODE, 7, 1⟩
def F.DEV_MODE_REQ : Field := ⟨R.DEV_MODE, 12, 3⟩
def F.DEV_MODE_REQ_ERR : Field := ⟨R.DEV_MODE, 15, 1⟩
def F.DEV_MODE_CAUSE : Field := ⟨R.DEV_MODE, 16, 8⟩
def F.DEV_STATUS_ARR_EXIST : Field := ⟨R.DEV_STATUS, 0, 16⟩
def F.DEV_STATUS_ARR_NOPT : Field := ⟨R.DEV_STATUS, 16, 16⟩
def F.DEV_STATUS_BANK_OK : Field := ⟨R.DEV_STATUS, 32, 1⟩
def F.DEV_STATUS_HALTED : Field := ⟨R.DEV_STATUS, 33, 1⟩
def F.DEV_STATUS_LOCKED : Field := ⟨R.DEV_STATUS, 34, 1⟩
def F.DEV_STATUS_DUMP : Field := ⟨R.DEV_STATUS, 35, 1⟩
def F.DEV_HALT_CAUSE_KIND : Field := ⟨R.DEV_HALT_CAUSE, 0, 8⟩
def F.DEV_HALT_CAUSE_MCODE : Field := ⟨R.DEV_HALT_CAUSE, 8, 4⟩
def F.DEV_HALT_CAUSE_CQ : Field := ⟨R.DEV_HALT_CAUSE, 12, 1⟩
def F.DEV_HALT_CAUSE_RING : Field := ⟨R.DEV_HALT_CAUSE, 13, 10⟩
def F.DEV_HALT_CAUSE_INDEX : Field := ⟨R.DEV_HALT_CAUSE, 23, 17⟩
def F.DEV_HALT_CAUSE_UNIT : Field := ⟨R.DEV_HALT_CAUSE, 40, 8⟩
def F.DEV_HALT_DETAIL_DETAIL : Field := ⟨R.DEV_HALT_DETAIL, 0, 32⟩
def F.DEV_HALT_DETAIL_TIME : Field := ⟨R.DEV_HALT_DETAIL, 32, 32⟩
def F.DEV_LOCK_LOCK : Field := ⟨R.DEV_LOCK, 0, 1⟩
def F.DEV_TBASE_COUNT : Field := ⟨R.DEV_TBASE, 0, 64⟩
def F.DEV_EVT_EVT : Field := ⟨R.DEV_EVT, 0, 64⟩
def F.DEV_POLICY_FW_WRITE_DIS : Field := ⟨R.DEV_POLICY, 0, 1⟩
def F.DEV_POLICY_RETRY_DIS : Field := ⟨R.DEV_POLICY, 1, 1⟩
def F.DEV_BOOT_STAT_BOOTNO : Field := ⟨R.DEV_BOOT_STAT, 0, 32⟩
def F.DEV_BOOT_STAT_ALTS : Field := ⟨R.DEV_BOOT_STAT, 32, 9⟩
def F.DEV_BOOT_STAT_LASTSTEP : Field := ⟨R.DEV_BOOT_STAT, 41, 4⟩
def F.DEV_BOOT_STAT_IMAGE : Field := ⟨R.DEV_BOOT_STAT, 45, 1⟩
def F.DEV_BOOT_CTL_RETRY : Field := ⟨R.DEV_BOOT_CTL, 0, 1⟩
def F.DEV_LEDGER_SEL_RECORD : Field := ⟨R.DEV_LEDGER_SEL, 0, 12⟩
def F.DEV_LEDGER_SEL_WORD : Field := ⟨R.DEV_LEDGER_SEL, 12, 2⟩
def F.DEV_LEDGER_DATA_DATA : Field := ⟨R.DEV_LEDGER_DATA, 0, 64⟩
def F.DEV_MEAS_STAT_ENTRIES : Field := ⟨R.DEV_MEAS_STAT, 0, 11⟩
def F.DEV_MEAS_STAT_FULL : Field := ⟨R.DEV_MEAS_STAT, 11, 1⟩
def F.DEV_MEAS_SEL_ENTRY : Field := ⟨R.DEV_MEAS_SEL, 0, 10⟩
def F.DEV_MEAS_SEL_WORD : Field := ⟨R.DEV_MEAS_SEL, 10, 4⟩
def F.DEV_MEAS_SEL_SLOT : Field := ⟨R.DEV_MEAS_SEL, 14, 1⟩
def F.DEV_MEAS_DATA_DATA : Field := ⟨R.DEV_MEAS_DATA, 0, 64⟩
def F.DEV_FW_OP : Field := ⟨R.DEV_FW, 0, 2⟩
def F.DEV_FW_PREF : Field := ⟨R.DEV_FW, 2, 1⟩
def F.DEV_FW_BUSY : Field := ⟨R.DEV_FW, 3, 1⟩
def F.DEV_FW_ERR : Field := ⟨R.DEV_FW, 4, 1⟩
def F.DEV_FW_LEN_4K : Field := ⟨R.DEV_FW, 5, 13⟩
def F.DEV_FW_ADDR : Field := ⟨R.DEV_FW, 24, 28⟩
def F.SQ_BASE_ADDR (r : Nat) : Field := ⟨R.SQ_BASE r, 12, 52⟩
def F.SQ_CTL_EN (r : Nat) : Field := ⟨R.SQ_CTL r, 0, 1⟩
def F.SQ_CTL_SIZE_LOG2 (r : Nat) : Field := ⟨R.SQ_CTL r, 1, 5⟩
def F.SQ_CTL_CQ (r : Nat) : Field := ⟨R.SQ_CTL r, 6, 10⟩
def F.SQ_CTL_CLUSTER (r : Nat) : Field := ⟨R.SQ_CTL r, 16, 3⟩
def F.SQ_CTL_ATS (r : Nat) : Field := ⟨R.SQ_CTL r, 19, 1⟩
def F.SQ_CTL_ANYHOST (r : Nat) : Field := ⟨R.SQ_CTL r, 20, 1⟩
def F.SQ_CTL_PERM (r : Nat) : Field := ⟨R.SQ_CTL r, 21, 5⟩
def F.SQ_IDX_DEVIDX (r : Nat) : Field := ⟨R.SQ_IDX r, 0, 17⟩
def F.SQ_IDX_HOSTIDX (r : Nat) : Field := ⟨R.SQ_IDX r, 32, 17⟩
def F.SQ_STAT_DRAINING (r : Nat) : Field := ⟨R.SQ_STAT r, 0, 1⟩
def F.SQ_STAT_FETCH_STOP (r : Nat) : Field := ⟨R.SQ_STAT r, 1, 1⟩
def F.SQ_STAT_FENCE (r : Nat) : Field := ⟨R.SQ_STAT r, 2, 1⟩
def F.SQ_STAT_SEQERR (r : Nat) : Field := ⟨R.SQ_STAT r, 3, 1⟩
def F.SQ_STAT_INFLIGHT (r : Nat) : Field := ⟨R.SQ_STAT r, 16, 17⟩
def F.SQ_HR0_BASE_ADDR (r : Nat) : Field := ⟨R.SQ_HR0_BASE r, 12, 52⟩
def F.SQ_HR0_LIMIT_ADDR (r : Nat) : Field := ⟨R.SQ_HR0_LIMIT r, 12, 52⟩
def F.SQ_HR1_BASE_ADDR (r : Nat) : Field := ⟨R.SQ_HR1_BASE r, 12, 52⟩
def F.SQ_HR1_LIMIT_ADDR (r : Nat) : Field := ⟨R.SQ_HR1_LIMIT r, 12, 52⟩
def F.CQ_BASE_ADDR (r : Nat) : Field := ⟨R.CQ_BASE r, 12, 52⟩
def F.CQ_CTL_EN (r : Nat) : Field := ⟨R.CQ_CTL r, 0, 1⟩
def F.CQ_CTL_SIZE_LOG2 (r : Nat) : Field := ⟨R.CQ_CTL r, 1, 5⟩
def F.CQ_CTL_INPLACE (r : Nat) : Field := ⟨R.CQ_CTL r, 6, 1⟩
def F.CQ_CTL_IV_EN (r : Nat) : Field := ⟨R.CQ_CTL r, 7, 1⟩
def F.CQ_CTL_ATS (r : Nat) : Field := ⟨R.CQ_CTL r, 8, 1⟩
def F.CQ_CTL_COAL_N (r : Nat) : Field := ⟨R.CQ_CTL r, 16, 8⟩
def F.CQ_CTL_COAL_T (r : Nat) : Field := ⟨R.CQ_CTL r, 32, 16⟩
def F.CQ_IDX_DEVIDX (r : Nat) : Field := ⟨R.CQ_IDX r, 0, 17⟩
def F.CQ_IDX_HOSTIDX (r : Nat) : Field := ⟨R.CQ_IDX r, 32, 17⟩
def F.CQ_STAT_HOLD (r : Nat) : Field := ⟨R.CQ_STAT r, 0, 7⟩
def F.CQ_STAT_BP (r : Nat) : Field := ⟨R.CQ_STAT r, 7, 1⟩
def F.CQ_STAT_BP_EVT (r : Nat) : Field := ⟨R.CQ_STAT r, 8, 1⟩
def F.CQ_STAT_SEQERR (r : Nat) : Field := ⟨R.CQ_STAT r, 9, 1⟩
def F.CQ_STAT_BOUND (r : Nat) : Field := ⟨R.CQ_STAT r, 16, 11⟩
def F.CQ_STAT_WITHHELD (r : Nat) : Field := ⟨R.CQ_STAT r, 32, 16⟩
def F.WIN_W0_VALID (w : Nat) : Field := ⟨R.WIN_W0 w, 0, 1⟩
def F.WIN_W0_RD (w : Nat) : Field := ⟨R.WIN_W0 w, 1, 1⟩
def F.WIN_W0_WR (w : Nat) : Field := ⟨R.WIN_W0 w, 2, 1⟩
def F.WIN_W0_IDCHK (w : Nat) : Field := ⟨R.WIN_W0 w, 3, 1⟩
def F.WIN_W0_EP (w : Nat) : Field := ⟨R.WIN_W0 w, 4, 2⟩
def F.WIN_W0_REQID (w : Nat) : Field := ⟨R.WIN_W0 w, 16, 16⟩
def F.WIN_W1_PAGES (w : Nat) : Field := ⟨R.WIN_W1 w, 0, 12⟩
def F.WIN_W1_TARGET (w : Nat) : Field := ⟨R.WIN_W1 w, 12, 28⟩
def F.HE_LINK_SPEED : Field := ⟨R.HE_LINK, 0, 4⟩
def F.HE_LINK_WIDTH : Field := ⟨R.HE_LINK, 4, 5⟩
def F.HE_LINK_FLIT : Field := ⟨R.HE_LINK, 9, 1⟩
def F.HE_LINK_BIF : Field := ⟨R.HE_LINK, 10, 1⟩
def F.HE_LINK_UP : Field := ⟨R.HE_LINK, 11, 1⟩
def F.HE_LINK_SPEED1 : Field := ⟨R.HE_LINK, 12, 4⟩
def F.HE_LINK_WIDTH1 : Field := ⟨R.HE_LINK, 16, 5⟩
def F.HE_LINK_FLIT1 : Field := ⟨R.HE_LINK, 21, 1⟩
def F.HE_LINK_UP1 : Field := ⟨R.HE_LINK, 22, 1⟩
def F.HE_BUF_BASE_BASE : Field := ⟨R.HE_BUF_BASE, 0, 40⟩
def F.HE_BUF_LEN_LEN : Field := ⟨R.HE_BUF_LEN, 0, 41⟩
def F.HE_DUMP_BASE_BASE : Field := ⟨R.HE_DUMP_BASE, 0, 40⟩
def F.HE_DUMP_LEN_LEN : Field := ⟨R.HE_DUMP_LEN, 0, 32⟩
def F.HE_WIN_STAT_WDISC : Field := ⟨R.HE_WIN_STAT, 0, 32⟩
def F.HE_WIN_STAT_RUR : Field := ⟨R.HE_WIN_STAT, 32, 16⟩
def F.HE_WIN_STAT_SEQERR : Field := ⟨R.HE_WIN_STAT, 48, 1⟩
def F.HE_WIN_LAST_OFFSET : Field := ⟨R.HE_WIN_LAST, 0, 36⟩
def F.HE_WIN_LAST_READ : Field := ⟨R.HE_WIN_LAST, 36, 1⟩
def F.HE_WIN_LAST_EP : Field := ⟨R.HE_WIN_LAST, 37, 1⟩
def F.HE_WIN_LAST_REQID : Field := ⟨R.HE_WIN_LAST, 38, 16⟩
def F.HE_LATE_UNEXP : Field := ⟨R.HE_LATE, 0, 32⟩
def F.HE_LATE_FLRDROP : Field := ⟨R.HE_LATE, 32, 32⟩
def F.HE_XERR_URCA : Field := ⟨R.HE_XERR, 0, 16⟩
def F.HE_XERR_CTO : Field := ⟨R.HE_XERR, 16, 16⟩
def F.HE_XERR_ATSDENY : Field := ⟨R.HE_XERR, 32, 16⟩
def F.HE_XERR_POISON : Field := ⟨R.HE_XERR, 48, 16⟩
def F.MC_CTL_EN : Field := ⟨R.MC_CTL, 0, 1⟩
def F.MC_CTL_SEQERR : Field := ⟨R.MC_CTL, 1, 1⟩
def F.MC_CTL_STATE : Field := ⟨R.MC_CTL, 2, 2⟩
def F.MC_CTL_FAULT : Field := ⟨R.MC_CTL, 4, 1⟩
def F.MC_CTL_INVDONE : Field := ⟨R.MC_CTL, 5, 1⟩
def F.MC_MAINT_BASE_ARRAY : Field := ⟨R.MC_MAINT_BASE, 0, 4⟩
def F.MC_MAINT_BASE_GRAIN : Field := ⟨R.MC_MAINT_BASE, 8, 40⟩
def F.MC_MAINT_LEN_LEN : Field := ⟨R.MC_MAINT_LEN, 0, 41⟩
def F.MC_MAINT_CMD_OP : Field := ⟨R.MC_MAINT_CMD, 0, 3⟩
def F.MC_MAINT_CMD_ALL : Field := ⟨R.MC_MAINT_CMD, 3, 1⟩
def F.MC_MAINT_CMD_WAYS : Field := ⟨R.MC_MAINT_CMD, 16, 16⟩
def F.MC_MAINT_STAT_BUSY : Field := ⟨R.MC_MAINT_STAT, 0, 1⟩
def F.MC_MAINT_STAT_ERR : Field := ⟨R.MC_MAINT_STAT, 1, 1⟩
def F.MC_MAINT_STAT_DRAIN : Field := ⟨R.MC_MAINT_STAT, 2, 1⟩
def F.MC_MAINT_STAT_OP : Field := ⟨R.MC_MAINT_STAT, 4, 3⟩
def F.MC_MAINT_STAT_ECODE : Field := ⟨R.MC_MAINT_STAT, 8, 4⟩
def F.MC_MAINT_STAT_PERMILLE : Field := ⟨R.MC_MAINT_STAT, 16, 10⟩
def F.MC_MAINT_POS_GRAIN : Field := ⟨R.MC_MAINT_POS, 0, 40⟩
def F.MC_WAYLOCK_LOCK : Field := ⟨R.MC_WAYLOCK, 0, 16⟩
def F.MC_WAYPRE_PRE : Field := ⟨R.MC_WAYPRE, 0, 16⟩
def F.MC_WAYDIS_DIS : Field := ⟨R.MC_WAYDIS, 0, 16⟩
def F.MC_WAYDIS_COUNT : Field := ⟨R.MC_WAYDIS, 16, 3⟩
def F.MC_ECC_CORR : Field := ⟨R.MC_ECC, 0, 32⟩
def F.MC_ECC_UNCORR : Field := ⟨R.MC_ECC, 32, 16⟩
def F.MC_ECC_LASTWAY : Field := ⟨R.MC_ECC, 48, 4⟩
def F.MC_HITS_COUNT : Field := ⟨R.MC_HITS, 0, 64⟩
def F.MC_MISSES_COUNT : Field := ⟨R.MC_MISSES, 0, 64⟩
def F.HOOP_SIZE_SIZE_GIB : Field := ⟨R.HOOP_SIZE, 0, 7⟩
def F.HOOP_DIRTY_LIMIT_LIMIT_MIB : Field := ⟨R.HOOP_DIRTY_LIMIT, 0, 17⟩
def F.HOOP_DIRTY_LIMIT_MAX_MIB : Field := ⟨R.HOOP_DIRTY_LIMIT, 32, 17⟩
def F.HOOP_STAT_DIRTY_BLK : Field := ⟨R.HOOP_STAT, 0, 25⟩
def F.HOOP_STAT_AT_LIMIT : Field := ⟨R.HOOP_STAT, 32, 1⟩
def F.HOOP_STAT_BANK_WAIT : Field := ⟨R.HOOP_STAT, 33, 1⟩
def F.HOOP_STAT_PEER_WAIT : Field := ⟨R.HOOP_STAT, 34, 1⟩
def F.HOOP_STAT_LIMIT_CUT : Field := ⟨R.HOOP_STAT, 35, 1⟩
def F.HOOP_STAT_SRC : Field := ⟨R.HOOP_STAT, 36, 2⟩
def F.HOOP_AGE_AGE : Field := ⟨R.HOOP_AGE, 0, 32⟩
def F.HOOP_BANK_WAIT_TIMEOUT : Field := ⟨R.HOOP_BANK_WAIT, 0, 32⟩
def F.CLOG_STAT_INFLIGHT : Field := ⟨R.CLOG_STAT, 0, 13⟩
def F.CLOG_STAT_FULL : Field := ⟨R.CLOG_STAT, 16, 1⟩
def F.CLOG_STAT_COPIES : Field := ⟨R.CLOG_STAT, 17, 2⟩
def F.CLOG_STAT_SHORT : Field := ⟨R.CLOG_STAT, 19, 1⟩
def F.CLOG_STAT_SRC : Field := ⟨R.CLOG_STAT, 20, 2⟩
def F.CLOG_REPL_SLED0 : Field := ⟨R.CLOG_REPL, 0, 16⟩
def F.CLOG_REPL_SLED1 : Field := ⟨R.CLOG_REPL, 16, 16⟩
def F.CLOG_REPL_SLED2 : Field := ⟨R.CLOG_REPL, 32, 16⟩
def F.CLOG_SYNC_PERIOD : Field := ⟨R.CLOG_SYNC, 0, 32⟩
def F.CLOG_RSEQ_RSEQ : Field := ⟨R.CLOG_RSEQ, 0, 64⟩
def F.DRB_STAT_SET : Field := ⟨R.DRB_STAT, 0, 25⟩
def F.DRB_STAT_RESYNC : Field := ⟨R.DRB_STAT, 32, 1⟩
def F.DRB_RESYNC_LEFT : Field := ⟨R.DRB_RESYNC, 0, 25⟩
def F.DRB_RESYNC_PERMILLE : Field := ⟨R.DRB_RESYNC, 32, 10⟩
def F.DRB_SEL_WORD : Field := ⟨R.DRB_SEL, 0, 18⟩
def F.DRB_DATA_BITS : Field := ⟨R.DRB_DATA, 0, 64⟩
def F.DRB_ARR_BASE (A : Nat) : Field := ⟨R.DRB_ARR A, 0, 24⟩
def F.DRB_ARR_LEN (A : Nat) : Field := ⟨R.DRB_ARR A, 24, 25⟩
def F.DRB_ARR_RB_LOG2 (A : Nat) : Field := ⟨R.DRB_ARR A, 49, 4⟩
def F.SHT_CH_SRC_ADDR (n : Nat) : Field := ⟨R.SHT_CH_SRC n, 0, 64⟩
def F.SHT_CH_DST_ADDR (n : Nat) : Field := ⟨R.SHT_CH_DST n, 0, 64⟩
def F.SHT_CH_LEN_LEN (n : Nat) : Field := ⟨R.SHT_CH_LEN n, 0, 37⟩
def F.SHT_CH_CFG_OP (n : Nat) : Field := ⟨R.SHT_CH_CFG n, 0, 2⟩
def F.SHT_CH_CFG_SSPACE (n : Nat) : Field := ⟨R.SHT_CH_CFG n, 4, 3⟩
def F.SHT_CH_CFG_DSPACE (n : Nat) : Field := ⟨R.SHT_CH_CFG n, 8, 3⟩
def F.SHT_CH_CFG_IRQ (n : Nat) : Field := ⟨R.SHT_CH_CFG n, 16, 1⟩
def F.SHT_CH_PAT_PAT (n : Nat) : Field := ⟨R.SHT_CH_PAT n, 0, 64⟩
def F.SHT_CH_GO_GO (n : Nat) : Field := ⟨R.SHT_CH_GO n, 0, 1⟩
def F.SHT_CH_STAT_STATE (n : Nat) : Field := ⟨R.SHT_CH_STAT n, 0, 2⟩
def F.SHT_CH_STAT_QUEUED (n : Nat) : Field := ⟨R.SHT_CH_STAT n, 2, 1⟩
def F.SHT_CH_STAT_DONE (n : Nat) : Field := ⟨R.SHT_CH_STAT n, 3, 1⟩
def F.SHT_CH_STAT_MISMATCH (n : Nat) : Field := ⟨R.SHT_CH_STAT n, 4, 1⟩
def F.SHT_CH_STAT_ERR (n : Nat) : Field := ⟨R.SHT_CH_STAT n, 5, 1⟩
def F.SHT_CH_STAT_SEQERR (n : Nat) : Field := ⟨R.SHT_CH_STAT n, 6, 1⟩
def F.SHT_CH_STAT_DROPPED (n : Nat) : Field := ⟨R.SHT_CH_STAT n, 7, 1⟩
def F.SHT_CH_STAT_ECODE (n : Nat) : Field := ⟨R.SHT_CH_STAT n, 8, 4⟩
def F.SHT_CH_STAT_RETRIES (n : Nat) : Field := ⟨R.SHT_CH_STAT n, 12, 2⟩
def F.SHT_CH_STAT_DONE_CNT (n : Nat) : Field := ⟨R.SHT_CH_STAT n, 16, 16⟩
def F.SHT_CH_POS_POS (n : Nat) : Field := ⟨R.SHT_CH_POS n, 0, 37⟩
def F.SHT_CH_CMP_OFFSET (n : Nat) : Field := ⟨R.SHT_CH_CMP n, 0, 64⟩
def F.SHT_CH_EADDR_ADDR (n : Nat) : Field := ⟨R.SHT_CH_EADDR n, 0, 64⟩
def F.SHT_CH_ACTCFG_CFG (n : Nat) : Field := ⟨R.SHT_CH_ACTCFG n, 0, 64⟩
def F.SHT_STAT_ALLSTOP : Field := ⟨R.SHT_STAT, 0, 1⟩
def F.SHT_STAT_CH : Field := ⟨R.SHT_STAT, 1, 5⟩
def F.SHT_DONE_DONE : Field := ⟨R.SHT_DONE, 0, 32⟩
def F.SHT_DONE_HALT : Field := ⟨R.SHT_DONE, 32, 32⟩
def F.SHT_RETRY_COUNT : Field := ⟨R.SHT_RETRY, 0, 2⟩
def F.ARR_STATE_STATE (A : Nat) : Field := ⟨R.ARR_STATE A, 0, 3⟩
def F.ARR_STATE_EXISTS (A : Nat) : Field := ⟨R.ARR_STATE A, 3, 1⟩
def F.ARR_STATE_PREV (A : Nat) : Field := ⟨R.ARR_STATE A, 4, 3⟩
def F.ARR_STATE_LMAX (A : Nat) : Field := ⟨R.ARR_STATE A, 8, 8⟩
def F.ARR_STATE_TOL (A : Nat) : Field := ⟨R.ARR_STATE A, 16, 2⟩
def F.ARR_STATE_FAILED (A : Nat) : Field := ⟨R.ARR_STATE A, 24, 8⟩
def F.ARR_STATE_NARROW (A : Nat) : Field := ⟨R.ARR_STATE A, 32, 1⟩
def F.ARR_STATE_MAPLOST (A : Nat) : Field := ⟨R.ARR_STATE A, 33, 1⟩
def F.ARR_STATE_CHG (A : Nat) : Field := ⟨R.ARR_STATE A, 34, 1⟩
def F.ARR_MBR_SEL_INDEX (A : Nat) : Field := ⟨R.ARR_MBR_SEL A, 0, 7⟩
def F.ARR_MBR_SEL_PRK (A : Nat) : Field := ⟨R.ARR_MBR_SEL A, 7, 1⟩
def F.ARR_MBR_SLED (A : Nat) : Field := ⟨R.ARR_MBR A, 0, 16⟩
def F.ARR_MBR_MSTATE (A : Nat) : Field := ⟨R.ARR_MBR A, 16, 2⟩
def F.ARR_MBR_CAUSE (A : Nat) : Field := ⟨R.ARR_MBR A, 18, 3⟩
def F.ARR_MBR_TFAIL (A : Nat) : Field := ⟨R.ARR_MBR A, 32, 32⟩
def F.ARR_RB_CTL_FLOOR (A : Nat) : Field := ⟨R.ARR_RB_CTL A, 0, 10⟩
def F.ARR_RB_CTL_CEIL (A : Nat) : Field := ⟨R.ARR_RB_CTL A, 16, 10⟩
def F.ARR_RB_CTL_PAUSE (A : Nat) : Field := ⟨R.ARR_RB_CTL A, 32, 1⟩
def F.ARR_RB_POS_PASS (A : Nat) : Field := ⟨R.ARR_RB_POS A, 0, 3⟩
def F.ARR_RB_POS_BAND (A : Nat) : Field := ⟨R.ARR_RB_POS A, 4, 21⟩
def F.ARR_RB_POS_STRIPE (A : Nat) : Field := ⟨R.ARR_RB_POS A, 32, 24⟩
def F.ARR_RB_POS_CLUSTER (A : Nat) : Field := ⟨R.ARR_RB_POS A, 56, 3⟩
def F.ARR_RB_PROG_DONE (A : Nat) : Field := ⟨R.ARR_RB_PROG A, 0, 40⟩
def F.ARR_RB_PROG_PERMILLE (A : Nat) : Field := ⟨R.ARR_RB_PROG A, 40, 10⟩
def F.ARR_RB_PROG_RUN (A : Nat) : Field := ⟨R.ARR_RB_PROG A, 50, 1⟩
def F.ARR_RB_PROG_WHY (A : Nat) : Field := ⟨R.ARR_RB_PROG A, 51, 3⟩
def F.ARR_RB_TOTAL_TOTAL (A : Nat) : Field := ⟨R.ARR_RB_TOTAL A, 0, 40⟩
def F.ARR_RB_LEFT1_COUNT (A : Nat) : Field := ⟨R.ARR_RB_LEFT1 A, 0, 40⟩
def F.ARR_RB_LEFT2_COUNT (A : Nat) : Field := ⟨R.ARR_RB_LEFT2 A, 0, 40⟩
def F.ARR_RB_LEFT3_COUNT (A : Nat) : Field := ⟨R.ARR_RB_LEFT3 A, 0, 40⟩
def F.ARR_LOST_STRIPES (A : Nat) : Field := ⟨R.ARR_LOST A, 0, 32⟩
def F.ARR_LOST_GRAINS (A : Nat) : Field := ⟨R.ARR_LOST A, 32, 32⟩
def F.ARR_RS_ACTIVE (A : Nat) : Field := ⟨R.ARR_RS A, 0, 1⟩
def F.ARR_RS_RUN (A : Nat) : Field := ⟨R.ARR_RS A, 1, 1⟩
def F.ARR_RS_WHY (A : Nat) : Field := ⟨R.ARR_RS A, 2, 3⟩
def F.ARR_RS_ARMED_SLOT (A : Nat) : Field := ⟨R.ARR_RS A, 8, 5⟩
def F.ARR_RS_RET_SLOT (A : Nat) : Field := ⟨R.ARR_RS A, 16, 5⟩
def F.ARR_RS_RETIRED (A : Nat) : Field := ⟨R.ARR_RS A, 24, 1⟩
def F.ARR_RS_RELEASED (A : Nat) : Field := ⟨R.ARR_RS A, 25, 1⟩
def F.ARR_RS_GEN_OLD_GEN (A : Nat) : Field := ⟨R.ARR_RS_GEN A, 0, 32⟩
def F.ARR_RS_GEN_NEW_GEN (A : Nat) : Field := ⟨R.ARR_RS_GEN A, 32, 32⟩
def F.ARR_RS_CTL_FLOOR (A : Nat) : Field := ⟨R.ARR_RS_CTL A, 0, 10⟩
def F.ARR_RS_CTL_CEIL (A : Nat) : Field := ⟨R.ARR_RS_CTL A, 16, 10⟩
def F.ARR_RS_CTL_PAUSE (A : Nat) : Field := ⟨R.ARR_RS_CTL A, 32, 1⟩
def F.ARR_RS_PROG_LEFT (A : Nat) : Field := ⟨R.ARR_RS_PROG A, 0, 40⟩
def F.ARR_RS_PROG_PERMILLE (A : Nat) : Field := ⟨R.ARR_RS_PROG A, 40, 10⟩
def F.ARR_RS_START_START (A : Nat) : Field := ⟨R.ARR_RS_START A, 0, 40⟩
def F.ARR_RS_BANDS_BANDS (A : Nat) : Field := ⟨R.ARR_RS_BANDS A, 0, 21⟩
def F.ARR_RS_BANDS_BAND (A : Nat) : Field := ⟨R.ARR_RS_BANDS A, 32, 21⟩
def F.ARR_RS_BANDS_CLUSTER (A : Nat) : Field := ⟨R.ARR_RS_BANDS A, 56, 3⟩
def F.ARR_GEOM_GRAIN (A : Nat) : Field := ⟨R.ARR_GEOM A, 0, 2⟩
def F.ARR_GEOM_GRAINS (A : Nat) : Field := ⟨R.ARR_GEOM A, 8, 40⟩
def F.ARR_BAND_LIMIT (A : Nat) : Field := ⟨R.ARR_BAND A, 0, 21⟩
def F.ARR_BAND_OPENABLE (A : Nat) : Field := ⟨R.ARR_BAND A, 32, 24⟩
def F.ARR_FILL_VALID (A : Nat) : Field := ⟨R.ARR_FILL A, 0, 40⟩
def F.ARR_FILL_FILL_PM (A : Nat) : Field := ⟨R.ARR_FILL A, 40, 10⟩
def F.ARR_FG_TARGET_BP (A : Nat) : Field := ⟨R.ARR_FG A, 0, 9⟩
def F.ARR_FG_BANDS (A : Nat) : Field := ⟨R.ARR_FG A, 32, 21⟩
def F.ARR_GC_RUN (A : Nat) : Field := ⟨R.ARR_GC A, 0, 1⟩
def F.ARR_GC_URGENT (A : Nat) : Field := ⟨R.ARR_GC A, 1, 1⟩
def F.ARR_GC_NOSPACE (A : Nat) : Field := ⟨R.ARR_GC A, 2, 1⟩
def F.ARR_GC_FGFOLD (A : Nat) : Field := ⟨R.ARR_GC A, 3, 1⟩
def F.ARR_GC_VICTIM (A : Nat) : Field := ⟨R.ARR_GC A, 11, 21⟩
def F.ARR_GC_LEFT (A : Nat) : Field := ⟨R.ARR_GC A, 32, 32⟩
def F.ARR_GC_CTL_FREE_LOW (A : Nat) : Field := ⟨R.ARR_GC_CTL A, 0, 16⟩
def F.ARR_GC_CTL_FREE_URGENT (A : Nat) : Field := ⟨R.ARR_GC_CTL A, 16, 16⟩
def F.ARR_RETIRE_ERASE_FAIL (A : Nat) : Field := ⟨R.ARR_RETIRE A, 0, 32⟩
def F.ARR_RETIRE_PROG_FAIL (A : Nat) : Field := ⟨R.ARR_RETIRE A, 32, 32⟩
def F.ARR_DLOG_USED_4K : Field := ⟨R.ARR_DLOG, 0, 18⟩
def F.ARR_DLOG_FULL : Field := ⟨R.ARR_DLOG, 32, 1⟩
def F.ARR_DLOG_EPOCH_RUN : Field := ⟨R.ARR_DLOG, 33, 1⟩
def F.ARR_CKPT_EPOCHS : Field := ⟨R.ARR_CKPT, 0, 32⟩
def F.ARR_MTMO_TIMEOUT : Field := ⟨R.ARR_MTMO, 0, 32⟩
def F.ARR_MTMO_LIMIT : Field := ⟨R.ARR_MTMO, 32, 8⟩
def F.ARR_MTMO_WINDOW_S : Field := ⟨R.ARR_MTMO, 40, 8⟩
def F.ARR_LATE_LATE : Field := ⟨R.ARR_LATE, 0, 32⟩
def F.ARR_LATE_RESERVED : Field := ⟨R.ARR_LATE, 32, 15⟩
def F.ARR_LSL_STAT_COUNT : Field := ⟨R.ARR_LSL_STAT, 0, 17⟩
def F.ARR_LSL_STAT_OVF : Field := ⟨R.ARR_LSL_STAT, 17, 1⟩
def F.ARR_LSL_SEL_RECORD : Field := ⟨R.ARR_LSL_SEL, 0, 16⟩
def F.ARR_LSL_SEL_WORD : Field := ⟨R.ARR_LSL_SEL, 16, 3⟩
def F.ARR_LSL_DATA_DATA : Field := ⟨R.ARR_LSL_DATA, 0, 64⟩
def F.ARR_LGT_ENTRIES : Field := ⟨R.ARR_LGT, 0, 21⟩
def F.ARR_LGT_OVF : Field := ⟨R.ARR_LGT, 21, 1⟩
def F.PRK_STAGE_BYTES (j : Nat) : Field := ⟨R.PRK_STAGE j, 0, 64⟩
def F.PRK_CMD_OP : Field := ⟨R.PRK_CMD, 0, 4⟩
def F.PRK_CMD_SLOT : Field := ⟨R.PRK_CMD, 8, 5⟩
def F.PRK_STAT_CODE : Field := ⟨R.PRK_STAT, 0, 16⟩
def F.PRK_STAT_BUSY : Field := ⟨R.PRK_STAT, 16, 1⟩
def F.PRK_STAT_ERR : Field := ⟨R.PRK_STAT, 17, 1⟩
def F.PRK_STAT_OP : Field := ⟨R.PRK_STAT, 20, 4⟩
def F.PRK_STAT_SLOT : Field := ⟨R.PRK_STAT, 24, 5⟩
def F.PRK_SLOTS0_STATES : Field := ⟨R.PRK_SLOTS0, 0, 64⟩
def F.PRK_SLOTS1_STATES : Field := ⟨R.PRK_SLOTS1, 0, 64⟩
def F.PRK_IMAGE_BYTES64registersof (slot : Nat) (j : Nat) : Field := ⟨R.PRK_IMAGE slot j, 0, 64⟩
def F.SQ_DB_INDEX (r : Nat) : Field := ⟨R.SQ_DB r, 0, 17⟩
def F.CQ_DB_INDEX (r : Nat) : Field := ⟨R.CQ_DB r, 0, 17⟩
def F.BP_CTL_EN (p : Nat) : Field := ⟨R.BP_CTL p, 0, 1⟩
def F.BP_CTL_RETRAIN (p : Nat) : Field := ⟨R.BP_CTL p, 1, 1⟩
def F.BP_LINK_STATE (p : Nat) : Field := ⟨R.BP_LINK p, 0, 2⟩
def F.BP_LINK_LANE0 (p : Nat) : Field := ⟨R.BP_LINK p, 2, 1⟩
def F.BP_LINK_LANE1 (p : Nat) : Field := ⟨R.BP_LINK p, 3, 1⟩
def F.BP_LINK_HOPS (p : Nat) : Field := ⟨R.BP_LINK p, 4, 3⟩
def F.BP_LINK_RETRAINS (p : Nat) : Field := ⟨R.BP_LINK p, 16, 16⟩
def F.BP_FEC_CORR (p : Nat) : Field := ⟨R.BP_FEC p, 0, 32⟩
def F.BP_FEC_UNCORR (p : Nat) : Field := ⟨R.BP_FEC p, 32, 32⟩
def F.BP_ERR_REPLAYS (p : Nat) : Field := ⟨R.BP_ERR p, 0, 32⟩
def F.BP_ERR_PROTO (p : Nat) : Field := ⟨R.BP_ERR p, 32, 16⟩
def F.BP_ERR_LASTTYPE (p : Nat) : Field := ⟨R.BP_ERR p, 48, 8⟩
def F.BP_TAGS_OUT (p : Nat) : Field := ⟨R.BP_TAGS p, 0, 10⟩
def F.BP_TAGS_RSVD (p : Nat) : Field := ⟨R.BP_TAGS p, 16, 10⟩
def F.BP_HOP_STAT_STATE (p : Nat) (h : Nat) : Field := ⟨R.BP_HOP_STAT p h, 0, 3⟩
def F.BP_HOP_STAT_PRESENT (p : Nat) (h : Nat) : Field := ⟨R.BP_HOP_STAT p h, 3, 1⟩
def F.BP_HOP_STAT_PWR (p : Nat) (h : Nat) : Field := ⟨R.BP_HOP_STAT p h, 4, 1⟩
def F.BP_HOP_STAT_ATTN (p : Nat) (h : Nat) : Field := ⟨R.BP_HOP_STAT p h, 5, 1⟩
def F.BP_HOP_STAT_STUCK (p : Nat) (h : Nat) : Field := ⟨R.BP_HOP_STAT p h, 6, 1⟩
def F.BP_HOP_STAT_CHATTER (p : Nat) (h : Nat) : Field := ⟨R.BP_HOP_STAT p h, 7, 1⟩
def F.BP_HOP_STAT_IND (p : Nat) (h : Nat) : Field := ⟨R.BP_HOP_STAT p h, 8, 2⟩
def F.BP_HOP_STAT_ATTN_EVT (p : Nat) (h : Nat) : Field := ⟨R.BP_HOP_STAT p h, 10, 1⟩
def F.BP_HOP_STAT_PRES_EVT (p : Nat) (h : Nat) : Field := ⟨R.BP_HOP_STAT p h, 11, 1⟩
def F.BP_HOP_STAT_NUMBER (p : Nat) (h : Nat) : Field := ⟨R.BP_HOP_STAT p h, 16, 16⟩
def F.BP_HOP_CTL_LOCATE (p : Nat) (h : Nat) : Field := ⟨R.BP_HOP_CTL p h, 0, 1⟩
def F.BP_HOP_CTL_PWROFF (p : Nat) (h : Nat) : Field := ⟨R.BP_HOP_CTL p h, 1, 1⟩
def F.BP_HOP_CTL_SEQERR (p : Nat) (h : Nat) : Field := ⟨R.BP_HOP_CTL p h, 2, 1⟩
def F.BP_HOP_CMD_OP (p : Nat) (h : Nat) : Field := ⟨R.BP_HOP_CMD p h, 0, 2⟩
def F.BP_HOP_UID0_UID (p : Nat) (h : Nat) : Field := ⟨R.BP_HOP_UID0 p h, 0, 64⟩
def F.BP_HOP_UID1_UID (p : Nat) (h : Nat) : Field := ⟨R.BP_HOP_UID1 p h, 0, 64⟩
def F.BP_HOP_GEOM_BLOCKS (p : Nat) (h : Nat) : Field := ⟨R.BP_HOP_GEOM p h, 0, 24⟩
def F.BP_HOP_GEOM_BPC (p : Nat) (h : Nat) : Field := ⟨R.BP_HOP_GEOM p h, 24, 3⟩
def F.BP_HOP_GEOM_CWP (p : Nat) (h : Nat) : Field := ⟨R.BP_HOP_GEOM p h, 28, 4⟩
def F.BP_HOP_GEOM_PPB (p : Nat) (h : Nat) : Field := ⟨R.BP_HOP_GEOM p h, 32, 16⟩
def F.BAY_CTL_PWR_CONCURRENT : Field := ⟨R.BAY_CTL, 0, 6⟩
def F.BAY_STAT_FOUND : Field := ⟨R.BAY_STAT, 0, 32⟩
def F.BAY_STAT_NAK : Field := ⟨R.BAY_STAT, 32, 32⟩
def F.PAIR_CTL_PAIRED : Field := ⟨R.PAIR_CTL, 0, 1⟩
def F.PAIR_CTL_PREFER : Field := ⟨R.PAIR_CTL, 1, 1⟩
def F.PAIR_CTL_LINK2 : Field := ⟨R.PAIR_CTL, 2, 1⟩
def F.PAIR_CTL_FAILBACK_EN : Field := ⟨R.PAIR_CTL, 8, 1⟩
def F.PAIR_STAT_ROLE : Field := ⟨R.PAIR_STAT, 0, 3⟩
def F.PAIR_STAT_PEER_UP : Field := ⟨R.PAIR_STAT, 3, 1⟩
def F.PAIR_STAT_PEER_LOST : Field := ⟨R.PAIR_STAT, 4, 1⟩
def F.PAIR_STAT_STALE : Field := ⟨R.PAIR_STAT, 5, 1⟩
def F.PAIR_STAT_INSYNC : Field := ⟨R.PAIR_STAT, 6, 1⟩
def F.PAIR_STAT_WIT_UP : Field := ⟨R.PAIR_STAT, 7, 1⟩
def F.PAIR_STAT_RIDE : Field := ⟨R.PAIR_STAT, 8, 1⟩
def F.PAIR_STAT_EVT : Field := ⟨R.PAIR_STAT, 9, 1⟩
def F.PAIR_STAT_LASTGAP : Field := ⟨R.PAIR_STAT, 16, 16⟩
def F.PAIR_CLAIM_CLAIM : Field := ⟨R.PAIR_CLAIM, 0, 32⟩
def F.PAIR_CLAIM_LEASE_LEFT : Field := ⟨R.PAIR_CLAIM, 32, 16⟩
def F.PAIR_LINK_UP : Field := ⟨R.PAIR_LINK, 0, 2⟩
def F.PAIR_LINK_RESENDS : Field := ⟨R.PAIR_LINK, 16, 16⟩
def F.PAIR_LINK_LOSSES : Field := ⟨R.PAIR_LINK, 32, 32⟩
def F.PAIR_SYNC_PHASE : Field := ⟨R.PAIR_SYNC, 0, 3⟩
def F.PAIR_SYNC_PERMILLE : Field := ⟨R.PAIR_SYNC, 4, 10⟩
def F.PAIR_SYNC_CLEAN_S : Field := ⟨R.PAIR_SYNC, 16, 16⟩
def F.PAIR_ID0_ID : Field := ⟨R.PAIR_ID0, 0, 64⟩
def F.PAIR_ID1_ID : Field := ⟨R.PAIR_ID1, 0, 64⟩
def F.PAIR_TMO_PEER_TMO : Field := ⟨R.PAIR_TMO, 0, 32⟩
def F.WIT_CFG_TRANSPORT : Field := ⟨R.WIT_CFG, 0, 2⟩
def F.WIT_STAT_EID : Field := ⟨R.WIT_STAT, 0, 8⟩
def F.WIT_STAT_VIA : Field := ⟨R.WIT_STAT, 8, 2⟩
def F.WIT_STAT_BAD : Field := ⟨R.WIT_STAT, 16, 16⟩
def F.WIT_PAIR_CLAIM (q : Nat) : Field := ⟨R.WIT_PAIR q, 0, 32⟩
def F.WIT_PAIR_HOLDER (q : Nat) : Field := ⟨R.WIT_PAIR q, 32, 2⟩
def F.WIT_PAIR_STALE0 (q : Nat) : Field := ⟨R.WIT_PAIR q, 34, 1⟩
def F.WIT_PAIR_STALE1 (q : Nat) : Field := ⟨R.WIT_PAIR q, 35, 1⟩
def F.FED_STAT_DEVID : Field := ⟨R.FED_STAT, 0, 3⟩
def F.FED_STAT_COORD : Field := ⟨R.FED_STAT, 3, 3⟩
def F.FED_STAT_SPLIT : Field := ⟨R.FED_STAT, 6, 1⟩
def F.FED_STAT_DUP : Field := ⟨R.FED_STAT, 7, 1⟩
def F.FED_STAT_VIEW : Field := ⟨R.FED_STAT, 8, 8⟩
def F.FED_STAT_EVT : Field := ⟨R.FED_STAT, 16, 1⟩
def F.FED_STAT_EPOCH : Field := ⟨R.FED_STAT, 32, 32⟩
def F.FED_LINK_UP : Field := ⟨R.FED_LINK, 0, 8⟩
def F.FED_LINK_WIDE : Field := ⟨R.FED_LINK, 8, 8⟩
def F.FED_TOFF_OFFSET : Field := ⟨R.FED_TOFF, 0, 64⟩
def F.FED_SPAN_MASK (A : Nat) : Field := ⟨R.FED_SPAN A, 0, 8⟩
def F.PWR_VIN_VIN_MV : Field := ⟨R.PWR_VIN, 0, 16⟩
def F.PWR_VIN_IIN_10MA : Field := ⟨R.PWR_VIN, 16, 16⟩
def F.PWR_VIN_PIN_DW : Field := ⟨R.PWR_VIN, 32, 16⟩
def F.PWR_PF_THRESH_PM : Field := ⟨R.PWR_PF, 0, 10⟩
def F.PWR_PF_VBOOT_MV : Field := ⟨R.PWR_PF, 16, 16⟩
def F.PWR_PF_TRIP_MV : Field := ⟨R.PWR_PF, 32, 16⟩
def F.PWR_PF_PFAIL_IN : Field := ⟨R.PWR_PF, 48, 1⟩
def F.PWR_PF_DRIVE : Field := ⟨R.PWR_PF, 49, 1⟩
def F.PWR_LOG_FLUSH_US : Field := ⟨R.PWR_LOG, 0, 32⟩
def F.PWR_LOG_VEND_DV : Field := ⟨R.PWR_LOG, 32, 10⟩
def F.PWR_LOG_RESULT : Field := ⟨R.PWR_LOG, 42, 2⟩
def F.PWR_LOG_SRC : Field := ⟨R.PWR_LOG, 44, 1⟩
def F.HU_CTL_VCHG_DV : Field := ⟨R.HU_CTL, 0, 10⟩
def F.HU_CTL_ICHG_MA : Field := ⟨R.HU_CTL, 16, 10⟩
def F.HU_CTL_TEST : Field := ⟨R.HU_CTL, 32, 1⟩
def F.HU_STAT_VBANK_DV : Field := ⟨R.HU_STAT, 0, 10⟩
def F.HU_STAT_CHARGING : Field := ⟨R.HU_STAT, 10, 1⟩
def F.HU_STAT_HEALTHY : Field := ⟨R.HU_STAT, 11, 1⟩
def F.HU_STAT_FAULT : Field := ⟨R.HU_STAT, 12, 1⟩
def F.HU_STAT_TESTING : Field := ⟨R.HU_STAT, 13, 1⟩
def F.HU_STAT_EVT : Field := ⟨R.HU_STAT, 14, 1⟩
def F.HU_STAT_NOTREADY : Field := ⟨R.HU_STAT, 16, 3⟩
def F.HU_CAP_C_DMF : Field := ⟨R.HU_CAP, 0, 16⟩
def F.HU_CAP_PREV_DMF : Field := ⟨R.HU_CAP, 16, 16⟩
def F.HU_CAP_AGE_S : Field := ⟨R.HU_CAP, 32, 32⟩
def F.TEMP_STAT_JMAX_C : Field := ⟨R.TEMP_STAT, 0, 8⟩
def F.TEMP_STAT_JMAX_SRC : Field := ⟨R.TEMP_STAT, 8, 5⟩
def F.TEMP_STAT_CASE_C : Field := ⟨R.TEMP_STAT, 16, 8⟩
def F.TEMP_STAT_LEVEL : Field := ⟨R.TEMP_STAT, 24, 2⟩
def F.TEMP_STAT_EVT : Field := ⟨R.TEMP_STAT, 26, 1⟩
def F.TEMP_SEL_SENSOR : Field := ⟨R.TEMP_SEL, 0, 5⟩
def F.TEMP_DATA_CUR_C : Field := ⟨R.TEMP_DATA, 0, 8⟩
def F.TEMP_DATA_MAX_C : Field := ⟨R.TEMP_DATA, 8, 8⟩
def F.TEMP_DATA_MIN_C : Field := ⟨R.TEMP_DATA, 16, 8⟩
def F.HLTH_STAT_LEN : Field := ⟨R.HLTH_STAT, 0, 32⟩
def F.HLTH_STAT_FROZEN : Field := ⟨R.HLTH_STAT, 32, 1⟩
def F.HLTH_EVT_EVT : Field := ⟨R.HLTH_EVT, 0, 1⟩
def F.HLTH_EVT_CRIT : Field := ⟨R.HLTH_EVT, 1, 1⟩
def F.HLTH_EVT_LAST : Field := ⟨R.HLTH_EVT, 8, 8⟩
def F.HLTH_THR_SPARE_PM : Field := ⟨R.HLTH_THR, 0, 10⟩
def F.HLTH_THR_WEAR_PM : Field := ⟨R.HLTH_THR, 16, 10⟩
def F.HLTH_CTL_FREEZE : Field := ⟨R.HLTH_CTL, 0, 1⟩
def F.HLTH_SEL_WORD : Field := ⟨R.HLTH_SEL, 0, 12⟩
def F.HLTH_DATA_DATA : Field := ⟨R.HLTH_DATA, 0, 64⟩
def F.HLTH_DMP_STAT_STATE : Field := ⟨R.HLTH_DMP_STAT, 0, 2⟩
def F.HLTH_DMP_STAT_PARTIAL : Field := ⟨R.HLTH_DMP_STAT, 2, 1⟩
def F.HLTH_DMP_STAT_DSEQ : Field := ⟨R.HLTH_DMP_STAT, 32, 32⟩
def F.HLTH_DMP_VADDR_ADDR : Field := ⟨R.HLTH_DMP_VADDR, 0, 38⟩
def F.HLTH_DMP_VADDR_VALID : Field := ⟨R.HLTH_DMP_VADDR, 38, 1⟩
def F.ELOG_STAT_COUNT : Field := ⟨R.ELOG_STAT, 0, 13⟩
def F.ELOG_STAT_WRAP : Field := ⟨R.ELOG_STAT, 13, 1⟩
def F.ELOG_STAT_EVT : Field := ⟨R.ELOG_STAT, 14, 1⟩
def F.ELOG_STAT_NEWSEQ : Field := ⟨R.ELOG_STAT, 32, 32⟩
def F.ELOG_SEL_RECORD : Field := ⟨R.ELOG_SEL, 0, 12⟩
def F.ELOG_SEL_WORD : Field := ⟨R.ELOG_SEL, 12, 3⟩
def F.ELOG_DATA_DATA : Field := ⟨R.ELOG_DATA, 0, 64⟩
def F.ELOG_AON_PEND : Field := ⟨R.ELOG_AON, 0, 9⟩
def F.ELOG_AON_OVF : Field := ⟨R.ELOG_AON, 9, 1⟩
def F.SE_STAT_ENGINES (c : Nat) : Field := ⟨R.SE_STAT c, 0, 4⟩
def F.SE_STAT_THR_BUSY (c : Nat) : Field := ⟨R.SE_STAT c, 8, 8⟩
def F.SE_STAT_SKEIN_FREE (c : Nat) : Field := ⟨R.SE_STAT c, 16, 11⟩
def F.SE_STAT_PMEM_FREE (c : Nat) : Field := ⟨R.SE_STAT c, 32, 17⟩
def F.SE_CLK_TARGET (c : Nat) : Field := ⟨R.SE_CLK c, 0, 3⟩
def F.SE_CLK_CUR (c : Nat) : Field := ⟨R.SE_CLK c, 8, 3⟩
def F.SE_CLK_BUSY (c : Nat) : Field := ⟨R.SE_CLK c, 16, 1⟩
def F.SE_CLK_CAP (c : Nat) : Field := ⟨R.SE_CLK c, 17, 3⟩
def F.SE_WAITLIM_LIMIT (c : Nat) : Field := ⟨R.SE_WAITLIM c, 0, 32⟩
def F.SE_FLT_STAT_COUNT (c : Nat) : Field := ⟨R.SE_FLT_STAT c, 0, 32⟩
def F.SE_FLT_STAT_NEWEST (c : Nat) : Field := ⟨R.SE_FLT_STAT c, 32, 8⟩
def F.SE_FLT_STAT_WRAP (c : Nat) : Field := ⟨R.SE_FLT_STAT c, 40, 1⟩
def F.SE_FLT_SEL_RECORD (c : Nat) : Field := ⟨R.SE_FLT_SEL c, 0, 8⟩
def F.SE_FLT_SEL_WORD (c : Nat) : Field := ⟨R.SE_FLT_SEL c, 8, 2⟩
def F.SE_FLT_DATA_DATA (c : Nat) : Field := ⟨R.SE_FLT_DATA c, 0, 64⟩
def F.SE_THR_STATE (c : Nat) (t : Nat) : Field := ⟨R.SE_THR c t, 0, 2⟩
def F.SE_THR_DEVWORK (c : Nat) (t : Nat) : Field := ⟨R.SE_THR c t, 2, 1⟩
def F.SE_THR_PATTERN (c : Nat) (t : Nat) : Field := ⟨R.SE_THR c t, 4, 12⟩
def F.SE_THR_PC (c : Nat) (t : Nat) : Field := ⟨R.SE_THR c t, 16, 16⟩
def F.SE_THR_SKEINS (c : Nat) (t : Nat) : Field := ⟨R.SE_THR c t, 32, 11⟩
def F.SE_PTAB_ENTRY (c : Nat) (i : Nat) : Field := ⟨R.SE_PTAB c i, 0, 64⟩

/-- The row whose registers include the offset (R458). -/
def RegRow.covers (r : RegRow) (off : Nat) : Bool :=
  decide (r.base ≤ off) && decide ((off - r.base) / r.s1 < r.n1) && decide ((off - r.base) % r.s1 / r.s2 < r.n2) &&
    (off - r.base) % r.s1 % r.s2 == 0

/-- The register row at an 8-byte aligned offset, if any. -/
def rowAt (off : Nat) : Option RegRow := regRows.find? (fun r => r.covers off)

/-- The value a register's fields give it at reset. -/
def RegRow.resetValue (r : RegRow) : Nat := r.fields.foldl (fun v x => v + x.reset * 2 ^ x.lo) 0

/-- The reset value of the register at an offset; zero where there is none (R458). -/
def resetVal (off : Nat) : Word :=
  match rowAt off with
  | some r => BitVec.ofNat 64 r.resetValue
  | none => 0

end Sys2Proof.Machine
end

