-- ==== Sys2Proof/Machine/Types.lean ====
section
/-! DEFINITION. The component types of the machine's state, chapter by chapter of the spec: plain data. -/

namespace Sys2Proof.Machine

/-! ## The part: variant, fitted DRAM, straps, pins -/

/-- The three variants (R2). -/
inductive Variant where
  | sto9600 | sto9400 | sto9200
  deriving DecidableEq, Repr

/-- The straps of R479. -/
structure Straps where
  hbif : Bool
  pairEn : Bool
  plink : Bool
  prefer : Bool
  witness : Bool
  devid : Nat
  deriving DecidableEq, Repr

/-- What is fixed at manufacture or by the board, and the pins (R4, R132, R479, R486). -/
structure Hw where
  variant : Variant
  /-- Fitted DRAM in GiB (HE_BUF_BASE, R465). -/
  dramGib : Nat
  /-- Levels on the strap lands now. -/
  pins : Straps
  /-- Levels sampled at the last conventional reset. -/
  straps : Straps
  serial : Nat
  perst0 : Bool
  powered : Bool
  /-- The control island is held in reset (R486). -/
  ctlReset : Bool
  /-- Always-on supply kept since TBASE started. -/
  aonUp : Bool
  wake : Bool
  deriving DecidableEq, Repr

/-! ## Device modes -/

/-- The eight device modes (R16). -/
inductive Mode where
  | dormant | boot | standby | active | maintenance | flush | halted | witness
  deriving DecidableEq, Repr

/-- Mode codes of DEV_MODE.CUR (R16). -/
def Mode.code : Mode → Nat
  | .dormant => 0 | .boot => 1 | .standby => 2 | .active => 3
  | .maintenance => 4 | .flush => 5 | .halted => 6 | .witness => 7

/-- The mode a code names (R16). -/
def Mode.ofCode (n : Nat) : Mode :=
  match n % 8 with
  | 0 => .dormant | 1 => .boot | 2 => .standby | 3 => .active
  | 4 => .maintenance | 5 => .flush | 6 => .halted | _ => .witness

/-- DEV_MODE's fields that read back (R33), and the conditions a transition in progress waits for (R38, R42). -/
structure ModeReg where
  cur : Mode
  busy : Bool
  tgt : Mode
  reqErr : Bool
  cause : Nat
  /-- A drain of running calls is in progress (R42). -/
  draining : Bool
  /-- Mode before Halted, for the dump header (R453). -/
  prev : Mode
  deriving DecidableEq, Repr

/-! ## Error log, always-on log, health -/

/-- An error log record (R442); TBASE, CLASS, SRC, UNIT, CODE, ADDR, DETAIL, SEQ. Its CRC is computed when read. -/
structure LogRec where
  tbase : Word
  cls : Nat
  src : Nat
  unit : Nat
  code : Nat
  addr : Nat
  detail : BitVec 256
  seq : Nat
  deriving DecidableEq, Repr

/-- The error log (R442): 4,096 slots written in turn; slot of record SEQ is (SEQ − 1) mod 4,096. -/
structure ErrorLog where
  slots : Tbl (Option LogRec)
  next : Nat
  deriving DecidableEq, Repr

/-- A 16-byte record of the always-on log (R444). -/
structure AonRec where
  tbase : Word
  code : Nat
  detail : BitVec 48
  deriving DecidableEq, Repr

/-- The always-on log (R444): up to 256 records, the newest last; `pend` of them not yet copied. -/
structure AonLog where
  recs : List AonRec
  pend : Nat
  ovf : Bool
  deriving DecidableEq, Repr

/-- Corrected errors of one unit in the current 60 s period (R443). -/
structure CorrUnit where
  count : Nat
  lastLog : Option Word
  deriving DecidableEq, Repr

/-- Health counters of a sled (R445, R447), cumulative from enrolment. -/
structure SledHealth where
  corr : Nat
  parity : Nat
  uncorr : Nat
  timeouts : Nat
  temp : Nat
  bins : List Nat
  badInit : Nat
  /-- Events 0x0B and 0x0C already raised for the present crossing (R449). -/
  spareLow : Bool
  wearHigh : Bool
  deriving DecidableEq, Repr

/-- Health counters of the module (R445, R447) and the reports formed (R448). -/
structure Health where
  dramCe : Nat
  dramUe : Nat
  caseBins : List Nat
  critCount : Nat
  sleds : Tbl SledHealth
  seq : Nat
  /-- The newest complete report and the readable copy (R448). -/
  newest : List Byte
  readable : List Byte
  /-- What the health record of the vault holds (R445, R454): module and sled counters at the last save. -/
  savedCe : Nat
  savedUe : Nat
  savedBins : List Nat
  savedSleds : Tbl SledHealth
  /-- TBASE at the newest report, and at the last save of the health record (R445, R448). -/
  formedAt : Word
  savedAt : Word
  deriving DecidableEq, Repr

/-! ## The fatal dump (R452 to R454) -/

/-- A dump as a slot of the vault or the DRAM region holds it: its sequence, the bytes in use, and those of them that are not
zero, by offset. -/
structure Dump where
  dseq : Nat
  partialDump : Bool
  len : Nat
  mem : Mem
  deriving DecidableEq, Repr

/-- Progress of the dump and of the vault image begun on entry into Halted (R452). -/
structure DumpState where
  dseq : Nat
  prevMode : Mode
  tdetect : Word
  /-- The register snapshot section has been captured. -/
  snapshot : Option (List (Nat × Word))
  /-- The vault image of the entry into Halted has committed, or ended having written nothing. -/
  imageEnded : Bool
  imageRunning : Bool
  /-- The dump in DRAM, once its header is written. -/
  inDram : Option Dump
  /-- Vault dump slots 0 and 1. -/
  slot0 : Option Dump
  slot1 : Option Dump
  deriving DecidableEq, Repr

/-! ## The host endpoints (R327 to R353) -/

/-- A 16-byte MSI-X table entry (R347): address, data, vector control bit 0 (mask). -/
structure MsixEntry where
  addr : Nat
  data : Nat
  mask : Bool
  deriving DecidableEq, Repr

/-- Errors reported through AER (R343). -/
inductive AerError where
  | poisonedTlp | completionTimeout | unexpectedCompletion | unsupportedRequest | uncorrectableInternal
  deriving DecidableEq, Repr

/-- How an error is reported through AER (R343). -/
inductive Severity where
  | advisory | nonFatal
  deriving DecidableEq, Repr

/-- D-states (R348). -/
inductive DState where
  | d0 | d1 | d3hot | d3cold
  deriving DecidableEq, Repr

/-- One endpoint's configuration bits, MSI-X table and pending bits (R329, R330, R346 to R353). -/
structure Endpoint where
  memSpace : Bool
  busMaster : Bool
  msixEnable : Bool
  msixFunctionMask : Bool
  atsEnable : Bool
  /-- ACS or page alignment aside, the configuration bits that R346 and R350 read. -/
  l1Enable : Bool
  ltrEnable : Bool
  pmeEnable : Bool
  dstate : DState
  l2Ready : Bool
  table : Tbl MsixEntry
  pba : Tbl Bool
  /-- Configuration requests answer Request Retry Status: a function level reset is in progress (R352). -/
  flrBusy : Bool
  /-- Last LTR value sent, in ticks. -/
  ltrSent : Nat
  /-- The completion timeout that Device Control 2 selects, in ticks (R329). -/
  cto : Nat
  /-- AER status bits, sticky across hot and function level resets (R351). -/
  aerStatus : List AerError
  deriving DecidableEq, Repr

/-- The control bits of a function that configuration writes set and the model reads (R329, R330, R346 to R350): Memory
Space Enable, Bus Master Enable, ASPM L1, LTR Mechanism Enable, PME_En, the completion timeout in ticks. -/
structure ConfigBits where
  memSpace : Bool
  busMaster : Bool
  l1Enable : Bool
  ltrEnable : Bool
  pmeEnable : Bool
  cto : Nat
  deriving DecidableEq, Repr

/-! ## Threads, skeins, programs (R236 to R273) -/

/-- One information word: 4,096 data bytes, the 16-byte protection information slot, 16 bytes of unit metadata (R173,
R243). -/
structure Info where
  data : Mem
  pi : BitVec 128
  mta : BitVec 128
  deriving DecidableEq, Repr

/-- A call a thread holds: ring, entry index and number, the entry's eight argument words, its place in a batch (R238, R304). -/
structure Call where
  ring : Nat
  index : Nat
  num : Nat
  pattern : Nat
  words : List Word
  /-- Number of entries of the batch before this one, for the batch record (R304). -/
  batch : Nat
  deriving DecidableEq, Repr

/-- The parity context a thread binds (R254): the couching entry and the bound handles in parity column order, and the
contributions not yet absorbed. -/
structure ParityCtx where
  entry : Nat
  handles : List Nat
  pendingAdds : Nat
  deriving DecidableEq, Repr

/-- A hoop block staged by STORE and not yet committed (R251). -/
structure Staged where
  array : Nat
  block : Nat
  info : Info
  deriving DecidableEq, Repr

/-- What an outstanding asynchronous instruction waits for (R262). -/
inductive AsyncWait where
  /-- Its outcome is known. -/
  | done
  /-- Host reads still outstanding, with the tags they use. -/
  | host (tags : List Nat)
  /-- Sled reads still outstanding. -/
  | sled (tags : List Nat)
  /-- A PROGRAM of column `column` of couching entry `entry`. -/
  | emit (entry column : Nat)
  /-- An EMIT whose ISSUED bit is not yet durable: the mirror sequence it waits for (R90 step 4). -/
  | emitHeld (seq entry column : Nat) (interim : Bool) (words : List Info)
  /-- A STORE COMMIT waiting for R84: the blocks, and the mirror sequence of the last of them. -/
  | commit (l : List Staged) (seq : Nat)
  /-- A contribution to the parity context (R254 ADD). -/
  | contribution
  /-- A record or delta waiting to be durable, by sequence. -/
  | durable (seq : Nat)
  /-- STRIPE OPEN waiting under R96 or R139: media address, gather lists, source. -/
  | stripeOpen (ma gather source : Nat)
  /-- STRIPE IPNEXT of an entry waiting for an interim band (R137, R258). -/
  | ipnext (entry : Nat)
  /-- FETCH from HOOP or ARRAY behind an earlier STORE COMMIT of the same blocks (R264). -/
  | behind
  /-- SIGNAL SEND behind an earlier STORE COMMIT of the thread (R264): target, word, PC of the instruction. -/
  | sendHeld (target : Nat) (word : Word) (pc : Nat)
  /-- SIGNAL OWNER to another device behind an earlier STORE COMMIT (R264): device, array, band, pattern, argument words. -/
  | callHeld (dev array band pattern : Nat) (words : List Word)
  /-- SIGNAL SEND waiting for a full mailbox: target, word, PC of the instruction. -/
  | mailbox (target : Nat) (word : Word) (pc : Nat)
  /-- SIGNAL CALL or OWNER waiting for a free device-work thread: cluster, pattern, argument words (R260). -/
  | queued (cluster pattern : Nat) (words : List Word)
  /-- A started thread's status, by identity. -/
  | started (ident : Nat)
  /-- A call handed to another device. -/
  | remote (devid : Nat)
  /-- TIMER: the TBASE at which it completes. -/
  | timer (until_ : Nat)
  /-- Parity unit contributions of the context still to absorb. -/
  | absorb
  deriving DecidableEq, Repr

/-- Where a FETCH's data goes and what it has reported so far (R249, R250): space, handle, first skein, number of blocks,
address, array, flags; reads still outstanding, highest step, unrecoverable codewords, status. -/
structure Xfer where
  space : Nat
  handle : Nat
  first : Nat
  count : Nat
  addr : Nat
  array : Nat
  piint : Bool
  side : Bool
  assist : Bool
  left : Nat
  step : Nat
  unrec : Nat
  status : Nat
  /-- Codewords decoded with parity (R177, R280 VERIFY). -/
  assisted : Nat
  deriving DecidableEq, Repr

/-- An outstanding asynchronous instruction (R262, R263). -/
structure AsyncOp where
  id : Nat
  counter : Nat
  /-- Its outcome register, none where it writes none; `some 0` directs the status to the sticky outcome. -/
  dreg : Option Nat
  wait : AsyncWait
  outcome : Nat
  /-- Handles it writes, and reads. -/
  wr : List Nat
  rd : List Nat
  /-- TBASE at issue. -/
  since : Nat
  xfer : Option Xfer
  deriving DecidableEq, Repr

/-- What a thread that has issued its instruction waits for before it goes on (R244, R257, R259, R260, R307). -/
inductive Wait where
  | none
  | skalloc (handle count : Nat)
  | maplock (array grain : Nat)
  | waitev (dreg counters : Nat) (mbox any : Bool) (limit : Nat)
  | post
  | halt
  /-- The thread has ended; its asynchronous instructions are still completing (R268). -/
  | ending
  /-- The thread has faulted; its asynchronous instructions are still completing: status, trap code, PC, instruction (R268). -/
  | faulting (status trap pc : Nat) (word : Word)
  /-- A device-work thread on which firmware does the work of a call thread's administration call (R276). -/
  | serving (caller : Nat)
  deriving DecidableEq, Repr

/-- Where a Pattern Book program stands that runs natively (log entry 26; R274 to R288): its stage, the blocks or grains done and
those of the present run, the worst status so far, the block at which it stopped with its status, the result counted, the spans
of the run that wait, each by instruction, first block and length, the outcomes that came with the codewords decoded with parity,
the first block whose part of a spanning call failed, the device and part for which it runs, the blocks that came with that part,
the outcome of the pricking engine. -/
structure BookRun where
  stage : Nat
  pos : Nat
  n : Nat
  status : Nat
  stop : Option (Nat × Nat)
  result : Nat
  parts : List (Nat × Nat × Nat)
  outs : List (Nat × Nat × Nat)
  bad : Option Nat
  origin : Option (Nat × Nat)
  words : List Info
  ended : Option (Nat × Nat)
  /-- The device-work thread on which firmware does the call's work (R276). -/
  helper : Option Nat
  /-- The blocks of a READ's run that failed their guard are being decoded again (R187): the parts that the run had before. -/
  again : Option Nat
  deriving DecidableEq, Repr

/-- A thread (R236). Unlisted registers and handles read as zero and empty. -/
structure Thread where
  running : Bool
  pattern : Nat
  base : Nat
  length : Nat
  pc : Nat
  regs : Tbl Word
  preds : Nat
  handles : Tbl (List Nat)
  counters : Tbl Nat
  mailbox : List Word
  sticky : Nat
  budget : Nat
  ctx : Option ParityCtx
  staged : List Staged
  locks : List (Nat × Nat)
  asyncs : List AsyncOp
  nextId : Nat
  wait : Wait
  /-- TBASE when the present wait began. -/
  waitSince : Nat
  calls : List Call
  /-- Permissions H, L, D, M, X in bits 0 to 4 (R266). -/
  perm : Nat
  /-- The submission ring whose entry started a call thread (R238). -/
  ring : Nat
  /-- Couching entries this thread opened (R258). -/
  entries : List Nat
  /-- Identity of the thread whose SIGNAL started this one, and its instruction's id. -/
  starter : Option (Nat × Nat)
  /-- Device work this thread runs, for the third-fault rule (R268): work number. -/
  work : Nat
  /-- Host STOREs of the thread not yet complete (R261 POST). -/
  hostStores : Nat
  /-- READ, FLUSH and other calls in the Pattern Book: sequence up to which step 6 must cover (R97). -/
  covers : Nat
  /-- Progress of a Pattern Book program. -/
  book : BookRun
  /-- Entries that the thread itself abandoned (R258). -/
  dropped : List Nat
  /-- A STORE COMMIT of the thread ended without entering its blocks when the lease was lost (R393). -/
  lapsed : Bool
  deriving DecidableEq, Repr

/-- A record of a cluster's fault log: four words (R268, R273). -/
structure FaultRec where
  w0 : Word
  w1 : Word
  w2 : Word
  w3 : Word
  deriving DecidableEq, Repr

/-- An extent of program memory that holds a loaded image (R272, R273). -/
structure Extent where
  pattern : Nat
  base : Nat
  length : Nat
  /-- Replaced or unloaded: freed when its last thread ends. -/
  retired : Bool
  deriving DecidableEq, Repr

/-! ## Rings (R290 to R312) -/

/-- An entry copied from a submission ring (R292): its index, its number among the entries taken from the ring since it was enabled
(two entries in flight may have the same index), and its eight words. -/
structure Entry where
  index : Nat
  num : Nat
  words : List Word
  deriving DecidableEq, Repr

/-- One entry of a batch not yet recorded (R304, R305): its status and result once it is complete. -/
structure BatchEntry where
  index : Nat
  num : Nat
  tag : Nat
  irq : Bool
  done : Option (Nat × Nat)
  deriving DecidableEq, Repr

/-- A batch: the entries since the previous record; closed once its last entry has been fetched (R304). -/
structure Batch where
  entries : List BatchEntry
  closed : Bool
  deriving DecidableEq, Repr

/-- What a submission ring holds beside its registers (R300): entry reads outstanding, entries whose data came before an
older one's, entries fetched and not yet dispatched, batches not yet recorded, oldest first; entries taken since it was enabled. -/
structure SubRing where
  count : Nat
  reads : List Nat
  early : List Entry
  fetched : List Entry
  batches : List Batch
  deriving DecidableEq, Repr

/-- A 16-byte completion record as formed (R303); P is added when it is written. `slotIdx` is the submission index for
an in-place record. -/
structure CplRec where
  status : Nat
  tag : Nat
  result : Nat
  sq : Nat
  sqhead : Nat
  count : Nat
  more : Bool
  irq : Bool
  slotIdx : Nat
  tags : List Nat
  deriving DecidableEq, Repr

/-- A result that waits for room in a holding area: the thread at POST, and the entries it completes (R306). -/
structure Stalled where
  th : Nat
  ring : Nat
  calls : List Call
  status : Nat
  result : Nat
  deriving DecidableEq, Repr

/-- What a completion ring holds beside its registers (R306 to R308). -/
structure CplRing where
  holding : List CplRec
  stalled : List Stalled
  /-- Records with IRQ written since the last message, and TBASE at the first of them. -/
  coalN : Nat
  coalSince : Option Word
  deriving DecidableEq, Repr

/-! ## Sled commands (R358 to R367) -/

/-- A command to a sled with its body (R359, R361). A PROGRAM's codewords are its information words; the LDPC parity is the
encoder's (R176). -/
inductive SledKind where
  | identify
  | read (block page cw level ncw : Nat)
  | program (block page npage : Nat) (words : List Info)
  | erase (block : Nat) (slc : Bool)
  | status
  | power (op : Nat)
  | claim
  | setTime (t : Word)
  | log (op index : Nat) (record : List Byte)
  deriving DecidableEq, Repr

/-- Whose share of a member's rates a sled command counts in (R210, R230, R283): any other, garbage collection, rebuild, reshape,
scrub. -/
inductive Share where
  | other | gc | rebuild | reshape | scrub
  deriving DecidableEq, Repr

/-- Why a sled command was sent. -/
inductive Purpose where
  /-- Key `col` of read job `job`: a column, or 64 + a parity column whose interim syndrome is read (R183). -/
  | read (job col : Nat)
  /-- An EMIT: thread, instruction, couching entry, column, interim. -/
  | emit (th id entry column : Nat) (interim : Bool)
  /-- An erase of a band's block; `again` after a first timeout. -/
  | erase (array band block : Nat) (again : Bool)
  /-- A strip of a map checkpoint stripe (R128). -/
  | checkpoint (array band column : Nat)
  /-- Enumeration and enrolment of the hop; nothing else waits for it. -/
  | hop (step : Nat)
  /-- A configuration write of an ARM, of a retirement, or of another record. -/
  | config (what : Nat)
  | none
  deriving DecidableEq, Repr

/-- An outstanding sled command: its port and tag key it; hop and, where the sled is enrolled, its number; claim; TBASE at
sending and at its timeout; a reissue. -/
structure SledCmd where
  hop : Nat
  sled : Option Nat
  kind : SledKind
  array : Nat
  scope : Bool
  claim : Nat
  issued : Word
  timedOut : Option Word
  again : Bool
  purpose : Purpose
  share : Share
  /-- Outstanding at a moment while the link to the sled was down (R198). -/
  underLoss : Bool
  /-- NOT_READY answered it: it goes out again 10 ms after this TBASE (R367). -/
  heldSince : Option Word
  deriving DecidableEq, Repr

/-! ## Prickings (R58 to R79, R495) -/

/-- States of a pricking slot (R63). -/
inductive SlotState where
  | empty | loaded | bound | armed | retiring
  deriving DecidableEq, Repr

/-- Codes of PRK_SLOTS (R63). -/
def SlotState.code : SlotState → Nat
  | .empty => 0 | .loaded => 1 | .bound => 2 | .armed => 3 | .retiring => 4

/-- A pricking slot: its state and the 512 bytes it holds. -/
structure Slot where
  state : SlotState
  image : List Byte
  deriving DecidableEq, Repr

/-- Commands of the pricking engine (R65). -/
inductive PrkOp where
  | load | bind | arm | drop
  deriving DecidableEq, Repr

/-- The command or call that the pricking engine runs (R65, R68): with the call's thread, its outcome once decided, and
the members whose configuration write an ARM still waits for. -/
structure PrkRun where
  op : PrkOp
  slot : Nat
  image : List Byte
  /-- The thread of the call, none for a register command. -/
  th : Option Nat
  /-- ARRAY_CREATE's own fields: array, grain code, PI format, PI type, grains, band limit. -/
  create : Option (Nat × Nat × Nat × Nat × Nat × Nat)
  /-- Members whose configuration write has not been acknowledged, and one that failed (R65). -/
  waits : List Nat
  failed : Bool
  /-- Its outcome and the MIRROR sequence that the standby must confirm before BUSY clears (R72). -/
  done : Option (Nat × Nat)
  /-- A function level reset cleared PRK_STAT while it ran (R79). -/
  silent : Bool
  /-- Its image is read and its checks are made: not yet while a call still reads and checks (R68). -/
  ready : Bool
  deriving DecidableEq, Repr

/-- A retirement marker (R495). -/
structure Marker where
  array : Nat
  generation : Nat
  tbase : Word
  deriving DecidableEq, Repr

/-- The pricking engine, the slots and the generation marks (R61, R63 to R68). -/
structure PrkState where
  slots : Tbl Slot
  marks : Tbl Nat
  run : Option PrkRun
  /-- Retirement markers not yet acknowledged, by slot and sled (R232, R495). -/
  markerWaits : List (Nat × Nat)
  /-- Switch-overs begun: the slot and the sleds to be released (R232). -/
  switching : List (Nat × List Nat)
  /-- The newest retirement marker of each array in the vault's configuration area (R495). -/
  markers : List Marker
  /-- ARMED and RETIRING slots whose copy in the vault failed its CRC at boot: a sled's copy restores them (R62). -/
  unread : List (Nat × Slot)
  deriving DecidableEq, Repr

/-! ## Arrays, bands, erase blocks (R110 to R151) -/

/-- What an array has beside its registers: protection information format and type (R184, R285), its scrub, and its rates. -/
structure ArrayInfo where
  pifmt : Nat
  pitype : Nat
  /-- Whether a scrub runs, the stripe it reads next, and whether one has ended (R283). -/
  scrubRun : Bool
  scrubBand : Nat
  scrubStripe : Nat
  scrubDone : Bool
  /-- ARR_RB_CTL and ARR_RS_CTL as the present interval takes them (R210, R230). -/
  rbRate : Nat
  rsRate : Nat
  deriving DecidableEq, Repr

/-- Kinds of band (R119). -/
inductive BandKind where
  | host | reloc | fastGround | interim | mapCkpt
  deriving DecidableEq, Repr

/-- States of a band (R119). -/
inductive BandState where
  | free | open_ | closed | erasing
  deriving DecidableEq, Repr

/-- A band record (R119), whether a rebuild or reshape reads it (R140), the blocks that failed a program (R145), and those erased
since it became ERASING (R150). Its cluster is computed, not recorded (R8). -/
structure Band where
  state : BandState
  kind : BandKind
  pfail : Bool
  early : Bool
  lost : Bool
  generation : Nat
  valid : Nat
  next : Nat
  tclose : Word
  blocks : List Nat
  reading : Bool
  /-- Member indices whose block failed a program (R145). -/
  pfailed : List Nat
  /-- Member indices whose block has been erased while the band is ERASING (R150). -/
  erased : List Nat
  deriving DecidableEq, Repr

/-- An erase block word (R121). -/
structure EWord where
  erases : Nat
  state : Nat
  pslc : Bool
  deriving DecidableEq, Repr

/-! ## Hoop, couching table, bitmap (R80 to R109, R493) -/

/-- A version of a grain in the hoop (R94): its blocks by number within the grain, those the host wrote, the couching
entry of the stripe it has entered, whether it has passed step 6. -/
structure Version where
  array : Nat
  grain : Nat
  seq : Nat
  blocks : Tbl Info
  dirty : List Nat
  since : Word
  /-- Gathering place it has entered: (cluster, Fast Ground). -/
  gathered : Bool
  entry : Option Nat
  step6 : Bool
  deriving DecidableEq, Repr

/-- A couching entry (R100). -/
structure CEntry where
  state : Nat
  array : Nat
  ipv : Bool
  source : Nat
  generation : Nat
  band : Nat
  stripe : Nat
  issued : Nat
  acked : Nat
  eseq : Nat
  iploc : Nat
  ipcover : Nat
  ipnext : Nat
  topen : Nat
  /-- Thread that opened it. -/
  owner : Nat
  /-- Interim columns acknowledged for IPNEXT. -/
  ipacked : Nat
  /-- Sequences of regathered grains whose step 6 an ABANDONED entry waits for (R107). -/
  awaits : List Nat
  deriving DecidableEq, Repr

/-- A gathering stripe (R92, R93, R98): the grains placed in it in order, as (grain, sequence), and, once it has been
forced out or has opened, its couching entry and the blocks forced so far. -/
structure Gather where
  grains : List (Nat × Nat)
  extent : Nat
  entry : Option Nat
  deriving DecidableEq, Repr

/-- A full or forced gathering stripe whose stripe writer is due (R95, R98): array, cluster, Fast Ground, grains, forced
extent in blocks where it is not full. -/
structure StripeJob where
  array : Nat
  cluster : Nat
  fastGround : Bool
  grains : List (Nat × Nat)
  forced : Option Nat
  entry : Option Nat
  deriving DecidableEq, Repr

/-- A map delta (R125): kind 1, 2 or 3. -/
structure Delta where
  pos : Nat
  kind : Nat
  array : Nat
  key : Nat
  value : Word
  deriving DecidableEq, Repr

/-- The delta log (R126 to R128): deltas held, next position, positions below `durable` durable, the running epoch's start
position, TBASE of the last epoch start, appended since. -/
structure DeltaLog where
  deltas : List Delta
  next : Nat
  durable : Nat
  epochStart : Nat
  epochRun : Bool
  lastEpoch : Word
  appended : Bool
  /-- The running epoch's directory has been sent to the vault and the copy sleds. -/
  dirSent : Bool
  /-- Segments changed since the previous epoch started: array · 2^24 + segment. -/
  segments : List Nat
  /-- The committed directory's coverage: deltas below this position are in checkpoints. -/
  committed : Nat
  /-- The map as the committed segments hold it (R128, R131). -/
  segs : Tbl Word
  /-- The committed segment directory, and that of the running epoch: (array of the band · 2^40 + segment) and
  PGA; a segment is array · 2^24 + number (R128). -/
  dir : List (Nat × Nat)
  newDir : List (Nat × Nat)
  /-- The map as the running epoch writes it. -/
  newSegs : Tbl Word
  /-- PROGRAMs of checkpoint stripes outstanding, and one of them failed. -/
  ckptLeft : Nat
  /-- Segments of the running epoch still to be written. -/
  pendSegs : List Nat
  ckptFailed : Bool
  /-- An epoch asked for while another runs starts when that one commits (R208, R220, R224). -/
  again : Bool
  deriving DecidableEq, Repr

/-- Couching replication (R101 to R103): pages changed since their last record, next RSEQ, RSEQs acknowledged by each
copy, bands waiting for a KIND 2 record and its RSEQ. -/
structure Replication where
  dirtyPages : Nat
  nextRseq : Nat
  acks : Tbl Nat
  openList : List (Nat × Nat)
  lastSync : Word
  /-- Deltas at positions below this one have been written to the copy sleds. -/
  deltaSent : Nat
  /-- RSEQ that a copy sled must acknowledge before it counts as holding the newest records (R220). -/
  joinAt : Tbl Nat
  /-- The lost-grain table or the lost-stripe log has changed since it was last written to the copy sleds (R216). -/
  lostDirty : Bool
  /-- Relocation stripes closed per array · 8 + cluster that no urgent host stripe has used (R139). -/
  relocClosed : Tbl Nat
  deriving DecidableEq, Repr

/-- Resynchronisation (R107): regions still to visit and how many there were. -/
structure Resync where
  left : List Nat
  total : Nat
  /-- The first region's complete stripes are being read (R493). -/
  begun : Bool
  deriving DecidableEq, Repr

/-- A grain that a stripe carries: its sequence for host data, the PGA it was read from for a copy (R142), and whether a block
of it is marked. -/
structure WorkGrain where
  grain : Nat
  key : Nat
  poisoned : Bool
  deriving DecidableEq, Repr

/-- Where a stripe that the device writes itself stands in R90 and R98: gathering, an extent of so many blocks forced out, its
last columns out, or its deltas written with the mirror sequence they wait for. -/
inductive WorkStage where
  | idle
  | extent (blocks : Nat)
  | final
  | closing (seq : Nat)
  deriving DecidableEq, Repr

/-- A stripe that the device's own stripe writer carries through R90: its couching entry and that entry's sequence, its grains
in stripe order, its data words in data order as far as they are issued, the grains past step 6, the PROGRAMs outstanding. -/
structure StripeWork where
  entry : Nat
  eseq : Nat
  array : Nat
  cluster : Nat
  fastGround : Bool
  grains : List WorkGrain
  words : List Info
  mapped : Nat
  left : Nat
  stage : WorkStage
  deriving DecidableEq, Repr

/-- A PROGRAM whose ISSUED bit is not yet durable (R90 step 4): the mirror sequence it waits for, its column, the first codeword
and the words. -/
structure HeldProgram where
  seq : Nat
  entry : Nat
  column : Nat
  interim : Bool
  first : Nat
  words : List Info
  deriving DecidableEq, Repr

/-- A grain read for relocation (R141, R207, R228, R283): where it was read, its words, whether one is lost or marked. -/
structure CopyGrain where
  grain : Nat
  src : Nat
  poisoned : Bool
  words : List Info
  deriving DecidableEq, Repr

/-- A stripe that rebuild, reshape or scrub has read and whose copies are not all past step 6 (R207, R228): array, band, stripe,
and the couching SOURCE of its copies. -/
structure StripeRead where
  array : Nat
  band : Nat
  stripe : Nat
  source : Nat
  deriving DecidableEq, Repr

/-- A STORE COMMIT's bank wait (R86): ticks summed while the bank was not healthy. -/
structure BankWait where
  th : Nat
  sum : Nat
  since : Option Word
  deriving DecidableEq, Repr

/-- The hoop and its companions (R80). -/
structure Hoop where
  versions : List Version
  nextSeq : Nat
  /-- Newest sequence that passed step 6, per array · 2^40 + grain (R94). -/
  passed : Tbl Nat
  entries : Tbl CEntry
  eseq : Nat
  gathers : Tbl Gather
  /-- Stripe writers due, oldest first. -/
  jobs : List StripeJob
  bitmap : Tbl Bool
  resync : Option Resync
  repl : Replication
  bankWaits : List BankWait
  /-- What a copy sled's logs hold is outside the device; the newest TBASE used in a recovery (R109). -/
  lossTbase : Option Word
  /-- Bands, by array and number, whose stripes are to be checked after a loss of the hoop (R109). -/
  checks : List (Nat × Nat)
  /-- Stripes that the device's own stripe writer carries, and PROGRAMs that wait for their ISSUED bits (R90). -/
  works : List StripeWork
  held : List HeldProgram
  /-- Relocation gathering stripes: key (array · 8 + cluster) · 4 + SOURCE (R141). -/
  copyGather : Tbl (List CopyGrain)
  /-- Garbage collection victims by array · 8 + cluster; 2^21 none (R140). -/
  victims : Tbl Nat
  /-- Stripes read by rebuild, reshape or scrub and not yet done (R207, R212). -/
  reads : List StripeRead
  deriving DecidableEq, Repr

/-! ## The map and its cache (R114 to R172) -/

/-- An entry of the lost-grain table (R216). -/
structure LostGrain where
  array : Nat
  grain : Nat
  vseq : Nat
  deriving DecidableEq, Repr

/-- A record of the lost-stripe log (R218). -/
structure LostStripe where
  array : Nat
  found : Nat
  generation : Nat
  band : Nat
  stripe : Nat
  lostCols : Nat
  firstIdx : Nat
  badIdx : Nat
  grains : Nat
  tbase : Word
  firstGrain : Nat
  lseq : Nat
  deriving DecidableEq, Repr

/-- A unit that waits for a lost-unit scan, and the VSEQs of the grains that accepted codewords of its stripe name (R215). -/
structure ScanUnit where
  array : Nat
  pga : Nat
  vseqs : List (Nat × Nat)
  deriving DecidableEq, Repr

/-- The lost-grain table, the lost-stripe log and the units that wait for a lost-unit scan (R215 to R218). -/
structure LostTables where
  grains : List LostGrain
  stripes : List LostStripe
  lseq : Nat
  scans : List ScanUnit
  deriving DecidableEq, Repr

/-- A Map Cache line (R152): valid, tag (array · 2^40 + line number), dirty, its eight entries, and whether its first
requester has still to be served after a write-back (R157). -/
structure CacheLine where
  valid : Bool
  tag : Nat
  dirty : Bool
  entries : List Word
  fresh : Bool
  deriving DecidableEq, Repr

/-- A set that waits for the acknowledgement of a victim's write-back, and the line its fill is for (R157). -/
structure WriteBack where
  set : Nat
  way : Nat
  tag : Nat
  deriving DecidableEq, Repr

/-- A maintenance command of the range engine (R159): its range, the ways it may use, and the lines it has loaded. -/
structure MaintRun where
  op : Nat
  all : Bool
  array : Nat
  first : Nat
  len : Nat
  ways : Nat
  pos : Nat
  deriving DecidableEq, Repr

/-- A way's corrected-error window (R171). -/
structure WayEcc where
  count : Nat
  start : Word
  deriving DecidableEq, Repr

/-- The Map Cache beside its registers (R152 to R172). -/
structure MapCache where
  lines : Tbl CacheLine
  plru : Tbl Nat
  waits : List WriteBack
  run : Option MaintRun
  preSince : Word
  ecc : Tbl WayEcc
  deriving DecidableEq, Repr

/-! ## Sleds and ports (R354 to R379) -/

/-- An enrolled sled (R364, R373, R374): where it is, its identity and geometry, and its declared failure (R197). -/
structure Sled where
  enrolled : Bool
  port : Nat
  hop : Nat
  uid : BitVec 128
  blocks : Nat
  bpc : Nat
  cwp : Nat
  ppb : Nat
  cycles : Nat
  failed : Bool
  cause : Nat
  tfail : Nat
  reachable : Bool
  /-- Its link is lost since this TBASE, for cause 1 (R196, R491). -/
  lostSince : Option Word
  /-- Declared failed with cause 1 or 4 and not yet reset: the reset is part of its re-enumeration (R199). -/
  resetDue : Bool
  /-- TBASE of the read timeouts in the present window (R198). -/
  timeouts : List Word
  /-- Member data rates of this interval (R210). -/
  allUsed : Nat
  shareUsed : Nat
  reshapeUsed : Nat
  qdepth : Nat
  /-- Of garbage collection's and reshape's commands to the sled, garbage collection's was the last (R230). -/
  lastGc : Bool
  /-- Last NOT_READY, and the first of an unbroken series (R367). -/
  notReady : Option Word
  notReadySince : Option Word
  /-- Times of R361 for the limits of R367, in ticks. -/
  tprog : Nat
  terase : Nat
  rdMbps : Nat
  wrMbps : Nat
  cyclesSlc : Nat
  /-- Blocks bad from manufacture (R446). -/
  bad : Nat
  cfgRecords : Nat
  deriving DecidableEq, Repr

/-- Stages of a hop's enumeration (R369, R374): not powered or link not trained, trained, IDENTIFY sent, SET_TIME and CLAIMs
sent, STATUS sent, record 0 being read, done. -/
inductive HopStage where
  | off | training | trained | identify | setup | status | record | done
  deriving DecidableEq, Repr

/-- A filtered input of the Bay bus (R377): last sample, equal samples in a row, debounced level, TBASE of its changes within
the last second, and whether it is flagged CHATTER. -/
structure BayInput where
  last : Bool
  same : Nat
  level : Bool
  changes : List Word
  chatter : Bool
  deriving DecidableEq, Repr

/-- An ENROL in progress (R374): the number assigned, its step, and the log data read. -/
structure EnrolRun where
  number : Nat
  step : Nat
  wear : List Byte
  bad : List Byte
  deriving DecidableEq, Repr

/-- A hop of a Bobbin port beside its registers (R354 to R379). -/
structure Hop where
  stage : HopStage
  /-- The sled as its last IDENTIFY reported it (R364); its number is in BP_HOP_STAT. -/
  ident : Option Sled
  /-- Record 0 as read at enumeration. -/
  record : List Byte
  /-- TBASE of the first IDENTIFY answer while the sled reports STATE 1, and of the last STATUS poll. -/
  initSince : Option Word
  lastPoll : Word
  /-- The link to the sled is lost since this TBASE (R196). -/
  downSince : Option Word
  poweredAt : Option Word
  retried : Bool
  /-- Powered off for 1 s after a failed training since this TBASE (R378). -/
  offSince : Option Word
  /-- The sled reported a fatal state that no judgement has acted on (R491). -/
  fatal : Bool
  /-- The sled in the bay has been declared failed and is still present (R379). -/
  failedHere : Bool
  enrol : Option EnrolRun
  presence : BayInput
  attention : BayInput
  /-- Debounced attention asserted since this TBASE (R377). -/
  attnSince : Option Word
  deriving DecidableEq, Repr

/-- The Bobbin side beside the ports (R369, R376): hops by 4 · port + hop, polls that each expander has missed in a row, TBASE of
the last poll, of the last SET_TIME, and at the start of the present interval of R210. -/
structure BobbinState where
  hops : Tbl Hop
  missed : Tbl Nat
  lastPoll : Word
  lastSetTime : Word
  lastRate : Word
  deriving DecidableEq, Repr

/-- A frame as it arrives (R355, R356): an idle frame or one with a sequence number, its header, whether it had an uncorrectable
codeword, and whether a codeword was corrected. -/
structure Frame where
  idle : Bool
  fseq : Nat
  ackseq : Nat
  nak : Bool
  good : Bool
  corrected : Bool
  deriving DecidableEq, Repr

/-- What an RDATA packet brings (R361, R365): the 4,640 raw bytes of a codeword or of one of its soft planes, by offset, a byte that
is not listed being zero; or bytes of a log. -/
inductive ReadData where
  | codeword (raw : Mem)
  | log (bytes : List Byte)
  deriving DecidableEq, Repr

/-! ## Messages sent -/

/-- A witness message (R388): code, pair, unit, claim, sequence, body. Its FMT, LEN and CRC are formed when it is sent. -/
structure WitMsg where
  wcode : Nat
  pair : Nat
  unit : Nat
  claim : Nat
  seq : Nat
  body : List Byte
  deriving DecidableEq, Repr

/-- A unit's health report (R401). -/
structure PairReport where
  state : Nat
  failed : Nat
  bankMf : Nat
  temp : Nat
  syncPm : Nat
  confSeq : Nat
  ce : Nat
  ue : Nat
  deriving DecidableEq, Repr

/-- An item mirrored to the standby (R384): a hoop block with its version sequence, a delta, a couching entry, a bitmap bit, a
register, a pricking slot, a generation mark, a band record, an erase block word, a sled's record, the lost tables. -/
inductive MirrorItem where
  | block (array blk seq : Nat) (i : Info)
  | delta (d : Delta)
  | entry (e : Nat) (x : CEntry)
  | region (r : Nat) (b : Bool)
  | reg (off : Nat) (w : Word)
  | slot (i : Nat) (x : Slot)
  | mark (a g : Nat)
  | band (k : Nat) (x : Band)
  | eword (k : Nat) (x : EWord)
  | sled (n : Nat) (x : Sled)
  | lost (l : LostTables)
  | array (a : Nat) (x : ArrayInfo)
  /-- A version of the hoop as it stands, and versions released (R384, R385). -/
  | version (v : Version)
  | drop (seqs : List Nat)
  /-- Deltas released by a committed epoch, up to a position, and the directory committed (R128). -/
  | released (upTo : Nat) (dir : List (Nat × Nat))
  /-- The delta log and the committed directory as they stand (log entry 80). -/
  | dlog (l : DeltaLog)
  /-- An ARM commit as a whole: the slot that becomes RETIRING, the slot armed with its image, the array and the mark (R65, R77). -/
  | armed (old : Option (Nat × Slot)) (slot : Nat) (x : Slot) (array gen : Nat)
  /-- A retirement marker of the vault (R232, R495). -/
  | marker (m : Marker)
  /-- Blocks mirrored for a commit that stores nothing: array and block (R86, R87). -/
  | unstage (l : List (Nat × Nat))
  /-- An array deleted (R286). -/
  | deleted (a : Nat)
  /-- Map entries of a segment: key (array, grain) as the map holds it (R398). -/
  | segment (entries : List (Nat × Word))
  /-- The sequence number that the next version takes, and those that passed step 6 (R94). -/
  | sequences (next : Nat) (passed : List (Nat × Nat))
  deriving DecidableEq, Repr

/-! ## Federation (R402 to R411) -/

/-- What a message on a federation link carries (R260, R407, R410, R411): a part of a block call with its argument word 1, blocks,
FUA and the blocks a WRITE brings; its answer, with status, result and the blocks a READ asked for; a pattern to start for SIGNAL
OWNER and its answer; the question for FED_SPAN and the answer, with GRAIN, PIFMT, PITYPE and GRAINS of an array that exists; a
member's health report for the coordinator (R408). -/
inductive FedBody where
  | part (pattern : Nat) (w1 : Word) (block count : Nat) (fua : Bool) (words : List Info)
  | partDone (status result : Nat) (words : List Info)
  | start (array band pattern : Nat) (words : List Word)
  | startDone (status : Nat)
  | span (array : Nat)
  | report (bytes : List Byte)
  | spanIs (mask : Nat) (present : Option (Nat × Nat × Nat × Nat))
  deriving DecidableEq, Repr

/-- A message of a spanning call on the link of a device, and the number of the part it belongs to. -/
structure FedMsg where
  dev : Nat
  id : Nat
  body : FedBody
  deriving DecidableEq, Repr

/-- FED_HELLO (R407): DEVID, pair identity, DEV_MODE.CUR, view. -/
structure FedHello where
  dev : Nat
  pair : Option (Nat × Nat)
  mode : Nat
  view : Nat
  deriving DecidableEq, Repr

/-- The federation beside its registers (R405 to R411): TBASE at which the device released FED_SYNC, whether an election runs and
since when the view is stable, what each link's HELLO said, TBASE of the last time mark sent and latched, parts that wait for a
thread, the part of a call that a thread's instruction waits for, members' health reports with TBASE at their arrival. -/
structure FedState where
  released : Option Word
  electing : Bool
  stable : Word
  peers : Tbl FedHello
  lastMark : Word
  latch : Word
  queue : List FedMsg
  nextId : Nat
  waits : Tbl (Nat × Nat)
  reports : Tbl (Word × List Byte)
  /-- DEVIDs seen in any view since the conventional reset (R409). -/
  seen : Nat
  deriving DecidableEq, Repr

/-- An answer of the SPDM responder (R419): version 1.2; capabilities; the algorithms chosen among those offered (signature, hash,
measurement hash, measurement specification); digests by slot; a portion of the certificate chain and what remains of it; the
answer to a challenge; measurement blocks by index, type and digest, or only their number, with a signature where one is asked for;
ERROR UnsupportedRequest; another ERROR. -/
inductive SpdmAnswer where
  | version (v : Nat)
  | capabilities (cert chal : Bool) (meas : Nat) (fresh session : Bool)
  | algorithms (ecdsaP384 sha384 measSha384 dmtf : Bool)
  | digests (l : List (Nat × BitVec 384))
  | certificate (portion : List Byte) (remainder : Nat)
  | challengeAuth (chain : BitVec 384) (summary : Option (BitVec 384)) (signature : BitVec 768)
  | measurements (count : Nat) (blocks : List (Nat × Nat × BitVec 384)) (signature : Option (BitVec 768))
  | unsupportedRequest
  | error (code : Nat)
  deriving DecidableEq, Repr

/-- What the device sends on its interfaces (log entry 9): the model's own record of it, oldest first. -/
inductive OutMsg where
  /-- An MSI-X message of an endpoint: vector, address, data. -/
  | msix (ep vector addr data : Nat)
  | pmPme (ep : Nat)
  | aer (ep : Nat) (kind : AerError) (severity : Severity)
  /-- A memory write on the host link: address, untranslated, with EP, relaxed ordering (R339), bytes. `xl` lists the translated pages of
  an access that uses cached translations. -/
  | hostWrite (ep addr : Nat) (ats ep_ relaxed : Bool) (xl : List Nat) (bytes : List Byte)
  /-- A memory read on the host link: tag, address, untranslated, relaxed ordering, length. -/
  | hostRead (ep tag addr : Nat) (ats relaxed : Bool) (xl : List Nat) (length : Nat)
  /-- An ATS translation request for `pages` pages from an address (R345). -/
  | atsRequest (ep tag addr pages : Nat)
  /-- A command to a sled: port, tag, hop, command, array, scope, claim (R358). -/
  | sled (port tag hop : Nat) (kind : SledKind) (array : Nat) (scope : Bool) (claim : Nat)
  /-- A MIRROR item with its sequence number, on the pair link (R384, R385). -/
  | mirror (seq : Nat) (item : MirrorItem)
  /-- CONFIRM up to a sequence number, and the request to send a block again (R187, R385). -/
  | confirm (seq : Nat)
  | resend (seq : Nat)
  /-- SYNC of a phase, with its items (R398). -/
  | sync (phase : Nat) (items : List MirrorItem)
  /-- RENEW and its answer (R391). -/
  | renew (answer : Bool)
  /-- The health report on the pair link, and the request to hand over (R400, R401). -/
  | pairHealth (r : PairReport)
  | failback
  /-- A witness message (R388, R389). -/
  | wit (m : WitMsg)
  /-- A couching record written to a copy sled's log: sled, sequence, the record's codewords (R101, R103, R174). -/
  | copyRecord (sled rseq : Nat) (words : List Info)
  /-- Map deltas written to a copy sled's log, as codewords (R103, R126, R174). -/
  | copyDeltas (sled : Nat) (words : List Info)
  /-- The lost-grain table and the lost-stripe log written to a copy sled, as codewords (R174, R216, R218). -/
  | copyTables (sled : Nat) (grains stripes : List Info)
  /-- A segment directory written to a copy sled's log, with its codewords, or to the vault (R128, R174). -/
  | directory (sled : Option Nat) (dir : List (Nat × Nat)) (words : List Info)
  /-- A completion to a BAR read: its bytes, with EP (R333, R344). -/
  | completion (ep : Nat) (bytes : List Byte) (ep_ : Bool)
  /-- An Unsupported Request completion (R333). -/
  | unsupported (ep : Nat)
  /-- An Invalidate Completion (R346). -/
  | invalidated (ep itag : Nat)
  /-- An LTR message, in ticks (R350). -/
  | ltr (ep ticks : Nat)
  /-- The answer to a management message of type 0x7E: its code and body (R450). -/
  | management (wcode : Nat) (body : List Byte)
  /-- An SPDM answer over MCTP (R419), and the answer to an MCTP control command: binding, command, completion code, body (R420). -/
  | spdm (a : SpdmAnswer)
  | mctp (binding cmd code : Nat) (body : List Byte)
  /-- PME_TO_Ack (R348). -/
  | pmeToAck (ep : Nat)
  /-- A request to enter L1 (R350). -/
  | l1Request (ep : Nat)
  /-- FED_HELLO on the link to a device, a message of a spanning call, a time mark, and the TBASE latched at one (R405, R407, R411). -/
  | fedHello (dev : Nat) (h : FedHello)
  | fed (m : FedMsg)
  | timeMark
  | fedLatch (dev : Nat) (t : Word)
  /-- A DATA packet: one codeword of a PROGRAM, its information word and its 512 bytes of LDPC parity (R173, R359). -/
  | sledData (port tag hop seg : Nat) (word : Info) (parity : List Byte)
  /-- A CREDIT packet: slots that the Odard returns on a Bobbin port, CTRL and BULK (R359, R360). -/
  | credit (port ctrl bulk : Nat)
  deriving DecidableEq, Repr

/-- A packet that waits for credit: its slots and the packet (R360). -/
structure TxPkt where
  slots : Nat
  msg : OutMsg
  deriving DecidableEq, Repr

/-- A Bobbin port's link beside its registers (R355 to R360): credits held, packets waiting, sequence numbers of the frames
received in order, sent and acknowledged, NAK due, replays of the same frame, commands waiting for a tag. -/
structure Port where
  ctrlCr : Nat
  bulkCr : Nat
  ctrlQ : List TxPkt
  bulkQ : List TxPkt
  rxSeq : Nat
  txSeq : Nat
  ackSeq : Nat
  nak : Bool
  replays : Nat
  replayAt : Nat
  waiting : List SledCmd
  /-- Signal or alignment lost, or the port down, since this TBASE. -/
  downSince : Option Word
  up : Bool
  deriving DecidableEq, Repr

/-- Who made a host access (R340, R345). -/
inductive Reader where
  | fetchRing (ring index : Nat)
  | thread (th id : Nat)
  | shuttle (channel : Nat)
  /-- A completion record of ring `q` that covers an entry with IRQ or none (R308, R345). -/
  | record (q : Nat) (irq : Bool)
  /-- A Shuttle channel that has stopped or halted since (R319). -/
  | nobody
  deriving DecidableEq, Repr

/-- A tag in use on the host link (R340, R341); `xlat` is the access that waits for a translation (R345). -/
structure HostTag where
  ep : Nat
  reader : Reader
  length : Nat
  issued : Word
  xlat : Option OutMsg
  /-- Timed out; the tag stays reserved since this TBASE. -/
  timedOut : Option Word
  /-- Issued before a function level or hot reset. -/
  beforeFlr : Bool
  /-- Pages whose cached translations it used (R346). -/
  pages : List Nat
  deriving DecidableEq, Repr

/-- A cached translation (R345): endpoint, page, permissions, the U bit. -/
structure AtsEntry where
  ep : Nat
  page : Nat
  read : Bool
  write : Bool
  untranslated : Bool
  target : Nat
  deriving DecidableEq, Repr

/-- How a host read ends, as its completion brings it (R340, R345): data with the byte ranges that arrived with EP, an
Unsupported Request or Completer Abort, or the translations asked for. -/
inductive HostResult where
  | data (bytes : List Byte) (poisoned : List (Nat × Nat))
  | unsupported
  | abort
  | translations (l : List AtsEntry)
  deriving DecidableEq, Repr

/-- A Shuttle descriptor (R313). -/
structure ShtDesc where
  src : Nat
  dst : Nat
  len : Nat
  cfg : Nat
  pat : Word
  deriving DecidableEq, Repr

/-- An Invalidate Request that is not yet answered (R346): endpoint, its tag, first page, pages; whether the cache has been
searched for it. -/
structure Inval where
  ep : Nat
  itag : Nat
  page : Nat
  count : Nat
  begun : Bool
  deriving DecidableEq, Repr

/-- A Shuttle channel's active and queued descriptors (R313, R316), retries used for the failing access (R320), the source data of the
unit being moved, once a host read has brought it, and the first difference that its COMPARE has found. -/
structure ShtChan where
  active : Option ShtDesc
  queued : Option ShtDesc
  retries : Nat
  data : Option (List Byte)
  diff : Option Nat
  deriving DecidableEq, Repr

/-- Where a key of a read job stands at its codeword index (R177 to R181, R490). -/
inductive ColRead where
  /-- A READ at a level of R177 is due or out, with the soft planes that have come, by plane. -/
  | reading (level : Nat) (planes : List (Nat × Mem))
  /-- Accepted at a step of R177; 12 for an erasure that has been solved (R181, R250). -/
  | known (step : Nat) (i : Info)
  /-- Steps 0 to 9 failed: the soft planes, and the output of the last decode. -/
  | failed (planes : List Mem) (last : Info)
  /-- No codeword to decode: the member failed, its read ended without data, or an erased codeword was found where a written one
  belongs (R181, R490). -/
  | erased
  /-- An erased codeword where one is expected (R490). -/
  | blank
  /-- Unrecoverable, with the output of the last decode. -/
  | lost (last : Option Info)
  deriving DecidableEq, Repr

/-- Whom a read job serves: block `place` of a thread's FETCH with what its block is expected to be (R178, R249), or a read of the
device's own, by its key. -/
inductive JobOwner where
  | fetch (th id place : Nat) (expect : Option (Nat × Nat))
  | device (k : Nat)
  deriving DecidableEq, Repr

/-- The reading of one codeword index of a stripe (R177 to R183): the columns wanted, whether parity may assist, the keys read so
far, whether the joint decode runs and its iterations run, the columns lost where the index is beyond tolerance, and whether the
job waits until its stripe has been examined (R214). -/
structure ReadJob where
  owner : JobOwner
  array : Nat
  band : Nat
  stripe : Nat
  cw : Nat
  want : List Nat
  assist : Bool
  cols : List (Nat × ColRead)
  joint : Bool
  iter : Nat
  beyond : List Nat
  held : Bool
  deriving DecidableEq, Repr

/-- A codeword as a read of the device's own has it: accepted at a step of R177, not accepted, with the last decode's output where
there was one, or erased where that is expected. -/
inductive WordRead where
  | good (step : Nat) (i : Info)
  | bad (last : Option Info)
  | blank
  deriving DecidableEq, Repr

/-- What the device reads a stripe for: garbage collection, rebuild or reshape by a cluster (R141, R207, R228), scrub (R283), a
complete stripe under resynchronisation (R493), a stripe to check after the loss of the hoop (R109), the fill of a grain's version
(R93), a stripe that a FETCH found beyond tolerance (R214), part of a map segment at a map load (R130). -/
inductive ReadGoal where
  | gc (c : Nat)
  | rebuild (c : Nat)
  | reshape (c : Nat)
  | scrub
  | resync (e eseq : Nat)
  | check
  | fill (grain seq pga : Nat)
  | examine
  | segment (seg part : Nat)
  deriving DecidableEq, Repr

/-- A read of the device's own (R141, R207, R214, R228, R283, R493): its stripe, the codeword indices still being read, the words so
far by column and index, and the indices beyond tolerance with the columns lost there. -/
structure DevRead where
  goal : ReadGoal
  array : Nat
  band : Nat
  stripe : Nat
  left : List Nat
  words : List (Nat × Nat × WordRead)
  lost : List (Nat × List Nat)
  deriving DecidableEq, Repr

/-! ## Power, hold-up, thermal (R423 to R440) -/

/-- A vault image of R434, as its commit record makes it valid: the hoop with its couching table and bitmap, the deltas, the
lost-grain table and lost-stripe log. The device state of item 6 is held by the model where it stands, and kept across every
reset (log entry 24). -/
structure VaultImage where
  hoop : Hoop
  dlog : DeltaLog
  lost : LostTables
  elog : ErrorLog
  deriving DecidableEq, Repr

/-- A Flush in progress or ended (R433, R435): when it was detected, whether it writes its image, and whether it has ended. -/
structure FlushRun where
  start : Word
  writes : Bool
  ended : Bool
  deriving DecidableEq, Repr

/-- Power and the hold-up bank beside their registers (R428 to R437). -/
structure PowerState where
  /-- The vault image with a valid commit record that no boot has consumed. -/
  image : Option VaultImage
  /-- The hoop was restored from that image, which is not yet consumed (R433): its dirty blocks when restored. -/
  waiting : Option Nat
  /-- The image area is erased to at least the size of the Flush image (condition 5 of R429). -/
  erased : Bool
  /-- A capacitance test has completed since the last conventional reset. -/
  tested : Bool
  testPending : Bool
  lastTest : Word
  /-- The first recomputation of MAX_MIB of this boot is still to come (R431). -/
  firstRecomp : Bool
  chargerFault : Bool
  /-- VCHG_DV on which MAX_MIB was computed (R429, R432). -/
  vchg : Nat
  /-- The bank is being drawn down to a lowered VCHG (R432). -/
  lowering : Bool
  flush : Option FlushRun
  /-- DRAM still holds its content: self-refresh has not ended (R83, R435). -/
  dramKept : Bool
  /-- A conventional reset waits for the vault write of the entry into Halted (R83, R351). -/
  resetWaits : Bool
  /-- The DRAM map matches the restored hoop, or has been loaded (R124, R130). -/
  mapLoaded : Bool
  /-- A map load runs: the entries read of the committed segments so far (R130). -/
  loading : Option (Tbl Word)
  /-- BANK_MF of the standby's last report (R428). -/
  peerBank : Option Nat
  deriving DecidableEq, Repr

/-- A sensor's readings in °C, as signed bytes (R438). -/
structure Sensor where
  cur : Nat
  max : Nat
  min : Nat
  /-- Junction at 110 °C or above since this TBASE (R440). -/
  hotSince : Option Word
  deriving DecidableEq, Repr

/-- The sensors and the last throttle step (R438, R439). -/
structure Thermal where
  sensors : Tbl Sensor
  lastStep : Word
  deriving DecidableEq, Repr

/-! ## Boot, measurement, firmware images (R412 to R419) -/

/-- A Boot Ledger record (R414). -/
structure LedgerRec where
  bootNo : Nat
  step : Nat
  event : Nat
  alt : Nat
  unit : Nat
  tbase : Word
  detail : Nat
  deriving DecidableEq, Repr

/-- An entry of the measurement log (R417). -/
structure MeasEntry where
  slot : Nat
  kind : Nat
  digest : BitVec 384
  pattern : Nat
  version : Word
  tbase : Word
  deriving DecidableEq, Repr

/-- What the end of a boot or start-up step brings (R413 to R417): whether it passed, the unit named in a failure (0xFF none),
the average of VIN in mV (step 0x00, R424), the digests of the items measured, and, at step 0x08 after a loss of the hoop,
what the copy sleds hold (R109): couching entries, the bands of the newest open-band record, and the newest TBASE used; at step
0x04 whether the vault image and the hoop in DRAM pass their CRC checks (R83) and the pricking slots whose copy in the vault does not
(R62); at step 0x07 the configuration records read from sleds, as sled, record and bytes (R62, R495). -/
structure BootEnd where
  pass : Bool
  unit : Nat
  vboot : Nat
  digests : List (BitVec 384)
  imageOk : Bool
  dramOk : Bool
  badSlots : List Nat
  records : List (Nat × Nat × List Byte)
  entries : List (Nat × CEntry)
  openBands : List (Nat × Nat)
  newest : Word
  deriving DecidableEq, Repr

/-- Boot NOR, the running step, and the measurement root (R412 to R417). -/
structure BootState where
  bootNo : Nat
  /-- The boot or start-up step that runs, and TBASE at its start. -/
  running : Option (Nat × Word)
  ledger : Tbl (Option LedgerRec)
  ledgerNext : Nat
  /-- Alternative in use for each step, and the units omitted: clusters, Bride ports, chains (R415). -/
  alts : Tbl Nat
  omitClusters : Nat
  omitBrides : Nat
  omitChains : Nat
  /-- DEV_BOOT_CTL.RETRY was set before this boot. -/
  retry : Bool
  /-- Images A and B, the one preferred, and the one written last. -/
  imageA : List Byte
  imageB : List Byte
  pref : Bool
  written : Option Bool
  fwRun : Option (Nat × Nat)
  /-- The hoop size that CONFIG stored for the next conventional reset, in GiB (R284). -/
  hoopGib : Nat
  slots : Tbl (BitVec 384)
  mlog : List MeasEntry
  deriving DecidableEq, Repr

/-! ## Pairing -/

/-- A pair as a unit in Witness mode keeps it (R390, R392). Units are 0 and 1. -/
structure WitPair where
  id : Nat × Nat
  hello0 : Bool
  hello1 : Bool
  prefer0 : Bool
  prefer1 : Bool
  lastHolder : Option Nat
  /-- STATE of the last HEALTH of each unit, and TBASE at its receipt. -/
  health0 : Option (Nat × Word)
  health1 : Option (Nat × Word)
  /-- TBASE at which the holder's lease was last counted from. -/
  leaseAt : Option Word
  lapsed : Option Nat
  /-- A grant not yet acknowledged: the unit, and TBASE of its last sending. -/
  granting : Option (Nat × Word)
  deriving DecidableEq, Repr

/-- Pairing state beside the registers of R380 to R401. -/
structure PairState where
  /-- In the switch-over gap (R394). -/
  gap : Bool
  gapStart : Word
  /-- Durability needs the peer's confirmation (R89). -/
  mirroring : Bool
  /-- Claim number held or last held; for an unpaired device, the one its vault state keeps (R382). -/
  claim : Nat
  /-- MIRROR items are sent to the peer (R384, R398). -/
  live : Bool
  /-- The unit takes no entries: a handover or a lost lease (R393, R399). -/
  intakeClosed : Bool
  /-- MIRROR items sent, and confirmed up to (R385). -/
  mirSeq : Nat
  confSeq : Nat
  /-- MIRROR items stored in order by this standby (R385). -/
  rxSeq : Nat
  /-- Resends asked for the next item (R187). -/
  resends : Nat
  /-- Blocks mirrored for commits that have not entered the active's hoop. -/
  staged : List Staged
  /-- The peer's serial number, once the link has trained; the pair identity in the vault state (R381). -/
  peerSerial : Option Nat
  storedId : Option (Nat × Nat)
  mismatch : Bool
  pairNo : Nat
  msgSeq : Nat
  /-- Sending times: of the request whose answer counts the lease, of the last LEASE_REQs with their sequence, newest first, of the last RENEW. -/
  lease : Option Word
  reqSent : List (Nat × Word)
  renewSent : Option Word
  /-- Last message from the witness; the standby answers RENEW; the last RENEW it answered (R391). -/
  lastWit : Word
  riding : Bool
  lastRenew : Option Word
  lastFrame : Word
  peerReport : Option (PairReport × Word)
  /-- The lease was lost at this TBASE, and completions are still posted (R393). -/
  leaseLost : Option Word
  /-- A handover that this unit started, and TBASE when fetching stopped (R399); HANDOVER has been sent. -/
  handover : Option Word
  lostPending : Bool
  lastHolder : Bool
  /-- TBASE at which this unit last asked the active to hand over (R400). -/
  failbackAsked : Option Word
  /-- Self-tests that stand failed; those of them whose rerun failed too; TBASE of each test's last failure (R401). -/
  standing : Nat
  rerunFailed : Nat
  failTimes : List (Nat × Word)
  lastReport : Word
  /-- DRAM errors of the last 24 h (R401). -/
  ceTimes : List Word
  ueTimes : List Word
  /-- Witness mode: the pairs. -/
  pairs : Tbl WitPair
  deriving DecidableEq, Repr

end Sys2Proof.Machine
end

