-- ==== Sys2Proof/Syntax.lean ====
section
/-! DEFINITION. The commands and events of the controller: one constructor for each row of the opcode table, with its
operands. What arrives from outside the device (data of the host's memory, verdicts of the decoders over the media, packets,
levels on pins) comes with the command that brings it. -/

namespace Sys2Proof

open Sys2Proof.Machine

/-- The commands of the controller. `th` is a thread's identity 128 · cluster + t (R238). -/
inductive Instr where
  /-- POWER_ON (R351): Power is applied; a conventional reset samples the straps and starts Boot with an empty hoop. -/
  | powerOn (pins : Machine.Straps) (aonLost held : Bool)
  /-- PERST_ASSERT (R486): PERST0# is asserted for at least 1 us; fetching stops and call threads end while power-fail detection, the charger and the hoop stay active. -/
  | perstAssert
  /-- PERST_DEASSERT (R351): PERST0# is deasserted; this is a conventional reset that starts Boot, or a hot reset of the endpoint in the D3cold case. -/
  | perstDeassert (pins : Machine.Straps)
  /-- PERST1_RESET (R328): PERST1# acts as a hot reset of endpoint 1 alone. -/
  | perst1Reset
  /-- HOT_RESET (R351): A hot reset or DL_Down resets configuration space and rings, windows, Shuttle, MSI-X and translation cache as a function level reset does. -/
  | hotReset (ep : Nat)
  /-- FUNCTION_LEVEL_RESET (R352): Initiate FLR stops fetch, Shuttle and MSI-X, ends call threads without POST and resets rings, windows and tables within 10 ms. -/
  | functionLevelReset (ep : Nat)
  /-- FLR_COMPLETE (R352): The function level reset completes and configuration requests are answered normally again. -/
  | flrComplete (ep : Nat)
  /-- POWER_FAIL_DETECTION (R424): VIN below TRIP_MV or PFAIL# asserted for 5 us is detected; the device drives PFAIL# and enters Flush. -/
  | powerFailDetection (src : Nat)
  /-- FLUSH_COMMIT (R435): The Flush commit record is durable, or a Flush that writes nothing ends; PFAIL# is released and islands are powered down. -/
  | flushCommit (vend : Nat)
  /-- INTERNAL_RESET (R435): After a Flush, once power has been present for 100 ms, the internal conventional reset with CAUSE 0x0B starts Boot. -/
  | internalReset
  /-- BANK_RUNDOWN (R426): The bank falls to 16 V and the module stops. -/
  | bankRundown
  /-- BOOT_STEP_END (R413): A Boot or start-up step ends; the next step begins, or Boot ends in Standby or Witness with DEV_CAP1 written. -/
  | bootStepEnd (x : Machine.BootEnd)
  /-- BOOT_STEP_TIMEOUT (R413): A boot or start-up step exceeds its time limit; the device enters Halted with CAUSE 0x07. -/
  | bootStepTimeout (unit : Nat)
  /-- MODE_REQ_STANDBY (R37): DEV_MODE is written with GO = 1 and REQ = Standby; the request is checked and a transition or drain starts, or the request is refused. -/
  | modeReqStandby (size : Nat) (value : Word)
  /-- MODE_REQ_ACTIVE (R37): DEV_MODE is written with GO = 1 and REQ = Active; the request is checked and the map load begins, or the request is refused. -/
  | modeReqActive (size : Nat) (value : Word)
  /-- MODE_REQ_MAINTENANCE (R37): DEV_MODE is written with GO = 1 and REQ = Maintenance; fetching stops and running calls drain. -/
  | modeReqMaintenance (size : Nat) (value : Word)
  /-- MODE_REQ_DORMANT (R37): DEV_MODE is written with GO = 1 and REQ = Dormant; the request is checked and a drain starts. -/
  | modeReqDormant (size : Nat) (value : Word)
  /-- MODE_REQ_WITNESS (R37): DEV_MODE is written with GO = 1 and REQ = Witness; the request is checked for no array and a drain starts. -/
  | modeReqWitness (size : Nat) (value : Word)
  /-- MODE_REQ_UNLISTED (R37): A mode request for Boot, Flush or Halted is refused with REQ_ERR set and logged. -/
  | modeReqUnlisted (k size : Nat) (value : Word)
  /-- DRAIN_COMPLETE (R42): Running calls of a drain have completed; the condition is rechecked and the new mode is entered or the transition is abandoned. -/
  | drainComplete
  /-- MAP_LOAD_COMPLETE (R38): Every array's map is loaded and its deltas replayed; the Standby to Active transition completes. -/
  | mapLoadComplete
  /-- DORMANT_EXIT_COMPLETE (R437): Islands are powered and retained state is restored; recorded doorbells are checked and CUR becomes 2. -/
  | dormantExitComplete
  /-- UNCORRECTABLE_STRUCTURE_ERROR (R451): An uncorrectable error in a structure with no second copy is fatal and the device enters Halted. -/
  | uncorrectableStructureError (src : Nat)
  /-- WATCHDOG_EXPIRY (R451): A management core gives no heartbeat for 100 ms and the device enters Halted. -/
  | watchdogExpiry (core : Nat) (body : List Nat)
  /-- FIRMWARE_INCONSISTENCY (R451): Firmware detects an inconsistency and the device enters Halted. -/
  | firmwareInconsistency (core detail : Nat)
  /-- REGISTER_SNAPSHOT_CAPTURED (R452): Hardware finishes capturing the register snapshot section of the dump. -/
  | registerSnapshotCaptured
  /-- HALT_VAULT_IMAGE_COMMIT (R83): The vault image written on entry into Halted commits, or ends having written nothing. -/
  | haltVaultImageCommit
  /-- DUMP_IN_DRAM_COMPLETE (R452): The dump in DRAM is complete with its header written last, and STATE becomes 2. -/
  | dumpInDramComplete
  /-- DUMP_CAPTURE_TIMEOUT (R452): One second after detection the dump header is written with PARTIAL set. -/
  | dumpCaptureTimeout (body : List Nat)
  /-- DUMP_VAULT_WRITE_COMPLETE (R454): The dump is written to vault slot DSEQ mod 2 and STATE becomes 3. -/
  | dumpVaultWriteComplete
  /-- SE_CLK_WRITE (R30): SE_CLK.TARGET is written and the cluster island starts stepping toward min(TARGET, CAP). -/
  | seClkWrite (c size : Nat) (value : Word)
  /-- CLOCK_STEP_COMPLETE (R30): One 200 MHz clock step of a cluster island completes and the next step starts until the effective target is reached. -/
  | clockStepComplete (c : Nat)
  /-- DEV_TBASE_LOW_READ (R28): A 4-byte read of DEV_TBASE[31:0] latches the upper half for the next read. -/
  | devTbaseLowRead (ep : Nat)
  /-- REGISTER_WRITE (R12): A write to a register with no row of its own is stored, discarded or logged under access type, size, mode and island timing. -/
  | registerWrite (ep off size : Nat) (value : Word) (poisoned : Bool)
  /-- DEV_LOCK_SET (R462): DEV_LOCK.LOCK is set and RWL fields become read-only until conventional reset. -/
  | devLockSet (size : Nat) (value : Word)
  /-- PRK_CMD_LOAD (R65): PRK_CMD LOAD copies the stage into an EMPTY slot and applies steps 1 to 6 of R60. -/
  | prkCmdLoad (size : Nat) (value : Word)
  /-- PRK_CMD_BIND (R65): PRK_CMD BIND checks array, generation, members, KSTRIPS, grains and capacity for a LOADED slot. -/
  | prkCmdBind (size : Nat) (value : Word)
  /-- PRK_CMD_ARM (R65): PRK_CMD ARM repeats the BIND checks in Maintenance and writes the pricking to members and vault. -/
  | prkCmdArm (size : Nat) (value : Word)
  /-- PRK_CMD_DROP (R65): PRK_CMD DROP empties a LOADED or BOUND slot. -/
  | prkCmdDrop (size : Nat) (value : Word)
  /-- PRK_CMD_RESERVED (R66): A PRK_CMD with a reserved OP ends with 0x0317. -/
  | prkCmdReserved (size : Nat) (value : Word)
  /-- PRK_COMMAND_COMPLETE (R65): A LOAD, BIND or DROP finishes; the slot state and PRK_STAT are updated and BUSY clears. -/
  | prkCommandComplete
  /-- ARM_COMMIT (R65): ARM commits: the slot becomes ARMED, the previous pricking becomes RETIRING and the mark advances. -/
  | armCommit
  /-- RETIREMENT_SWITCHOVER (R232): Once no band or couching entry carries the RETIRING generation, copy sleds are replaced and retirement markers are written. -/
  | retirementSwitchover (a : Nat)
  /-- RETIREMENT_COMMIT (R232): The markers are durable and acknowledged; the slot becomes EMPTY and sleds are released. -/
  | retirementCommit (a : Nat)
  /-- GRAIN_AGE_EXPIRY (R93): A grain's oldest dirty block reaches HOOP_AGE.AGE and the grain enters its gathering stripe. Its last operand carries nothing (log entry 98). -/
  | grainAgeExpiry (a g : Nat) (fill : Unit)
  /-- BANK_WAIT_TIMEOUT (R86): The summed bank-unhealthy wait of a STORE COMMIT reaches TIMEOUT, and the call completes with 0x0601. -/
  | bankWaitTimeout (th : Nat)
  /-- STORE_COMMIT_RESUME (R86): A waiting STORE COMMIT finds the dirty limit, bank and peer conditions met and enters the hoop. -/
  | storeCommitResume (th : Nat)
  /-- STRIPE_OPEN_RESUME (R96): A couching entry or band becomes available and a waiting stripe opens. -/
  | stripeOpenResume (th : Nat)
  /-- COUCHING_REPLICATION (R103): Every CLOG_SYNC.PERIOD, changed table pages and deltas are written as records to the copy sleds. -/
  | couchingReplication
  /-- COPY_RECORD_ACK (R103): A copy sled acknowledges a couching record, CLOG_RSEQ advances, and a waiting band may open. -/
  | copyRecordAck (sled rseq : Nat)
  /-- RESYNC_REGION (R107): Resynchronisation visits one marked region, closing or abandoning each couching entry of it. Its operands carry nothing (log entry 98). -/
  | resyncRegion (found lost : Unit)
  /-- CHECKPOINT_EPOCH_TIMER (R128): Sixty seconds after the previous epoch started, with deltas appended since, a checkpoint epoch starts. -/
  | checkpointEpochTimer
  /-- CHECKPOINT_EPOCH_COMMIT (R128): The segment directory is durable in the vault and on copy sleds; older deltas and checkpoint space are released. -/
  | checkpointEpochCommit
  /-- GC_VICTIM_SELECT (R140): A cluster chooses a garbage collection victim among its closed bands and relocates its valid grains. Its last operands carry nothing (log entry 98). -/
  | gcVictimSelect (a c : Nat) (units lost : Unit)
  /-- BAND_ERASE_START (R150): Once the erase gate holds, the ERASING delta is appended and, when it is durable, ERASE is issued to the band's blocks. -/
  | bandEraseStart (a b : Nat)
  /-- MC_CLEAN (R159): MC_MAINT_CMD CLEAN writes dirty lines of the range to DRAM. -/
  | mcClean (size : Nat) (value : Word)
  /-- MC_INVAL (R159): MC_MAINT_CMD INVAL invalidates lines while the cache is Off. -/
  | mcInval (size : Nat) (value : Word)
  /-- MC_CLINV (R159): MC_MAINT_CMD CLINV writes back and invalidates unlocked lines of the range. -/
  | mcClinv (size : Nat) (value : Word)
  /-- MC_PRELOAD (R159): MC_MAINT_CMD PRELOAD fills lines of the range into the chosen ways. -/
  | mcPreload (size : Nat) (value : Word)
  /-- MC_LOCK (R159): MC_MAINT_CMD LOCK preloads the range and locks the chosen ways. -/
  | mcLock (size : Nat) (value : Word)
  /-- MC_MAINT_COMPLETE (R161): A maintenance command finishes; BUSY clears and completed preloads become held. -/
  | mcMaintComplete
  /-- PRELOAD_HOLD_EXPIRY (R164): Ten milliseconds after a preload, its hold ends without a lock and MC_WAYPRE bits clear. -/
  | preloadHoldExpiry
  /-- MC_WAYLOCK_WRITE (R165): MC_WAYLOCK is written; locks take effect only on preloaded ways and within the lock limit. -/
  | mcWaylockWrite (size : Nat) (value : Word)
  /-- MC_ENABLE (R167): MC_CTL.EN is written 1; the cache turns On if INVDONE = 1 and FAULT = 0, and otherwise SEQERR is set. -/
  | mcEnable (size : Nat) (value : Word)
  /-- MC_DISABLE (R169): MC_CTL.EN is written 0 while On; the cache starts draining dirty lines. -/
  | mcDisable (size : Nat) (value : Word)
  /-- MC_DRAIN_COMPLETE (R169): No dirty line remains; every line, lock and preload is cleared and the cache is Off. -/
  | mcDrainComplete
  /-- MC_WRITEBACK_ACK (R157): The memory island acknowledges a victim write-back, and the stalled fill for the set is issued. -/
  | mcWritebackAck (set : Nat)
  /-- MC_ECC_ERROR (R171): A Map Cache ECC error is counted and may disable the way or set FAULT. -/
  | mcEccError (way set : Nat) (uncorrectable : Bool)
  /-- LINK_LOSS_DECLARE (R196): A sled's link has been lost continuously for 200 ms and the sled is declared failed with cause 1. -/
  | linkLossDeclare (n : Nat)
  /-- MEMBER_READ_TIMEOUT (R198): A READ passes ARR_MTMO.TIMEOUT; it is served by reconstruction and counted, possibly declaring cause 3. -/
  | memberReadTimeout (p tag : Nat)
  /-- COMMAND_TIMEOUT (R367): A PROGRAM, ERASE or other sled command passes its limit and is abandoned, retried or reissued. -/
  | commandTimeout (p tag : Nat)
  /-- NOT_READY_RETRY (R367): Ten milliseconds after NOT_READY, a media command is reissued and READs are sent to the sled again. -/
  | notReadyRetry (p : Nat)
  /-- REBUILD_STRIPE (R209): A cluster relocates one stripe with a strip on a failed member, in loss-count passes. Its last operands carry nothing (log entry 98). -/
  | rebuildStripe (a c : Nat) (units lost : Unit)
  /-- LOST_UNIT_SCAN (R215): The map is scanned to find grains of lost units whose codewords cannot be obtained. Its last operand carries nothing (log entry 98). -/
  | lostUnitScan (a pga : Nat) (vseq : Unit)
  /-- RATE_INTERVAL (R210): Every 10 ms the rebuild and reshape bandwidth shares of each member are renewed. -/
  | rateInterval
  /-- RESHAPE_RELOCATE_BAND (R228): A cluster relocates one closed band of the RETIRING pricking into ARMED relocation bands. Its last operands carry nothing (log entry 98). -/
  | reshapeRelocateBand (a c : Nat) (units lost : Unit)
  /-- SCRUB_STRIPE (R283): Scrub reads and checks one stripe and relocates its grains if it needed step 9 or its syndromes differ. Its last operands carry nothing (log entry 98). -/
  | scrubStripe (a : Nat) (bad units lost : Unit)
  /-- THREAD_DISPATCH (R238): A fetched CALL or INLINE entry starts on a free call thread of its ring's cluster. -/
  | threadDispatch (r : Nat)
  /-- ADD (R247): gD = gA + gB. -/
  | add (th : Nat)
  /-- ADDI (R247): gD = gA + sext(IMM). -/
  | addi (th : Nat)
  /-- SUB (R247): gD = gA - gB. -/
  | sub (th : Nat)
  /-- AND (R247): gD = gA & gB. -/
  | and (th : Nat)
  /-- ANDI (R247): gD = gA & zext(IMM). -/
  | andi (th : Nat)
  /-- OR (R247): gD = gA | gB. -/
  | or (th : Nat)
  /-- ORI (R247): gD = gA | zext(IMM). -/
  | ori (th : Nat)
  /-- XOR (R247): gD = gA ^ gB. -/
  | xor (th : Nat)
  /-- XORI (R247): gD = gA ^ zext(IMM). -/
  | xori (th : Nat)
  /-- SHL (R247): gD = gA << gB[5:0]. -/
  | shl (th : Nat)
  /-- SHLI (R247): gD = gA << IMM[5:0]. -/
  | shli (th : Nat)
  /-- SHR (R247): Logical right shift of gA by gB[5:0]. -/
  | shr (th : Nat)
  /-- SHRI (R247): Logical right shift of gA by IMM[5:0]. -/
  | shri (th : Nat)
  /-- SAR (R247): Arithmetic right shift of gA by gB[5:0]. -/
  | sar (th : Nat)
  /-- SARI (R247): Arithmetic right shift of gA by IMM[5:0]. -/
  | sari (th : Nat)
  /-- MUL (R247): gD = low 64 bits of gA times gB. -/
  | mul (th : Nat)
  /-- MULHU (R247): gD = high 64 bits of the unsigned product. -/
  | mulhu (th : Nat)
  /-- DIVU (R247): gD = gA / gB, or all ones when gB = 0. -/
  | divu (th : Nat)
  /-- REMU (R247): gD = gA % gB, or gA when gB = 0. -/
  | remu (th : Nat)
  /-- MINU (R247): gD = min(gA, gB). -/
  | minu (th : Nat)
  /-- MAXU (R247): gD = max(gA, gB). -/
  | maxu (th : Nat)
  /-- MOVHI (R247): gD = (IMM << 32) | gA[31:0]. -/
  | movhi (th : Nat)
  /-- BFX (R247): Extracts a bit field of gA. -/
  | bfx (th : Nat)
  /-- BFI (R247): Inserts gA into a bit field of gD. -/
  | bfi (th : Nat)
  /-- CLZ (R247): gD = leading zero count of gA. -/
  | clz (th : Nat)
  /-- POPC (R247): gD = number of set bits of gA. -/
  | popc (th : Nat)
  /-- LDK (R247): Loads 8 bytes from a skein run or its sidecars. -/
  | ldk (th : Nat)
  /-- STK (R247): Stores 8 bytes into a skein run or its sidecars. -/
  | stk (th : Nat)
  /-- CMP (R248): Sets a predicate from a condition on gA and gB. -/
  | cmp (th : Nat)
  /-- CMPI (R248): Sets a predicate from a condition on gA and sext(IMM). -/
  | cmpi (th : Nat)
  /-- PLOG (R248): Sets a predicate from a truth table of two predicates. -/
  | plog (th : Nat)
  /-- BR (R248): PC = PC + sext(IMM). -/
  | br (th : Nat)
  /-- JAL (R248): gD = PC + 1 and PC = PC + sext(IMM). -/
  | jal (th : Nat)
  /-- JR (R248): PC = gA[15:0]. -/
  | jr (th : Nat)
  /-- SKALLOC (R244): Gives a handle a run of skeins, waiting or failing when too few are free. -/
  | skalloc (th : Nat)
  /-- SKALLOC_RESUME (R244): Skeins are freed and a waiting SKALLOC receives its run. -/
  | skallocResume (th : Nat)
  /-- SKFREE (R244): Frees a handle's run. -/
  | skfree (th : Nat)
  /-- SKZERO (R265): Zeroes a skein run. -/
  | skzero (th : Nat)
  /-- FETCH (R249): Asynchronously moves blocks from a space into a skein run. -/
  | fetch (th : Nat)
  /-- STORE_STAGE (R251): Stores blocks to a host, DRAM or hoop staging area. -/
  | storeStage (th : Nat)
  /-- STORE_COMMIT (R251): Moves every staged block into the hoop together once R84 holds. -/
  | storeCommit (th : Nat)
  /-- EMIT (R252): Sends one strip as a PROGRAM after making its ISSUED bit durable. -/
  | emit (th : Nat)
  /-- GFMAC (R253): Multiply-accumulates over GF(2^8) on registers or on skein runs. -/
  | gfmac (th : Nat)
  /-- SYND_BIND (R254): Binds parity-column runs to a stripe's parity context. -/
  | syndBind (th : Nat)
  /-- SYND_ADD (R254): Adds a run as a column's syndrome contribution. -/
  | syndAdd (th : Nat)
  /-- SYND_WAIT (R254): Completes when every earlier contribution has been absorbed. -/
  | syndWait (th : Nat)
  /-- SYND_UNBIND (R254): Releases the parity context. -/
  | syndUnbind (th : Nat)
  /-- SOLVE (R255): Solves up to three unknown data indices from the reduced syndromes. -/
  | solve (th : Nat)
  /-- PIGEN (R256): Writes protection information for consecutive blocks. -/
  | pigen (th : Nat)
  /-- PICHK (R256): Checks protection information of consecutive blocks. -/
  | pichk (th : Nat)
  /-- PIXLATE (R256): Forms the poison signature or internal protection information. -/
  | pixlate (th : Nat)
  /-- MAPLU (R257): Looks up a map entry through the Map Cache, or locates a PGA. -/
  | maplu (th : Nat)
  /-- MAPUP (R257): Conditionally replaces a map entry and appends a kind 1 delta. -/
  | mapup (th : Nat)
  /-- MAPLOCK (R257): Acquires or releases an advisory grain lock. -/
  | maplock (th : Nat)
  /-- MAPLOCK_GRANT (R257): A grain lock is released and a waiting thread acquires it. -/
  | maplockGrant (th : Nat)
  /-- STRIPE_OPEN (R258): Marks the region, writes the open-band record if needed and opens a couching entry. -/
  | stripeOpen (th : Nat)
  /-- STRIPE_IPNEXT (R258): Allocates an interim parity slot and makes IPNEXT durable. -/
  | stripeIpnext (th : Nat)
  /-- STRIPE_IPSET (R258): Moves IPNEXT into IPLOC with IPCOVER and sets IPV. -/
  | stripeIpset (th : Nat)
  /-- STRIPE_CLOSING (R258): Sets STATE = 2 once every column is acknowledged. -/
  | stripeClosing (th : Nat)
  /-- STRIPE_CLOSE (R258): Frees the entry and hoop blocks and clears the region when no entry names it. -/
  | stripeClose (th : Nat)
  /-- STRIPE_ABANDON (R258): Sets the entry ABANDONED. -/
  | stripeAbandon (th : Nat)
  /-- WAITEV (R259): Stalls until selected counters reach zero or the mailbox is nonempty. -/
  | waitev (th : Nat)
  /-- WAITEV_LIMIT_EXPIRY (R259): The tick limit of a WAITEV expires and the wait ends. -/
  | waitevLimitExpiry (th : Nat)
  /-- SIGNAL_SEND (R260): Delivers a word to another thread's mailbox. -/
  | signalSend (th : Nat)
  /-- SIGNAL_CALL (R260): Starts a pattern on a device-work thread of a cluster. -/
  | signalCall (th : Nat)
  /-- SIGNAL_OWNER (R260): Starts a pattern on the cluster or device that owns a band. -/
  | signalOwner (th : Nat)
  /-- SIGNAL_RECV (R260): Takes the oldest mailbox word. -/
  | signalRecv (th : Nat)
  /-- TIMER_WAIT (R261): Completes on a counter after gA ticks. -/
  | timerWait (th : Nat)
  /-- TIMER_READ (R261): gD = TBASE. -/
  | timerRead (th : Nat)
  /-- POST (R261): Posts status and result for every call the thread holds, writing the completion record. -/
  | post (th : Nat)
  /-- POST_STALL_RESUME (R307): A stalled POST finds room in the holding area and its result enters it. -/
  | postStallResume (q : Nat)
  /-- BATCH (R261): Claims the next entry of the same batch and pattern. -/
  | batch (th : Nat)
  /-- TRAP (R261): Ends the thread with fault 0x0404. -/
  | trap (th : Nat)
  /-- HALT (R261): Ends the thread once its asynchronous instructions complete. -/
  | halt (th : Nat)
  /-- NOP (R247): Does nothing. -/
  | nop (th : Nat)
  /-- ASYNC_INSTRUCTION_COMPLETE (R262): An asynchronous instruction completes, decrementing its counter and writing its outcome. -/
  | asyncInstructionComplete (th id : Nat)
  /-- WAIT_LIMIT_EXPIRY (R269): A SKALLOC, MAPLOCK or SIGNAL SEND wait reaches SE_WAITLIM and the thread faults with 0x0408. -/
  | waitLimitExpiry (th : Nat)
  /-- READ (R280): The READ call fetches blocks from the array, checks them at egress and stores them to the host. -/
  | read (th : Nat)
  /-- WRITE (R280): The WRITE call fetches host data, checks it, stages and commits it, then posts. -/
  | write (th : Nat)
  /-- FLUSH (R97): The FLUSH call completes once every block acknowledged earlier is covered by step 6. -/
  | flush (th : Nat)
  /-- DISCARD (R146): The DISCARD call marks whole grains discarded by kind 1 deltas. -/
  | discard (th : Nat)
  /-- VERIFY (R280): The VERIFY call reads and checks blocks with assist, without storing them to the host. -/
  | verify (th : Nat)
  /-- PIN (R282): The PIN call sets or clears PINNED on the grains of a range. -/
  | pin (th : Nat)
  /-- SCRUB_START (R283): The SCRUB call with OP start starts or resumes a scrub pass. -/
  | scrubStart (th : Nat)
  /-- SCRUB_STOP (R283): The SCRUB call with OP stop stops scrub and keeps its position. -/
  | scrubStop (th : Nat)
  /-- SCRUB_QUERY (R283): The SCRUB call with OP query returns scrub progress. -/
  | scrubQuery (th : Nat)
  /-- CONFIG (R284): The CONFIG call stores the hoop size in boot NOR for the next reset. -/
  | config (th : Nat)
  /-- ARRAY_CREATE (R285): The ARRAY_CREATE call creates an array with its first pricking in one commit. -/
  | arrayCreate (th : Nat)
  /-- ARRAY_DELETE (R286): The ARRAY_DELETE call discards the array's data, writes a retirement marker and frees its state. -/
  | arrayDelete (th : Nat)
  /-- ARRAY_RESIZE (R235): The ARRAY_RESIZE call raises or lowers the logical capacity in grains. -/
  | arrayResize (th : Nat)
  /-- MEMBER_FAIL (R196): The MEMBER_FAIL call declares a sled failed with cause 5. -/
  | memberFail (th : Nat)
  /-- LOG_CLEAR (R218): The LOG_CLEAR call empties the lost-stripe log. -/
  | logClear (th : Nat)
  /-- PRK_LOAD (R68): The PRK_LOAD call copies an image from the host and performs LOAD. -/
  | prkLoad (th : Nat)
  /-- PRK_BIND (R68): The PRK_BIND call performs BIND on a slot. -/
  | prkBind (th : Nat)
  /-- PRK_ARM (R68): The PRK_ARM call performs ARM on a slot. -/
  | prkArm (th : Nat)
  /-- PRK_DROP (R68): The PRK_DROP call performs DROP on a slot. -/
  | prkDrop (th : Nat)
  /-- PROG_LOAD (R272): The PROG_LOAD call checks, measures and loads a program image into every cluster. -/
  | progLoad (th : Nat)
  /-- PROG_UNLOAD (R272): The PROG_UNLOAD call invalidates an index, or restores the shipped program. -/
  | progUnload (th : Nat)
  /-- SQ_DOORBELL (R297): An SQ_DB write is checked and advances TAIL, is recorded, or halts the device when beyond bounds. -/
  | sqDoorbell (e r size : Nat) (value : Word)
  /-- CQ_DOORBELL (R297): A CQ_DB write is checked and advances HEAD, letting held records move into the ring. -/
  | cqDoorbell (e q size : Nat) (value : Word)
  /-- ENTRY_FETCH (R300): Fetch takes up to 8 offered entries from a ring in round-robin order. -/
  | entryFetch
  /-- ENTRY_FETCH_COMPLETE (R301): A fetched entry arrives and is checked; a malformed entry or a failed read halts the device. -/
  | entryFetchComplete (r : Nat) (res : HostResult)
  /-- CALL_ENTRY (R293): A CALL entry is dispatched to start its program. -/
  | callEntry (r : Nat)
  /-- INLINE_ENTRY (R294): An INLINE entry is dispatched with its payload. -/
  | inlineEntry (r : Nat)
  /-- NOP_ENTRY (R293): A NOP entry is complete once fetched. -/
  | nopEntry (r : Nat)
  /-- FENCE_ENTRY (R293): A FENCE holds later entries until every earlier entry of its ring completes. -/
  | fenceEntry (r : Nat)
  /-- COALESCE_TIMER (R308): COAL_T elapses since the first unsignalled IRQ record and the completion vector is sent. -/
  | coalesceTimer (q : Nat)
  /-- SQ_ENABLE (R310): SQ_CTL.EN is written 1; the ring is enabled with indices S, or the write is refused. -/
  | sqEnable (r : Nat) (value : Word)
  /-- SQ_DISABLE (R311): SQ_CTL.EN is written 0; the submission ring drains. -/
  | sqDisable (r : Nat) (value : Word)
  /-- CQ_ENABLE (R310): CQ_CTL.EN is written 1 and the completion ring is enabled. -/
  | cqEnable (q : Nat) (value : Word)
  /-- CQ_DISABLE (R310): CQ_CTL.EN is written 0; it is refused while BOUND or HOLD is nonzero. -/
  | cqDisable (q : Nat) (value : Word)
  /-- SHUTTLE_GO (R316): SHT_CHn_GO checks the shadow descriptor and starts it, queues it, or refuses it. -/
  | shuttleGo (n size : Nat) (value : Word)
  /-- SHUTTLE_COMPLETE (R318): A descriptor completes; counters and flags update and the queued descriptor starts. -/
  | shuttleComplete (n : Nat)
  /-- SHUTTLE_BUS_ERROR (R320): A bus error triggers all-stop in Active or Standby, and retry then channel halt otherwise. -/
  | shuttleBusError (n pos addr : Nat)
  /-- SHUTTLE_WINDOW_HALT (R321): A DRAM unit no longer within valid windows halts its channel with ECODE 7. -/
  | shuttleWindowHalt (n : Nat)
  /-- ALLSTOP_CLEAR (R323): Writing 1 to SHT_STAT.ALLSTOP returns STOPPED channels to IDLE. -/
  | allstopClear (size : Nat) (value : Word)
  /-- CHANNEL_ERR_CLEAR (R323): Writing 1 to a channel's ERR returns a HALTED channel to IDLE. -/
  | channelErrClear (n size : Nat) (value : Word)
  /-- BAR2_WRITE (R333): A BAR2 write is translated through its window and written to DRAM or discarded. -/
  | bar2Write (ep off reqid : Nat) (bytes : List Byte) (poisoned : Bool)
  /-- BAR2_READ (R333): A BAR2 read is translated and completed with data or as Unsupported Request. -/
  | bar2Read (ep off reqid len : Nat)
  /-- WINDOW_WORD0_WRITE (R332): Window word 0 is written, with its target range checked when VALID is set. -/
  | windowWord0Write (w size : Nat) (value : Word)
  /-- WINDOW_WORD1_WRITE (R332): Window word 1 is written, or discarded while VALID = 1. -/
  | windowWord1Write (w size : Nat) (value : Word)
  /-- HOST_COMPLETION (R340): A completion arrives for a host read issued by the Odard and ends it with data or an error. -/
  | hostCompletion (ep t : Nat) (res : HostResult)
  /-- COMPLETION_TIMEOUT (R340): A host read issued by the Odard times out; the outcome depends on who issued it. -/
  | completionTimeout (ep t : Nat)
  /-- UNEXPECTED_COMPLETION (R341): A completion arriving after its timeout is discarded, counted and reported. -/
  | unexpectedCompletion (ep t : Nat)
  /-- TAG_RESERVATION_EXPIRY (R341): A timed-out request's tag is released after a further timeout period. -/
  | tagReservationExpiry (ep t : Nat)
  /-- ATS_INVALIDATE_REQUEST (R346): An Invalidate Request stops use of overlapping translations; the completion is sent once their requests have finished. -/
  | atsInvalidateRequest (ep itag page count : Nat)
  /-- MSIX_TABLE_WRITE (R347): An MSI-X table or control write changes masks and sends pending messages on unmask. -/
  | msixTableWrite (ep off size : Nat) (value : Word) (poisoned : Bool) (control : Option (Bool × Bool))
  /-- D_STATE_CHANGE (R348): A PMCSR write moves the function between D0, D1 and D3hot. -/
  | dStateChange (ep pmcsr : Nat)
  /-- PME_TURN_OFF (R348): PME_Turn_Off is answered with PME_TO_Ack. -/
  | pmeTurnOff (ep : Nat)
  /-- BUS_MASTER_ENABLE (R353): Setting Bus Master Enable releases waiting fetches and held records. -/
  | busMasterEnable (ep : Nat) (c : ConfigBits)
  /-- ASPM_L1_ENTRY (R350): After 20 us with no TLP pending, L1 entry is requested. -/
  | aspmL1Entry (ep : Nat)
  /-- GET_VERSION (R419): The SPDM GET_VERSION request is answered. -/
  | getVersion (tr : Nat)
  /-- GET_CAPABILITIES (R419): The SPDM GET_CAPABILITIES request is answered. -/
  | getCapabilities (tr : Nat)
  /-- NEGOTIATE_ALGORITHMS (R419): The SPDM NEGOTIATE_ALGORITHMS request is answered. -/
  | negotiateAlgorithms (tr : Nat) (sig hash measHash spec : Bool)
  /-- GET_DIGESTS (R419): The SPDM GET_DIGESTS request is answered. -/
  | getDigests (tr : Nat)
  /-- GET_CERTIFICATE (R419): The SPDM GET_CERTIFICATE request is answered from slot 0. -/
  | getCertificate (tr slot offset length : Nat)
  /-- CHALLENGE (R419): The SPDM CHALLENGE request is answered with a signature. -/
  | challenge (tr slot summary : Nat) (nonce : List Byte)
  /-- GET_MEASUREMENTS (R419): The SPDM GET_MEASUREMENTS request returns a signed, consistent snapshot of the measurement blocks. -/
  | getMeasurements (tr op : Nat) (signed_ : Bool) (nonce : List Byte)
  /-- RESPOND_IF_READY (R419): The SPDM RESPOND_IF_READY request is answered. -/
  | respondIfReady (tr : Nat)
  /-- SPDM_UNSUPPORTED_REQUEST (R419): An unsupported SPDM request is answered with ERROR UnsupportedRequest. -/
  | spdmUnsupportedRequest (tr : Nat)
  /-- DOE_ABORT (R329): A DOE abort ends the transfer in progress. -/
  | doeAbort (ep : Nat)
  /-- SET_ENDPOINT_ID (R420): The MCTP Set Endpoint ID command is answered. -/
  | setEndpointId (binding op eid : Nat)
  /-- GET_ENDPOINT_ID (R420): The MCTP Get Endpoint ID command is answered. -/
  | getEndpointId (binding : Nat)
  /-- GET_ENDPOINT_UUID (R420): The MCTP Get Endpoint UUID command is answered. -/
  | getEndpointUuid (binding : Nat)
  /-- GET_MCTP_VERSION_SUPPORT (R420): The MCTP Get MCTP Version Support command is answered. -/
  | getMctpVersionSupport (binding typ : Nat)
  /-- GET_MESSAGE_TYPE_SUPPORT (R420): The MCTP Get Message Type Support command is answered. -/
  | getMessageTypeSupport (binding : Nat)
  /-- GET_VENDOR_DEFINED_MESSAGE_SUPPORT (R420): The MCTP Get Vendor Defined Message Support command is answered. -/
  | getVendorDefinedMessageSupport (binding selector : Nat)
  /-- MCTP_UNSUPPORTED_COMMAND (R420): Any other MCTP control command is answered with an error completion. -/
  | mctpUnsupportedCommand (binding cmd : Nat)
  /-- HLTH_GET (R450): The HLTH_GET management message returns part of the device or federation health result. -/
  | hlthGet (scope offset : Nat)
  /-- DUMP_GET (R450): The DUMP_GET management message returns part of a dump. -/
  | dumpGet (src len offset : Nat)
  /-- FRAME_RECEIVE (R356): A link frame arrives; it is taken in order, or discarded with NAK, and acknowledgements and replay proceed. -/
  | frameReceive (link : Nat) (f : Machine.Frame)
  /-- BOBBIN_LINK_DOWN (R357): Signal or alignment is lost for 1 ms, or a frame is replayed 8 times; the link goes down and retrains. -/
  | bobbinLinkDown (link hop : Nat) (signal : Bool)
  /-- LINK_TRAINED (R357): A link completes training and resumes from the received ACKSEQ. -/
  | linkTrained (link hop ack ctrl bulk serial : Nat)
  /-- RSP (R362): A sled's final response ends its command with OK or an error status, which the Odard acts on. -/
  | rsp (p tag hop status : Nat) (body : List Byte) (hcrcOk : Bool)
  /-- RDATA (R361): Read data arrives and its codewords are decoded under R177. -/
  | rdata (p tag hop seg : Nat) (d : Machine.ReadData) (hcrcOk : Bool)
  /-- ALERT (R363): A sled status block arrives unsolicited; a fatal state declares the sled failed. -/
  | alert (p hop : Nat) (body : List Byte) (hcrcOk : Bool)
  /-- CREDIT (R360): Returned CTRL and BULK credit is added for the link. -/
  | credit (link ctrl bulk : Nat) (hcrcOk : Bool)
  /-- ENUMERATE_HOP (R369): The next hop of a port is trained, identified, given SET_TIME and CLAIMs, and checked for a downstream link. -/
  | enumerateHop (p h : Nat)
  /-- SET_TIME_TIMER (R369): Every 60 s, SET_TIME is sent to each sled. -/
  | setTimeTimer
  /-- INIT_STATUS_POLL (R374): Every 10 ms the STATUS of an initialising sled is read. -/
  | initStatusPoll (p h : Nat)
  /-- SLED_INIT_TIMEOUT (R374): A sled still at STATE 1 after 30 s is powered off and logged. -/
  | sledInitTimeout (p h : Nat)
  /-- ENROL (R374): BP_HOP_CMD ENROL assigns a number, writes record 0 and reads wear and bad-block data. -/
  | enrol (p h : Nat)
  /-- DISENROL (R374): BP_HOP_CMD DISENROL clears record 0 and frees the sled's number. -/
  | disenrol (p h : Nat)
  /-- RETRAIN (R357): A write of BP_CTL.RETRAIN retrains hop 0 of the port now. -/
  | retrain (p : Nat)
  /-- PORT_EN_WRITE (R369): A write of BP_CTL.EN holds the port down with its sleds unpowered, or releases it. -/
  | portEnWrite (p size : Nat) (value : Word)
  /-- PWROFF (R379): A write of BP_HOP_CTL.PWROFF powers a bay off, or is refused for a do-not-remove sled. -/
  | pwroff (p h size : Nat) (value : Word)
  /-- BAY_POLL (R376): Every 10 ms each expander is read and inputs are debounced, filtered and turned into events. -/
  | bayPoll (inputs : List (Option Nat))
  /-- BAY_POWER_ON (R378): A queued bay is powered once the stagger admits it. -/
  | bayPowerOn (p h : Nat)
  /-- SLED_TRAIN_TIMEOUT (R378): A sled that has not trained within 350 ms is powered off for 1 s, then tried once more. -/
  | sledTrainTimeout (p h : Nat)
  /-- SLED_POWER_RETRY (R378): After the 1 s power-off, the bay is powered once more. -/
  | sledPowerRetry (p h : Nat)
  /-- MIRROR (R385): The standby stores a mirrored item, applies it in order and returns CONFIRM. -/
  | mirror (seq : Nat) (i : Machine.MirrorItem)
  /-- CONFIRM (R385): The active receives a confirmed sequence number and waiting acknowledgements proceed. -/
  | confirm (seq : Nat)
  /-- SYNC (R398): The standby receives resynchronisation data for tables, map or hoop. -/
  | sync (phase permille : Nat) (items : List Machine.MirrorItem)
  /-- SYNC_COMPLETE (R398): Phase 3 of SYNC ends and the active sends IN_SYNC. -/
  | syncComplete
  /-- RENEW (R391): A RENEW packet is answered by a riding-through standby, renewing the active's lease. -/
  | renew (answer : Bool)
  /-- PAIR_HEALTH (R401): The active receives the standby's health report over the pair link. -/
  | pairHealth (r : Machine.PairReport)
  /-- FAILBACK_REQUEST (R400): The PREFER standby asks the active over the pair link to hand over. -/
  | failbackRequest
  /-- HANDOVER_DRAIN_TIMEOUT (R399): Two milliseconds after fetching stops for a self-started handover, remaining calls are withheld and HANDOVER is sent. -/
  | handoverDrainTimeout
  /-- PEER_TIMEOUT (R387): No pair-link frame arrives for PEER_TMO, and the active declares its peer lost. -/
  | peerTimeout
  /-- LEASE_RENEW_TIMER (R391): Every 5 ms the active sends LEASE_REQ. -/
  | leaseRenewTimer
  /-- LEASE_EXPIRY (R393): The active's local lease ends; it stops fetching, committing and issuing, and ROLE becomes 4. -/
  | leaseExpiry
  /-- POST_WINDOW_EXPIRY (R393): Three milliseconds after lease expiry, threads end, records are withheld and the unit goes to Standby. -/
  | postWindowExpiry
  /-- RIDE_THROUGH_START (R391): The standby has had no witness answer for 15 ms and starts answering RENEW. -/
  | rideThroughStart
  /-- GAP_END (R394): The switch-over gap ends: CUR = 3, held completions are released and CLAIMs are sent. -/
  | gapEnd (tablesOk : Bool)
  /-- HELLO_ACK (R389): A unit receives its pair number and whether it holds the claim. -/
  | helloAck (pairNo : Nat) (holds : Bool)
  /-- LEASE_ACK (R391): The active's lease is renewed. -/
  | leaseAck (seq : Nat)
  /-- CLAIM_GRANT (R394): A unit accepts a claim, answers GRANT_ACK and starts its switch-over gap. -/
  | claimGrant (claim ago : Nat)
  /-- LEASE_DENY (R392): The unit's lease ends at once. -/
  | leaseDeny (claim : Nat)
  /-- PEER_LOST_ACK (R387): The active starts acknowledging without peer confirmation. -/
  | peerLostAck
  /-- IN_SYNC_ACK (R398): STALE clears and INSYNC is set. -/
  | inSyncAck
  /-- HELLO (R390): A witness records a unit and answers HELLO_ACK. -/
  | hello (m : Machine.WitMsg)
  /-- LEASE_REQ (R390): A witness answers with LEASE_ACK and restarts the lease, or answers LEASE_DENY. -/
  | leaseReq (m : Machine.WitMsg)
  /-- HEALTH (R390): A witness records a unit's health report. -/
  | health (m : Machine.WitMsg)
  /-- PEER_LOST (R387): A witness marks the standby STALE and answers PEER_LOST_ACK. -/
  | peerLost (m : Machine.WitMsg)
  /-- IN_SYNC (R398): A witness clears STALE and answers IN_SYNC_ACK. -/
  | inSync (m : Machine.WitMsg)
  /-- HANDOVER (R396): A witness grants the next claim to the peer. -/
  | handover (m : Machine.WitMsg)
  /-- GRANT_ACK (R392): A witness stops repeating the grant. -/
  | grantAck (m : Machine.WitMsg)
  /-- WITNESS_LEASE_LAPSE (R390): A lease lapses at the witness after 15 ms, and the witness grants to an eligible peer. -/
  | witnessLeaseLapse (q : Nat)
  /-- GRANT_REPEAT (R392): Every 1 ms the witness repeats an unacknowledged CLAIM_GRANT. -/
  | grantRepeat (q : Nat)
  /-- HEALTH_REPORT_TIMER (R401): Every second each unit sends its health report and CLEAN_S is updated. -/
  | healthReportTimer
  /-- STANDBY_SELF_TEST (R401): A periodic standby self-test runs: DRAM patrol, engine self-test or loopback. -/
  | standbySelfTest (test : Nat) (pass : Bool)
  /-- SELF_TEST_RERUN (R401): A failed test is rerun and READY, TESTING or FAULTED is reported. -/
  | selfTestRerun (test : Nat) (pass : Bool)
  /-- FED_HELLO (R407): A federation member's HELLO updates the view and may trigger re-election. -/
  | fedHello (link : Nat) (h : Machine.FedHello)
  /-- ELECTION_START (R407): FED_SYNC is high, or 2 s have passed, and election begins. -/
  | electionStart (high : Bool)
  /-- ELECTION_DECIDE (R407): The view has been stable for 10 ms and the lowest DEVID becomes coordinator. -/
  | electionDecide
  /-- FED_LINK_CHANGE (R409): A federation link goes up or down and triggers re-election. -/
  | fedLinkChange (dev : Nat) (up wide : Bool)
  /-- TIME_MARK (R405): The coordinator drives its 1 s FED_SYNC pulse. -/
  | timeMark
  /-- TIME_MARK_EDGE (R405): Members latch TBASE at the pulse's falling edge and exchange offsets. -/
  | timeMarkEdge (theirs : Word) (long : Bool)
  /-- FED_CALL_PART (R411): A part of a spanning call arrives for its owning member. -/
  | fedCallPart (m : Machine.FedMsg)
  /-- FW_WRITE (R416): DEV_FW WRITE writes a new image to the image not selected. -/
  | fwWrite (size : Nat) (value : Word)
  /-- FW_SELECT (R416): DEV_FW SELECT sets PREF to the image just written. -/
  | fwSelect (size : Nat) (value : Word)
  /-- FW_WRITE_COMPLETE (R416): The image write finishes and BUSY clears. -/
  | fwWriteComplete (ok : Bool)
  /-- HU_TEST_REQUEST (R430): A write of HU_CTL.TEST requests a capacitance test. -/
  | huTestRequest (size : Nat) (value : Word)
  /-- CAP_TEST_TIMER (R430): Every 24 h a capacitance test falls due. -/
  | capTestTimer
  /-- CAP_TEST_START (R430): A pending test starts once the bank reaches VCHG. -/
  | capTestStart
  /-- CAP_TEST_COMPLETE (R431): The test ends; C_meas is stored and MAX_MIB is recomputed, possibly cutting the limit. -/
  | capTestComplete (c : Nat)
  /-- VCHG_WRITE (R432): A write of HU_CTL.VCHG lowers or raises the charge voltage in a safe order. -/
  | vchgWrite (size : Nat) (value : Word)
  /-- BANK_REACHES_VCHG (R432): The bank reaches the new VCHG and MAX_MIB is recomputed. -/
  | bankReachesVchg
  /-- CHARGER_FAULT (R429): The charger reports a fault and the bank becomes unhealthy. -/
  | chargerFault (present : Bool)
  /-- VAULT_IMAGE_CONSUMED (R433): A restored vault image becomes consumed and the background erase of the image area starts. -/
  | vaultImageConsumed
  /-- VAULT_ERASE_SUFFICIENT (R433): The erased part covers the Flush image and condition 5 of R429 holds. -/
  | vaultEraseSufficient
  /-- SENSOR_POLL (R438): Every 1 ms the thermal sensors are read and the throttle level is set. -/
  | sensorPoll (temps : List Nat) (vin iin vbank : Nat) (pfail : Bool)
  /-- THROTTLE_STEP_TIMER (R439): Every 100 ms at level 1, CAP is lowered or raised one step. -/
  | throttleStepTimer
  /-- THERMAL_TRIP (R440): A junction reading of 110 C held for 1 ms enters Halted. -/
  | thermalTrip (i : Nat)
  /-- THERMAL_POWER_REMOVAL (R440): At 115 C the power stages remove power from every island but always-on. -/
  | thermalPowerRemoval (i : Nat)
  /-- HEALTH_REPORT_FORM (R448): Every second firmware forms a new health report. -/
  | healthReportForm
  /-- HEALTH_RECORD_SAVE (R445): Every 60 s the health counters are saved to the vault health record. -/
  | healthRecordSave
  /-- HLTH_FREEZE (R448): A write of HLTH_CTL.FREEZE freezes the readable report, or releases the newest one. -/
  | hlthFreeze (size : Nat) (value : Word)
  /-- CORRECTED_ERROR_LOG (R443): Corrected error counts of a unit are logged once per 60 s. -/
  | correctedErrorLog (src unit addr : Nat) (hit : Option (Nat × Nat × Bool))
  /-- RESERVED_OPCODE (R241): A thread reaches an instruction word whose OP is reserved, such as a zeroed word, and ends with fault 0x0401 without executing it. -/
  | reservedOpcode (th : Nat)
  /-- CONTROL_ISLAND_RESET_RELEASE (R486): After power is applied with PFAIL# asserted or VIN below 4.5 V, both conditions have cleared for 10 ms, and the always-on island releases the control island so that Boot step 0x00 starts. -/
  | controlIslandResetRelease
  /-- PEER_HEALTH_STALE (R387): The standby's last health report becomes more than 3 s old and the active declares its peer lost. -/
  | peerHealthStale
  /-- ATS_ENABLE_CLEAR (R346): A configuration write that clears ATS Enable empties the translation cache. -/
  | atsEnableClear (ep : Nat) (value : Bool)
  /-- BAD_WITNESS_MESSAGE (R388): A witness or management message with a bad CRC, a reserved WCODE or a nonzero reserved byte is discarded and counted in WIT_STAT.BAD. -/
  | badWitnessMessage
  deriving DecidableEq, Repr

end Sys2Proof
end

