-- ==== Sys2Proof/Config.lean ====
section
/-! DEFINITION. What the spec leaves open: values that the spec does not state and functions it takes from named
standards. Each is opaque: no proof can see a value of it, so a claim about one holds for every value. -/

namespace Sys2Proof

/-- A value the spec leaves open (a firmware detail code, an undefined byte, the output of a decoder that did not
converge). The model applies it to the counter State.free, which every use advances. Log entry 2. -/
opaque Config.freeValue : Nat → Word

/-- As Config.freeValue, for the 32 bytes of an error log record's DETAIL (R442). Log entry 2. -/
opaque Config.freeDetail : Nat → BitVec 256

/-- A value that the board, a partner or the manufacture fixes and no command brings (the rate of the host link, the witness's
endpoint ID). Log entry 2. -/
opaque Config.boardValue : Nat → Word

/-- Word `w` of a measurement log entry's 128 bytes, whose layout R417 does not give, from what the entry holds: slot, item kind,
digest, pattern, version, TBASE. Log entry 2. -/
opaque Config.measWord (slot kind : Nat) (digest : BitVec 384) (pattern : Nat) (version tbase : Word) (w : Nat) : Word

/-- The certificate chain of slot 0, installed at manufacture (R419). Log entry 2. -/
opaque Config.certificateChain : List Byte

/-- The endpoint's UUID for MCTP (R420). Log entry 2. -/
opaque Config.endpointUuid : BitVec 128

/-- SHA-384 of a byte string (R272, R417), a named standard the spec does not restate. Log entry 8. -/
opaque Config.sha384 : List Byte → BitVec 384

/-- The measurement root's ECDSA P-384 signature over a byte string (R419). Log entry 8. -/
opaque Config.signature : List Byte → BitVec 768

/-- Bytes without a stated content (the data of a codeword that nothing has decoded, the vault's image area as the management bus
reads it). Log entry 2. -/
opaque Config.freeByte : Nat → Nat → Byte

/-! The LDPC code of R173 is named and not given. Log entry 74. -/

/-- Byte `k` of the 512 bytes of LDPC parity that the encoder of a Bobbin island computes over an information word's 4,128 bytes (R173,
R176). -/
opaque Config.ldpcParity : List Byte → Nat → Byte

/-- The hard decode of a codeword's 4,640 raw bytes (R177): every LDPC check satisfied or not, and the decoder's information word by
byte. Raw bytes are listed with their offsets; an unlisted byte is zero. -/
opaque Config.hardDecode : List (Nat × Byte) → Bool × List (Nat × Byte)

/-- The soft decode of the three planes of a soft read (R177 step 9, R365). -/
opaque Config.softDecode : List (List (Nat × Byte)) → Bool × List (Nat × Byte)

/-- The soft decode with a solved information word as its prior, each bit of it at the largest reliability (R179 step 3). -/
opaque Config.confirmDecode : List (List (Nat × Byte)) → List (Nat × Byte) → Bool × List (Nat × Byte)

/-- One soft decode of an iteration of the joint decode (R180): the codeword's planes, and of every other codeword of its XOR
constraint either its word or its planes and last output; the iteration's number. -/
opaque Config.jointDecode : List (List (Nat × Byte)) → List (Bool × List (List (Nat × Byte))) → Nat → Bool × List (Nat × Byte)

end Sys2Proof
end

