-- ==== Sys2Proof/Machine/State.lean ====
section
/-! DEFINITION. The machine's state. -/

namespace Sys2Proof.Machine

/-- Reasons a step stops with a fault. The model raises none: every command's effect, an error's report included, is a
next state; an event that cannot occur leaves the state as it is (log entry 1). Safe. -/
inductive Fault where
  /-- Never raised. -/
  | none
  deriving DecidableEq, Repr

/-- Reasons a step refuses a command. -/
inductive Refusal where
  /-- A command the model has no meaning for; raised by Dispatch only. Safe. -/
  | notModelled (mnemonic : String)
  deriving DecidableEq, Repr

/-- The machine's state: everything the spec gives the block, and the queue of waiting commands. -/
structure State where
  hw : Hw
  tbase : Word
  mode : ModeReg
  bar0 : Tbl Word
  elog : ErrorLog
  aon : AonLog
  corrected : Tbl CorrUnit
  health : Health
  dump : DumpState
  ep0 : Endpoint
  ep1 : Endpoint
  subRings : Tbl SubRing
  cplRings : Tbl CplRing
  pair : PairState
  threads : Tbl Thread
  skeins : Tbl Info
  skeinUsed : Tbl Bool
  pmem : Tbl Word
  master : Tbl Word
  extents : List Extent
  maskCleared : Tbl Bool
  faults : Tbl FaultRec
  workFaults : Tbl Nat
  prk : PrkState
  arrays : Tbl ArrayInfo
  bands : Tbl Band
  ewords : Tbl EWord
  sleds : Tbl Sled
  hoop : Hoop
  lost : LostTables
  map : Tbl Word
  dlog : DeltaLog
  mc : MapCache
  dram : Mem
  poison : Tbl Bool
  hostTags : Tbl HostTag
  ats : List AtsEntry
  invals : List Inval
  /-- The vault's last 2 GiB: dump area and test area (R314, R454). -/
  vault : Mem
  sht : Tbl ShtChan
  sledCmds : Tbl SledCmd
  ports : Tbl Port
  readJobs : Tbl ReadJob
  devReads : Tbl DevRead
  bobbin : BobbinState
  /-- Doorbells recorded in Dormant: 2 · ring, plus 1 for a completion ring (R298). -/
  recorder : Tbl Word
  power : PowerState
  thermal : Thermal
  boot : BootState
  fed : FedState
  /-- The SPDM answer that stands in an endpoint's DOE mailbox (R329, R419). -/
  doe : Tbl SpdmAnswer
  /-- Endpoint IDs by binding of the management bus (R420). -/
  eids : Tbl Nat
  /-- The half that a 4-byte read of DEV_TBASE latched (R28). -/
  tbaseLatch : Nat
  /-- The submission ring that fetch served last (R300). -/
  fetchLast : Nat
  out : List OutMsg
  free : Nat
  pending : List Instr
  deriving DecidableEq, Repr

/-! ## The machine right after reset -/

/-- Every strap tied low: one host endpoint, unpaired, normal, DEVID 0 (R479). DESIGN CHOICE, log entry 5. -/
def strapsLow : Straps :=
  { hbif := false, pairEn := false, plink := false, prefer := false, witness := false, devid := 0 }

/-- An endpoint's configuration right after reset (R329, R347, R351). -/
def endpointReset : Endpoint :=
  { memSpace := false, busMaster := false, msixEnable := false, msixFunctionMask := false, atsEnable := false, l1Enable := false
    ltrEnable := false, pmeEnable := false, dstate := .d0, l2Ready := false, table := [], pba := [], flrBusy := false, ltrSent := 0
    cto := 4000000, aerStatus := [] }

/-- The hoop, couching table, bitmap and stripe writers of a device never used (R80, R94, R100). -/
def hoopReset : Hoop :=
  { versions := [], nextSeq := 1, passed := [], entries := [], eseq := 0, gathers := [], jobs := [], bitmap := [], resync := none
    repl := { dirtyPages := 0, nextRseq := 0, acks := [], openList := [], lastSync := 0, deltaSent := 0, joinAt := [], lostDirty := false
              relocClosed := [] }
    bankWaits := [], lossTbase := none, checks := [], works := [], held := [], copyGather := [], victims := [], reads := [] }

/-- The delta log of a device never used (R126 to R128). -/
def dlogReset : DeltaLog :=
  { deltas := [], next := 0, durable := 0, epochStart := 0, epochRun := false, lastEpoch := 0, appended := false, dirSent := false
    segments := [], committed := 0, segs := [], dir := [], newDir := [], newSegs := [], ckptLeft := 0, pendSegs := []
    ckptFailed := false, again := false }

/-- Pairing right after reset: the claim is the one after 0, which an unpaired device takes at its first boot (R382). -/
def pairReset : PairState :=
  { gap := false, gapStart := 0, mirroring := false, claim := 1, live := false, intakeClosed := false, mirSeq := 0, confSeq := 0
    rxSeq := 0, resends := 0, staged := [], peerSerial := none, storedId := none, mismatch := false, pairNo := 0xFF, msgSeq := 0
    lease := none, reqSent := [], renewSent := none, lastWit := 0, riding := false, lastRenew := none, lastFrame := 0
    peerReport := none, leaseLost := none, handover := none, lostPending := false, lastHolder := false, failbackAsked := none
    standing := 0, rerunFailed := 0, failTimes := [], lastReport := 0, ceTimes := [], ueTimes := [], pairs := [] }

/-- Health counters, reports and the vault's health record of a device never used (R445 to R448). -/
def healthReset : Health :=
  { dramCe := 0, dramUe := 0, caseBins := List.replicate 16 0, critCount := 0, sleds := [], seq := 0, newest := [], readable := []
    savedCe := 0, savedUe := 0, savedBins := List.replicate 16 0, savedSleds := [], formedAt := 0, savedAt := 0 }

/-- Power right after reset: no image in the vault, nothing measured (R429, R433). -/
def powerReset : PowerState :=
  { image := none, waiting := none, erased := false, tested := false, testPending := true, lastTest := 0, firstRecomp := true
    chargerFault := false, vchg := 480, lowering := false, flush := none, dramKept := false, resetWaits := false, mapLoaded := false
    loading := none, peerBank := none }

/-- Boot right after reset: step 0x00 runs since TBASE 0, and its start stands in the ledger (R413, R414). -/
def bootReset : BootState :=
  { bootNo := 0, running := some (0, 0)
    ledger := [(0, some { bootNo := 0, step := 0, event := 1, alt := 0, unit := 0xFF, tbase := 0
                          detail := (Config.freeValue 0).toNat % 2 ^ 32 })]
    ledgerNext := 1, alts := [], omitClusters := 0, omitBrides := 0, omitChains := 0, retry := false, imageA := [], imageB := []
    pref := false, written := none, fwRun := none, hoopGib := 64, slots := [], mlog := [] }

/-- The machine right after reset: power has been applied for the first time to a device never used, whose conventional reset has
started Boot at TBASE 0 (R351, R413). Every register of BAR0 has its reset value (unlisted), but for HOOP_SIZE, which the device
configuration gives. The variant, the fitted DRAM, the straps and the hoop size are the model's choice (log entry 5). -/
def State.reset : State :=
  { hw := { variant := .sto9600, dramGib := 512, pins := strapsLow, straps := strapsLow, serial := 1, perst0 := false
            powered := true, ctlReset := false, aonUp := true, wake := false }
    tbase := 0
    mode := { cur := .boot, busy := false, tgt := .boot, reqErr := false, cause := 0, draining := false, prev := .boot }
    bar0 := [(R.HOOP_SIZE, 64)]
    elog := { slots := [], next := 0 }, aon := { recs := [], pend := 0, ovf := false }, corrected := [], health := healthReset
    dump := { dseq := 0, prevMode := .boot, tdetect := 0, snapshot := none, imageEnded := false, imageRunning := false
              inDram := none, slot0 := none, slot1 := none }
    ep0 := endpointReset, ep1 := endpointReset, subRings := [], cplRings := [], pair := pairReset
    threads := [], skeins := [], skeinUsed := [], pmem := [], master := [], extents := [], maskCleared := [], faults := []
    workFaults := []
    prk := { slots := [], marks := [], run := none, markerWaits := [], switching := [], markers := [], unread := [] }
    arrays := [], bands := [], ewords := [], sleds := [], hoop := hoopReset
    lost := { grains := [], stripes := [], lseq := 0, scans := [] }, map := [], dlog := dlogReset
    mc := { lines := [], plru := [], waits := [], run := none, preSince := 0, ecc := [] }
    dram := [], poison := [], hostTags := [], ats := [], invals := [], vault := [], sht := [], sledCmds := [], ports := []
    readJobs := [], devReads := []
    bobbin := { hops := [], missed := [], lastPoll := 0, lastSetTime := 0, lastRate := 0 }, recorder := [], power := powerReset
    thermal := { sensors := [], lastStep := 0 }, boot := bootReset
    fed := { released := none, electing := false, stable := 0, peers := [], lastMark := 0, latch := 0, queue := [], nextId := 0
             waits := [], reports := [], seen := 0 }
    doe := [], eids := [], tbaseLatch := 0, fetchLast := 1023, out := [], free := 1, pending := [] }

end Sys2Proof.Machine
end

