-- ==== Sys2Proof/Machine/Regs.lean ====
section
/-! DEFINITION. The registers of BAR0: which offsets hold a register, their stored values and fields, the blocks and the
islands' service in each mode (R35, R457, R458), absent units (R7, R474), and the values that hardware derives. -/

namespace Sys2Proof.Machine

/-! ## Stored registers and fields -/

/-- A register's stored 64-bit value. -/
def State.reg (s : State) (off : Nat) : Word := Tbl.get resetVal s.bar0 off

/-- Store a register's 64-bit value. -/
def State.setReg (s : State) (off : Nat) (w : Word) : State := { s with bar0 := Tbl.set resetVal s.bar0 off w }

/-- A register field. -/
def State.f (s : State) (x : Field) : Nat := bits (s.reg x.off).toNat x.lo x.width

/-- Store a register field; the register's other bits stay. -/
def State.setF (s : State) (x : Field) (v : Nat) : State :=
  s.setReg x.off (BitVec.ofNat 64 (putBits (s.reg x.off).toNat x.lo x.width v))

/-- A one-bit field as a truth value. -/
def State.flag (s : State) (x : Field) : Bool := s.f x == 1

/-- Set or clear a one-bit field. -/
def State.setFlag (s : State) (x : Field) (b : Bool) : State := s.setF x b.toNat

/-- Add to a field that counts; the count is held modulo its width. -/
def State.incF (s : State) (x : Field) (n : Nat := 1) : State := s.setF x (s.f x + n)

/-- Add to a field that saturates at its largest value. -/
def State.satF (s : State) (x : Field) (n : Nat := 1) : State := s.setF x (min (2 ^ x.width - 1) (s.f x + n))

/-! ## The part -/

/-- Bobbin ports built (R2). -/
def Variant.ports : Variant → Nat
  | .sto9600 => 32 | .sto9400 => 16 | .sto9200 => 8

/-- Stitch clusters built (R2). -/
def Variant.clusters : Variant → Nat
  | .sto9600 => 8 | .sto9400 => 4 | .sto9200 => 2

/-- Bride ports built (R2). -/
def Variant.brides : Variant → Nat
  | .sto9600 => 4 | .sto9400 => 2 | .sto9200 => 0

/-- Vault size in units of 16 GiB (R2, R4). -/
def Variant.vault16 : Variant → Nat
  | .sto9600 => 16 | .sto9400 => 8 | .sto9200 => 4

/-- Net layout supported (R2). -/
def Variant.net : Variant → Bool
  | .sto9600 => true | .sto9400 => true | .sto9200 => false

/-- Pairing supported (R2). -/
def Variant.pair : Variant → Bool
  | .sto9600 => true | .sto9400 => true | .sto9200 => false

/-- Federation supported (R2). -/
def Variant.fed : Variant → Bool
  | .sto9600 => true | .sto9400 => false | .sto9200 => false

/-- DEV_CAP0 (R4, R473). -/
def Variant.cap0 (v : Variant) : Nat :=
  (match v with | .sto9600 => 6 | .sto9400 => 4 | .sto9200 => 2) + 2 ^ 8 * v.ports + 2 ^ 16 * v.clusters +
    2 ^ 20 * v.brides + 2 ^ 24 * v.pair.toNat + 2 ^ 25 * v.fed.toNat + 2 ^ 26 * v.net.toNat + 2 ^ 32 * v.vault16

/-- DEV_ID (R460). -/
def Variant.devId (v : Variant) : Nat :=
  (match v with | .sto9600 => 0x9600 | .sto9400 => 0x9400 | .sto9200 => 0x9200) + 2 ^ 16

/-- Bobbin port `p` is available (R5). -/
def State.portAvail (s : State) (p : Nat) : Bool := p < 32 && bit (s.f F.DEV_CAP1_BP_AVAIL) p

/-- Cluster `c` is available (R5). -/
def State.clusterAvail (s : State) (c : Nat) : Bool := c < 8 && bit (s.f F.DEV_CAP1_CL_AVAIL) c

/-- Bride port `i` is available (R5). -/
def State.brideAvail (s : State) (i : Nat) : Bool := i < 4 && bit (s.f F.DEV_CAP1_BR_AVAIL) i

/-- The available clusters in ascending order (R8). -/
def State.clusters (s : State) : List Nat := setBits (s.f F.DEV_CAP1_CL_AVAIL) 8

/-- The cluster that owns device-local band `b` (R8). -/
def State.bandOwner (s : State) (b : Nat) : Nat :=
  (s.clusters[b % s.clusters.length]?).getD 0

/-- The federation is present: DEV_CAP0.FED (R402, R474). -/
def State.fedPresent (s : State) : Bool := s.hw.variant.fed

/-- The pair registers are present: DEV_CAP0.PAIR (R474). -/
def State.pairPresent (s : State) : Bool := s.hw.variant.pair

/-- The unit is paired: PAIR_EN sampled on a variant that has pairing (R380, R479). -/
def State.paired (s : State) : Bool := s.hw.variant.pair && s.hw.straps.pairEn

/-- First byte of the 4 GiB host buffer region (HE_BUF_BASE, R465). -/
def State.bufBase (s : State) : Nat := s.hw.dramGib * 2 ^ 30 - 2 ^ 32

/-- First byte of the 272 MiB dump region (HE_DUMP_BASE, R465). -/
def State.dumpBase (s : State) : Nat := s.bufBase - 272 * 2 ^ 20

/-! ## Blocks, service and absence -/

/-- The blocks of R457; `other` is an offset between or beyond them, served by the control island (R458). -/
inductive Block where
  | global | rings | windows | mapCache | hoop | shuttle | arrays | doorbells | bobbin | pair | fed | power | health
  | clusters | other
  deriving DecidableEq, Repr

/-- The block an offset lies in (R457). -/
def blockOf (off : Nat) : Block :=
  if off ≤ 0xFFFF then .global
  else if off ≤ 0x2FFFF then .rings
  else if 0x40000 ≤ off ∧ off ≤ 0x5FFFF then .windows
  else if 0x80000 ≤ off ∧ off ≤ 0x8FFFF then .mapCache
  else if 0x90000 ≤ off ∧ off ≤ 0x9FFFF then .hoop
  else if 0xA0000 ≤ off ∧ off ≤ 0xA2FFF then .shuttle
  else if 0xC0000 ≤ off ∧ off ≤ 0xD3FFF then .arrays
  else if 0x100000 ≤ off ∧ off ≤ 0x103FFF then .doorbells
  else if 0x200000 ≤ off ∧ off ≤ 0x220FFF then .bobbin
  else if 0x400000 ≤ off ∧ off ≤ 0x4001FF then .pair
  else if 0x480000 ≤ off ∧ off ≤ 0x48017F then .fed
  else if 0x500000 ≤ off ∧ off ≤ 0x5000FF then .power
  else if 0x580000 ≤ off ∧ off ≤ 0x5801FF then .health
  else if 0x600000 ≤ off ∧ off ≤ 0x7FFFFF then .clusters
  else .other

/-- The mode's row of R35 serves the block. Offsets outside every block follow the control island (R458), whose global
block every mode with a host link serves. -/
def blockServed (m : Mode) (b : Block) : Bool :=
  match m with
  | .standby | .active | .maintenance | .halted => true
  | .flush => false
  | .dormant | .boot =>
    match b with
    | .global | .power | .other => true
    | _ => false
  | .witness =>
    match b with
    | .global | .rings | .windows | .doorbells | .pair | .fed | .power | .health | .clusters | .other => true
    | _ => false

/-- The array whose block an offset lies in, if any (R468). -/
def arrayOf (off : Nat) : Option Nat :=
  if 0xC0000 ≤ off ∧ off < 0xC2000 then some ((off - 0xC0000) / 0x200) else none

/-- Array `a` exists: ARR_STATE.EXISTS (R221). -/
def State.arrExists (s : State) (a : Nat) : Bool := a < 16 && s.flag (F.ARR_STATE_EXISTS a)

/-- The register at the offset belongs to an absent unit (R7, R474), or to an array that does not exist (R458). -/
def State.absentAt (s : State) (off : Nat) : Bool :=
  match blockOf off with
  | .bobbin => if off < 0x220000 then !s.portAvail ((off - 0x200000) / 0x1000) else !s.portAvail 0
  | .clusters => !s.clusterAvail ((off - 0x600000) / 0x40000)
  | .pair => !s.pairPresent && off < 0x400100
  | .fed => !s.fedPresent
  | .arrays => match arrayOf off with
    | some a => !s.arrExists a
    | none => false
  | _ => false

/-! ## Values that hardware derives -/

/-- DEV_MODE as it reads (R33); GO and REQ read zero. -/
def ModeReg.value (m : ModeReg) : Nat :=
  m.cur.code + 8 * m.busy.toNat + 16 * m.tgt.code + 2 ^ 15 * m.reqErr.toNat + 2 ^ 16 * (m.cause % 256)

/-- DEV_STATUS (R461). -/
def State.devStatus (s : State) : Nat :=
  ((List.range 16).map (fun a => (s.arrExists a).toNat * 2 ^ a)).sum +
    ((List.range 16).map (fun a => (s.arrExists a && s.f (F.ARR_STATE_STATE a) != 0).toNat * 2 ^ (16 + a))).sum +
    2 ^ 32 * s.f F.HU_STAT_HEALTHY + 2 ^ 33 * (decide (s.mode.cur = .halted)).toNat + 2 ^ 34 * s.f F.DEV_LOCK_LOCK +
    2 ^ 35 * (decide (2 ≤ s.f F.HLTH_DMP_STAT_STATE)).toNat

/-- The fields of a register row that a host read returns: write-only fields read zero (R13). -/
def readMask (off : Nat) : Nat :=
  match rowAt off with
  | some r => (r.fields.filter (fun x => x.access != .wo)).foldl (fun m x => m ||| ((2 ^ x.width - 1) * 2 ^ x.lo)) 0
  | none => 0

end Sys2Proof.Machine
end

