-- ==== Sys2Proof/Machine/Ops.lean ====
section
/-! DEFINITION. The named operations that every family shares: free values, messages sent, device event vectors and
MSI-X (R347, R470 to R472), the error log and its notices (R442 to R444, R494), the always-on log, health events (R449),
AER reports (R343), and CRCs (R59). -/

namespace Sys2Proof.Machine

/-! ## Free values and messages -/

/-- The next free value (log entry 2) and the state that has used it. -/
def State.freshVal (s : State) : Word := Config.freeValue s.free

/-- The next free DETAIL (log entry 2). -/
def State.freshDetail (s : State) : BitVec 256 := Config.freeDetail s.free

/-- Use one free value. -/
def State.bumpFree (s : State) : State := { s with free := s.free + 1 }

/-- Append a message the device sends (log entry 9). -/
def State.send (s : State) (m : OutMsg) : State := { s with out := s.out ++ [m] }

/-- Mirror an item to the standby while mirroring runs (R384). -/
def State.mirror (s : State) (m : MirrorItem) : State :=
  if s.pair.live then
    { s with pair := { s.pair with mirSeq := s.pair.mirSeq + 1 } }.send (.mirror (s.pair.mirSeq + 1) m)
  else s

/-- Every item mirrored up to a sequence number is durable: confirmed, or the peer is not needed (R89). -/
def State.durableAt (s : State) (seq : Nat) : Bool := !s.pair.mirroring || decide (seq ≤ s.pair.confSeq)

/-! ## CRCs -/

/-- One byte of a reflected CRC with polynomial `poly`. -/
def crcByteR (poly : Nat) : Nat → Nat → Nat
  | 0, c => c
  | n + 1, c => crcByteR poly n (if c % 2 = 1 then (c / 2) ^^^ poly else c / 2)

/-- CRC-32C (Castagnoli), reflected, initial value and final exclusive-or all ones (R59). -/
def crc32c (bs : List Byte) : Nat :=
  (bs.foldl (fun c b => crcByteR 0x82F63B78 8 (c ^^^ b.toNat)) 0xFFFFFFFF) ^^^ 0xFFFFFFFF

/-- One byte of a most-significant-first CRC of `w` bits. -/
def crcByteM (w poly : Nat) : Nat → Nat → Nat
  | 0, c => c
  | n + 1, c => crcByteM w poly n (if bit c (w - 1) then (c * 2 % 2 ^ w) ^^^ poly else c * 2 % 2 ^ w)

/-- CRC-16 with polynomial 0x8BB7, initial value 0 (the T10 guard, R184). -/
def crc16t10 (bs : List Byte) : Nat :=
  bs.foldl (fun c b => crcByteM 16 0x8BB7 8 (c ^^^ (b.toNat * 256))) 0

/-- The 64-bit guard: CRC-64 of the NVM Express 64b guard, reflected, all ones in and out (R184). -/
def crc64nvme (bs : List Byte) : Nat :=
  (bs.foldl (fun c b => crcByteR 0x9A6C9329AC4BC9B5 8 (c ^^^ b.toNat)) 0xFFFFFFFFFFFFFFFF) ^^^ 0xFFFFFFFFFFFFFFFF

/-! ## Endpoints and MSI-X -/

/-- Two endpoints (R327). -/
def State.bifurcated (s : State) : Bool := s.hw.straps.hbif

/-- Endpoint `e` of the device. -/
def State.ep (s : State) (e : Nat) : Endpoint := if e = 0 then s.ep0 else s.ep1

/-- Replace endpoint `e`. -/
def State.setEp (s : State) (e : Nat) (x : Endpoint) : State :=
  if e = 0 then { s with ep0 := x } else { s with ep1 := x }

/-- The endpoint that carries ring `r` (R327). -/
def State.ringEp (s : State) (r : Nat) : Nat := if s.bifurcated && 512 ≤ r then 1 else 0

/-- An MSI-X table entry as reset leaves it: masked (R347). -/
def msixReset (_ : Nat) : MsixEntry := { addr := 0, data := 0, mask := true }

/-- A pending bit as reset leaves it. -/
def pbaReset (_ : Nat) : Bool := false

/-- The endpoint may send an MSI-X message of the vector now (R347, R348, R353). -/
def Endpoint.canSend (x : Endpoint) (v : Nat) : Bool :=
  x.msixEnable && !x.msixFunctionMask && !(Tbl.get msixReset x.table v).mask && x.busMaster &&
    decide (x.dstate = .d0) && !x.flrBusy

/-- The host link of the device carries nothing: Flush (R35, R472), a power failure in Halted (R436), and a module without
power. -/
def State.linkOff (s : State) : Bool := decide (s.mode.cur = .flush) || s.power.flush.isSome || !s.hw.powered

/-- Nothing passes between the host and the device: the link is off, or PERST0# is asserted (R486). -/
def State.hostDown (s : State) : Bool := s.linkOff || s.hw.perst0

/-- BAR requests are served: Memory Space Enable and D0 (R330, R348). -/
def Endpoint.open_ (x : Endpoint) : Bool := x.memSpace && decide (x.dstate = .d0)

/-- Configuration requests of an endpoint are answered: not during a function level reset (R352). -/
def State.cfgOpen (s : State) (e : Nat) : Bool := !s.hostDown && !(s.ep e).flrBusy

/-- Make a message due on vector `v` of endpoint `e` (R347): sent, or its pending bit set. -/
def State.msixDue (s : State) (e v : Nat) : State :=
  if s.hostDown then s
  else if (s.ep e).canSend v then
    s.send (.msix e v (Tbl.get msixReset (s.ep e).table v).addr (Tbl.get msixReset (s.ep e).table v).data)
  else s.setEp e { s.ep e with pba := Tbl.set pbaReset (s.ep e).pba v true }

/-- Send the pending messages that may now be sent (R347). -/
def State.msixRelease (s : State) (e : Nat) : State :=
  let ready := (s.ep e).pba.filter (fun x => x.2 && (s.ep e).canSend x.1)
  ready.foldl (fun s x =>
    (s.setEp e { s.ep e with pba := Tbl.set pbaReset (s.ep e).pba x.1 false }).send
      (.msix e x.1 (Tbl.get msixReset (s.ep e).table x.1).addr (Tbl.get msixReset (s.ep e).table x.1).data)) s

/-- PME raised by a device event that becomes pending outside D0 (R349). -/
def State.pmeCheck (s : State) (e : Nat) : State :=
  if (s.ep e).pmeEnable then
    match (s.ep e).dstate with
    | .d0 => s
    | .d3cold => { s with hw := { s.hw with wake := true } }
    | _ => s.send (.pmPme e)
  else s

/-- The endpoints that carry device event vectors (R327). -/
def State.endpoints (s : State) : List Nat := if s.bifurcated then [0, 1] else [0]

/-- The sources of a device event are powered: in Dormant only those of mode, hold-up and thermal (R472). -/
def State.eventPowered (s : State) (i : Nat) : Bool := decide (s.mode.cur ≠ .dormant) || i == 0 || i == 6 || i == 7

/-- Raise device event `i`: vector 1,024 + i, DEV_EVT bit i, one message due on each endpoint (R463, R470, R471). -/
def State.raiseEvent (s : State) (i : Nat) : State :=
  if !s.eventPowered i then s
  else (s.setReg R.DEV_EVT (BitVec.ofNat 64 (putBit (s.reg R.DEV_EVT).toNat i true))).endpoints.foldl
    (fun s e => (s.msixDue e (1024 + i)).pmeCheck e)
    (s.setReg R.DEV_EVT (BitVec.ofNat 64 (putBit (s.reg R.DEV_EVT).toNat i true)))

/-! ## The error log -/

/-- Classes of error log records (R442). -/
def clsNotice : Nat := 0
/-- Corrected errors. -/
def clsCorrectable : Nat := 1
/-- Deferred errors. -/
def clsDeferred : Nat := 2
/-- Array errors and state changes. -/
def clsArray : Nat := 3
/-- Fatal errors. -/
def clsFatal : Nat := 4
/-- Health events. -/
def clsHealth : Nat := 5

/-- The slots of an empty error log. -/
def noRec (_ : Nat) : Option LogRec := none

/-- The 60 bytes that a record's CRC covers (R442). -/
def LogRec.body (r : LogRec) : List Byte :=
  leBytes 8 r.tbase.toNat ++ leBytes 1 r.cls ++ leBytes 1 r.src ++ leBytes 2 r.unit ++ leBytes 2 r.code ++
    leBytes 2 0 ++ leBytes 8 r.addr ++ leBytes 32 r.detail.toNat ++ leBytes 4 r.seq

/-- A record's 64 bytes (R442). -/
def LogRec.bytes (r : LogRec) : List Byte := r.body ++ leBytes 4 (crc32c r.body)

/-- Write one error log record of an event at TBASE `t`: next slot in turn, ELOG_STAT, and the error-log vector for classes 2 to 5 while
ELOG_STAT.EVT = 0 (R442, R443). -/
def State.logRecAt (s : State) (t : Word) (cls src unit code addr : Nat) (detail : BitVec 256) : State :=
  let seq := s.elog.next + 1
  let r : LogRec := { tbase := t, cls, src, unit, code, addr, detail, seq }
  let s1 := { s with elog := { slots := Tbl.set noRec s.elog.slots (s.elog.next % 4096) (some r), next := seq } }
  let s2 := (s1.setF F.ELOG_STAT_COUNT (min 4096 seq)).setF F.ELOG_STAT_NEWSEQ seq
  let s3 := if 4096 < seq then s2.setFlag F.ELOG_STAT_WRAP true else s2
  if 2 ≤ cls && !s3.flag F.ELOG_STAT_EVT then (s3.setFlag F.ELOG_STAT_EVT true).raiseEvent 1 else s3

/-- An error log record of an event of this moment (R442); none in Dormant, where the control island is unpowered and the always-on log
takes only the events of R444 (R472; DEDUCED, log entry 97). -/
def State.logRec (s : State) (cls src unit code addr : Nat) (detail : BitVec 256) : State :=
  if s.mode.cur = .dormant then s else s.logRecAt s.tbase cls src unit code addr detail

/-- A notice's DETAIL: the value written, then a code the refusing unit reports (R494). -/
def noticeDetail (value code : Nat) : BitVec 256 := BitVec.ofNat 256 (value % 2 ^ 64 + 2 ^ 64 * code)

/-- Write an always-on log record (R444). -/
def State.logAon (s : State) (code : Nat) (detail : Nat) : State :=
  let r : AonRec := { tbase := s.tbase, code, detail := BitVec.ofNat 48 detail }
  let lapped := decide (256 ≤ s.aon.pend)
  let a := { recs := lastN 256 (s.aon.recs ++ [r]), pend := min 256 (s.aon.pend + 1), ovf := s.aon.ovf || lapped }
  ({ s with aon := a }.setF F.ELOG_AON_PEND a.pend).setFlag F.ELOG_AON_OVF a.ovf

/-- Log a notice (R443, R494). In Dormant the control island cannot act and the always-on log takes it (R444). -/
def State.notice (s : State) (src unit code addr value : Nat) (detail : Nat := 0) : State :=
  if s.mode.cur = .dormant then s.logAon code addr
  else s.logRec clsNotice src unit code addr (noticeDetail value detail)

/-- Log a refusal for which firmware gives its own detail code: a free value (R494, code 0x0007; log entry 2). -/
def State.noticeOther (s : State) (src unit addr value : Nat) : State :=
  (s.notice src unit 7 addr value s.freshVal.toNat).bumpFree

/-- A corrected error of a unit: logged at most once per unit in 60 s, with the count since the last record (R443); no call gives it a
status, so CODE is a free value (R442; log entry 2). Units are numbered src · 65,536 + unit. -/
def State.logCorrected (s : State) (src unit addr : Nat) : State :=
  let k := src * 65536 + unit
  let d : Nat → CorrUnit := fun _ => { count := 0, lastLog := none }
  let u := Tbl.get d s.corrected k
  let due := match u.lastLog with
    | none => true
    | some t => decide (6000000000 ≤ (s.tbase - t).toNat)
  if due then
    ({ s with corrected := Tbl.set d s.corrected k { count := 0, lastLog := some s.tbase } }.logRec clsCorrectable src
      unit (s.freshVal.toNat % 65536) addr (BitVec.ofNat 256 (u.count + 1))).bumpFree
  else { s with corrected := Tbl.set d s.corrected k { u with count := u.count + 1 } }

/-- A deferred error (R441, R443); its DETAIL is source-specific, a free value (R442; log entry 2). -/
def State.logDeferred (s : State) (src unit code addr : Nat) : State :=
  (s.logRec clsDeferred src unit code addr s.freshDetail).bumpFree

/-- A record whose CODE the spec does not state: code and detail are free values (R442; log entry 2). -/
def State.logOpen (s : State) (cls src unit addr : Nat) : State :=
  (s.logRec cls src unit (s.freshVal.toNat % 65536) addr s.freshDetail).bumpFree

/-- An array event tied to no call: declaration, state change, lost stripe (R201, R206, R214, R442). -/
def State.logArrayOpen (s : State) (a addr : Nat) : State := s.logOpen clsArray 10 a addr

/-- Critical health events not yet cleared in HLTH_EVT (R447). -/
def State.critNow (s : State) : Nat := if s.flag F.HLTH_EVT_CRIT then s.health.critCount else 0

/-- A health event of TBASE `t` (R449): a CLASS 5 record, HLTH_EVT, the health vector. DETAIL is source-specific, a free value where no rule
names its content (log entry 2). -/
def State.healthEventAt (s : State) (t : Word) (code : Nat) (critical : Bool) (src unit : Nat)
    (detail : Option (BitVec 256)) : State :=
  let s1 := (s.logRecAt t clsHealth src unit code 0 (detail.getD s.freshDetail)).bumpFree
  let s2 := (s1.setFlag F.HLTH_EVT_EVT true).setF F.HLTH_EVT_LAST code
  let s3 := if critical then
      { s2.setFlag F.HLTH_EVT_CRIT true with health := { s2.health with critCount := min 255 (s2.critNow + 1) } }
    else s2
  s3.raiseEvent 2

/-- A health event of this moment (R449); none in Dormant (R472; log entry 97). -/
def State.healthEvent (s : State) (code : Nat) (critical : Bool) (src unit : Nat)
    (detail : Option (BitVec 256) := none) : State :=
  if s.mode.cur = .dormant then s else s.healthEventAt s.tbase code critical src unit detail

/-- Report an error through AER and log it (R343; notice 0x0006, whose header log and status bits are a free value). -/
def State.aer (s : State) (e : Nat) (k : AerError) (sev : Severity := .advisory) : State :=
  let x := s.ep e
  let s1 := s.setEp e { x with aerStatus := if k ∈ x.aerStatus then x.aerStatus else x.aerStatus ++ [k] }
  let s2 := s1.send (.aer e k sev)
  (if s2.mode.cur = .dormant then s2.logAon 6 0 else s2.logRec clsNotice 1 0xFFFF 6 0 s2.freshDetail).bumpFree

/-- Copy the always-on records not yet copied into the error log (R444), each with the TBASE of its event, and its detail as ADDR. -/
def State.copyAon (s : State) : State :=
  let pend := lastN s.aon.pend s.aon.recs
  let s1 := pend.foldl (fun s r =>
    if r.code = 0x0D then s.healthEventAt r.tbase 0x0D true 12 (r.detail.toNat % 65536) none
    else s.logRecAt r.tbase clsNotice 12 0xFFFF r.code r.detail.toNat 0) s
  let s2 := if s.aon.ovf then s1.logRec clsNotice 12 0xFFFF 0xFFFF 0 0 else s1
  ({ s2 with aon := { s2.aon with pend := 0, ovf := false } }.setF F.ELOG_AON_PEND 0).setFlag F.ELOG_AON_OVF false

end Sys2Proof.Machine
end

