-- ==== Sys2Proof/Machine/Geometry.lean ====
section
/-! DEFINITION. Arithmetic over GF(2^8) (R48), layouts and column roles (R45, R46), syndromes (R49), solving (R56, R57),
tolerance (R54), placement (R51 to R53), the pricking format (R58, R60), and map addresses (R114 to R117). -/

namespace Sys2Proof.Machine

/-! ## GF(2^8) (R48) -/

/-- Multiply by the generator 0x02 modulo 0x11D. -/
def gfDouble (a : Nat) : Nat := if 128 ≤ a % 256 then (2 * (a % 256)) ^^^ 0x11D else 2 * (a % 256)

/-- `a` doubled `n` times. -/
def gfShift (a : Nat) : Nat → Nat
  | 0 => a
  | n + 1 => gfDouble (gfShift a n)

/-- Product by repeated doubling over the low `n` bits of `b`. -/
def gfMulBits (a b : Nat) : Nat → Nat
  | 0 => 0
  | n + 1 => (if bit b n then gfShift a n else 0) ^^^ gfMulBits a b n

/-- The product in GF(2^8) (R48). -/
def gfMul (a b : Nat) : Nat := gfMulBits (a % 256) (b % 256) 8

/-- g^k. -/
def gfExp (k : Nat) : Nat := gfShift 1 (k % 255)

/-- The inverse of a nonzero element: a^254. -/
def gfInv (a : Nat) : Nat :=
  let a2 := gfMul a a
  let a4 := gfMul a2 a2
  let a8 := gfMul a4 a4
  let a16 := gfMul a8 a8
  let a32 := gfMul a16 a16
  let a64 := gfMul a32 a32
  let a128 := gfMul a64 a64
  gfMul a128 (gfMul a64 (gfMul a32 (gfMul a16 (gfMul a8 (gfMul a4 a2)))))

/-! ## The pricking format (R58) -/

/-- Byte `o` of an image. -/
def pkByte (img : List Byte) (o : Nat) : Nat := (img.getD o 0).toNat

/-- `n` bytes of an image as a number. -/
def pkNum (img : List Byte) (o n : Nat) : Nat := leNat ((img.drop o).take n)

/-- LAYOUT. -/
def pkLayout (img : List Byte) : Nat := pkByte img 0x005
/-- Member count n. -/
def pkN (img : List Byte) : Nat := pkByte img 0x006
/-- Width w. -/
def pkW (img : List Byte) : Nat := pkByte img 0x007
/-- Parity count p. -/
def pkP (img : List Byte) : Nat := pkByte img 0x008
/-- Net group count g. -/
def pkG (img : List Byte) : Nat := pkByte img 0x009
/-- Net group size m. -/
def pkM (img : List Byte) : Nat := pkByte img 0x00A
/-- STRIP_LOG2. -/
def pkStripLog2 (img : List Byte) : Nat := pkByte img 0x00B
/-- Strip size Z in bytes. -/
def pkZ (img : List Byte) : Nat := 2 ^ pkStripLog2 img
/-- STRIDE a. -/
def pkStride (img : List Byte) : Nat := pkByte img 0x00C
/-- ARRAY. -/
def pkArray (img : List Byte) : Nat := pkByte img 0x00D % 16
/-- KSTRIPS k. -/
def pkK (img : List Byte) : Nat := pkNum img 0x00E 2
/-- GENERATION. -/
def pkGen (img : List Byte) : Nat := pkNum img 0x010 4
/-- STRIPES per band. -/
def pkStripes (img : List Byte) : Nat := pkNum img 0x014 4
/-- PERM[r]. -/
def pkPerm (img : List Byte) (r : Nat) : Nat := pkByte img (0x020 + r)
/-- MEMBER[k]: the enrolment number behind member index k. -/
def pkMember (img : List Byte) (k : Nat) : Nat := pkNum img (0x0A0 + 2 * k) 2
/-- CRC. -/
def pkCrc (img : List Byte) : Nat := pkNum img 0x1FC 4
/-- Data strips d (R45). -/
def pkD (img : List Byte) : Nat := pkW img - pkP img

/-- The sleds of a pricking, by member index. -/
def pkMembers (img : List Byte) : List Nat := (List.range (pkN img)).map (pkMember img)

/-- The byte range [a, b) of an image is zero. -/
def pkZero (img : List Byte) (a b : Nat) : Bool := ((img.drop a).take (b - a)).all (fun x => x == 0)

/-- Step 3 of R60: ranges of R58, consistency with R45 and R47, STRIPES, reserved bytes, and w ≤ n of R52 (log entry
11). -/
def pkRangesOk (img : List Byte) : Bool :=
  let n := pkN img; let w := pkW img; let p := pkP img
  decide (2 ≤ n ∧ n ≤ 128) && decide (16 ≤ pkStripLog2 img ∧ pkStripLog2 img ≤ 20) &&
    decide (1 ≤ pkStride img ∧ pkStride img ≤ n - 1) && decide (pkByte img 0x00D < 16) &&
    decide (1 ≤ pkK img) && decide (1 ≤ pkGen img) && decide (w ≤ n) &&
    decide (0 < w) && pkStripes img == n * (pkK img / w) &&
    pkZero img 0x018 0x020 && pkZero img 0x1A0 0x1FC &&
    (match pkLayout img with
      | 1 => p == 1 && pkG img == 0 && pkM img == 0 && decide (2 ≤ w ∧ w ≤ 64)
      | 2 => p == 2 && pkG img == 0 && pkM img == 0 && decide (3 ≤ w ∧ w ≤ 64)
      | 3 => p == pkG img + 2 && decide (1 ≤ pkG img ∧ pkG img ≤ 8) && decide (2 ≤ pkM img) &&
          w == pkG img * pkM img + 2 && decide (w ≤ 64)
      | _ => false)

/-- Step 5 of R60. -/
def pkPermOk (img : List Byte) : Bool :=
  let n := pkN img
  (List.range n).all (fun x => ((List.range n).map (pkPerm img)).contains x) &&
    (List.range (128 - n)).all (fun i => pkPerm img (n + i) == 0xFF)

/-- Steps 1 to 6 of R60 in their order: the first failing check's code of R67, or 0. `extra` is a check that a call adds
within step 3 (R60, R285). -/
def pkLoadCheck (net : Bool) (extra : Bool) (img : List Byte) : Nat :=
  if !(pkNum img 0 4 == 0x474B5250 && pkByte img 4 == 1 && pkCrc img == crc32c (img.take 0x1FC)) then 0x0310
  else if pkLayout img == 3 && !net then 0x0407
  else if !(pkRangesOk img && extra) then 0x0311
  else if Nat.gcd (pkStride img) (pkN img) != 1 then 0x0312
  else if !pkPermOk img then 0x0313
  else if !((List.range (128 - pkN img)).all (fun i => pkMember img (pkN img + i) == 0xFFFF)) then 0x0313
  else if !(pkMembers img).Nodup then 0x0314
  else 0

/-! ## Columns, placement (R46, R51 to R53) -/

/-- The role of a column before rotation (R46). -/
inductive Role where
  | data (i : Nat) | parP | parQ | parS | parL (j : Nat)
  deriving DecidableEq, Repr

/-- The role of column `c` (R46). -/
def pkRole (img : List Byte) (c : Nat) : Role :=
  if pkLayout img = 3 then
    if c = pkG img * pkM img then .parQ
    else if c = pkG img * pkM img + 1 then .parS
    else if c % pkM img = pkM img - 1 then .parL (c / pkM img)
    else .data (c / pkM img * (pkM img - 1) + c % pkM img)
  else if c < pkD img then .data c
  else if c = pkD img then .parP
  else .parQ

/-- The column of data index `i` (R46). -/
def pkColOf (img : List Byte) (i : Nat) : Nat :=
  if pkLayout img = 3 then i / (pkM img - 1) * pkM img + i % (pkM img - 1) else i

/-- The parity columns in ascending order (R254). -/
def pkParityCols (img : List Byte) : List Nat :=
  (List.range (pkW img)).filter (fun c => match pkRole img c with | .data _ => false | _ => true)

/-- The member index that holds column `c` of stripe `st` (R51). -/
def pkMemberIdx (img : List Byte) (st c : Nat) : Nat :=
  pkPerm img ((pkStride img * st + (c + st) % pkW img) % pkN img)

/-- The slot r of column `c` of stripe `st`. -/
def pkSlotOf (img : List Byte) (st c : Nat) : Nat := (pkStride img * st + (c + st) % pkW img) % pkN img

/-- The strip position of stripe `st` on member slot `r` (R53). -/
def pkPosition (img : List Byte) (st r : Nat) : Nat :=
  st / pkN img * pkW img +
    ((List.range (st % pkN img)).filter
      (fun x => decide ((r + pkN img * pkStride img - pkStride img * x % pkN img) % pkN img < pkW img))).length

/-- Stripes of a band: n·⌊k/w⌋, with k' = ⌊E / (b·Z)⌋ for pseudo-SLC kinds (R53, R123). -/
def pkBandStripes (img : List Byte) (kind : BandKind) (bitsPerCell : Nat) : Nat :=
  match kind with
  | .host | .reloc => pkN img * (pkK img / pkW img)
  | _ => pkN img * (pkK img / max 1 bitsPerCell / pkW img)

/-- BLOCK of a member excluded from a band (R202). -/
def noBlock : Nat := 0xFFFFFF

/-- The stride a' of a band with `n'` members: the first x mod n' from a upward that is nonzero and coprime to n' (R202). -/
def effStride (n' : Nat) : Nat → Nat → Nat
  | 0, _ => 1
  | fuel + 1, x => if x % n' ≠ 0 ∧ Nat.gcd (x % n') n' = 1 then x % n' else effStride n' fuel (x + 1)

/-- The pricking as it places a band whose blocks leave failed members out: n', PERM' and a' for n, PERM and a (R202).
Member indices keep their meaning. -/
def effImg (img : List Byte) (blocks : List Nat) : List Byte :=
  let out (k : Nat) : Bool := blocks.getD k 0 == noBlock
  if (List.range (pkN img)).any out then
    let perm := ((List.range (pkN img)).map (pkPerm img)).filter (fun k => !out k)
    let n' := perm.length
    let a' := if n' ≤ 1 then 1 else effStride n' (2 * n') (pkStride img)
    (((img.set 0x006 (BitVec.ofNat 8 n')).set 0x00C (BitVec.ofNat 8 a')).take 0x020) ++
      (padTo 128 0xFF (perm.map (BitVec.ofNat 8))) ++ img.drop 0x0A0
  else img

/-! ## Tolerance (R54, R55) -/

/-- Lost columns of group `j`. -/
def netGroupLost (m : Nat) (lost : List Nat) (j : Nat) : Nat :=
  (lost.filter (fun c => decide (j * m ≤ c ∧ c < j * m + m))).length

/-- The stripe with the lost columns is within tolerance (R54). -/
def pkWithin (img : List Byte) (lost : List Nat) : Bool :=
  match pkLayout img with
  | 1 => decide (lost.length ≤ 1)
  | 2 => decide (lost.length ≤ 2)
  | _ =>
    let g := pkG img; let m := pkM img
    let rest := ((List.range g).map (fun j =>
      let k := netGroupLost m lost j
      if 2 ≤ k then k else 0)).sum
    decide (rest + (lost.filter (fun c => decide (g * m ≤ c))).length ≤ 3)

/-! ## Syndromes and solving, byte by byte (R49, R56, R57) -/

/-- The coefficient by which data index `i` enters a parity column (R49), given the group of the index. -/
def parityCoeff (img : List Byte) (role : Role) (i : Nat) : Nat :=
  match role with
  | .parP => 1
  | .parQ => gfExp i
  | .parS => gfExp (2 * i)
  | .parL j => if i / (pkM img - 1) = j then 1 else 0
  | .data _ => 0

/-- R56's table: the solution bytes for unknown indices with the reduced syndromes that are available, by the first row
that applies (R57); none if no row applies. -/
def gfSolve (idx : List Nat) (a b c : Option Nat) : Option (List Nat) :=
  match idx, a, b, c with
  | [_], some a, _, _ => some [a]
  | [i], none, some b, _ => some [gfMul b (gfInv (gfExp i))]
  | [i], none, none, some c => some [gfMul c (gfInv (gfExp (2 * i)))]
  | [i, j], some a, some b, _ =>
    let xi := gfExp i; let xj := gfExp j
    let dj := gfMul (b ^^^ gfMul xi a) (gfInv (xi ^^^ xj))
    some [a ^^^ dj, dj]
  | [i, j], some a, none, some c =>
    let xi := gfExp i; let xj := gfExp j
    let dj := gfMul (c ^^^ gfMul (gfMul xi xi) a) (gfInv (gfMul (xi ^^^ xj) (xi ^^^ xj)))
    some [a ^^^ dj, dj]
  | [i, j], none, some b, some c =>
    let xi := gfExp i; let xj := gfExp j
    let dj := gfMul (c ^^^ gfMul xi b) (gfInv (gfMul xj (xi ^^^ xj)))
    some [gfMul b (gfInv xi) ^^^ gfMul (gfMul xj (gfInv xi)) dj, dj]
  | [i, j, k], some a, some b, some c =>
    let xi := gfExp i; let xj := gfExp j; let xk := gfExp k
    let dk := gfMul (c ^^^ gfMul (xi ^^^ xj) b ^^^ gfMul (gfMul xi xj) a) (gfInv (gfMul (xk ^^^ xi) (xk ^^^ xj)))
    let dj := gfMul (b ^^^ gfMul xi a ^^^ gfMul (xk ^^^ xi) dk) (gfInv (xj ^^^ xi))
    some [a ^^^ dj ^^^ dk, dj, dk]
  | _, _, _, _ => none

/-! ## Map entries and addresses (R114 to R117) -/

/-- The 12 bytes CHECK covers: entry bytes 0 to 5, the grain number, the array number (R115). -/
def mapCheck (entry grain array : Nat) : Nat :=
  crc16t10 (leBytes 6 entry ++ leBytes 5 grain ++ leBytes 1 array)

/-- PGA of no location (R114). -/
def pgaNone : Nat := 0xFFFFFFFFFF

/-- An entry's value from its 48 low bits, with its CHECK (R114, R115). -/
def mapWord (entry grain array : Nat) : Word :=
  BitVec.ofNat 64 (entry % 2 ^ 48 + 2 ^ 48 * mapCheck (entry % 2 ^ 48) grain array)

/-- Fields of an entry's low 48 bits. -/
def mePga (e : Nat) : Nat := bits e 0 40
/-- VALID. -/
def meValid (e : Nat) : Bool := bit e 40
/-- DISCARDED. -/
def meDiscarded (e : Nat) : Bool := bit e 41
/-- POISONED. -/
def mePoisoned (e : Nat) : Bool := bit e 42
/-- PINNED. -/
def mePinned (e : Nat) : Bool := bit e 43

/-- Build an entry's low 48 bits. -/
def meMake (pga : Nat) (valid discarded poisoned pinned : Bool) : Nat :=
  pga % 2 ^ 40 + 2 ^ 40 * valid.toNat + 2 ^ 41 * discarded.toNat + 2 ^ 42 * poisoned.toNat + 2 ^ 43 * pinned.toNat

/-- A flag combination that R116 gives a meaning, reserved bits zero. -/
def meLegal (e : Nat) : Bool :=
  bits e 44 4 == 0 &&
    (match meValid e, meDiscarded e with
      | false, false => mePga e == pgaNone
      | true, false => mePga e != pgaNone
      | false, true => true
      | true, true => false)

/-- The entry passes its check (R115, R116). -/
def mapOk (w : Word) (grain array : Nat) : Bool :=
  w == mapWord (w.toNat % 2 ^ 48) grain array && meLegal (w.toNat % 2 ^ 48)

/-- Band of a PGA. -/
def pgaBand (p : Nat) : Nat := bits p 19 21
/-- Unit of a PGA. -/
def pgaUnit (p : Nat) : Nat := bits p 0 19
/-- PGA of a unit of a band. -/
def pgaMake (band unit : Nat) : Nat := band * 2 ^ 19 + unit

/-- Stripe, data index and byte offset within the strip of unit `u` (R117). -/
def pgaLocate (img : List Byte) (u : Nat) : Nat × Nat × Nat :=
  let uz := pkZ img / 65536
  (u / uz / pkD img, u / uz % pkD img, u % uz * 65536)

/-- The first unit of data position `blk` (in blocks from the start of stripe `st`) (R117). -/
def unitOf (img : List Byte) (st blk : Nat) : Nat := (st * pkD img * pkZ img + blk * 4096) / 65536

/-- A media address (R246). -/
def mediaAddr (array band stripe column : Nat) : Nat :=
  array % 16 + 2 ^ 8 * (band % 2 ^ 21) + 2 ^ 32 * (stripe % 2 ^ 24) + 2 ^ 56 * (column % 64)

/-- Blocks per grain of grain code 0, 1, 2 (R110). -/
def grainBlocks (code : Nat) : Nat := 16 * 4 ^ code

end Sys2Proof.Machine
end

