-- ==== Sys2Proof/Machine/McOps.lean ====
section
/-! DEFINITION. The map and its cache: how MAPLU and MAPUP reach an entry (R124, R152 to R158, R168, R169). The map is
keyed array · 2^40 + grain. -/

namespace Sys2Proof.Machine

/-- The key of a grain of an array in the map's tables. -/
def grainKey (a g : Nat) : Nat := a * 2 ^ 40 + g

/-- What an entry never written reads as: unmapped, with its CHECK (R115, R116). -/
def mapDefault (k : Nat) : Word := mapWord (meMake pgaNone false false false false) (k % 2 ^ 40) (k / 2 ^ 40 % 16)

/-- An invalid line. -/
def lineReset (_ : Nat) : CacheLine := { valid := false, tag := 0, dirty := false, entries := [], fresh := false }
/-- Cleared tree bits. DESIGN CHOICE: R156 gives them no reset value (log entry 73). -/
def plruReset (_ : Nat) : Nat := 0

/-- The line number of a grain (R152). -/
def lineOf (g : Nat) : Nat := g / 8

/-- The set of a line (R153). -/
def mcSet (n : Nat) : Nat := (n ^^^ (n / 2 ^ 14) ^^^ (n / 2 ^ 28)) % 2 ^ 14

/-- A line's tag (R152). -/
def mcTag (a g : Nat) : Nat := a * 2 ^ 40 + lineOf g

/-- MC_CTL.STATE: 0 Off, 1 On, 2 Draining (R168, R169). -/
def State.mcState (s : State) : Nat := s.f F.MC_CTL_STATE

/-- The line in a set and way. -/
def State.line (s : State) (set way : Nat) : CacheLine := Tbl.get lineReset s.mc.lines (set * 16 + way)

/-- Replace the line in a set and way. -/
def State.setLine (s : State) (set way : Nat) (l : CacheLine) : State :=
  { s with mc := { s.mc with lines := Tbl.set lineReset s.mc.lines (set * 16 + way) l } }

/-- The way of a set that holds a line, if any. -/
def State.wayOf (s : State) (set tag : Nat) : Option Nat :=
  (List.range 16).find? (fun w => (s.line set w).valid && (s.line set w).tag == tag)

/-- The DRAM map's entry (R124). -/
def State.dramEntry (s : State) (a g : Nat) : Word := Tbl.get mapDefault s.map (grainKey a g)

/-- Write the DRAM map's entry. -/
def State.setDramEntry (s : State) (a g : Nat) (w : Word) : State :=
  { s with map := Tbl.set mapDefault s.map (grainKey a g) w }

/-- The eight entries of a line as DRAM holds them. -/
def State.dramLine (s : State) (tag : Nat) : List Word :=
  (List.range 8).map (fun i => s.dramEntry (tag / 2 ^ 40) (tag % 2 ^ 40 * 8 + i))

/-- Write a line's entries to DRAM. -/
def State.writeLine (s : State) (l : CacheLine) : State :=
  (List.range 8).foldl (fun s i =>
    s.setDramEntry (l.tag / 2 ^ 40) (l.tag % 2 ^ 40 * 8 + i) (l.entries.getD i 0)) s

/-- Bits of MC_WAYLOCK, MC_WAYPRE, MC_WAYDIS. -/
def State.wayLocked (s : State) (w : Nat) : Bool := bit (s.f F.MC_WAYLOCK_LOCK) w
/-- The way is held by a preload: MC_WAYPRE marks ways held or locked (R164). -/
def State.wayHeld (s : State) (w : Nat) : Bool := bit (s.f F.MC_WAYPRE_PRE) w && !s.wayLocked w
/-- The way is disabled (R171). -/
def State.wayDisabled (s : State) (w : Nat) : Bool := bit (s.f F.MC_WAYDIS_DIS) w

/-- The way the tree names among the eligible ones, from a node down (R156). -/
def plruWalk (b : Nat) (eligible : Nat → Bool) : Nat → Nat → Option Nat
  | 0, x => if 15 ≤ x ∧ eligible (x - 15) then some (x - 15) else none
  | n + 1, x =>
    let l := 2 * x + 1
    let r := 2 * x + 2
    if bit b x then (plruWalk b eligible n r).or (plruWalk b eligible n l)
    else (plruWalk b eligible n l).or (plruWalk b eligible n r)

/-- Tree bits after a hit or fill of way `v`: every node on the path points away (R156). -/
def plruTouch (b v : Nat) : Nat :=
  let n3 := (v + 15 - 1) / 2
  let n2 := (n3 - 1) / 2
  let n1 := (n2 - 1) / 2
  let away (b node child : Nat) : Nat := putBit b node (child == 2 * node + 1)
  away (away (away (away b n3 (v + 15)) n2 n3) n1 n2) 0 n1

/-- The victim way of a set (R155). -/
def State.victim (s : State) (set : Nat) : Option Nat :=
  let free := (List.range 16).find? (fun w => !(s.line set w).valid && !s.wayDisabled w && !s.wayHeld w)
  free.or (plruWalk (Tbl.get plruReset s.mc.plru set)
    (fun w => !s.wayLocked w && !s.wayDisabled w && !s.wayHeld w) 4 0)

/-- Mark a hit or fill of a way in the set's tree. -/
def State.touchWay (s : State) (set w : Nat) : State :=
  { s with mc := { s.mc with plru := Tbl.set plruReset s.mc.plru set (plruTouch (Tbl.get plruReset s.mc.plru set) w) } }

/-- Fill a line from DRAM into a way. -/
def State.fillLine (s : State) (set w tag : Nat) (fresh : Bool) : State :=
  s.setLine set w { valid := true, tag, dirty := false, entries := s.dramLine tag, fresh }

/-- The set waits for a write-back (R157). -/
def State.setStalled (s : State) (set : Nat) : Bool := s.mc.waits.any (fun x => x.set == set)

/-- A request must stall: its set waits for a write-back, or its miss has a dirty victim (R157). -/
def State.mapStall (s : State) (a g : Nat) : Bool :=
  let set := mcSet (lineOf g)
  s.setStalled set ||
    (s.mcState == 1 && (s.wayOf set (mcTag a g)).isNone &&
      (match s.victim set with | some w => (s.line set w).valid && (s.line set w).dirty | none => false))

/-- A set waits for the write-back of a way's line, whose place another line is to take. -/
def State.waitWriteBack (s : State) (x : WriteBack) : State := { s with mc := { s.mc with waits := s.mc.waits ++ [x] } }

/-- Start the write-back of a dirty victim for a miss; the fill follows its acknowledgement (R157). -/
def State.startWriteBack (s : State) (a g : Nat) : State :=
  let set := mcSet (lineOf g)
  if s.setStalled set then s
  else match s.victim set with
    | some w => (s.waitWriteBack { set, way := w, tag := mcTag a g }).incF F.MC_MISSES_COUNT
    | none => s

/-- A dirty line is written to DRAM and left clean. -/
def State.cleanLine (s : State) (k : Nat) : State :=
  let l := Tbl.get lineReset s.mc.lines k
  if l.valid && l.dirty then (s.writeLine l).setLine (k / 16) (k % 16) { l with dirty := false } else s

/-- A line that waited is filled; a victim that has become dirty meanwhile is written back first (R155, R157). -/
def State.refill (s : State) (x : WriteBack) (way : Option Nat) : State :=
  match way with
  | some w =>
    if (s.line x.set w).valid && (s.line x.set w).dirty then s.waitWriteBack { x with way := w }
    else (s.fillLine x.set w x.tag true).touchWay x.set w
  | none => s

/-- The memory island acknowledges a write-back (R157): the fill takes the way, or, where that way has been locked, held or disabled
meanwhile, another (R155, R164, R166, R171). While Draining nothing is allocated (R169). -/
def State.ackWriteBack (s : State) (x : WriteBack) : State :=
  let s1 := s.cleanLine (x.set * 16 + x.way)
  let s2 : State := { s1 with mc := { s1.mc with waits := s1.mc.waits.erase x } }
  if s2.mcState ≠ 1 ∨ (s2.wayOf x.set x.tag).isSome then s2
  else if s2.wayLocked x.way || s2.wayHeld x.way || s2.wayDisabled x.way then s2.refill x (s2.victim x.set)
  else s2.refill x (some x.way)

/-- The write-back that a set waits for is acknowledged, if one is out. -/
def State.ackSet (s : State) (set : Nat) : State :=
  match s.mc.waits.find? (fun x => x.set == set) with
  | some x => s.ackWriteBack x
  | none => s

/-- One access of MAPLU or MAPUP: hit, or allocate and fill on a miss while On; misses served while Off or Draining count too (R155,
R169). A request whose set stalls is not made (State.mapStall); an access inside one indivisible step takes the write-backs of its set
as acknowledged within the step (log entry 12). -/
def State.mapAccess (s0 : State) (a g : Nat) : State :=
  let set := mcSet (lineOf g)
  let s := (s0.ackSet set).ackSet set
  if s.mcState == 0 then s.incF F.MC_MISSES_COUNT
  else match s.wayOf set (mcTag a g) with
    | some w =>
      let s1 := if (s.line set w).fresh then s.setLine set w { s.line set w with fresh := false }
        else s.incF F.MC_HITS_COUNT
      s1.touchWay set w
    | none =>
      let s1 := s.incF F.MC_MISSES_COUNT
      if s.mcState == 1 then
        match s1.victim set with
        | some w =>
          let s2 := if (s1.line set w).valid && (s1.line set w).dirty then s1.writeLine (s1.line set w) else s1
          (s2.fillLine set w (mcTag a g) false).touchWay set w
        | none => s1
      else s1

/-- The entry a lookup returns: the cached line's if present, else DRAM's. -/
def State.mapGet (s : State) (a g : Nat) : Word :=
  if s.mcState == 0 then s.dramEntry a g
  else match s.wayOf (mcSet (lineOf g)) (mcTag a g) with
    | some w => (s.line (mcSet (lineOf g)) w).entries.getD (g % 8) 0
    | none => s.dramEntry a g

/-- Replace the entry: in its line while On, which becomes dirty; written through while Draining; else in DRAM (R155,
R169). -/
def State.mapPut (s : State) (a g : Nat) (v : Word) : State :=
  let set := mcSet (lineOf g)
  if s.mcState == 0 then s.setDramEntry a g v
  else match s.wayOf set (mcTag a g) with
    | some w =>
      let l := s.line set w
      let s1 := s.setLine set w { l with entries := l.entries.set (g % 8) v, dirty := l.dirty || s.mcState == 1 }
      if s.mcState == 1 then s1 else s1.setDramEntry a g v
    | none => s.setDramEntry a g v

/-- The map as MAPUP has made it: DRAM's, with every dirty line written (R124, R152). -/
def State.mapNow (s : State) : Tbl Word :=
  ((s.mc.lines.filter (fun e => e.2.valid && e.2.dirty)).foldl (fun s e => s.writeLine e.2) s).map

end Sys2Proof.Machine
end

