-- ==== Sys2Proof/Machine/HostOps.lean ====
section
/-! DEFINITION. The device's own requests on the host link (R339 to R346), the Shuttle's stops (R324, R325), and entry into
Halted (R38, R337, R451, R452). -/

namespace Sys2Proof.Machine

/-- The key of a tag of an endpoint: 768 tags each (R329). -/
def tagKey (e t : Nat) : Nat := e * 1024 + t

/-! ## Lists as tables without a default -/

/-- The entry of a key. -/
def Tbl.find {α : Type} (t : Tbl α) (k : Nat) : Option α := (t.find? (fun e => e.1 == k)).map (fun e => e.2)

/-- Write an entry. -/
def Tbl.insert {α : Type} (t : Tbl α) (k : Nat) (v : α) : Tbl α := Tbl.put k v (t.erase k)

/-- The lowest key at or above `base` that a table does not list, among `n`. -/
def Tbl.fresh {α : Type} (t : Tbl α) (base n : Nat) : Option Nat :=
  ((List.range n).find? (fun k => !t.any (fun e => e.1 == base + k))).map (fun k => base + k)

/-! ## The Shuttle's channels (R313, R324, R325) -/

/-- An idle channel. -/
def shtReset (_ : Nat) : ShtChan := { active := none, queued := none, retries := 0, data := none, diff := none }

/-- Shuttle channel `n`. -/
def State.chan (s : State) (n : Nat) : ShtChan := Tbl.get shtReset s.sht n

/-- Replace Shuttle channel `n`. -/
def State.setChan (s : State) (n : Nat) (x : ShtChan) : State := { s with sht := Tbl.set shtReset s.sht n x }

/-- What a channel still has outstanding on the host link is no longer delivered to it (R319). -/
def State.shtForget (s : State) (n : Nat) : State :=
  { s with hostTags := s.hostTags.map (fun e => if e.2.reader == .shuttle n then (e.1, { e.2 with reader := .nobody }) else e) }

/-- Stop an ACTIVE channel with an ECODE: its descriptors are discarded, DROPPED records a queued one (R320, R325). -/
def State.stopChan (s : State) (n ecode : Nat) : State :=
  if s.f (F.SHT_CH_STAT_STATE n) = 1 then
    let s1 := if s.flag (F.SHT_CH_STAT_QUEUED n) then s.setFlag (F.SHT_CH_STAT_DROPPED n) true else s
    let s2 := ((s1.setF (F.SHT_CH_STAT_STATE n) 3).setFlag (F.SHT_CH_STAT_QUEUED n) false).setF
      (F.SHT_CH_STAT_ECODE n) ecode
    ((s2.setFlag (F.SHT_CH_STAT_ERR n) true).setChan n (shtReset n)).shtForget n
  else s

/-- Every ACTIVE channel stops with ECODE 10 on entry into Dormant, Flush, Halted or Witness (R325). -/
def State.stopShuttle (s : State) : State := (List.range 32).foldl (fun s n => s.stopChan n 10) s

/-! ## Latency tolerance (R350) -/

/-- The LTR value in ticks (R350); none outside D0 but for Dormant. -/
def State.ltrValue (s : State) (e : Nat) : Option Nat :=
  if s.mode.cur = .dormant then some 1000000
  else if (s.ep e).dstate ≠ .d0 then none
  else if s.mode.cur = .active ∧ (List.range 1024).any (fun r => s.flag (F.SQ_CTL_EN r)) then some 2000
  else some 100000

/-- An LTR message is sent at each change of value (R350). -/
def State.ltrSync (s : State) : State :=
  s.endpoints.foldl (fun s e =>
    match s.ltrValue e with
    | some v => if (s.ep e).ltrEnable && (s.ep e).ltrSent != v && !s.hostDown then
        (s.setEp e { s.ep e with ltrSent := v }).send (.ltr e v) else s
    | none => s) s

/-! ## The federation's HELLO (R402, R407) -/

/-- The pair identity: the lower serial number first (R381). -/
def State.pairId (s : State) : Option (Nat × Nat) :=
  s.pair.peerSerial.map (fun p => (min p s.hw.serial, max p s.hw.serial))

/-- The device is a member: federation fitted, not a witness, link on (R402). -/
def State.member (s : State) : Bool := s.fedPresent && s.mode.cur != .witness && !s.linkOff

/-- What this device's HELLO says. -/
def State.helloNow (s : State) : FedHello :=
  { dev := s.hw.straps.devid, pair := if s.paired then s.pairId else none, mode := s.mode.cur.code, view := s.f F.FED_STAT_VIEW }

/-- HELLO goes out on every link that is up (R407). -/
def State.sayHello (s : State) : State :=
  (setBits (s.f F.FED_LINK_UP) 8).foldl (fun (s : State) d => s.send (.fedHello d s.helloNow)) s

/-! ## Entry into Halted -/

/-- Every cluster island is set to 400 MHz in one step on entry into Flush or Halted (R30). -/
def State.slowClocks (s : State) : State :=
  s.clusters.foldl (fun s c => (s.setF (F.SE_CLK_CUR c) 1).setFlag (F.SE_CLK_BUSY c) false) s

/-- The dump windows: entries 4,079 to 4,095 map the dump region consecutively (R337). -/
def State.dumpWindows (s : State) : State :=
  (List.range 17).foldl (fun s i =>
    (s.setReg (R.WIN_W1 (4079 + i)) (BitVec.ofNat 64 (s.dumpBase + i * 2 ^ 24 + 0xFFF))).setReg (R.WIN_W0 (4079 + i)) 3) s

/-- SRC and UNIT of the CLASS 4 record for a KIND (R451). -/
def fatalSrc (kind unit : Nat) : Nat :=
  match kind with
  | 1 => 2 | 2 => unit | 3 => 9 | 6 => 7 | _ => 11

/-- UNIT of the CLASS 4 record (R451). -/
def fatalUnit (kind ring unit : Nat) : Nat :=
  if kind = 1 then ring else if kind = 2 then 0xFFFF else if unit = 0xFF then 0xFFFF else unit

/-- A fatal condition (R451, R452). The first one sets DEV_HALT_CAUSE and enters Halted; a later one, and one in Flush, is
logged. -/
def State.halt (s : State) (cause kind mcode : Nat) (cq : Bool) (ring index unit detail : Nat) : State :=
  let s1 := (s.logRec clsFatal (fatalSrc kind unit) (fatalUnit kind ring unit) kind 0 s.freshDetail).bumpFree
  if s.mode.cur = .halted ∨ s.mode.cur = .flush then s1
  else
    let v := kind + 2 ^ 8 * mcode + 2 ^ 12 * cq.toNat + 2 ^ 13 * (ring % 1024) + 2 ^ 23 * (index % 2 ^ 17) + 2 ^ 40 * unit
    let s2 := (s1.setReg R.DEV_HALT_CAUSE (BitVec.ofNat 64 v)).setReg R.DEV_HALT_DETAIL
      (BitVec.ofNat 64 (detail % 2 ^ 32 + 2 ^ 32 * bits s.tbase.toNat 10 32))
    let m := { s2.mode with
               cur := .halted, busy := false, tgt := .halted, cause := cause, draining := false, prev := s.mode.cur }
    let d := { s2.dump with
               dseq := s.dump.dseq + 1, prevMode := s.mode.cur, tdetect := s.tbase, snapshot := none
               imageEnded := false, imageRunning := true, inDram := none }
    let s3 := (({ s2 with mode := m, dump := d }.stopShuttle).raiseEvent 0)
    let s4 := if cause = 7 ∨ cause = 8 then s3.endpoints.foldl (fun s e => s.aer e .uncorrectableInternal .nonFatal) s3 else s3
    let s5 := ((((s4.dumpWindows).setF F.HLTH_DMP_STAT_STATE 1).setFlag F.HLTH_DMP_STAT_PARTIAL false).setF F.HLTH_DMP_STAT_DSEQ
      d.dseq).slowClocks.ltrSync
    if s5.member && !s5.flag F.FED_STAT_DUP then s5.sayHello else s5

/-- A ring check failure (R301, R302): CAUSE 0x08, KIND 1. -/
def State.ringHalt (s : State) (mcode : Nat) (cq : Bool) (ring index : Nat) : State :=
  s.halt 8 1 mcode cq ring index 0xFF 0

/-! ## Translations (R345, R346) -/

/-- The 4 KiB pages an access touches. -/
def pagesOf (addr len : Nat) : List Nat := (List.range ((addr + len - 1) / 4096 - addr / 4096 + 1)).map (fun i => addr / 4096 + i)

/-- The cached translation of a page for an endpoint. -/
def State.xlatOf (s : State) (e page : Nat) : Option AtsEntry := s.ats.find? (fun x => x.ep == e && x.page == page)

/-- Every page of the access has a cached translation. -/
def State.xlatHit (s : State) (e addr len : Nat) : Bool := (pagesOf addr len).all (fun p => (s.xlatOf e p).isSome)

/-- Every page's cached translation permits the access. -/
def State.xlatOk (s : State) (e addr len : Nat) (write : Bool) : Bool :=
  (pagesOf addr len).all (fun p => match s.xlatOf e p with
    | some x => if write then x.write else x.read
    | none => false)

/-- The translated pages of an access; none where a U translation is used by an untranslated request (R345). -/
def State.xlatPages (s : State) (e addr len : Nat) : List Nat :=
  if (pagesOf addr len).any (fun p => ((s.xlatOf e p).map (fun x => x.untranslated)).getD false) then []
  else (pagesOf addr len).map (fun p => ((s.xlatOf e p).map (fun x => x.target)).getD 0)

/-- Pages used become the most recently used (R345). -/
def State.xlatTouch (s : State) (e addr len : Nat) : State :=
  let used (x : AtsEntry) : Bool := x.ep == e && (pagesOf addr len).contains x.page
  { s with ats := s.ats.filter (fun x => !used x) ++ s.ats.filter used }

/-- Cache translations, replacing the least recently used beyond 4,096 (R345). -/
def State.xlatAdd (s : State) (l : List AtsEntry) : State :=
  { s with ats := lastN 4096 (s.ats.filter (fun x => !l.any (fun y => y.ep == x.ep && y.page == x.page)) ++ l) }

/-! ## Requests -/

/-- Relaxed ordering is set on what threads and the Shuttle move, and on nothing else (R339). -/
def Reader.relaxed : Reader → Bool
  | .thread .. => true
  | .shuttle _ => true
  | _ => false

/-- Send a host read with a free tag. Untranslated addresses are translated first while ATS is enabled (R345). Nothing is
sent while all 768 tags are in use (the second component says so). -/
def State.hostRead (s : State) (e : Nat) (rd : Reader) (addr len : Nat) (ats : Bool) : State × Bool :=
  match s.hostTags.fresh (tagKey e 0) 768 with
  | none => (s, false)
  | some k =>
    let wait := ats && (s.ep e).atsEnable && !s.xlatHit e addr len
    let xl := if ats && (s.ep e).atsEnable then s.xlatPages e addr len else []
    let m : OutMsg := .hostRead e (k % 1024) addr (ats && xl.isEmpty) rd.relaxed xl len
    let h : HostTag := { ep := e, reader := rd, length := len, issued := s.tbase, xlat := if wait then some m else none,
                         timedOut := none, beforeFlr := false
                         pages := if ats && (s.ep e).atsEnable then pagesOf addr len else [] }
    let s1 := { s with hostTags := s.hostTags.insert k h }
    (if wait then s1.send (.atsRequest e (k % 1024) (4096 * (addr / 4096)) (pagesOf addr len).length)
      else (s1.xlatTouch e addr len).send m, true)

/-- Send a host write, translated first where ATS is enabled (R345). -/
def State.hostWrite (s : State) (e : Nat) (rd : Reader) (addr : Nat) (ats ep_ : Bool) (bytes : List Byte) : State :=
  let wait := ats && (s.ep e).atsEnable && !s.xlatHit e addr bytes.length
  let xl := if ats && (s.ep e).atsEnable then s.xlatPages e addr bytes.length else []
  let m : OutMsg := .hostWrite e addr (ats && xl.isEmpty) ep_ rd.relaxed xl bytes
  if wait then
    match s.hostTags.fresh (tagKey e 0) 768 with
    | none => s
    | some k =>
      let h : HostTag := { ep := e, reader := rd, length := bytes.length, issued := s.tbase, xlat := some m,
                           timedOut := none, beforeFlr := false, pages := [] }
      { s with hostTags := s.hostTags.insert k h }.send
        (.atsRequest e (k % 1024) (4096 * (addr / 4096)) (pagesOf addr bytes.length).length)
  else (s.xlatTouch e addr bytes.length).send m

/-- A cached translation denies an access (R345). -/
def State.xlatDenies (s : State) (e addr len : Nat) (write ats : Bool) : Bool :=
  ats && (s.ep e).atsEnable && s.xlatHit e addr len && !s.xlatOk e addr len write

end Sys2Proof.Machine
end

