-- ==== Sys2Proof/Machine/RingOps.lean ====
section
/-! DEFINITION. Shared operations of the rings: index arithmetic (R291), records and their holding areas (R303 to R307),
coalesced interrupts (R308), and the completion of entries (R304, R305, R311). -/

namespace Sys2Proof.Machine

/-! ## Indices and ring memory -/

/-- Entries of submission ring `r` (R290). -/
def State.sqSize (s : State) (r : Nat) : Nat := 2 ^ s.f (F.SQ_CTL_SIZE_LOG2 r)

/-- Entries of completion ring `q` (R290). -/
def State.cqSize (s : State) (q : Nat) : Nat := 2 ^ s.f (F.CQ_CTL_SIZE_LOG2 q)

/-- x ⊖ y = (x − y) mod 2S (R297). -/
def ringSub (size x y : Nat) : Nat := (x + 2 * size - y % (2 * size)) % (2 * size)

/-- The index after `x` (R291). -/
def ringNext (size x : Nat) : Nat := (x + 1) % (2 * size)

/-- The phase of index `x` (R291). -/
def ringPhase (size x : Nat) : Bool := x / size % 2 == 1

/-- HEAD and TAIL of a submission ring; the Odard advances HEAD (R291). -/
def State.sqHead (s : State) (r : Nat) : Nat := s.f (F.SQ_IDX_DEVIDX r)
/-- TAIL last accepted. -/
def State.sqTail (s : State) (r : Nat) : Nat := s.f (F.SQ_IDX_HOSTIDX r)
/-- TAIL of a completion ring, which the Odard advances. -/
def State.cqTail (s : State) (q : Nat) : Nat := s.f (F.CQ_IDX_DEVIDX q)
/-- HEAD last accepted. -/
def State.cqHead (s : State) (q : Nat) : Nat := s.f (F.CQ_IDX_HOSTIDX q)

/-- The completion ring a submission ring is bound to (R290). -/
def State.cqOf (s : State) (r : Nat) : Nat := s.f (F.SQ_CTL_CQ r)

/-- An idle submission ring. -/
def subRingReset (_ : Nat) : SubRing := { count := 0, reads := [], early := [], fetched := [], batches := [] }
/-- An idle completion ring. -/
def cplRingReset (_ : Nat) : CplRing := { holding := [], stalled := [], coalN := 0, coalSince := none }

/-- What submission ring `r` holds. -/
def State.sub (s : State) (r : Nat) : SubRing := Tbl.get subRingReset s.subRings r
/-- Replace what submission ring `r` holds. -/
def State.setSub (s : State) (r : Nat) (x : SubRing) : State :=
  { s with subRings := Tbl.set subRingReset s.subRings r x }
/-- What completion ring `q` holds. -/
def State.cpl (s : State) (q : Nat) : CplRing := Tbl.get cplRingReset s.cplRings q
/-- Replace what completion ring `q` holds. -/
def State.setCpl (s : State) (q : Nat) (x : CplRing) : State :=
  { s with cplRings := Tbl.set cplRingReset s.cplRings q x }

/-- The endpoint may initiate requests: D0, Bus Master Enable, no function level reset in progress, link not off (R348,
R352, R353). -/
def State.hostReady (s : State) (e : Nat) : Bool :=
  decide ((s.ep e).dstate = .d0) && (s.ep e).busMaster && !(s.ep e).flrBusy && !s.hostDown

/-- A record of completion ring `q` waits for a translation, or needs one while no tag is free (R345). -/
def State.recordWaits (s : State) (q : Nat) : Bool :=
  s.hostTags.any (fun e => (match e.2.reader with | .record r _ => r == q | _ => false) && e.2.xlat.isSome) ||
    ((s.ep (s.ringEp q)).atsEnable && (s.hostTags.fresh (tagKey (s.ringEp q) 0) 768).isNone)

/-- Records of completion ring `q` are held whatever room it has: a switch-over gap (R35), an endpoint that may not write (R348, R353),
a translation that is waited for (R345); in Halted they are never written (R302). -/
def State.recordsHeld (s : State) (q : Nat) : Bool :=
  s.pair.gap || !s.hostReady (s.ringEp q) || s.recordWaits q || decide (s.mode.cur = .halted)

/-! ## Records -/

/-- A record's 16 bytes with its phase bit (R303). -/
def CplRec.bytes (x : CplRec) (p : Bool) : List Byte :=
  leBytes 2 x.status ++ leBytes 2 x.tag ++ leBytes 4 x.result ++
    leBytes 4 (x.sqhead % 2 ^ 17 + 2 ^ 17 * (x.sq % 1024)) ++
    leBytes 4 (x.count % 2 ^ 17 % 65536 + 2 ^ 17 * x.more.toNat + 2 ^ 31 * p.toNat)

/-- Send completion ring `q`'s vector: the message covers every record written before it (R308). -/
def State.cqVector (s : State) (q : Nat) : State :=
  let s1 := s.setCpl q { s.cpl q with coalN := 0, coalSince := none }
  if s.flag (F.CQ_CTL_IV_EN q) then s1.msixDue (s.ringEp q) q else s1

/-- A record covering an IRQ entry has been written: count it and send the message due (R308). -/
def State.coalesce (s : State) (q : Nat) (irq : Bool) : State :=
  if irq then
    let n := (s.cpl q).coalN + 1
    if max 1 (s.f (F.CQ_CTL_COAL_N q)) ≤ n then s.cqVector q
    else s.setCpl q { s.cpl q with coalN := n, coalSince := (s.cpl q).coalSince.or (some s.tbase) }
  else s

/-- The completion ring has a free slot for the next record; an in-place ring always has (R304, R306). -/
def State.cqRoom (s : State) (q : Nat) : Bool :=
  s.flag (F.CQ_CTL_INPLACE q) || decide (ringSub (s.cqSize q) (s.cqTail q) (s.cqHead q) < s.cqSize q)

/-- Write a record's bytes to ring memory, and count it for its message once it has left (R308, R309); a denied translation halts the
device (R345). -/
def State.recWrite (s : State) (q e addr : Nat) (ats : Bool) (bytes : List Byte) (irq : Bool) : State :=
  let wait := ats && (s.ep e).atsEnable && !s.xlatHit e addr bytes.length
  if s.xlatDenies e addr bytes.length true ats then (s.satF F.HE_XERR_ATSDENY).ringHalt 7 true q (s.cqTail q)
  else
    let s1 := s.hostWrite e (.record q irq) addr ats false bytes
    if wait then s1 else s1.coalesce q irq

/-- Write one record to host memory: in place into its entry, or at TAIL, which advances (R303, R304). -/
def State.writeRec (s : State) (q : Nat) (x : CplRec) : State :=
  if s.flag (F.CQ_CTL_INPLACE q) then
    s.recWrite q (s.ringEp q) (4096 * s.f (F.SQ_BASE_ADDR x.sq) + 64 * (x.slotIdx % s.sqSize x.sq) + 48)
      (s.flag (F.SQ_CTL_ATS x.sq)) (x.bytes (ringPhase (s.sqSize x.sq) x.slotIdx)) x.irq
  else
    (s.recWrite q (s.ringEp q) (4096 * s.f (F.CQ_BASE_ADDR q) + 16 * (s.cqTail q % s.cqSize q))
      (s.flag (F.CQ_CTL_ATS q)) (x.bytes (ringPhase (s.cqSize q) (s.cqTail q))) x.irq).setF (F.CQ_IDX_DEVIDX q)
      (ringNext (s.cqSize q) (s.cqTail q))

/-- The submission rings bound to completion ring `q` (R290). -/
def State.boundTo (s : State) (q : Nat) : List Nat :=
  (List.range 1024).filter (fun r => s.cqOf r == q && (s.flag (F.SQ_CTL_EN r) || s.flag (F.SQ_STAT_DRAINING r)))

/-- Set or clear FETCH_STOP on every ring bound to `q` (R306, R307). -/
def State.setFetchStop (s : State) (q : Nat) (b : Bool) : State :=
  (s.boundTo q).foldl (fun s r => s.setFlag (F.SQ_STAT_FETCH_STOP r) b) s

/-- Backpressure is signalled once the holding area of a full ring has received a record (R306); not in a gap, outside D0 or behind a
translation. -/
def State.backpressure (s : State) (q : Nat) : State :=
  if (s.cpl q).holding.isEmpty || s.recordsHeld q || s.cqRoom q || s.flag (F.CQ_STAT_BP q) then s
  else ((s.setFlag (F.CQ_STAT_BP q) true).setFlag (F.CQ_STAT_BP_EVT q) true).cqVector q

/-- Put a record at the end of the holding area (R306). -/
def State.holdRec (s : State) (q : Nat) (x : CplRec) : State :=
  let s1 := s.setCpl q { s.cpl q with holding := (s.cpl q).holding ++ [x] }
  let s2 := (s1.setF (F.CQ_STAT_HOLD q) (s1.cpl q).holding.length).backpressure q
  if 64 ≤ (s2.cpl q).holding.length then s2.setFetchStop q true else s2

/-- A record is formed: written at once, or held behind those already held (R306). -/
def State.pushRec (s : State) (q : Nat) (x : CplRec) : State :=
  if (s.cpl q).holding.isEmpty && s.cqRoom q && !s.recordsHeld q then s.writeRec q x else s.holdRec q x

/-- `n` more entries of completion ring `q` may complete: their records go to the ring, or the holding area has room for them (R306). -/
def State.holdFits (s : State) (q n : Nat) : Bool :=
  let k := if s.flag (F.CQ_CTL_INPLACE q) then n else 1
  ((s.cpl q).holding.isEmpty && s.cqRoom q && !s.recordsHeld q) || decide ((s.cpl q).holding.length + k ≤ 64)

/-- As State.holdFits, behind the results that already wait (R307). -/
def State.holdRoom (s : State) (q n : Nat) : Bool := (s.cpl q).stalled.isEmpty && s.holdFits q n

/-- Move records from the holding area into the ring, oldest first, while it has room (R307). -/
def State.drainHolding (q : Nat) : Nat → State → State
  | 0, s => s
  | n + 1, s =>
    match (s.cpl q).holding with
    | [] => s
    | x :: xs =>
      if s.cqRoom q && !s.recordsHeld q then
        State.drainHolding q n
          (((s.setCpl q { s.cpl q with holding := xs }).setF (F.CQ_STAT_HOLD q) xs.length).writeRec q x)
      else s

/-- After slots or the link came free: drain the holding area; when it is empty, fetching resumes and BP clears (R307). -/
def State.holdingFreed (s : State) (q : Nat) : State :=
  let s1 := State.drainHolding q 64 s
  if (s1.cpl q).holding.isEmpty && (s1.cpl q).stalled.isEmpty then
    (s1.setFlag (F.CQ_STAT_BP q) false).setFetchStop q false
  else s1.backpressure q

/-- Held records of the rings whose translation came or found a tag leave (R345). -/
def State.recRetry (s : State) : State :=
  (s.cplRings.map (fun e => e.1)).foldl (fun s q => if (s.cpl q).holding.isEmpty then s else s.holdingFreed q) s

/-! ## Completion of entries -/

/-- The submission ring has entries fetched and not complete, fewer by `n`; a drain ends at zero (R311). -/
def State.inflightDone (s : State) (r n : Nat) : State :=
  let s1 := s.setF (F.SQ_STAT_INFLIGHT r) (s.f (F.SQ_STAT_INFLIGHT r) - n)
  if s1.flag (F.SQ_STAT_DRAINING r) && s1.f (F.SQ_STAT_INFLIGHT r) == 0 then
    ((s1.setFlag (F.SQ_STAT_DRAINING r) false).setFlag (F.SQ_STAT_FETCH_STOP r) false).setF (F.CQ_STAT_BOUND (s1.cqOf r))
      (s1.f (F.CQ_STAT_BOUND (s1.cqOf r)) - 1)
  else s1

/-- The status is a success for every entry (R18). -/
def statusOk (st : Nat) : Bool := st / 256 % 256 == 0

/-- The record of a batch all of whose entries are complete (R303, R305). -/
def Batch.record (b : Batch) (ring sqhead : Nat) : CplRec :=
  let bad := b.entries.filter (fun e => !statusOk (e.done.getD (0, 0)).1)
  let rep := (bad.head?).or b.entries.getLast?
  { status := ((rep.bind (fun e => e.done)).getD (0, 0)).1
    result := ((rep.bind (fun e => e.done)).getD (0, 0)).2
    tag := (rep.map (fun e => e.tag)).getD 0
    sq := ring, sqhead, count := b.entries.length, more := decide (1 < bad.length)
    irq := b.entries.any (fun e => e.irq), slotIdx := (rep.map (fun e => e.index)).getD 0
    tags := b.entries.map (fun e => e.tag) }

/-- A batch is closed and every entry of it is complete (R304). -/
def Batch.complete (b : Batch) : Bool := b.closed && b.entries.all (fun e => e.done.isSome)

/-- Mark entry number `num` complete in its batch. -/
def Batch.finish (b : Batch) (num status result : Nat) : Batch :=
  { b with entries := b.entries.map (fun e => if e.num == num then { e with done := some (status, result) } else e) }

/-- Write the records of the batches of ring `r` that are complete, in the order in which they stand (R304). -/
def State.flushBatches (s : State) (r : Nat) : State :=
  let full := (s.sub r).batches.filter Batch.complete
  let s1 := s.setSub r { s.sub r with batches := (s.sub r).batches.filter (fun b => !b.complete) }
  full.foldl (fun s b => s.pushRec (s.cqOf r) (b.record r (s.sqHead r))) s1

/-- SQ_STAT.FENCE: a FENCE that is not complete stands among the entries fetched and holds the later ones back (R293). -/
def State.fenceSync (s : State) (r : Nat) : State :=
  s.setFlag (F.SQ_STAT_FENCE r) ((s.sub r).fetched.any (fun e => bits ((e.words.getD 0 0).toNat) 0 4 == 3))

/-- Complete entry number `num` of a ring with a status and a result word (R303 to R305, R311). -/
def State.completeEntry (s : State) (r num status result : Nat) : State :=
  ((s.setSub r { s.sub r with batches := (s.sub r).batches.map (fun b => b.finish num status result) }).flushBatches
    r).inflightDone r 1

/-- Complete every entry a thread holds with one status (R261, R304). On an in-place ring each receives the same record
(log entry 10). -/
def State.completeCalls (s : State) (cs : List Call) (status result : Nat) : State :=
  cs.foldl (fun s c => s.completeEntry c.ring c.num status result) s

/-- Complete a thread's calls, or hold its result until the holding area has room (R306). The second component says that
the result waits. -/
def State.postOrStall (s : State) (th : Nat) (cs : List Call) (status result : Nat) : State × Bool :=
  match cs.head? with
  | none => (s, false)
  | some c =>
    let q := s.cqOf c.ring
    if s.holdRoom q cs.length then (s.completeCalls cs status result, false)
    else (s.setCpl q { s.cpl q with
            stalled := (s.cpl q).stalled ++ [{ th, ring := c.ring, calls := cs, status, result }] }, true)

/-- A host access of ring `r`'s calls lies wholly within its host ranges, or ANYHOST = 1 (R266, R312). -/
def State.hostAllowed (s : State) (r addr len : Nat) : Bool :=
  s.flag (F.SQ_CTL_ANYHOST r) ||
    (decide (4096 * s.f (F.SQ_HR0_BASE_ADDR r) ≤ addr) &&
      decide (addr + len ≤ 4096 * s.f (F.SQ_HR0_LIMIT_ADDR r) + 4096)) ||
    (decide (4096 * s.f (F.SQ_HR1_BASE_ADDR r) ≤ addr) &&
      decide (addr + len ≤ 4096 * s.f (F.SQ_HR1_LIMIT_ADDR r) + 4096))

end Sys2Proof.Machine
end

