-- ==== Sys2Proof/Machine/FtlOps.lean ====
section
/-! DEFINITION. Shared operations of the flash translation layer and the hoop: prickings by generation, bands and erase
block words (R119 to R123), the map delta log (R125 to R128), versions in the hoop (R81 to R94), the couching table and
the dirty-region bitmap (R90, R100 to R108), gathering (R92 to R99, R135). -/

namespace Sys2Proof.Machine

/-! ## Prickings -/

/-- An EMPTY slot. -/
def slotReset (_ : Nat) : Slot := { state := .empty, image := [] }

/-- Pricking slot `i`. -/
def State.slot (s : State) (i : Nat) : Slot := Tbl.get slotReset s.prk.slots i

/-- Replace pricking slot `i`, here alone. -/
def State.putSlot (s : State) (i : Nat) (x : Slot) : State := { s with prk := { s.prk with slots := Tbl.set slotReset s.prk.slots i x } }

/-- Replace pricking slot `i`, on a standby too. -/
def State.setSlot (s : State) (i : Nat) (x : Slot) : State := (s.putSlot i x).mirror (.slot i x)

/-- The slot that holds a pricking of array `a` in a given state. -/
def State.slotIn (s : State) (a : Nat) (st : SlotState) : Option Nat :=
  (List.range 32).find? (fun i => decide ((s.slot i).state = st) && pkArray (s.slot i).image == a)

/-- The ARMED pricking of array `a` (R63). -/
def State.armed (s : State) (a : Nat) : Option (List Byte) := (s.slotIn a .armed).map (fun i => (s.slot i).image)

/-- The RETIRING pricking of array `a` (R63). -/
def State.retiring (s : State) (a : Nat) : Option (List Byte) :=
  (s.slotIn a .retiring).map (fun i => (s.slot i).image)

/-- The pricking of array `a` under which a band of generation `gen` was opened (R62). -/
def State.prickingOf (s : State) (a gen : Nat) : List Byte :=
  match s.armed a, s.retiring a with
  | some x, some y => if pkGen x = gen then x else y
  | some x, none => x
  | none, some y => y
  | none, none => []

/-- No generation was armed yet. -/
def markReset (_ : Nat) : Nat := 0

/-- The generation mark of array `a` (R61). -/
def State.genMark (s : State) (a : Nat) : Nat := Tbl.get markReset s.prk.marks a

/-- Serial order of R383 over 1 to 2^32 − 1 (R61): `x` is above `y` where (x − y) mod 2^32 lies in 1 to 2^31 − 1. Zero is no number: as
`y` it means that none was used yet. -/
def serialAbove (x y : Nat) : Bool :=
  x != 0 && (y == 0 || decide (1 ≤ (x + 2 ^ 32 - y) % 2 ^ 32 ∧ (x + 2 ^ 32 - y) % 2 ^ 32 ≤ 2 ^ 31 - 1))

/-- The 512 bytes of a retirement marker (R495). -/
def Marker.bytes (m : Marker) : List Byte :=
  let b := leBytes 4 0x4D525452 ++ leBytes 1 1 ++ leBytes 1 m.array ++ leBytes 2 0 ++ leBytes 4 m.generation ++ leBytes 4 0 ++
    leBytes 8 m.tbase.toNat
  let c := padTo 0x1FC 0 b
  c ++ leBytes 4 (crc32c c)

/-- The vault's marker of an array, replaced only by one of a higher generation (R495). -/
def State.putMarker (s : State) (m : Marker) : State :=
  let old := ((s.prk.markers.find? (fun (x : Marker) => x.array == m.array)).map (fun (x : Marker) => x.generation)).getD 0
  if serialAbove m.generation old then
    ({ s with prk := { s.prk with markers := s.prk.markers.filter (fun (x : Marker) => x.array != m.array) ++ [m] } }).mirror (.marker m)
  else s

/-- A valid retirement marker in a configuration record (R495). -/
def markerOf (b : List Byte) : Option Marker :=
  let n (o k : Nat) : Nat := leNat ((b.drop o).take k)
  if b.length = 512 ∧ n 0 4 = 0x4D525452 ∧ n 4 1 = 1 ∧ n 0x1FC 4 = crc32c (b.take 0x1FC) then
    some { array := n 5 1 % 16, generation := n 8 4, tbase := BitVec.ofNat 64 (n 0x10 8) }
  else none

/-- A marker retires a pricking of its array whose GENERATION is not above the one it names (R495). -/
def Marker.retires (m : Marker) (img : List Byte) : Bool := pkArray img == m.array && !serialAbove (pkGen img) m.generation

/-! ## Arrays, bands, erase words -/

/-- An array not created. -/
def arrayReset (_ : Nat) : ArrayInfo :=
  { pifmt := 0, pitype := 0, scrubRun := false, scrubBand := 0, scrubStripe := 0, scrubDone := false, rbRate := 0x3840096,
    rsRate := 0x2580032 }

/-- Array `a` beside its registers. -/
def State.arr (s : State) (a : Nat) : ArrayInfo := Tbl.get arrayReset s.arrays a

/-- Replace what array `a` has beside its registers. -/
def State.setArr (s : State) (a : Nat) (x : ArrayInfo) : State :=
  ({ s with arrays := Tbl.set arrayReset s.arrays a x }).mirror (.array a x)

/-- Blocks per grain of array `a` (R110). -/
def State.gblk (s : State) (a : Nat) : Nat := grainBlocks (s.f (F.ARR_GEOM_GRAIN a))

/-- The key of a band. -/
def bandKey (a b : Nat) : Nat := a * 2 ^ 21 + b

/-- A FREE band. -/
def bandReset (_ : Nat) : Band :=
  { state := .free, kind := .host, pfail := false, early := false, lost := false, generation := 0, valid := 0, next := 0,
    tclose := 0, blocks := [], reading := false, pfailed := [], erased := [] }

/-- Band `b` of array `a`. -/
def State.band (s : State) (a b : Nat) : Band := Tbl.get bandReset s.bands (bandKey a b)

/-- Replace band `b` of array `a`. -/
def State.setBand (s : State) (a b : Nat) (x : Band) : State :=
  { s with bands := Tbl.set bandReset s.bands (bandKey a b) x }

/-- Codes of band KIND (R119). -/
def BandKind.code : BandKind → Nat
  | .host => 0 | .reloc => 1 | .fastGround => 2 | .interim => 3 | .mapCkpt => 4

/-- Codes of band STATE (R119). -/
def BandState.code : BandState → Nat
  | .free => 0 | .open_ => 1 | .closed => 2 | .erasing => 3

/-- Pseudo-SLC kinds (R123). -/
def BandKind.slc : BandKind → Bool
  | .host => false | .reloc => false | .fastGround => true | .interim => true | .mapCkpt => true

/-- A free, erased block never cycled. -/
def ewordReset (_ : Nat) : EWord := { erases := 0, state := 0, pslc := false }

/-- The erase block word of block `b` of sled `n` (R121). -/
def State.eword (s : State) (n b : Nat) : EWord := Tbl.get ewordReset s.ewords (n * 2 ^ 24 + b)

/-- An erase block word as a number (R121). -/
def EWord.value (e : EWord) : Nat := e.erases % 2 ^ 24 + 2 ^ 24 * e.state + 2 ^ 27 * e.pslc.toNat

/-- A sled slot never enrolled. -/
def sledReset (_ : Nat) : Sled :=
  { enrolled := false, port := 0, hop := 0, uid := 0, blocks := 0, bpc := 0, cwp := 0, ppb := 0, cycles := 0,
    failed := false, cause := 0, tfail := 0, reachable := false, lostSince := none, resetDue := false, timeouts := [], allUsed := 0, shareUsed := 0, reshapeUsed := 0, qdepth := 0, lastGc := false,
    notReady := none, notReadySince := none, tprog := 0, terase := 0, rdMbps := 0, wrMbps := 0, cyclesSlc := 0, bad := 0,
    cfgRecords := 0 }

/-- The sled of enrolment number `n`. -/
def State.sled (s : State) (n : Nat) : Sled := Tbl.get sledReset s.sleds n

/-- Replace the sled of enrolment number `n`. -/
def State.setSled (s : State) (n : Nat) (x : Sled) : State := { s with sleds := Tbl.set sledReset s.sleds n x }

/-- Enrolled, healthy and reachable. -/
def Sled.usable (x : Sled) : Bool := x.enrolled && !x.failed && x.reachable

/-- Erase block size in bytes: pages per block × codewords per page × 4 KiB of data (R173, R364). -/
def Sled.eraseBytes (x : Sled) : Nat := x.ppb * x.cwp * 4096

/-! ## Spans of a federation (R21, R113, R404) -/

/-- This device as a member: the even DEVID of its pair (R404). -/
def State.ownMember (s : State) : Nat :=
  if s.paired then s.hw.straps.devid / 2 * 2 else s.hw.straps.devid

/-- The members of the span of an array, in ascending order; none for an array of this device alone (R21, R410). -/
def State.spanMembers (s : State) (a : Nat) : List Nat :=
  let l := if s.fedPresent then setBits (s.f (F.FED_SPAN_MASK a)) 8 else []
  if l.length < 2 then [] else l

/-- Members of the span of an array, 1 for an array of this device alone (R410). -/
def State.spanCount (s : State) (a : Nat) : Nat := max 1 (s.spanMembers a).length

/-- The member that holds a grain (R113). -/
def State.grainMember (s : State) (a g : Nat) : Nat :=
  ((s.spanMembers a)[g % s.spanCount a]?).getD s.ownMember

/-- This device holds the grain. -/
def State.ownsGrain (s : State) (a g : Nat) : Bool := s.grainMember a g == s.ownMember

/-- This device owns the band (R21). -/
def State.ownsBand (s : State) (a b : Nat) : Bool :=
  ((s.spanMembers a)[b % s.spanCount a]?).getD s.ownMember == s.ownMember

/-- The cluster that owns a band of an array, by its device-local number (R8, R21). -/
def State.bandCluster (s : State) (a b : Nat) : Nat := s.bandOwner (b / s.spanCount a)

/-! ## Fast Ground target and fill (R134) -/

/-- TARGET_BP for a fill in per-mille (R134). -/
def fgTarget (fill : Nat) : Nat :=
  if fill < 500 then 400 else if fill ≤ 950 then 400 - (fill - 500) * 375 / 450 else 25

/-- Blocks of a sled that are not retired or bad, and those free and erased, from its erase words. Blocks with no listed
word are free. -/
def State.usableBlocks (s : State) (n : Nat) : Nat :=
  (s.sled n).blocks - (s.ewords.filter (fun e => e.1 / 2 ^ 24 == n && decide (3 ≤ e.2.state))).length

/-- Free, erased blocks of a sled (R139). -/
def State.freeBlocks (s : State) (n : Nat) : Nat :=
  (s.sled n).blocks - (s.ewords.filter (fun e => e.1 / 2 ^ 24 == n && e.2.state != 0)).length

/-- The smallest of a list, 0 for an empty one. -/
def minList : List Nat → Nat
  | [] => 0
  | [x] => x
  | x :: xs => min x (minList xs)

/-- The healthy members of a pricking; a failed member counts as absent (R203). -/
def State.liveMembers (s : State) (img : List Byte) : List Nat := (pkMembers img).filter (fun n => !(s.sled n).failed)

/-- C_data of an array under a pricking, with n'·⌊k/w⌋ stripes per band (R134, R203). -/
def State.cdata (s : State) (img : List Byte) : Nat :=
  minList ((s.liveMembers img).map s.usableBlocks) * ((s.liveMembers img).length * (pkK img / pkW img)) * pkD img * pkZ img

/-- OPENABLE (R139). -/
def State.openable (s : State) (a : Nat) : Nat :=
  match s.armed a with
  | some img => minList ((s.liveMembers img).map s.freeBlocks)
  | none => 0

/-- Band numbers of an array below LIMIT that this device owns (R21, R118). -/
def State.ownNumbers (s : State) (a : Nat) : Nat :=
  let p := (s.spanMembers a).findIdx (fun m => m == s.ownMember)
  (s.f (F.ARR_BAND_LIMIT a) + s.spanCount a - 1 - p) / s.spanCount a

/-- OPENABLE as R139 applies it: 0 while no band number that this device owns is free (R226). -/
def State.openableNow (s : State) (a : Nat) : Nat :=
  if (s.bands.filter (fun e => e.1 / 2 ^ 21 == a && e.2.state != .free)).length < s.ownNumbers a then s.openable a else 0

/-- Bands of KIND 2 and 3 of array `a` that are not FREE (R134). -/
def State.fgBands (s : State) (a : Nat) : Nat :=
  (s.bands.filter (fun e => e.1 / 2 ^ 21 == a && (e.2.kind == .fastGround || e.2.kind == .interim) &&
    e.2.state != .free)).length

/-- The Fast Ground target in bands (R134). -/
def State.fgTargetBands (s : State) (a : Nat) : Nat :=
  match s.armed a with
  | some img =>
    let e := (s.sled (pkMember img 0)).eraseBytes
    let raw := ((s.liveMembers img).map (fun n => s.usableBlocks n * e)).sum
    s.f (F.ARR_FG_TARGET_BP a) * raw / (10000 * pkN img * max 1 e)
  | none => 0

/-- Registers of an array that changed since `old` go to the standby (R384). -/
def State.mirrorRegs (s old : State) (a : Nat) : State :=
  if s.pair.live then
    (s.bar0.filter (fun e => arrayOf e.1 == some a && old.reg e.1 != e.2)).foldl (fun s e => s.mirror (.reg e.1 e.2)) s
  else s

/-- An array becomes urgent: only relocation stripes that close from now on let host stripes open (R139). -/
def State.paceAfresh (s : State) (a : Nat) : State :=
  { s with hoop := { s.hoop with repl := { s.hoop.repl with
      relocClosed := s.hoop.repl.relocClosed.filter (fun e => e.1 / 8 != a) } } }

/-- ARR_BAND.OPENABLE, ARR_FILL, ARR_FG and the collection bits of ARR_GC follow the array (R134, R136, R139, R143). -/
def State.syncArray (s : State) (a : Nat) : State :=
  match s.armed a with
  | none => s
  | some img =>
    let c := s.cdata img
    let fill := if c = 0 then 0 else 1000 * s.f (F.ARR_FILL_VALID a) * s.gblk a * 4096 / c
    let s1 := (s.setF (F.ARR_BAND_OPENABLE a) (s.openable a)).setF (F.ARR_FILL_FILL_PM a) fill
    let s2 := (s1.setF (F.ARR_FG_TARGET_BP a) (fgTarget fill)).setF (F.ARR_FG_BANDS a) (s1.fgBands a)
    let fold := decide (s2.fgTargetBands a < s2.fgBands a)
    let o := s2.openableNow a
    let urgent := decide (o < s.f (F.ARR_GC_CTL_FREE_URGENT a))
    let s3 := if urgent && !s.flag (F.ARR_GC_URGENT a) then s2.paceAfresh a else s2
    (((s3.setFlag (F.ARR_GC_FGFOLD a) fold).setFlag (F.ARR_GC_RUN a)
      (fold || decide (o < s.f (F.ARR_GC_CTL_FREE_LOW a)))).setFlag (F.ARR_GC_URGENT a) urgent).mirrorRegs s a

/-! ## The delta log (R125 to R128) -/

/-- Deltas the buffer holds (R126). -/
def deltaRoom : Nat := 33554432

/-- ARR_DLOG follows the log. -/
def State.syncDlog (s : State) : State :=
  s.setF F.ARR_DLOG_USED_4K (ceilDiv ((s.dlog.next - s.dlog.committed) * 16) 4096)

/-- Append a delta (R126). It is durable at once unpaired; paired, when the peer's hoop confirms it (R89). -/
def State.appendDelta (s : State) (kind a key : Nat) (value : Word) : State :=
  let d : Delta := { pos := s.dlog.next, kind, array := a, key, value }
  let seg := a * 2 ^ 24 + key / 131072
  let segs := if kind = 1 ∧ seg ∉ s.dlog.segments then s.dlog.segments ++ [seg] else s.dlog.segments
  let l := { s.dlog with
             deltas := s.dlog.deltas ++ [d], next := s.dlog.next + 1, appended := true, segments := segs
             durable := if s.pair.mirroring then s.dlog.durable else s.dlog.next + 1 }
  ({ s with dlog := l }.syncDlog).mirror (.delta d)

/-- The 16 bytes of a map delta (R125). -/
def Delta.bytes (d : Delta) : List Byte :=
  let b := leBytes 8 d.value.toNat ++ leBytes 5 d.key ++ leBytes 1 (d.array % 16 + 2 ^ 4 * (d.kind % 4))
  b ++ leBytes 2 (crc16t10 b)

/-- The log has room for one more delta (R127). -/
def State.deltaFits (s : State) : Bool := decide (s.dlog.next - s.dlog.committed < deltaRoom)

/-- Write an erase block word and log it as a kind 3 delta (R121, R125). -/
def State.setEword (s : State) (n b : Nat) (e : EWord) : State :=
  (({ s with ewords := Tbl.set ewordReset s.ewords (n * 2 ^ 24 + b) e }).mirror (.eword (n * 2 ^ 24 + b) e)).appendDelta 3 0 b
    (BitVec.ofNat 64 (e.value + 2 ^ 32 * n))

/-- Change a band's STATE, KIND or FLAGS and log it as a kind 2 delta (R119, R125). -/
def State.setBandLogged (s : State) (a b : Nat) (x : Band) : State :=
  ((s.setBand a b x).mirror (.band (bandKey a b) x)).appendDelta 2 a b (BitVec.ofNat 64 (x.state.code + 2 ^ 8 * x.kind.code +
    2 ^ 16 * (x.pfail.toNat + 2 * x.early.toNat + 4 * x.lost.toNat) + 2 ^ 32 * x.generation))

/-- Count a grain into or out of the band that a location names (R119, R151). -/
def State.countValid (s : State) (a pga : Nat) (up : Bool) : State :=
  let b := s.band a (pgaBand pga)
  let s1 := s.setBand a (pgaBand pga) { b with valid := if up then b.valid + 1 else b.valid - 1 }
  s1.setF (F.ARR_FILL_VALID a) (if up then s.f (F.ARR_FILL_VALID a) + 1 else s.f (F.ARR_FILL_VALID a) - 1)

/-- Replace a grain's map entry, with the valid counts of the bands it leaves and enters, and what follows from them (R134 to R139). -/
def State.applyEntry (s : State) (a g low : Nat) : State :=
  let old := (s.mapGet a g).toNat % 2 ^ 48
  let s1 := if meValid old then s.countValid a (mePga old) false else s
  let s2 := if meValid low then s1.countValid a (mePga low) true else s1
  ((s2.mapAccess a g).mapPut a g (mapWord low g a)).syncArray a

/-- Replace a grain's map entry and append its kind 1 delta (R125, R126). -/
def State.logEntry (s : State) (a g low : Nat) : State :=
  (s.applyEntry a g low).appendDelta 1 a g (mapWord low g a)

/-! ## Versions in the hoop (R81 to R94) -/

/-- The newest version of a grain in the hoop. -/
def State.newestVersion (s : State) (a g : Nat) : Option Version :=
  (s.hoop.versions.filter (fun v => v.array == a && v.grain == g)).foldl
    (fun m v => match m with | none => some v | some x => if x.seq < v.seq then some v else some x) none

/-- The newest copy of a block in the hoop, if any (R91); a version older than the newest write or discard past step 6 is
skipped (R94, R146). -/
def State.hoopBlock (s : State) (a blk : Nat) : Option Info :=
  let g := blk / s.gblk a
  let vs := s.hoop.versions.filter (fun v => v.array == a && v.grain == g &&
    decide (Tbl.get markReset s.hoop.passed (grainKey a g) ≤ v.seq) && (v.blocks.any (fun e => e.1 == blk % s.gblk a)))
  match vs.foldl (fun m v => match m with | none => some v | some x => if x.seq < v.seq then some v else some x)
      (none : Option Version) with
  | none => none
  | some v => (v.blocks.find? (fun e => e.1 == blk % s.gblk a)).map (fun e => e.2)

/-- Dirty blocks in the hoop (R81). -/
def State.dirtyBlocks (s : State) : Nat := (s.hoop.versions.map (fun v => v.dirty.length)).sum

/-- The effective dirty limit in blocks (R82). -/
def State.dirtyLimit (s : State) : Nat :=
  256 * min (s.f F.HOOP_DIRTY_LIMIT_LIMIT_MIB) (min (s.f F.HOOP_DIRTY_LIMIT_MAX_MIB) (1024 * s.f F.HOOP_SIZE_SIZE_GIB))

/-- HOOP_STAT.DIRTY_BLK follows the hoop. -/
def State.syncDirty (s : State) : State := s.setF F.HOOP_STAT_DIRTY_BLK s.dirtyBlocks

/-- The next version sequence: numbers whose bits [47:0] are all ones are skipped (R94). -/
def nextSeq (n : Nat) : Nat := if n % 2 ^ 48 = 2 ^ 48 - 1 then n + 1 else n

/-- The version of a sequence number goes to the standby (R384). -/
def State.mirrorVersion (s : State) (seq : Nat) : State :=
  if s.pair.live then
    match s.hoop.versions.find? (fun v => v.seq == seq) with
    | some v => s.mirror (.version v)
    | none => s
  else s

/-- Replace the version of a sequence number. -/
def State.putVersion (s : State) (v : Version) : State :=
  { s with hoop := { s.hoop with versions := s.hoop.versions.map (fun x => if x.seq == v.seq then v else x) } }

/-- Store one block of host data: into the grain's current version, or into a new one when the newest has entered a
stripe or has been discarded (R94, R146). -/
def State.storeBlock (s : State) (a blk : Nat) (i : Info) : State :=
  let g := blk / s.gblk a
  let b := blk % s.gblk a
  match s.newestVersion a g with
  | some v =>
    if v.gathered || decide (v.seq < Tbl.get markReset s.hoop.passed (grainKey a g)) then
      let q := nextSeq s.hoop.nextSeq
      let w : Version := { array := a, grain := g, seq := q, blocks := [(b, i)], dirty := [b], since := s.tbase, gathered := false,
                           entry := none, step6 := false }
      { s with hoop := { s.hoop with versions := s.hoop.versions ++ [w], nextSeq := q + 1 } }
    else
      s.putVersion { v with blocks := Tbl.put b i (Tbl.erase v.blocks b),
                            dirty := if b ∈ v.dirty then v.dirty else v.dirty ++ [b] }
  | none =>
    let q := nextSeq s.hoop.nextSeq
    let w : Version := { array := a, grain := g, seq := q, blocks := [(b, i)], dirty := [b], since := s.tbase, gathered := false,
                         entry := none, step6 := false }
    { s with hoop := { s.hoop with versions := s.hoop.versions ++ [w], nextSeq := q + 1 } }

/-- Blocks a set of staged blocks would add to the dirty count. -/
def State.newDirty (s : State) (l : List Staged) : Nat :=
  (l.filter (fun x => match s.newestVersion x.array (x.block / s.gblk x.array) with
    | some v => v.gathered || decide (v.seq < Tbl.get markReset s.hoop.passed (grainKey x.array v.grain)) || !(v.dirty.contains (x.block % s.gblk x.array))
    | none => true)).length

/-- Newest sequence of a grain that passed step 6 (R94). -/
def State.passedSeq (s : State) (a g : Nat) : Nat := Tbl.get markReset s.hoop.passed (grainKey a g)

/-! ## The dirty-region bitmap (R104, R106) -/

/-- A bit never marked. -/
def regionReset (_ : Nat) : Bool := false

/-- The region of band `b` of array `a` (R104). -/
def State.regionOf (s : State) (a b : Nat) : Nat := s.f (F.DRB_ARR_BASE a) + b / 2 ^ s.f (F.DRB_ARR_RB_LOG2 a)

/-- Set or clear a region's bit; DRB_STAT.SET counts the bits set. -/
def State.setRegion (s : State) (r : Nat) (b : Bool) : State :=
  let s1 := { s with hoop := { s.hoop with bitmap := Tbl.set regionReset s.hoop.bitmap r b } }
  (s1.setF F.DRB_STAT_SET (s1.hoop.bitmap.filter (fun e => e.2)).length).mirror (.region r b)

/-! ## The couching table (R90, R100) -/

/-- A FREE entry. -/
def centryReset (_ : Nat) : CEntry :=
  { state := 0, array := 0, ipv := false, source := 0, generation := 0, band := 0, stripe := 0, issued := 0, acked := 0,
    eseq := 0, iploc := 0xFFFFFFFF, ipcover := 0, ipnext := 0xFFFFFFFF, topen := 0, owner := 0, ipacked := 0, awaits := [] }

/-- Couching entry `e`. -/
def State.centry (s : State) (e : Nat) : CEntry := Tbl.get centryReset s.hoop.entries e

/-- Replace couching entry `e`; its table page has changed (R103), CLOG_STAT.INFLIGHT follows. -/
def State.setCentry (s : State) (e : Nat) (x : CEntry) : State :=
  let h := { s.hoop with
             entries := Tbl.set centryReset s.hoop.entries e x
             repl := { s.hoop.repl with dirtyPages := putBit s.hoop.repl.dirtyPages (e / 1023) true } }
  let s1 := { s with hoop := h }
  (s1.setF F.CLOG_STAT_INFLIGHT (s1.hoop.entries.filter (fun y => y.2.state != 0)).length).mirror (.entry e x)

/-- Entries of the couching table (R100). -/
def couchingSize : Nat := 8184

/-- The lowest FREE entry among the first `n`, scanning the listed ones. -/
def freeEntry (t : Tbl CEntry) : Nat → Nat → Option Nat
  | 0, _ => none
  | n + 1, k => if t.any (fun e => e.1 == k && e.2.state != 0) then freeEntry t n (k + 1) else some k

/-- The lowest FREE entry, if any (R96). -/
def State.freeCentry (s : State) : Option Nat :=
  (freeEntry s.hoop.entries (s.hoop.entries.length + 1) 0).filter (fun k => decide (k < couchingSize))

/-- Clear the region of a band once no couching entry names a band of that region (step 8 of R90). -/
def State.clearRegion (s : State) (a b : Nat) : State :=
  let r := s.regionOf a b
  if s.hoop.entries.any (fun e => e.2.state != 0 && s.regionOf e.2.array e.2.band == r) then s else s.setRegion r false

/-- No gathering stripe and no stripe writer due belongs to entry `e` any more. -/
def State.dropEntry (s : State) (e : Nat) : State :=
  { s with hoop := { s.hoop with
    gathers := s.hoop.gathers.filter (fun g => g.2.entry != some e)
    jobs := s.hoop.jobs.filter (fun j => j.entry != some e) } }

/-- Free an entry: its hoop blocks and interim slots are released, and its region cleared (steps 7 and 8 of R90). -/
def State.freeEntryOf (s : State) (e : Nat) : State :=
  let x := s.centry e
  let s0 := s.dropEntry e
  let gone := (s0.hoop.versions.filter (fun v => v.entry == some e)).map (fun v => v.seq)
  let s1 := ({ s0 with hoop := { s0.hoop with
      versions := s0.hoop.versions.filter (fun v => v.entry != some e) } }).mirror (.drop gone)
  ((s1.setCentry e (centryReset e)).syncDirty).clearRegion x.array x.band

/-- Some live thread opened entry `e`. -/
def State.entryOwned (s : State) (e : Nat) : Bool := s.threads.any (fun t => t.2.running && t.2.entries.contains e)

/-- The pricking that places a band (R62, R202). -/
def State.bandImg (s : State) (a b : Nat) : List Byte :=
  effImg (s.prickingOf a (s.band a b).generation) (s.band a b).blocks

/-- A unit of the stripe is named by a map entry (R207), by the DRAM map and the cached lines. -/
def State.stripeNamed (s : State) (a b st : Nat) : Bool :=
  let img := s.prickingOf a (s.band a b).generation
  let hit (w : Word) : Bool :=
    (meValid (w.toNat % 2 ^ 48) || meDiscarded (w.toNat % 2 ^ 48)) && pgaBand (mePga w.toNat) == b &&
      (pgaLocate img (pgaUnit (mePga w.toNat))).1 == st
  s.map.any (fun e => e.1 / 2 ^ 40 == a && hit e.2) ||
    s.mc.lines.any (fun e => e.2.valid && e.2.tag / 2 ^ 40 == a && e.2.entries.any hit)

/-- Interim parity that a couching entry recovered from the copy sleds names stays in place until the grains it covers are relocated
(R109). -/
def State.interimKept (s : State) (e : Nat) : Bool :=
  let x := s.centry e
  s.hoop.lossTbase.isSome && x.ipv && s.stripeNamed x.array x.band x.stripe

/-- An ABANDONED entry whose regathered grains have passed step 6, and that no thread still names, is freed with its
interim slots (R107; log entry 13). -/
def State.reapEntry (s : State) (e : Nat) : State :=
  if (s.centry e).state == 3 && (s.centry e).awaits.isEmpty && !s.entryOwned e && !s.interimKept e then s.freeEntryOf e else s

/-- Reap every ABANDONED entry that may go. -/
def State.reapAll (s : State) : State := (s.hoop.entries.map (fun e => e.1)).foldl (fun s e => s.reapEntry e) s

/-! ## Gathering (R92 to R99, R135) -/

/-- The key of a gathering place: array, cluster, Fast Ground. -/
def gatherKey (a c : Nat) (fg : Bool) : Nat := (a * 8 + c) * 2 + fg.toNat

/-- An empty gathering stripe. -/
def gatherReset (_ : Nat) : Gather := { grains := [], extent := 0, entry := none }

/-- A gathering stripe. -/
def State.gather (s : State) (a c : Nat) (fg : Bool) : Gather := Tbl.get gatherReset s.hoop.gathers (gatherKey a c fg)

/-- Replace a gathering stripe. -/
def State.setGather (s : State) (a c : Nat) (fg : Bool) (x : Gather) : State :=
  { s with hoop := { s.hoop with gathers := Tbl.set gatherReset s.hoop.gathers (gatherKey a c fg) x } }

/-- The cluster that gathers a grain (R92). -/
def State.gatherCluster (s : State) (g : Nat) : Nat := (s.clusters[g % s.clusters.length]?).getD 0

/-- The band of a kind that a cluster has open (R8, R120). -/
def State.openOf (s : State) (a c : Nat) (kind : BandKind) : Option Nat :=
  (s.bands.find? (fun e => e.1 / 2 ^ 21 == a && e.2.state == .open_ && e.2.kind == kind && s.bandCluster a (e.1 % 2 ^ 21) == c)).map
    (fun e => e.1 % 2 ^ 21)

/-- The generation of the ARMED pricking; 0 for none. -/
def State.armedGen (s : State) (a : Nat) : Nat := ((s.armed a).map pkGen).getD 0

/-- An OPEN band takes a further stripe: it has room, and copies go to ARMED relocation bands alone (R71, R120, R224, R229). -/
def State.takesStripe (s : State) (a b : Nat) : Bool :=
  let x := s.band a b
  let img := s.prickingOf a x.generation
  decide (x.next < pkBandStripes (effImg img x.blocks) x.kind (s.sled (pkMember img 0)).bpc) &&
    (x.kind != .reloc || x.generation == s.armedGen a)

/-- The pricking of the band that takes the next stripe of a kind from a cluster: that of the band it has open while it takes one,
also where it is RETIRING, else the ARMED one (R71, R120, R224). -/
def State.placeImg (s : State) (a c : Nat) (kind : BandKind) : Option (List Byte) :=
  match s.openOf a c kind with
  | some b => if s.takesStripe a b then some (s.prickingOf a (s.band a b).generation) else s.armed a
  | none => s.armed a

/-- Grains of one stripe under a pricking (R112). -/
def State.imgGrains (s : State) (a : Nat) (img : Option (List Byte)) : Nat :=
  match img with
  | some x => pkD x * pkZ x / (s.gblk a * 4096)
  | none => 0

/-- Grains of the next stripe of a kind that a cluster writes. -/
def State.stripeGrains (s : State) (a c : Nat) (kind : BandKind) : Nat := s.imgGrains a (s.placeImg a c kind)

/-- The kind of band of a gathering place. -/
def gatherKind (fg : Bool) : BandKind := if fg then .fastGround else .host

/-- Grains of a gathering stripe: those of its entry's stripe once it has one. -/
def State.gatherRoom (s : State) (a c : Nat) (fg : Bool) (entry : Option Nat) : Nat :=
  match entry with
  | some e => s.imgGrains a (some (s.prickingOf a (s.centry e).generation))
  | none => s.stripeGrains a c (gatherKind fg)

/-- Replace the list of stripe writers due. -/
def State.setJobs (s : State) (l : List StripeJob) : State := { s with hoop := { s.hoop with jobs := l } }

/-- A gathering stripe's data strips are full: its stripe writer is due and a new gathering stripe begins (R95). -/
def State.stripeFull (s : State) (a c : Nat) (fg : Bool) : State :=
  let x := s.gather a c fg
  let n := s.gatherRoom a c fg x.entry
  if 0 < n ∧ n ≤ x.grains.length then
    let j : StripeJob := { array := a, cluster := c, fastGround := fg, grains := x.grains, forced := none, entry := x.entry }
    (s.setGather a c fg (gatherReset 0)).setJobs (s.hoop.jobs ++ [j])
  else s

/-- A grain may be placed in Fast Ground (R135): fewer than a quarter of its blocks written by the host, and the array's
Fast Ground bands below target. -/
def State.wantsFg (s : State) (v : Version) : Bool :=
  decide (4 * v.dirty.length < s.gblk v.array) && decide (s.fgBands v.array < s.fgTargetBands v.array)

/-- A block of an older version of a version's grain that the hoop still holds (R91, R93): what a host read would find below the
version. -/
def State.olderBlock (s : State) (v : Version) (b : Nat) : Option Info :=
  let old := s.hoop.versions.filter (fun w => w.array == v.array && w.grain == v.grain && decide (w.seq < v.seq) &&
    decide (Tbl.get markReset s.hoop.passed (grainKey v.array v.grain) ≤ w.seq) && w.blocks.any (fun e => e.1 == b))
  ((old.foldl (fun m w => match m with | none => some w | some x => if x.seq < w.seq then some w else some x)
    (none : Option Version)).bind (fun w => w.blocks.find? (fun e => e.1 == b))).map (fun e => e.2)

/-- The grain is mapped to the media. -/
def State.grainMapped (s : State) (a g : Nat) : Bool :=
  let e := (s.mapGet a g).toNat % 2 ^ 48
  meValid e && mePga e != pgaNone

/-- The blocks of a version that its fill must give (R93): not written by the host. -/
def State.missing (s : State) (v : Version) : List Nat :=
  (List.range (s.gblk v.array)).filter (fun b => !(v.blocks.any (fun e => e.1 == b)))

/-- The blocks that only the media hold (R93): missing, in no older version, of a mapped grain. -/
def State.unread (s : State) (v : Version) : List Nat :=
  if s.grainMapped v.array v.grain then (s.missing v).filter (fun b => (s.olderBlock v b).isNone) else []

/-- Fill the blocks of a version that the host has not written: from an older version, from what was read of the media, else zeros
(R93). None while a block that only the media hold has not been read. -/
def State.fillVersion (s : State) (v : Version) (fill : List (Nat × Info)) (zero : Nat → Info) : Option Version :=
  if (s.unread v).any (fun b => !(fill.any (fun e => e.1 == b))) then none
  else some { v with blocks := (s.missing v).foldl (fun t b =>
      Tbl.put b ((s.olderBlock v b).getD (((fill.find? (fun e => e.1 == b)).map (fun e => e.2)).getD (zero b))) t) v.blocks }

/-- Place a whole version in the gathering stripe of its cluster (R92, R93, R135). -/
def State.placeVersion (s : State) (v : Version) : State :=
  let c := s.gatherCluster v.grain
  let fg := s.wantsFg v
  let x := s.gather v.array c fg
  (((s.putVersion { v with gathered := true, entry := x.entry }).setGather v.array c fg
    { x with grains := x.grains ++ [(v.grain, v.seq)] }).mirrorVersion v.seq).stripeFull v.array c fg

/-- Force a gathering stripe out as a partial stripe (R98): its grains so far are due. -/
def State.forceOut (s : State) (a c : Nat) (fg : Bool) : State :=
  let x := s.gather a c fg
  let n := x.grains.length * s.gblk a
  if x.extent < n then
    (s.setGather a c fg { x with extent := n }).setJobs (s.hoop.jobs ++
      [{ array := a, cluster := c, fastGround := fg, grains := x.grains, forced := some n, entry := x.entry }])
  else s

/-- Force every gathering stripe of an array, or of all arrays. -/
def State.forceAll (s : State) (p : Nat → Bool) : State :=
  s.hoop.gathers.foldl (fun s g => if p (g.1 / 16) then s.forceOut (g.1 / 16) (g.1 / 2 % 8) (g.1 % 2 == 1) else s) s

/-- Place grains, by number and sequence, in the gathering stripes of their clusters. -/
def State.placeGrains (s : State) (l : List (Nat × Nat)) : State :=
  l.foldl (fun (s : State) g => match s.hoop.versions.find? (fun v => v.seq == g.2) with
    | some v => s.placeVersion { v with entry := none }
    | none => s) s

/-- Regather the grains of an abandoned host stripe: they keep their sequences and re-enter gathering (R107, R108). -/
def State.regather (s : State) (e : Nat) : State :=
  (s.hoop.versions.filter (fun v => v.entry == some e)).foldl (fun s v => s.placeVersion { v with entry := none, step6 := false })
    (s.dropEntry e)

/-- Close a band for writing (R107, R119): EARLY where it was not full. -/
def State.closeBand (s : State) (a b : Nat) (early pfail : Bool) : State :=
  let x := s.band a b
  if x.state = .open_ then
    s.setBandLogged a b { x with state := .closed, tclose := s.tbase, early := x.early || early, pfail := x.pfail || pfail }
  else if pfail && !x.pfail then s.setBandLogged a b { x with pfail := true }
  else s

/-- Abandon an OPEN or CLOSING couching entry (R107, R145, R258): STATE 3, its band closed for writing, host grains regathered. -/
def State.abandonEntry (s : State) (e : Nat) (pfail : Bool) : State :=
  let x := s.centry e
  if x.state = 1 ∨ x.state = 2 then
    let seqs := (s.hoop.versions.filter (fun v => v.entry == some e)).map (fun v => v.seq)
    let s1 := s.setCentry e { x with state := 3, awaits := if x.source = 0 then seqs else [] }
    let s2 := s1.closeBand x.array x.band true pfail
    if x.source = 0 then s2.regather e else s2
  else s

/-- A grain's version passes step 6 (R90, R94): the newest passed sequence rises, and ABANDONED entries that awaited it
await it no longer (R107). -/
def State.passStep6 (s : State) (a g seq : Nat) : State :=
  let h := { s.hoop with
             passed := Tbl.set markReset s.hoop.passed (grainKey a g) (max seq (s.passedSeq a g))
             versions := s.hoop.versions.map (fun v => if v.seq == seq then { v with step6 := true } else v)
             entries := s.hoop.entries.map (fun e => (e.1, { e.2 with awaits := e.2.awaits.filter (fun q => q != seq) })) }
  (({ s with hoop := h }.mirrorVersion seq).mirror (.sequences s.hoop.nextSeq [(grainKey a g, max seq (s.passedSeq a g))])).reapAll

end Sys2Proof.Machine
end

