-- ==== Sys2Proof/Machine/Pi.lean ====
section
/-! DEFINITION. Protection information and unit metadata of an information word: formats and guards (R184, R185), checks
(R186, R187), the poison signature (R189), metadata (R174), zero and filler blocks (R98, R188). -/

namespace Sys2Proof.Machine

/-- An information word of zeros. -/
def infoReset (_ : Nat) : Info := { data := [], pi := 0, mta := 0 }

/-- The guard over a block's 4,096 data bytes: CRC-16 for the 8-byte format, CRC-64 for the 16-byte and internal formats
(R184, R185). Format codes as PIFMT (R174): 0 none (internal), 1 8-byte, 2 16-byte. -/
def guardOf (fmt : Nat) (d : Mem) : Nat :=
  if fmt = 1 then crc16t10 (d.readBytes 0 4096) else crc64nvme (d.readBytes 0 4096)

/-- A protection information slot from guard, application tag and reference tag; fields most significant byte first (R11,
R185). -/
def piMake (fmt guard app ref : Nat) : BitVec 128 :=
  if fmt = 1 then BitVec.ofNat 128 (leNat (beBytes 2 guard ++ beBytes 2 app ++ beBytes 4 ref))
  else BitVec.ofNat 128 (leNat (beBytes 8 guard ++ beBytes 2 app ++ beBytes 6 ref))

/-- The slot's bytes. -/
def piBytes (p : BitVec 128) : List Byte := leBytes 16 p.toNat

/-- Guard field of a slot. -/
def piGuard (fmt : Nat) (p : BitVec 128) : Nat := beNat ((piBytes p).take (if fmt = 1 then 2 else 8))

/-- Application tag of a slot. -/
def piApp (fmt : Nat) (p : BitVec 128) : Nat := beNat (((piBytes p).drop (if fmt = 1 then 2 else 8)).take 2)

/-- Reference tag of a slot. -/
def piRef (fmt : Nat) (p : BitVec 128) : Nat :=
  if fmt = 1 then beNat (((piBytes p).drop 4).take 4) else beNat (((piBytes p).drop 10).take 6)

/-- A block address as a reference tag (R184, R185). -/
def refTag (fmt blk : Nat) : Nat := if fmt = 1 then blk % 2 ^ 32 else blk % 2 ^ 48

/-- Bytes of protection information that the host sees per block. -/
def piHostBytes (fmt : Nat) : Nat := if fmt = 1 then 8 else if fmt = 2 then 16 else 0

/-- The bitwise inverse of a guard. -/
def guardInv (fmt g : Nat) : Nat := if fmt = 1 then 0xFFFF - g % 65536 else 0xFFFFFFFFFFFFFFFF - g % 2 ^ 64

/-- The slot carries the poison signature over the data (R189). -/
def Info.signed (fmt : Nat) (i : Info) : Bool :=
  piGuard fmt i.pi == guardInv fmt (guardOf fmt i.data) && piApp fmt i.pi == 0xFFFE

/-- The metadata POISON bit: bit 5 of byte 5 (R174). -/
def Info.poisonBit (i : Info) : Bool := i.mta.getLsbD 45

/-- A marked block (R189). -/
def Info.marked (fmt : Nat) (i : Info) : Bool := i.poisonBit || i.signed fmt

/-- Unit metadata with its CRC over bytes 0x0 to 0xD renewed (R174). -/
def mtaSeal (m : BitVec 128) : BitVec 128 :=
  let b := (leBytes 16 m.toNat).take 14
  BitVec.ofNat 128 (leNat (b ++ leBytes 2 (crc16t10 b)))

/-- Form the poison signature, set the metadata bit and renew the metadata's CRC (R174, R189, R256 POISON). -/
def Info.poison (fmt : Nat) (i : Info) : Info :=
  { i with pi := piMake fmt (guardInv fmt (guardOf fmt i.data)) 0xFFFE (piRef fmt i.pi)
           mta := mtaSeal (i.mta ||| BitVec.ofNat 128 (2 ^ 45)) }

/-- The guard of the slot matches the data. -/
def Info.guardOk (fmt : Nat) (i : Info) : Bool := piGuard fmt i.pi == guardOf fmt i.data

/-- The block as the parity unit takes it: one whose guard fails takes the poison signature (R187). -/
def Info.sealed (fmt : Nat) (i : Info) : Info := if i.guardOk fmt || i.marked fmt then i else i.poison fmt

/-- A block marked by an arrival of its data or of its protection information carries the signature over what it now holds (R189,
R190). -/
def Info.remark (fmt : Nat) (i : Info) : Info := if i.poisonBit then i.poison fmt else i

/-- Generate a block's protection information: host formats with the given tag and the block address, internal values for
format 0 (R184, R185, R186, R256). -/
def Info.gen (fmt app blk : Nat) (i : Info) : Info :=
  { i with pi := piMake fmt (guardOf fmt i.data) (if fmt = 0 then 0 else app % 65536) (refTag fmt blk) }

/-- A zero block with generated protection information (R188). -/
def zeroBlock (fmt app blk : Nat) : Info := (infoReset 0).gen fmt app blk

/-- Check one block (R186, R187, R256): 0 passes, else the ingress status. A marked block is exempt from the tag checks, and
an application tag 0xFFFF disables them. `typ` 1 checks the reference tag; `ctl` is the PI control byte. -/
def Info.check (fmt typ ctl app mask blk : Nat) (i : Info) : Nat :=
  if i.marked fmt then 0
  else if !i.guardOk fmt then 0x0201
  else if fmt = 0 then 0
  else if piApp fmt i.pi == 0xFFFF then 0
  else if bit ctl 1 && (piApp fmt i.pi &&& mask) != (app &&& mask) then 0x0202
  else if bit ctl 2 && typ == 1 && piRef fmt i.pi != refTag fmt blk then 0x0204
  else 0

/-- The egress status of an ingress one (R187, R193). -/
def egressStatus (st : Nat) : Nat := if st = 0x0202 then 0x0212 else if st = 0x0204 then 0x0214 else 0

/-- Unit metadata of a data codeword (R174). -/
def mtaMake (grain array : Nat) (filler poison : Bool) (blkidx fmt vseq : Nat) : BitVec 128 :=
  let b := leBytes 5 grain ++ leBytes 1 (array % 16 + 16 * filler.toNat + 32 * poison.toNat) ++ leBytes 1 blkidx ++
    leBytes 1 fmt ++ leBytes 6 vseq
  BitVec.ofNat 128 (leNat (b ++ leBytes 2 (crc16t10 b)))

/-- The metadata CRC is correct (R174, R178). -/
def Info.mtaOk (i : Info) : Bool :=
  crc16t10 ((leBytes 16 i.mta.toNat).take 14) == leNat (((leBytes 16 i.mta.toNat).drop 14))

/-- GRAIN, FLAGS, BLKIDX and VSEQ of the metadata (R174). -/
def Info.mGrain (i : Info) : Nat := bits i.mta.toNat 0 40
/-- Array number of the metadata. -/
def Info.mArray (i : Info) : Nat := bits i.mta.toNat 40 4
/-- FILLER. -/
def Info.mFiller (i : Info) : Bool := bit i.mta.toNat 44
/-- BLKIDX. -/
def Info.mBlk (i : Info) : Nat := bits i.mta.toNat 48 8
/-- VSEQ. -/
def Info.mVseq (i : Info) : Nat := bits i.mta.toNat 64 48

/-- A filler block (R98): zero data, guard over it, application tag 0, reference tag 0, FILLER set. -/
def fillerBlock (fmt array : Nat) : Info :=
  { data := [], pi := piMake fmt (guardOf fmt []) 0 0, mta := mtaMake 0xFFFFFFFFFF array true false 0 fmt 0 }

/-- The codewords of a sled log block: 4,096 bytes each, GRAIN 0xFF_FFFF_FFFF and a zero slot (R174); FLAGS, BLKIDX, PIFMT and VSEQ are
the model's zeros (log entry 88). -/
def logInfos (l : List Byte) : List Info :=
  (List.range (ceilDiv l.length 4096)).map (fun k =>
    { data := Mem.writeBytes [] 0 ((l.drop (4096 * k)).take 4096), pi := 0, mta := mtaMake 0xFFFFFFFFFF 0 false false 0 0 0 })

/-- The information word as its 4,128 bytes (R173, R176). -/
def Info.byteAt (i : Info) (o : Nat) : Byte :=
  if o < 4096 then i.data.read o
  else if o < 4112 then BitVec.ofNat 8 (i.pi.toNat / 256 ^ (o - 4096))
  else BitVec.ofNat 8 (i.mta.toNat / 256 ^ (o - 4112))

/-- The 4,128 bytes of an information word, in order (R173). -/
def Info.bytes (i : Info) : List Byte := (List.range 4128).map i.byteAt

/-- An information word's bytes by offset (R173). -/
def Info.toMem (i : Info) : Mem :=
  (i.data.writeBytes 4096 (leBytes 16 i.pi.toNat)).writeBytes 4112 (leBytes 16 i.mta.toNat)

/-- The information word in the first 4,128 bytes of a codeword (R173). -/
def Info.ofMem (m : Mem) : Info :=
  { data := m.foldl (fun d e => if e.1 < 4096 then d.write e.1 e.2 else d) []
    pi := BitVec.ofNat 128 (leNat (m.readBytes 4096 16))
    mta := BitVec.ofNat 128 (leNat (m.readBytes 4112 16)) }

/-- The 512 bytes of LDPC parity at 0x1020 of an information word's codeword (R173, R176). -/
def Info.parity (i : Info) : List Byte := (List.range 512).map (Config.ldpcParity i.bytes)

/-- Byte `o` of a page as it is programmed: codeword `j` starts at byte 4,640·j, and every byte behind the last one is 0xFF (R175). -/
def pageByte (words : List Info) (o : Nat) : Byte :=
  match words[o / 4640]? with
  | some w => if o % 4640 < 4128 then w.byteAt (o % 4640) else w.parity.getD (o % 4640 - 4128) 0
  | none => 0xFF

/-- The exclusive-or of one information word times a coefficient into another, over all 4,128 bytes (R49, R176, R253). -/
def Info.addScaled (x : Info) (k : Nat) (y : Info) : Info :=
  let m (a b : Byte) : Byte := a ^^^ BitVec.ofNat 8 (gfMul k b.toNat)
  { data := y.data.foldl (fun d e => d.write e.1 (m (x.data.read e.1) e.2)) x.data
    pi := BitVec.ofNat 128 (leNat ((List.range 16).map (fun o => m (x.byteAt (4096 + o)) (y.byteAt (4096 + o)))))
    mta := BitVec.ofNat 128 (leNat ((List.range 16).map (fun o => m (x.byteAt (4112 + o)) (y.byteAt (4112 + o))))) }

end Sys2Proof.Machine
end

