-- ==== Sys2Proof/Machine/Stripe.lean ====
section
/-! DEFINITION. Solving a stripe's lost columns over information words: which columns are needed, which syndromes are used
and the solution (R54, R56, R57, R176, R182). -/

namespace Sys2Proof.Machine

/-- The data columns of a stripe. -/
def pkDataCols (img : List Byte) : List Nat := (List.range (pkD img)).map (pkColOf img)

/-- The group of a data index under Net; group 0 otherwise. -/
def pkGroup (img : List Byte) (i : Nat) : Nat := if pkLayout img = 3 then i / (pkM img - 1) else 0

/-- The column that gives A for group `j`: P, or L_j under Net (R56). -/
def pkACol (img : List Byte) (j : Nat) : Nat := if pkLayout img = 3 then j * pkM img + (pkM img - 1) else pkD img

/-- The column of Q, if the layout has one. -/
def pkQCol (img : List Byte) : Option Nat :=
  match pkLayout img with
  | 1 => none
  | 2 => some (pkW img - 1)
  | _ => some (pkG img * pkM img)

/-- The column of S, if the layout has one. -/
def pkSCol (img : List Byte) : Option Nat := if pkLayout img = 3 then some (pkG img * pkM img + 1) else none

/-- The data indices whose column is lost, rising. -/
def lostIdx (img : List Byte) (lost : List Nat) : List Nat :=
  (List.range (pkD img)).filter (fun i => lost.contains (pkColOf img i))

/-- The lost indices repaired from L_j first: a Net group with exactly one lost data strip and its L_j (R56 step 1). -/
def peeled (img : List Byte) (lost : List Nat) : List Nat :=
  if pkLayout img = 3 then
    (lostIdx img lost).filter (fun i =>
      ((lostIdx img lost).filter (fun x => pkGroup img x == pkGroup img i)).length == 1 &&
        !lost.contains (pkACol img (pkGroup img i)))
  else []

/-- The lost indices solved from A, B and C (R56 step 2). -/
def unknowns (img : List Byte) (lost : List Nat) : List Nat :=
  (lostIdx img lost).filter (fun i => !(peeled img lost).contains i)

/-- The columns that give A, B and C for the remaining unknowns, where they survive (R56). -/
def syndCols (img : List Byte) (lost : List Nat) : Option Nat × Option Nat × Option Nat :=
  let u := unknowns img lost
  let j := pkGroup img (u.headD 0)
  let keep (c : Option Nat) : Option Nat := c.filter (fun x => !lost.contains x)
  (if u.all (fun i => pkGroup img i == j) then keep (some (pkACol img j)) else none, keep (pkQCol img), keep (pkSCol img))

/-- The first row of R56 that applies to `n` unknowns: which of A, B and C it uses (R57). -/
def rowUse (n : Nat) (a b c : Bool) : Option (Bool × Bool × Bool) :=
  match n with
  | 0 => some (false, false, false)
  | 1 => if a then some (true, false, false) else if b then some (false, true, false) else
      if c then some (false, false, true) else none
  | 2 => if a && b then some (true, true, false) else if a && c then some (true, false, true) else
      if b && c then some (false, true, true) else none
  | 3 => if a && b && c then some (true, true, true) else none
  | _ => none

/-- The syndrome columns used. -/
def usedCols (img : List Byte) (lost : List Nat) : Option (Option Nat × Option Nat × Option Nat) :=
  let x := syndCols img lost
  (rowUse (unknowns img lost).length x.1.isSome x.2.1.isSome x.2.2.isSome).map (fun u =>
    (if u.1 then x.1 else none, if u.2.1 then x.2.1 else none, if u.2.2 then x.2.2 else none))

/-- The surviving columns read to give column `target`; none when the loss is beyond tolerance (R54, R55, R56, R57). -/
def neededCols (img : List Byte) (lost : List Nat) (target : Nat) : Option (List Nat) :=
  if !pkWithin img lost then none
  else
    let live (l : List Nat) : List Nat := l.filter (fun c => !lost.contains c && c != target)
    let group (j : Nat) : List Nat :=
      live (((List.range (pkD img)).filter (fun i => pkGroup img i == j)).map (pkColOf img))
    let whole := (usedCols img lost).map (fun u =>
      (live (pkDataCols img) ++ (peeled img lost).map (fun i => pkACol img (pkGroup img i)) ++
        u.1.toList ++ u.2.1.toList ++ u.2.2.toList).eraseDups)
    match pkRole img target with
    | .data i => if (peeled img lost).contains i then some (group (pkGroup img i) ++ [pkACol img (pkGroup img i)]) else whole
    | .parL j => if (lostIdx img lost).all (fun i => pkGroup img i != j) then some (group j) else whole
    | _ => whole

/-- A known column's word. -/
def colWord (known : List (Nat × Info)) (c : Nat) : Info := ((known.find? (fun e => e.1 == c)).map (fun e => e.2)).getD
  { data := [], pi := 0, mta := 0 }

/-- The sum of the known data columns in `idx`, each times the coefficient `k i` (R49). -/
def sumData (img : List Byte) (known : List (Nat × Info)) (idx : List Nat) (k : Nat → Nat) (x : Info) : Info :=
  idx.foldl (fun a i => a.addScaled (k i) (colWord known (pkColOf img i))) x

/-- A linear combination of the reduced syndromes. -/
def combine (ka kb kc : Nat) (a b c : Info) : Info :=
  (((infoReset 0).addScaled ka a).addScaled kb b).addScaled kc c

/-- The lost data words of an index, by column, from known columns (R56); the solution is linear in A, B and C at each byte,
so its coefficients are those of unit bytes. -/
def solveData (img : List Byte) (lost : List Nat) (known : List (Nat × Info)) : List (Nat × Info) :=
  let one (i : Nat) : Nat × Info :=
    (pkColOf img i, sumData img known ((List.range (pkD img)).filter (fun x => x != i && pkGroup img x == pkGroup img i))
      (fun _ => 1) (colWord known (pkACol img (pkGroup img i))))
  let k1 := known ++ (peeled img lost).map one
  let u := unknowns img lost
  match usedCols img lost with
  | none => k1
  | some (ca, cb, cc) =>
    let live := (List.range (pkD img)).filter (fun x => !u.contains x)
    let j := pkGroup img (u.headD 0)
    let red (c : Option Nat) (idx : List Nat) (k : Nat → Nat) : Info :=
      match c with
      | some c => sumData img k1 idx k (colWord known c)
      | none => infoReset 0
    let a := red ca (live.filter (fun x => pkGroup img x == j)) (fun _ => 1)
    let b := red cb live gfExp
    let c := red cc live (fun i => gfExp (2 * i))
    let unit (x y z : Nat) : List Nat := (gfSolve u (ca.map (fun _ => x)) (cb.map (fun _ => y)) (cc.map (fun _ => z))).getD []
    k1 ++ (List.range u.length).map (fun n =>
      (pkColOf img (u.getD n 0),
        combine ((unit 1 0 0).getD n 0) ((unit 0 1 0).getD n 0) ((unit 0 0 1).getD n 0) a b c))

/-- The syndrome word of a parity role over complete data (R49). -/
def parityWord (img : List Byte) (data : List (Nat × Info)) (r : Role) : Info :=
  sumData img data (List.range (pkD img)) (parityCoeff img r) (infoReset 0)

/-- The word of column `target` solved from known columns (R56). -/
def solveCol (img : List Byte) (lost : List Nat) (known : List (Nat × Info)) (target : Nat) : Info :=
  let d := solveData img lost known
  match pkRole img target with
  | .data _ => colWord d target
  | r => parityWord img d r

end Sys2Proof.Machine
end

