-- ==== Sys2Proof/Machine/LostOps.lean ====
section
/-! DEFINITION. Lost stripes and lost grains (R214 to R218): records, table, units awaiting a scan; and the state of an array
(R204 to R206, R213). -/

namespace Sys2Proof.Machine

/-- VSEQ of a grain none of whose codewords can be obtained (R215). -/
def vseqNone : Nat := 0xFFFFFFFFFFFF

/-- The low 48 bits of the sequence of a grain's mapped version; none known gives the skipped value (R174, R215). -/
def State.mappedVseq (s : State) (a g : Nat) : Nat :=
  if s.passedSeq a g = 0 then vseqNone else s.passedSeq a g % 2 ^ 48

/-- The lost-grain table names a grain with a VSEQ, or with the value that matches every version (R215, R216). -/
def State.grainLost (s : State) (a g vseq : Nat) : Bool :=
  s.lost.grains.any (fun x => x.array == a && x.grain == g && (x.vseq == vseq || x.vseq == vseqNone))

/-- A unit still waits for its scan: a read there is one of a lost grain (R215). -/
def State.unitScanned (s : State) (a pga : Nat) : Bool := s.lost.scans.any (fun u => u.array == a && u.pga == pga)

/-- The registers follow the tables. -/
def State.syncLost (s : State) : State :=
  (({ s with hoop := { s.hoop with repl := { s.hoop.repl with lostDirty := true } } }.setF F.ARR_LGT_ENTRIES
    s.lost.grains.length).setF F.ARR_LSL_STAT_COUNT s.lost.stripes.length).mirror (.lost s.lost)

/-- Enter a lost grain (R216); a full table gives OVF and a critical health event. -/
def State.addLostGrain (s : State) (a g vseq : Nat) : State :=
  let s1 := s.incF (F.ARR_LOST_GRAINS a)
  if s.grainLost a g vseq then s
  else if s.lost.grains.length < 1048576 then
    let x : LostGrain := { array := a, grain := g, vseq }
    ({ s1 with lost := { s1.lost with grains := s1.lost.grains ++ [x] } }).syncLost
  else (s1.setFlag F.ARR_LGT_OVF true).healthEvent 0x06 true 10 a

/-- Free the entries of a grain whose version no longer matches (R215, R216). -/
def State.freeLostGrain (s : State) (a g : Nat) : State :=
  ({ s with lost := { s.lost with grains := s.lost.grains.filter (fun x => !(x.array == a && x.grain == g)) } }).syncLost

/-- A stripe is already in the lost-stripe log. -/
def State.stripeLogged (s : State) (a b st : Nat) : Bool :=
  s.lost.stripes.any (fun x => x.array == a && x.band == b && x.stripe == st &&
    x.generation == (s.band a b).generation)

/-- What a read of a stripe found beyond tolerance (R214, R215): the columns lost, the indices beyond tolerance, the lost grains known
with their VSEQs, the units whose grain a scan must find, the grains those units belong to, and the VSEQs of the grains that the
stripe's accepted codewords name. -/
structure StripeLoss where
  cols : List Nat
  idx : List Nat
  grains : List (Nat × Nat)
  units : List Nat
  unknown : Nat
  vseqs : List (Nat × Nat)
  deriving DecidableEq, Repr

/-- A stripe is found lost (R214): the record, FLAGS.LOST by a kind 2 delta, the lost grains, the scans due. A stripe already in the log
is not logged again, and its further lost grains are entered (log entry 18). -/
def State.findLost (s : State) (found a b st : Nat) (x : StripeLoss) : State :=
  let units := x.units.filter (fun u => !s.unitScanned a u)
  let s0 : State := { s with lost := { s.lost with
    scans := s.lost.scans ++ units.map (fun u => { array := a, pga := u, vseqs := x.vseqs }) } }
  let s1 : State :=
    if s.stripeLogged a b st then s0
    else
      let r : LostStripe := {
        array := a, found, generation := (s.band a b).generation, band := b, stripe := st
        lostCols := (x.cols.map (fun c => 2 ^ c)).sum, firstIdx := x.idx.foldl min 0xFFFF, badIdx := x.idx.length
        grains := x.grains.length + x.unknown, tbase := s.tbase
        firstGrain := if x.units ≠ [] then 0xFFFFFFFFFF else (x.grains.map (fun g => g.1)).foldl min 0xFFFFFFFFFF
        lseq := s.lost.lseq + 1 }
      let full := decide (65536 ≤ s.lost.stripes.length)
      let t := ({ s0 with lost := { s0.lost with
        stripes := if full then s0.lost.stripes else s0.lost.stripes ++ [r], lseq := s.lost.lseq + 1 } }).incF (F.ARR_LOST_STRIPES a)
      let u := if full then t.setFlag F.ARR_LSL_STAT_OVF true else t
      (u.logArrayOpen a b).setBandLogged a b { u.band a b with lost := true }
  (x.grains.foldl (fun s g => s.addLostGrain a g.1 g.2) s1).syncLost

/-- The 16 bytes of a lost-grain table entry in use (R216). -/
def LostGrain.bytes (x : LostGrain) : List Byte :=
  let b := leBytes 8 (x.grain % 2 ^ 40 + 2 ^ 40 * (x.array % 16) + 2 ^ 44) ++ leBytes 6 x.vseq
  b ++ leBytes 2 (crc16t10 b)

/-- The 64 bytes of a lost-stripe record (R218). -/
def LostStripe.bytes (x : LostStripe) : List Byte :=
  let b := leBytes 1 x.array ++ leBytes 1 x.found ++ leBytes 2 0 ++ leBytes 4 x.generation ++ leBytes 4 x.band ++
    leBytes 4 x.stripe ++ leBytes 8 x.lostCols ++ leBytes 2 x.firstIdx ++ leBytes 2 x.badIdx ++ leBytes 4 x.grains ++
    leBytes 8 x.tbase.toNat ++ leBytes 5 x.firstGrain ++ leBytes 3 0 ++ leBytes 8 x.lseq ++ leBytes 4 0
  b ++ leBytes 4 (crc32c b)

/-- The lost-grain table and the lost-stripe log as they are written to a copy sled (R216, R218). -/
def LostTables.message (l : LostTables) (n : Nat) : OutMsg :=
  .copyTables n (logInfos (l.grains.flatMap LostGrain.bytes)) (logInfos (l.stripes.flatMap LostStripe.bytes))

/-! ## The state of an array (R202 to R206) -/

/-- PAIR_STAT.ROLE (R393, R394 and its register). -/
def State.role (s : State) : Nat := s.f F.PAIR_STAT_ROLE

/-- The unit may change media: unpaired, or active (R372, R382). -/
def State.holdsClaim (s : State) : Bool := !s.paired || s.role == 1

/-- The failed members named by the ARMED or RETIRING pricking, each once. -/
def State.failedNamed (s : State) (a : Nat) : List Nat :=
  (((s.armed a).map pkMembers).getD [] ++ ((s.retiring a).map pkMembers).getD []).eraseDups.filter (fun n => (s.sled n).failed)

/-- NARROW: fewer usable members than the width (R204). -/
def State.narrow (s : State) (a : Nat) : Bool :=
  match s.armed a with
  | some img => decide ((s.liveMembers img).length < pkW img)
  | none => false

/-- The members that hold a strip of a stripe, column by column (R51, R202). -/
def State.stripeHolders (s : State) (a b st : Nat) : List Nat :=
  let img := effImg (s.prickingOf a (s.band a b).generation) (s.band a b).blocks
  (List.range (pkW img)).map (fun c => pkMember img (pkMemberIdx img st c))

/-- Loss count of a stripe: its strips on failed members (R209). -/
def State.lossCount (s : State) (a b st : Nat) : Nat := ((s.stripeHolders a b st).filter (fun n => (s.sled n).failed)).length

/-- Stripes of a band by its mode (R53, R123, R202). -/
def State.bandStripes (s : State) (a b : Nat) : Nat :=
  let img := effImg (s.prickingOf a (s.band a b).generation) (s.band a b).blocks
  pkBandStripes img (s.band a b).kind (s.sled (pkMember img 0)).bpc

/-- The stripes still to be rebuilt in a band: KIND 0, 1 or 2, a strip on a failed member, a unit named (R207). -/
def State.rebuildOf (s : State) (a b : Nat) : List Nat :=
  match (s.band a b).state, (s.band a b).kind with
  | .free, _ => []
  | _, .interim => []
  | _, .mapCkpt => []
  | _, _ => (List.range (s.bandStripes a b)).filter (fun st => decide (0 < s.lossCount a b st) && s.stripeNamed a b st)

/-- Every stripe still to be rebuilt in an array: band and stripe, rising (R209). -/
def State.rebuildWork (s : State) (a : Nat) : List (Nat × Nat) :=
  if (s.failedNamed a).isEmpty then []
  else (s.bands.filter (fun e => e.1 / 2 ^ 21 == a)).flatMap (fun e =>
    (s.rebuildOf a (e.1 % 2 ^ 21)).map (fun st => (e.1 % 2 ^ 21, st)))

/-- TOL by layout (R205). -/
def State.tolOf (s : State) (a : Nat) : Nat := ((s.armed a).map (fun img => min 3 (pkLayout img))).getD 0

/-! ## The couching copy sleds (R102, R220) -/

/-- An array is configured on the device. -/
def State.anyArray (s : State) : Bool := (List.range 16).any s.arrExists

/-- Enrolment number of none. -/
def noSled : Nat := 0xFFFF

/-- The couching copy sleds (R102). -/
def State.copies (s : State) : List Nat :=
  [s.f F.CLOG_REPL_SLED0, s.f F.CLOG_REPL_SLED1, s.f F.CLOG_REPL_SLED2].filter (fun n => n != noSled)

/-- RSEQ a copy sled has acknowledged. -/
def State.ackedBy (s : State) (n : Nat) : Nat := Tbl.get markReset s.hoop.repl.acks n

/-- RSEQ that a copy sled must acknowledge before it counts. -/
def State.joinRseq (s : State) (n : Nat) : Nat := Tbl.get markReset s.hoop.repl.joinAt n

/-- A copy sled has not yet acknowledged the records of step 1 of R220. -/
def State.copyJoining (s : State) : Bool := s.copies.any (fun n => decide (s.ackedBy n < s.joinRseq n))

/-! ## The state of an array (R204 to R213) -/

/-- Why rebuild of an array is not running (R211); 0 when it may run. -/
def State.rebuildWhy (s : State) (a : Nat) : Nat :=
  if !(decide (s.mode.cur = .active) || decide (s.mode.cur = .maintenance)) then 1
  else if s.flag (F.ARR_RB_CTL_PAUSE a) then 2
  else if s.flag (F.ARR_GC_NOSPACE a) then 3
  else if s.narrow a then 4
  else if s.hoop.resync.isSome then 5
  else if decide (s.f F.CLOG_STAT_COPIES = 0) || s.copyJoining then 6
  else 0

/-- DONE and TOTAL of the rebuild run for so many remaining stripes (R212): at the start of a run both are 0; stripes that leave the work
are done, and stripes that join it raise TOTAL. After the run they keep their values. -/
def State.rebuildCount (s : State) (a remain : Nat) (start ends : Bool) : Nat × Nat :=
  let done := if start then 0 else s.f (F.ARR_RB_PROG_DONE a)
  let total := if start then 0 else s.f (F.ARR_RB_TOTAL_TOTAL a)
  if ends then (done, total) else (max done (total - remain), max done (total - remain) + remain)

/-- ARR_RB_PROG.RUN and WHY follow what keeps rebuild from running (R211). -/
def State.syncRun (s : State) (a : Nat) : State :=
  if !s.arrExists a || !s.holdsClaim then s
  else
    let on := decide (0 < s.f (F.ARR_STATE_LMAX a))
    let why := s.rebuildWhy a
    ((s.setFlag (F.ARR_RB_PROG_RUN a) (on && why == 0)).setF (F.ARR_RB_PROG_WHY a) (if on then why else 0)).mirrorRegs s a

/-- The code of an array's state (R205). A transition of the device's mode alone changes none: what was rebuilding stays so where the
mode is all that keeps rebuild from running (R43). -/
def State.arrayState (s : State) (a lmax why : Nat) : Nat :=
  if s.flag (F.ARR_STATE_MAPLOST a) then 5
  else if decide (0 < lmax) && decide (s.tolOf a ≤ lmax) then 2
  else if decide (0 < lmax) && (why == 0 || why == 1 && s.f (F.ARR_STATE_STATE a) == 3) then 3
  else if 0 < lmax then 1
  else if s.flag (F.ARR_RS_ACTIVE a) then 4
  else 0

/-- ARR_STATE.STATE changes: CHG, PREV, the array event vector, an array record (R206). -/
def State.enterArrayState (s : State) (a st : Nat) : State :=
  let cur := s.f (F.ARR_STATE_STATE a)
  if st = cur then s
  else ((((s.setF (F.ARR_STATE_PREV a) cur).setF (F.ARR_STATE_STATE a) st).setFlag (F.ARR_STATE_CHG a) true).raiseEvent
    (16 + a)).logArrayOpen a 0

/-- The registers and the state of an array follow its failures (R205, R206, R211 to R213). A paired standby shows what the active
mirrors (R44). -/
def State.syncMembers (s : State) (a : Nat) : State :=
  if !s.arrExists a || !s.holdsClaim then s
  else
    let work := s.rebuildWork a
    let lc := work.map (fun x => s.lossCount a x.1 x.2)
    let lmax := lc.foldl max 0
    let old := s.f (F.ARR_STATE_LMAX a)
    let cnt (p : Nat → Bool) : Nat := (lc.filter p).length
    let p := s.rebuildCount a work.length (old == 0 && decide (0 < lmax)) (old == 0 && lmax == 0)
    let done := p.1
    let total := p.2
    let s2 := ((((s.setF (F.ARR_STATE_LMAX a) lmax).setF (F.ARR_STATE_TOL a) (s.tolOf a)).setF (F.ARR_STATE_FAILED a)
      (s.failedNamed a).length).setFlag (F.ARR_STATE_NARROW a) (s.narrow a))
    let s3 := ((s2.setF (F.ARR_RB_LEFT1_COUNT a) (cnt (· == 1))).setF (F.ARR_RB_LEFT2_COUNT a) (cnt (· == 2))).setF
      (F.ARR_RB_LEFT3_COUNT a) (cnt (fun x => decide (3 ≤ x)))
    let s4 := if old = 0 ∧ lmax = 0 then s3
      else ((s3.setF (F.ARR_RB_TOTAL_TOTAL a) total).setF (F.ARR_RB_PROG_DONE a) done).setF (F.ARR_RB_PROG_PERMILLE a)
        (if lmax = 0 then 1000 else 1000 * done / max 1 total)
    ((s4.syncRun a).enterArrayState a (s.arrayState a lmax (s.rebuildWhy a))).mirrorRegs s a

end Sys2Proof.Machine
end

