-- ==== Sys2Proof/Machine/Flags.lean ====
section
/-! DEFINITION. Predicates and conditions of Quinuip: the condition codes of field C, the truth table of PLOG (R248), and
when a predicated instruction executes (R240). -/

namespace Sys2Proof.Machine

/-- The condition codes of R248: 0 EQ, 1 NE, 2 LTU, 3 GEU, 4 LT, 5 GE; none for a reserved code. -/
def condHolds (c : Nat) (x y : Word) : Option Bool :=
  match c with
  | 0 => some (x == y)
  | 1 => some (x != y)
  | 2 => some (decide (x.toNat < y.toNat))
  | 3 => some (decide (y.toNat ≤ x.toNat))
  | 4 => some (decide (x.toInt < y.toInt))
  | 5 => some (decide (y.toInt ≤ x.toInt))
  | _ => none

/-- Predicate `i` of four bits (R236). -/
def predAt (p i : Nat) : Bool := bit p (i % 4)

/-- Four predicate bits with predicate `i` set or cleared. -/
def predSet (p i : Nat) (b : Bool) : Nat := putBit p (i % 4) b

/-- PLOG's result: the truth table's bit at (p[A] << 1) | p[B] (R248). -/
def plogBit (table : Nat) (pa pb : Bool) : Bool := bit table (2 * pa.toNat + pb.toNat)

/-- A predicated instruction executes only when p[PS] ≠ PN (R240). -/
def execPred (pe pn : Bool) (ps p : Nat) : Bool := !pe || predAt p ps != pn

end Sys2Proof.Machine
end

