-- ==== Sys2Proof/Machine/Operands.lean ====
section
/-! DEFINITION. Quinuip instruction words: fields (R239), major opcodes (R242), which fields and immediate bits an
instruction defines (R241, R247 to R261), the permission it needs (R266), the registers and runs it reads and writes
(R262, R263). -/

namespace Sys2Proof.Machine

/-- The fields of an instruction word (R239). -/
structure IWord where
  op : Nat
  pe : Bool
  pn : Bool
  ps : Nat
  d : Nat
  a : Nat
  b : Nat
  c : Nat
  imm : Nat
  deriving DecidableEq, Repr

/-- Take an instruction word apart (R239). -/
def iword (w : Word) : IWord :=
  let n := w.toNat
  { op := bits n 56 8, pe := bit n 55, pn := bit n 54, ps := bits n 52 2, d := bits n 47 5, a := bits n 42 5,
    b := bits n 37 5, c := bits n 32 5, imm := bits n 0 32 }

/-- Put an instruction word together (R239). -/
def IWord.encode (i : IWord) : Nat :=
  i.op * 2 ^ 56 + i.pe.toNat * 2 ^ 55 + i.pn.toNat * 2 ^ 54 + i.ps * 2 ^ 52 + i.d * 2 ^ 47 + i.a * 2 ^ 42 + i.b * 2 ^ 37 +
    i.c * 2 ^ 32 + i.imm

/-- sext(IMM) (R247). -/
def IWord.sext (i : IWord) : Word := (BitVec.ofNat 32 i.imm).signExtend 64

/-- zext(IMM) (R247). -/
def IWord.zext (i : IWord) : Word := BitVec.ofNat 64 i.imm

/-- IMM[hi:lo]. -/
def IWord.im (i : IWord) (lo width : Nat) : Nat := bits i.imm lo width

/-- Immediate bit. -/
def IWord.ib (i : IWord) (n : Nat) : Bool := bit i.imm n

/-- The first handle, IMM[11:8] (R241). -/
def IWord.h (i : IWord) : Nat := i.im 8 4

/-- The event counter, IMM[2:0]. -/
def IWord.ctr (i : IWord) : Nat := i.im 0 3

/-- The mode of SYND, STRIPE and SIGNAL, and the space of FETCH and STORE: IMM[5:3]. -/
def IWord.mode (i : IWord) : Nat := i.im 3 3

/-- What an instruction defines: the register fields D, A, B, C it uses, and its immediate bits (R241). -/
structure Shape where
  d : Bool
  a : Bool
  b : Bool
  c : Bool
  imm : Nat
  deriving DecidableEq, Repr

/-- Immediate bits [hi:lo] as a mask. -/
def immMask (lo width : Nat) : Nat := (2 ^ width - 1) * 2 ^ lo

/-- The shape of an instruction by its opcode and mode; none for a reserved opcode, mode or space (R241, R245, R247 to
R261; the immediate places of SKALLOC's NOWAIT and of its predicate, and what PIXLATE uses of gA, are log entry 14). -/
def IWord.shape (i : IWord) : Option Shape :=
  let full := immMask 0 32
  match i.op with
  | 0x01 | 0x03 | 0x04 | 0x06 | 0x08 | 0x0A | 0x0C | 0x0E | 0x10 | 0x11 | 0x12 | 0x13 | 0x14 | 0x15 =>
    some ⟨true, true, true, false, 0⟩
  | 0x02 | 0x05 | 0x07 | 0x09 | 0x16 => some ⟨true, true, false, false, full⟩
  | 0x0B | 0x0D | 0x0F => some ⟨true, true, false, false, immMask 0 6⟩
  | 0x17 | 0x18 => some ⟨true, true, false, false, immMask 0 6 + immMask 8 6⟩
  | 0x19 | 0x1A => some ⟨true, true, false, false, 0⟩
  | 0x1B => some ⟨true, true, false, false, immMask 8 5 + immMask 16 16⟩
  | 0x1C => some ⟨false, true, true, false, immMask 8 5 + immMask 16 16⟩
  | 0x20 => some ⟨true, true, true, true, 0⟩
  | 0x21 => some ⟨true, true, false, true, full⟩
  | 0x22 => some ⟨true, true, true, false, immMask 0 4⟩
  | 0x28 => some ⟨false, false, false, false, full⟩
  | 0x29 => some ⟨true, false, false, false, full⟩
  | 0x2A => some ⟨false, true, false, false, 0⟩
  | 0x30 => some ⟨false, true, false, false, immMask 8 4 + (if i.ib 12 then immMask 12 3 else immMask 12 1)⟩
  | 0x31 | 0x32 => some ⟨false, false, false, false, immMask 8 4⟩
  | 0x38 =>
    match i.mode with
    | 0 | 1 => some ⟨true, true, true, true, immMask 0 6 + immMask 8 6 + immMask 16 8⟩
    | 2 | 3 => some ⟨true, true, true, true, immMask 0 6 + immMask 8 6 + immMask 16 8⟩
    | 4 => some ⟨true, true, true, false, immMask 0 6 + immMask 8 6 + immMask 16 8⟩
    | 5 => some ⟨true, true, true, false, immMask 0 6 + immMask 8 7 + immMask 16 8⟩
    | _ => none
  | 0x39 =>
    match i.mode, i.im 6 2 with
    | 0, 0 | 1, 0 => some ⟨true, true, true, true, immMask 0 6 + immMask 8 6 + immMask 16 8⟩
    | 3, 0 => some ⟨true, true, true, true, immMask 0 8 + immMask 8 6 + immMask 16 8⟩
    | 3, 1 => some ⟨true, false, false, false, immMask 0 8 + immMask 8 6 + immMask 16 8⟩
    | 4, 0 => some ⟨true, true, true, false, immMask 0 6 + immMask 8 6 + immMask 16 8⟩
    | _, _ => none
  | 0x3A =>
    if i.ib 3 then some ⟨true, false, true, true, immMask 0 6 + immMask 8 4⟩
    else some ⟨true, true, true, true, immMask 0 6⟩
  | 0x40 =>
    if i.ib 3 then some ⟨true, false, true, false, immMask 0 4 + immMask 8 4 + immMask 16 4⟩
    else some ⟨true, true, true, false, 0⟩
  | 0x41 =>
    match i.mode with
    | 0 => some ⟨true, false, false, true, immMask 0 7 + immMask 8 4⟩
    | 1 => some ⟨true, false, true, true, immMask 0 6 + immMask 8 4⟩
    | 2 | 3 => some ⟨true, false, false, true, immMask 0 6⟩
    | _ => none
  | 0x42 => some ⟨true, true, true, false, immMask 0 3 + immMask 8 4⟩
  | 0x48 => some ⟨true, true, true, true, immMask 8 4⟩
  | 0x49 => some ⟨true, true, true, true, immMask 0 3 + immMask 8 5⟩
  | 0x4A =>
    match i.im 13 2 with
    | 0 => some ⟨true, false, false, true, immMask 8 4 + immMask 13 2⟩
    | 1 => some ⟨true, true, false, true, immMask 8 4 + immMask 13 2⟩
    | _ => none
  | 0x50 => if i.im 0 2 ≤ 1 then some ⟨true, true, true, false, immMask 0 2⟩ else none
  | 0x51 => some ⟨true, true, true, true, immMask 0 5⟩
  | 0x52 => some ⟨false, true, true, false, immMask 0 1⟩
  | 0x53 =>
    match i.mode with
    | 0 => some ⟨true, true, true, false, immMask 0 8⟩
    | 2 => some ⟨true, true, true, false, immMask 0 6⟩
    | 1 | 3 | 4 | 5 => some ⟨true, true, false, false, immMask 0 6⟩
    | _ => none
  | 0x58 => some ⟨true, true, false, false, immMask 0 9 + immMask 10 1⟩
  | 0x59 =>
    match i.mode with
    | 0 => some ⟨true, true, true, false, immMask 0 6⟩
    | 1 | 2 => some ⟨true, true, false, false, immMask 0 6 + immMask 8 4 + immMask 20 12⟩
    | 3 => some ⟨true, false, false, false, immMask 3 3 + immMask 12 2⟩
    | _ => none
  | 0x5A => if i.ib 3 then some ⟨true, false, false, false, immMask 3 1⟩ else some ⟨false, true, false, false, immMask 0 4⟩
  | 0x60 => some ⟨false, true, true, false, 0⟩
  | 0x61 => some ⟨true, false, false, false, immMask 0 2⟩
  | 0x68 => some ⟨false, false, false, false, immMask 0 8⟩
  | 0x69 | 0x6A => some ⟨false, false, false, false, 0⟩
  | _ => none

/-- No unused field or undefined immediate bit is set, and no reserved code is used (R241, R248). -/
def IWord.legal (i : IWord) : Bool :=
  match i.shape with
  | none => false
  | some x =>
    (x.d || i.d == 0) && (x.a || i.a == 0) && (x.b || i.b == 0) && (x.c || i.c == 0) && (i.imm &&& x.imm) == i.imm &&
      (if i.op = 0x20 ∨ i.op = 0x21 then decide (i.c ≤ 5) && decide (i.d < 4) else true) &&
      (if i.op = 0x22 then decide (i.d < 4) else true)

/-- The permission bits an instruction needs: H 1, L 2, D 4, M 8, X 16 (R266). -/
def IWord.perm (i : IWord) : Nat :=
  match i.op with
  | 0x38 => match i.mode with | 0 | 1 => 1 | 2 | 3 => 2 | 4 => 4 | _ => 8
  | 0x39 => match i.mode with | 0 | 1 => 1 | 3 => 2 | _ => 4
  | 0x3A => if i.ib 3 then 8 else 12
  | 0x50 => 2
  | 0x51 | 0x52 | 0x53 => 8
  | 0x59 => if i.mode = 1 ∨ i.mode = 2 then 16 else 0
  | _ => 0

/-- The asynchronous instructions (R262). -/
def IWord.async (i : IWord) : Bool :=
  match i.op with
  | 0x38 | 0x39 | 0x3A | 0x41 | 0x42 | 0x51 | 0x53 => true
  | 0x40 => i.ib 3
  | 0x59 => i.mode != 3
  | 0x5A => !i.ib 3
  | _ => false

/-- General registers an instruction reads or writes, for the scoreboard (R262): those of its used fields, the predicates of
PLOG and the condition fields apart; LOCATE and BATCH write further registers. -/
def IWord.regsUsed (i : IWord) : List Nat :=
  match i.shape with
  | none => []
  | some x =>
    if i.op = 0x22 then []
    else
      (if x.d && i.op != 0x20 && i.op != 0x21 then [i.d] else []) ++ (if x.a then [i.a] else []) ++
        (if x.b then [i.b] else []) ++ (if x.c && i.op != 0x20 && i.op != 0x21 then [i.c] else []) ++
        (if i.op = 0x50 ∧ i.im 0 2 = 1 then [i.d + 1] else []) ++
        (if i.op = 0x61 then (List.range 7).map (fun k => i.d + k) else [])

/-- Handles an instruction writes (R263), without those of a parity context. -/
def IWord.runsWritten (i : IWord) : List Nat :=
  match i.op with
  | 0x1C | 0x30 | 0x31 | 0x32 | 0x38 | 0x48 | 0x4A => [i.h]
  | 0x40 => if i.ib 3 then [i.h] else []
  | 0x42 => [i.h, i.h + 1, i.h + 2]
  | _ => []

/-- Handles an instruction reads (R263). -/
def IWord.runsRead (i : IWord) : List Nat :=
  match i.op with
  | 0x1B | 0x49 => [i.h]
  | 0x39 => if i.mode = 3 ∧ i.im 6 2 = 1 then [] else [i.h]
  | 0x3A => if i.ib 3 then [i.h] else []
  | 0x40 => if i.ib 3 then [i.im 16 4] else []
  | 0x41 => if i.mode = 1 then [i.h] else []
  | 0x59 => if i.mode = 1 ∨ i.mode = 2 then [i.h] else []
  | _ => []

end Sys2Proof.Machine
end

