-- ==== Sys2Proof/Machine/Threads.lean ====
section
/-! DEFINITION. Threads of the stitch engines (R236 to R246, R262 to R268): registers, runs of skeins, starting and ending,
faults, and the common part of issuing an instruction. A thread is named by its identity 128·cluster + t (R238). -/

namespace Sys2Proof.Machine

/-! ## Access -/

/-- A program that has not begun. -/
def bookReset : BookRun :=
  { stage := 0, pos := 0, n := 0, status := 0, stop := none, result := 0, parts := [], outs := [], bad := none, origin := none,
    words := [], ended := none, helper := none, again := none }

/-- A free thread. -/
def threadReset (_ : Nat) : Thread :=
  { running := false, pattern := 0, base := 0, length := 0, pc := 0, regs := [], preds := 0, handles := [], counters := [],
    mailbox := [], sticky := 0, budget := 0, ctx := none, staged := [], locks := [], asyncs := [], nextId := 0,
    wait := .none, waitSince := 0, calls := [], perm := 0, ring := 0, entries := [], starter := none, work := 0, hostStores := 0,
    covers := 0, book := bookReset, dropped := [], lapsed := false }

/-- Thread `th`. -/
def State.thr (s : State) (th : Nat) : Thread := Tbl.get threadReset s.threads th

/-- Replace thread `th`. -/
def State.setThr (s : State) (th : Nat) (t : Thread) : State :=
  { s with threads := Tbl.set threadReset s.threads th t }

/-- A thread's cluster (R237). -/
def thCluster (th : Nat) : Nat := th / 128

/-- A device-work thread: slots 12 to 15 of an engine (R237). -/
def thDevWork (th : Nat) : Bool := decide (12 ≤ th % 16)

/-- An unwritten register reads zero. -/
def wordZero (_ : Nat) : Word := 0
/-- A handle never allocated is empty. -/
def handleReset (_ : Nat) : List Nat := []
/-- A counter never counted. -/
def countReset (_ : Nat) : Nat := 0
/-- A skein never allocated is free. -/
def usedReset (_ : Nat) : Bool := false

/-- Register g`n`; g0 reads zero (R236). -/
def Thread.reg (t : Thread) (n : Nat) : Word := if n = 0 then 0 else Tbl.get wordZero t.regs n

/-- Write register g`n`; writes to g0 are discarded (R236). -/
def Thread.setReg (t : Thread) (n : Nat) (v : Word) : Thread :=
  if n = 0 then t else { t with regs := Tbl.set wordZero t.regs n v }

/-- The run a handle names: its skeins in order. -/
def Thread.run (t : Thread) (h : Nat) : List Nat := Tbl.get handleReset t.handles h

/-- Give a handle a run, or empty it. -/
def Thread.setRun (t : Thread) (h : Nat) (r : List Nat) : Thread := { t with handles := Tbl.set handleReset t.handles h r }

/-- Event counter `k` (R236). -/
def Thread.counter (t : Thread) (k : Nat) : Nat := Tbl.get countReset t.counters k

/-- Set an event counter. -/
def Thread.setCounter (t : Thread) (k v : Nat) : Thread := { t with counters := Tbl.set countReset t.counters k v }

/-- A program of the Pattern Book as firmware ships it: LENGTH 0 (log entry 26). It runs natively. -/
def Thread.native (t : Thread) : Bool := t.running && t.length == 0

/-- The number of the first skein that a native program of thread `th` uses: beyond the cluster's 1,024 (log entry 26). -/
def bookSkein (th : Nat) : Nat := 1048576 * (th + 1)

/-- Skeins a thread holds. -/
def Thread.held (t : Thread) : Nat := (t.handles.map (fun e => (e.2.filter (fun k => decide (k < 1024))).length)).sum

/-! ## Skeins (R243, R244) -/

/-- Skein `i` of cluster `c`. -/
def State.skein (s : State) (c i : Nat) : Info := Tbl.get infoReset s.skeins (c * 1024 + i)

/-- Replace skein `i` of cluster `c`. -/
def State.setSkein (s : State) (c i : Nat) (x : Info) : State :=
  { s with skeins := Tbl.set infoReset s.skeins (c * 1024 + i) x }

/-- The free skeins of a cluster, lowest first. Which of them a run takes is the model's choice (log entry 15). -/
def State.freeSkeins (s : State) (c : Nat) : List Nat :=
  (List.range 1024).filter (fun i => !Tbl.get usedReset s.skeinUsed (c * 1024 + i))

/-- Mark skeins of a cluster used or free. -/
def State.markSkeins (s : State) (c : Nat) (l : List Nat) (b : Bool) : State :=
  { s with skeinUsed := l.foldl (fun t i => Tbl.set usedReset t (c * 1024 + i) b) s.skeinUsed }

/-- Give thread `th` a run of `n` skeins under handle `h`. -/
def State.allocRun (s : State) (th h n : Nat) : State :=
  let c := thCluster th
  let l := (s.freeSkeins c).take n
  (s.markSkeins c l true).setThr th ((s.thr th).setRun h l)

/-- Free the run of a handle. -/
def State.freeRun (s : State) (th h : Nat) : State :=
  let t := s.thr th
  (s.markSkeins (thCluster th) (t.run h) false).setThr th (t.setRun h [])

/-- Free every run of a thread (R244, R268). -/
def State.freeRuns (s : State) (th : Nat) : State :=
  let t := s.thr th
  (s.markSkeins (thCluster th) ((t.handles.flatMap (fun e => e.2)).filter (fun k => decide (k < 1024))) false).setThr th { t with handles := [] }

/-- The information word at position `k` of a run. -/
def State.runInfo (s : State) (th h k : Nat) : Info :=
  s.skein (thCluster th) (((s.thr th).run h).getD k 0)

/-- Replace the information word at position `k` of a run. -/
def State.setRunInfo (s : State) (th h k : Nat) (x : Info) : State :=
  s.setSkein (thCluster th) (((s.thr th).run h).getD k 0) x

/-- The words of a run. -/
def State.runInfos (s : State) (th h : Nat) : List Info := ((s.thr th).run h).map (s.skein (thCluster th))

/-- Put information words into a run from position `k` on. -/
def State.putInfos (s : State) (th h k : Nat) (l : List Info) : State :=
  (List.zip (((s.thr th).run h).drop k) l).foldl (fun s e => s.setSkein (thCluster th) e.1 e.2) s

/-- Eight bytes of a run's data at a byte offset (R243). -/
def State.runWord (s : State) (th h off : Nat) : Word := (s.runInfo th h (off / 4096)).data.readWord (off % 4096)

/-- Eight bytes of a run's sidecars at a sidecar offset: slot, then metadata (R243). -/
def State.sideWord (s : State) (th h off : Nat) : Word :=
  let x := s.runInfo th h (off / 32)
  if off % 32 < 16 then BitVec.ofNat 64 (x.pi.toNat / 2 ^ (8 * (off % 32)))
  else BitVec.ofNat 64 (x.mta.toNat / 2 ^ (8 * (off % 32 - 16)))

/-- Write eight bytes of a run's data. -/
def State.setRunWord (s : State) (th h off : Nat) (w : Word) : State :=
  let x := s.runInfo th h (off / 4096)
  s.setRunInfo th h (off / 4096) { x with data := x.data.writeWord (off % 4096) w }

/-- Write eight bytes of a run's sidecars. -/
def State.setSideWord (s : State) (th h off : Nat) (w : Word) : State :=
  let x := s.runInfo th h (off / 32)
  s.setRunInfo th h (off / 32)
    (if off % 32 < 16 then { x with pi := BitVec.ofNat 128 (putBits x.pi.toNat (8 * (off % 32)) 64 w.toNat) }
     else { x with mta := BitVec.ofNat 128 (putBits x.mta.toNat (8 * (off % 32 - 16)) 64 w.toNat) })

/-! ## Asynchronous instructions (R262, R263) -/

/-- Add an outstanding asynchronous instruction and count it. -/
def Thread.addAsync (t : Thread) (counter : Nat) (dreg : Option Nat) (wait : AsyncWait) (outcome : Nat)
    (wr rd : List Nat) (now : Nat) : Thread :=
  { t.setCounter counter (t.counter counter + 1) with
    asyncs := t.asyncs ++ [{ id := t.nextId, counter, dreg, wait, outcome, wr, rd, since := now, xfer := none }]
    nextId := t.nextId + 1 }

/-- The asynchronous instruction of a thread with an id. -/
def Thread.async? (t : Thread) (id : Nat) : Option AsyncOp := t.asyncs.find? (fun x => x.id == id)

/-- Change one outstanding asynchronous instruction. -/
def Thread.mapAsync (t : Thread) (id : Nat) (f : AsyncOp → AsyncOp) : Thread :=
  { t with asyncs := t.asyncs.map (fun x => if x.id == id then f x else x) }

/-- What an asynchronous instruction waited for has come: its outcome is known. -/
def State.asyncDone (s : State) (th id outcome : Nat) : State :=
  s.setThr th ((s.thr th).mapAsync id (fun x => { x with wait := .done, outcome }))

/-- Retire an asynchronous instruction: counter, outcome register, sticky outcome (R262). -/
def Thread.retire (t : Thread) (x : AsyncOp) : Thread :=
  let t1 := { t with asyncs := t.asyncs.filter (fun y => y.id != x.id) }
  let t2 := t1.setCounter x.counter (t1.counter x.counter - 1)
  match x.dreg with
  | none =>
    if t2.native then
      { t2 with book := { t2.book with outs := t2.book.outs ++ [(x.id, x.outcome, (x.xfer.map (fun f => f.assisted)).getD 0)] } }
    else t2
  | some 0 => if t2.sticky = 0 then { t2 with sticky := x.outcome % 65536 } else t2
  | some d => t2.setReg d (BitVec.ofNat 64 x.outcome)

/-- Registers waiting for an outcome (R262). -/
def Thread.scoreboard (t : Thread) : List Nat := t.asyncs.filterMap (fun x => x.dreg.filter (fun d => d != 0))

/-- Handles being written, and handles busy at all (R263). The bound runs of a context are written while contributions are
outstanding. -/
def Thread.busyWritten (t : Thread) : List Nat := t.asyncs.flatMap (fun x => x.wr)
/-- Handles read or written by an outstanding asynchronous instruction. -/
def Thread.busy (t : Thread) : List Nat := t.asyncs.flatMap (fun x => x.wr ++ x.rd)

/-- The instruction stalls on a hazard (R262, R263): scoreboarded register, busy run, 64 outstanding, counter at 255. -/
def Thread.hazard (t : Thread) (i : IWord) : Bool :=
  i.regsUsed.any (fun r => r != 0 && t.scoreboard.contains r) ||
    i.runsWritten.any (fun h => t.busy.contains h) || i.runsRead.any (fun h => t.busyWritten.contains h) ||
    (i.async && (decide (64 ≤ t.asyncs.length) || t.counter i.ctr == 255))

/-- The image of a couching entry's pricking. -/
def State.entryImg (s : State) (e : Nat) : List Byte := s.bandImg (s.centry e).array (s.centry e).band

/-- The handles of a thread's parity context. -/
def Thread.bound (t : Thread) : List Nat := (t.ctx.map (fun c => c.handles)).getD []

/-- The handles that SYND BIND would bind (R254). -/
def State.bindRuns (s : State) (t : Thread) (i : IWord) : List Nat :=
  (List.range (pkP (s.entryImg (t.reg i.c).toNat))).map (fun k => i.h + k)

/-- Bound runs that an instruction writes: BIND without KEEP, ADD, and EMIT with SYN (R254, R263). -/
def State.boundWritten (s : State) (t : Thread) (i : IWord) : List Nat :=
  match i.op with
  | 0x41 => if i.mode = 0 ∧ !i.ib 6 then s.bindRuns t i else if i.mode = 1 then t.bound else []
  | 0x3A => if i.ib 4 then t.bound else []
  | _ => []

/-- Bound runs that an instruction reads: BIND with KEEP, and SOLVE (R254, R255, R263). -/
def State.boundRead (s : State) (t : Thread) (i : IWord) : List Nat :=
  match i.op with
  | 0x41 => if i.mode = 0 ∧ i.ib 6 then s.bindRuns t i else []
  | 0x42 => t.bound
  | _ => []

/-- The thread stalls before an instruction on a hazard of its own fields or of its bound runs (R262, R263). -/
def State.stalls (s : State) (th : Nat) (i : IWord) : Bool :=
  let t := s.thr th
  t.hazard i || (s.boundWritten t i).any (fun h => t.busy.contains h) ||
    (s.boundRead t i).any (fun h => t.busyWritten.contains h)

/-! ## Program memory and the Pattern Table (R271) -/

/-- The word of program memory of cluster `c` at `pc`. -/
def State.pword (s : State) (c pc : Nat) : Word := Tbl.get wordZero s.pmem (c * 65536 + pc % 65536)

/-- A Pattern Table entry's fields (R271). -/
def ptBase (e : Nat) : Nat := bits e 0 16
/-- LENGTH. -/
def ptLength (e : Nat) : Nat := bits e 16 16
/-- ENTRY. -/
def ptEntry (e : Nat) : Nat := bits e 32 16
/-- BUDGET. -/
def ptBudget (e : Nat) : Nat := bits e 48 12
/-- ORIGIN: host-loaded. -/
def ptHost (e : Nat) : Bool := bit e 60
/-- SWITCHING. -/
def ptSwitching (e : Nat) : Bool := bit e 61
/-- VALID. -/
def ptValid (e : Nat) : Bool := bit e 63

/-- The cluster copy of a Pattern Table entry: SE_PTAB (R271). -/
def State.ptab (s : State) (c i : Nat) : Nat := (s.reg (R.SE_PTAB c i)).toNat

/-- The master copy of a Pattern Table entry (R271). -/
def State.masterEntry (s : State) (i : Nat) : Nat := (Tbl.get wordZero s.master i).toNat

/-! ## Starting and ending threads -/

/-- A free thread of cluster `c` among its call or device-work slots, lowest first (R237; log entry 15). -/
def State.freeThread (s : State) (c : Nat) (dev : Bool) : Option Nat :=
  ((List.range 128).map (fun t => c * 128 + t)).find? (fun th => thDevWork th == dev && !(s.thr th).running)

/-- Start a thread on a pattern with its registers g1 to g9 (R238). -/
def State.startThread (s : State) (th pattern : Nat) (g : List Word) (g8 g9 : Word) (perm : Nat) : State :=
  let e := s.ptab (thCluster th) pattern
  let t0 : Thread := { threadReset 0 with
    running := true, pattern, base := ptBase e, length := ptLength e, pc := (ptBase e + ptEntry e) % 65536,
    budget := ptBudget e * 16384, perm }
  let t1 := ((List.range 7).foldl (fun t k => t.setReg (k + 1) (g.getD k 0)) t0).setReg 8 g8
  s.setThr th (t1.setReg 9 g9)

/-- A thread has gone: its retired program extent is freed once no thread runs it (R272, R273). -/
def State.reapExtents (s : State) : State :=
  { s with extents := s.extents.filter (fun x => !(x.retired &&
      !(s.threads.any (fun t => t.2.running && t.2.base == x.base && t.2.pattern == x.pattern)))) }

/-- Hand a started thread's status to the SIGNAL that started it, on this device or over the federation (R260). -/
def State.tellStarter (s : State) (th status : Nat) : State :=
  match (s.thr th).starter, (s.thr th).book.origin with
  | some (p, id), _ => (s.asyncDone p id status).setThr th { (s.asyncDone p id status).thr th with starter := none }
  | none, some (dev, id) =>
    let t := s.thr th
    (s.setThr th { t with book := { t.book with origin := none } }).send (.fed { dev, id, body := .startDone status })
  | none, none => s

/-- The device-work thread on which firmware did a call's work becomes free (R276). -/
def State.freeHelper (s : State) (th : Nat) : State :=
  match (s.thr th).book.helper with
  | some w => s.setThr w (threadReset w)
  | none => s

/-- The thread ends for good: runs freed, entries reaped, extent freed (R244, R268). -/
def State.finishThread (s : State) (th : Nat) : State :=
  let s0 := ((s.tellStarter th 0x0409).freeHelper th).freeRuns th
  let s1 := { s0 with
    hoop := { s0.hoop with bankWaits := s0.hoop.bankWaits.filter (fun w => w.th != th) }
    skeins := s0.skeins.filter (fun e => e.1 / 1048576 != th + 1) }
  ((s1.setThr th (threadReset th)).reapAll).reapExtents

/-- A call that ends while it still reads its image leaves the pricking engine (R68). -/
def State.leaveEngine (s : State) (th : Nat) : State :=
  if s.prk.run.any (fun r => r.th == some th && !r.ready) then
    ({ s with prk := { s.prk with run := none } }).setFlag F.PRK_STAT_BUSY false
  else s

/-- End a thread: staged blocks, locks and context go at once; its runs once its asynchronous instructions have completed
(R244, R268). -/
def State.endThread (s0 : State) (th : Nat) : State :=
  let s := s0.leaveEngine th
  let t := s.thr th
  let s1 := s.setThr th { t with staged := [], locks := [], ctx := none, calls := [], wait := .ending }
  if t.asyncs.isEmpty then s1.finishThread th else s1

/-- Abandon the entries a thread opened that are neither CLOSING nor FREE (R268 step 3). -/
def State.abandonOwned (s : State) (th : Nat) : State :=
  (s.thr th).entries.foldl (fun s e => if (s.centry e).state = 1 ∧ (s.centry e).owner = th then s.abandonEntry e false else s) s

/-- A record of the cluster fault log: 256 records written in turn (R268, R273). -/
def State.logFault (s : State) (th status trap pc : Nat) (w : Word) : State :=
  let c := thCluster th
  let t := s.thr th
  let n := s.f (F.SE_FLT_STAT_COUNT c)
  let call := t.calls.head?
  let r : FaultRec := {
    w0 := s.tbase
    w1 := BitVec.ofNat 64 (status + 2 ^ 16 * trap + 2 ^ 24 * (th % 128) + 2 ^ 31 * (thDevWork th).toNat +
      2 ^ 32 * t.pattern + 2 ^ 48 * pc)
    w2 := BitVec.ofNat 64 (if thDevWork th then 0 else ((call.map (fun x => x.ring)).getD 0) +
      2 ^ 10 * ((call.map (fun x => x.index % s.sqSize x.ring)).getD 0))
    w3 := w }
  let d : Nat → FaultRec := fun _ => { w0 := 0, w1 := 0, w2 := 0, w3 := 0 }
  let s1 := { s with faults := Tbl.set d s.faults (c * 256 + n % 256) r }
  let s2 := (s1.setF (F.SE_FLT_STAT_COUNT c) (n + 1)).setF (F.SE_FLT_STAT_NEWEST c) (n % 256)
  if 256 ≤ n then s2.setFlag (F.SE_FLT_STAT_WRAP c) true else s2

/-- The third fault of the same piece of device work raises a critical health event (R268, R449). -/
def State.countWorkFault (s : State) (th : Nat) : State :=
  if thDevWork th then
    let k := (s.thr th).work
    let n := Tbl.get countReset s.workFaults k + 1
    let s1 := { s with workFaults := Tbl.set countReset s.workFaults k n }
    if n = 3 then s1.healthEvent 0x08 true 3 (thCluster th) else s1
  else s

/-- Steps 2 to 6 of R268 for a thread that has faulted at `pc`: its entries are abandoned, the fault logged, each call it
holds is posted with the fault status; a result that must wait for room (R306) then belongs to no thread (number 1,024). -/
def State.settleFault (s : State) (th status trap pc : Nat) (w : Word) : State :=
  let calls := (s.thr th).calls
  let s1 := (s.abandonOwned th).logFault th status trap pc w
  let s2 := if thDevWork th then s1.countWorkFault th else (s1.postOrStall 1024 calls status 0).1
  s2.endThread th

/-- A thread faults (R268): it ends at the instruction at `pc`, once its outstanding asynchronous instructions have completed. -/
def State.threadFault (s : State) (th status trap pc : Nat) (w : Word) : State :=
  if (s.thr th).asyncs.isEmpty then s.settleFault th status trap pc w
  else s.setThr th { s.thr th with wait := .faulting status trap pc w }

/-! ## Issuing -/

/-- Threads may issue: every mode but Flush and Halted (R35), with power. -/
def State.threadsRun (s : State) : Bool := s.mode.cur != .flush && s.mode.cur != .halted && s.hw.powered

/-- Modes in which calls start and results are posted (R35). -/
def State.callsRun (s : State) : Bool :=
  match s.mode.cur with | .standby | .active | .maintenance | .witness => true | _ => false

/-- The instruction at a thread's PC. -/
def State.curWord (s : State) (th : Nat) : Word := s.pword (thCluster th) (s.thr th).pc

/-- The thread is ready to issue the instruction at its PC: running, not waiting, no hazard (R262, R263, R265). -/
def State.canIssue (s : State) (th : Nat) : Bool :=
  decide (th < 1024) && s.threadsRun && s.clusterAvail (thCluster th) && (s.thr th).running && !(s.thr th).native &&
    decide ((s.thr th).wait = .none) && !s.stalls th (iword (s.curWord th))

/-- The instruction at a thread's PC would execute: budget, legal, predicate and permission hold (R240, R241, R266, R267). -/
def State.executes (s : State) (th : Nat) : Bool :=
  let t := s.thr th
  let i := iword (s.curWord th)
  t.budget != 0 && i.legal && execPred i.pe i.pn i.ps t.preds && i.perm &&& t.perm == i.perm

/-- Issue the instruction at a thread's PC if it is the one the command names (`want`): budget (R267), reserved codes and
fields (R241), predicate (R240), permission (R266), in that order (log entry 16); then its own effect `body`, with the PC
already past it. Nothing happens while the thread cannot issue it. -/
def State.issue (s : State) (th : Nat) (want : IWord → Bool) (body : IWord → State → State) : State :=
  let t := s.thr th
  let w := s.curWord th
  let i := iword w
  if !(s.canIssue th && want i) then s
  else if t.budget = 0 then s.threadFault th 0x0403 0 t.pc w
  else if !i.legal then s.threadFault th 0x0401 0 t.pc w
  else
    let s1 := s.setThr th { t with budget := t.budget - 1, pc := (t.pc + 1) % 65536 }
    if !execPred i.pe i.pn i.ps t.preds then s1
    else if i.perm &&& t.perm != i.perm then s.threadFault th 0x0402 0 t.pc w
    else body i s1

/-- The instruction just issued ends its thread with a fault: PC and budget as at the instruction. -/
def State.faultAt (s : State) (th status : Nat) (trap : Nat := 0) : State :=
  let pc := ((s.thr th).pc + 65535) % 65536
  s.threadFault th status trap pc (s.pword (thCluster th) pc)

/-- Write a register of a thread. -/
def State.wr (s : State) (th n : Nat) (v : Word) : State := s.setThr th ((s.thr th).setReg n v)

/-- Start an asynchronous instruction of a thread on counter IMM[2:0] with its outcome register D. -/
def State.async (s : State) (th : Nat) (i : IWord) (wait : AsyncWait) (outcome : Nat) (wr rd : List Nat) : State :=
  s.setThr th ((s.thr th).addAsync i.ctr (some i.d) wait outcome wr rd s.tbase.toNat)

end Sys2Proof.Machine
end

