-- ==== Sys2Proof/Machine/Alu.lean ====
section
/-! DEFINITION. The arithmetic and logic instructions of Quinuip (R247). Each issues under the common rules of
State.issue and writes gD. -/

namespace Sys2Proof.Machine

/-- The position of the highest 1 among the lowest `n` bits, counted from 1; 0 for none. -/
def bitLength (v : Nat) : Nat → Nat
  | 0 => 0
  | n + 1 => if bit v n then n + 1 else bitLength v n

/-- An instruction of opcode `op` that writes `f` of its sources to gD (R247). -/
def State.alu (s : State) (th op : Nat) (f : Thread → IWord → Word) : State :=
  s.issue th (fun i => i.op == op) (fun i s => s.wr th i.d (f (s.thr th) i))

/-- ADD: gD = gA + gB modulo 2^64 (R247). -/
def execAdd (th : Nat) (s : State) : Host.Outcome State Fault Refusal := .next (s.alu th 0x01 (fun t i => t.reg i.a + t.reg i.b))

/-- ADDI: gD = gA + sext(IMM) (R247). -/
def execAddi (th : Nat) (s : State) : Host.Outcome State Fault Refusal := .next (s.alu th 0x02 (fun t i => t.reg i.a + i.sext))

/-- SUB: gD = gA − gB modulo 2^64 (R247). -/
def execSub (th : Nat) (s : State) : Host.Outcome State Fault Refusal := .next (s.alu th 0x03 (fun t i => t.reg i.a - t.reg i.b))

/-- AND: gD = gA & gB (R247). -/
def execAnd (th : Nat) (s : State) : Host.Outcome State Fault Refusal := .next (s.alu th 0x04 (fun t i => t.reg i.a &&& t.reg i.b))

/-- ANDI: gD = gA & zext(IMM) (R247). -/
def execAndi (th : Nat) (s : State) : Host.Outcome State Fault Refusal := .next (s.alu th 0x05 (fun t i => t.reg i.a &&& i.zext))

/-- OR: gD = gA | gB (R247). -/
def execOr (th : Nat) (s : State) : Host.Outcome State Fault Refusal := .next (s.alu th 0x06 (fun t i => t.reg i.a ||| t.reg i.b))

/-- ORI: gD = gA | zext(IMM) (R247). -/
def execOri (th : Nat) (s : State) : Host.Outcome State Fault Refusal := .next (s.alu th 0x07 (fun t i => t.reg i.a ||| i.zext))

/-- XOR: gD = gA ^ gB (R247). -/
def execXor (th : Nat) (s : State) : Host.Outcome State Fault Refusal := .next (s.alu th 0x08 (fun t i => t.reg i.a ^^^ t.reg i.b))

/-- XORI: gD = gA ^ zext(IMM) (R247). -/
def execXori (th : Nat) (s : State) : Host.Outcome State Fault Refusal := .next (s.alu th 0x09 (fun t i => t.reg i.a ^^^ i.zext))

/-- SHL: gD = gA << gB[5:0] (R247). -/
def execShl (th : Nat) (s : State) : Host.Outcome State Fault Refusal := .next (s.alu th 0x0A (fun t i => t.reg i.a <<< ((t.reg i.b).toNat % 64)))

/-- SHLI: gD = gA << IMM[5:0] (R247). -/
def execShli (th : Nat) (s : State) : Host.Outcome State Fault Refusal := .next (s.alu th 0x0B (fun t i => t.reg i.a <<< i.im 0 6))

/-- SHR: gD = gA >> gB[5:0], logical (R247). -/
def execShr (th : Nat) (s : State) : Host.Outcome State Fault Refusal := .next (s.alu th 0x0C (fun t i => t.reg i.a >>> ((t.reg i.b).toNat % 64)))

/-- SHRI: gD = gA >> IMM[5:0], logical (R247). -/
def execShri (th : Nat) (s : State) : Host.Outcome State Fault Refusal := .next (s.alu th 0x0D (fun t i => t.reg i.a >>> i.im 0 6))

/-- SAR: gD = gA >> gB[5:0], arithmetic (R247). -/
def execSar (th : Nat) (s : State) : Host.Outcome State Fault Refusal := .next (s.alu th 0x0E (fun t i => (t.reg i.a).sshiftRight ((t.reg i.b).toNat % 64)))

/-- SARI: gD = gA >> IMM[5:0], arithmetic (R247). -/
def execSari (th : Nat) (s : State) : Host.Outcome State Fault Refusal := .next (s.alu th 0x0F (fun t i => (t.reg i.a).sshiftRight (i.im 0 6)))

/-- MUL: gD = low 64 bits of gA·gB (R247). -/
def execMul (th : Nat) (s : State) : Host.Outcome State Fault Refusal := .next (s.alu th 0x10 (fun t i => t.reg i.a * t.reg i.b))

/-- MULHU: gD = high 64 bits of the unsigned product (R247). -/
def execMulhu (th : Nat) (s : State) : Host.Outcome State Fault Refusal := .next (s.alu th 0x11 (fun t i => BitVec.ofNat 64 ((t.reg i.a).toNat * (t.reg i.b).toNat / 2 ^ 64)))

/-- DIVU: gD = gA / gB; all ones when gB = 0 (R247). -/
def execDivu (th : Nat) (s : State) : Host.Outcome State Fault Refusal := .next (s.alu th 0x12 (fun t i => if t.reg i.b = 0 then BitVec.allOnes 64 else t.reg i.a / t.reg i.b))

/-- REMU: gD = gA % gB; gA when gB = 0 (R247). -/
def execRemu (th : Nat) (s : State) : Host.Outcome State Fault Refusal := .next (s.alu th 0x13 (fun t i => if t.reg i.b = 0 then t.reg i.a else t.reg i.a % t.reg i.b))

/-- MINU: gD = min(gA, gB), unsigned (R247). -/
def execMinu (th : Nat) (s : State) : Host.Outcome State Fault Refusal := .next (s.alu th 0x14 (fun t i => if (t.reg i.a).toNat ≤ (t.reg i.b).toNat then t.reg i.a else t.reg i.b))

/-- MAXU: gD = max(gA, gB), unsigned (R247). -/
def execMaxu (th : Nat) (s : State) : Host.Outcome State Fault Refusal := .next (s.alu th 0x15 (fun t i => if (t.reg i.a).toNat ≤ (t.reg i.b).toNat then t.reg i.b else t.reg i.a))

/-- MOVHI: gD = (IMM << 32) | gA[31:0] (R247). -/
def execMovhi (th : Nat) (s : State) : Host.Outcome State Fault Refusal := .next (s.alu th 0x16 (fun t i => BitVec.ofNat 64 (i.imm * 2 ^ 32 + (t.reg i.a).toNat % 2 ^ 32)))

/-- CLZ: gD = leading zero count of gA, 64 for zero (R247). -/
def execClz (th : Nat) (s : State) : Host.Outcome State Fault Refusal := .next (s.alu th 0x19 (fun t i => BitVec.ofNat 64 (64 - bitLength (t.reg i.a).toNat 64)))

/-- POPC: gD = number of set bits of gA (R247). -/
def execPopc (th : Nat) (s : State) : Host.Outcome State Fault Refusal := .next (s.alu th 0x1A (fun t i => BitVec.ofNat 64 (popcount (t.reg i.a).toNat 64)))

/-- BFX: gD = (gA >> IMM[5:0]) & mask(IMM[13:8] + 1); a field past bit 63 ends the thread with 0x0406 (R247). -/
def execBfx (th : Nat) (s : State) : Host.Outcome State Fault Refusal :=
  .next (s.issue th (fun i => i.op == 0x17) (fun i s =>
    if 64 < i.im 0 6 + i.im 8 6 + 1 then s.faultAt th 0x0406
    else s.wr th i.d (BitVec.ofNat 64 (bits ((s.thr th).reg i.a).toNat (i.im 0 6) (i.im 8 6 + 1)))))

/-- BFI: inserts gA into the field of gD; a field past bit 63 ends the thread with 0x0406 (R247). -/
def execBfi (th : Nat) (s : State) : Host.Outcome State Fault Refusal :=
  .next (s.issue th (fun i => i.op == 0x18) (fun i s =>
    if 64 < i.im 0 6 + i.im 8 6 + 1 then s.faultAt th 0x0406
    else s.wr th i.d (BitVec.ofNat 64
      (putBits ((s.thr th).reg i.d).toNat (i.im 0 6) (i.im 8 6 + 1) ((s.thr th).reg i.a).toNat))))

/-- NOP: no effect beyond its issue (R247, R267). -/
def execNop (th : Nat) (s : State) : Host.Outcome State Fault Refusal :=
  .next (s.issue th (fun i => i.op == 0x6A) (fun _ s => s))

/-- RESERVED_OPCODE: an instruction with a reserved opcode, mode, field or unused operand ends its thread with 0x0401
(R241, R268). -/
def execReservedOpcode (th : Nat) (s : State) : Host.Outcome State Fault Refusal :=
  .next (s.issue th (fun i => !i.legal) (fun _ s => s))

end Sys2Proof.Machine
end

