-- ==== Sys2Proof/Machine/DumpOps.lean ====
section
/-! DEFINITION. Where fatal dumps lie (R453, R454): the region of DRAM and the two slots of the vault. -/

namespace Sys2Proof.Machine

/-- Put a dump's bytes in use at an address of a memory. -/
def Mem.place (m : Mem) (base : Nat) (d : Dump) : Mem :=
  m.filter (fun e => decide (e.1 < base)) ++ (d.mem.filter (fun e => decide (e.1 < d.len))).map (fun e => (base + e.1, e.2)) ++
    m.filter (fun e => decide (base + d.len ≤ e.1))

/-- Vault address of dump slot `i` (R454). -/
def State.slotAddr (s : State) (i : Nat) : Nat := s.hw.variant.vault16 * 2 ^ 34 - 2 ^ 31 + (i % 2) * 0x11000000

/-- A dump slot of the vault. -/
def State.dumpSlot (s : State) (i : Nat) : Option Dump := if i % 2 = 0 then s.dump.slot0 else s.dump.slot1

/-- Replace a dump slot. -/
def State.setDumpSlot (s : State) (i : Nat) (d : Option Dump) : State :=
  { s with dump := if i % 2 = 0 then { s.dump with slot0 := d } else { s.dump with slot1 := d } }

/-- The vault's dumps, newest first. -/
def State.vaultDumps (s : State) : List Dump :=
  match s.dump.slot0, s.dump.slot1 with
  | some x, some y => if x.dseq < y.dseq then [y, x] else [x, y]
  | some x, none => [x]
  | none, some y => [y]
  | none, none => []

/-- HLTH_DMP_VADDR names the newest valid dump. -/
def State.syncVaddr (s : State) : State :=
  match s.vaultDumps with
  | d :: _ => (s.setF F.HLTH_DMP_VADDR_ADDR (s.slotAddr d.dseq)).setFlag F.HLTH_DMP_VADDR_VALID true
  | [] => (s.setF F.HLTH_DMP_VADDR_ADDR 0).setFlag F.HLTH_DMP_VADDR_VALID false

/-- A dump is written to slot DSEQ mod 2, its header last (R454). -/
def State.saveDump (s : State) (d : Dump) : State :=
  let s1 : State := { s with vault := s.vault.place (s.slotAddr d.dseq) d }
  (s1.setDumpSlot d.dseq (some d)).syncVaddr

/-- A copy to the vault that was cut short leaves a slot without a valid header (R454). -/
def State.cutDump (s : State) : State :=
  match s.dump.inDram with
  | some d =>
    if s.dump.imageEnded && decide (s.f F.HLTH_DMP_STAT_STATE = 2) then
      let gone : Dump := { dseq := d.dseq, partialDump := false, len := 4096, mem := [] }
      let s1 : State := { s with vault := s.vault.place (s.slotAddr d.dseq) gone }
      (s1.setDumpSlot d.dseq none).syncVaddr
    else s
  | none => s

/-- At step 0x04 of Boot a dump that DRAM still holds, newer than both in the vault, is written there before the region is cleared
(R454). -/
def State.moveDump (s : State) : State :=
  match s.dump.inDram with
  | some d =>
    let s1 := if s.vaultDumps.all (fun x => decide (x.dseq < d.dseq)) then s.saveDump d else s
    { s1 with dump := { s1.dump with inDram := none }
              dram := s1.dram.filter (fun e => decide (e.1 < s1.dumpBase) || decide (s1.bufBase ≤ e.1)) }
  | none => s

end Sys2Proof.Machine
end

