-- ==== Sys2Proof/Machine/SledOps.lean ====
section
/-! DEFINITION. The media side: where a column of a stripe lies (R51, R53, R202, R361), commands to sleds under tags, queue
depth and credits (R358 to R366), claims (R370, R371, R382), and the reading of codewords under R177 to R183. -/

namespace Sys2Proof.Machine

/-! ## Places on the media -/

/-- Sled, block and strip position of a column of a stripe (R51, R53); none for an excluded member. -/
def State.colHome (s : State) (a b st col : Nat) : Option (Nat × Nat × Nat) :=
  let img := s.bandImg a b
  let k := pkMemberIdx img st col
  let blk := (s.band a b).blocks.getD k noBlock
  if blk = noBlock then none else some (pkMember img k, blk, pkPosition img st (pkSlotOf img st col))

/-- The interim place of a parity column: the same member's block of the interim band, at the slot's position (R137). -/
def State.interimHome (s : State) (a b st col slot : Nat) : Option (Nat × Nat × Nat) :=
  let img := s.bandImg a b
  let k := pkMemberIdx img st col
  let blk := (s.band a (slot / 2048)).blocks.getD k noBlock
  if blk = noBlock then none else some (pkMember img k, blk, slot % 2048)

/-- Page and codeword within the page of codeword `cw` of a strip position (R175, R361). -/
def pageOf (cwp z pos cw : Nat) : Nat × Nat := ((pos * (z / 4096) + cw) / max 1 cwp, (pos * (z / 4096) + cw) % max 1 cwp)

/-- An OPEN or ABANDONED couching entry of a stripe with valid interim syndromes (R183). -/
def State.interimEntry (s : State) (a b st : Nat) : Option CEntry :=
  (s.hoop.entries.find? (fun e => e.2.array == a && e.2.band == b && e.2.stripe == st && e.2.ipv &&
    (e.2.state == 1 || e.2.state == 3))).map (fun e => e.2)

/-- The VALID grain whose units include a unit (R110, R117), by the cached lines and the DRAM map. -/
def State.grainAt (s : State) (a pga : Nat) : Option Nat :=
  let hit (w : Word) : Bool := meValid (w.toNat % 2 ^ 48) && decide (mePga w.toNat ≤ pga ∧ pga < mePga w.toNat + s.gblk a / 16)
  match s.mc.lines.findSome? (fun e => if e.2.valid && e.2.tag / 2 ^ 40 == a then
      (e.2.entries.findIdx? hit).map (fun i => e.2.tag % 2 ^ 40 * 8 + i) else none) with
  | some g => some g
  | none => (s.map.find? (fun e => e.1 / 2 ^ 40 == a && hit e.2)).map (fun e => e.1 % 2 ^ 40)

/-- The unit of a codeword: data index `i` of stripe `st`, codeword `cw` (R117). -/
def State.unitAt (s : State) (a b st i cw : Nat) : Nat :=
  let img := s.bandImg a b
  pgaMake b ((st * pkD img + i) * (pkZ img / 65536) + cw / 16)

/-! ## Ports, credits and commands -/

/-- A port whose link has not trained. -/
def portReset (_ : Nat) : Port :=
  { ctrlCr := 0, bulkCr := 0, ctrlQ := [], bulkQ := [], rxSeq := 255, txSeq := 255, ackSeq := 255, nak := false, replays := 0,
    replayAt := 0, waiting := [], downSince := none, up := false }

/-- Bobbin port `p`'s link. -/
def State.port (s : State) (p : Nat) : Port := Tbl.get portReset s.ports p

/-- Replace a port's link. -/
def State.setPort (s : State) (p : Nat) (x : Port) : State := { s with ports := Tbl.set portReset s.ports p x }

/-- Bytes of a command's body (R359, R361). -/
def SledKind.bodyLen : SledKind → Nat
  | .identify => 0 | .read .. => 10 | .program .. => 8 | .erase .. => 5 | .status => 0 | .power _ => 1 | .claim => 0
  | .setTime _ => 8 | .log _ _ r => 4 + r.length

/-- Slots of a packet with a body of `n` bytes (R358). -/
def slotsOf (n : Nat) : Nat := ceilDiv (16 + n + 4) 64

/-- The Bobbin outputs are idle: Flush, Halted, Dormant, Witness, which takes no sleds, and a unit in a switch-over gap or without its
lease (R35, R393, R394). -/
def State.bobbinIdle (s : State) : Bool :=
  decide (s.mode.cur = .flush) || decide (s.mode.cur = .halted) || decide (s.mode.cur = .dormant) || decide (s.mode.cur = .witness) || s.pair.gap || s.pair.leaseLost.isSome ||
    !s.hw.powered

/-- Frames that a packet takes: each begins a frame of its own, ten slots to a frame (R355; log entry 32). -/
def framesOf (slots : Nat) : Nat := ceilDiv slots 10

/-- The replay buffer has room for a packet's frames (R356). -/
def Port.room (x : Port) (slots : Nat) : Bool := decide ((x.txSeq + 256 - x.ackSeq) % 256 + framesOf slots ≤ 128)

/-- Send the packets that hold credit, oldest first in each class, CTRL before BULK (R360), while the replay buffer has room. -/
def State.pumpPort (s : State) (p : Nat) : Nat → State
  | 0 => s
  | n + 1 =>
    if s.bobbinIdle || !(s.port p).up then s
    else
      let x := s.port p
      let tx (k : Nat) : Nat := (x.txSeq + framesOf k) % 256
      let bulk : State :=
        match x.bulkQ with
        | b :: bs =>
          if b.slots ≤ x.bulkCr && x.room b.slots then
            ((s.setPort p { x with bulkQ := bs, bulkCr := x.bulkCr - b.slots, txSeq := tx b.slots }).send b.msg).pumpPort p n
          else s
        | [] => s
      match x.ctrlQ with
      | c :: cs =>
        if c.slots ≤ x.ctrlCr && x.room c.slots then
          ((s.setPort p { x with ctrlQ := cs, ctrlCr := x.ctrlCr - c.slots, txSeq := tx c.slots }).send c.msg).pumpPort p n
        else bulk
      | [] => bulk

/-- Pump with enough rounds for every packet waiting. -/
def State.pump (s : State) (p : Nat) : State := s.pumpPort p ((s.port p).ctrlQ.length + (s.port p).bulkQ.length)

/-- The key of a tag of a port: 512 tags each (R366). -/
def sledKey (p t : Nat) : Nat := p * 512 + t

/-- Commands outstanding or reserved to hop `h` of port `p`. -/
def State.hopOut (s : State) (p h : Nat) : Nat :=
  (s.sledCmds.filter (fun e => e.1 / 512 == p && e.2.hop == h && e.2.timedOut.isNone)).length

/-- Packets of a command: its own, and the DATA packets of a PROGRAM (R359). WRITE_CFG travels as BULK (log entry 17). -/
def SledCmd.packets (c : SledCmd) (p t : Nat) : List TxPkt × List TxPkt :=
  let m : TxPkt := { slots := slotsOf c.kind.bodyLen, msg := .sled p t c.hop c.kind c.array c.scope c.claim }
  match c.kind with
  | .program _ _ _ ws =>
    ([m], (List.range ws.length).map (fun i =>
      let w := ws.getD i (infoReset 0)
      { slots := 73, msg := .sledData p t c.hop i w w.parity }))
  | .log _ _ r => if r.isEmpty then ([m], []) else ([], [m])
  | _ => ([m], [])

/-- The commands that media or configuration take under a claim (R370). -/
def SledKind.needsClaim : SledKind → Bool
  | .read .. => true | .program .. => true | .erase .. => true | .log _ _ r => !r.isEmpty | _ => false

/-- A CLAIM to a hop has not been answered: media commands to it wait (R371, R394). -/
def State.claiming (s : State) (p h : Nat) : Bool :=
  s.sledCmds.any (fun e => e.1 / 512 == p && e.2.hop == h && e.2.timedOut.isNone && decide (e.2.kind = .claim))

/-- A filtered input at rest. -/
def inputReset : BayInput := { last := false, same := 0, level := false, changes := [], chatter := false }

/-- A hop never powered. -/
def hopReset (_ : Nat) : Hop :=
  { stage := .off, ident := none, record := [], initSince := none, lastPoll := 0, downSince := none, poweredAt := none,
    retried := false, offSince := none, fatal := false, failedHere := false, enrol := none, presence := inputReset, attention := inputReset,
    attnSince := none }

/-- Hop `h` of port `p`. -/
def State.hop (s : State) (p h : Nat) : Hop := Tbl.get hopReset s.bobbin.hops (p * 4 + h)

/-- Replace a hop. -/
def State.setHop (s : State) (p h : Nat) (x : Hop) : State :=
  { s with bobbin := { s.bobbin with hops := Tbl.set hopReset s.bobbin.hops (p * 4 + h) x } }

/-! ## Rates of a member (R210, R230, R283) -/

/-- What a READ or PROGRAM takes of a member's interval, in parts per million: its block data at the rate that IDENTIFY reports. -/
def State.shareCost (s : State) (n : Nat) (k : SledKind) : Nat :=
  match k with
  | .read _ _ _ _ ncw => ncw * 4096 * 100 / max 1 (s.sled n).rdMbps
  | .program _ _ _ ws => ws.length * 4096 * 100 / max 1 (s.sled n).wrMbps
  | _ => 0

/-- A command that counts in one of some shares waits for member `n`. -/
def State.shareWaits (s : State) (n : Nat) (p : Share → Bool) : Bool :=
  (s.port (s.sled n).port).waiting.any (fun c => c.sled == some n && c.heldSince.isNone && p c.share)

/-- Collection goes before reshape at member `n`: the array is urgent, or reshape's command was the last (R230). -/
def State.gcFirst (s : State) (n a : Nat) : Bool := s.flag (F.ARR_GC_URGENT a) || !(s.sled n).lastGc

/-- Below FLOOR of the rates in force: the command does not wait for others (R210, R230). -/
def State.underFloor (s : State) (n a : Nat) (sh : Share) : Bool :=
  match sh with
  | .rebuild => decide ((s.sled n).shareUsed < bits (s.arr a).rbRate 0 10 * 1000) && !s.flag (F.ARR_RB_CTL_PAUSE a)
  | .reshape => decide ((s.sled n).reshapeUsed < bits (s.arr a).rsRate 0 10 * 1000) && !bit (s.arr a).rsRate 32
  | _ => false

/-- The throttle level admits a command of cost `cost` at member `n` (R439): at levels 2 and 3 up to 500 per-mille of its rated bandwidth
in an interval, relocation and scrub at most their floors, urgent collection aside. -/
def State.throttleAdmits (s : State) (n a : Nat) (sh : Share) (cost : Nat) : Bool :=
  s.f F.TEMP_STAT_LEVEL < 2 || cost == 0 ||
    (((s.sled n).allUsed == 0 || decide ((s.sled n).allUsed + cost ≤ 500000)) && (match sh with
      | .other => true
      | .gc => s.flag (F.ARR_GC_URGENT a)
      | .scrub => false
      | y => s.underFloor n a y))

/-- A share admits a command of cost `cost` at member `n`: never above CEIL, below FLOOR at once, else only while no command of those
that go before it waits for the member; reshape takes what rebuild leaves (R210, R230, R283; log entry 75). -/
def State.shareAdmits (s : State) (n a : Nat) (sh : Share) (cost : Nat) : Bool :=
  let x := s.sled n
  s.throttleAdmits n a sh cost && match sh with
  | .other => true
  | .gc => s.gcFirst n a || !s.shareWaits n (fun y => y == .reshape)
  | .rebuild =>
    (x.shareUsed == 0 || decide (x.shareUsed + cost ≤ bits (s.arr a).rbRate 16 10 * 1000)) &&
      (s.underFloor n a .rebuild || !s.shareWaits n (fun y => y == .other || y == .gc || y == .reshape))
  | .reshape =>
    (x.reshapeUsed == 0 || decide (x.reshapeUsed + cost ≤ bits (s.arr a).rsRate 16 10 * 1000 ∧
        x.shareUsed + x.reshapeUsed + cost ≤ 1000000)) &&
      (s.underFloor n a .reshape || !s.shareWaits n (fun y => y == .other)) &&
      !(s.gcFirst n a && s.shareWaits n (fun y => y == .gc))
  | .scrub => !s.shareWaits n (fun y => y != .scrub)

/-- A command that leaves counts in its share (R210, R230). -/
def State.chargeShare (s : State) (n : Nat) (sh : Share) (cost : Nat) : State :=
  let x := { s.sled n with allUsed := (s.sled n).allUsed + cost }
  match sh with
  | .rebuild => s.setSled n { x with shareUsed := x.shareUsed + cost }
  | .reshape => s.setSled n { x with reshapeUsed := x.reshapeUsed + cost, lastGc := false }
  | .gc => s.setSled n { x with lastGc := true }
  | _ => if cost = 0 then s else s.setSled n x

/-- Keep a command until it may leave. -/
def State.keepCommand (s : State) (p : Nat) (c : SledCmd) : State :=
  s.setPort p { s.port p with waiting := (s.port p).waiting ++ [c] }

/-- A block of a member is being erased, or waits to be (R122): its PROGRAMs wait. -/
def State.blockErasing (s : State) (n : Nat) (k : SledKind) : Bool :=
  match k with
  | .program blk .. =>
    let of (c : SledCmd) : Bool := c.sled == some n && (match c.kind with | .erase x _ => x == blk | _ => false)
    s.sledCmds.any (fun e => e.2.timedOut.isNone && of e.2) || (s.port (s.sled n).port).waiting.any of
  | _ => false

/-- QDEPTH of the sled at a hop (R364, R366); the least that the table allows before its first IDENTIFY answer. -/
def State.hopDepth (s : State) (p h : Nat) : Nat := ((s.hop p h).ident.map (fun i => max 1 i.qdepth)).getD 64

/-- The Odard frees the slots of a packet received, and returns their credit (R360). -/
def State.returnCredit (s : State) (p ctrl bulk : Nat) : State := s.send (.credit p ctrl bulk)

/-- Send a command under a free tag, or keep it until a tag is free, the sled's queue depth allows, and its share admits it (R210,
R366); a command under a claim also until the unit holds it, outside a gap (R372, R394). -/
def State.issueSled (s : State) (p : Nat) (c : SledCmd) : State :=
  let cost := (c.sled.map (fun n => s.shareCost n c.kind)).getD 0
  let stays := (c.kind.needsClaim && s.paired && s.role != 1) || match c.sled with
    | some n => decide (max 1 (s.sled n).qdepth ≤ s.hopOut p c.hop) || (c.kind.needsClaim && s.claiming p c.hop) ||
        s.blockErasing n c.kind || !s.shareAdmits n c.array c.share cost
    | none => decide (s.hopDepth p c.hop ≤ s.hopOut p c.hop)
  match s.sledCmds.fresh (sledKey p 0) 512 with
  | some k =>
    if stays then s.keepCommand p c
    else
      let c := { c with issued := s.tbase, underLoss := c.underLoss || (s.hop p c.hop).downSince.isSome }
      let s1 := match c.sled with | some n => s.chargeShare n c.share cost | none => s
      let x := s1.port p
      let pk := c.packets p (k % 512)
      ({ s1 with sledCmds := s1.sledCmds.insert k c }.setPort p
        { x with ctrlQ := x.ctrlQ ++ pk.1, bulkQ := x.bulkQ ++ pk.2 }).pump p
  | none => s.keepCommand p c

/-- Send a command to a sled, with the current claim (R370, R382). -/
def State.sendSled (s : State) (n : Nat) (kind : SledKind) (array : Nat) (scope : Bool) (why : Purpose)
    (share : Share := .other) : State :=
  let x := s.sled n
  s.issueSled x.port { hop := x.hop, sled := some n, kind, array, scope, claim := s.pair.claim, issued := s.tbase,
                       timedOut := none, again := false, purpose := why, share, underLoss := false, heldSince := none }

/-- Send a command to a hop that may hold no enrolled sled. -/
def State.sendHop (s : State) (p h : Nat) (kind : SledKind) (why : Purpose) : State :=
  s.issueSled p { hop := h, sled := none, kind, array := 0, scope := true, claim := s.pair.claim, issued := s.tbase,
                  timedOut := none, again := false, purpose := why, share := .other, underLoss := false, heldSince := none }

/-- The order in which waiting commands are tried: below its floor and other work, collection and reshape as R230 has them, rebuild
between floor and ceiling, scrub. -/
def State.waitRank (s : State) (c : SledCmd) : Nat :=
  let n := c.sled.getD 0xFFFF
  match c.share with
  | .other => 0
  | .gc => 2
  | .reshape => if s.underFloor n c.array .reshape then 0 else if s.gcFirst n c.array then 3 else 1
  | .rebuild => if s.underFloor n c.array .rebuild then 0 else 4
  | .scrub => 5

/-- The first of the waiting commands in that order. -/
def State.firstWaiting (s : State) (l : List SledCmd) : Option SledCmd :=
  l.foldl (fun m c => match m with
    | none => some c
    | some x => if s.waitRank c < s.waitRank x then some c else some x) none

/-- Try each of a list of waiting commands of port `p` once. -/
def State.tryWaiting (s : State) (p : Nat) : Nat → List SledCmd → State
  | 0, _ => s
  | n + 1, l =>
    match s.firstWaiting l with
    | none => s
    | some c =>
      ((s.setPort p { s.port p with waiting := (s.port p).waiting.erase c }).issueSled p c).tryWaiting p n (l.erase c)

/-- Commands kept for want of a tag, of queue depth or of share are tried again once (R210, R366); one that waits out a NOT_READY
stays. -/
def State.retryWaiting (s : State) (p : Nat) : State :=
  let l := (s.port p).waiting.filter (fun c => c.heldSince.isNone)
  s.tryWaiting p l.length l

/-- A command ends: its tag is free. -/
def State.endSled (s : State) (p t : Nat) : State :=
  ({ s with sledCmds := s.sledCmds.erase (sledKey p t) }).retryWaiting p

/-! ## Counting codewords (R195) -/

/-- A sled's health counters before any count. -/
def sledHealthReset (_ : Nat) : SledHealth :=
  { corr := 0, parity := 0, uncorr := 0, timeouts := 0, temp := 0, bins := List.replicate 16 0, badInit := 0,
    spareLow := false, wearHigh := false }

/-- A sled's health counters. -/
def State.sledHealth (s : State) (n : Nat) : SledHealth := Tbl.get sledHealthReset s.health.sleds n

/-- Replace a sled's health counters. -/
def State.setSledHealth (s : State) (n : Nat) (x : SledHealth) : State :=
  { s with health := { s.health with sleds := Tbl.set sledHealthReset s.health.sleds n x } }

/-- Count one codeword accepted at a step of R177: nothing at step 0, correctable at 1 to 9, never logged, decoded with parity at 10 and
11, a corrected error of the sled that R443 logs (R195). -/
def State.countCodeword (s : State) (n step : Nat) : State :=
  let x := s.sledHealth n
  if step = 0 then s
  else if step ≤ 9 then s.setSledHealth n { x with corr := x.corr + 1 }
  else (s.setSledHealth n { x with parity := x.parity + 1 }).logCorrected 6 n 0

/-- Count one codeword as uncorrectable (R195): a deferred error of the sled (R441). -/
def State.countUncorrectable (s : State) (n : Nat) : State :=
  let x := s.sledHealth n
  (s.setSledHealth n { x with uncorr := x.uncorr + 1 }).logOpen clsDeferred 6 n 0

/-! ## Read jobs (R177 to R183) -/

/-- A read job of a key. -/
def State.job (s : State) (j : Nat) : Option ReadJob := s.readJobs.find j

/-- Replace a read job. -/
def State.setJob (s : State) (j : Nat) (x : ReadJob) : State := { s with readJobs := s.readJobs.insert j x }

/-- Where a key of a job stands. -/
def ReadJob.col (x : ReadJob) (c : Nat) : Option ColRead := (x.cols.find? (fun e => e.1 == c)).map (fun e => e.2)

/-- Set where a key stands. -/
def ReadJob.setCol (x : ReadJob) (c : Nat) (r : ColRead) : ReadJob :=
  { x with cols := x.cols.filter (fun e => e.1 != c) ++ [(c, r)] }

/-- Some key is still being read. -/
def ReadJob.busy (x : ReadJob) : Bool := x.cols.any (fun e => match e.2 with | .reading .. => true | _ => false)

/-- The keys whose codewords failed steps 0 to 9 and may still be recovered. -/
def ReadJob.failedKeys (x : ReadJob) : List Nat :=
  x.cols.filterMap (fun e => match e.2 with | .failed .. => some e.1 | _ => none)

/-- The word of a known key. -/
def ReadJob.word (x : ReadJob) (k : Nat) : Option Info := match x.col k with | some (.known _ i) => some i | _ => none

/-- A key was read or tried and gives no word. -/
def ReadJob.without (x : ReadJob) (k : Nat) : Bool :=
  match x.col k with
  | some (.known ..) => false | some (.reading ..) => false | none => false | _ => true

/-- A sled answers no READ now: failed, within 10 ms of a NOT_READY, without power in Dormant, or asked by a standby (R197, R201, R367, R372, R378). -/
def State.noRead (s : State) (n : Nat) : Bool :=
  decide (s.mode.cur = .dormant) || (s.paired && (s.role == 2 || s.role == 5)) || (s.sled n).failed || !(s.sled n).enrolled ||
    (match (s.sled n).notReady with
      | some t => decide ((s.tbase - t).toNat < 1000000)
      | none => false)

/-- The pricking that places a job's stripe. -/
def State.jobImg (s : State) (x : ReadJob) : List Byte := s.bandImg x.array x.band

/-- The couching entry whose interim syndromes stand in for the parity columns of a job's stripe (R183). -/
def State.jobInterim (s : State) (x : ReadJob) : Option CEntry := s.interimEntry x.array x.band x.stripe

/-- The key under which a solve reads a column: 64 above a parity column where interim syndromes stand in (R183). -/
def State.solveKey (s : State) (x : ReadJob) (c : Nat) : Nat :=
  match pkRole (s.jobImg x) c with
  | .data _ => c
  | _ => if (s.jobInterim x).isSome then c + 64 else c

/-- A data column lies beyond the blocks that the interim syndromes cover: a solve takes it as zero (R183). -/
def State.beyondCover (s : State) (x : ReadJob) (c : Nat) : Bool :=
  match s.jobInterim x, pkRole (s.jobImg x) c with
  | some e, .data i => decide (e.ipcover ≤ i * (pkZ (s.jobImg x) / 4096) + x.cw)
  | _, _ => false

/-- Where a key is read: the column's place, or the interim slot's on the same member (R137, R183). -/
def State.keyHome (s : State) (x : ReadJob) (k : Nat) : Option (Nat × Nat × Nat) :=
  if k < 64 then s.colHome x.array x.band x.stripe k
  else (s.jobInterim x).bind (fun e => s.interimHome x.array x.band x.stripe (k - 64) e.iploc)

/-- The sled that a key lies on; 0xFFFF none. -/
def State.keySled (s : State) (x : ReadJob) (k : Nat) : Nat := ((s.keyHome x k).map (fun h => h.1)).getD 0xFFFF

/-- The member's share that a job's READs count in (R210, R230, R283). -/
def ReadGoal.share : ReadGoal → Share
  | .gc _ => .gc | .rebuild _ => .rebuild | .reshape _ => .reshape | .scrub => .scrub | _ => .other

/-- The device's own read of a key. -/
def State.devRead (s : State) (k : Nat) : Option DevRead := s.devReads.find k

/-- The share of a job. -/
def State.jobShare (s : State) (x : ReadJob) : Share :=
  match x.owner with
  | .device k => ((s.devRead k).map (fun d => d.goal.share)).getD .other
  | _ => .other

/-- Send the READ of a key at a level of R177; an erasure where no READ can be sent (R181). -/
def State.readCol (s : State) (j : Nat) (x : ReadJob) (k level : Nat) : State × ReadJob :=
  match s.keyHome x k with
  | none => (s, x.setCol k .erased)
  | some (n, blk, pos) =>
    if s.noRead n then (s, x.setCol k .erased)
    else
      let pc := pageOf (s.sled n).cwp (pkZ (s.jobImg x)) pos x.cw
      (s.sendSled n (.read blk pc.1 pc.2 level 1) x.array false (.read j k) (s.jobShare x), x.setCol k (.reading level []))

/-- Read several keys at step 0. -/
def State.readCols (s : State) (j : Nat) (x : ReadJob) (keys : List Nat) : State × ReadJob :=
  keys.foldl (fun p k => p.1.readCol j p.2 k 0) (s, x)

/-! ### What a position holds, and acceptance (R178, R490) -/

/-- The index of a data block within its grain (R112, R174). -/
def State.blkIdx (s : State) (x : ReadJob) (i : Nat) : Nat := (i * (pkZ (s.jobImg x) / 4096) + x.cw) % max 1 (s.gblk x.array)

/-- What a job expects of the block at data index `i`: that of its FETCH, or the grain that the map has there. -/
def State.expects (s : State) (x : ReadJob) (c i : Nat) : Option (Nat × Nat) :=
  match x.owner with
  | .fetch _ _ _ (some e) => if x.want = [c] then some e else
      (s.grainAt x.array (s.unitAt x.array x.band x.stripe i x.cw)).map (fun g => (g, s.blkIdx x i))
  | _ => (s.grainAt x.array (s.unitAt x.array x.band x.stripe i x.cw)).map (fun g => (g, s.blkIdx x i))

/-- A codeword is accepted (R178): a parity column on its LDPC checks alone; a codeword of a map checkpoint band on its metadata,
its contents carrying their own checks (R174). -/
def State.accepts (s : State) (x : ReadJob) (k : Nat) (w : Info) : Bool :=
  let fmt := (s.arr x.array).pifmt
  match pkRole (s.jobImg x) (k % 64) with
  | .data i =>
    w.mtaOk && w.mArray == x.array &&
      (if (s.band x.array x.band).kind == .mapCkpt then w.mGrain == 0xFFFFFFFFFF
        else (w.guardOk fmt || w.marked fmt) &&
          (match s.expects x (k % 64) i with
            | some (g, b) => w.mGrain == g && w.mBlk == b
            | none => w.mFiller || w.mBlk == s.blkIdx x i))
  | _ => true

/-- Bits of a byte that are 1. -/
def onesOf (b : Byte) : Nat := ((List.range 8).filter (fun k => b.getLsbD k)).length

/-- At most 256 of a codeword's 37,120 raw bits read 0 (R490). -/
def erasedRaw (raw : Mem) : Bool :=
  decide (37120 - ((raw.filter (fun e => decide (e.1 < 4640))).map (fun e => onesOf e.2)).sum ≤ 256)

/-- A written codeword belongs at a key's position (R490): a parity column read for a solve, an interim slot of a parity column, a
mapped unit, a column whose couching entry has it acknowledged, and any column of a stripe behind its step 7 in a band that was
not closed early. -/
def State.holdsWord (s : State) (x : ReadJob) (k : Nat) : Bool :=
  let img := s.jobImg x
  let mapped := match pkRole img (k % 64) with
    | .data i => (s.grainAt x.array (s.unitAt x.array x.band x.stripe i x.cw)).isSome
    | _ => !x.want.contains k
  let owned := match x.owner with | .fetch _ _ _ (some _) => true | _ => false
  owned || mapped || decide (64 ≤ k) ||
    (match (s.hoop.entries.find? (fun e => e.2.state != 0 && e.2.array == x.array && e.2.band == x.band && e.2.stripe == x.stripe)) with
      | some e => bit e.2.acked k
      | none => decide (x.stripe < (s.band x.array x.band).next) && !(s.band x.array x.band).early)

/-! ### Assistance by parity (R179 to R183) -/

/-- The columns lost at a job's index, as a solve sees them (R54, R181 to R183). -/
def State.lostCols (s : State) (x : ReadJob) : List Nat :=
  (List.range (pkW (s.jobImg x))).filter (fun c => !s.beyondCover x c && x.without (s.solveKey x c))

/-- The words that a solve knows, by column. -/
def State.knownCols (s : State) (x : ReadJob) : List (Nat × Info) :=
  (List.range (pkW (s.jobImg x))).filterMap (fun c =>
    if s.beyondCover x c then some (c, infoReset 0) else (x.word (s.solveKey x c)).map (fun w => (c, w)))

/-- The keys needed to solve some columns (R56, R57); none where the columns lost are beyond tolerance (R182). -/
def State.neededKeys (s : State) (x : ReadJob) (targets : List Nat) : Option (List Nat) :=
  let img := s.jobImg x
  let lost := s.lostCols x
  if !pkWithin img lost then none
  else some ((targets.flatMap (fun c => (neededCols img lost c).getD [])).eraseDups.filterMap (fun c =>
    if s.beyondCover x c then none else some (s.solveKey x c)))

/-- The columns that a job can still be asked to solve: wanted or failed ones without a word. -/
def State.targets (s : State) (x : ReadJob) : List Nat :=
  (s.lostCols x).filter (fun c => match x.col (s.solveKey x c) with
    | some (.failed ..) => true
    | some .erased => x.want.contains c
    | _ => false)

/-- A wanted column that no solve can give: a final parity column or a data column beyond IPCOVER while interim syndromes stand in
(R183). -/
def State.unsolvable (s : State) (x : ReadJob) (c : Nat) : Bool :=
  s.beyondCover x c || decide (s.solveKey x c ≠ c)

/-- A key's codeword is recovered at a step, and counted (R195). -/
def State.recover (s : State) (x : ReadJob) (k step : Nat) (w : Info) : State × ReadJob :=
  (s.countCodeword (s.keySled x k) step, x.setCol k (.known step w))

/-- A key's codeword is unrecoverable, and counted (R177, R195). -/
def State.giveUp (s : State) (x : ReadJob) (k : Nat) (last : Info) : State × ReadJob :=
  (s.countUncorrectable (s.keySled x k), x.setCol k (.lost (some last)))

/-- The decoder's result: converged, and the information word. -/
def decodeOut (r : Bool × Mem) : Bool × Info := (r.1, Info.ofMem r.2)

/-- Columns are solved under R56; a failed codeword is then confirmed by a soft decode with the solved word as its prior (R179 steps 3
and 4), an erasure accepted on its data checks (R181). -/
def State.solveCols (s : State) (x : ReadJob) (step : Nat) (cols : List Nat) : State × ReadJob :=
  let img := s.jobImg x
  let lost := s.lostCols x
  let known := s.knownCols x
  cols.foldl (fun (p : State × ReadJob) c =>
    let w := solveCol img lost known c
    let k := s.solveKey x c
    match x.col k with
    | some (.failed planes _) =>
      let o := decodeOut (Config.confirmDecode planes w.toMem)
      if o.1 && s.accepts x k o.2 then p.1.recover p.2 k step o.2 else p.1.giveUp p.2 k o.2
    | some .erased => (p.1, p.2.setCol k (if s.accepts x k w then .known 12 w else .lost none))
    | _ => p) (s, x)

/-- The other columns of the XOR constraint of a column: P for Single and Double, L_j of its group for Net (R180). -/
def xorCols (img : List Byte) (c : Nat) : List Nat :=
  let of (j : Nat) : List Nat :=
    (((List.range (pkD img)).filter (fun i => pkGroup img i == j)).map (pkColOf img) ++ [pkACol img j]).filter (fun y => y != c)
  match pkRole img c with
  | .data i => of (pkGroup img i)
  | .parP => of 0
  | .parL j => of j
  | _ => []

/-- The keys of the constraint of a failed key (R180, R183). -/
def State.xorKeys (s : State) (x : ReadJob) (k : Nat) : List Nat :=
  if s.solveKey x (k % 64) ≠ k then []
  else (xorCols (s.jobImg x) (k % 64)).filterMap (fun c => if s.beyondCover x c then none else some (s.solveKey x c))

/-- What the parity unit takes from another column of a constraint: its word, or its planes and last output, or nothing (R180
step 1). -/
def ReadJob.evidence (x : ReadJob) (k : Nat) : Bool × List Mem :=
  match x.col k with
  | some (.known _ i) => (true, [i.toMem])
  | some (.failed planes last) => (false, planes ++ [last.toMem])
  | _ => (false, [])

/-- One iteration of the joint decode over the failed codewords (R180 steps 1 to 3). -/
def State.jointRound (s : State) (x : ReadJob) (iter : Nat) : State × ReadJob :=
  x.failedKeys.foldl (fun (p : State × ReadJob) k =>
    match x.col k with
    | some (.failed planes _) =>
      let o := decodeOut (Config.jointDecode planes ((s.xorKeys x k).map x.evidence) iter)
      if o.1 && s.accepts x k o.2 then p.1.recover p.2 k 11 o.2 else (p.1, p.2.setCol k (.failed planes o.2))
    | _ => p) (s, x)

/-- The keys of the other columns of a column's Net group (R56 step 1). -/
def State.groupKeys (s : State) (x : ReadJob) (c : Nat) : List Nat :=
  let img := s.jobImg x
  ((List.range (pkG img * pkM img)).filter (fun y => y != c && y / max 1 (pkM img) == c / max 1 (pkM img) &&
    !s.beyondCover x y)).map (s.solveKey x)

/-- Nothing more can be recovered: codewords still failed are unrecoverable (R180). Where the index is beyond tolerance, columns that
a group repairs by itself are still solved (R56 step 1, R214), and the others are lost. -/
def State.endAssist (s : State) (j : Nat) (x : ReadJob) : State × ReadJob :=
  let img := s.jobImg x
  let lost := s.lostCols x
  let own := if pkWithin img lost then [] else (peeled img lost).map (pkColOf img)
  let todo := ((own.flatMap (s.groupKeys x)).eraseDups).filter (fun k => (x.col k).isNone)
  if todo ≠ [] then s.readCols j x todo
  else
    let p := s.solveCols x 11 own
    let q := p.2.failedKeys.foldl (fun (r : State × ReadJob) k =>
      match p.2.col k with | some (.failed _ last) => r.1.giveUp r.2 k last | _ => r) p
    (q.1, { q.2 with beyond := if pkWithin img lost then [] else lost.filter (fun c => !own.contains c) })

/-- Go on with a joint decode of up to four iterations (R180): the columns of the constraints are read first, then a round is run,
and as soon as the codewords still failed are within tolerance they are solved and confirmed. -/
def State.runJoint (s : State) (j : Nat) (x : ReadJob) : Nat → State × ReadJob
  | 0 => s.endAssist j x
  | n + 1 =>
    let todo := ((x.failedKeys.flatMap (s.xorKeys x)).eraseDups).filter (fun k => (x.col k).isNone)
    if todo ≠ [] then s.readCols j x todo
    else
      let r := if x.iter = 0 then s.jointRound { x with iter := 1 } 1 else (s, x)
      let y := r.2
      match r.1.neededKeys y (r.1.targets y) with
      | some need =>
        let more := need.filter (fun k => (y.col k).isNone)
        if more ≠ [] then r.1.readCols j y more
        else
          let q := r.1.solveCols y 11 (r.1.targets y)
          q.1.endAssist j q.2
      | none =>
        if 4 ≤ y.iter then r.1.endAssist j y
        else
          let z := r.1.jointRound { y with iter := y.iter + 1 } (y.iter + 1)
          z.1.runJoint j z.2 n

/-- A job none of whose keys is being read goes on with parity's help, where there is need for it (R179 to R182): with at most one
failed codeword the erasures and it are solved; with several the joint decode runs. -/
def State.assistJob (s : State) (j : Nat) (x : ReadJob) : State × ReadJob :=
  let bad := x.want.filter (fun c => match x.col c with
    | some (.failed ..) => true
    | some .erased => true
    | _ => false)
  match bad.find? (s.unsolvable x) with
  | some c =>
    match x.col c with
    | some (.failed _ last) => s.giveUp x c last
    | _ => (s, x.setCol c (.lost none))
  | none =>
    if bad = [] then (s, x)
    else if x.joint then s.runJoint j x 5
    else if x.failedKeys.length ≤ 1 ∧ x.failedKeys.all (fun k => x.want.contains k) then
      match s.neededKeys x (s.targets x) with
      | none => s.endAssist j x
      | some need =>
        let todo := need.filter (fun k => (x.col k).isNone)
        if todo ≠ [] then s.readCols j x todo else s.solveCols x 10 (s.targets x)
    else s.runJoint j { x with joint := true } 5

/-- Merge one block's outcome into its transfer (R250): the highest step, unrecoverable codewords, status. -/
def Xfer.note (f : Xfer) (step : Nat) (bad : Bool) (status : Nat) : Xfer :=
  { f with left := f.left - 1, step := max f.step step
           assisted := if 10 ≤ step && !bad then f.assisted + 1 else f.assisted
           unrec := if bad then min 255 (f.unrec + 1) else f.unrec
           status := if status = 0 then f.status else if status = 0x0301 ∨ f.status = 0 then status else f.status }

/-- A transfer's outcome word (R250). -/
def Xfer.outcome (f : Xfer) : Nat := f.status % 65536 + 2 ^ 16 * (f.step % 256) + 2 ^ 24 * f.unrec

/-- Note a block of thread `th`'s FETCH `id`; the last one completes the instruction (R250, R262). -/
def State.noteXfer (s : State) (th id step : Nat) (bad : Bool) (status : Nat) : State :=
  match (s.thr th).async? id with
  | some o =>
    match o.xfer with
    | some f =>
      let f1 := f.note step bad status
      let s1 := s.setThr th ((s.thr th).mapAsync id (fun x => { x with xfer := some f1 }))
      if f1.left = 0 then s1.asyncDone th id f1.outcome else s1
    | none => s
  | none => s

/-- The unit that a FETCH job's block lies in. -/
def State.jobUnit (s : State) (x : ReadJob) (c : Nat) : Nat :=
  match pkRole (s.jobImg x) c with
  | .data i => s.unitAt x.array x.band x.stripe i x.cw
  | _ => pgaNone

/-- The block of an ARRAY read lies in a lost grain (R216, R217): by the VSEQ of the word read, or of the mapped version; a unit that
awaits its scan counts as one (R215). -/
def State.jobGrainLost (s : State) (x : ReadJob) (g c : Nat) (w : Option Info) : Bool :=
  s.grainLost x.array g ((w.map (fun i => i.mVseq)).getD (s.mappedVseq x.array g)) || s.unitScanned x.array (s.jobUnit x c)

/-- Contents of an information word that nothing has decoded: free bytes (log entry 2). -/
def State.freeInfo (s : State) : Info :=
  { data := (List.range 4096).foldl (fun d k => d.write k (Config.freeByte s.free k)) []
    pi := BitVec.ofNat 128 (leNat ((List.range 16).map (fun k => Config.freeByte s.free (4096 + k))))
    mta := BitVec.ofNat 128 (leNat ((List.range 16).map (fun k => Config.freeByte s.free (4112 + k)))) }

/-- A FETCH job ends: its block's word is put into the run, marked where it is unrecoverable (R191, R250 ASSIST), and its outcome
noted (R192, R250). -/
def State.endFetch (s : State) (j : Nat) (x : ReadJob) (th id place : Nat) (expect : Option (Nat × Nat)) : State :=
  let fmt := (s.arr x.array).pifmt
  let c := x.want.headD 0
  let s0 : State := { s with readJobs := s.readJobs.erase j }
  match ((s.thr th).async? id).bind (fun o => o.xfer) with
  | none => s0
  | some f =>
    let put (s : State) (w : Info) : State := s.setRunInfo th f.handle (f.first + place) w
    let lostGrain (w : Option Info) : Bool := expect.any (fun e => s0.jobGrainLost x e.1 c w)
    let fail (s : State) (w : Info) (step status : Nat) : State :=
      (put s (if x.assist then w.poison fmt else w)).noteXfer th id step true (if lostGrain none then 0x0301 else status)
    match x.col c with
    | some (.known step w) => (put s0 w).noteXfer th id step false
        (if lostGrain (some w) then 0x0301 else if w.marked fmt && expect.isSome then 0x0203 else 0)
    | some .blank => s0.noteXfer th id 12 false 0
    | some (.failed _ last) => fail s0 last 9 0x0203
    | some (.lost (some last)) => fail s0 last 11 0x0203
    | _ => fail s0.bumpFree s0.freeInfo 12 (if x.assist then 0x0203 else 0x0231)

/-- What a device read takes from a job for a column. -/
def ReadJob.result (x : ReadJob) (c : Nat) : WordRead :=
  match x.col c with
  | some (.known step w) => .good step w
  | some .blank => .blank
  | some (.failed _ last) => .bad (some last)
  | some (.lost last) => .bad last
  | _ => .bad none

/-- A job of a device read ends: its words, and the columns lost where the index is beyond tolerance, go to the read. -/
def State.endDevice (s : State) (j k : Nat) (x : ReadJob) : State :=
  let s0 : State := { s with readJobs := s.readJobs.erase j }
  match s0.devRead k with
  | none => s0
  | some d =>
    { s0 with devReads := s0.devReads.insert k { d with
        left := d.left.erase x.cw
        words := d.words ++ x.want.map (fun c => (c, x.cw, x.result c))
        lost := if x.beyond = [] then d.lost else d.lost ++ [(x.cw, x.beyond)] } }

/-- A stripe that a FETCH finds beyond tolerance has been logged, and the block's own grain or unit with it (R214). -/
def State.lossKnown (s : State) (x : ReadJob) (expect : Option (Nat × Nat)) : Bool :=
  s.stripeLogged x.array x.band x.stripe &&
    x.beyond.all (fun c => match pkRole (s.jobImg x) c with
      | .data i =>
        let u := s.unitAt x.array x.band x.stripe i x.cw
        s.unitScanned x.array u || !(x.want.contains c) || expect.all (fun e => s.jobGrainLost x e.1 c none)
      | _ => true)

/-- A job has done all it can. A FETCH job whose index is beyond tolerance waits until its stripe has been examined (R214). -/
def State.endJob (s : State) (j : Nat) (x : ReadJob) : State :=
  match x.owner with
  | .device k => s.endDevice j k x
  | .fetch th id place e =>
    if x.beyond ≠ [] ∧ !x.held ∧ !s.lossKnown x e then s.setJob j { x with held := true } else s.endFetch j x th id place e

/-- Failed codewords of a job that parity may not assist are unrecoverable (R177). -/
def State.unassisted (s : State) (x : ReadJob) : State :=
  x.failedKeys.foldl (fun (s : State) k => s.countUncorrectable (s.keySled x k)) s

/-- Go on with a job: while keys are being read it waits; else parity assists, or it ends. -/
def State.settleJob (s : State) (j : Nat) (x : ReadJob) : State :=
  if x.busy then s.setJob j x
  else if !x.assist then (s.unassisted x).endJob j x
  else
    let p := s.assistJob j x
    if p.2 = x then p.1.endJob j x else p.1.setJob j p.2

/-- A job settles as often as its keys can change without a READ being sent. -/
def State.runJob (s : State) (j : Nat) : Nat → State
  | 0 => s
  | n + 1 =>
    match s.job j with
    | none => s
    | some x => if x.busy || x.held then s else (s.settleJob j x).runJob j n

/-- Rounds enough for every key of a job. -/
def jobRounds : Nat := 140

/-- A job before its first READ. -/
def ReadJob.make (owner : JobOwner) (array band stripe cw : Nat) (want : List Nat) (assist : Bool) : ReadJob :=
  { owner, array, band, stripe, cw, want, assist, cols := [], joint := false, iter := 0, beyond := [], held := false }

/-- Start reading one codeword index (R177). -/
def State.startJob (s : State) (x : ReadJob) : State :=
  match s.readJobs.fresh 0 (s.readJobs.length + 1) with
  | some j =>
    let p := s.readCols j x x.want
    (p.1.setJob j p.2).runJob j jobRounds
  | none => s

/-- The read of a key ends without data: an erasure at the index, and its job goes on (R181, R198, R492). -/
def State.readErased (s : State) (j k : Nat) : State :=
  match s.job j with
  | some x => match x.col k with
    | some (.reading ..) => (s.setJob j (x.setCol k .erased)).runJob j jobRounds
    | _ => s
  | none => s

/-- A decode of a key at a level of R177: accepted, or the next step (R177, R178). -/
def State.decoded (s : State) (j : Nat) (x : ReadJob) (k level : Nat) (planes : List Mem) (o : Bool × Info) : State :=
  if o.1 && s.accepts x k o.2 then
    let r := s.recover x k level o.2
    (r.1.setJob j r.2).runJob j jobRounds
  else if level < 9 then
    let r := s.readCol j x k (level + 1)
    (r.1.setJob j r.2).runJob j jobRounds
  else (s.setJob j (x.setCol k (.failed planes o.2))).runJob j jobRounds

/-- Raw data of a key at a level of R177 (R365, R490): an erased codeword is recognised at step 0; a soft read is decoded when its
third plane has come. -/
def State.columnData (s : State) (j k level seg : Nat) (raw : Mem) : State :=
  match s.job j with
  | none => s
  | some x =>
    match x.col k with
    | some (.reading l planes) =>
      if l ≠ level then s
      else if level = 0 ∧ erasedRaw raw then
        if s.holdsWord x k then
          ((s.countUncorrectable (s.keySled x k)).setJob j (x.setCol k .erased)).runJob j jobRounds
        else (s.setJob j (x.setCol k .blank)).runJob j jobRounds
      else if level < 9 then s.decoded j x k level [] (decodeOut (Config.hardDecode raw))
      else
        let ps := planes.filter (fun e => e.1 != seg % 3) ++ [(seg % 3, raw)]
        match ps.find? (fun e => e.1 == 0), ps.find? (fun e => e.1 == 1), ps.find? (fun e => e.1 == 2) with
        | some a, some b, some c =>
          let m := [a.2, b.2, c.2]
          s.decoded j x k 9 m (decodeOut (Config.softDecode m))
        | _, _, _ => s.setJob j (x.setCol k (.reading 9 ps))
    | _ => s

end Sys2Proof.Machine
end

