-- ==== Sys2Proof/Machine/BandOps.lean ====
section
/-! DEFINITION. Couching records and their copies (R100 to R103), opening bands (R118 to R123, R139, R202), opening stripes
(R90 steps 2 and 3, R96), interim slots (R137), failed programs (R145) and erases (R144, R150). -/

namespace Sys2Proof.Machine

/-! ## Couching records -/

/-- The 64 bytes of a couching entry (R100). -/
def CEntry.bytes (x : CEntry) : List Byte :=
  let b := leBytes 1 x.state ++ leBytes 1 (x.array + 16 * x.ipv.toNat) ++ leBytes 1 x.source ++ leBytes 1 0 ++
    leBytes 4 x.generation ++ leBytes 4 x.band ++ leBytes 4 x.stripe ++ leBytes 8 x.issued ++ leBytes 8 x.acked ++
    leBytes 8 x.eseq ++ leBytes 4 x.iploc ++ leBytes 4 x.ipcover ++ leBytes 4 x.ipnext ++ leBytes 4 0 ++ leBytes 4 x.topen
  b ++ leBytes 4 (crc32c b)

/-- A couching record from its slots (R101). -/
def State.couchingRecord (s : State) (kind page rseq count : Nat) (slots : List Byte) : List Byte :=
  let h := leBytes 4 0x474F4C43 ++ leBytes 1 1 ++ leBytes 1 kind ++ leBytes 1 page ++ leBytes 1 s.hw.straps.devid ++
    leBytes 8 rseq ++ leBytes 8 s.tbase.toNat ++ leBytes 4 count ++ leBytes 28 0 ++ leBytes 4 0
  let body := padTo (1023 * 64) 0 slots
  h ++ leBytes 4 (crc32c (h ++ body)) ++ body

/-- The slots of table page `q` (R101). -/
def State.pageSlots (s : State) (q : Nat) : List Byte :=
  (List.range 1023).flatMap (fun i => (s.centry (1023 * q + i)).bytes)

/-- The band word of a KIND 2 record (R101). -/
def bandWord (a b : Nat) : List Byte := leBytes 8 (b % 2 ^ 32 + 2 ^ 32 * a + 2 ^ 36)

/-- Write one record to every copy sled (R103); the next RSEQ. -/
def State.writeRecord (s : State) (kind page count : Nat) (slots : List Byte) : State :=
  let q := s.hoop.repl.nextRseq + 1
  let bytes := s.couchingRecord kind page q count slots
  let s1 := { s with hoop := { s.hoop with repl := { s.hoop.repl with nextRseq := q } } }
  s1.copies.foldl (fun s n => s.send (.copyRecord n q (logInfos bytes))) s1

/-- A record is acknowledged by every copy sled. -/
def State.recordAcked (s : State) (q : Nat) : Bool := s.copies.all (fun n => decide (q ≤ s.ackedBy n))

/-- The bands open for writing, as a KIND 2 record lists them, with those about to open (R101, R103). -/
def State.openBandWords (s : State) : List Byte :=
  ((s.bands.filter (fun e => e.2.state == .open_)).map (fun e => e.1) ++ s.hoop.repl.openList.map (fun e => e.1)).eraseDups.flatMap
    (fun k => bandWord (k / 2 ^ 21) (k % 2 ^ 21))

/-- Name a band in a KIND 2 record before it opens (R103). -/
def State.nameBand (s : State) (a b : Nat) : State :=
  let k := bandKey a b
  if s.hoop.repl.openList.any (fun e => e.1 == k) then s
  else
    let r := { s.hoop.repl with openList := s.hoop.repl.openList ++ [(k, s.hoop.repl.nextRseq + 1)] }
    let s1 := { s with hoop := { s.hoop with repl := r } }
    s1.writeRecord 2 0 (ceilDiv s1.openBandWords.length 64) s1.openBandWords

/-- The band's open-band record is acknowledged by every copy sled (R103). -/
def State.bandNamed (s : State) (a b : Nat) : Bool :=
  s.hoop.repl.openList.any (fun e => e.1 == bandKey a b && s.recordAcked e.2)

/-! ## Opening bands -/

/-- The free, erased block of a sled with the fewest cycles, the lowest number among equals (R122). -/
def State.pickBlock (s : State) (n : Nat) : Option Nat :=
  ((List.range (s.sled n).blocks).filter (fun b => (s.eword n b).state == 0)).foldl
    (fun m b => match m with
      | none => some b
      | some x => if (s.eword n b).erases < (s.eword n x).erases then some b else some x) none

/-- Take a block of a member into a band; it is erased again first where its mode differs (R121, R122). -/
def State.takeBlock (s : State) (a b n blk : Nat) (slc : Bool) : State :=
  let e := s.eword n blk
  if e.pslc = slc then s.setEword n blk { e with state := 1 }
  else (s.setEword n blk { e with state := 1 }).sendSled n (.erase blk slc) a false (.erase a b blk false)

/-- An ARM has committed here and its standby has not yet confirmed it (R69, R72). -/
def State.armPending (s : State) (a : Nat) : Bool :=
  s.prk.run.any (fun r => r.op == .arm && pkArray r.image == a && r.done.any (fun d => d.1 == 0 && !s.durableAt d.2))

/-- Conditions under which a band of a kind may open (R69, R107, R139, R204, R220, R433): from the relocation reserve only relocation
bands open. -/
def State.mayOpen (s : State) (a : Nat) (kind : BandKind) : Bool :=
  (s.armed a).isSome && !s.armPending a && !s.narrow a && !s.hoop.resync.isSome && decide (0 < s.copies.length) && !s.copyJoining &&
    (match kind with
      | .reloc => decide (0 < s.openableNow a)
      | _ => decide (s.clusters.length < s.openableNow a))

/-- Open a band under the ARMED pricking (R119, R120, R122, R202). -/
def State.openBand (s : State) (a b : Nat) (kind : BandKind) : State :=
  match s.armed a with
  | none => s
  | some img =>
    let r := (List.range (pkN img)).foldl (fun (p : State × List Nat) k =>
      let n := pkMember img k
      if (p.1.sled n).failed then (p.1, p.2 ++ [noBlock])
      else match p.1.pickBlock n with
        | some blk => (p.1.takeBlock a b n blk kind.slc, p.2 ++ [blk])
        | none => (p.1, p.2 ++ [noBlock])) (s, [])
    let x : Band := { bandReset 0 with state := .open_, kind, generation := pkGen img, blocks := r.2 }
    let s1 := r.1
    let s2 := { s1 with hoop := { s1.hoop with repl := { s1.hoop.repl with
      openList := s1.hoop.repl.openList.filter (fun e => e.1 != bandKey a b) } } }
    (s2.setBandLogged a b x).syncArray a

/-- The lowest free band number of an array among those that a cluster owns (R8, R20, R21, R118; log entry 20). -/
def State.freeBand (s : State) (a cluster : Nat) : Option Nat :=
  (List.range (s.f (F.ARR_BAND_LIMIT a))).find? (fun b => (s.band a b).state == .free && s.ownsBand a b &&
    s.bandCluster a b == cluster)

/-- Positions of an interim band: below 2,048 and k' (R137). -/
def State.interimLimit (s : State) (a : Nat) : Nat :=
  match s.armed a with
  | some img => min 2048 (pkK img / max 1 (s.sled (pkMember img 0)).bpc)
  | none => 0

/-! ## Opening stripes (R90 steps 2 and 3) -/

/-- Kind of the band a stripe opens in, by its SOURCE and the stripe writer due (R100, R119). -/
def State.stripeKind (s : State) (a cluster source : Nat) : BandKind :=
  if source = 0 then
    match s.hoop.jobs.find? (fun j => j.array == a && j.cluster == cluster && j.entry.isNone) with
    | some j => if j.fastGround then .fastGround else .host
    | none => .host
  else .reloc

/-- An urgent array lets a host data stripe open only after a relocation stripe of the cluster has closed (R139). -/
def State.urgentWait (s : State) (a cluster source : Nat) : Bool :=
  source == 0 && s.flag (F.ARR_GC_URGENT a) && Tbl.get markReset s.hoop.repl.relocClosed (a * 8 + cluster) == 0

/-- A vault image restored and not yet consumed: no step of R90 is taken (R433). -/
def State.imageHeld (s : State) : Bool := s.power.waiting.isSome

/-- A stripe of a kind may not open at a place on cluster `c` (R20, R118, R120): the band is not the cluster's, is not being written,
or is not the next to open, or the stripe does not follow the last. -/
def State.misplaced (s : State) (c : Nat) (kind : BandKind) (a b st : Nat) : Bool :=
  let x := s.band a b
  !s.ownsBand a b || s.bandCluster a b != c ||
    (match x.state with
      | .open_ => x.kind != kind || decide (st ≠ x.next) || !s.takesStripe a b
      | .free => decide (st ≠ 0) || s.freeBand a c != some b || (s.openOf a c kind).any (fun y => s.takesStripe a y)
      | _ => true)

/-- The full band of a kind that a cluster still has open is closed before the next one opens (R119, R120). -/
def State.closeFull (s : State) (a c : Nat) (kind : BandKind) : State :=
  match s.openOf a c kind with
  | some y => s.closeBand a y (decide ((s.band a y).next < s.bandStripes a y)) false
  | none => s

/-- Open a stripe of cluster `c` at a place: band named and opened where needed, region marked, entry opened; the second
component is the entry, or none while something it needs is missing (R90 steps 2 and 3, R96, R107, R139). -/
def State.openStripeAt (s : State) (c owner : Nat) (kind : BandKind) (a b st source : Nat) : State × Option Nat :=
  match s.freeCentry with
  | none => (s, none)
  | some e =>
    if s.urgentWait a c source || s.imageHeld || s.copyJoining || s.hoop.resync.isSome || s.misplaced c kind a b st then (s, none)
    else
      let ready := match (s.band a b).state with
        | .open_ => some s
        | .free =>
          if !s.mayOpen a kind then none
          else if s.bandNamed a b then some ((s.closeFull a c kind).openBand a b kind)
          else none
        | _ => none
      match ready with
      | none =>
        let canName := (s.band a b).state == BandState.free && s.mayOpen a kind
        (if canName then s.nameBand a b else s, none)
      | some s1 =>
        let s2 := s1.setRegion (s1.regionOf a b) true
        let x : CEntry := { centryReset 0 with
          state := 1, array := a, source, generation := (s2.band a b).generation, band := b, stripe := st
          eseq := s2.hoop.eseq + 1, topen := bits s2.tbase.toNat 10 32, owner }
        let grains := match s2.hoop.jobs.find? (fun j => j.array == a && j.cluster == c && j.entry.isNone) with
          | some j => if source = 0 then j.grains else []
          | none => []
        let same (x : List (Nat × Nat)) : Bool := source == 0 && !grains.isEmpty && x.take grains.length == grains
        let all := ((s2.hoop.jobs.filter (fun j => j.array == a && j.cluster == c && same j.grains)).flatMap
            (fun j => j.grains)) ++
          (s2.hoop.gathers.filter (fun g => g.1 / 16 == a && g.1 / 2 % 8 == c && same g.2.grains)).flatMap (fun g => g.2.grains)
        let rc := if source == 0 && s2.flag (F.ARR_GC_URGENT a) then
            Tbl.set markReset s2.hoop.repl.relocClosed (a * 8 + c) 0 else s2.hoop.repl.relocClosed
        let h := { s2.hoop with
                   eseq := s2.hoop.eseq + 1
                   versions := s2.hoop.versions.map (fun v =>
                     if v.array == a && all.contains (v.grain, v.seq) then { v with entry := some e } else v)
                   jobs := s2.hoop.jobs.map (fun j =>
                     if j.array == a && j.cluster == c && j.entry.isNone && same j.grains then { j with entry := some e } else j)
                   gathers := s2.hoop.gathers.map (fun g =>
                     if g.1 / 16 == a && g.1 / 2 % 8 == c && same g.2.grains then (g.1, { g.2 with entry := some e }) else g)
                   repl := { s2.hoop.repl with relocClosed := rc } }
        let s2b := (all.map (fun g => g.2)).foldl (fun (s : State) q => s.mirrorVersion q) { s2 with hoop := h }
        let s3 := (s2b.setBand a b { s2.band a b with next := max (s2.band a b).next (st + 1) }).setCentry
          e x
        (s3, some e)

/-- STRIPE OPEN of a thread (R258): it names the entry it opened. -/
def State.openStripe (s : State) (th a b st source : Nat) : State × Option Nat :=
  match s.openStripeAt (thCluster th) th (s.stripeKind a (thCluster th) source) a b st source with
  | (s1, some e) => (s1.setThr th { s1.thr th with entries := (s1.thr th).entries ++ [e] }, some e)
  | r => r

/-- Allocate an interim slot in the interim band of the cluster, under the pricking of the stripe that needs it (R98, R137); the band is
named and opened first where none is open. -/
def State.interimSlot (s : State) (a cluster gen : Nat) : State × Option Nat :=
  match s.openOf a cluster .interim with
  | some b =>
    let x := s.band a b
    if x.next < s.interimLimit a && x.generation == gen then
      (s.setBand a b { x with next := x.next + 1 }, some (b * 2048 + x.next))
    else (s.closeBand a b (decide (x.next < s.interimLimit a)) false, none)
  | none =>
    match s.freeBand a cluster with
    | none => (s, none)
    | some b =>
      if !s.mayOpen a .interim || gen != s.armedGen a then (s, none)
      else if s.bandNamed a b then
        let s1 := s.openBand a b .interim
        (s1.setBand a b { s1.band a b with next := 1 }, some (b * 2048))
      else (s.nameBand a b, none)

/-! ## Room for writes (R143) -/

/-- Kinds of band whose grains are relocated. -/
def BandKind.moves : BandKind → Bool
  | .host => true | .reloc => true | .fastGround => true | _ => false

/-- Band `b` is a candidate of R140: CLOSED, KIND 0 to 2, read by no rebuild or reshape, named by no couching entry. -/
def State.candidate (s : State) (a b : Nat) : Bool :=
  let x := s.band a b
  x.state == .closed && x.kind.moves && !x.reading &&
    !s.hoop.entries.any (fun e => e.2.state != 0 && e.2.array == a && e.2.band == b)

/-- The bands of array `a` listed in State. -/
def State.bandsOf (s : State) (a : Nat) : List Nat := (s.bands.filter (fun e => e.1 / 2 ^ 21 == a)).map (fun e => e.1 % 2 ^ 21)

/-- Grains that a band holds. -/
def State.bandRoom (s : State) (a b : Nat) : Nat :=
  let img := s.prickingOf a (s.band a b).generation
  s.bandStripes a b * (pkD img * pkZ img / (s.gblk a * 4096))

/-- Some candidate holds fewer valid grains than it has room for (R143). -/
def State.gainful (s : State) (a : Nat) : Bool :=
  (s.bandsOf a).any (fun b => s.candidate a b && decide ((s.band a b).valid < s.bandRoom a b))

/-- ARR_GC.NOSPACE: set where no candidate frees anything and only the relocation reserve is left, cleared once one does (R143). -/
def State.syncSpace (s : State) (a : Nat) : State :=
  let full := !s.gainful a && decide (s.openableNow a ≤ s.clusters.length)
  let was := s.flag (F.ARR_GC_NOSPACE a)
  if full && !was && s.arrExists a && (s.armed a).isSome then
    ((s.setFlag (F.ARR_GC_NOSPACE a) true).healthEvent 0x05 false 10 a).syncMembers a
  else if was && s.gainful a then (s.setFlag (F.ARR_GC_NOSPACE a) false).syncMembers a
  else s

/-- The band is full: its next stripe lies beyond it (R119). -/
def State.closeIfFull (s : State) (a b : Nat) : State :=
  if (s.band a b).state == .open_ && decide (s.bandStripes a b ≤ (s.band a b).next) then s.closeBand a b false false else s

/-- Step 7: free a closed entry; a relocation stripe's close lets an urgent host stripe open (R90, R139). -/
def State.closeStripe (s : State) (e : Nat) : State :=
  let x := s.centry e
  let c := s.bandCluster x.array x.band
  let s1 := s.freeEntryOf e
  let s2 := if x.source ≠ 0 then
      { s1 with hoop := { s1.hoop with repl := { s1.hoop.repl with
        relocClosed := Tbl.set markReset s1.hoop.repl.relocClosed (x.array * 8 + c) 1 } } }
    else s1
  (s2.closeIfFull x.array x.band).syncSpace x.array

/-! ## Failed programs and erases -/

/-- OPEN entries of a band with a strip on member index `k` are abandoned: no map entry receives a PGA on a block that failed a program
(R145). -/
def State.abandonMember (s : State) (a b k : Nat) : State :=
  let img := s.bandImg a b
  (s.hoop.entries.filter (fun e => e.2.state == 1 && e.2.array == a && e.2.band == b &&
    (List.range (pkW img)).any (fun c => pkMemberIdx img e.2.stripe c == k))).foldl (fun (s : State) e => s.abandonEntry e.1 true) s

/-- Mark the block of member index `k` of a band as one that failed a program (R145). -/
def State.markFailed (s : State) (a b k : Nat) : State :=
  s.setBand a b { s.band a b with pfailed := ((s.band a b).pfailed ++ [k]).eraseDups }

/-- A PROGRAM of a column failed, on its member's block where `onBlock` (R145): the stripe is abandoned and its band closed EARLY, with
PFAIL where the block is the band's. A failed interim PROGRAM closes the interim band and marks its block there (R137). -/
def State.programFailed (s : State) (e col : Nat) (interim onBlock : Bool) : State :=
  let x := s.centry e
  let k := pkMemberIdx (s.bandImg x.array x.band) x.stripe col
  let own := onBlock && !interim
  let s1 := if interim && x.ipnext != 0xFFFFFFFF then
      let ib := x.ipnext / 2048
      (if onBlock then s.markFailed x.array ib k else s).closeBand x.array ib true onBlock
    else s
  let s2 := if own then s1.markFailed x.array x.band k else s1
  let s3 := (s2.abandonEntry e own).closeBand x.array x.band true own
  if own then s3.abandonMember x.array x.band k else s3

/-- Retire a block (R144, R145): STATE 3 after an erase failure, 4 after a program failure. -/
def State.retireBlock (s : State) (a n blk st : Nat) : State :=
  let s1 := s.setEword n blk { s.eword n blk with state := st }
  if st = 3 then s1.incF (F.ARR_RETIRE_ERASE_FAIL a) else s1.incF (F.ARR_RETIRE_PROG_FAIL a)

/-- A band's blocks still to be erased: those of healthy members, named, not retired, that have not failed a program (R144, R150). -/
def State.eraseList (s : State) (a b : Nat) : List (Nat × Nat) :=
  let x := s.band a b
  let img := s.prickingOf a x.generation
  (List.range x.blocks.length).filterMap (fun k =>
    let blk := x.blocks.getD k noBlock
    if blk = noBlock ∨ (s.sled (pkMember img k)).failed ∨ x.pfailed.contains k ∨ 3 ≤ (s.eword (pkMember img k) blk).state ∨
        x.erased.contains k then none
    else some (pkMember img k, blk))

/-- A copy out of band `b` of array `a` is gathered or being written. -/
def State.copyPending (s : State) (a b : Nat) : Bool :=
  s.hoop.copyGather.any (fun e => e.1 / 32 == a && e.2.any (fun x => pgaBand x.src == b)) ||
    s.hoop.works.any (fun w => w.array == a && (s.centry w.entry).source != 0 && w.grains.any (fun g => pgaBand g.key == b))

/-- The erase gate of R150 holds for a band. -/
def State.eraseGate (s : State) (a b : Nat) : Bool :=
  let x := s.band a b
  x.state == .closed && x.valid == 0 && !x.reading && !s.copyPending a b &&
    !s.devReads.any (fun e => e.2.array == a && e.2.band == b) &&
    !(x.kind == .mapCkpt && (s.dlog.dir ++ s.dlog.newDir).any (fun e => e.1 / 2 ^ 40 == a && pgaBand e.2 == b)) &&
    !s.hoop.entries.any (fun e => e.2.state != 0 && e.2.array == a &&
      (e.2.band == b || e.2.iploc / 2048 == b && x.kind == .interim || e.2.ipnext / 2048 == b && x.kind == .interim)) &&
    !s.map.any (fun e => e.1 / 2 ^ 40 == a && meDiscarded e.2.toNat && pgaBand (mePga e.2.toNat) == b &&
      mePga e.2.toNat != pgaNone) &&
    !s.mc.lines.any (fun e => e.2.valid && e.2.tag / 2 ^ 40 == a && e.2.entries.any (fun w =>
      (meDiscarded w.toNat || meValid w.toNat) && pgaBand (mePga w.toNat) == b && mePga w.toNat != pgaNone))

/-- The last erase of a band has ended: its erased blocks show free, and the number is FREE again (R150). -/
def State.finishErase (s : State) (a b : Nat) : State :=
  let x := s.band a b
  let img := s.prickingOf a x.generation
  let s1 := x.erased.foldl (fun (s : State) k =>
    let n := pkMember img k
    let blk := x.blocks.getD k noBlock
    if (s.eword n blk).state = 1 then s.setEword n blk { s.eword n blk with state := 0 } else s) s
  ((s1.setBandLogged a b (bandReset 0)).syncArray a).syncSpace a

end Sys2Proof.Machine
end

