-- ==== Sys2Proof/Machine/Branch.lean ====
section
/-! DEFINITION. Compare, predicate and branch instructions of Quinuip (R248). -/

namespace Sys2Proof.Machine

/-- Set predicate `i` of a thread. -/
def State.wp (s : State) (th i : Nat) (b : Bool) : State :=
  s.setThr th { s.thr th with preds := predSet (s.thr th).preds i b }

/-- A compare of gA with a second operand under the condition code of field C; reserved codes never reach here (R241,
R248). -/
def State.compare (s : State) (th op : Nat) (y : Thread → IWord → Word) : State :=
  s.issue th (fun i => i.op == op) (fun i s =>
    match condHolds i.c ((s.thr th).reg i.a) (y (s.thr th) i) with
    | some b => s.wp th i.d b
    | none => s)

/-- CMP: p[D] = cond(C, gA, gB) (R248). -/
def execCmp (th : Nat) (s : State) : Host.Outcome State Fault Refusal := .next (s.compare th 0x20 (fun t i => t.reg i.b))

/-- CMPI: p[D] = cond(C, gA, sext(IMM)) (R248). -/
def execCmpi (th : Nat) (s : State) : Host.Outcome State Fault Refusal := .next (s.compare th 0x21 (fun _ i => i.sext))

/-- PLOG: p[D] = the truth table's bit, of the predicates A[1:0] and B[1:0] (R248). -/
def execPlog (th : Nat) (s : State) : Host.Outcome State Fault Refusal :=
  .next (s.issue th (fun i => i.op == 0x22) (fun i s =>
    s.wp th i.d (plogBit (i.im 0 4) (predAt (s.thr th).preds (i.a % 4)) (predAt (s.thr th).preds (i.b % 4)))))

/-- Go to a target within the program's extent, else fault 0x0406 (R248). -/
def State.jumpTo (s : State) (th : Nat) (target : Int) : State :=
  let t := s.thr th
  if (t.base : Int) ≤ target ∧ target < (t.base + t.length : Nat) then s.setThr th { t with pc := target.toNat }
  else s.faultAt th 0x0406

/-- The address of the instruction just issued. -/
def Thread.at_ (t : Thread) : Nat := (t.pc + 65535) % 65536

/-- BR: PC = PC + sext(IMM), counted from the branch itself (R248; log entry 19). -/
def execBr (th : Nat) (s : State) : Host.Outcome State Fault Refusal :=
  .next (s.issue th (fun i => i.op == 0x28) (fun i s => s.jumpTo th (((s.thr th).at_ : Int) + i.sext.toInt)))

/-- JAL: gD = PC + 1; PC = PC + sext(IMM) (R248). -/
def execJal (th : Nat) (s : State) : Host.Outcome State Fault Refusal :=
  .next (s.issue th (fun i => i.op == 0x29) (fun i s =>
    (s.wr th i.d (BitVec.ofNat 64 (((s.thr th).at_ + 1) % 65536))).jumpTo th (((s.thr th).at_ : Int) + i.sext.toInt)))

/-- JR: PC = gA[15:0]; a value with higher bits set lies outside every extent (R248; log entry 19). -/
def execJr (th : Nat) (s : State) : Host.Outcome State Fault Refusal :=
  .next (s.issue th (fun i => i.op == 0x2A) (fun i s => s.jumpTo th (((s.thr th).reg i.a).toNat : Int)))

end Sys2Proof.Machine
end

