-- ==== Sys2Proof/Machine/Skeins.lean ====
section
/-! DEFINITION. Runs of skeins and access to them: SKALLOC, SKFREE, SKZERO, LDK, STK (R244, R247, R265), and the end of a
wait for skeins. -/

namespace Sys2Proof.Machine

/-- SKALLOC gives handle IMM[11:8] a run of gA skeins; when too few are free it waits, or with NOWAIT (IMM[12]) clears
predicate IMM[14:13] (R244; log entries 14 and 19). -/
def execSkalloc (th : Nat) (s : State) : Host.Outcome State Fault Refusal :=
  .next (s.issue th (fun i => i.op == 0x30) (fun i s =>
    let n := ((s.thr th).reg i.a).toNat
    if (s.thr th).run i.h ≠ [] then s.faultAt th 0x0405
    else if n = 0 ∨ 256 < n then s.faultAt th 0x0406
    else if n ≤ (s.freeSkeins (thCluster th)).length then s.allocRun th i.h n
    else if i.ib 12 then s.wp th (i.im 13 2) false
    else s.setThr th { s.thr th with wait := .skalloc i.h n, waitSince := s.tbase.toNat }))

/-- Enough skeins have been freed: a waiting SKALLOC receives its run (R244). -/
def execSkallocResume (th : Nat) (s : State) : Host.Outcome State Fault Refusal :=
  .next (match (s.thr th).wait with
    | .skalloc h n =>
      if s.threadsRun && decide (n ≤ (s.freeSkeins (thCluster th)).length) then
        (s.setThr th { s.thr th with wait := .none }).allocRun th h n
      else s
    | _ => s)

/-- SKFREE frees the run of a handle (R244). -/
def execSkfree (th : Nat) (s : State) : Host.Outcome State Fault Refusal :=
  .next (s.issue th (fun i => i.op == 0x31) (fun i s =>
    if (s.thr th).run i.h = [] then s.faultAt th 0x0405 else s.freeRun th i.h))

/-- SKZERO zeroes every information word of a run (R244, R265). -/
def execSkzero (th : Nat) (s : State) : Host.Outcome State Fault Refusal :=
  .next (s.issue th (fun i => i.op == 0x32) (fun i s =>
    if (s.thr th).run i.h = [] then s.faultAt th 0x0405
    else s.putInfos th i.h 0 (((s.thr th).run i.h).map (fun _ => infoReset 0))))

/-- The offset gA + IMM[31:16] of LDK and STK. -/
def IWord.skOff (i : IWord) (t : Thread) : Nat := (t.reg i.a + BitVec.ofNat 64 (i.im 16 16)).toNat

/-- What is wrong with an offset of LDK or STK: 0x0405 for an empty handle or beyond the run, 0x0406 for a misaligned one,
0 for none (R244, R247). -/
def IWord.skFault (i : IWord) (t : Thread) : Nat :=
  if t.run i.h = [] then 0x0405
  else if i.skOff t % 8 ≠ 0 then 0x0406
  else if (if i.ib 12 then 32 else 4096) * (t.run i.h).length < i.skOff t + 8 then 0x0405
  else 0

/-- LDK: gD = 8 bytes of run IMM[11:8], or of its sidecars (R247). -/
def execLdk (th : Nat) (s : State) : Host.Outcome State Fault Refusal :=
  .next (s.issue th (fun i => i.op == 0x1B) (fun i s =>
    if i.skFault (s.thr th) ≠ 0 then s.faultAt th (i.skFault (s.thr th))
    else s.wr th i.d (if i.ib 12 then s.sideWord th i.h (i.skOff (s.thr th)) else s.runWord th i.h (i.skOff (s.thr th)))))

/-- STK: 8 bytes of run IMM[11:8], or of its sidecars, = gB (R247). -/
def execStk (th : Nat) (s : State) : Host.Outcome State Fault Refusal :=
  .next (s.issue th (fun i => i.op == 0x1C) (fun i s =>
    if i.skFault (s.thr th) ≠ 0 then s.faultAt th (i.skFault (s.thr th))
    else if i.ib 12 then s.setSideWord th i.h (i.skOff (s.thr th)) ((s.thr th).reg i.b)
    else s.setRunWord th i.h (i.skOff (s.thr th)) ((s.thr th).reg i.b)))

end Sys2Proof.Machine
end

