-- ==== Sys2Proof/Machine/CommitOps.lean ====
section
/-! DEFINITION. Shared operations of the data path: which calls a mode serves (R35, R36), map entries under their check
(R131), the entry of staged blocks into the hoop (R84 to R88, R93), and DRAM blocks (R344). -/

namespace Sys2Proof.Machine

/-- The status of a data access by a call in a mode that does not serve it (R35, R36, R250). -/
def State.dataStatus (s : State) : Nat :=
  match s.mode.cur with
  | .standby => if s.pair.gap then 0 else 0x0501
  | .maintenance => 0x0502
  | .witness => 0x0503
  | _ => 0

/-- Logical capacity of an array in blocks. -/
def State.arrBlocks (s : State) (a : Nat) : Nat := s.f (F.ARR_GEOM_GRAINS a) * s.gblk a

/-- The status that blocks of an array give: no such array, beyond its capacity, Failed (R205, R278, R285). -/
def State.rangeStatus (s : State) (a blk n : Nat) : Nat :=
  if !s.arrExists a then 0x0321
  else if s.arrBlocks a < blk + n then 0x0320
  else if s.f (F.ARR_STATE_STATE a) = 5 then 0x0303
  else 0

/-- The status that a thread's access to blocks of an array meets before it begins: the mode's for a call thread, then the
range's (R35, R250). -/
def State.arrayStatus (s : State) (th a blk n : Nat) : Nat :=
  if !thDevWork th && s.dataStatus != 0 then s.dataStatus else s.rangeStatus a blk n

/-! ## Map entries -/

/-- A grain's entry as the newest committed segment and the deltas after it give it (R131). -/
def State.rebuiltEntry (s : State) (a g : Nat) : Word :=
  match (s.dlog.deltas.filter (fun d => d.kind == 1 && d.array == a && d.key == g)).getLast? with
  | some d => d.value
  | none => Tbl.get mapDefault s.dlog.segs (grainKey a g)

/-- A grain's entry through the Map Cache, checked and where needed rebuilt (R131, R257): its low 48 bits, none for a grain
that must be treated as poisoned. -/
def State.checkedEntry (s : State) (a g : Nat) : State × Option Nat :=
  let w := s.mapGet a g
  let s1 := s.mapAccess a g
  if mapOk w g a then (s1, some (w.toNat % 2 ^ 48))
  else
    let r := s.rebuiltEntry a g
    if mapOk r g a then (((s1.mapPut a g r).setDramEntry a g r).logCorrected 10 a g, some (r.toNat % 2 ^ 48))
    else ((s1.logOpen clsDeferred 10 a g), none)

/-! ## Entering the hoop -/

/-- The conditions of R84 for the blocks of one STORE COMMIT, mirrored up to `seq`. -/
def State.commitReady (s : State) (l : List Staged) (seq : Nat) : Bool :=
  s.durableAt seq && s.flag F.HU_STAT_HEALTHY && s.pair.leaseLost.isNone &&
    (decide (s.dirtyBlocks + s.newDirty l ≤ s.dirtyLimit) || s.dirtyBlocks == 0)

/-- A grain all of whose blocks the host has stored enters its gathering stripe (R93). -/
def State.gatherFull (s : State) (a g : Nat) : State :=
  match s.newestVersion a g with
  | some v => if !v.gathered && decide (v.dirty.length = s.gblk a) then s.placeVersion v else s
  | none => s

/-- The blocks of a STORE COMMIT enter the hoop together (R85, R93, R251). -/
def State.enterHoop (s : State) (l : List Staged) : State :=
  let s1 := (l.foldl (fun s x => s.storeBlock x.array x.block x.info) s).syncDirty
  ((l.map (fun x => (x.array, x.block / s.gblk x.array))).eraseDups).foldl (fun s x =>
    (match s.newestVersion x.1 x.2 with
      | some v => s.mirrorVersion v.seq
      | none => s).gatherFull x.1 x.2) s1

/-- The status with which a STORE COMMIT to arrays ends at once (R143, R204, R205, R35). -/
def State.commitStatus (s : State) (l : List Staged) : Nat :=
  if s.dataStatus ≠ 0 then s.dataStatus
  else if l.any (fun x => !s.arrExists x.array) then 0x0321
  else if l.any (fun x => decide (s.arrBlocks x.array ≤ x.block)) then 0x0320
  else if l.any (fun x => s.f (F.ARR_STATE_STATE x.array) == 5) then 0x0303
  else if l.any (fun x => s.flag (F.ARR_STATE_NARROW x.array)) then 0x0304
  else if l.any (fun x => s.flag (F.ARR_GC_NOSPACE x.array)) then 0x031C
  else 0

/-- Mirror the blocks of a commit to the standby's hoop (R84, R384). -/
def State.mirrorBlocks (s : State) (l : List Staged) : State :=
  l.foldl (fun s x => s.mirror (.block x.array x.block s.hoop.nextSeq x.info)) s

/-- Replace the bank waits. -/
def State.setBankWaits (s : State) (l : List BankWait) : State := { s with hoop := { s.hoop with bankWaits := l } }

/-- A bank wait of a thread begins or goes on (R86). -/
def State.beginBankWait (s : State) (th : Nat) : State :=
  let now := if s.flag F.HU_STAT_HEALTHY then none else some s.tbase
  match s.hoop.bankWaits.find? (fun w => w.th == th) with
  | some w => s.setBankWaits (s.hoop.bankWaits.map (fun x => if x.th == th then { w with since := w.since.or now } else x))
  | none => s.setBankWaits (s.hoop.bankWaits ++ [{ th, sum := 0, since := now }])

/-- A bank wait pauses: its sum keeps the time passed (R86). -/
def BankWait.pause (w : BankWait) (now : Word) : BankWait :=
  match w.since with
  | some t => { w with sum := w.sum + (now - t).toNat, since := none }
  | none => w

/-- The wait of a thread's STORE COMMIT ends; its sum stays with the call (R86). -/
def State.endBankWait (s : State) (th : Nat) : State :=
  s.setBankWaits (s.hoop.bankWaits.map (fun x => if x.th == th then x.pause s.tbase else x))

/-- HU_STAT.HEALTHY changes: bank waits start or pause (R84, R86, R429). -/
def State.setHealthy (s : State) (b : Bool) : State :=
  let waiting (th : Nat) : Bool := (s.thr th).asyncs.any (fun o => match o.wait with | .commit .. => true | _ => false)
  let w := s.hoop.bankWaits.map (fun x =>
    if b then x.pause s.tbase else if waiting x.th then { x with since := x.since.or (some s.tbase) } else x)
  (s.setBankWaits w).setFlag F.HU_STAT_HEALTHY b

/-- Try a waiting commit of thread `th` (R86): the blocks enter the hoop once every condition of R84 holds. -/
def State.tryCommit (s : State) (th : Nat) (o : AsyncOp) : State :=
  match o.wait with
  | .commit l seq =>
    if s.commitReady l seq then ((s.enterHoop l).endBankWait th).asyncDone th o.id 0 else s
  | _ => s

/-- Commits that wait now. -/
def State.commitWaits (s : State) : List (List Staged × Nat) :=
  s.threads.flatMap (fun t => t.2.asyncs.filterMap (fun o => match o.wait with
    | .commit l q => some (l, q) | _ => none))

/-! ## DRAM blocks -/

/-- Bytes of device DRAM (R132). -/
def State.dramBytes (s : State) : Nat := s.hw.dramGib * 2 ^ 30

/-- A line of DRAM that holds no poison code. -/
def poisonReset (_ : Nat) : Bool := false

/-- Some 64-byte line that a byte range touches holds the poison code (R344). -/
def State.dramPoisoned (s : State) (addr len : Nat) : Bool :=
  (List.range ((addr + len + 63) / 64 - addr / 64)).any (fun i => Tbl.get poisonReset s.poison (addr / 64 + i))

/-- Write bytes to DRAM; lines covered whole lose the poison code (R344). -/
def State.dramWrite (s : State) (addr : Nat) (bs : List Byte) : State :=
  let first := (addr + 63) / 64
  let last := (addr + bs.length) / 64
  { s with
    dram := s.dram.writeBytes addr bs
    poison := (List.range (last - first)).foldl (fun t i => Tbl.set poisonReset t (first + i) false) s.poison }

/-- The information word that a DRAM address holds: 4,096 data bytes and its sidecar behind them (R252; log entry 19). -/
def State.dramInfo (s : State) (addr : Nat) : Info :=
  { data := (List.range 4096).foldl (fun d k => d.write k (s.dram.read (addr + k))) []
    pi := BitVec.ofNat 128 (leNat (s.dram.readBytes (addr + 4096) 16))
    mta := BitVec.ofNat 128 (leNat (s.dram.readBytes (addr + 4112) 16)) }

end Sys2Proof.Machine
end

