-- ==== Sys2Proof/Machine/Writer.lean ====
section
/-! DEFINITION. Map updates under a condition (R142, R257), PROGRAMs of strips (R252, R361), and the device's own stripe writer:
full and forced stripes of host data, and copies, through steps 2 to 8 of R90 and R98 (log entry 30). -/

namespace Sys2Proof.Machine

/-! ## MAPUP -/

/-- The condition of MAPUP (R142, R94, R257). -/
def State.mapCond (s : State) (c a g : Nat) (low : Nat) (d : Nat) : Bool :=
  match c with
  | 0 => true
  | 1 => meValid low && mePga low == d % 2 ^ 40
  | 2 => decide (s.passedSeq a g % 2 ^ 48 ≤ d % 2 ^ 48)
  | _ => meDiscarded low && mePga low == d % 2 ^ 40

/-- The newest version's step 6 ends the loss of an older version (R215, R216). -/
def State.endLoss (s : State) (a g seq : Nat) : State :=
  if s.lost.grains.any (fun x => x.array == a && x.grain == g) && !s.grainLost a g (seq % 2 ^ 48) ||
      s.lost.grains.any (fun x => x.array == a && x.grain == g && x.vseq == vseqNone) then s.freeLostGrain a g
  else s

/-- Evaluate MAPUP's condition and replace the entry in one map island step, with its kind 1 delta (R126, R257). -/
def State.mapup (s : State) (a g cond d low : Nat) : State :=
  let old := (s.mapGet a g).toNat % 2 ^ 48
  if s.mapCond cond a g old d then
    let s1 := s.logEntry a g low
    if cond = 2 then (s1.passStep6 a g d).endLoss a g d else s1
  else s.mapAccess a g

/-! ## PROGRAMs -/

/-- Every column of an entry's stripe is acknowledged (R258 CLOSING). -/
def State.allAcked (s : State) (e : Nat) : Bool :=
  (List.range (pkW (s.entryImg e))).all (fun c => bit (s.centry e).acked c)

/-- Where a column of an entry is programmed: its place on the media, or in the interim slot being written (R51, R137). -/
def State.programHome (s : State) (e col : Nat) (interim : Bool) : Option (Nat × Nat × Nat) :=
  let x := s.centry e
  let h := if interim then s.interimHome x.array x.band x.stripe col x.ipnext else s.colHome x.array x.band x.stripe col
  h.filter (fun p => !(s.sled p.1).failed)

/-- The share of a member's rates in which a stripe's PROGRAMs count, by its couching SOURCE (R100, R210, R230). -/
def sourceShare (source : Nat) : Share :=
  match source with
  | 1 => .gc | 2 => .rebuild | 3 => .reshape | _ => .other

/-- Send the PROGRAM of words of a column of an entry from codeword `first` of its strip on (R137, R252, R361); to a member that
has failed it ends with 0x0231. -/
def State.sendProgram (s : State) (th id e col : Nat) (interim : Bool) (first : Nat) (words : List Info) : State :=
  match s.programHome e col interim with
  | none => s.asyncDone th id 0x0231
  | some (n, blk, pos) =>
    let pc := pageOf (s.sled n).cwp (pkZ (s.entryImg e)) pos first
    s.sendSled n (.program blk pc.1 (ceilDiv words.length (max 1 (s.sled n).cwp)) words) (s.centry e).array false
      (.emit th id e col interim) (sourceShare (s.centry e).source)

/-! ## The device's own stripe writer -/

/-- Data moves from the hoop to the members: Active and Maintenance, an unpaired unit's Standby, and not while a restored
vault image is unconsumed (R36, R433). -/
def State.destages (s : State) : Bool :=
  (decide (s.mode.cur = .active) || decide (s.mode.cur = .maintenance) || (decide (s.mode.cur = .standby) && !s.paired)) &&
    s.power.waiting.isNone

/-- The owner that PROGRAMs of the device's own stripe writer name: no thread. -/
def deviceWriter : Nat := 4096

/-- Replace the stripes that the device writes. -/
def State.setWorks (s : State) (l : List StripeWork) : State := { s with hoop := { s.hoop with works := l } }

/-- The work of an entry that is still open or closing. -/
def State.workOf (s : State) (e : Nat) : Option StripeWork :=
  s.hoop.works.find? (fun w => w.entry == e && w.eseq == (s.centry e).eseq &&
    ((s.centry e).state == 1 || (s.centry e).state == 2))

/-- Replace the work of its entry. -/
def State.putWork (s : State) (w : StripeWork) : State :=
  s.setWorks (s.hoop.works.map (fun x => if x.entry == w.entry && x.eseq == w.eseq then w else x))

/-- Works whose entry has been abandoned or freed are gone. -/
def State.dropWorks (s : State) : State :=
  s.setWorks (s.hoop.works.filter (fun w => (s.workOf w.entry).any (fun x => x.eseq == w.eseq)))

/-- A PROGRAM leaves once its ISSUED bit is durable (R90 step 4). -/
def State.putProgram (s : State) (e col : Nat) (interim : Bool) (first : Nat) (words : List Info) : State :=
  if s.durableAt s.pair.mirSeq then s.sendProgram deviceWriter 0 e col interim first words
  else { s with hoop := { s.hoop with held := s.hoop.held ++
    [{ seq := s.pair.mirSeq, entry := e, column := col, interim, first, words }] } }

/-- PROGRAMs whose ISSUED bit has become durable leave. -/
def State.releaseHeld (s : State) : State :=
  let go := s.hoop.held.filter (fun h => s.durableAt h.seq)
  go.foldl (fun s h => if (s.centry h.entry).state = 1 then
      s.sendProgram deviceWriter 0 h.entry h.column h.interim h.first h.words else s)
    { s with hoop := { s.hoop with held := s.hoop.held.filter (fun h => !s.durableAt h.seq) } }

/-- The information words that a version of a grain carries to the media (R174); one whose guard fails takes the poison signature before
parity is formed (R187). -/
def State.hostWords (s : State) (a : Nat) (g : Nat × Nat) : List Info :=
  let fmt := (s.arr a).pifmt
  let v := s.hoop.versions.find? (fun v => v.seq == g.2)
  (List.range (s.gblk a)).map (fun b =>
    let i := ((v.map (fun v => Tbl.get infoReset v.blocks b)).getD (infoReset 0)).sealed fmt
    { i with mta := mtaMake g.1 a false (i.marked fmt) b fmt (g.2 % 2 ^ 48) })

/-- Words of a data extent [lo, hi) by column: column, first codeword, words (R93, R361). -/
def extentCols (img : List Byte) (words : List Info) (lo hi : Nat) : List (Nat × Nat × List Info) :=
  let q := pkZ img / 4096
  (List.range (pkD img)).filterMap (fun i =>
    let a := max (i * q) lo
    let b := min ((i + 1) * q) hi
    if a < b then some (pkColOf img i, a - i * q, (words.drop a).take (b - a)) else none)

/-- The parity strips over the data words written so far, positions beyond them counted as zero (R49, R98). -/
def parityStrips (img : List Byte) (words : List Info) : List (Nat × List Info) :=
  let q := pkZ img / 4096
  let at_ (k : Nat) : List (Nat × Info) :=
    (List.range (pkD img)).map (fun i => (pkColOf img i, words.getD (i * q + k) (infoReset 0)))
  (pkParityCols img).map (fun c => (c, (List.range q).map (fun k => parityWord img (at_ k) (pkRole img c))))

/-- Issue a round of PROGRAMs of a work: the data columns, then parity, interim or final (R90 step 4, R98). -/
def State.startRound (s : State) (w : StripeWork) (lo : Nat) (interim : Bool) (stage : WorkStage) : State :=
  let img := s.entryImg w.entry
  let data := extentCols img w.words lo w.words.length
  let par := parityStrips img w.words
  let x := s.centry w.entry
  let bits := (data.map (fun c => c.1)) ++ (if interim then [] else par.map (fun c => c.1))
  let s1 := (s.setCentry w.entry { x with issued := bits.foldl (fun m c => putBit m c true) x.issued }).putWork
    { w with left := data.length + par.length, stage }
  let s2 := data.foldl (fun s c => s.putProgram w.entry c.1 false c.2.1 c.2.2) s1
  par.foldl (fun s c => s.putProgram w.entry c.1 interim 0 c.2) s2

/-- Pad data words with filler up to the end of the data strips (R98, R138). -/
def State.fillStripe (s : State) (e a : Nat) (words : List Info) : List Info :=
  let img := s.entryImg e
  words ++ List.replicate (pkD img * (pkZ img / 4096) - words.length) (fillerBlock (s.arr a).pifmt a)

/-- Seal one gathering stripe that holds a forced extent: the rest of it is filler, its final parity is due, its band is closed for
writing; grains behind the extent are gathered afresh (R138). -/
def State.sealGather (s : State) (a c : Nat) (fg : Bool) : State :=
  let x := s.gather a c fg
  match x.entry with
  | none => s
  | some e =>
    let y := s.centry e
    if y.state ≠ 1 ∨ x.extent = 0 then s
    else
      let k := x.extent / s.gblk a
      let j : StripeJob := { array := a, cluster := c, fastGround := fg, grains := x.grains.take k, forced := none, entry := some e }
      (((s.setGather a c fg (gatherReset 0)).setJobs (s.hoop.jobs ++ [j])).closeBand a y.band true false).placeGrains (x.grains.drop k)

/-- Deferred errors for the blocks of a version whose guard fails at the parity unit (R187). -/
def State.logUnsealed (s : State) (a : Nat) (g : Nat × Nat) : State :=
  let fmt := (s.arr a).pifmt
  match s.hoop.versions.find? (fun v => v.seq == g.2) with
  | none => s
  | some v => (List.range (s.gblk a)).foldl (fun (s : State) b =>
      let i := Tbl.get infoReset v.blocks b
      if i.guardOk fmt || i.marked fmt then s else s.logOpen clsDeferred 10 a g.1) s

/-- Start the round that a stripe job asks of its work: an extent with interim parity (R98), or the rest of a full stripe with
final parity (R95). A stripe of a RETIRING band that must be forced out is sealed instead: no interim parity is formed under a RETIRING
pricking (R137, R138). -/
def State.startJobRound (s : State) (j : StripeJob) (w : StripeWork) : State :=
  let fmt := (s.arr w.array).pifmt
  let fresh := j.grains.drop w.grains.length
  let add := fresh.flatMap (fun g => s.hostWords w.array g)
  let gs : List WorkGrain := fresh.map (fun g =>
    { grain := g.1, key := g.2, poisoned := (s.hostWords w.array g).any (fun i => i.marked fmt) })
  let w1 := { w with grains := w.grains ++ gs, words := w.words ++ add }
  let s0 := fresh.foldl (fun (s : State) g => s.logUnsealed w.array g) (s.setJobs (s.hoop.jobs.filter (fun x => x != j)))
  let gen := (s.centry w.entry).generation
  match j.forced with
  | some _ =>
    if add = [] then s0
    else if gen ≠ s.armedGen w.array then s0.sealGather w.array w.cluster w.fastGround
    else match s0.interimSlot w.array w.cluster gen with
      | (s1, some slot) =>
        (s1.setCentry w.entry { s1.centry w.entry with ipnext := slot, ipacked := 0 }).startRound w1 w.words.length true
          (.extent w1.words.length)
      | (s1, none) => s1.setJobs s.hoop.jobs
  | none => s0.startRound { w1 with words := s.fillStripe w.entry w.array w1.words } w.words.length false .final

/-- The next stripe of the open band of a kind that a cluster writes, or the first of a free band (R92, R118, R120, R229). -/
def State.nextPlace (s : State) (a c : Nat) (kind : BandKind) : State × Option (Nat × Nat) :=
  match s.openOf a c kind with
  | some b => if s.takesStripe a b then (s, some (b, (s.band a b).next)) else
      (s.closeFull a c kind, ((s.closeFull a c kind).freeBand a c).map (fun b => (b, 0)))
  | none => (s, (s.freeBand a c).map (fun b => (b, 0)))

/-- Open a stripe for the device's own writer (R90 steps 2 and 3). -/
def State.openWork (s : State) (a c : Nat) (kind : BandKind) (source : Nat) : State × Option Nat :=
  match s.nextPlace a c kind with
  | (s1, none) => (s1, none)
  | (s1, some (b, st)) =>
    match s1.openStripeAt c (c * 128 + 127) kind a b st source with
    | (s2, some e) =>
      let w : StripeWork := { entry := e, eseq := (s2.centry e).eseq, array := a, cluster := c,
                              fastGround := decide (kind = .fastGround), grains := [], words := [], mapped := 0, left := 0,
                              stage := .idle }
      (s2.setWorks (s2.hoop.works ++ [w]), some e)
    | r => r

/-- The place that a job's stripe would take now has another number of grains than it gathered: they are gathered afresh, and forced
out again where a forced extent was due (R71, R112, R224). -/
def State.gatherAgain (s : State) (j : StripeJob) : State :=
  let x := s.gather j.array j.cluster j.fastGround
  let mine (y : StripeJob) : Bool := y == j || (j.forced.isSome && y.forced.isSome && y.entry.isNone && y.array == j.array &&
    y.cluster == j.cluster && y.fastGround == j.fastGround)
  let s1 := s.setJobs (s.hoop.jobs.filter (fun y => !mine y))
  if j.forced.isSome then
    ((s1.setGather j.array j.cluster j.fastGround (gatherReset 0)).placeGrains x.grains).forceAll (fun y => y == j.array)
  else s1.placeGrains j.grains

/-- The first job of its array and cluster that has no entry opens its stripe, if it may. -/
def State.openJob (s : State) (j : StripeJob) : State :=
  match s.hoop.jobs.find? (fun x => x.array == j.array && x.cluster == j.cluster && x.entry.isNone) with
  | some x =>
    let n := s.stripeGrains j.array j.cluster (gatherKind j.fastGround)
    if x ≠ j ∨ n = 0 then s
    else if n < j.grains.length ∨ (j.forced.isNone ∧ j.grains.length ≠ n) then s.gatherAgain j
    else (s.openWork j.array j.cluster (gatherKind j.fastGround) 0).1
  | none => s

/-- A job whose stripe is open and waits for nothing starts its round. -/
def State.runStripeJob (s : State) (j : StripeJob) : State :=
  match j.entry.bind s.workOf with
  | some w => if w.stage = .idle && (s.centry w.entry).state == 1 then s.startJobRound j w else s
  | none => s

/-- A full relocation gathering stripe is opened and written whole (R141, R142); `pad` fills one that has no more to come. -/
def State.writeCopies (s : State) (key : Nat) (pad : Bool) : State :=
  let a := key / 32
  let c := key / 4 % 8
  let l := Tbl.get (fun _ => []) s.hoop.copyGather key
  let n := s.stripeGrains a c .reloc
  if n = 0 ∨ l = [] ∨ (l.length < n ∧ !pad) then s
  else match s.openWork a c .reloc (key % 4) with
    | (s1, some e) =>
      match s1.workOf e with
      | some w =>
        let g := l.take n
        let s2 := { s1 with hoop := { s1.hoop with copyGather := Tbl.set (fun _ => []) s1.hoop.copyGather key (l.drop n) } }
        s2.startRound { w with
          grains := g.map (fun x => { grain := x.grain, key := x.src, poisoned := x.poisoned })
          words := s1.fillStripe e a (g.flatMap (fun x => x.words)) } 0 false .final
      | none => s1
    | (s1, none) => s1

/-- Background array work runs (R44). -/
def State.backgroundRuns (s : State) : Bool :=
  (decide (s.mode.cur = .active) || decide (s.mode.cur = .maintenance)) && s.power.waiting.isNone

/-- Everything the device's own stripe writer can do now: stripes that wait are opened, rounds that are due are issued (a second time for
stripes sealed by the first). Grains wait in the hoop while a resynchronisation is due (R107). -/
def State.drive (s : State) : State :=
  if !s.destages || s.bobbinIdle || s.hoop.resync.isSome then s
  else
    let s0 := s.dropWorks
    let s1 := s0.hoop.jobs.foldl (fun s j => if j.entry.isNone then s.openJob j else s) s0
    let sA := s1.hoop.jobs.foldl (fun s j => s.runStripeJob j) s1
    let s2 := sA.hoop.jobs.foldl (fun s j => s.runStripeJob j) sA
    if s2.backgroundRuns then (s2.hoop.copyGather.map (fun e => e.1)).foldl (fun s k => s.writeCopies k false) s2 else s2

/-! ## Acknowledgements and step 6 -/

/-- The PGA of grain `k` of a stripe (R117). -/
def State.grainPga (s : State) (w : StripeWork) (k : Nat) : Nat :=
  let x := s.centry w.entry
  let img := s.entryImg w.entry
  pgaMake x.band (x.stripe * pkD img * (pkZ img / 65536) + k * (s.gblk w.array / 16))

/-- Step 6 for the grains [lo, hi) of a work: conditional on the version for host data, on the source for copies (R94, R142). -/
def State.stepSix (s : State) (w : StripeWork) (hi : Nat) : State :=
  ((w.grains.take hi).drop w.mapped).zipIdx.foldl (fun s p =>
    let g := p.1
    let pinned := mePinned (s.mapGet w.array g.grain).toNat
    s.mapup w.array g.grain (if (s.centry w.entry).source = 0 then 2 else 1) g.key
      (meMake (s.grainPga w (w.mapped + p.2)) true false g.poisoned pinned)) s

/-- A copy of the stripe that `r` read is gathered or being written. -/
def State.copiesOf (s : State) (r : StripeRead) : Bool :=
  let img := s.prickingOf r.array (s.band r.array r.band).generation
  let hit (pga : Nat) : Bool := pgaBand pga == r.band && (pgaLocate (effImg img (s.band r.array r.band).blocks) (pgaUnit pga)).1 == r.stripe
  s.hoop.copyGather.any (fun e => e.1 / 32 == r.array && e.2.any (fun x => hit x.src)) ||
    s.hoop.works.any (fun w => w.array == r.array && (s.centry w.entry).source != 0 && w.grains.any (fun g => hit g.key))

/-- The stripe of `r` is still being read. -/
def State.readRuns (s : State) (r : StripeRead) : Bool :=
  s.devReads.any (fun e => e.2.array == r.array && e.2.band == r.band && e.2.stripe == r.stripe &&
    (match e.2.goal with | .rebuild _ => true | .reshape _ => true | _ => false))

/-- A stripe that rebuild or reshape has read is done once no map entry names it (R207, R212); one whose copies were abandoned
is to be read again. -/
def State.settleReads (s : State) : State :=
  s.hoop.reads.foldl (fun s r =>
    let named := s.stripeNamed r.array r.band r.stripe
    if named && s.copiesOf r || s.readRuns r then s
    else
      let s1 := { s with hoop := { s.hoop with reads := s.hoop.reads.filter (fun x => x != r) } }
      let x := s1.band r.array r.band
      let still := s1.hoop.reads.any (fun y => y.array == r.array && y.band == r.band)
      (s1.setBand r.array r.band { x with reading := still }).syncMembers r.array) s

/-- A round whose PROGRAMs are all acknowledged: the interim slot becomes valid, step 6 runs while the delta log has room (R127),
and a whole stripe goes to CLOSING (R90, R98). -/
def State.finishRound (s : State) (w : StripeWork) : State :=
  let x := s.centry w.entry
  let room := decide (s.dlog.next - s.dlog.committed + w.grains.length - w.mapped ≤ deltaRoom)
  match w.stage with
  | .extent n =>
    if w.left ≠ 0 then s
    else if !room then s.setFlag F.ARR_DLOG_FULL true
    else
      let s1 := s.setCentry w.entry { x with iploc := x.ipnext, ipcover := n, ipv := true, ipnext := 0xFFFFFFFF }
      let s2 := (s1.putWork { w with mapped := w.grains.length, stage := .idle }).stepSix w w.grains.length
      s2.settleReads
  | .final =>
    if w.left ≠ 0 ∨ !s.allAcked w.entry then s
    else if !room then s.setFlag F.ARR_DLOG_FULL true
    else
      let s1 := s.stepSix w w.grains.length
      let s2 := s1.setCentry w.entry { s1.centry w.entry with state := 2 }
      (s2.putWork { w with mapped := w.grains.length, stage := .closing s2.pair.mirSeq }).settleReads
  | .closing q =>
    if s.durableAt q then (s.setWorks (s.hoop.works.filter (fun y => y != w))).closeStripe w.entry else s
  | .idle => s

/-- Every work goes on as far as it can: rounds finished, stripes closed (twice, so that a round that ends may close). -/
def State.settleWorks (s : State) : State :=
  let once (s : State) : State := s.hoop.works.foldl (fun s w =>
    match s.workOf w.entry with
    | some x => s.finishRound x
    | none => s) s
  (once (once s)).settleReads.drive

/-- The member acknowledges a PROGRAM of the device's own writer: the ACKED bit once the whole column is programmed (R90 step 5). -/
def State.workAcked (s : State) (e col : Nat) (interim : Bool) : State :=
  match s.workOf e with
  | none => s
  | some w =>
    let img := s.entryImg e
    let x := s.centry e
    let whole := match pkRole img col with
      | .data i => decide ((i + 1) * (pkZ img / 4096) ≤ w.words.length)
      | _ => true
    let y := if interim then { x with ipacked := putBit x.ipacked col true }
      else if whole then { x with acked := putBit x.acked col true } else x
    ((s.setCentry e y).putWork { w with left := w.left - 1 }).settleWorks

end Sys2Proof.Machine
end

