-- ==== Sys2Proof/Machine/Movement.lean ====
section
/-! DEFINITION. The movement instructions of Quinuip: FETCH, STORE and EMIT (R245, R249 to R252). -/

namespace Sys2Proof.Machine

/-! ## Operands -/

/-- Host bytes per block of a transfer: data, data with protection information (PIINT), or protection information alone
(SIDE, which wins over PIINT; log entry 19) (R249). -/
def hostBlock (fmt : Nat) (piint side : Bool) : Nat :=
  if side then piHostBytes fmt else if piint then 4096 + piHostBytes fmt else 4096

/-- The first skein of the run, IMM[23:16]. -/
def IWord.first (i : IWord) : Nat := i.im 16 8

/-- What is wrong with a block transfer of `len` bytes in units of `unit` into a run: 0x0405 for an empty handle or beyond
the run, 0x0406 for a length that is no number of blocks, 0 for nothing (R244, R245; log entry 19). -/
def IWord.runFault (i : IWord) (t : Thread) (len unit : Nat) : Nat :=
  if t.run i.h = [] then 0x0405
  else if unit = 0 ∨ len % max 1 unit ≠ 0 then (if len = 0 then 0 else 0x0406)
  else if (t.run i.h).length < i.first + len / unit then 0x0405
  else 0

/-- The endpoint of a thread's host accesses. -/
def State.thEp (s : State) (th : Nat) : Nat := s.ringEp (s.thr th).ring

/-- Free tags on an endpoint. -/
def State.tagsFree (s : State) (e : Nat) : Nat := 768 - (s.hostTags.filter (fun x => x.1 / 1024 == e)).length

/-- The thread may access the host range: device-work threads hold every permission (R266, R312). -/
def State.thHostAllowed (s : State) (th addr len : Nat) : Bool := thDevWork th || s.hostAllowed (s.thr th).ring addr len

/-- The fault of a host transfer of FETCH or STORE, 0 for none (R244, R245, R266). -/
def State.hostFault (s : State) (th : Nat) (i : IWord) : Nat :=
  let t := s.thr th
  let a := (t.reg i.a).toNat
  let len := (t.reg i.b).toNat
  let fmt := (s.arr (bits (t.reg i.c).toNat 0 4)).pifmt
  if a % 4 ≠ 0 then 0x0406
  else if i.runFault t len (hostBlock fmt (i.ib 12) (i.ib 13)) ≠ 0 then
    i.runFault t len (hostBlock fmt (i.ib 12) (i.ib 13))
  else if !s.thHostAllowed th a len then 0x0402
  else 0

/-- The outcome with which a host transfer ends without any access, 0 for none (R342, R345). -/
def State.hostOutcome (s : State) (th : Nat) (i : IWord) (write : Bool) : Nat :=
  let t := s.thr th
  if !s.hostReady (s.thEp th) then 0x0104
  else if s.xlatDenies (s.thEp th) (t.reg i.a).toNat (t.reg i.b).toNat write (i.mode == 1) then 0x0103
  else 0

/-- Start a FETCH or a host STORE with its transfer record. -/
def State.moveOp (s : State) (th : Nat) (i : IWord) (wait : AsyncWait) (outcome : Nat) (wr rd : List Nat) (f : Xfer) : State :=
  let id := (s.thr th).nextId
  let s1 := s.async th i wait outcome wr rd
  s1.setThr th ((s1.thr th).mapAsync id (fun o => { o with xfer := some f }))

/-- The transfer record of a FETCH or STORE of `n` units. -/
def IWord.xfer (i : IWord) (t : Thread) (n array : Nat) : Xfer :=
  { space := i.mode, handle := i.h, first := i.first, count := n, addr := (t.reg i.a).toNat, array,
    piint := i.ib 12 && decide (i.mode ≤ 1), side := i.ib 13 && decide (i.mode ≤ 1), assist := i.ib 14, left := n, step := 0, unrec := 0, status := 0, assisted := 0 }

/-! ## FETCH -/

/-- Count a lost-grain statistic: ATS denial of a thread's access (R345). -/
def State.countDeny (s : State) (outcome : Nat) : State := if outcome = 0x0103 then s.satF F.HE_XERR_ATSDENY else s

/-- FETCH from a host space: one host read (R249, R340; log entry 19). -/
def State.fetchHost (s : State) (th : Nat) (i : IWord) : State :=
  let t := s.thr th
  let a := bits (t.reg i.c).toNat 0 4
  let len := (t.reg i.b).toNat
  let n := len / max 1 (hostBlock (s.arr a).pifmt (i.ib 12) (i.ib 13))
  let f := i.xfer t n a
  if s.hostFault th i ≠ 0 then s.faultAt th (s.hostFault th i)
  else if len = 0 then s.moveOp th i .done 0 [i.h] [] f
  else if s.hostOutcome th i false ≠ 0 then
    (s.moveOp th i .done (s.hostOutcome th i false) [i.h] [] f).countDeny (s.hostOutcome th i false)
  else
    let s1 := s.moveOp th i (.host []) 0 [i.h] [] f
    (s1.hostRead (s.thEp th) (.thread th t.nextId) (t.reg i.a).toNat len (i.mode == 1)).1

/-- One block of a mapped grain is read from the media, with assist (R177, R249). -/
def State.readBlock (s : State) (th id k a blk pga : Nat) : State :=
  let b := blk % s.gblk a
  let img := s.prickingOf a (s.band a (pgaBand pga)).generation
  let l := pgaLocate img (pgaUnit pga + b / 16)
  s.startJob (ReadJob.make (.fetch th id k (some (blk / s.gblk a, b))) a (pgaBand pga) l.1 (l.2.2 / 4096 + b % 16)
    [pkColOf img l.2.1] true)

/-- The application tag that generated protection information takes: the call's expected tag (R186, R188). -/
def Thread.appTag (t : Thread) : Nat := ((t.calls.head?).map (fun c => bits (c.words.getD 1 0).toNat 16 16)).getD
  (if t.native then bits (t.reg 1).toNat 16 16 else 0)

/-- One block of a FETCH from ARRAY: the newest version in the hoop, else the mapped location, else zeros with their
protection information (R91, R131, R188, R249). -/
def State.fetchBlock (s : State) (th id h first k a blk : Nat) : State :=
  let fmt := (s.arr a).pifmt
  match s.hoopBlock a blk with
  | some x => (s.setRunInfo th h (first + k) x).noteXfer th id 0 false (if x.marked fmt then 0x0203 else 0)
  | none =>
    match s.checkedEntry a (blk / s.gblk a) with
    | (s1, none) => ((s1.setRunInfo th h (first + k) (s1.freeInfo.poison fmt)).bumpFree).noteXfer th id 0 false 0x0203
    | (s1, some low) =>
      if mePga low = pgaNone then
        (s1.setRunInfo th h (first + k) (zeroBlock fmt (s1.thr th).appTag blk)).noteXfer th id 0 false 0
      else s1.readBlock th id k a blk (mePga low)

/-- An earlier STORE COMMIT of the thread still waits with a block that satisfies `hit` (R264). -/
def State.commitBefore (s : State) (th id : Nat) (hit : Staged → Bool) : Bool :=
  (s.thr th).asyncs.any (fun o => decide (o.id < id) && (match o.wait with | .commit l _ => l.any hit | _ => false))

/-- The same, with a block of array `a` among `n` from `blk` on. -/
def State.behindCommit (s : State) (th id a blk n : Nat) : Bool :=
  s.commitBefore th id (fun (x : Staged) => x.array == a && decide (blk ≤ x.block ∧ x.block < blk + n))

/-- Blocks of HOOP to a run; the second component is the outcome: those absent are zero-filled and counted (R249). -/
def State.takeHoop (s : State) (th h first a blk n : Nat) : State × Nat :=
  (s.putInfos th h first ((List.range n).map (fun k => (s.hoopBlock a (blk + k)).getD (infoReset 0))),
    2 ^ 32 * (((List.range n).filter (fun k => (s.hoopBlock a (blk + k)).isNone)).length % 65536))

/-- A FETCH that stood behind a STORE COMMIT takes its blocks (R249, R264). -/
def State.runBehind (s : State) (th : Nat) (o : AsyncOp) : State :=
  match o.xfer with
  | none => s
  | some f =>
    if s.behindCommit th o.id f.array f.addr f.count then s
    else if f.space = 3 then
      let r := s.takeHoop th f.handle f.first f.array f.addr f.count
      r.1.asyncDone th o.id r.2
    else (List.range f.count).foldl (fun s k => s.fetchBlock th o.id f.handle f.first k f.array (f.addr + k))
      (s.setThr th ((s.thr th).mapAsync o.id (fun x => { x with wait := .sled [] })))

/-- FETCH from ARRAY (R249, R250), behind an earlier STORE COMMIT of the same blocks (R264). -/
def State.fetchArray (s : State) (th : Nat) (i : IWord) : State :=
  let t := s.thr th
  let a := bits (t.reg i.c).toNat 0 4
  let blk := (t.reg i.a).toNat
  let len := (t.reg i.b).toNat
  let n := len / 4096
  let st := s.arrayStatus th a blk n
  if i.runFault t len 4096 ≠ 0 then s.faultAt th (i.runFault t len 4096)
  else if st ≠ 0 ∨ n = 0 then s.moveOp th i .done st [i.h] [] (i.xfer t n a)
  else if s.behindCommit th t.nextId a blk n then s.moveOp th i .behind 0 [i.h] [] (i.xfer t n a)
  else (List.range n).foldl (fun s k => s.fetchBlock th t.nextId i.h i.first k a (blk + k))
    (s.moveOp th i (.sled []) 0 [i.h] [] (i.xfer t n a))

/-- FETCH from HOOP: blocks present are copied, the others are zero-filled and counted (R249), behind an earlier STORE COMMIT of the
same blocks (R264). -/
def State.fetchHoop (s : State) (th : Nat) (i : IWord) : State :=
  let t := s.thr th
  let a := bits (t.reg i.c).toNat 0 4
  let blk := (t.reg i.a).toNat
  let len := (t.reg i.b).toNat
  let n := len / 4096
  let r := s.takeHoop th i.h i.first a blk n
  if i.runFault t len 4096 ≠ 0 then s.faultAt th (i.runFault t len 4096)
  else if s.behindCommit th t.nextId a blk n then s.moveOp th i .behind 0 [i.h] [] (i.xfer t n a)
  else r.1.moveOp th i .done r.2 [i.h] [] (i.xfer t n a)

/-- The fault of a DRAM transfer of FETCH or STORE, 0 for none (R244, R245). -/
def State.dramFault (s : State) (t : Thread) (i : IWord) : Nat :=
  let a := (t.reg i.a).toNat
  let len := (t.reg i.b).toNat
  if t.run i.h = [] then 0x0405
  else if a % 8 ≠ 0 ∨ len % 8 ≠ 0 ∨ s.dramBytes < a + len then 0x0406
  else if 4096 * (t.run i.h).length < 4096 * i.first + len then 0x0405
  else 0

/-- Copy `n` words of 8 bytes from DRAM into a run's data from byte `off` on. -/
def State.dramToRun (s : State) (th h addr off : Nat) : Nat → State
  | 0 => s
  | n + 1 => (s.setRunWord th h off (s.dram.readWord addr)).dramToRun th h (addr + 8) (off + 8) n

/-- FETCH from DRAM: bytes are copied; a block that touches a line with the poison code is marked (R249, R344). -/
def State.fetchDram (s : State) (th : Nat) (i : IWord) : State :=
  let t := s.thr th
  let a := (t.reg i.a).toNat
  let len := (t.reg i.b).toNat
  let f := i.xfer t (ceilDiv len 4096) 0
  if s.dramFault t i ≠ 0 then s.faultAt th (s.dramFault t i)
  else
    let s1 := s.dramToRun th i.h a (4096 * i.first) (len / 8)
    let s2 := (List.range (ceilDiv len 4096)).foldl (fun s k =>
      if s.dramPoisoned (a + 4096 * k) (min 4096 (len - 4096 * k)) then
        s.setRunInfo th i.h (i.first + k) ((s.runInfo th i.h (i.first + k)).poison 0)
      else s) s1
    s2.moveOp th i .done 0 [i.h] [] f

/-- A media address as its parts: array, band, stripe, column; none with a reserved bit set (R246). -/
def mediaParts (m : Nat) : Option (Nat × Nat × Nat × Nat) :=
  if bits m 4 4 = 0 ∧ bits m 29 3 = 0 ∧ bits m 62 2 = 0 then some (bits m 0 4, bits m 8 21, bits m 32 24, bits m 56 6) else none

/-- FETCH from SLED: steps 0 to 9 of R177, and 10 and 11 with ASSIST (R246, R249, R250). -/
def State.fetchSled (s : State) (th : Nat) (i : IWord) : State :=
  let t := s.thr th
  let off := bits (t.reg i.b).toNat 0 32
  let len := bits (t.reg i.b).toNat 32 32
  let n := len / 4096
  match mediaParts (t.reg i.a).toNat with
  | none => s.faultAt th 0x0406
  | some (a, b, st, col) =>
    let img := s.bandImg a b
    let mode := if thDevWork th then 0 else s.dataStatus
    if i.runFault t len 4096 ≠ 0 then s.faultAt th (i.runFault t len 4096)
    else if off % 4096 ≠ 0 ∨ pkZ img < off + len ∨ pkW img ≤ col ∨ (s.band a b).state = .free ∨ s.bandStripes a b ≤ st then
      s.faultAt th 0x0406
    else if mode ≠ 0 ∨ n = 0 then s.moveOp th i .done mode [i.h] [] (i.xfer t n a)
    else (List.range n).foldl (fun s k => s.startJob (ReadJob.make (.fetch th t.nextId k none) a b st (off / 4096 + k) [col] (i.ib 14)))
      (s.moveOp th i (.sled []) 0 [i.h] [] (i.xfer t n a))

/-- The host transfer at a thread's PC needs more tags than are free: it waits for them (R329, R340). -/
def State.tagStall (s : State) (th : Nat) (need : Nat) : Bool :=
  s.executes th && decide ((iword (s.curWord th)).mode ≤ 1) && decide (s.tagsFree (s.thEp th) < need)

/-- FETCH (R249, R250). -/
def execFetch (th : Nat) (s : State) : Host.Outcome State Fault Refusal :=
  .next (if s.tagStall th 1 then s else s.issue th (fun i => i.op == 0x38) (fun i s =>
    match i.mode with
    | 0 => s.fetchHost th i
    | 1 => s.fetchHost th i
    | 2 => s.fetchArray th i
    | 3 => s.fetchHoop th i
    | 4 => s.fetchDram th i
    | _ => s.fetchSled th i))

/-! ## STORE -/

/-- Host bytes of one block of a STORE (R249). -/
def Info.hostBytes (fmt : Nat) (piint side : Bool) (x : Info) : List Byte :=
  if side then (piBytes x.pi).take (piHostBytes fmt)
  else x.data.readBytes 0 4096 ++ (if piint then (piBytes x.pi).take (piHostBytes fmt) else [])

/-- STORE to a host space: transfers split at block boundaries, EP on the data of marked blocks (R191, R251). -/
def State.storeHost (s : State) (th : Nat) (i : IWord) : State :=
  let t := s.thr th
  let a := bits (t.reg i.c).toNat 0 4
  let fmt := (s.arr a).pifmt
  let unit := hostBlock fmt (i.ib 12) (i.ib 13)
  let len := (t.reg i.b).toNat
  let n := len / max 1 unit
  let f := i.xfer t n a
  if s.hostFault th i ≠ 0 then s.faultAt th (s.hostFault th i)
  else if len = 0 then s.moveOp th i .done 0 [] [i.h] f
  else if s.hostOutcome th i true ≠ 0 then
    (s.moveOp th i .done (s.hostOutcome th i true) [] [i.h] f).countDeny (s.hostOutcome th i true)
  else
    let s1 := s.moveOp th i (.host []) 0 [] [i.h] f
    let s2 := (List.range n).foldl (fun s k =>
      let x := s.runInfo th i.h (i.first + k)
      s.hostWrite (s.thEp th) (.thread th t.nextId) ((t.reg i.a).toNat + unit * k) (i.mode == 1)
        (x.marked fmt && !i.ib 13) (x.hostBytes fmt (i.ib 12) (i.ib 13))) s1
    if s2.hostTags.any (fun e => e.2.reader == .thread th t.nextId) then s2 else s2.asyncDone th t.nextId 0

/-- STORE to DRAM (R245, R251). -/
def State.storeDram (s : State) (th : Nat) (i : IWord) : State :=
  let t := s.thr th
  let len := (t.reg i.b).toNat
  if s.dramFault t i ≠ 0 then s.faultAt th (s.dramFault t i)
  else
    let bs := (List.range (len / 8)).flatMap (fun k => leBytes 8 (s.runWord th i.h (4096 * i.first + 8 * k)).toNat)
    (s.dramWrite (t.reg i.a).toNat bs).moveOp th i .done 0 [] [i.h] (i.xfer t (ceilDiv len 4096) 0)

/-- STORE to HOOP with STAGE: the run's blocks enter the thread's staging area (R251); a block marked on its way carries the signature of
the array's format (R190). -/
def State.stage (s : State) (th : Nat) (i : IWord) : State :=
  let t := s.thr th
  let a := bits (t.reg i.c).toNat 0 4
  let len := (t.reg i.b).toNat
  let n := len / 4096
  if i.runFault t len 4096 ≠ 0 then s.faultAt th (i.runFault t len 4096)
  else if 1024 < t.staged.length + n then s.faultAt th 0x0406
  else
    let l := (List.range n).map (fun k =>
      ({ array := a, block := (t.reg i.a).toNat + k, info := (s.runInfo th i.h (i.first + k)).remark (s.arr a).pifmt } : Staged))
    (s.setThr th { t with staged := t.staged ++ l }).moveOp th i .done 0 [] [i.h] (i.xfer t n a)

/-- STORE to a host space, to DRAM, or to the hoop's staging area (R251). -/
def execStoreStage (th : Nat) (s : State) : Host.Outcome State Fault Refusal :=
  .next (if s.tagStall th (((s.thr th).run (iword (s.curWord th)).h).length) then s
    else s.issue th (fun i => i.op == 0x39 && !(i.mode == 3 && i.im 6 2 == 1)) (fun i s =>
      match i.mode with
      | 0 => s.storeHost th i
      | 1 => s.storeHost th i
      | 4 => s.storeDram th i
      | _ => s.stage th i))

/-- STORE with COMMIT: every staged block of the thread enters the hoop together once R84 holds for all of them (R84, R86,
R251). -/
def execStoreCommit (th : Nat) (s : State) : Host.Outcome State Fault Refusal :=
  .next (s.issue th (fun i => i.op == 0x39 && i.mode == 3 && i.im 6 2 == 1) (fun i s =>
    let t := s.thr th
    let st := s.commitStatus t.staged
    let s0 := s.setThr th { t with staged := [] }
    if st ≠ 0 ∨ t.staged = [] then s0.async th i .done (if t.staged = [] then 0 else st) [] []
    else
      let s1 := s0.mirrorBlocks t.staged
      let s2 := (s1.async th i (.commit t.staged s1.pair.mirSeq) 0 [] []).beginBankWait th
      match (s2.thr th).async? t.nextId with
      | some o => (s2.tryCommit th o).drive
      | none => s2))

/-! ## EMIT -/

/-- Add a data word at a position of the strip as column `col`'s contribution to a thread's parity context (R49, R187,
R254): a block whose guard fails takes the poison signature first. -/
def State.contribute (s : State) (th : Nat) (img : List Byte) (fmt col k : Nat) (x : Info) : State :=
  match (s.thr th).ctx, pkRole img col with
  | some c, .data i =>
    let y := x.sealed fmt
    (List.zip c.handles (pkParityCols img)).foldl (fun s e =>
      let q := parityCoeff img (pkRole img e.2) i
      if q = 0 then s else s.setRunInfo th e.1 k ((s.runInfo th e.1 k).addScaled q y)) s
  | _, _ => s

/-- Contributions of a whole strip, with a deferred error for each block that fails its guard (R187). -/
def State.contributeAll (s : State) (th a : Nat) (img : List Byte) (fmt col : Nat) (l : List Info) : State :=
  (List.zip (List.range l.length) l).foldl (fun s e =>
    let s1 := s.contribute th img fmt col e.1 e.2
    if e.2.guardOk fmt || e.2.marked fmt then s1 else s1.logOpen clsDeferred 10 a 0) s

/-- The information words a source gives: a run, or the gather list's DRAM addresses (R252). -/
def State.emitWords (s : State) (th : Nat) (i : IWord) (n : Nat) : List Info :=
  if i.ib 3 then s.runInfos th i.h
  else (List.range n).map (fun k => s.dramInfo (s.dram.readWord (((s.thr th).reg i.a).toNat + 8 * k)).toNat)

/-- EMIT: ISSUED made durable, then the PROGRAM sent (R90 step 4, R252). A SYN contribution is absorbed at issue (log entry 84). -/
def execEmit (th : Nat) (s : State) : Host.Outcome State Fault Refusal :=
  .next (s.issue th (fun i => i.op == 0x3A) (fun i s =>
    let t := s.thr th
    let e := (t.reg i.c).toNat
    let col := (t.reg i.b).toNat
    let x := s.centry e
    let img := s.bandImg x.array x.band
    let n := pkZ img / 4096
    if couchingSize ≤ e ∨ pkW img ≤ col ∧ x.state = 1 then s.faultAt th 0x0406
    else if i.ib 4 && t.ctx.isNone then s.faultAt th 0x0406
    else if i.ib 3 && decide (t.run i.h = []) then s.faultAt th 0x0405
    else if x.state ≠ 1 then s.async th i .done 0x0305 [] []
    else if i.ib 5 && x.ipnext == 0xFFFFFFFF then s.faultAt th 0x0406
    else if i.ib 3 && decide ((t.run i.h).length ≠ n) then s.faultAt th 0x0405
    else if !i.ib 3 && decide ((t.reg i.a).toNat % 8 ≠ 0 ∨ s.dramBytes < (t.reg i.a).toNat + 8 * n) then s.faultAt th 0x0406
    else
      let syn := i.ib 4 && (match pkRole img col with | .data _ => true | _ => false)
      let words := if syn then (s.emitWords th i n).map (Info.sealed (s.arr x.array).pifmt) else s.emitWords th i n
      let s1 := if i.ib 4 then s.contributeAll th x.array img (s.arr x.array).pifmt col (s.emitWords th i n) else s
      let s2 := s1.setCentry e { x with issued := putBit x.issued col true }
      let rd := if i.ib 3 then [i.h] else []
      if s2.durableAt s2.pair.mirSeq then
        (s2.async th i (.emit e col) 0 [] rd).sendProgram th t.nextId e col (i.ib 5) 0 words
      else s2.async th i (.emitHeld s2.pair.mirSeq e col (i.ib 5) words) 0 [] rd))

end Sys2Proof.Machine
end

