-- ==== Sys2Proof/Machine/RegOps.lean ====
section
/-! DEFINITION. How a register write is served (R12 to R15, R23, R35, R457, R458): the gate every write passes, what it stores
by access type, and the values that a register's own row brings into range. -/

namespace Sys2Proof.Machine

/-- SRC and UNIT of a notice about an offset (R442). -/
def srcOf (off : Nat) : Nat × Nat :=
  match blockOf off with
  | .global => (0, 0xFFFF)
  | .other => (0, 0xFFFF)
  | .rings => (2, (off - 0x10000) / 0x40 % 1024)
  | .doorbells => (2, (off - 0x100000) / 16)
  | .windows => (1, 0xFFFF)
  | .shuttle => (1, 0xFFFF)
  | .mapCache => (4, 0xFFFF)
  | .hoop => (5, 0xFFFF)
  | .arrays => (10, (arrayOf off).getD 0xFFFF)
  | .bobbin => (6, if off < 0x220000 then (off - 0x200000) / 0x1000 else 0xFFFF)
  | .pair => (7, 0xFFFF)
  | .fed => (8, 0xFFFF)
  | .power => (9, 0xFFFF)
  | .health => (0, 0xFFFF)
  | .clusters => (3, (off - 0x600000) / 0x40000)

/-- Log a register notice (R443, R494). -/
def State.regNotice (s : State) (code off : Nat) (value : Word) (detail : Nat := 0) : State :=
  s.notice (srcOf off).1 (srcOf off).2 code off value.toNat detail

/-- A register that an offset lies in: its 8-byte offset. -/
def regBase (off : Nat) : Nat := off / 8 * 8

/-- The write reaches a register that is served now: size and alignment (R12), mode (R35), presence (R7, R458). -/
def State.served (s : State) (off : Nat) : Bool :=
  blockServed s.mode.cur (blockOf off) && !s.absentAt off && (rowAt (regBase off)).isSome

/-- A register write under the mode in force when it takes effect (R23): nothing reaches the device in Flush; Halted ignores
it, a mode request too, which sets no REQ_ERR though R37 lists Halted among the refused ones (DESIGN CHOICE, log entry 83: R23 and
R35 over R37); a size or alignment that R12 excludes, or an offset not served, discards it; every discard is logged. -/
def State.gate (s : State) (off size : Nat) (value : Word) (k : State → State) : State :=
  if s.hostDown then s
  else if s.mode.cur = .halted then s.regNotice 1 off value
  else if ¬ (size = 4 ∨ size = 8) ∨ off % size ≠ 0 then s.regNotice 2 off value
  else if !s.served off then s.regNotice 1 off value
  else k s

/-- The bits of the register that a write of `size` bytes at `off` covers. -/
def writtenMask (off size : Nat) : Nat :=
  if size = 8 then 2 ^ 64 - 1 else if off % 8 = 4 then (2 ^ 32 - 1) * 2 ^ 32 else 2 ^ 32 - 1

/-- The value written, at its place in the register. -/
def writtenValue (off size : Nat) (value : Word) : Nat :=
  if size = 8 then value.toNat else if off % 8 = 4 then value.toNat % 2 ^ 32 * 2 ^ 32 else value.toNat % 2 ^ 32

/-- The bits of the fields that satisfy `p`. -/
def fieldMask (off : Nat) (p : Access → Bool) : Nat :=
  match rowAt off with
  | some r => (r.fields.filter (fun x => p x.access)).foldl (fun m x => m ||| ((2 ^ x.width - 1) * 2 ^ x.lo)) 0
  | none => 0

/-- A command register acts on an 8-byte write, or on a 4-byte write of the half that holds its command field, `hi` for the
upper half; the other half's fields are then zero. A write of the wrong half is discarded and logged (R12). -/
def State.command (s : State) (off size : Nat) (value : Word) (hi : Bool) (k : Nat → State → State) : State :=
  s.gate off size value (fun s =>
    if size = 4 ∧ (off % 8 = 4) ≠ (hi = true) then s.regNotice 2 off value
    else k (writtenValue off size value) s)

/-- DEV_LOCK is set (R462). -/
def State.locked (s : State) : Bool := s.flag F.DEV_LOCK_LOCK

/-- Values that a row brings into range when it is written (R12; the Registers sections), applied to the register's new
value `v`. -/
def clampReg (off v : Nat) : Nat :=
  let fit (lo width a b : Nat) (v : Nat) : Nat := putBits v lo width (clamp a b (bits v lo width))
  if off = R.HOOP_DIRTY_LIMIT then fit 0 17 1 65536 v
  else if off = R.HOOP_AGE then fit 0 32 1000000 (2 ^ 32 - 1) v
  else if off = R.CLOG_SYNC then fit 0 32 100000 10000000 v
  else if off = R.PAIR_TMO then fit 0 32 100000 (2 ^ 32 - 1) v
  else if off = R.PWR_PF then fit 0 10 700 950 v
  else if off = R.BAY_CTL then fit 0 6 1 63 v
  else if off = R.ARR_MTMO then fit 40 8 1 255 (fit 32 8 1 255 v)
  else if 0x600000 ≤ off ∧ off < 0x800000 ∧ off % 0x40000 = 0x108 then fit 0 32 10000 (2 ^ 32 - 1) v
  else match arrayOf off with
    | some a =>
      if off = R.ARR_GC_CTL a then putBits v 16 16 (min (bits v 16 16) (bits v 0 16))
      else if off = R.ARR_RB_CTL a ∨ off = R.ARR_RS_CTL a then
        let w := fit 0 10 0 1000 v
        putBits w 16 10 (max (bits w 0 10) (min 1000 (bits w 16 10)))
      else v
    | none => v

/-- What a served write leaves in a register: RW and RWS bits take the value, RWL bits while DEV_LOCK is clear, RW1C bits
written 1 clear; RO, WO and reserved bits keep theirs (R13, R14). -/
def State.stored (s : State) (off size : Nat) (value : Word) : Nat :=
  let b := regBase off
  let m := writtenMask off size
  let v := writtenValue off size value
  let rw := fieldMask b (fun a => a == .rw || a == .rws || (a == .rwl && !s.locked)) &&& m
  let clr := fieldMask b (fun a => a == .rw1c) &&& m &&& v
  let old := (s.reg b).toNat
  let keep := old - (old &&& rw)
  let new := keep ||| (v &&& rw)
  clampReg b (new - (new &&& clr))

/-- Store a served write. -/
def State.storeReg (s : State) (off size : Nat) (value : Word) : State :=
  s.setReg (regBase off) (BitVec.ofNat 64 (s.stored off size value))

/-- A write that touches an RWL field while DEV_LOCK is set is ignored there and logged (R13, R462, R494). -/
def State.lockedWrite (s : State) (off size : Nat) : Bool :=
  let m := fieldMask (regBase off) (fun a => a == .rwl) &&& writtenMask off size
  s.locked && m != 0

end Sys2Proof.Machine
end

