-- ==== Sys2Proof/Machine/EntryOps.lean ====
section
/-! DEFINITION. Ring entries: reserved argument bits of the Pattern Book (R277), the checks of a fetched entry (R292 to R295,
R301), its place in a batch (R304), and its dispatch to a call thread (R238, R293, R300). -/

namespace Sys2Proof.Machine

/-- All ones from bit `n` up. -/
def highBits (n : Nat) : Nat := 2 ^ 64 - 2 ^ n

/-- The reserved bits of argument words 1 to 7 of a Pattern Book index (R277, R279, R282 to R285; log entry 21); none where
the index is no Pattern Book call. -/
def bookMask (p : Nat) : Option (List Nat) :=
  let all := highBits 0
  let block (w1 w3 w4 w5 : Nat) : List Nat := [w1, highBits 48, w3, w4, w5, all, all]
  match p with
  | 0x001 => some (block (0xF0 + 0xF800 + highBits 50) (highBits 32) 0 0)
  | 0x002 => some (block (0xF0 + 0xF800 + highBits 50) (highBits 33) 0 0)
  | 0x003 => some [highBits 4, all, all, all, all, all, all]
  | 0x004 => some (block (0xFFF0 + highBits 50) (highBits 32) all all)
  | 0x005 => some (block (0xF0 + 0xF800 + highBits 50) (highBits 32) all all)
  | 0x006 => some (block (0xF0 + highBits 9) (highBits 32) all all)
  | 0x008 => some [0xF0 + highBits 10, all, all, all, all, all, all]
  | 0x010 => some [highBits 7, all, all, all, all, all, all]
  | 0x011 => some [highBits 10, highBits 40, highBits 21, 0, highBits 5, all, all]
  | 0x012 => some [highBits 4, all, all, all, all, all, all]
  | 0x013 => some [highBits 4, highBits 40, all, all, all, all, all]
  | 0x014 => some [highBits 16, all, all, all, all, all, all]
  | 0x015 => some [all, all, all, all, all, all, all]
  | 0x018 => some [highBits 5, 0, all, all, all, all, all]
  | 0x019 => some [highBits 5, all, all, all, all, all, all]
  | 0x01A => some [highBits 5, all, all, all, all, all, all]
  | 0x01B => some [highBits 5, all, all, all, all, all, all]
  | 0x020 => some [0, highBits 32, all, all, all, all, all]
  | 0x021 => some [highBits 12, all, all, all, all, all, all]
  | _ => none

/-- A mask is in force (R287). -/
def maskReset (_ : Nat) : Bool := false

/-- The mask that ring fetch holds for an index: cleared when a program without VERSION bit 63 replaced it (R277, R287). -/
def State.argMask (s : State) (p : Nat) : List Nat :=
  if Tbl.get maskReset s.maskCleared p then [] else (bookMask p).getD []

/-- Argument word `k` of an entry as a number. -/
def argWord (ws : List Word) (k : Nat) : Nat := (ws.getD k 0).toNat

/-- The argument words that the entry itself uses: 1 to 5 on an in-place ring, 1 to 7 else (R304). -/
def argLast (inplace : Bool) : Nat := if inplace then 5 else 7

/-- PIADDR is reserved: in READ and WRITE of an array of format 0, and with PISEP and ACT 0 (R277, R279). -/
def State.piaddrReserved (s : State) (p w1 : Nat) : Bool :=
  let fmt0 := s.arrExists (bits w1 0 4) && (s.arr (bits w1 0 4)).pifmt == 0
  (p == 1 || p == 2) && !Tbl.get maskReset s.maskCleared p && (fmt0 || (!bit w1 48 && !bit w1 8))

/-- The malformed condition an entry meets first, 0 for none (R292 to R295, R301). -/
def State.entryFault (s : State) (r : Nat) (ws : List Word) : Nat :=
  let w0 := argWord ws 0
  let kind := bits w0 0 4
  let inplace := s.flag (F.CQ_CTL_INPLACE (s.cqOf r))
  let words := List.range (argLast inplace)
  let pat := bits w0 32 16
  let call := kind == 1 || kind == 2
  let area := inplace && (argWord ws 6 != 0 || argWord ws 7 % 2 ^ 63 != 0)
  let fields := bits w0 4 4 != 0 || bits w0 10 6 != 0 || bits w0 48 16 != 0
  let args := if call then words.any (fun k => (argWord ws (k + 1) &&& (s.argMask pat).getD k 0) != 0) ||
        (s.piaddrReserved pat (argWord ws 1) && argWord ws 5 != 0)
    else bits w0 32 16 != 0 || words.any (fun k => argWord ws (k + 1) != 0)
  let len := bits (argWord ws 1) 0 8
  let limit := if inplace then 32 else 48
  let payload := (List.range limit).map (fun k => bits (argWord ws (2 + k / 8)) (8 * (k % 8)) 8)
  if 3 < kind then 1
  else if fields || area || args then 2
  else if call && (decide (4096 ≤ pat) || !ptValid (s.masterEntry pat)) then 3
  else if kind == 2 && (decide (limit < len) || (payload.drop len).any (fun b => b != 0)) then 4
  else 0

/-- Put a fetched entry into its batch (R304): the last one while it is open, else a new one. -/
def addToBatch (bs : List Batch) (e : BatchEntry) (last : Bool) : List Batch :=
  match bs.getLast? with
  | some b =>
    if b.closed then bs ++ [{ entries := [e], closed := last }]
    else bs.dropLast ++ [{ entries := b.entries ++ [e], closed := last || decide (65535 ≤ b.entries.length) }]
  | none => [{ entries := [e], closed := last }]

/-- A checked entry joins the fetched ones; HEAD passes it (R299, R300). -/
def State.acceptEntry (s : State) (r : Nat) (e : Entry) : State :=
  let w0 := argWord e.words 0
  let inplace := s.flag (F.CQ_CTL_INPLACE (s.cqOf r))
  let be : BatchEntry := { index := e.index, num := (s.sub r).count, tag := bits w0 16 16, irq := bit w0 9, done := none }
  let x := s.sub r
  ((s.setSub r { x with count := x.count + 1, fetched := x.fetched ++ [{ e with num := x.count }], reads := x.reads.drop 1,
                        batches := addToBatch x.batches be (bit w0 8 || inplace) }).setF (F.SQ_IDX_DEVIDX r)
    (ringNext (s.sqSize r) e.index)).fenceSync r

/-- Entries whose data has come are taken in ring order. -/
def State.takeEarly (s : State) (r : Nat) : Nat → State
  | 0 => s
  | n + 1 =>
    match (s.sub r).reads with
    | [] => s
    | i :: _ =>
      match (s.sub r).early.find? (fun e => e.index == i) with
      | none => s
      | some e =>
        ((s.setSub r { s.sub r with early := (s.sub r).early.filter (fun x => x.index != i) }).acceptEntry r e).takeEarly r n

/-- The bytes of an entry as its eight words. -/
def entryWords (bs : List Byte) : List Word := (List.range 8).map (fun k => BitVec.ofNat 64 (leNat ((bs.drop (8 * k)).take 8)))

/-- The read of entry `index` of ring `r` ends (R301, R340): a failed read or a malformed entry halts the device. -/
def State.entryArrived (s : State) (r index : Nat) (res : HostResult) : State :=
  if !(s.sub r).reads.contains index then s
  else match res with
    | .data bs poisoned =>
      if poisoned ≠ [] then ((s.satF F.HE_XERR_POISON).aer (s.ringEp r) .poisonedTlp .nonFatal).ringHalt 7 false r index
      else
        let ws := entryWords bs
        let f := s.entryFault r ws
        if f ≠ 0 then s.ringHalt f false r index
        else
          let x := s.sub r
          (s.setSub r { x with early := x.early ++ [{ index, num := 0, words := ws }] }).takeEarly r 64
    | _ => (s.satF F.HE_XERR_URCA).ringHalt 7 false r index

/-- Modes in which entries are fetched, outside drains, a closed intake, throttle level 3 and an asserted PERST0# (R35, R42,
R300, R439, R486). -/
def State.fetchOpen (s : State) : Bool :=
  (match s.mode.cur with | .standby | .active | .maintenance | .witness => true | _ => false) &&
    !s.mode.draining && !s.pair.intakeClosed && decide (s.f F.TEMP_STAT_LEVEL < 3) && !s.hw.perst0 && s.hw.powered

/-- Entries on offer in ring `r` that fetch may take now (R299, R300, R306, R311, R353). -/
def State.fetchable (s : State) (r : Nat) : Nat :=
  let x := s.sub r
  if s.flag (F.SQ_CTL_EN r) && !s.flag (F.SQ_STAT_FETCH_STOP r) && s.hostReady (s.ringEp r) then
    min (min 8 (64 - (x.fetched.length + x.reads.length)))
      (ringSub (s.sqSize r) (s.sqTail r) (s.sqHead r) - x.reads.length)
  else 0

/-- Index `k` places after HEAD. -/
def ringPlus (size x k : Nat) : Nat := (x + k) % (2 * size)

/-- Send the read of the next entry of ring `r`, if a tag is free (R300). -/
def State.fetchOne (s : State) (r : Nat) : State :=
  let i := ringPlus (s.sqSize r) (s.sqHead r) (s.sub r).reads.length
  match s.hostRead (s.ringEp r) (.fetchRing r i) (4096 * s.f (F.SQ_BASE_ADDR r) + 64 * (i % s.sqSize r)) 64
      (s.flag (F.SQ_CTL_ATS r)) with
  | (s1, true) =>
    (s1.setSub r { s1.sub r with reads := (s1.sub r).reads ++ [i] }).incF (F.SQ_STAT_INFLIGHT r)
  | (s1, false) => s1

/-- Send up to `n` reads. -/
def State.fetchMany (s : State) (r : Nat) : Nat → State
  | 0 => s
  | n + 1 => (s.fetchOne r).fetchMany r n

/-! ## Dispatch -/

/-- The first entry of a ring that is fetched and not dispatched. -/
def State.nextEntry (s : State) (r : Nat) : Option Entry := (s.sub r).fetched.head?

/-- Kind of an entry. -/
def Entry.kind (e : Entry) : Nat := bits (argWord e.words 0) 0 4

/-- Start a call thread for a dispatched entry (R238). -/
def State.startCall (s : State) (r th : Nat) (e : Entry) : State :=
  let inplace := s.flag (F.CQ_CTL_INPLACE (s.cqOf r))
  let p := bits (argWord e.words 0) 32 16
  let g := (List.range 7).map (fun k => if inplace && decide (5 ≤ k) then (0 : Word) else e.words.getD (k + 1) 0)
  let s1 := s.startThread th p g (e.words.getD 0 0)
    (BitVec.ofNat 64 (th + 2 ^ 16 * r + 2 ^ 26 * (e.index % s.sqSize r))) (s.f (F.SQ_CTL_PERM r))
  let c : Call := { ring := r, index := e.index, num := e.num, pattern := p, words := e.words, batch := 0 }
  s1.setThr th { s1.thr th with calls := [c], ring := r }

/-- Dispatch the next entry of a ring if its kind is `ok`: a free call thread of the ring's cluster starts its program; an index
unloaded meanwhile completes with 0x0406 (R238, R293, R300). -/
def State.dispatch (s : State) (r : Nat) (ok : Nat → Bool) : State :=
  match s.nextEntry r with
  | none => s
  | some e =>
    if !(ok e.kind && (e.kind == 1 || e.kind == 2) && s.callsRun) then s
    else
      let c := s.f (F.SQ_CTL_CLUSTER r)
      let s1 := s.setSub r { s.sub r with fetched := (s.sub r).fetched.drop 1 }
      if !ptValid (s.ptab c (bits (argWord e.words 0) 32 16)) then
        if s.holdRoom (s.cqOf r) 1 then s1.completeEntry r e.num 0x0406 0 else s
      else match s.freeThread c false with
        | some th => s1.startCall r th e
        | none => s

end Sys2Proof.Machine
end

