-- ==== Sys2Proof/Machine/Rings.lean ====
section
/-! DEFINITION. The rings: doorbells (R296, R297), fetch and its entries (R293, R294, R300, R301), coalescing (R308), enabling
and disabling (R310, R311). -/

namespace Sys2Proof.Machine

/-! ## Doorbells -/

/-- The doorbell's effect where it is accepted, and the device halt where it is beyond bounds (R297). -/
def State.sqDoorbell (s : State) (r v : Nat) : State :=
  let n := s.sqSize r
  if v < 2 * n ∧ ringSub n v (s.sqTail r) ≤ n - ringSub n (s.sqTail r) (s.sqHead r) then s.setF (F.SQ_IDX_HOSTIDX r) v
  else s.ringHalt 5 false r v

/-- As State.sqDoorbell, for a completion ring; slots that came free take held records (R297, R307). -/
def State.cqDoorbell (s : State) (q v : Nat) : State :=
  let n := s.cqSize q
  if v < 2 * n ∧ ringSub n v (s.cqHead q) ≤ ringSub n (s.cqTail q) (s.cqHead q) then
    (s.setF (F.CQ_IDX_HOSTIDX q) v).holdingFreed q
  else s.ringHalt 6 true q v

/-- A doorbell write of `size` bytes through endpoint `e` (R296 to R298, R327, R35): recorded unchecked in Dormant, ignored in Halted and Flush, discarded where it is no 8-byte write, comes through the other endpoint, or its ring takes none. -/
def State.doorbell (s : State) (cq : Bool) (e r size : Nat) (value : Word) (act : State → State) : State :=
  let off := if cq then R.CQ_DB r else R.SQ_DB r
  let open_ := if cq then s.flag (F.CQ_CTL_EN r) && !s.flag (F.CQ_CTL_INPLACE r) else s.flag (F.SQ_CTL_EN r)
  let e := if s.bifurcated then e % 2 else 0
  if s.hostDown then s
  else if !(s.ep e).open_ then s.aer e .unsupportedRequest .nonFatal
  else if s.mode.cur = .halted then s
  else if size ≠ 8 then s.regNotice 2 off value
  else if s.ringEp r ≠ e then s.regNotice 4 off value
  else if s.mode.cur = .dormant then { s with recorder := s.recorder.insert (2 * r + cq.toNat) value }
  else if !open_ then s.regNotice 4 off value
  else act s

/-- SQ_DB: a new TAIL (R296, R297). -/
def execSqDoorbell (e r size : Nat) (value : Word) (s : State) : Host.Outcome State Fault Refusal :=
  .next (s.doorbell false e (r % 1024) size value (fun s => s.sqDoorbell (r % 1024) value.toNat))

/-- CQ_DB: a new HEAD (R296, R297, R307). -/
def execCqDoorbell (e q size : Nat) (value : Word) (s : State) : Host.Outcome State Fault Refusal :=
  .next (s.doorbell true e (q % 1024) size value (fun s => s.cqDoorbell (q % 1024) value.toNat))

/-- The doorbells recorded in Dormant are checked in address order (R298). -/
def State.replayDoorbells (s : State) : State :=
  s.recorder.foldl (fun s e =>
    let r := e.1 / 2
    if s.mode.cur = .halted then s
    else if e.1 % 2 = 1 then
      if s.flag (F.CQ_CTL_EN r) && !s.flag (F.CQ_CTL_INPLACE r) then s.cqDoorbell r e.2.toNat else s.regNotice 4 (R.CQ_DB r) e.2
    else if s.flag (F.SQ_CTL_EN r) then s.sqDoorbell r e.2.toNat else s.regNotice 4 (R.SQ_DB r) e.2)
    { s with recorder := [] }

/-! ## Fetch -/

/-- Fetch turns to the next ring in round-robin order that offers entries, and takes up to 8 (R300). -/
def execEntryFetch (s : State) : Host.Outcome State Fault Refusal :=
  .next (if !s.fetchOpen then s
    else match ((List.range 1024).map (fun k => (s.fetchLast + 1 + k) % 1024)).find? (fun r => decide (0 < s.fetchable r)) with
      | some r => { s.fetchMany r (s.fetchable r) with fetchLast := r }
      | none => s)

/-- The oldest outstanding entry read of ring `r` ends (R301, R340). -/
def execEntryFetchComplete (r : Nat) (res : HostResult) (s : State) : Host.Outcome State Fault Refusal :=
  .next (match (s.sub r).reads with
    | [] => s
    | i :: _ =>
      match s.hostTags.find? (fun e => e.2.reader == .fetchRing r i && e.2.timedOut.isNone && e.2.xlat.isNone) with
      | some e => { s with hostTags := s.hostTags.erase e.1 }.entryArrived r i res
      | none => s)

/-- THREAD_DISPATCH: the next CALL or INLINE entry of ring `r` starts on a free call thread (R238). -/
def execThreadDispatch (r : Nat) (s : State) : Host.Outcome State Fault Refusal := .next (s.dispatch r (fun _ => true))

/-- A CALL entry is dispatched (R293). -/
def execCallEntry (r : Nat) (s : State) : Host.Outcome State Fault Refusal := .next (s.dispatch r (fun k => k == 1))

/-- An INLINE entry is dispatched with its payload in g2 onward (R294). -/
def execInlineEntry (r : Nat) (s : State) : Host.Outcome State Fault Refusal := .next (s.dispatch r (fun k => k == 2))

/-- A NOP entry is complete once fetched (R293). -/
def execNopEntry (r : Nat) (s : State) : Host.Outcome State Fault Refusal :=
  .next (match (s.sub r).fetched.find? (fun e => e.kind == 0) with
    | some e =>
      if !(s.callsRun && s.holdRoom (s.cqOf r) 1) then s
      else (s.setSub r { s.sub r with fetched := (s.sub r).fetched.filter (fun x => x.num != e.num) }).completeEntry r e.num 0 0
    | none => s)

/-- A FENCE at the front of ring `r` completes once every earlier entry has, and holds the later ones until then (R293). -/
def execFenceEntry (r : Nat) (s : State) : Host.Outcome State Fault Refusal :=
  .next (match s.nextEntry r with
    | some e =>
      if e.kind ≠ 3 ∨ !(s.callsRun && s.holdRoom (s.cqOf r) 1) then s
      else if s.f (F.SQ_STAT_INFLIGHT r) = (s.sub r).fetched.length + (s.sub r).reads.length then
        ((s.setSub r { s.sub r with fetched := (s.sub r).fetched.drop 1 }).fenceSync r).completeEntry r e.num 0 0
      else s
    | none => s)

/-- COAL_T has elapsed since the first unsignalled IRQ record of ring `q` (R308). -/
def execCoalesceTimer (q : Nat) (s : State) : Host.Outcome State Fault Refusal :=
  .next (match (s.cpl q).coalSince with
    | some t =>
      if 1000 * max 1 (s.f (F.CQ_CTL_COAL_T q)) ≤ (s.tbase - t).toNat then s.cqVector q else s
    | none => s)

/-! ## SQ_CTL and CQ_CTL -/

/-- Store the configuration fields of a control register, SIZE_LOG2 brought into 4 to 16; EN keeps its value (R310). -/
def State.storeCtl (s : State) (off size : Nat) (value : Word) (fixup : Nat → Nat) : State :=
  let b := regBase off
  let v := putBits (fixup (s.stored off size value)) 1 5 (clamp 4 16 (bits (s.stored off size value) 1 5))
  s.setReg b (BitVec.ofNat 64 (putBit v 0 (bit (s.reg b).toNat 0)))

/-- A write would change configuration fields of a control register. -/
def State.ctlDiffers (s : State) (off size : Nat) (value : Word) : Bool :=
  s.stored off size value / 2 != (s.reg (regBase off)).toNat / 2

/-- Refuse an enable or disable: EN unchanged, SEQERR set, logged (R310). -/
def State.refuseEn (s : State) (seqerr : Field) (off : Nat) (value : Word) : State :=
  (s.setFlag seqerr true).regNotice 3 off value

/-- The submission ring comes into service: indices S (R291, R310). -/
def State.enableSq (s : State) (r : Nat) : State :=
  let n := s.sqSize r
  let s1 := ((s.setFlag (F.SQ_CTL_EN r) true).setF (F.SQ_IDX_DEVIDX r) n).setF (F.SQ_IDX_HOSTIDX r) n
  let q := s.cqOf r
  let stop := (s.boundTo q).any (fun x => s.flag (F.SQ_STAT_FETCH_STOP x)) || decide (64 ≤ (s.cpl q).holding.length)
  ((((s1.setSub r (subRingReset r)).setF (F.SQ_STAT_INFLIGHT r) 0).incF (F.CQ_STAT_BOUND q)).setFlag (F.SQ_STAT_FETCH_STOP r)
    stop).ltrSync

/-- The submission ring begins its drain, which may end at once (R311). -/
def State.disableSq (s : State) (r : Nat) : State :=
  ((s.setFlag (F.SQ_CTL_EN r) false).setFlag (F.SQ_STAT_DRAINING r) true).inflightDone r 0 |>.ltrSync

/-- A served write of SQ_CTL (R310, R311). -/
def State.writeSqCtl (s : State) (r off size : Nat) (value : Word) : State :=
  let en := s.flag (F.SQ_CTL_EN r)
  let drain := s.flag (F.SQ_STAT_DRAINING r)
  let low := bit (writtenMask off size) 0
  let want := if low then bit (writtenValue off size value) 0 else en
  let s1 := if en || drain then (if s.ctlDiffers off size value then s.regNotice 3 off value else s)
    else s.storeCtl off size value id
  if en && !want then s1.disableSq r
  else if !en && want then
    if drain || !s1.flag (F.CQ_CTL_EN (s1.cqOf r)) || !s1.clusterAvail (s1.f (F.SQ_CTL_CLUSTER r)) then
      s1.refuseEn (F.SQ_STAT_SEQERR r) off value
    else s1.enableSq r
  else s1

/-- A served write of CQ_CTL (R310). -/
def State.writeCqCtl (s : State) (q off size : Nat) (value : Word) : State :=
  let en := s.flag (F.CQ_CTL_EN q)
  let low := bit (writtenMask off size) 0
  let want := if low then bit (writtenValue off size value) 0 else en
  let fix (v : Nat) : Nat := putBits (putBits v 16 8 (max 1 (bits v 16 8))) 32 16 (max 1 (bits v 32 16))
  let s1 := if en then (if s.ctlDiffers off size value then s.regNotice 3 off value else s)
    else s.storeCtl off size value fix
  if en && !want then
    if 0 < s1.f (F.CQ_STAT_BOUND q) ∨ 0 < s1.f (F.CQ_STAT_HOLD q) then s1.refuseEn (F.CQ_STAT_SEQERR q) off value
    else s1.setFlag (F.CQ_CTL_EN q) false
  else if !en && want then
    let s2 := ((s1.setFlag (F.CQ_CTL_EN q) true).setF (F.CQ_IDX_DEVIDX q) (s1.cqSize q)).setF (F.CQ_IDX_HOSTIDX q) (s1.cqSize q)
    s2.setCpl q { cplRingReset 0 with coalN := 0 }
  else s1

/-- A control register written with EN as the row says. -/
def withEn (value : Word) (b : Bool) : Word := BitVec.ofNat 64 (putBit value.toNat 0 b)

/-- SQ_CTL written with EN = 1 (R310). -/
def execSqEnable (r : Nat) (value : Word) (s : State) : Host.Outcome State Fault Refusal :=
  .next (s.gate (R.SQ_CTL (r % 1024)) 8 value (fun s => s.writeSqCtl (r % 1024) (R.SQ_CTL (r % 1024)) 8 (withEn value true)))

/-- SQ_CTL written with EN = 0 (R311). -/
def execSqDisable (r : Nat) (value : Word) (s : State) : Host.Outcome State Fault Refusal :=
  .next (s.gate (R.SQ_CTL (r % 1024)) 8 value (fun s => s.writeSqCtl (r % 1024) (R.SQ_CTL (r % 1024)) 8 (withEn value false)))

/-- CQ_CTL written with EN = 1 (R310). -/
def execCqEnable (q : Nat) (value : Word) (s : State) : Host.Outcome State Fault Refusal :=
  .next (s.gate (R.CQ_CTL (q % 1024)) 8 value (fun s => s.writeCqCtl (q % 1024) (R.CQ_CTL (q % 1024)) 8 (withEn value true)))

/-- CQ_CTL written with EN = 0 (R310). -/
def execCqDisable (q : Nat) (value : Word) (s : State) : Host.Outcome State Fault Refusal :=
  .next (s.gate (R.CQ_CTL (q % 1024)) 8 value (fun s => s.writeCqCtl (q % 1024) (R.CQ_CTL (q % 1024)) 8 (withEn value false)))

end Sys2Proof.Machine
end

