-- ==== Sys2Proof/Machine/Shuttle.lean ====
section
/-! DEFINITION. Shuttle DMA (R313 to R325): descriptor checks, the units of a transfer, completion, bus errors. A transfer whose
data comes from the host moves one 4 KiB unit with each completion; the other transfers move at the command that ends them. -/

namespace Sys2Proof.Machine

/-! ## Spaces (R314) -/

/-- OP, SSPACE, DSPACE and IRQ of a descriptor. -/
def ShtDesc.op (d : ShtDesc) : Nat := bits d.cfg 0 2
/-- Source space. -/
def ShtDesc.ss (d : ShtDesc) : Nat := bits d.cfg 4 3
/-- Destination space. -/
def ShtDesc.ds (d : ShtDesc) : Nat := bits d.cfg 8 3
/-- Completion is signalled. -/
def ShtDesc.irq (d : ShtDesc) : Bool := bit d.cfg 16
/-- FILL reads no source. -/
def ShtDesc.reads (d : ShtDesc) : Bool := d.op != 2

/-- Bytes of the vault. -/
def State.vaultBytes (s : State) : Nat := s.hw.variant.vault16 * 16 * 2 ^ 30

/-- First byte of the vault test area: the vault's last GiB (R314). -/
def State.vaultTest (s : State) : Nat := s.vaultBytes - 2 ^ 30

/-- The valid window entries' targets as page ranges (R314, R331). -/
def State.windowPages (s : State) : List (Nat × Nat) :=
  (List.range 4096).filterMap (fun w =>
    if s.flag (F.WIN_W0_VALID w) then some (s.f (F.WIN_W1_TARGET w), s.f (F.WIN_W1_PAGES w) + 1) else none)

/-- Every byte of a DRAM range lies in the target of a valid window (R314). -/
def State.inWindows (s : State) (addr len : Nat) : Bool :=
  let ws := s.windowPages
  (pagesOf addr len).all (fun p => ws.any (fun w => decide (w.1 ≤ p ∧ p < w.1 + w.2)))

/-- Reserved bits of an address in a space (R314). -/
def shtAddrReserved (sp a : Nat) : Bool :=
  match sp with
  | 2 => a / 2 ^ 40 != 0
  | 3 => a / 2 ^ 27 != 0 || bit a 23 || (bit a 22 && bits a 15 7 != 0)
  | 4 => a / 2 ^ 38 != 0
  | _ => false

/-- A range runs beyond its space (R315). -/
def State.shtBeyond (s : State) (sp a len : Nat) : Bool :=
  match sp with
  | 2 => decide (s.dramBytes < a + len)
  | 3 => !s.clusterAvail (a / 2 ^ 24) || (if bit a 22 then decide (2 ^ 15 < a % 2 ^ 15 + len) else decide (2 ^ 22 < a % 2 ^ 22 + len))
  | 4 => decide (s.vaultBytes < a + len)
  | _ => decide (2 ^ 64 < a + len)

/-- Endpoint of a channel's host accesses (R327). -/
def State.shtEp (s : State) (n : Nat) : Nat := if s.bifurcated && decide (16 ≤ n) then 1 else 0

/-- A space or direction is allowed in the current mode (R314, R353). -/
def State.shtAllowed (s : State) (n sp a : Nat) (write : Bool) : Bool :=
  let m := s.mode.cur == .maintenance
  let any := m || s.mode.cur == .standby || s.mode.cur == .active
  match sp with
  | 0 => any && s.hostReady (s.shtEp n)
  | 1 => any && s.hostReady (s.shtEp n)
  | 2 => any
  | 3 => m
  | _ => if write then m && decide (s.vaultTest ≤ a) else any

/-- A DRAM range must lie within valid windows here (R314). -/
def State.shtNeedsWindow (s : State) (sp : Nat) (write : Bool) : Bool :=
  sp == 2 && (write || s.mode.cur != .maintenance)

/-- The ECODE with which a GO is refused, 0 for none (R315). -/
def State.shtCheck (s : State) (n : Nat) (d : ShtDesc) : Nat :=
  let st := s.f (F.SHT_CH_STAT_STATE n)
  let wr := d.op != 3
  let fillOk := d.op != 2 || (d.src == 0 && d.ss == 0)
  let align := d.src % 8 == 0 && d.dst % 8 == 0 && d.len % 8 == 0 && decide (8 ≤ d.len ∧ d.len ≤ 2 ^ 36)
  let cfgBits := bits d.cfg 2 2 == 0 && bits d.cfg 7 1 == 0 && bits d.cfg 11 5 == 0 && d.cfg / 2 ^ 17 == 0
  if st = 1 ∧ s.flag (F.SHT_CH_STAT_QUEUED n) then 1
  else if 2 ≤ st ∨ s.flag F.SHT_STAT_ALLSTOP then 2
  else if d.op = 0 ∨ 5 ≤ d.ss ∨ 5 ≤ d.ds ∨ !cfgBits ∨ !fillOk ∨ (d.reads && shtAddrReserved d.ss d.src) ∨
      shtAddrReserved d.ds d.dst then 3
  else if !align then 4
  else if (d.reads && s.shtBeyond d.ss d.src d.len) ∨ s.shtBeyond d.ds d.dst d.len then 5
  else if (d.reads && !s.shtAllowed n d.ss d.src false) ∨ !s.shtAllowed n d.ds d.dst wr then 6
  else if (d.reads && s.shtNeedsWindow d.ss false && !s.inWindows d.src d.len) ∨
      (s.shtNeedsWindow d.ds wr && !s.inWindows d.dst d.len) then 7
  else 0

/-! ## Bytes of the local spaces -/

/-- One byte of a skein address (R243, R314). -/
def State.skeinByte (s : State) (a : Nat) : Byte :=
  let c := a / 2 ^ 24
  if bit a 22 then
    let x := s.skein c (a % 2 ^ 15 / 32)
    x.byteAt (4096 + a % 32)
  else (s.skein c (a % 2 ^ 22 / 4096)).data.read (a % 4096)

/-- Write one byte of a skein address. -/
def State.setSkeinByte (s : State) (a : Nat) (b : Byte) : State :=
  let c := a / 2 ^ 24
  if bit a 22 then
    let i := a % 2 ^ 15 / 32
    let x := s.skein c i
    let o := a % 32
    s.setSkein c i (if o < 16 then { x with pi := BitVec.ofNat 128 (putBits x.pi.toNat (8 * o) 8 b.toNat) }
      else { x with mta := BitVec.ofNat 128 (putBits x.mta.toNat (8 * (o - 16)) 8 b.toNat) })
  else
    let i := a % 2 ^ 22 / 4096
    let x := s.skein c i
    s.setSkein c i { x with data := x.data.write (a % 4096) b }

/-- One byte of the vault: its dump and test areas are held; the image area's encoding is not stated (log entry 2). -/
def State.vaultByte (s : State) (a : Nat) : Byte :=
  if s.vaultBytes - 2 ^ 31 ≤ a then s.vault.read a else Config.freeByte s.free a

/-- Read bytes of a local space. -/
def State.shtBytes (s : State) (sp a n : Nat) : List Byte :=
  match sp with
  | 2 => s.dram.readBytes a n
  | 3 => (List.range n).map (fun k => s.skeinByte (a + k))
  | _ => (List.range n).map (fun k => s.vaultByte (a + k))

/-- Write bytes to a space (R314, R318). -/
def State.shtWrite (s : State) (n sp a : Nat) (bs : List Byte) : State :=
  match sp with
  | 0 => s.hostWrite (s.shtEp n) (.shuttle n) a false false bs
  | 1 => s.hostWrite (s.shtEp n) (.shuttle n) a true false bs
  | 2 => s.dramWrite a bs
  | 3 => (List.zip (List.range bs.length) bs).foldl (fun s e => s.setSkeinByte (a + e.1) e.2) s
  | _ => { s with vault := s.vault.writeBytes a bs }

/-! ## Ends of a transfer -/

/-- The Shuttle event vector (R470). -/
def State.shtEvent (s : State) : State := s.raiseEvent 5

/-- A channel halts or stops with an ECODE, ERR set; a queued descriptor is discarded (R320, R321). -/
def State.shtEnd (s : State) (n state ecode : Nat) : State :=
  let s1 := if s.flag (F.SHT_CH_STAT_QUEUED n) then s.setFlag (F.SHT_CH_STAT_DROPPED n) true else s
  (((s1.setF (F.SHT_CH_STAT_STATE n) state).setFlag (F.SHT_CH_STAT_QUEUED n) false).setF (F.SHT_CH_STAT_ECODE n)
    ecode).setFlag (F.SHT_CH_STAT_ERR n) true |>.setChan n (shtReset n) |>.shtForget n

/-- All-stop: every ACTIVE channel stops with ECODE 9, the channel that met the error with 8 (R320). -/
def State.shtAllStop (s : State) (n addr : Nat) : State :=
  let act := (List.range 32).filter (fun k => s.f (F.SHT_CH_STAT_STATE k) == 1)
  let s1 := act.foldl (fun s k => s.shtEnd k 3 9) s
  (((((s1.setF (F.SHT_CH_STAT_ECODE n) 8).setReg (R.SHT_CH_EADDR n) (BitVec.ofNat 64 addr)).setFlag F.SHT_STAT_ALLSTOP true).setF
    F.SHT_STAT_CH n).logDeferred 1 n 0 addr).shtEvent

/-- Host reads of a channel that are outstanding. -/
def State.shtTags (s : State) (n : Nat) : Bool := s.hostTags.any (fun e => e.2.reader == .shuttle n && e.2.timedOut.isNone)

/-- Bytes of the unit at the channel's position. -/
def shtUnitLen (d : ShtDesc) (pos : Nat) : Nat := min 4096 (d.len - pos)

/-- The host access that the unit at the channel's position needs next, as address, ATS and direction: the source's, then the
destination's (R313, R317). -/
def State.shtNeeds (s : State) (n : Nat) (d : ShtDesc) : Option (Nat × Bool × Bool) :=
  let pos := s.f (F.SHT_CH_POS_POS n)
  if d.reads && decide (d.ss ≤ 1) && (s.chan n).data.isNone then some (d.src + pos, d.ss == 1, false)
  else if d.ds ≤ 1 then some (d.dst + pos, d.ds == 1, d.op != 3)
  else none

/-- The next host access cannot be made: the endpoint may not initiate requests (R353), or a cached translation denies it (R345); its
address. -/
def State.shtDenied (s : State) (n : Nat) (d : ShtDesc) : Option Nat :=
  match s.shtNeeds n d with
  | some (a, ats, wr) =>
    if !s.hostReady (s.shtEp n) || s.xlatDenies (s.shtEp n) a (shtUnitLen d (s.f (F.SHT_CH_POS_POS n))) wr ats then some a else none
  | none => none

/-- Ask for the host bytes that the unit at the channel's position needs next (R313, R317). -/
def State.shtAsk (s : State) (n : Nat) (d : ShtDesc) : State :=
  match s.shtNeeds n d with
  | some (a, ats, false) => (s.hostRead (s.shtEp n) (.shuttle n) a (shtUnitLen d (s.f (F.SHT_CH_POS_POS n))) ats).1
  | _ => s

/-- The transfer reads the host. -/
def ShtDesc.hostReads (d : ShtDesc) : Bool := (d.reads && decide (d.ss ≤ 1)) || (d.op == 3 && decide (d.ds ≤ 1))

/-- A bus error on a channel under the policy of the mode (R320): all-stop; or the access again, then the channel halts. An access that
cannot be made now fails at every retry in the same way. -/
def State.shtBusError (s : State) (n addr : Nat) : State :=
  match (s.chan n).active with
  | none => s
  | some d =>
    match s.mode.cur with
    | .active => s.shtAllStop n addr
    | .standby => s.shtAllStop n addr
    | _ =>
      let x := s.chan n
      let most := s.f F.SHT_RETRY_COUNT
      if x.retries < most && (s.shtDenied n d).isNone then
        (s.setF (F.SHT_CH_STAT_RETRIES n) (x.retries + 1)).setChan n { x with retries := x.retries + 1 } |>.shtAsk n d
      else
        (((s.shtEnd n 2 8).setReg (R.SHT_CH_EADDR n) (BitVec.ofNat 64 addr)).setF (F.SHT_CH_STAT_RETRIES n) most).shtEvent

/-- A DRAM unit of the descriptor at its position lies outside valid windows (R321). -/
def State.shtUnitBad (s : State) (d : ShtDesc) (pos : Nat) : Bool :=
  (d.reads && s.shtNeedsWindow d.ss false && !s.inWindows (d.src + pos) (shtUnitLen d pos)) ||
    (s.shtNeedsWindow d.ds (d.op != 3) && !s.inWindows (d.dst + pos) (shtUnitLen d pos))

/-- A local read of the first `len` bytes of the unit meets a line with the poison code: its address (R319, R344). -/
def State.shtPoison (s : State) (d : ShtDesc) (pos len : Nat) : Option Nat :=
  if d.reads && d.ss == 2 && s.dramPoisoned (d.src + pos) len then some (d.src + pos)
  else if d.op == 3 && d.ds == 2 && s.dramPoisoned (d.dst + pos) len then some (d.dst + pos)
  else none

/-- The place of the first difference of two byte strings. -/
def firstDiff : List Byte → List Byte → Option Nat
  | a :: as, b :: bs => if a = b then (firstDiff as bs).map (· + 1) else some 0
  | _, _ => none

/-- The source bytes of a unit. -/
def State.shtSource (s : State) (n : Nat) (d : ShtDesc) (pos : Nat) : List Byte :=
  if d.op = 2 then (List.range (shtUnitLen d pos / 8)).flatMap (fun _ => leBytes 8 d.pat.toNat)
  else ((s.chan n).data).getD (s.shtBytes d.ss (d.src + pos) (shtUnitLen d pos))

/-- The place in the unit at the channel's position at which a COMPARE finds its first difference, the host bytes of its destination
given. -/
def State.shtDiff (s : State) (n : Nat) (d : ShtDesc) (dstBytes : Option (List Byte)) : Option Nat :=
  let pos := s.f (F.SHT_CH_POS_POS n)
  if d.op = 3 then firstDiff (s.shtSource n d pos) (dstBytes.getD (s.shtBytes d.ds (d.dst + pos) (shtUnitLen d pos))) else none

/-- Bytes of the unit that the operation reads: a COMPARE reads nothing beyond the 8-byte word of its first difference (R313). -/
def State.shtSeen (s : State) (n : Nat) (d : ShtDesc) (dstBytes : Option (List Byte)) : Nat :=
  match s.shtDiff n d dstBytes with
  | some k => k / 8 * 8 + 8
  | none => shtUnitLen d (s.f (F.SHT_CH_POS_POS n))

/-- Move or compare the unit at the channel's position, the host bytes of a COMPARE's destination given; a difference ends the
descriptor at once (R313, R318). -/
def State.shtUnit (s : State) (n : Nat) (d : ShtDesc) (dstBytes : Option (List Byte)) : State :=
  let pos := s.f (F.SHT_CH_POS_POS n)
  let len := shtUnitLen d pos
  let src := s.shtSource n d pos
  let s1 := s.setChan n { s.chan n with data := none, retries := 0 }
  if d.op = 3 then
    match s.shtDiff n d dstBytes with
    | some k => s1.setChan n { s1.chan n with diff := some (pos + k) }
    | none => s1.setF (F.SHT_CH_POS_POS n) (pos + len)
  else (s1.shtWrite n d.ds (d.dst + pos) src).setF (F.SHT_CH_POS_POS n) (pos + len)

/-- The channel goes on with its next unit: its windows are checked again (R321), and a host access that cannot be made is a bus error
(R319, R353). -/
def State.shtNext (s : State) (n : Nat) (d : ShtDesc) : State :=
  let pos := s.f (F.SHT_CH_POS_POS n)
  if d.len ≤ pos then s
  else if s.shtUnitBad d pos then (s.shtEnd n 2 7).shtEvent
  else match s.shtDenied n d with
    | some a => (if s.hostReady (s.shtEp n) then s.satF F.HE_XERR_ATSDENY else s).shtBusError n a
    | none => s.shtAsk n d

/-- A host write of the unit would wait for a translation while no tag is free (R329, R345). -/
def State.shtNoTag (s : State) (n : Nat) (d : ShtDesc) : Bool :=
  let e := s.shtEp n
  d.op != 3 && d.ds == 1 && (s.ep e).atsEnable && (s.hostTags.fresh (tagKey e 0) 768).isNone

/-- Move the units that need no host read, up to byte `upto` (R317, R319, R321). -/
def State.shtAdvance (s : State) (n upto : Nat) : Nat → State
  | 0 => s
  | k + 1 =>
    match (s.chan n).active with
    | none => s
    | some d =>
      let pos := s.f (F.SHT_CH_POS_POS n)
      if min upto d.len ≤ pos ∨ d.hostReads ∨ (s.chan n).diff.isSome ∨ s.shtNoTag n d then s
      else if s.shtUnitBad d pos then (s.shtEnd n 2 7).shtEvent
      else if (s.shtDenied n d).isSome then s.shtNext n d
      else match s.shtPoison d pos (s.shtSeen n d none) with
        | some a => (s.shtBusError n a).shtAdvance n upto k
        | none => (s.shtUnit n d none).shtAdvance n upto k

/-- Rounds that suffice for a descriptor: its units and the retries of one error. -/
def shtRounds (d : ShtDesc) : Nat := d.len / 4096 + 8

/-- Start a descriptor (R316). -/
def State.shtStart (s : State) (n : Nat) (d : ShtDesc) : State :=
  let s1 := (((s.setF (F.SHT_CH_STAT_STATE n) 1).setFlag (F.SHT_CH_STAT_QUEUED n) false).setReg (R.SHT_CH_ACTCFG n)
    (BitVec.ofNat 64 d.cfg)).setReg (R.SHT_CH_POS n) 0
  (s1.setChan n { shtReset n with active := some d }).shtNext n d

/-- The shadow descriptor of a channel (R313). -/
def State.shtShadow (s : State) (n : Nat) : ShtDesc :=
  { src := (s.reg (R.SHT_CH_SRC n)).toNat, dst := (s.reg (R.SHT_CH_DST n)).toNat, len := s.f (F.SHT_CH_LEN_LEN n)
    cfg := (s.reg (R.SHT_CH_CFG n)).toNat, pat := s.reg (R.SHT_CH_PAT n) }

/-- A GO takes effect (R315, R316). -/
def State.shtGo (s : State) (n : Nat) : State :=
  let d := s.shtShadow n
  let e := s.shtCheck n d
  if e ≠ 0 then
    ((s.setFlag (F.SHT_CH_STAT_SEQERR n) true).setF (F.SHT_CH_STAT_ECODE n) e).regNotice 3 (R.SHT_CH_GO n) 1 e
  else if s.f (F.SHT_CH_STAT_STATE n) = 1 then
    (s.setFlag (F.SHT_CH_STAT_QUEUED n) true).setChan n { s.chan n with queued := some d }
  else s.shtStart n d

/-- SHT_CHn_GO written: a GO starts or queues the shadow descriptor, or is refused (R315, R316). -/
def execShuttleGo (n size : Nat) (value : Word) (s : State) : Host.Outcome State Fault Refusal :=
  .next (s.command (R.SHT_CH_GO (n % 32)) size value false (fun v s => if bit v 0 then s.shtGo (n % 32) else s))

/-- A descriptor completes: a COMPARE's result, counts, flags, signal; the queued one becomes active (R316, R318). -/
def State.shtDone (s : State) (n : Nat) (d : ShtDesc) : State :=
  let x := (s.chan n).diff
  let s0 := if d.op = 3 then (s.setReg (R.SHT_CH_CMP n) (BitVec.ofNat 64 (x.getD (2 ^ 64 - 1)))).setFlag (F.SHT_CH_STAT_MISMATCH n)
      x.isSome else s
  let s1 := ((s0.incF (F.SHT_CH_STAT_DONE_CNT n)).setFlag (F.SHT_CH_STAT_DONE n) true).setF (F.SHT_CH_STAT_STATE n) 0
  let s2 := if d.irq then
      (s1.setReg R.SHT_DONE (BitVec.ofNat 64 (putBit (s1.reg R.SHT_DONE).toNat n true))).shtEvent
    else s1
  match (s.chan n).queued with
  | some q => s2.shtStart n q
  | none => s2.setChan n (shtReset n)

/-- The active descriptor's last byte is moved, or its COMPARE has found a difference (R318). -/
def execShuttleComplete (n : Nat) (s : State) : Host.Outcome State Fault Refusal :=
  .next (match (s.chan n).active with
    | none => s
    | some d =>
      let s1 := s.shtAdvance n d.len (shtRounds d)
      if (s1.chan n).active = some d ∧ (d.len ≤ s1.f (F.SHT_CH_POS_POS n) ∨ (s1.chan n).diff.isSome) ∧ !s1.shtTags n
      then s1.shtDone n d else s1)

/-- A bus error is detected on channel `n` when it has moved `pos` bytes, at address `addr` (R319, R320, R322). -/
def execShuttleBusError (n pos addr : Nat) (s : State) : Host.Outcome State Fault Refusal :=
  .next (match (s.chan n).active with
    | none => s
    | some d => (s.shtAdvance n (pos / 4096 * 4096) (shtRounds d)).shtBusError n addr)

/-- The channel comes to a DRAM unit that no longer lies within valid windows, and halts with ECODE 7 (R321). -/
def execShuttleWindowHalt (n : Nat) (s : State) : Host.Outcome State Fault Refusal :=
  .next (match (s.chan n).active with
    | none => s
    | some d =>
      let first := ((List.range (d.len / 4096 + 1)).map (fun k => 4096 * k)).find? (fun p =>
        decide (s.f (F.SHT_CH_POS_POS n) ≤ p ∧ p < d.len) && s.shtUnitBad d p)
      match first with
      | none => s
      | some p =>
        let s1 := s.shtAdvance n p (shtRounds d)
        if (s1.chan n).active = some d then (s1.shtEnd n 2 7).shtEvent else s1)

/-- ALLSTOP written 1: STOPPED channels, also those that a mode change stopped (R325), return to IDLE (R323). -/
def State.allstopClear (s : State) : State :=
  (List.range 32).foldl (fun s n => if s.f (F.SHT_CH_STAT_STATE n) = 3 then s.setF (F.SHT_CH_STAT_STATE n) 0 else s)
    (s.setFlag F.SHT_STAT_ALLSTOP false)

/-- Writing 1 to SHT_STAT.ALLSTOP (R323). -/
def execAllstopClear (size : Nat) (value : Word) (s : State) : Host.Outcome State Fault Refusal :=
  .next (s.gate R.SHT_STAT size value (fun s => if bit (writtenValue R.SHT_STAT size value) 0 then s.allstopClear else s))

/-- A served write of a channel's SHT_CHn_STAT: its RW1C bits, and a HALTED channel's return to IDLE (R323). -/
def State.writeShtStat (s : State) (n off size : Nat) (value : Word) : State :=
  let s1 := s.storeReg off size value
  if bit (writtenValue off size value &&& writtenMask off size) 5 && s.f (F.SHT_CH_STAT_STATE n) == 2 then
    s1.setF (F.SHT_CH_STAT_STATE n) 0
  else s1

/-- Writing 1 to a channel's ERR bit (R323). -/
def execChannelErrClear (n size : Nat) (value : Word) (s : State) : Host.Outcome State Fault Refusal :=
  .next (s.gate (R.SHT_CH_STAT (n % 32)) size value (fun s => s.writeShtStat (n % 32) (R.SHT_CH_STAT (n % 32)) size value))

/-- A served write of a shadow register (R316). -/
def State.writeShadow (s : State) (n off size : Nat) (value : Word) : State :=
  if s.flag (F.SHT_CH_STAT_QUEUED n) then s.regNotice 3 off value else s.storeReg off size value

/-- The host bytes that a channel's unit asked for have come (R313, R317). -/
def State.shtArrived (s : State) (n : Nat) (bs : List Byte) : State :=
  match (s.chan n).active with
  | none => s
  | some d =>
    let pos := s.f (F.SHT_CH_POS_POS n)
    if s.shtUnitBad d pos then (s.shtEnd n 2 7).shtEvent
    else
      let needSrc := d.reads && decide (d.ss ≤ 1) && (s.chan n).data.isNone
      let s1 := if needSrc then s.setChan n { s.chan n with data := some bs } else s
      let dst := if needSrc then none else some bs
      if (needSrc && d.op == 3 && decide (d.ds ≤ 1)) || (d.op != 3 && (s1.shtDenied n d).isSome) then s1.shtNext n d
      else match s1.shtPoison d pos (s1.shtSeen n d dst) with
        | some a => (s1.setChan n { s1.chan n with data := none }).shtBusError n a
        | none =>
          let s2 := s1.shtUnit n d dst
          if (s2.chan n).diff.isSome then s2 else s2.shtNext n d

end Sys2Proof.Machine
end

