-- ==== Sys2Proof/Machine/HostPort.lean ====
section
/-! DEFINITION. The host endpoints (R326 to R353): BAR2 windows, completions and timeouts of the device's reads, translations,
MSI-X, power states, and the resets of an endpoint. -/

namespace Sys2Proof.Machine

/-! ## BAR2 (R330 to R336, R343, R344) -/

/-- The window entry's EP field admits an endpoint (R331; the reserved value admits none, log entry 23). -/
def epAdmits (field e : Nat) : Bool := field == 0 || field == e + 1

/-- The DRAM address that a BAR2 request of `len` bytes translates to, none where its window does not serve it (R330, R331,
R333). -/
def State.translate (s : State) (e off reqid len : Nat) (write : Bool) : Option Nat :=
  let w := off / 2 ^ 24
  let x := off % 2 ^ 24
  let modeOk := s.mode.cur != .dormant && s.mode.cur != .boot
  if modeOk && decide (w < 4096) && s.flag (F.WIN_W0_VALID w) && (if write then s.flag (F.WIN_W0_WR w) else s.flag (F.WIN_W0_RD w)) &&
      epAdmits (s.f (F.WIN_W0_EP w)) e && (!s.flag (F.WIN_W0_IDCHK w) || s.f (F.WIN_W0_REQID w) == reqid) &&
      decide (x + len ≤ (s.f (F.WIN_W1_PAGES w) + 1) * 4096) then
    some (s.f (F.WIN_W1_TARGET w) * 4096 + x)
  else none

/-- HE_WIN_LAST records a refused request (R333). -/
def State.winLast (s : State) (e off reqid : Nat) (read : Bool) : State :=
  (((s.setF F.HE_WIN_LAST_OFFSET off).setFlag F.HE_WIN_LAST_READ read).setF F.HE_WIN_LAST_EP e).setF F.HE_WIN_LAST_REQID reqid

/-- A BAR2 write that its window does not serve (R333, R343). -/
def State.refuseWrite (s : State) (e off reqid : Nat) : State :=
  (((s.incF F.HE_WIN_STAT_WDISC).winLast e off reqid false).notice 1 0xFFFF 5 off 0).aer e .unsupportedRequest .nonFatal

/-- Set the poison code on every line that a range touches (R343). -/
def State.poisonLines (s : State) (addr len : Nat) : State :=
  { s with poison := (List.range ((addr + len + 63) / 64 - addr / 64)).foldl
             (fun t i => Tbl.set poisonReset t (addr / 64 + i) true) s.poison }

/-- A poisoned TLP is received (R190, R343). -/
def State.poisonSeen (s : State) (e : Nat) (sev : Severity := .advisory) : State := (s.satF F.HE_XERR_POISON).aer e .poisonedTlp sev

/-- A BAR2 write of bytes by a requester, which may have come with EP (R333, R343). -/
def execBar2Write (ep off reqid : Nat) (bytes : List Byte) (poisoned : Bool) (s : State) : Host.Outcome State Fault Refusal :=
  .next (
    if s.hostDown then s
    else
      let s1 := if poisoned then s.poisonSeen ep else s
      if !(s.ep ep).open_ then s1.aer ep .unsupportedRequest .nonFatal
      else if s.mode.cur = .halted then s1.notice 1 0xFFFF 1 off 0
      else match s.translate ep off reqid bytes.length true with
        | some a =>
          let s2 := s1.dramWrite a bytes
          if poisoned then s2.poisonLines a bytes.length else s2
        | none => s1.refuseWrite ep off reqid)

/-- A BAR2 read of `len` bytes by a requester (R333, R344). -/
def execBar2Read (ep off reqid len : Nat) (s : State) : Host.Outcome State Fault Refusal :=
  .next (
    if s.hostDown then s
    else if !(s.ep ep).open_ then (s.send (.unsupported ep)).aer ep .unsupportedRequest
    else match s.translate ep off reqid len false with
      | some a => s.send (.completion ep (s.dram.readBytes a len) (s.dramPoisoned a len))
      | none =>
        ((((s.satF F.HE_WIN_STAT_RUR).winLast ep off reqid true).notice 1 0xFFFF 5 off 0).send (.unsupported ep)).aer ep
          .unsupportedRequest)

/-- The target range of a window's word 1 is one that word 0 may make valid: within the buffer area, or within the dump
region without WR (R332). -/
def State.windowOk (s : State) (w : Nat) (wr : Bool) : Bool :=
  let first := s.f (F.WIN_W1_TARGET w) * 4096
  let last := first + (s.f (F.WIN_W1_PAGES w) + 1) * 4096
  (decide (s.bufBase ≤ first) && decide (last ≤ s.bufBase + 2 ^ 32)) ||
    (!wr && decide (s.dumpBase ≤ first) && decide (last ≤ s.bufBase))

/-- A refused window entry write (R332). -/
def State.windowRefused (s : State) (off : Nat) (value : Word) : State :=
  (s.setFlag F.HE_WIN_STAT_SEQERR true).regNotice 3 off value

/-- A served write of word 0 (R332). -/
def State.writeWin0 (s : State) (w off size : Nat) (value : Word) : State :=
  let s1 := s.storeReg off size value
  if s1.flag (F.WIN_W0_VALID w) && !s1.windowOk w (s1.flag (F.WIN_W0_WR w)) then
    (s1.setFlag (F.WIN_W0_VALID w) false).windowRefused off value
  else s1

/-- A served write of word 1 (R332). -/
def State.writeWin1 (s : State) (w off size : Nat) (value : Word) : State :=
  if s.flag (F.WIN_W0_VALID w) then s.windowRefused off value else s.storeReg off size value

/-- Window word 0 written (R331, R332). -/
def execWindowWord0Write (w size : Nat) (value : Word) (s : State) : Host.Outcome State Fault Refusal :=
  .next (s.gate (R.WIN_W0 (w % 4096)) size value (fun s => s.writeWin0 (w % 4096) (R.WIN_W0 (w % 4096)) size value))

/-- Window word 1 written (R331, R332). -/
def execWindowWord1Write (w size : Nat) (value : Word) (s : State) : Host.Outcome State Fault Refusal :=
  .next (s.gate (R.WIN_W1 (w % 4096)) size value (fun s => s.writeWin1 (w % 4096) (R.WIN_W1 (w % 4096)) size value))

/-! ## Invalidations (R346) -/

/-- Two page ranges overlap. -/
def Inval.covers (x : Inval) (e page : Nat) : Bool := x.ep == e && decide (x.page ≤ page ∧ page < x.page + x.count)

/-- A request that used a translation which an Invalidate Request covers is still outstanding. -/
def State.invalBusy (s : State) (x : Inval) : Bool :=
  s.hostTags.any (fun e => e.2.timedOut.isNone && !e.2.beforeFlr && e.2.xlat.isNone && e.2.pages.any (x.covers e.2.ep))

/-- Begin the invalidations that wait, while fewer than 32 are in progress, and answer those whose requests have finished. -/
def State.runInvals (s : State) : Nat → State
  | 0 => s
  | n + 1 =>
    match s.invals.find? (fun x => x.begun && !s.invalBusy x) with
    | some x => (({ s with invals := s.invals.erase x }).send (.invalidated x.ep x.itag)).runInvals n
    | none =>
      if (s.invals.filter (fun x => x.begun)).length < 32 then
        match s.invals.find? (fun x => !x.begun) with
        | some x =>
          ({ s with
             ats := s.ats.filter (fun y => !x.covers y.ep y.page)
             invals := s.invals.map (fun y => if y == x then { y with begun := true } else y) }).runInvals n
        | none => s
      else s

/-- Settle the invalidations. -/
def State.settleInvals (s : State) : State := s.runInvals (2 * s.invals.length + 1)

/-- An Invalidate Request (R346). -/
def execAtsInvalidateRequest (ep itag page count : Nat) (s : State) : Host.Outcome State Fault Refusal :=
  .next (if s.hostDown then s
    else ({ s with invals := s.invals ++ [({ ep, itag, page, count, begun := false } : Inval)] } : State).settleInvals)

/-- The translation cache of an endpoint is emptied (R346, R328). -/
def State.dropAts (s : State) (e : Nat) : State :=
  { s with ats := if s.bifurcated then s.ats.filter (fun x => x.ep != e) else [] }

/-- A configuration write of ATS Enable; clearing it empties the cache (R345, R346). -/
def execAtsEnableClear (ep : Nat) (value : Bool) (s : State) : Host.Outcome State Fault Refusal :=
  .next (if !s.cfgOpen ep then s
    else
      let s1 := s.setEp ep { s.ep ep with atsEnable := value }
      if value then s1 else s1.dropAts ep)

/-! ## Ends of the device's own requests (R340, R341, R345) -/

/-- Free a tag. -/
def State.freeTag (s : State) (k : Nat) : State := ({ s with hostTags := s.hostTags.erase k }).settleInvals

/-- The host address of the access that a channel's unit waits for. -/
def State.shtHostAddr (s : State) (n : Nat) : Nat :=
  match (s.chan n).active with
  | some d =>
    let pos := s.f (F.SHT_CH_POS_POS n)
    if d.reads && decide (d.ss ≤ 1) && (s.chan n).data.isNone then d.src + pos else d.dst + pos
  | none => 0

/-- Channels whose next host read found no free tag ask again. -/
def State.shtRetryAsk (s : State) : State :=
  (List.range 32).foldl (fun s n =>
    match (s.chan n).active with
    | some d => if d.hostReads && !s.shtTags n && (s.chan n).diff.isNone then s.shtNext n d else s
    | none => s) s

/-- A host access of a thread ends with a transport status (R340, R342). -/
def State.threadHostFails (s : State) (th id outcome : Nat) : State := s.asyncDone th id outcome

/-- Put the host bytes of a FETCH into its run, the blocks with a byte in a marked TLP poisoned (R190, R249). -/
def State.putHostBlocks (s : State) (th : Nat) (f : Xfer) (bs : List Byte) (marked : List (Nat × Nat)) : State :=
  let fmt := (s.arr f.array).pifmt
  let unit := hostBlock fmt f.piint f.side
  (List.range f.count).foldl (fun s k =>
    let b := (bs.drop (unit * k)).take unit
    let x := s.runInfo th f.handle (f.first + k)
    let slot (l : List Byte) : BitVec 128 := BitVec.ofNat 128 (leNat l)
    let y := if f.side then { x with pi := slot b }
      else
        let d := { x with data := Mem.writeBytes [] 0 (b.take 4096) }
        if f.piint then { d with pi := slot (b.drop 4096) } else d
    let hit := marked.any (fun m => decide (m.1 < unit * k + unit ∧ unit * k < m.1 + m.2))
    s.setRunInfo th f.handle (f.first + k) ((if hit then y.poison fmt else y).remark fmt)) s

/-- The read of a thread's FETCH ends (R340). -/
def State.threadHostEnds (s : State) (e th id : Nat) (res : HostResult) : State :=
  match res with
  | .data bs marked =>
    match ((s.thr th).async? id).bind (fun o => o.xfer) with
    | some f =>
      let s1 := (s.putHostBlocks th f bs marked).asyncDone th id (if marked.isEmpty then 0 else 0x0205)
      if marked.isEmpty then s1 else s1.poisonSeen e
    | none => s
  | _ => (s.satF F.HE_XERR_URCA).threadHostFails th id 0x0101

/-- The read of a Shuttle channel's unit ends (R319, R340). -/
def State.shtHostEnds (s : State) (e n : Nat) (res : HostResult) : State :=
  match res with
  | .data bs marked =>
    if marked.isEmpty then s.shtArrived n bs else (s.poisonSeen e .nonFatal).shtBusError n (s.shtHostAddr n)
  | _ => (s.satF F.HE_XERR_URCA).shtBusError n (s.shtHostAddr n)

/-- A Shuttle write whose translation failed: a bus error at its unit; under the retry policy the same write again (R319, R320). -/
def State.shtWriteFails (s : State) (n addr : Nat) (m : OutMsg) : State :=
  match (s.chan n).active, m with
  | some d, .hostWrite e _ _ ep_ _ _ bytes =>
    let x := s.chan n
    let stops := s.mode.cur == .active || s.mode.cur == .standby
    if !stops && decide (x.retries < s.f F.SHT_RETRY_COUNT) then
      ((s.setF (F.SHT_CH_STAT_RETRIES n) (x.retries + 1)).setChan n { x with retries := x.retries + 1 }).hostWrite e (.shuttle n) addr
        true ep_ bytes
    else
      ((s.setF (F.SHT_CH_POS_POS n) (min (s.f (F.SHT_CH_POS_POS n)) ((addr - d.dst) / 4096 * 4096))).setChan n
        { x with retries := s.f F.SHT_RETRY_COUNT }).shtBusError n addr
  | _, _ => s

/-- A translation denies an access, or ends with Unsupported Request or Completer Abort (R345). -/
def State.xlatFails (s : State) (rd : Reader) (m : OutMsg) : State :=
  let s1 := s.satF F.HE_XERR_ATSDENY
  match rd with
  | .nobody => s1
  | .fetchRing r i => s1.ringHalt 7 false r i
  | .record q _ => s1.ringHalt 7 true q (s.cqTail q)
  | .thread th id => s1.threadHostFails th id 0x0103
  | .shuttle n =>
    match m with
    | .hostWrite _ addr .. => s1.shtWriteFails n addr m
    | _ => s1.shtBusError n (s.shtHostAddr n)

/-- An access whose pages are now translated leaves, as a translated request or, for a U translation, an untranslated one
(R345). -/
def State.sendXlated (s : State) (k : Nat) (h : HostTag) (m : OutMsg) : State :=
  match m with
  | .hostRead e t addr _ ro _ len =>
    let xl := s.xlatPages e addr len
    ({ s with hostTags := s.hostTags.insert k { h with xlat := none } }.xlatTouch e addr len).send
      (.hostRead e t addr xl.isEmpty ro xl len)
  | .hostWrite e addr _ ep_ ro _ bytes =>
    let xl := s.xlatPages e addr bytes.length
    let out (s : State) : State := ((s.freeTag k).xlatTouch e addr bytes.length).send (.hostWrite e addr xl.isEmpty ep_ ro xl bytes)
    let s1 := out s
    match h.reader with
    | .record q irq => if s.mode.cur = .halted then s.freeTag k else (s1.coalesce q irq).holdingFreed q
    | .thread th id => if s1.hostTags.any (fun x => x.2.reader == .thread th id) then s1 else s1.asyncDone th id 0
    | _ => s1
  | _ => s

/-- A translation completion arrives (R345). -/
def State.xlatEnds (s : State) (k : Nat) (h : HostTag) (m : OutMsg) (res : HostResult) : State :=
  let ok (s : State) : Bool := match m with
    | .hostRead e _ addr _ _ _ len => s.xlatOk e addr len false
    | .hostWrite e addr _ _ _ _ bytes => s.xlatOk e addr bytes.length true
    | _ => false
  match res with
  | .translations l =>
    let s1 := s.xlatAdd l
    if h.reader = .nobody then s1.freeTag k
    else if ok s1 then s1.sendXlated k h m else (s1.freeTag k).xlatFails h.reader m
  | .data _ _ => s
  | _ => (s.freeTag k).xlatFails h.reader m

/-- A late completion (R341): discarded and counted. -/
def State.lateCompletion (s : State) (e k : Nat) : State :=
  match s.hostTags.find k with
  | some h =>
    if h.beforeFlr then (s.freeTag k).incF F.HE_LATE_FLRDROP
    else ((s.freeTag k).incF F.HE_LATE_UNEXP).aer e .unexpectedCompletion
  | none => (s.incF F.HE_LATE_UNEXP).aer e .unexpectedCompletion

/-- A completion with tag `t` arrives on endpoint `ep` (R340, R341, R345). -/
def execHostCompletion (ep t : Nat) (res : HostResult) (s : State) : Host.Outcome State Fault Refusal :=
  .next (
    if s.hostDown then s
    else match s.hostTags.find (tagKey ep t) with
      | none => s.lateCompletion ep (tagKey ep t)
      | some h =>
        if h.beforeFlr || h.timedOut.isSome then s.lateCompletion ep (tagKey ep t)
        else match h.xlat, res with
          | some m, _ => s.xlatEnds (tagKey ep t) h m res
          | none, .translations _ => s
          | none, _ =>
            let s1 := s.freeTag (tagKey ep t)
            (match h.reader with
              | .fetchRing r i => s1.entryArrived r i res
              | .thread th id => s1.threadHostEnds ep th id res
              | .shuttle n => s1.shtHostEnds ep n res
              | .nobody => s1
              | .record .. => s1).shtRetryAsk.recRetry)

/-- The completion timeout of a request has passed (R340, R343). -/
def execCompletionTimeout (ep t : Nat) (s : State) : Host.Outcome State Fault Refusal :=
  .next (match s.hostTags.find (tagKey ep t) with
    | some h =>
      if !h.timedOut.isNone || h.beforeFlr || decide ((s.tbase - h.issued).toNat < (s.ep ep).cto) then s
      else
        let s1 := ((({ s with hostTags := s.hostTags.insert (tagKey ep t) { h with timedOut := some s.tbase } }).settleInvals).satF
          F.HE_XERR_CTO).aer ep .completionTimeout (match h.reader with | .fetchRing .. => .nonFatal | .record .. => .nonFatal | _ => .advisory)
        match h.reader with
        | .fetchRing r i => s1.ringHalt 7 false r i
        | .record q _ => s1.ringHalt 7 true q (s.cqTail q)
        | .thread th id => s1.threadHostFails th id 0x0102
        | .shuttle n =>
          match h.xlat with
          | some (.hostWrite e a b c r f bs) => s1.shtWriteFails n a (.hostWrite e a b c r f bs)
          | _ => s1.shtBusError n (s.shtHostAddr n)
        | .nobody => s1
    | none => s)

/-- A completion arrives after its request timed out, or for a request from before a reset (R341). -/
def execUnexpectedCompletion (ep t : Nat) (s : State) : Host.Outcome State Fault Refusal :=
  .next (
    if s.hostDown then s
    else match s.hostTags.find (tagKey ep t) with
      | some h => if h.beforeFlr || h.timedOut.isSome then s.lateCompletion ep (tagKey ep t) else s
      | none => s.lateCompletion ep (tagKey ep t))

/-- A timed-out request's tag is released after a further timeout period (R341). -/
def execTagReservationExpiry (ep t : Nat) (s : State) : Host.Outcome State Fault Refusal :=
  .next (match s.hostTags.find (tagKey ep t) with
    | some h =>
      let since := if h.beforeFlr then some h.issued else h.timedOut
      match since with
      | some t0 => if (s.ep ep).cto ≤ (s.tbase - t0).toNat then (s.freeTag (tagKey ep t)).shtRetryAsk.recRetry else s
      | none => s
    | none => s)

/-! ## MSI-X (R347) -/

/-- One half of a table entry is written at its place in the entry. -/
def MsixEntry.write (x : MsixEntry) (o v : Nat) : MsixEntry :=
  match o / 4 with
  | 0 => { x with addr := putBits x.addr 0 32 v }
  | 1 => { x with addr := putBits x.addr 32 32 v }
  | 2 => { x with data := v % 2 ^ 32 }
  | _ => { x with mask := bit v 0 }

/-- A write to BAR4, or of the MSI-X Enable and Function Mask bits where `control` gives them (R330, R347). The table is not served in
Dormant (R298), nor in Boot, which serves what Dormant does (R35). -/
def execMsixTableWrite (ep off size : Nat) (value : Word) (poisoned : Bool) (control : Option (Bool × Bool)) (s : State) :
    Host.Outcome State Fault Refusal :=
  .next (
    if s.hostDown then s
    else match control with
      | some c => if (s.ep ep).flrBusy then s else (s.setEp ep { s.ep ep with msixEnable := c.1, msixFunctionMask := c.2 }).msixRelease ep
      | none =>
        if poisoned then (s.poisonSeen ep).notice 1 0xFFFF 5 off value.toNat
        else if !(s.ep ep).open_ then s.aer ep .unsupportedRequest .nonFatal
        else if s.mode.cur = .dormant ∨ s.mode.cur = .boot then s.notice 1 0xFFFF 1 off value.toNat
        else if ¬ (size = 4 ∨ size = 8) ∨ off % size ≠ 0 then s.notice 1 0xFFFF 2 off value.toNat
        else if 2048 * 16 ≤ off then s.noticeOther 1 0xFFFF off value.toNat
        else
          let v := off / 16
          let x := Tbl.get msixReset (s.ep ep).table v
          let y := x.write (off % 16) (value.toNat % 2 ^ 32)
          let z := if size = 8 then y.write (off % 16 + 4) (value.toNat / 2 ^ 32) else y
          (s.setEp ep { s.ep ep with table := Tbl.set msixReset (s.ep ep).table v z }).msixRelease ep)

/-! ## Power states and configuration (R348 to R350, R353) -/

/-- The completion rings whose records travel through an endpoint. -/
def State.epRings (s : State) (e : Nat) : List Nat := (List.range 1024).filter (fun q => s.ringEp q == e)

/-- The endpoint may initiate requests again: held records and pending messages leave (R348, R353). -/
def State.hostReleased (s : State) (e : Nat) : State :=
  ((s.epRings e).foldl (fun s q => if (s.cpl q).holding.isEmpty then s else s.holdingFreed q) s).msixRelease e

/-- A PMCSR write: the D-state asked for and PME_En (R348, R349). -/
def execDStateChange (ep pmcsr : Nat) (s : State) : Host.Outcome State Fault Refusal :=
  .next (
    if !s.cfgOpen ep then s
    else
      let s0 := s.setEp ep { s.ep ep with pmeEnable := bit pmcsr 8 }
      let move (d : DState) : State := s0.setEp ep { s0.ep ep with dstate := d }
      match (s.ep ep).dstate, pmcsr % 4 with
      | .d0, 1 => move .d1
      | .d0, 3 => move .d3hot
      | .d1, 0 => ((({ move .d0 with hw := { s.hw with wake := false } } : State).hostReleased ep).ltrSync)
      | .d3hot, 0 => ((({ move .d0 with hw := { s.hw with wake := false } } : State).hostReleased ep).ltrSync)
      | _, _ => s0)

/-- PME_Turn_Off is answered with PME_TO_Ack (R348). -/
def execPmeTurnOff (ep : Nat) (s : State) : Host.Outcome State Fault Refusal :=
  .next ((s.setEp ep { s.ep ep with l2Ready := true }).send (.pmeToAck ep))

/-- A configuration write of the control bits that the model reads; setting Bus Master Enable releases what waited (R353; log
entry 22). -/
def execBusMasterEnable (ep : Nat) (c : ConfigBits) (s : State) : Host.Outcome State Fault Refusal :=
  .next (
    if !s.cfgOpen ep then s
    else
      let x := s.ep ep
      let s1 := s.setEp ep { x with memSpace := c.memSpace, busMaster := c.busMaster, l1Enable := c.l1Enable,
                                    ltrEnable := c.ltrEnable, pmeEnable := c.pmeEnable, cto := c.cto }
      (if !x.busMaster && c.busMaster then s1.hostReleased ep else s1).ltrSync)

/-- No TLP has been pending for 20 µs: L1 entry is requested where ASPM L1 is enabled (R350). -/
def execAspmL1Entry (ep : Nat) (s : State) : Host.Outcome State Fault Refusal :=
  .next (if (s.ep ep).l1Enable && !s.hostDown && !s.hostTags.any (fun e => e.2.ep == ep && e.2.timedOut.isNone && !e.2.beforeFlr)
    then s.send (.l1Request ep) else s)

/-! ## Resets of an endpoint (R312, R324, R351, R352) -/

/-- Registers of the rings, windows and Shuttle channels that an endpoint's reset reaches (R312, R324, R328, R352). -/
def State.resetReach (s : State) (e off : Nat) : Bool :=
  match blockOf off with
  | .rings => s.ringEp ((off - 0x10000) / 0x40 % 1024) == e
  | .windows => if off < 0x50000 then !s.bifurcated || s.f (F.WIN_W0_EP ((off - 0x40000) / 16)) == e + 1 else false
  | .shuttle => if off < 0xA2000 then s.shtEp ((off - 0xA0000) / 0x100) == e else !s.bifurcated
  | _ => false

/-- Registers whose RW and RW1C fields a function level reset keeps: MC_CTL, MC_WAYLOCK, MC_WAYPRE and MC_WAYDIS of the Map Cache
(R168), the federation state and DEV_FW (R419). -/
def flrKeeps (off : Nat) : Bool :=
  [R.MC_CTL, R.MC_WAYLOCK, R.MC_WAYPRE, R.MC_WAYDIS, R.DEV_FW].contains off || decide (blockOf off = .fed)

/-- A register's value after a function level reset, by its fields' access types (R13); PRK_STAT loses CODE, ERR, OP and SLOT
(R64). -/
def State.flrValue (s : State) (off : Nat) (w : Word) : Word :=
  if flrKeeps off then w
  else if off = R.PRK_STAT then BitVec.ofNat 64 (w.toNat &&& 2 ^ 16)
  else
    let m := fieldMask off (fun a => a == .rw || a == .rw1c || (a == .rwl && !s.locked))
    BitVec.ofNat 64 ((w.toNat - (w.toNat &&& m)) ||| ((resetVal off).toNat &&& m))

/-- SE_CLK.BUSY shows a clock on its way to min(TARGET, CAP) (R30). -/
def State.clockSync (s : State) (c : Nat) : State :=
  s.setFlag (F.SE_CLK_BUSY c) (s.f (F.SE_CLK_CUR c) != min (s.f (F.SE_CLK_TARGET c)) (s.f (F.SE_CLK_CAP c)))

/-- The registers after an endpoint's reset. Bifurcated, only the endpoint's rings, windows and channels are reached (R328); else
SE_CLK.TARGET returns to 7 and each island turns toward it (R30). -/
def State.resetRegs (s : State) (e : Nat) : State :=
  let all := s.bar0.map (fun x => (x.1, if s.resetReach e x.1 then resetVal x.1
    else if s.bifurcated then x.2 else s.flrValue x.1 x.2))
  let s1 : State := { s with bar0 := all.filter (fun x => x.2 != resetVal x.1) }
  if s.bifurcated then s1 else s1.clusters.foldl State.clockSync s1

/-- The call threads of an endpoint's rings end without POST (R312, R352); stripes they left open are abandoned. -/
def State.endCalls (s : State) (e : Nat) : State :=
  ((s.threads.map (fun t => t.1)).filter (fun th => !thDevWork th && (s.thr th).running && s.thEp th == e)).foldl
    (fun s th => (s.abandonOwned th).endThread th) s

/-- Host accesses of threads that are still outstanding on an endpoint end with 0x0104 (R342, R352). -/
def State.silenceThreads (s : State) (e : Nat) : State :=
  (s.threads.map (fun t => t.1)).foldl (fun s th =>
    if s.thEp th = e then
      s.setThr th { s.thr th with asyncs := (s.thr th).asyncs.map (fun o => match o.wait with
        | .host _ => { o with wait := .done, outcome := 0x0104 }
        | _ => o) }
    else s) s

/-- Endpoint configuration as a reset leaves it, AER status bits kept (R329, R347, R351). -/
def Endpoint.reset (x : Endpoint) (busy : Bool) : Endpoint :=
  { memSpace := false, busMaster := false, msixEnable := false, msixFunctionMask := false, atsEnable := false, l1Enable := false,
    ltrEnable := false, pmeEnable := false, dstate := .d0, l2Ready := false, table := [], pba := [], flrBusy := busy, ltrSent := 0,
    cto := 4000000, aerStatus := x.aerStatus }

/-- The rings, channels, vectors and translations of an endpoint beside their registers (R312, R324, R346, R347). -/
def State.resetUnits (s : State) (e : Nat) : State :=
  { s with
    subRings := s.subRings.filter (fun x => s.ringEp x.1 != e)
    cplRings := s.cplRings.filter (fun x => s.ringEp x.1 != e)
    recorder := s.recorder.filter (fun x => s.ringEp (x.1 / 2) != e)
    sht := s.sht.filter (fun x => s.shtEp x.1 != e)
    hostTags := s.hostTags.map (fun x => if x.2.ep == e then (x.1, { x.2 with beforeFlr := true, xlat := none }) else x)
    invals := s.invals.filter (fun x => x.ep != e) }

/-- A function level reset or hot reset of an endpoint (R312, R324, R351, R352). -/
def State.resetEndpoint (s : State) (e : Nat) (busy : Bool) : State :=
  let s1 := (((s.endCalls e).silenceThreads e).resetUnits e).resetRegs e
  let s2 := (s1.setEp e ((s1.ep e).reset busy)).dropAts e
  let s2 : State := { s2 with doe := s2.doe.erase e }
  let s3 := if s2.bifurcated then s2 else
    { s2 with
      health := { s2.health with readable := s2.health.newest }
      prk := { s2.prk with run := s2.prk.run.map (fun r => { r with silent := true }) } }
  if s3.mode.cur = .halted then s3.dumpWindows else s3

/-- Hot reset or DL_Down of an endpoint (R351). -/
def execHotReset (ep : Nat) (s : State) : Host.Outcome State Fault Refusal :=
  .next (if s.hostDown then s else s.resetEndpoint (if s.bifurcated then ep % 2 else 0) false)

/-- PERST1# resets endpoint 1 as a hot reset (R328, R351). -/
def execPerst1Reset (s : State) : Host.Outcome State Fault Refusal :=
  .next (if s.bifurcated && !s.hostDown then s.resetEndpoint 1 false else s)

/-- Initiate FLR (R352). -/
def execFunctionLevelReset (ep : Nat) (s : State) : Host.Outcome State Fault Refusal :=
  .next (if s.hostDown then s else s.resetEndpoint (if s.bifurcated then ep % 2 else 0) true)

/-- The function level reset completes: configuration requests are answered normally again (R352). -/
def execFlrComplete (ep : Nat) (s : State) : Host.Outcome State Fault Refusal :=
  .next (s.setEp ep { s.ep ep with flrBusy := false })

end Sys2Proof.Machine
end

