-- ==== Sys2Proof/Machine/MapIns.lean ====
section
/-! DEFINITION. The map and stripe instructions of Quinuip: MAPLU, MAPUP, MAPLOCK (R257) and STRIPE (R258). -/

namespace Sys2Proof.Machine

/-! ## MAPLU, MAPUP, MAPLOCK -/

/-- The array operand gB[3:0]. -/
def mapArray (t : Thread) (i : IWord) : Nat := bits (t.reg i.b).toNat 0 4

/-- The thread's next map access would stall on its set (R157, R257). -/
def State.mapIssueStall (s : State) (th : Nat) : Bool :=
  let t := s.thr th
  let i := iword (s.curWord th)
  s.mapStall (mapArray t i) ((t.reg i.a).toNat % 2 ^ 40)

/-- MAPLU of an entry: a grain treated as poisoned gives a free value (R131; log entry 2). -/
def State.maplu (s : State) (th : Nat) (i : IWord) : State :=
  let t := s.thr th
  let a := mapArray t i
  let g := (t.reg i.a).toNat % 2 ^ 40
  match s.checkedEntry a g with
  | (s1, some low) => s1.wr th i.d (mapWord low g a)
  | (s1, none) => (s1.wr th i.d s1.freshVal).bumpFree

/-- MAPLU LOCATE: the media address of a PGA's unit and the byte offset within the strip (R117, R257). -/
def State.locate (s : State) (th : Nat) (i : IWord) : State :=
  let t := s.thr th
  let a := mapArray t i
  let pga := (t.reg i.a).toNat % 2 ^ 40
  let img := s.prickingOf a (s.band a (pgaBand pga)).generation
  let l := pgaLocate img (pgaUnit pga)
  if 30 < i.d ∨ (s.band a (pgaBand pga)).state = .free then s.faultAt th 0x0406
  else (s.wr th i.d (BitVec.ofNat 64 (mediaAddr a (pgaBand pga) l.1 (pkColOf img l.2.1)))).wr th (i.d + 1)
    (BitVec.ofNat 64 l.2.2)

/-- MAPLU (R257). A lookup whose miss has a dirty victim starts the write-back and waits (R157). -/
def execMaplu (th : Nat) (s : State) : Host.Outcome State Fault Refusal :=
  .next (if s.canIssue th && s.executes th && (iword (s.curWord th)).op == 0x50 && (iword (s.curWord th)).im 0 2 == 0 && s.mapIssueStall th then
      s.startWriteBack (mapArray (s.thr th) (iword (s.curWord th))) (((s.thr th).reg (iword (s.curWord th)).a).toNat % 2 ^ 40)
    else s.issue th (fun i => i.op == 0x50) (fun i s => if i.im 0 2 = 0 then s.maplu th i else s.locate th i))

/-- MAPUP (R257): it waits while the delta log has no room (R127) or its set writes back (R157). -/
def execMapup (th : Nat) (s : State) : Host.Outcome State Fault Refusal :=
  .next (if s.canIssue th && s.executes th && (iword (s.curWord th)).op == 0x51 && !s.deltaFits then s.setFlag F.ARR_DLOG_FULL true
    else if s.canIssue th && s.executes th && (iword (s.curWord th)).op == 0x51 && s.mapIssueStall th then
      s.startWriteBack (mapArray (s.thr th) (iword (s.curWord th))) (((s.thr th).reg (iword (s.curWord th)).a).toNat % 2 ^ 40)
    else s.issue th (fun i => i.op == 0x51) (fun i s =>
      let t := s.thr th
      let s1 := s.mapup (mapArray t i) ((t.reg i.a).toNat % 2 ^ 40) (i.im 3 2) (t.reg i.d).toNat
        ((t.reg i.c).toNat % 2 ^ 48)
      s1.setThr th ((s1.thr th).addAsync i.ctr none (if s1.durableAt s1.pair.mirSeq then .done else .durable s1.pair.mirSeq) 0 []
        [] s.tbase.toNat)))

/-- The thread that holds the lock of a grain. -/
def State.lockHolder (s : State) (a g : Nat) : Option Nat :=
  (s.threads.find? (fun t => t.2.locks.contains (a, g))).map (fun t => t.1)

/-- MAPLOCK acquires or releases the advisory lock of grain gA (R257). -/
def execMaplock (th : Nat) (s : State) : Host.Outcome State Fault Refusal :=
  .next (s.issue th (fun i => i.op == 0x52) (fun i s =>
    let t := s.thr th
    let k := (mapArray t i, (t.reg i.a).toNat % 2 ^ 40)
    if i.ib 0 then
      match s.lockHolder k.1 k.2 with
      | some h =>
        if h = th then s
        else if 4 ≤ t.locks.length then s.faultAt th 0x0406
        else s.setThr th { t with wait := .maplock k.1 k.2, waitSince := s.tbase.toNat }
      | none => if 4 ≤ t.locks.length then s.faultAt th 0x0406 else s.setThr th { t with locks := t.locks ++ [k] }
    else s.setThr th { t with locks := t.locks.filter (fun x => x != k) }))

/-- A grain's lock is free and a thread that waits for it acquires it (R257). -/
def execMaplockGrant (th : Nat) (s : State) : Host.Outcome State Fault Refusal :=
  .next (match (s.thr th).wait with
    | .maplock a g =>
      if s.threadsRun && (s.lockHolder a g).isNone then
        s.setThr th { s.thr th with wait := .none, locks := (s.thr th).locks ++ [(a, g)] }
      else s
    | _ => s)

/-! ## STRIPE -/

/-- A STRIPE's result: durable at once, or when the mirrored change is confirmed (R89, R258). A result with D = g0 carries no
status (R262). -/
def State.stripeDone (s : State) (th : Nat) (i : IWord) (outcome : Nat) : State :=
  s.async th i (if s.durableAt s.pair.mirSeq then .done else .durable s.pair.mirSeq) (if i.d = 0 then 0 else outcome) [] []

/-- The outcome of a refused STRIPE: 0x0305 for an entry the device abandoned, 0x0406 else (R258). -/
def State.stripeRefusal (s : State) (th e : Nat) : Nat :=
  if (s.centry e).state = 3 ∧ !(s.thr th).dropped.contains e then 0x0305 else 0x0406

/-- A refused STRIPE (R258). -/
def State.stripeRefused (s : State) (th : Nat) (i : IWord) (e : Nat) : State := s.async th i .done (s.stripeRefusal th e) [] []

/-- A STRIPE on an entry the thread opened; any other index ends the thread with fault 0x0406 (R258). -/
def State.onEntry (s : State) (th : Nat) (i : IWord) (f : Nat → State) : State :=
  let e := ((s.thr th).reg i.a).toNat
  if (s.thr th).entries.contains e && ((s.centry e).state == 0 || (s.centry e).owner == th) then f e else s.faultAt th 0x0406

/-- A STRIPE on an entry takes effect after an earlier IPNEXT of the thread on it that still waits (R258). -/
def State.stripeBehind (s : State) (th : Nat) : Bool :=
  let t := s.thr th
  s.executes th && t.asyncs.any (fun o => decide (o.wait = .ipnext (t.reg (iword (s.curWord th)).a).toNat))

/-- Try to open a stripe for a waiting OPEN (R96, R139, R258); a place that the thread's cluster may not open a stripe at is refused
(R20, R118, R120; log entry 77). -/
def State.tryOpen (s : State) (th : Nat) (o : AsyncOp) : State :=
  match o.wait with
  | .stripeOpen ma _ source =>
    let r := s.openStripe th (bits ma 0 4) (bits ma 8 21) (bits ma 32 24) source
    match r.2 with
    | some e =>
      let q := r.1.pair.mirSeq
      r.1.setThr th ((r.1.thr th).mapAsync o.id (fun x =>
        { x with wait := if r.1.durableAt q then .done else .durable q, outcome := if x.dreg = some 0 then 0 else e }))
    | none =>
      let a := bits ma 0 4
      let c := thCluster th
      if r.1.misplaced c (r.1.stripeKind a c source) a (bits ma 8 21) (bits ma 32 24) then
        r.1.setThr th ((r.1.thr th).mapAsync o.id (fun x => { x with wait := .done, outcome := if x.dreg = some 0 then 0 else 0x0406 }))
      else r.1
  | _ => s

/-- STRIPE OPEN: steps 2 and 3 of R90 (R258). -/
def execStripeOpen (th : Nat) (s : State) : Host.Outcome State Fault Refusal :=
  .next (s.issue th (fun i => i.op == 0x53 && i.mode == 0) (fun i s =>
    let t := s.thr th
    let ma := (t.reg i.a).toNat
    match mediaParts ma with
    | none => s.faultAt th 0x0406
    | some (a, b, st, col) =>
      let img := (s.armed a).getD []
      if col ≠ 0 ∨ !s.arrExists a ∨ (s.armed a).isNone ∨ s.f (F.ARR_BAND_LIMIT a) ≤ b ∨
          (if (s.band a b).state = .free then pkBandStripes img (s.stripeKind a (thCluster th) (i.im 6 2)) (s.sled (pkMember img 0)).bpc
            else s.bandStripes a b) ≤ st then
        s.faultAt th 0x0406
      else
        let s1 := s.async th i (.stripeOpen ma (t.reg i.b).toNat (i.im 6 2)) 0 [] []
        match (s1.thr th).async? t.nextId with
        | some o => s1.tryOpen th o
        | none => s1))

/-- Try a waiting IPNEXT: a Fast Ground slot is allocated and IPNEXT made durable (R98 step 3, R137, R258). -/
def State.tryIpnext (s : State) (th : Nat) (o : AsyncOp) : State :=
  match o.wait with
  | .ipnext e =>
    let x := s.centry e
    let result (n : Nat) : Nat := if o.dreg = some 0 then 0 else n
    if x.state ≠ 1 then s.asyncDone th o.id (s.stripeRefusal th e)
    else match s.interimSlot x.array (thCluster th) x.generation with
      | (s1, some slot) =>
        let s2 := s1.setCentry e { s1.centry e with ipnext := slot, ipacked := 0 }
        let w : AsyncWait := if s2.durableAt s2.pair.mirSeq then .done else .durable s2.pair.mirSeq
        s2.setThr th ((s2.thr th).mapAsync o.id (fun y => { y with wait := w, outcome := result slot }))
      | (s1, none) => s1
  | _ => s

/-- STRIPE IPNEXT: a Fast Ground slot is allocated and IPNEXT made durable (R98 step 3, R137, R258); the instruction stays
outstanding while the interim band must first open. -/
def execStripeIpnext (th : Nat) (s : State) : Host.Outcome State Fault Refusal :=
  .next (if s.stripeBehind th then s else s.issue th (fun i => i.op == 0x53 && i.mode == 1) (fun i s => s.onEntry th i (fun e =>
    let id := (s.thr th).nextId
    let s1 := s.async th i (.ipnext e) 0 [] []
    match (s1.thr th).async? id with
    | some o => s1.tryIpnext th o
    | none => s1)))

/-- STRIPE IPSET: IPLOC takes IPNEXT with its IPCOVER, and IPV is set (R98 step 5, R258). -/
def execStripeIpset (th : Nat) (s : State) : Host.Outcome State Fault Refusal :=
  .next (if s.stripeBehind th then s else s.issue th (fun i => i.op == 0x53 && i.mode == 2) (fun i s => s.onEntry th i (fun e =>
    let x := s.centry e
    if x.state ≠ 1 ∨ x.ipnext = 0xFFFFFFFF then s.stripeRefused th i e
    else
      let n := ((s.thr th).reg i.b).toNat % 2 ^ 32
      let s1 := s.setJobs (s.hoop.jobs.filter (fun j =>
        !(j.entry == some e && (match j.forced with | some f => decide (f ≤ n) | none => false))))
      (s1.setCentry e { x with iploc := x.ipnext, ipcover := n, ipv := true, ipnext := 0xFFFFFFFF }).stripeDone th i 0)))

/-- STRIPE CLOSING: STATE = 2, once every column is acknowledged (R90 step 6, R258). -/
def execStripeClosing (th : Nat) (s : State) : Host.Outcome State Fault Refusal :=
  .next (if s.stripeBehind th then s else s.issue th (fun i => i.op == 0x53 && i.mode == 3) (fun i s => s.onEntry th i (fun e =>
    if (s.centry e).state = 1 && s.allAcked e then
      (s.setCentry e { s.centry e with state := 2 }).stripeDone th i 0
    else s.stripeRefused th i e)))

/-- STRIPE CLOSE: step 7, and step 8 by the device (R90, R258). -/
def execStripeClose (th : Nat) (s : State) : Host.Outcome State Fault Refusal :=
  .next (if s.stripeBehind th then s else s.issue th (fun i => i.op == 0x53 && i.mode == 4) (fun i s => s.onEntry th i (fun e =>
    if (s.centry e).state = 2 then
      ((s.closeStripe e).setThr th { (s.closeStripe e).thr th with
        entries := ((s.closeStripe e).thr th).entries.filter (fun x => x != e) }).stripeDone th i 0
    else s.stripeRefused th i e)))

/-- STRIPE ABANDON: STATE = 3, of an OPEN or a CLOSING entry (R107, R258). -/
def execStripeAbandon (th : Nat) (s : State) : Host.Outcome State Fault Refusal :=
  .next (s.issue th (fun i => i.op == 0x53 && i.mode == 5) (fun i s => s.onEntry th i (fun e =>
    if (s.centry e).state = 1 ∨ (s.centry e).state = 2 then
      let s1 := s.abandonEntry e false
      (s1.setThr th { s1.thr th with dropped := (s1.thr th).dropped ++ [e] }).stripeDone th i 0
    else if (s.centry e).state = 3 then s.stripeDone th i 0
    else s.stripeRefused th i e)))

end Sys2Proof.Machine
end

