-- ==== Sys2Proof/Machine/Events.lean ====
section
/-! DEFINITION. The event and signal instructions of Quinuip: WAITEV (R259), SIGNAL (R260), TIMER (R261), with the waits that
they begin. -/

namespace Sys2Proof.Machine

/-! ## WAITEV -/

/-- The selected conditions of a WAITEV: counters of the mask that are zero, and the mailbox. -/
def Thread.zeroCounters (t : Thread) (mask : Nat) : Nat :=
  ((setBits mask 8).map (fun k => if t.counter k = 0 then 2 ^ k else 0)).sum

/-- A WAITEV's condition holds (R259): with ANY one selected condition, else all of them. -/
def Thread.eventHolds (t : Thread) (mask : Nat) (mbox any : Bool) : Bool :=
  if any then t.zeroCounters mask != 0 || (mbox && !t.mailbox.isEmpty)
  else t.zeroCounters mask == mask % 256 && (!mbox || !t.mailbox.isEmpty)

/-- A WAITEV ends: gD, and the sticky outcome is cleared (R259). -/
def State.endWaitev (s : State) (th d mask : Nat) (limit : Bool) : State :=
  let t := s.thr th
  let v := t.zeroCounters mask + 2 ^ 8 * (!t.mailbox.isEmpty).toNat + 2 ^ 10 * limit.toNat + 2 ^ 16 * t.sticky
  s.setThr th ({ t with wait := .none, sticky := 0 }.setReg d (BitVec.ofNat 64 v))

/-- A thread that waits in WAITEV goes on if its condition now holds. -/
def State.wake (s : State) (th : Nat) : State :=
  match (s.thr th).wait with
  | .waitev d mask mbox any _ => if (s.thr th).eventHolds mask mbox any then s.endWaitev th d mask false else s
  | _ => s

/-- WAITEV (R259). -/
def execWaitev (th : Nat) (s : State) : Host.Outcome State Fault Refusal :=
  .next (s.issue th (fun i => i.op == 0x58) (fun i s =>
    (s.setThr th { s.thr th with
      wait := .waitev i.d (i.im 0 8) (i.ib 8) (i.ib 10) ((s.thr th).reg i.a).toNat, waitSince := s.tbase.toNat }).wake th))

/-- The tick limit of a WAITEV expires and the wait ends (R259). -/
def execWaitevLimitExpiry (th : Nat) (s : State) : Host.Outcome State Fault Refusal :=
  .next (match (s.thr th).wait with
    | .waitev d mask _ _ limit =>
      if s.threadsRun && decide (0 < limit ∧ (s.thr th).waitSince + limit ≤ s.tbase.toNat) then s.endWaitev th d mask true
      else s
    | _ => s)

/-! ## SIGNAL -/

/-- Put a word into a thread's mailbox and wake it (R236, R260). -/
def State.deliver (s : State) (target : Nat) (w : Word) : State :=
  (s.setThr target { s.thr target with mailbox := (s.thr target).mailbox ++ [w] }).wake target

/-- The mailbox of a thread has room: it holds four words (R236). -/
def State.mailRoom (s : State) (target : Nat) : Bool := decide ((s.thr target).mailbox.length < 4)

/-- SIGNAL SEND delivers gB to the mailbox of thread gA[9:0], waiting while it is full; a word for a thread that does not run
is dropped (R260; log entry 19). Behind an earlier STORE COMMIT it waits (R264). -/
def execSignalSend (th : Nat) (s : State) : Host.Outcome State Fault Refusal :=
  .next (s.issue th (fun i => i.op == 0x59 && i.mode == 0) (fun i s =>
    let t := s.thr th
    let target := bits (t.reg i.a).toNat 0 10
    if s.commitBefore th t.nextId (fun _ => true) then s.async th i (.sendHeld target (t.reg i.b) t.at_) 0 [] []
    else if !(s.thr target).running then s.async th i .done 0 [] []
    else if s.mailRoom target then (s.async th i .done 0 [] []).deliver target (t.reg i.b)
    else s.async th i (.mailbox target (t.reg i.b) t.at_) 0 [] []))

/-- A piece of device work, by its pattern and argument words (R268; log entry 86). -/
def workKey (pattern : Nat) (words : List Word) : Nat :=
  words.zipIdx.foldl (fun n e => n + 2 ^ (16 + 64 * e.2) * e.1.toNat) pattern

/-- Start a pattern on a device-work thread for a SIGNAL; none while no such thread is free (R237, R238, R260). -/
def State.startWork (s : State) (c pattern : Nat) (words : List Word) (starter : Option (Nat × Nat)) :
    State × Option Nat :=
  match s.freeThread c true with
  | none => (s, none)
  | some th =>
    let s1 := s.startThread th pattern words 0 (BitVec.ofNat 64 (th + 2 ^ 63)) 31
    (s1.setThr th { s1.thr th with starter, work := workKey pattern words }, some th)

/-- The first 56 bytes of a run as seven words (R260). -/
def State.callWords (s : State) (th h : Nat) : List Word := (List.range 7).map (fun k => s.runWord th h (8 * k))

/-- Hand a pattern to a cluster of this device, behind the sender's earlier STORE COMMITs (R264): outcome 0x0407 for an absent
cluster, 0x0406 for a pattern not valid (R260). -/
def State.signalCall (s : State) (th : Nat) (i : IWord) (c : Nat) : State :=
  let t := s.thr th
  let p := i.im 20 12
  if t.run i.h = [] then s.faultAt th 0x0405
  else if !s.clusterAvail c then s.async th i .done 0x0407 [] [i.h]
  else if !ptValid (s.ptab c p) then s.async th i .done 0x0406 [] [i.h]
  else
    let words := s.callWords th i.h
    let s1 := s.async th i (.queued c p words) 0 [] [i.h]
    if s.commitBefore th t.nextId (fun _ => true) then s1
    else match s1.startWork c p words (some (th, t.nextId)) with
    | (s2, some n) => s2.setThr th ((s2.thr th).mapAsync t.nextId (fun o => { o with wait := .started n }))
    | (s2, none) => s2

/-- SIGNAL CALL starts a pattern on a device-work thread of cluster gA[2:0] (R260). -/
def execSignalCall (th : Nat) (s : State) : Host.Outcome State Fault Refusal :=
  .next (s.issue th (fun i => i.op == 0x59 && i.mode == 1) (fun i s =>
    s.signalCall th i (bits ((s.thr th).reg i.a).toNat 0 3)))

/-- SIGNAL RECV takes the oldest mailbox word (R260). -/
def execSignalRecv (th : Nat) (s : State) : Host.Outcome State Fault Refusal :=
  .next (s.issue th (fun i => i.op == 0x59 && i.mode == 3) (fun i s =>
    match (s.thr th).mailbox with
    | [] => (s.wr th i.d 0).wp th (i.im 12 2) false
    | w :: ws => ((s.setThr th { s.thr th with mailbox := ws }).wr th i.d w).wp th (i.im 12 2) true))

/-- Replace the federation's state. -/
def State.setFed (s : State) (x : FedState) : State := { s with fed := x }

/-- A message of a spanning call to a device; the thread's instruction `id` waits for its answer. -/
def State.fedAsk (s : State) (dev th id : Nat) (body : FedBody) : State :=
  let n := s.fed.nextId
  (s.setFed { s.fed with nextId := n + 1, waits := s.fed.waits.insert n (th, id) }).send (.fed { dev, id := n, body })

/-! ## TIMER -/

/-- TIMER, IMM[3] = 0: completes on its counter after gA ticks; it writes no outcome (R261, R262). -/
def execTimerWait (th : Nat) (s : State) : Host.Outcome State Fault Refusal :=
  .next (s.issue th (fun i => i.op == 0x5A && !i.ib 3) (fun i s =>
    let t := s.thr th
    s.setThr th (t.addAsync i.ctr none (.timer (s.tbase.toNat + (t.reg i.a).toNat)) 0 [] [] s.tbase.toNat)))

/-- TIMER, IMM[3] = 1: gD = TBASE (R261). -/
def execTimerRead (th : Nat) (s : State) : Host.Outcome State Fault Refusal :=
  .next (s.issue th (fun i => i.op == 0x5A && i.ib 3) (fun i s => s.wr th i.d s.tbase))

end Sys2Proof.Machine
end

