-- ==== Sys2Proof/Machine/Parity.lean ====
section
/-! DEFINITION. The GF instructions of Quinuip: GFMAC (R253), SYND (R254) and SOLVE (R255). -/

namespace Sys2Proof.Machine

/-- Byte by byte: d XOR a·b in GF(2^8) (R253). -/
def gfmacWord (d a b : Word) : Word :=
  BitVec.ofNat 64 (leNat ((List.range 8).map (fun k =>
    BitVec.ofNat 8 (bits d.toNat (8 * k) 8 ^^^ gfMul (bits a.toNat (8 * k) 8) (bits b.toNat (8 * k) 8)))))

/-- GFMAC, on registers or on runs (R253). -/
def execGfmac (th : Nat) (s : State) : Host.Outcome State Fault Refusal :=
  .next (s.issue th (fun i => i.op == 0x40) (fun i s =>
    let t := s.thr th
    if i.ib 3 then
      if t.run i.h = [] ∨ (t.run i.h).length ≠ (t.run (i.im 16 4)).length then s.faultAt th 0x0405
      else
        let k := bits (t.reg i.b).toNat 0 8
        (s.putInfos th i.h 0 ((List.zip (s.runInfos th i.h) (s.runInfos th (i.im 16 4))).map (fun p =>
          p.1.addScaled k p.2))).async th i .done 0 [i.h] [i.im 16 4]
    else s.wr th i.d (gfmacWord (t.reg i.d) (t.reg i.a) (t.reg i.b))))

/-- SYND BIND: handles IMM[11:8] onward become the stripe's parity columns (R254). DESIGN CHOICE: a thread of a cluster that does not
own the entry's band is not refused; R20 and R50 say that the owner's unit computes parity, and R254 and R269 name no outcome for
another's (log entry 85). -/
def execSyndBind (th : Nat) (s : State) : Host.Outcome State Fault Refusal :=
  .next (s.issue th (fun i => i.op == 0x41 && i.mode == 0) (fun i s =>
    let t := s.thr th
    let e := (t.reg i.c).toNat
    let img := s.entryImg e
    let hs := (List.range (pkP img)).map (fun k => i.h + k)
    if t.ctx.isSome ∨ couchingSize ≤ e ∨ (s.centry e).state = 0 then s.faultAt th 0x0406
    else if pkLayout img = 3 ∧ !s.hw.variant.net then s.faultAt th 0x0407
    else if hs.any (fun h => decide (16 ≤ h)) then s.faultAt th 0x0406
    else if hs.any (fun h => decide ((t.run h).length ≠ pkZ img / 4096)) then s.faultAt th 0x0405
    else
      let s1 := s.setThr th { t with ctx := some { entry := e, handles := hs, pendingAdds := 0 } }
      let s2 := if i.ib 6 then s1
        else hs.foldl (fun s h => s.putInfos th h 0 ((t.run h).map (fun _ => infoReset 0))) s1
      s2.async th i .done 0 (if i.ib 6 then [] else hs) []))

/-- SYND ADD: a run is added as the contribution of column gB; its blocks whose guard fails take the poison signature (R49, R187,
R254). -/
def execSyndAdd (th : Nat) (s : State) : Host.Outcome State Fault Refusal :=
  .next (s.issue th (fun i => i.op == 0x41 && i.mode == 1) (fun i s =>
    let t := s.thr th
    let col := (t.reg i.b).toNat
    match t.ctx with
    | none => s.faultAt th 0x0406
    | some c =>
      let x := s.centry c.entry
      let img := s.entryImg c.entry
      let data := match pkRole img col with | .data _ => decide (col < pkW img) | _ => false
      if (t.reg i.c).toNat ≠ c.entry ∨ !data then s.faultAt th 0x0406
      else if (t.run i.h).length ≠ pkZ img / 4096 then s.faultAt th 0x0405
      else
        let fmt := (s.arr x.array).pifmt
        let l := s.runInfos th i.h
        ((s.contributeAll th x.array img fmt col l).putInfos th i.h 0 (l.map (Info.sealed fmt))).async th i .contribution 0
          c.handles [i.h]))

/-- SYND WAIT completes when every earlier contribution has been absorbed (R254). -/
def execSyndWait (th : Nat) (s : State) : Host.Outcome State Fault Refusal :=
  .next (s.issue th (fun i => i.op == 0x41 && i.mode == 2) (fun i s =>
    if (s.thr th).ctx.isNone then s.faultAt th 0x0406 else s.async th i .absorb 0 [] []))

/-- SYND UNBIND releases the context; the runs stay with their handles (R254). -/
def execSyndUnbind (th : Nat) (s : State) : Host.Outcome State Fault Refusal :=
  .next (s.issue th (fun i => i.op == 0x41 && i.mode == 3) (fun i s =>
    (s.setThr th { s.thr th with ctx := none }).async th i .done 0 [] []))

/-- The bound run that holds A, B or C for the unknown index `i` (R49, R56): the parity column whose role gives it. -/
def ctxRun (img : List Byte) (c : ParityCtx) (i which : Nat) : Option Nat :=
  let want : Role := match which with
    | 0 => if pkLayout img = 3 then .parL (pkGroup img i) else .parP
    | 1 => .parQ
    | _ => .parS
  ((List.zip c.handles (pkParityCols img)).find? (fun e => pkRole img e.2 == want)).map (fun e => e.1)

/-- SOLVE: up to three unknown data indices from the reduced syndromes of the bound runs, under the row of R56 that R57
chooses; outcome 0x0406 where none applies (R255). -/
def execSolve (th : Nat) (s : State) : Host.Outcome State Fault Refusal :=
  .next (s.issue th (fun i => i.op == 0x42) (fun i s =>
    let t := s.thr th
    let ga := (t.reg i.a).toNat
    let n := bits ga 24 2
    let idx := (List.range n).map (fun k => bits ga (8 * k) 8)
    match t.ctx with
    | none => s.faultAt th 0x0406
    | some c =>
      let img := s.entryImg c.entry
      let u := idx.headD 0
      let have_ (k : Nat) : Option Nat := if bit (t.reg i.b).toNat k then ctxRun img c u k else none
      let one (x y z : Nat) := gfSolve idx ((have_ 0).map (fun _ => x)) ((have_ 1).map (fun _ => y)) ((have_ 2).map (fun _ => z))
      let outs := (List.range n).map (fun k => i.h + k)
      let sorted := decide (idx.Pairwise (· < ·)) && idx.all (fun x => decide (x < pkD img)) &&
        (decide (n < 2) || (have_ 0).isNone || idx.all (fun x => pkGroup img x == pkGroup img u))
      if outs.any (fun h => decide (16 ≤ h)) then s.faultAt th 0x0406
      else if outs.any (fun h => decide ((t.run h).length ≠ pkZ img / 4096)) then s.faultAt th 0x0405
      else match one 1 0 0, one 0 1 0, one 0 0 1 with
        | some ra, some rb, some rc =>
          if n = 0 ∨ !sorted then s.async th i .done 0x0406 outs []
          else
            let word (k : Nat) (j : Nat) : Info :=
              let get (x : Option Nat) : Info := (x.map (fun h => s.runInfo th h k)).getD (infoReset 0)
              combine (ra.getD j 0) (rb.getD j 0) (rc.getD j 0) (get (have_ 0)) (get (have_ 1)) (get (have_ 2))
            let vals := (List.range n).map (fun j => (i.h + j, (List.range (pkZ img / 4096)).map (fun k => word k j)))
            (vals.foldl (fun s v => s.putInfos th v.1 0 v.2) s).async th i .done 0 outs []
        | _, _, _ => s.async th i .done 0x0406 outs []))

end Sys2Proof.Machine
end

