-- ==== Sys2Proof/Machine/Completion.lean ====
section
/-! DEFINITION. The completion and control instructions of Quinuip (R261), the completion of asynchronous instructions (R262),
and the waits that SE_WAITLIM bounds (R244, R257, R260, R269). -/

namespace Sys2Proof.Machine

/-- Earlier host STOREs of the thread are still outstanding (R261 POST). -/
def Thread.storesOut (t : Thread) : Bool :=
  t.asyncs.any (fun o => o.wr.isEmpty && (match o.wait, o.xfer with
    | .host _, some f => decide (f.space ≤ 1)
    | _, _ => false))

/-- Post a status and result for every call a thread holds; it then holds none (R261, R306). -/
def State.postCalls (s : State) (th status result : Nat) : State :=
  let t := s.thr th
  let r := (s.setThr th { t with calls := [] }).postOrStall th t.calls status result
  if r.2 then r.1.setThr th { r.1.thr th with wait := .post, waitSince := r.1.tbase.toNat } else r.1

/-- A thread that holds no call posts: a device-work thread's status goes to the instruction that started it (R260); else the
POST is discarded and logged with a status the spec does not state (R261; log entry 2). -/
def State.postNone (s : State) (th status : Nat) : State :=
  match (s.thr th).starter, (s.thr th).book.origin with
  | some _, _ => s.tellStarter th status
  | none, some _ => s.tellStarter th status
  | none, none =>
    ((s.logFault th (s.freshVal.toNat % 65536) 0 (s.thr th).at_ (s.pword (thCluster th) (s.thr th).at_)).bumpFree)

/-- After the lease has ended, a call posts only if it had completed every STORE and its commits had completed (R393). -/
def State.postBarred (s : State) (th : Nat) : Bool :=
  s.pair.leaseLost.isSome && ((s.thr th).lapsed || !(s.thr th).staged.isEmpty ||
    (s.thr th).asyncs.any (fun o => match o.wait with | .commit .. => true | .sled _ => true | _ => false))

/-- POST: status gA[15:0] and result gB[31:0] for every call the thread holds, once its earlier host STOREs have completed
(R261). -/
def execPost (th : Nat) (s : State) : Host.Outcome State Fault Refusal :=
  .next (if s.executes th && ((s.thr th).storesOut || s.postBarred th) then s else s.issue th (fun i => i.op == 0x60) (fun i s =>
    let st := bits ((s.thr th).reg i.a).toNat 0 16
    if (s.thr th).calls = [] then s.postNone th st
    else s.postCalls th st (bits ((s.thr th).reg i.b).toNat 0 32)))

/-- The oldest stalled result of completion ring `q` enters the holding area, and its thread goes on (R307). -/
def execPostStallResume (q : Nat) (s : State) : Host.Outcome State Fault Refusal :=
  .next (match (s.cpl q).stalled with
    | [] => s
    | x :: xs =>
      if s.holdFits q x.calls.length && s.callsRun then
        let s1 := ((s.setCpl q { s.cpl q with stalled := xs }).completeCalls x.calls x.status x.result).holdingFreed q
        if (s1.thr x.th).wait = .post then s1.setThr x.th { s1.thr x.th with wait := .none } else s1
      else s)

/-- Two entries of a ring belong to one batch: by the batches not yet recorded, or by LAST on an in-place ring (R304). -/
def State.sameBatch (s : State) (r : Nat) (c : Call) (num : Nat) : Bool :=
  if s.flag (F.CQ_CTL_INPLACE (s.cqOf r)) then !bit (c.words.getD 0 0).toNat 8
  else (s.sub r).batches.any (fun b => b.entries.any (fun e => e.num == c.num) && b.entries.any (fun e => e.num == num))

/-- BATCH claims the next entry of the ring if it belongs to the same batch, carries the same pattern, and waits undispatched
(R261). -/
def execBatch (th : Nat) (s : State) : Host.Outcome State Fault Refusal :=
  .next (s.issue th (fun i => i.op == 0x61) (fun i s =>
    let t := s.thr th
    let no := s.wp th (i.im 0 2) false
    if 25 < i.d then s.faultAt th 0x0406
    else match t.calls.getLast? with
      | none => no
      | some c =>
        match (s.sub c.ring).fetched with
        | [] => no
        | e :: es =>
          let w0 := (e.words.getD 0 0).toNat
          if e.num = c.num + 1 ∧ (bits w0 0 4 = 1 ∨ bits w0 0 4 = 2) ∧
              bits w0 32 16 = t.pattern ∧ s.sameBatch c.ring c e.num then
            let s1 := s.setSub c.ring { s.sub c.ring with fetched := es }
            let c2 : Call := { ring := c.ring, index := e.index, num := e.num, pattern := t.pattern, words := e.words, batch := c.batch + 1 }
            let s2 := s1.setThr th { s1.thr th with calls := (s1.thr th).calls ++ [c2] }
            ((List.range 7).foldl (fun s k => s.wr th (i.d + k) (e.words.getD (k + 1) 0)) s2).wp th (i.im 0 2) true
          else no))

/-- TRAP ends the thread with fault 0x0404 and its trap code (R261). -/
def execTrap (th : Nat) (s : State) : Host.Outcome State Fault Refusal :=
  .next (s.issue th (fun i => i.op == 0x68) (fun i s => s.faultAt th 0x0404 (i.im 0 8)))

/-- A halting thread whose asynchronous instructions have completed ends, with fault 0x0409 if it holds a call (R261). -/
def State.haltThread (s : State) (th : Nat) : State :=
  if (s.thr th).calls ≠ [] then s.faultAt th 0x0409 else s.endThread th

/-- HALT (R261). -/
def execHalt (th : Nat) (s : State) : Host.Outcome State Fault Refusal :=
  .next (s.issue th (fun i => i.op == 0x69) (fun _ s =>
    if (s.thr th).asyncs.isEmpty then s.haltThread th
    else s.setThr th { s.thr th with wait := .halt, waitSince := s.tbase.toNat }))

/-! ## Asynchronous completion -/

/-- Retire an instruction whose outcome is known; a thread that waits for it goes on (R259, R261, R262, R268). -/
def State.retireAsync (s : State) (th : Nat) (o : AsyncOp) : State :=
  let s1 := s.setThr th ((s.thr th).retire o)
  match (s1.thr th).wait with
  | .ending => if (s1.thr th).asyncs.isEmpty then s1.finishThread th else s1
  | .halt => if (s1.thr th).asyncs.isEmpty then s1.haltThread th else s1
  | .faulting status trap pc w => if (s1.thr th).asyncs.isEmpty then s1.settleFault th status trap pc w else s1
  | _ => s1.wake th

/-- A queued SIGNAL CALL or OWNER starts once a device-work thread is free; an index unloaded meanwhile gives 0x0406 (R260). -/
def State.tryQueued (s : State) (th : Nat) (o : AsyncOp) (c p : Nat) (words : List Word) : State :=
  if s.commitBefore th o.id (fun _ => true) then s
  else if !ptValid (s.ptab c p) then s.retireAsync th { o with outcome := 0x0406 }
  else match s.startWork c p words (some (th, o.id)) with
    | (s1, some n) => s1.setThr th ((s1.thr th).mapAsync o.id (fun x => { x with wait := .started n }))
    | (s1, none) => s1

/-- A SIGNAL SEND that stood behind a STORE COMMIT is delivered, or begins to wait for its full mailbox (R260, R264). -/
def State.sendNow (s : State) (th : Nat) (o : AsyncOp) (target : Nat) (w : Word) (pc : Nat) : State :=
  if s.commitBefore th o.id (fun _ => true) then s
  else if !(s.thr target).running then s.retireAsync th o
  else if s.mailRoom target then (s.deliver target w).retireAsync th o
  else s.setThr th ((s.thr th).mapAsync o.id (fun x => { x with wait := .mailbox target w pc, since := s.tbase.toNat }))

/-- An asynchronous instruction of a thread completes: its counter falls and its outcome is written (R262). One whose event
has not come stays outstanding. -/
def execAsyncInstructionComplete (th id : Nat) (s : State) : Host.Outcome State Fault Refusal :=
  .next (match (s.thr th).async? id with
    | none => s
    | some o =>
      if !s.threadsRun then s
      else match o.wait with
        | .done => s.retireAsync th o
        | .contribution => s.retireAsync th o
        | .durable q => if s.durableAt q then s.retireAsync th o else s
        | .absorb =>
          if (s.thr th).asyncs.any (fun x => decide (x.id < o.id) && decide (x.wait = .contribution)) then s
          else s.retireAsync th o
        | .timer u => if u ≤ s.tbase.toNat then s.retireAsync th o else s
        | .mailbox target w _ =>
          if !(s.thr target).running then s.retireAsync th o
          else if s.mailRoom target then (s.deliver target w).retireAsync th o
          else s
        | .sendHeld target w pc => s.sendNow th o target w pc
        | .behind => s.runBehind th o
        | .callHeld d a b p words =>
          if s.commitBefore th o.id (fun _ => true) then s
          else if !bit (s.f F.FED_LINK_UP) d then s.asyncDone th o.id 0x0504
          else (s.setThr th ((s.thr th).mapAsync o.id (fun x => { x with wait := .remote d }))).fedAsk d th o.id (.start a b p words)
        | .queued c p words => s.tryQueued th o c p words
        | _ => s)

/-! ## Waits -/

/-- SE_WAITLIM of a thread's cluster (R244). -/
def State.waitLimit (s : State) (th : Nat) : Nat := s.f (F.SE_WAITLIM_LIMIT (thCluster th))

/-- A SKALLOC, MAPLOCK or SIGNAL SEND has waited longer than SE_WAITLIM: the thread ends with fault 0x0408 (R244, R257, R260,
R269). -/
def execWaitLimitExpiry (th : Nat) (s : State) : Host.Outcome State Fault Refusal :=
  .next (
    let t := s.thr th
    let late (since : Nat) : Bool := decide (since + s.waitLimit th ≤ s.tbase.toNat)
    if !(s.threadsRun && t.running) then s
    else match t.wait with
      | .skalloc _ _ => if late t.waitSince then s.faultAt th 0x0408 else s
      | .maplock _ _ => if late t.waitSince then s.faultAt th 0x0408 else s
      | _ =>
        match t.asyncs.find? (fun o => (match o.wait with | .mailbox .. => true | _ => false) && late o.since) with
        | some o =>
          match o.wait with
          | .mailbox _ _ pc =>
            let gone : Bool := match t.wait with | .ending => true | .faulting .. => true | _ => false
            if gone then s.retireAsync th o
            else (s.setThr th { t with asyncs := t.asyncs.filter (fun x => x.id != o.id) }).threadFault th 0x0408 0 pc
              (s.pword (thCluster th) pc)
          | _ => s
        | none => s)

/-- The blocks of a commit that stores nothing are taken back from the standby (R86, R87). -/
def State.dropMirrored (s : State) (o : AsyncOp) : State :=
  match o.wait with
  | .commit l _ => if l.isEmpty then s else s.mirror (.unstage (l.map (fun x => (x.array, x.block))))
  | _ => s

/-- The bank has been unhealthy for HOOP_BANK_WAIT.TIMEOUT over a call's STORE COMMIT waits: the commit ends with 0x0601 and
nothing of it is stored (R86). -/
def execBankWaitTimeout (th : Nat) (s : State) : Host.Outcome State Fault Refusal :=
  .next (
    match s.hoop.bankWaits.find? (fun w => w.th == th),
        (s.thr th).asyncs.find? (fun o => match o.wait with | .commit .. => true | _ => false) with
    | some w, some o =>
      if s.f F.HOOP_BANK_WAIT_TIMEOUT ≤ (w.pause s.tbase).sum then ((s.endBankWait th).dropMirrored o).asyncDone th o.id 0x0601 else s
    | _, _ => s)

/-- A waiting STORE COMMIT finds every condition of R84 met and enters the hoop (R86). -/
def execStoreCommitResume (th : Nat) (s : State) : Host.Outcome State Fault Refusal :=
  .next (
    match (s.thr th).asyncs.find? (fun o => match o.wait with | .commit .. => true | _ => false) with
    | some o => if s.threadsRun then (s.tryCommit th o).drive else s
    | none => s)

/-- A couching entry or a band has become available and a waiting stripe opens, a thread's or one of the
device's own writer; a waiting IPNEXT finds an interim band (R96, R137, R258). -/
def execStripeOpenResume (th : Nat) (s : State) : Host.Outcome State Fault Refusal :=
  .next (
    match (s.thr th).asyncs.find? (fun o => match o.wait with | .stripeOpen .. => true | .ipnext _ => true | _ => false) with
    | some o => if s.threadsRun then (s.tryOpen th o).tryIpnext th o else s
    | none => s.drive)

end Sys2Proof.Machine
end

