-- ==== Sys2Proof/Machine/Hoop.lean ====
section
/-! DEFINITION. The hoop's own events: grains that enter their gathering stripe by age or for a flush (R88, R93, R97, R98),
replication of the couching table to the copy sleds (R102, R103), and resynchronisation (R107, R108, R493). -/

namespace Sys2Proof.Machine

/-! ## Gathering by age, flush or bank (R88, R93, R98) -/

/-- A FLUSH, or a WRITE with FUA, of a thread waits for a version of a grain (R97): all of the array's, or those of its blocks. -/
def Thread.coversGrain (t : Thread) (blk a g seq : Nat) : Bool :=
  let first := bits (t.reg 2).toNat 0 48
  let count := bits (t.reg 3).toNat 0 32
  t.running && decide (seq ≤ t.covers) && bits (t.reg 1).toNat 0 4 == a &&
    (t.pattern == 3 || (decide (first / blk ≤ g) && decide (g * blk < first + count)))

/-- Some call waits for step 6 of a version of a grain (R97). -/
def State.coverDue (s : State) (a g seq : Nat) : Bool := s.threads.any (fun t => t.2.coversGrain (s.gblk a) a g seq)

/-- The oldest version of a grain that has not entered a gathering stripe. -/
def State.looseVersion (s : State) (a g : Nat) : Option Version :=
  s.hoop.versions.find? (fun v => v.array == a && v.grain == g && !v.gathered)

/-! ## Couching replication (R101 to R103, R126) -/

/-- Entries of a table page that are not FREE. -/
def State.pageCount (s : State) (q : Nat) : Nat :=
  (s.hoop.entries.filter (fun e => e.1 / 1023 == q && e.2.state != 0)).length

/-- Replace the replication's state. -/
def State.setRepl (s : State) (r : Replication) : State := { s with hoop := { s.hoop with repl := r } }

/-- Every CLOG_SYNC.PERIOD the changed table pages and the new deltas go to every copy sled (R103, R126). -/
def execCouchingReplication (s : State) : Host.Outcome State Fault Refusal :=
  .next (
    if s.copies = [] || s.bobbinIdle || decide ((s.tbase - s.hoop.repl.lastSync).toNat < s.f F.CLOG_SYNC_PERIOD) then s
    else
      let s1 := (setBits s.hoop.repl.dirtyPages 8).foldl (fun s q => s.writeRecord 1 q (s.pageCount q) (s.pageSlots q)) s
      let due := s1.dlog.deltas.filter (fun d => decide (s1.hoop.repl.deltaSent ≤ d.pos))
      let s2 := if due.isEmpty then s1 else s1.copies.foldl (fun s n => s.send (.copyDeltas n (logInfos (due.flatMap Delta.bytes)))) s1
      let s3 := if s2.hoop.repl.lostDirty then s2.copies.foldl (fun s n => s.send (s.lost.message n)) s2 else s2
      s3.setRepl { s3.hoop.repl with dirtyPages := 0, lastSync := s.tbase, deltaSent := s3.dlog.next, lostDirty := false })

/-- CLOG_RSEQ and CLOG_STAT.COPIES follow the acknowledgements. -/
def State.syncCopies (s : State) : State :=
  let l := s.copies
  (s.setF F.CLOG_RSEQ_RSEQ (minList (l.map s.ackedBy))).setF F.CLOG_STAT_COPIES
    (l.filter (fun n => decide (0 < s.ackedBy n) && decide (s.joinRseq n ≤ s.ackedBy n))).length

/-- Every array's registers and state follow its members (R205 to R213). -/
def State.syncAll (s : State) : State := (List.range 16).foldl (fun s a => s.syncMembers a) s

/-- A copy sled acknowledges a couching record (R103): CLOG_RSEQ advances. -/
def execCopyRecordAck (sled rseq : Nat) (s : State) : Host.Outcome State Fault Refusal :=
  .next (
    if s.copies.contains sled && decide (rseq ≤ s.hoop.repl.nextRseq) && !s.bobbinIdle then
      (s.setRepl { s.hoop.repl with
        acks := Tbl.set markReset s.hoop.repl.acks sled (max (s.ackedBy sled) rseq) }).syncCopies.syncAll.drive
    else s)

/-! ## Resynchronisation (R107, R108, R493) -/

/-- A resynchronisation becomes due over the regions marked now (R107). DESIGN CHOICE: with no region marked none begins: RESYNC stays 0
and PERMILLE keeps its value; the spec does not say what an empty one shows (log entry 87). -/
def State.resyncDue (s : State) : State :=
  let l := (s.hoop.bitmap.filter (fun e => e.2)).map (fun e => e.1)
  if l = [] then s
  else (({ s with hoop := { s.hoop with resync := some { left := l, total := l.length, begun := false } } }.setFlag F.DRB_STAT_RESYNC
    true).setF F.DRB_RESYNC_LEFT l.length).setF F.DRB_RESYNC_PERMILLE 0

/-- What a change of mode leaves to follow: whether rebuild runs, and why not; no array's state (R43, R211). -/
def State.syncRuns (s : State) : State := (List.range 16).foldl (fun s a => s.syncRun a) s

/-- A region has been visited; after the last one the resynchronisation ends. -/
def State.resyncNext (s : State) (rest : List Nat) (total : Nat) : State :=
  if rest = [] then
    ((({ s with hoop := { s.hoop with resync := none } }.setFlag F.DRB_STAT_RESYNC false).setF F.DRB_RESYNC_LEFT 0).setF
      F.DRB_RESYNC_PERMILLE 1000).syncAll.raiseEvent 3
  else
    ({ s with hoop := { s.hoop with resync := some { left := rest, total, begun := false } } }.setF F.DRB_RESYNC_LEFT rest.length).setF
      F.DRB_RESYNC_PERMILLE (1000 * (total - rest.length) / max 1 total)

end Sys2Proof.Machine
end

