-- ==== Sys2Proof/Machine/Members.lean ====
section
/-! DEFINITION. Member loss: judging and declaring failures (R196 to R204, R491), timeouts (R198), the couching copy sleds
(R102, R220, R221), and checkpoint epochs (R128, R129, R208). -/

namespace Sys2Proof.Machine

/-! ## Checkpoint epochs -/

/-- The array whose map checkpoint bands hold the segments, and the cluster that writes a segment (R120; log entry 31). -/
def State.ckptHome (s : State) (seg : Nat) : Option (Nat × Nat) :=
  ((List.range 16).find? (fun a => s.arrExists a && (s.armed a).isSome)).map (fun a =>
    (a, (s.clusters[seg % s.clusters.length]?).getD 0))

/-- The words of a map segment as the running epoch writes it (R128, R174): 131,072 entries, no protection information. -/
def State.segWords (s : State) (home seg : Nat) : List Info :=
  let a := seg / 2 ^ 24
  let g0 := seg % 2 ^ 24 * 131072
  (List.range 256).map (fun k =>
    { data := (List.range 512).foldl (fun d i => d.writeBytes (8 * i) (leBytes 8
        (Tbl.get mapDefault s.dlog.newSegs (grainKey a (g0 + 512 * k + i))).toNat)) []
      pi := 0
      mta := mtaMake 0xFFFFFFFFFF home false false 0 0 0 })

/-- Replace the delta log. -/
def State.setDlog (s : State) (l : DeltaLog) : State := { s with dlog := l }

/-- Padding behind a segment's words: metadata without a grain (R174). -/
def ckptPad (home : Nat) : Info := { data := [], pi := 0, mta := mtaMake 0xFFFFFFFFFF home false false 0 0 0 }

/-- Write one whole stripe of a map checkpoint band with its final parity (R129). -/
def State.writeCkptStripe (s : State) (a b st : Nat) (words : List Info) : State :=
  let img := s.bandImg a b
  let q := pkZ img / 4096
  let full := words ++ List.replicate (pkD img * q - words.length) (ckptPad a)
  let cols := (extentCols img full 0 full.length).map (fun c => (c.1, c.2.2)) ++ parityStrips img full
  cols.foldl (fun s c =>
    match s.colHome a b st c.1 with
    | none => s
    | some (n, blk, pos) =>
      if (s.sled n).failed then s
      else
        let pc := pageOf (s.sled n).cwp (pkZ img) pos 0
        (s.setDlog { s.dlog with ckptLeft := s.dlog.ckptLeft + 1 }).sendSled n
          (.program blk pc.1 (ceilDiv q (max 1 (s.sled n).cwp)) c.2) a false (.checkpoint a b c.1)) s

/-- The open map checkpoint band of a cluster with room for `m` stripes under the ARMED pricking; it is named and opened first where it
must be (R103, R120, R228). -/
def State.ckptBand (s : State) (a c m : Nat) : State × Option Nat :=
  match s.openOf a c .mapCkpt with
  | some b =>
    if (s.band a b).next + m ≤ s.bandStripes a b ∧ (s.band a b).generation = s.armedGen a then (s, some b)
    else (s.closeBand a b (decide ((s.band a b).next < s.bandStripes a b)) false, none)
  | none =>
    match s.freeBand a c with
    | none => (s, none)
    | some b =>
      if !s.mayOpen a .mapCkpt then (s, none)
      else if s.bandNamed a b then (s.openBand a b .mapCkpt, some b)
      else (s.nameBand a b, none)

/-- Write one segment of the running epoch, if a band has room (R128 step 3). -/
def State.writeSegment (s : State) (seg : Nat) : State :=
  match s.ckptHome seg with
  | none => s
  | some (a, c) =>
    let img := (s.armed a).getD []
    let per := pkD img * (pkZ img / 4096)
    let m := ceilDiv 256 (max 1 per)
    match s.ckptBand a c m with
    | (s1, none) => s1
    | (s1, some b) =>
      let st := (s1.band a b).next
      let words := s1.segWords a seg
      let s2 := (List.range m).foldl (fun s k => s.writeCkptStripe a b (st + k) ((words.drop (k * per)).take per)) s1
      let pga := pgaMake b (st * pkD img * (pkZ img / 65536))
      (s2.setBand a b { s2.band a b with next := st + m }).setDlog { s2.dlog with
        pendSegs := s2.dlog.pendSegs.filter (fun x => x != seg), newDir := s2.dlog.newDir ++ [(a * 2 ^ 40 + seg, pga)] }

/-- The committed directory with the segments that the running epoch wrote (R128). -/
def DeltaLog.merged (l : DeltaLog) : List (Nat × Nat) :=
  l.dir.filter (fun (e : Nat × Nat) => !l.newDir.any (fun (n : Nat × Nat) => n.1 % 2 ^ 40 == e.1 % 2 ^ 40)) ++ l.newDir

/-- Every segment of the running epoch is on the media. -/
def DeltaLog.written (l : DeltaLog) : Bool := l.epochRun && l.pendSegs.isEmpty && l.ckptLeft == 0 && !l.ckptFailed

/-- A segment directory as it goes to a copy sled: an 8-byte PGA for each segment (R128). -/
def dirMessage (n : Nat) (dir : List (Nat × Nat)) : OutMsg :=
  .directory (some n) dir (logInfos (dir.flatMap (fun (e : Nat × Nat) => leBytes 8 e.2)))

/-- Step 4 of R128: the directory goes to the vault and to the copy sleds, once. -/
def State.sendDirectory (s : State) : State :=
  if s.dlog.written && !s.dlog.dirSent then
    s.copies.foldl (fun (s : State) n => s.send (dirMessage n s.dlog.merged))
      ((s.setDlog { s.dlog with dirSent := true }).send (.directory none s.dlog.merged []))
  else s

/-- The running epoch goes on: segments still to write are written; a failed PROGRAM has its epoch's segments written again. -/
def State.stepEpoch (s : State) : State :=
  if !s.dlog.epochRun || s.bobbinIdle || !s.destages then s
  else
    let s1 := if s.dlog.ckptFailed && s.dlog.ckptLeft == 0 then s.setDlog { s.dlog with
        ckptFailed := false, newDir := [], pendSegs := s.dlog.pendSegs ++ s.dlog.newDir.map (fun e => e.1 % 2 ^ 40) } else s
    (s1.dlog.pendSegs.foldl (fun s seg => s.writeSegment seg) s1).sendDirectory

/-- Dirty lines of the Map Cache are written to the DRAM map (R128, R170; log entry 31). -/
def State.cleanLines (s : State) : State := (s.mc.lines.map (fun e => e.1)).foldl (fun (s : State) k => s.cleanLine k) s

/-- A checkpoint epoch starts: its start position, and every segment changed since the previous epoch started (R128), with `extra`
segments (R208); asked for while one runs, it starts when that one commits (log entry 31). -/
def State.startEpoch (s : State) (extra : List Nat) : State :=
  let l := s.dlog
  if l.epochRun then s.setDlog { l with segments := (l.segments ++ extra).eraseDups, again := true }
  else
    let t := s.cleanLines
    ((t.setDlog { l with
      epochStart := l.next, epochRun := true, lastEpoch := s.tbase, appended := false, dirSent := false, again := false
      pendSegs := (l.segments ++ extra).eraseDups, segments := [], newDir := [], newSegs := t.map
      ckptLeft := 0, ckptFailed := false }).setFlag F.ARR_DLOG_EPOCH_RUN true).stepEpoch

/-- A PROGRAM of a checkpoint stripe ends (R129). -/
def State.ckptAcked (s : State) (a b : Nat) (ok onBlock : Bool) : State :=
  let s1 := s.setDlog { s.dlog with ckptLeft := s.dlog.ckptLeft - 1, ckptFailed := s.dlog.ckptFailed || !ok }
  (if ok then s1 else s1.closeBand a b true onBlock).stepEpoch

/-! ## The couching copy sleds (R102, R220, R221) -/

/-- Bobbin island of a sled (R102). -/
def State.sledIsland (s : State) (n : Nat) : Nat := (s.sled n).port / 4

/-- The next copy sled beside those had: the lowest number on an island not yet used, else on a port not yet used (log entry
15). -/
def State.pickCopy (s : State) (bar had : List Nat) : Option Nat :=
  let l := (s.sleds.filter (fun e => e.2.usable && !had.contains e.1 && !bar.contains e.1)).map (fun e => e.1)
  (l.find? (fun n => !had.any (fun m => s.sledIsland m == s.sledIsland n))).or
    (l.find? (fun n => !had.any (fun m => (s.sled m).port == (s.sled n).port)))

/-- Up to `n` more copy sleds. -/
def State.pickCopies (s : State) (bar had : List Nat) : Nat → List Nat
  | 0 => had
  | n + 1 =>
    match s.pickCopy bar had with
    | some x => s.pickCopies bar (had ++ [x]) n
    | none => had

/-- The sled log blocks of a copy sled: 64 blocks outside every band (R121, R133). -/
def State.takeLogBlocks (s : State) (n : Nat) : State :=
  (List.range 64).foldl (fun s _ =>
    match s.pickBlock n with
    | some b => s.setEword n b { s.eword n b with state := 2 }
    | none => s) s

/-- A copy sled joins: it is written the table pages, the newest open-band record, the segment directory and the lost tables (R220
step 1). -/
def State.joinCopy (s : State) (n : Nat) : State :=
  let one (s : State) (kind page count : Nat) (slots : List Byte) : State :=
    let q := s.hoop.repl.nextRseq + 1
    ({ s with hoop := { s.hoop with repl := { s.hoop.repl with nextRseq := q } } }).send
      (.copyRecord n q (logInfos (s.couchingRecord kind page q count slots)))
  let s1 := (List.range 8).foldl (fun s p => one s 1 p (s.pageCount p) (s.pageSlots p)) (s.takeLogBlocks n)
  let s2 := one s1 2 0 (ceilDiv s1.openBandWords.length 64) s1.openBandWords
  let s3 := (s2.send (dirMessage n s2.dlog.dir)).send (s2.lost.message n)
  s3.setRepl { s3.hoop.repl with
    acks := Tbl.set markReset s3.hoop.repl.acks n 0, joinAt := Tbl.set markReset s3.hoop.repl.joinAt n s3.hoop.repl.nextRseq }

/-- Copy sleds are chosen while an array exists, and replaced where one is no longer usable or is barred (R102, R220, R221, R232). -/
def State.chooseCopiesBut (s : State) (bar : List Nat) : State :=
  let old := s.copies
  let keep := old.filter (fun n => (s.sled n).usable && !bar.contains n)
  let new := if s.anyArray then s.pickCopies bar keep (3 - keep.length) else []
  let added := new.filter (fun n => !old.contains n)
  let islands := (new.map s.sledIsland).eraseDups.length
  let s1 := ((s.setF F.CLOG_REPL_SLED0 (new.getD 0 noSled)).setF F.CLOG_REPL_SLED1 (new.getD 1 noSled)).setF F.CLOG_REPL_SLED2
    (new.getD 2 noSled)
  let s2 := s1.setFlag F.CLOG_STAT_SHORT (s.anyArray && decide (islands < 3))
  let s3 := ((List.range 16).filter s.arrExists).foldl (fun (s : State) a => s.syncArray a)
    (added.foldl (fun s n => s.joinCopy n) s2).syncCopies
  if s.anyArray && decide (new.length < 3) && decide (new ≠ old ∨ old = []) then s3.healthEvent 4 false 5 0xFFFF else s3

/-- Copy sleds are chosen or replaced, none barred. -/
def State.chooseCopies (s : State) : State := s.chooseCopiesBut []

/-! ## Declaring a sled failed (R196 to R201, R491) -/

/-- Modes in which causes are judged (R491). -/
def judgedMode (m : Mode) : Bool :=
  match m with | .standby => true | .active => true | .maintenance => true | _ => false

/-- Causes are judged now, on this unit (R200, R491). -/
def State.judging (s : State) : Bool := judgedMode s.mode.cur && s.holdsClaim

/-- A band holds a block on sled `n` (R201). -/
def State.bandUses (s : State) (a b n : Nat) : Bool :=
  let img := s.prickingOf a (s.band a b).generation
  (List.range (pkN img)).any (fun k => pkMember img k == n && (s.band a b).blocks.getD k noBlock != noBlock)

/-- Reads outstanding on a sled, and those that wait to be sent to it, are served by reconstruction; tags stay reserved (R199, R201
step 2). -/
def State.rerouteReads (s : State) (n : Nat) : State :=
  let p := (s.sled n).port
  let isRead (c : SledCmd) : Bool := c.sled == some n && (match c.purpose with | .read .. => true | _ => false)
  let kept := (s.port p).waiting.filter isRead
  let s1 := s.setPort p { s.port p with waiting := (s.port p).waiting.filter (fun c => !isRead c) }
  let out := (s1.sledCmds.filter (fun e => isRead e.2 && e.2.timedOut.isNone))
  let s2 : State := out.foldl (fun s e =>
    { s with sledCmds := s.sledCmds.insert e.1 { e.2 with timedOut := some s.tbase } }) s1
  (out.map (fun e => e.2) ++ kept).foldl (fun s c => match c.purpose with
    | .read j k => s.readErased j k
    | _ => s) s2

/-- What waits for the answer of a command that will have none is told so: an EMIT ends with 0x0231, a checkpoint PROGRAM failed,
a configuration write failed (R201, R252). -/
def State.commandLost (s : State) (c : SledCmd) : State :=
  match c.purpose with
  | .emit th id _ _ _ => s.asyncDone th id 0x0231
  | .checkpoint a b _ => s.ckptAcked a b false false
  | .config 0 =>
    match s.prk.run with
    | some r => { s with prk := { s.prk with run := some { r with failed := true } } }
    | none => s
  | .read j col => s.readErased j col
  | _ => s

/-- The sled is reset (R199, R368): POWER RESET leaves, every tag of it is free, and the commands that waited are gone; its hop is
enumerated again. -/
def State.resetSled (s : State) (n : Nat) : State :=
  let x := s.sled n
  let gone := s.sledCmds.filter (fun e => e.2.sled == some n)
  let kept := (s.port x.port).waiting.filter (fun c => c.sled == some n)
  let free (s : State) : State := { s with sledCmds := s.sledCmds.filter (fun e => e.2.sled != some n) }
  let s1 := (free s).setPort x.port { s.port x.port with
    waiting := (s.port x.port).waiting.filter (fun c => c.sled != some n) }
  let s2 := free (s1.sendSled n (.power 2) 0 true .none)
  let s3 := ((gone.filter (fun e => e.2.timedOut.isNone)).map (fun e => e.2) ++ kept).foldl (fun s c => s.commandLost c) s2
  (s3.setHop x.port x.hop { s3.hop x.port x.hop with stage := .trained }).retryWaiting x.port

/-- Arrays whose ARMED or RETIRING pricking names a sled (R197). -/
def State.arraysOf (s : State) (n : Nat) : List Nat :=
  (List.range 16).filter (fun a => s.arrExists a &&
    (((s.armed a).map pkMembers).getD [] ++ ((s.retiring a).map pkMembers).getD []).contains n)

/-- Step 3 of R201: OPEN entries of bands with a block on the sled become ABANDONED, OPEN bands are closed with EARLY. -/
def State.abandonOn (s : State) (n : Nat) : State :=
  let es := (s.hoop.entries.filter (fun e => e.2.state == 1 && s.bandUses e.2.array e.2.band n)).map (fun e => e.1)
  let s1 := es.foldl (fun s e => s.abandonEntry e false) s
  let bs := (s1.bands.filter (fun e => e.2.state == .open_ && s1.bandUses (e.1 / 2 ^ 21) (e.1 % 2 ^ 21) n)).map (fun e => e.1)
  bs.foldl (fun s k => s.closeBand (k / 2 ^ 21) (k % 2 ^ 21) true false) s1

/-- Checkpoint segments with a strip on a sled are written again (R208). -/
def State.segsOn (s : State) (n : Nat) : List Nat :=
  (s.dlog.merged.filter (fun e => s.bandUses (e.1 / 2 ^ 40) (pgaBand e.2) n)).map (fun e => e.1 % 2 ^ 40)

/-- The sled's hop shows FAILED while it is present. -/
def State.showFailed (s : State) (n : Nat) : State :=
  let x := s.sled n
  if s.flag (F.BP_HOP_STAT_PRESENT x.port x.hop) && s.f (F.BP_HOP_STAT_NUMBER x.port x.hop) == n then
    (s.setF (F.BP_HOP_STAT_STATE x.port x.hop) 6).setHop x.port x.hop { s.hop x.port x.hop with failedHere := true }
  else s

/-- Declare a sled failed (R196, R197, R201), on the unit that holds the claim and in the modes that judge. -/
def State.declareFailed (s : State) (n cause : Nat) : State :=
  let x := s.sled n
  if !s.judging || !x.enrolled || x.failed then s
  else
    let y := { x with failed := true, cause, tfail := bits s.tbase.toNat 10 32, resetDue := cause == 1 || cause == 4 }
    let s1 := ((s.setSled n y).mirror (.sled n y)).rerouteReads n
    let s2 := s1.abandonOn n
    let s3 := if s2.copies.contains n then s2.chooseCopies.startEpoch [] else s2
    let s4 := if s3.arraysOf n = [] then s3.logArrayOpen 0xFFFF n
      else (s3.arraysOf n).foldl (fun s a => (s.raiseEvent (16 + a)).logArrayOpen a n) s3
    let segs := s4.segsOn n
    let s5 := (if segs = [] then s4 else s4.startEpoch segs).syncAll
    let s6 := if cause = 2 ∨ cause = 3 then s5.resetSled n else s5
    (s6.showFailed n).drive

/-- Count a timeout of a sled (R198): all of them for its health, those of a link that stayed up toward ARR_MTMO.LIMIT. -/
def State.countTimeout (s : State) (n : Nat) (underLoss : Bool) : State :=
  let h := s.sledHealth n
  let s1 := s.setSledHealth n { h with timeouts := h.timeouts + 1 }
  if underLoss || !s.judging then s1
  else
    let span := s.f F.ARR_MTMO_WINDOW_S * 100000000
    let l := ((s.sled n).timeouts.filter (fun t => decide ((s.tbase - t).toNat < span))) ++ [s.tbase]
    let s2 := s1.setSled n { s1.sled n with timeouts := l }
    if s.f F.ARR_MTMO_LIMIT ≤ l.length then s2.declareFailed n 3 else s2

/-- A sled reports a fatal state (R196 cause 2, R491). -/
def State.fatalReport (s : State) (n : Nat) : State :=
  if s.judging then s.declareFailed n 2
  else s.setHop (s.sled n).port (s.sled n).hop { s.hop (s.sled n).port (s.sled n).hop with fatal := true }

/-- The presence debounce of a bay starts afresh (R491). -/
def Hop.freshDebounce (x : Hop) : Hop := { x with presence := { x.presence with same := 0 } }

/-- Judgement resumes (R491): the timers of causes 1, 3 and 4 start afresh and fatal states still reported are acted on. -/
def State.startJudging (s : State) : State :=
  let s1 : State := { s with
    bobbin := { s.bobbin with hops := s.bobbin.hops.map (fun (e : Nat × Hop) => (e.1, e.2.freshDebounce)) }
    sleds := s.sleds.map (fun e => (e.1, { e.2 with timeouts := [], lostSince := e.2.lostSince.map (fun _ => s.tbase) })) }
  s1.sleds.foldl (fun s e =>
    if (s.hop e.2.port e.2.hop).fatal && s.f (F.BP_HOP_STAT_NUMBER e.2.port e.2.hop) == e.1 then
      (s.setHop e.2.port e.2.hop { s.hop e.2.port e.2.hop with fatal := false }).declareFailed e.1 2
    else s) s1

/-- Enrolled sleds that the end of enumeration has not found count their link as lost from now (R491). -/
def State.countMissing (s : State) : State :=
  { s with sleds := s.sleds.map (fun e =>
      if e.2.enrolled && !e.2.reachable && e.2.lostSince.isNone then (e.1, { e.2 with lostSince := some s.tbase }) else e) }

/-- An epoch cut short is void (R129): its segments are written again by the next, and the checkpoint bands still open are closed. -/
def State.restartEpoch (s : State) : State :=
  let l := s.dlog
  let s1 : State := s.setDlog { l with
    epochRun := false, segments := (l.segments ++ l.pendSegs ++ l.newDir.map (fun (e : Nat × Nat) => e.1 % 2 ^ 40)).eraseDups, pendSegs := []
    newDir := [], newSegs := [], ckptLeft := 0, ckptFailed := false, dirSent := false, again := false, appended := l.appended || l.epochRun }
  (s1.bands.filter (fun e => e.2.kind == .mapCkpt && e.2.state == .open_)).foldl (fun (s : State) (e : Nat × Band) =>
    s.closeBand (e.1 / 2 ^ 21) (e.1 % 2 ^ 21) true false) s1

end Sys2Proof.Machine
end

