-- ==== Sys2Proof/Machine/Purge.lean ====
section
/-! DEFINITION. What the deletion of an array takes away (R286). -/

namespace Sys2Proof.Machine

/-- The key of a map segment belongs to an array (R128). -/
def segArray (k : Nat) : Nat := k / 2 ^ 24 % 2 ^ 16

/-- Couching entries, versions, gathering stripes and work of an array are gone (R286 step 1). -/
def Hoop.without (h : Hoop) (a : Nat) : Hoop :=
  let gone : List Nat := (h.entries.filter (fun e => e.2.array == a)).map (fun e => e.1)
  { h with
    versions := h.versions.filter (fun v => v.array != a)
    passed := h.passed.filter (fun e => e.1 / 2 ^ 40 != a)
    entries := h.entries.filter (fun e => e.2.array != a)
    gathers := h.gathers.filter (fun g => g.1 / 16 != a)
    jobs := h.jobs.filter (fun j => j.array != a)
    works := h.works.filter (fun w => w.array != a)
    held := h.held.filter (fun x => !gone.contains x.entry)
    copyGather := h.copyGather.filter (fun e => e.1 / 32 != a)
    checks := h.checks.filter (fun k => k.1 != a)
    victims := h.victims.filter (fun e => e.1 / 8 != a)
    reads := h.reads.filter (fun r => r.array != a)
    repl := { h.repl with
      openList := h.repl.openList.filter (fun e => e.1 / 2 ^ 21 != a)
      relocClosed := h.repl.relocClosed.filter (fun e => e.1 / 8 != a) } }

/-- The map of an array is gone from the delta log and the checkpoints (R286 step 3). -/
def DeltaLog.without (l : DeltaLog) (a : Nat) : DeltaLog :=
  { l with
    deltas := l.deltas.filter (fun d => d.kind == 3 || d.array != a)
    segments := l.segments.filter (fun k => segArray k != a)
    segs := l.segs.filter (fun e => e.1 / 2 ^ 40 != a)
    dir := l.dir.filter (fun e => e.1 / 2 ^ 40 != a && segArray (e.1 % 2 ^ 40) != a)
    newDir := l.newDir.filter (fun e => e.1 / 2 ^ 40 != a && segArray (e.1 % 2 ^ 40) != a)
    newSegs := l.newSegs.filter (fun e => e.1 / 2 ^ 40 != a)
    pendSegs := l.pendSegs.filter (fun k => segArray k != a) }

/-- Segments of other arrays whose committed copy lies in a checkpoint band of an array: they are written again (R286, R208). -/
def DeltaLog.strangers (l : DeltaLog) (a : Nat) : List Nat :=
  ((l.dir ++ l.newDir).filter (fun e => e.1 / 2 ^ 40 == a && segArray (e.1 % 2 ^ 40) != a)).map (fun e => e.1 % 2 ^ 40)

/-- The bits of an array's dirty-region range are clear (R104, R286). -/
def State.clearRange (s : State) (a : Nat) : State :=
  let lo := s.f (F.DRB_ARR_BASE a)
  let hi := lo + s.f (F.DRB_ARR_LEN a)
  (s.hoop.bitmap.filter (fun e => decide (lo ≤ e.1 ∧ e.1 < hi))).foldl (fun (s : State) e => s.setRegion e.1 false) s

/-- Reads of the media for blocks of an array end, FETCHes with 0x0321 (R286). -/
def State.endReads (s : State) (a : Nat) : State :=
  let s0 : State := { s with devReads := s.devReads.filter (fun d => d.2.array != a) }
  (s0.readJobs.filter (fun j => j.2.array == a)).foldl (fun (s : State) j =>
    let s1 : State := { s with readJobs := s.readJobs.erase j.1 }
    match j.2.owner with
    | .fetch th id _ _ => s1.noteXfer th id 0 true 0x0321
    | .device _ => s1) s0

/-- STORE COMMITs that wait and hold a block of an array end with 0x0321 (R286). -/
def State.endCommits (s : State) (a : Nat) : State :=
  (s.threads.flatMap (fun t => (t.2.asyncs.filter (fun o => match o.wait with
      | .commit l _ => l.any (fun x => x.array == a) | _ => false)).map (fun o => (t.1, o.id)))).foldl
    (fun (s : State) p => (s.endBankWait p.1).asyncDone p.1 p.2 0x0321) s

/-- The array is gone: hoop blocks, couching entries, map, band records, dirty-region range, lost-grain entries, registers (R286 steps
1, 3 and 4). The words of its bands' blocks stay in STATE 1 until the blocks are erased. -/
def State.purgeArray (s : State) (a : Nat) : State :=
  let s0 := ((s.endReads a).endCommits a).clearRange a
  let strangers := s0.dlog.strangers a
  let s1 : State := { s0 with
    hoop := s0.hoop.without a
    dlog := s0.dlog.without a
    map := s0.map.filter (fun e => e.1 / 2 ^ 40 != a)
    mc := { s0.mc with lines := s0.mc.lines.filter (fun e => e.2.tag / 2 ^ 40 != a) }
    bands := s0.bands.filter (fun e => e.1 / 2 ^ 21 != a)
    arrays := s0.arrays.erase a
    lost := { s0.lost with
      grains := s0.lost.grains.filter (fun x => x.array != a), scans := s0.lost.scans.filter (fun x => x.array != a) }
    bar0 := s0.bar0.filter (fun e => arrayOf e.1 != some a && e.1 != R.DRB_ARR a) }
  let s2 := ((s1.setF F.CLOG_STAT_INFLIGHT (s1.hoop.entries.filter (fun y => y.2.state != 0)).length).syncDirty).syncLost
  if strangers = [] then s2 else s2.startEpoch strangers

end Sys2Proof.Machine
end

