-- ==== Sys2Proof/Machine/ModeOps.lean ====
section
/-! DEFINITION. Shared operations of device modes (R16, R33 to R42), the cluster clocks (R29 to R31), the Boot Ledger (R414),
and the hold-up bank: MAX_MIB (R427, R428, R431) and health (R429). -/

namespace Sys2Proof.Machine

/-! ## Transitions -/

/-- A transition begins (R33, R34): CAUSE names it, BUSY and TGT show it; `drain` where fetching stops and running calls
complete first (R42). -/
def State.beginMove (s : State) (tgt : Mode) (cause : Nat) (drain : Bool) : State :=
  { s with mode := { s.mode with busy := true, tgt, cause, draining := drain } }

/-- CUR changes (R33, R34, R325, R350): the Shuttle stops in Dormant, Flush, Halted and Witness; vector 1,024 is raised, but not
for Flush or Boot. The other members hear of it (R404, R407; log entry 47). -/
def State.enterMode (s : State) (m : Mode) : State :=
  let s1 := { s with mode := { s.mode with cur := m, tgt := m, busy := false, draining := false } }
  let s2 := if m = .dormant ∨ m = .flush ∨ m = .halted ∨ m = .witness then s1.stopShuttle else s1
  let s3 := if m = .flush ∨ m = .boot then s2 else s2.raiseEvent 0
  let s4 := if judgedMode m && !judgedMode s.mode.cur then s3.startJudging else s3
  let s5 := (if m = .standby then s4.copyAon else s4).ltrSync.syncRuns
  if s5.member && m != .dormant && !s5.flag F.FED_STAT_DUP then s5.sayHello else s5

/-- No entry is held by fetch or a call thread, and no result waits for room (R42): a drain is complete. -/
def State.drained (s : State) : Bool :=
  s.subRings.all (fun x => x.2.reads.isEmpty && x.2.fetched.isEmpty) && s.cplRings.all (fun x => x.2.stalled.isEmpty) &&
    !s.threads.any (fun t => t.2.running && !thDevWork t.1)

/-- The couching table is empty. -/
def State.couchingEmpty (s : State) : Bool := !s.hoop.entries.any (fun e => e.2.state != 0)

/-! ## Cluster clocks (R29 to R31) -/

/-- SE_CLK of a cluster is written: TARGET 0 is stored as 1 (R29). -/
def State.writeClk (s : State) (c off size : Nat) (value : Word) : State :=
  s.gate off size value (fun s =>
    let s1 := s.storeReg off size value
    (if s1.f (F.SE_CLK_TARGET c) = 0 then s1.setF (F.SE_CLK_TARGET c) 1 else s1).clockSync c)

/-- SE_CLK_WRITE (R29, R30). -/
def execSeClkWrite (c size : Nat) (value : Word) (s : State) : Host.Outcome State Fault Refusal :=
  .next (s.writeClk (c % 8) (R.SE_CLK (c % 8)) size value)

/-- One 200 MHz step of a cluster's clock completes (R30); none runs in Flush or Halted. -/
def execClockStepComplete (c : Nat) (s : State) : Host.Outcome State Fault Refusal :=
  .next (
    let cur := s.f (F.SE_CLK_CUR (c % 8))
    let eff := min (s.f (F.SE_CLK_TARGET (c % 8))) (s.f (F.SE_CLK_CAP (c % 8)))
    if !s.threadsRun || !s.clusterAvail (c % 8) || cur = eff then s
    else (s.setF (F.SE_CLK_CUR (c % 8)) (if cur < eff then cur + 1 else cur - 1)).clockSync (c % 8))

/-- CAP of every available cluster (R439). -/
def State.setCaps (s : State) (f : Nat → Nat) : State :=
  s.clusters.foldl (fun s c => (s.setF (F.SE_CLK_CAP c) (f (s.f (F.SE_CLK_CAP c)))).clockSync c) s

/-! ## The Boot Ledger (R414) -/

/-- An empty slot of the ledger. -/
def noLedger (_ : Nat) : Option LedgerRec := none

/-- Write a ledger record into the next of 4,096 slots (R412, R414). DETAIL is firmware's: a free value (log entry 2). -/
def State.ledger (s : State) (step event unit : Nat) : State :=
  let r : LedgerRec := { bootNo := s.boot.bootNo, step, event, alt := Tbl.get markReset s.boot.alts step, unit, tbase := s.tbase,
                         detail := s.freshVal.toNat % 2 ^ 32 }
  ({ s with boot := { s.boot with
      ledger := Tbl.set noLedger s.boot.ledger (s.boot.ledgerNext % 4096) (some r)
      ledgerNext := s.boot.ledgerNext + 1 } }).bumpFree

/-! ## The hold-up bank (R427 to R431) -/

/-- Bytes of the delta log buffer and the couching table in the Flush image (R427). -/
def flushFixed : Nat := 536870912 + 523776

/-- D_max of R428 in MiB, for a capacitance in 0.1 mF and a voltage in 0.1 V: with 8 GB/s, 40 W times 3, and 16 V. -/
def bankMib (c dv : Nat) : Nat :=
  (c * (dv * dv - 25600) * 200 - 3 * (800000000 + flushFixed)) * 4096 / (3 * 4128 * 2 ^ 20)

/-- MAX_MIB that lets the Flush image fit the image area of the vault (R428, R434): the vault less its last 2 GiB. -/
def State.areaMib (s : State) : Nat :=
  (s.hw.variant.vault16 * 2 ^ 34 - 2 ^ 31 - flushFixed - (23 * 2 ^ 20 + 4096)) * 4096 / (4128 * 2 ^ 20)

/-- MAX_MIB for a measured bank at a charge voltage (R428), paired the smaller of both units' values. -/
def State.maxMib (s : State) (dv : Nat) : Nat :=
  let own := min 65536 (min s.areaMib (bankMib (s.f F.HU_CAP_C_DMF) dv))
  match s.power.peerBank with
  | some mf => if s.paired then min own (bankMib (10 * mf) dv) else own
  | none => own

/-- The first failing condition of R429, 0 when the bank is healthy. -/
def State.notReady (s : State) : Nat :=
  if 16 * s.f F.HU_STAT_VBANK_DV < 15 * s.power.vchg then 1
  else if !s.power.tested then 2
  else if s.f F.HOOP_DIRTY_LIMIT_MAX_MIB < 64 then 3
  else if s.power.chargerFault then 4
  else if !s.power.erased then 5
  else if s.power.waiting.isSome then 6
  else 0

/-- HU_STAT follows the bank (R429, R431): a change of HEALTHY or FAULT sets EVT and raises the hold-up vector; an unhealthy bank
closes every gathering stripe (R88). -/
def State.syncBank (s : State) : State :=
  let n := s.notReady
  let h := n == 0
  let fault := s.power.chargerFault || (s.power.tested && decide (s.f F.HOOP_DIRTY_LIMIT_MAX_MIB < 64))
  let changed := h != s.flag F.HU_STAT_HEALTHY || fault != s.flag F.HU_STAT_FAULT
  let s1 := ((s.setHealthy h).setFlag F.HU_STAT_FAULT fault).setF F.HU_STAT_NOTREADY n
  let s2 := if changed then (s1.setFlag F.HU_STAT_EVT true).raiseEvent 6 else s1
  if !h && s2.destages then (s2.forceAll (fun _ => true)).drive else s2

/-- MAX_MIB is recomputed for a charge voltage (R428, R431, R432). -/
def State.recompute (s : State) (dv : Nat) : State :=
  let new := s.maxMib dv
  let old := s.f F.HOOP_DIRTY_LIMIT_MAX_MIB
  let cut := decide (new < s.f F.HOOP_DIRTY_LIMIT_LIMIT_MIB) && (s.power.firstRecomp || decide (new < old))
  let s1 := { s with power := { s.power with vchg := dv, firstRecomp := false } }.setF F.HOOP_DIRTY_LIMIT_MAX_MIB new
  let s2 := if cut then ((s1.setFlag F.HOOP_STAT_LIMIT_CUT true).healthEvent 0x02 false 9 0xFFFF).raiseEvent 6 else s1
  (if new < 64 ∧ (64 ≤ old ∨ s.power.firstRecomp = true) then s2.healthEvent 0x03 true 9 0xFFFF else s2).syncBank

end Sys2Proof.Machine
end

