-- ==== Sys2Proof/Machine/Power.lean ====
section
/-! DEFINITION. Power and thermal commands: power-fail detection and the Flush (R423 to R436), the hold-up bank's tests and
charge voltage (R426 to R433), and the thermal sensors (R438 to R440). -/

namespace Sys2Proof.Machine

/-! ## The Flush (R424, R425, R433 to R436) -/

/-- The hoop has been restored in this boot (R39, R413): the last step started lies past step 0x04, also after Boot. -/
def State.hoopRestored (s : State) : Bool := decide (4 < s.f F.DEV_BOOT_STAT_LASTSTEP)

/-- A Flush that begins now writes its image: the restore step is past and no restored image waits (R39, R433). -/
def State.imageDue (s : State) : Bool := s.hoopRestored && s.power.waiting.isNone

/-- A Flush begins (R38, R425, R435, R436): the charger stops, a test is abandoned, PFAIL# is driven. -/
def State.beginFlush (s : State) (src : Nat) : State :=
  let s1 := { s with power := { s.power with
    flush := some { start := s.tbase, writes := s.imageDue, ended := false }, lowering := false } }
  (((((s1.setFlag F.PWR_PF_DRIVE true).setFlag F.PWR_PF_PFAIL_IN true).setFlag F.HU_STAT_CHARGING false).setFlag
    F.HU_STAT_TESTING false).setF F.PWR_LOG_SRC src).slowClocks

/-- The Bobbin and Bride links go off and every thread stops (R35, R435). -/
def State.enterFlush (s : State) (src : Nat) : State :=
  let s1 := if s.mode.busy then s.logOpen clsNotice 0 0xFFFF 0 else s
  let s2 := match s1.mode.cur, s1.boot.running with
    | .boot, some (st, _) => s1.ledger st 6 0xFF
    | _, _ => s1
  let s3 := ({ s2 with mode := { s2.mode with cause := 6, prev := s2.mode.cur } }.enterMode .flush)
  { s3.beginFlush src with ports := s3.ports.map (fun p => (p.1, { p.2 with up := false })) }

/-- The module stops: nothing runs until power is applied; DRAM loses its content. -/
def State.powerLost (s : State) : State :=
  { s with hw := { s.hw with powered := false }, power := { s.power with dramKept := false } }

/-- VIN has been below TRIP_MV, or PFAIL# asserted (`src` 1), for 5 µs (R38 to R41, R424, R425, R435, R436). -/
def execPowerFailDetection (src : Nat) (s : State) : Host.Outcome State Fault Refusal :=
  .next (
    if !s.hw.powered || s.power.flush.isSome then s
    else match s.mode.cur with
      | .dormant => (s.logAon (s.freshVal.toNat % 65536) (src % 2)).bumpFree.powerLost
      | .witness => (s.logAon (s.freshVal.toNat % 65536) (src % 2)).bumpFree.powerLost
      | .halted => ({ s.cutDump with dump := { s.cutDump.dump with imageRunning := false } } : State).beginFlush (src % 2)
      | .flush => s
      | _ => s.enterFlush (src % 2))

/-- What a vault image holds (R434). -/
def State.imageNow (s : State) : VaultImage := { hoop := s.hoop, dlog := s.dlog, lost := s.lost, elog := s.elog }

/-- The health counters go to the vault with the device state (R445, R454). -/
def State.saveHealth (s : State) : State :=
  { s with health := { s.health with
    savedCe := s.health.dramCe, savedUe := s.health.dramUe, savedBins := s.health.caseBins, savedSleds := s.health.sleds } }

/-- The commit record is durable, or the Flush ends having written nothing (R425, R433, R435). `vend` is the bank voltage then,
in units of 100 mV. -/
def execFlushCommit (vend : Nat) (s : State) : Host.Outcome State Fault Refusal :=
  .next (
    match s.power.flush with
    | none => s
    | some f =>
      if f.ended || !s.hw.powered then s
      else
        let us := (s.tbase - f.start).toNat / 100
        let s1 := (((s.setF F.PWR_LOG_FLUSH_US (min us (2 ^ 32 - 1))).setF F.PWR_LOG_VEND_DV vend).setF F.PWR_LOG_RESULT
          (if f.writes then 1 else 3)).setFlag F.PWR_PF_DRIVE false
        let s2 := { s1 with power := { s1.power with flush := some { f with ended := true } } }
        if f.writes then
          { s2 with power := { s2.power with image := some s.imageNow, erased := false, dramKept := false } }.saveHealth
        else s2)

/-- The bank falls to 16 V and the module stops (R426); an image without its commit record is no source (R434). -/
def execBankRundown (s : State) : Host.Outcome State Fault Refusal :=
  .next (
    match s.power.flush with
    | none => s
    | some f =>
      let s1 := if f.writes && !f.ended then
          { s.setF F.PWR_LOG_RESULT 2 with power := { s.power with erased := false, image := none } } else s
      s1.powerLost)

/-! ## Tests of the bank (R429 to R431) -/

/-- A capacitance test is asked for, unless one runs or is pending (R430). -/
def State.askTest (s : State) : State :=
  if s.flag F.HU_STAT_TESTING || s.power.testPending then s else { s with power := { s.power with testPending := true } }

/-- A test that runs when the bank is to be drawn down ends without a result, and is due again (R432; log entry 96). -/
def State.endTest (s : State) : State :=
  if s.flag F.HU_STAT_TESTING then
    { s with power := { s.power with testPending := true } }.setFlag F.HU_STAT_TESTING false
  else s

/-- HU_CTL is written (R430, R432): TEST, ICHG, and a change of VCHG. Lowered, MAX_MIB is recomputed at once and the bank drawn
down; raised, MAX_MIB keeps the old voltage until the bank reaches the new one. -/
def State.writeHuCtl (s : State) (off size : Nat) (value : Word) : State :=
  s.gate off size value (fun s =>
    let old := s.f F.HU_CTL_VCHG_DV
    let s1 := s.storeReg off size value
    let new := s1.f F.HU_CTL_VCHG_DV
    let s2 := if bit (writtenValue off size value) 32 then s1.askTest else s1
    if new < old then
      let s3 := { s2.endTest with power := { s2.endTest.power with lowering := true } }
      if s3.power.tested then s3.recompute new else { s3 with power := { s3.power with vchg := new } }.syncBank
    else if old < new then
      { s2 with power := { s2.power with
        lowering := false, vchg := if s2.power.tested || s2.flag F.HU_STAT_TESTING then s2.power.vchg else new } }.syncBank
    else s2)

/-- HU_CTL.TEST is written as 1 (R430). -/
def execHuTestRequest (size : Nat) (value : Word) (s : State) : Host.Outcome State Fault Refusal :=
  .next (s.writeHuCtl (if size = 4 then R.HU_CTL + 4 else R.HU_CTL) size
    (BitVec.ofNat 64 (putBit value.toNat (if size = 4 then 0 else 32) true)))

/-- A test falls due 24 h after the last one (R430). -/
def execCapTestTimer (s : State) : Host.Outcome State Fault Refusal :=
  .next (if s.hw.powered && decide (8640000000000 ≤ (s.tbase - s.power.lastTest).toNat) then s.askTest else s)

/-- A pending test starts with the bank at VCHG; none while the bank is drawn down, or on a Flush (R430, R432). -/
def execCapTestStart (s : State) : Host.Outcome State Fault Refusal :=
  .next (
    if s.power.testPending && decide (s.f F.HU_CTL_VCHG_DV ≤ s.f F.HU_STAT_VBANK_DV) && !s.power.lowering &&
        s.power.flush.isNone && s.hw.powered then
      { s with power := { s.power with testPending := false } }.setFlag F.HU_STAT_TESTING true
    else s)

/-- The test ends with C_meas in units of 0.1 mF (R430, R431), on the voltage that the bank has reached (R432). None ends in Boot (R39). -/
def execCapTestComplete (c : Nat) (s : State) : Host.Outcome State Fault Refusal :=
  .next (
    if s.flag F.HU_STAT_TESTING && decide (s.mode.cur ≠ .boot) && s.hw.powered then
      let s1 := ((s.setFlag F.HU_STAT_TESTING false).setF F.HU_CAP_PREV_DMF (s.f F.HU_CAP_C_DMF)).setF F.HU_CAP_C_DMF
        (min c 65535)
      let s2 := { s1 with power := { s1.power with tested := true, lastTest := s.tbase } }
      let s3 := if s2.reg R.HU_CAP ≠ s.reg R.HU_CAP then (s2.setFlag F.HU_STAT_EVT true).raiseEvent 6 else s2
      s3.recompute (min s3.power.vchg (s3.f F.HU_CTL_VCHG_DV))
    else s)

/-- A write of HU_CTL that changes VCHG (R432). -/
def execVchgWrite (size : Nat) (value : Word) (s : State) : Host.Outcome State Fault Refusal :=
  .next (s.writeHuCtl R.HU_CTL size value)

/-- The bank reaches VCHG (R432): the voltage rises to it, or has been drawn down to it once the dirty blocks are within the limit. -/
def execBankReachesVchg (s : State) : Host.Outcome State Fault Refusal :=
  .next (
    if s.power.flush.isSome || !s.hw.powered || (s.power.lowering && decide (s.dirtyLimit < s.dirtyBlocks)) then s
    else
      let v := s.f F.HU_CTL_VCHG_DV
      let s1 := { s with power := { s.power with lowering := false } }.setF F.HU_STAT_VBANK_DV v
      if s1.power.tested && decide (s1.power.vchg < v) then s1.recompute v else s1.syncBank)

/-- The charger reports a fault, or that it has cleared (R429). -/
def execChargerFault (present : Bool) (s : State) : Host.Outcome State Fault Refusal :=
  .next (if s.hw.powered then { s with power := { s.power with chargerFault := present } }.syncBank else s)

/-! ## The vault image (R433) -/

/-- A restored image becomes consumed: conditions 1 to 4 of R429 hold and MAX_MIB covers the dirty count restored (R433). -/
def execVaultImageConsumed (s : State) : Host.Outcome State Fault Refusal :=
  .next (
    match s.power.waiting with
    | none => s
    | some dirty =>
      if (s.notReady = 0 ∨ 5 ≤ s.notReady) ∧ ceilDiv dirty 256 ≤ s.f F.HOOP_DIRTY_LIMIT_MAX_MIB ∧ s.power.flush.isNone ∧
          s.hw.powered then
        { s with power := { s.power with waiting := none, image := none, erased := false } }.syncBank
      else s)

/-- The erased part of the image area covers the Flush image (R433). -/
def execVaultEraseSufficient (s : State) : Host.Outcome State Fault Refusal :=
  .next (
    if s.power.image.isNone && s.power.waiting.isNone && s.power.flush.isNone && s.hw.powered then
      { s with power := { s.power with erased := true } }.syncBank
    else s)

/-! ## Thermal (R438 to R440) -/

/-- A sensor not read since reset: 0x80 stands for absent. -/
def sensorReset (_ : Nat) : Sensor := { cur := 0x80, max := 0x80, min := 0x80, hotSince := none }

/-- Sensor `i` of R438. -/
def State.sensor (s : State) (i : Nat) : Sensor := Tbl.get sensorReset s.thermal.sensors i

/-- The unit of a sensor is absent (R438). -/
def State.sensorAbsent (s : State) (i : Nat) : Bool :=
  if 1 ≤ i ∧ i ≤ 8 then !s.clusterAvail (i - 1)
  else if 11 ≤ i ∧ i ≤ 18 then !(List.range 4).any (fun k => s.portAvail (4 * (i - 11) + k))
  else if i = 19 then !(List.range 4).any s.brideAvail
  else false

/-- One reading: highest and lowest since the conventional reset, and since when a junction stands at 110 °C (R438, R440). -/
def Sensor.reads (x : Sensor) (t : Nat) (now : Word) : Sensor :=
  let lower (a b : Nat) : Nat := if signed 8 a < signed 8 b then a else b
  let upper (a b : Nat) : Nat := if signed 8 a < signed 8 b then b else a
  if t = 0x80 then { x with cur := 0x80, hotSince := none }
  else { cur := t
         max := if x.max = 0x80 then t else upper x.max t
         min := if x.min = 0x80 then t else lower x.min t
         hotSince := if 110 ≤ signed 8 t then some (x.hotSince.getD now) else none }

/-- The hottest junction: its reading and sensor (R438, R439); sensors 0 to 21 are junction sensors. -/
def State.hottest (s : State) : Option (Nat × Nat) :=
  (List.range 22).foldl (fun m i =>
    let t := (s.sensor i).cur
    if t = 0x80 then m
    else match m with
      | none => some (t, i)
      | some x => if signed 8 x.1 < signed 8 t then some (t, i) else m) none

/-- The throttle level after a junction reading, with the hysteresis of R439. -/
def throttleLevel (l : Nat) (t : Int) : Nat :=
  if 105 ≤ t then 3
  else if 100 ≤ t then (if l = 3 then 3 else 2)
  else if 95 ≤ t then (if 2 ≤ l then 2 else 1)
  else if 90 ≤ t then (if 1 ≤ l then 1 else 0)
  else 0

/-- The throttle level changes (R439): event, log, caps. -/
def State.throttle (s : State) (new sensor : Nat) : State :=
  let old := s.f F.TEMP_STAT_LEVEL
  if new = old then s
  else
    let s1 := (((s.setF F.TEMP_STAT_LEVEL new).setFlag F.TEMP_STAT_EVT true).raiseEvent 7).logOpen clsNotice 9 sensor new
    let s2 := if 2 ≤ new then s1.setCaps (fun _ => 1) else s1
    if new = 3 then s2.healthEvent 0x09 true 9 sensor else s2

/-- The case temperature's bin (R445). -/
def tempBin (t : Int) : Nat := if t < -40 then 0 else if 80 ≤ t then 15 else ((t + 40) / 8).toNat

/-- A case reading: health event 0x0A when it leaves −40 to 85 °C (R440), and the module's temperature history (R438, R445). -/
def State.caseReads (s : State) (t : Nat) : State :=
  let old := s.f F.TEMP_STAT_CASE_C
  let bad (x : Nat) : Bool := decide (signed 8 x < -40 ∨ 85 < signed 8 x)
  let b := tempBin (signed 8 t)
  let s1 := { s with health := { s.health with
    caseBins := s.health.caseBins.set b (s.health.caseBins.getD b 0 + 1) } }.setF F.TEMP_STAT_CASE_C t
  if bad t && !bad old then s1.healthEvent 0x0A false 9 22 else s1

/-- A poll's readings are stored (R429, R438): readings are signed bytes, 28 of them, 0x80 where none is given. -/
def State.pollStores (s : State) (temps : List Nat) (vin iin vbank : Nat) (pfail : Bool) : State :=
  let s1 := (List.range 28).foldl (fun s i =>
    let x := (s.sensor i).reads (if s.sensorAbsent i then 0x80 else temps.getD i 0x80 % 256) s.tbase
    { s with thermal := { s.thermal with sensors := Tbl.set sensorReset s.thermal.sensors i x } }) s
  let s2 := (((s1.setF F.PWR_VIN_VIN_MV vin).setF F.PWR_VIN_IIN_10MA iin).setF F.PWR_VIN_PIN_DW (vin * iin / 10000)).setFlag
    F.PWR_PF_PFAIL_IN (pfail || s1.flag F.PWR_PF_DRIVE)
  (s2.setF F.HU_STAT_VBANK_DV vbank).setFlag F.HU_STAT_CHARGING
    (s2.power.flush.isNone && !s2.power.lowering && !s2.flag F.HU_STAT_TESTING && decide (vbank < s2.f F.HU_CTL_VCHG_DV))

/-- The bank, the case and the throttle follow the readings stored (R429, R438 to R440). -/
def State.pollActs (s : State) : State :=
  let s1 := if s.power.flush.isSome then s else s.syncBank
  let s2 := if (s1.sensor 22).cur = 0x80 then s1 else s1.caseReads (s1.sensor 22).cur
  match s2.hottest with
  | none => s2
  | some (t, i) =>
    ((s2.setF F.TEMP_STAT_JMAX_C t).setF F.TEMP_STAT_JMAX_SRC i).throttle
      (throttleLevel (s2.f F.TEMP_STAT_LEVEL) (signed 8 t)) i

/-- The sensors, VIN in mV, the input current in 10 mA, the bank voltage in 100 mV and PFAIL# are read (R429, R438, R439). -/
def execSensorPoll (temps : List Nat) (vin iin vbank : Nat) (pfail : Bool) (s : State) : Host.Outcome State Fault Refusal :=
  .next (if !s.hw.powered then s else (s.pollStores temps vin iin vbank pfail).pollActs)

/-- Every 100 ms CAP is lowered one step while the junction stands at 95 °C or above at level 1, down to code 3, and raised one
step below 90 °C (R439). -/
def execThrottleStepTimer (s : State) : Host.Outcome State Fault Refusal :=
  .next (
    let t := signed 8 (s.f F.TEMP_STAT_JMAX_C)
    let l := s.f F.TEMP_STAT_LEVEL
    if !s.threadsRun || decide ((s.tbase - s.thermal.lastStep).toNat < 10000000) then s
    else
      let s1 := { s with thermal := { s.thermal with lastStep := s.tbase } }
      if l = 1 ∧ 95 ≤ t then s1.setCaps (fun c => if 3 < c then c - 1 else c)
      else if l ≤ 1 ∧ t < 90 then s1.setCaps (fun c => min 7 (c + 1))
      else s1)

/-- A junction has stood at 110 °C for 1 ms: Halted with KIND 3, naming the sensor (R440, R451). -/
def execThermalTrip (i : Nat) (s : State) : Host.Outcome State Fault Refusal :=
  .next (
    match (s.sensor i).hotSince with
    | some t => if i < 22 ∧ 100000 ≤ (s.tbase - t).toNat ∧ s.hw.powered then s.halt 7 3 0 false 0 0 i 0 else s
    | none => s)

/-- At 115 °C on a junction sensor the power stages remove power from every island but the always-on island, which records it
(R440, R444). -/
def execThermalPowerRemoval (i : Nat) (s : State) : Host.Outcome State Fault Refusal :=
  .next (
    if 22 ≤ i || !s.hw.powered then s
    else
      let s1 := match s.power.flush with
        | some f => if f.writes && !f.ended then { s.setF F.PWR_LOG_RESULT 2 with power := { s.power with erased := false, image := none } } else s
        | none => s
      (s1.logAon 0x0D i).powerLost)

end Sys2Proof.Machine
end

