-- ==== Sys2Proof/Machine/PairOps.lean ====
section
/-! DEFINITION. Shared operations of a pair (R380 to R401): identity and claims, PAIR_STAT, witness messages, the mirror's items,
readiness, and the loss of the peer. -/

namespace Sys2Proof.Machine

/-! ## Claims and identity -/

/-- The claim after `c` (R383): 0xFFFF_FFFF is followed by 1. -/
def nextClaim (c : Nat) : Nat := if c = 0xFFFFFFFF then 1 else c + 1

/-- Serial order of claims (R383): `a` is higher than `b`. -/
def claimAbove (a b : Nat) : Bool := serialAbove a b

/-- Unit 0 is the unit with the lower serial number (R381). -/
def State.unitNo (s : State) : Nat :=
  match s.pair.peerSerial with
  | some p => if s.hw.serial < p then 0 else 1
  | none => 0

/-- A change of PAIR_STAT sets EVT and raises the pair event vector. -/
def State.pairStat (s : State) (f : State → State) : State :=
  let t := f s
  if t.reg R.PAIR_STAT = s.reg R.PAIR_STAT then t else (t.setFlag F.PAIR_STAT_EVT true).raiseEvent 8

/-- PAIR_CLAIM.CLAIM follows the claim number. -/
def State.setClaim (s : State) (c : Nat) : State := { s with pair := { s.pair with claim := c } }.setF F.PAIR_CLAIM_CLAIM c

/-- CLAIM goes to a sled for every array and for the device scope (R371). -/
def State.claimSled (s : State) (n : Nat) : State :=
  let s1 := (List.range 16).foldl (fun s a => s.sendSled n .claim a false .none) s
  s1.sendSled n .claim 0 true .none

/-- CLAIM goes to every enrolled sled (R371, R394). -/
def State.claimAll (s : State) : State :=
  ((s.sleds.filter (fun e => e.2.enrolled && e.2.reachable)).map (fun e => e.1)).foldl (fun s n => s.claimSled n) s

/-! ## Witness messages (R388, R389) -/

/-- Bytes of a witness message with its CRC (R388). -/
def WitMsg.bytes (m : WitMsg) : List Byte :=
  let b := leBytes 1 m.wcode ++ leBytes 1 1 ++ leBytes 1 m.pair ++ leBytes 1 m.unit ++ leBytes 4 m.claim ++ leBytes 2 m.seq ++
    leBytes 2 m.body.length ++ leBytes 4 0 ++ m.body
  b ++ leBytes 4 (crc32c b)

/-- Send a witness message of this unit with the next sequence number. -/
def State.sendWit (s : State) (wcode : Nat) (body : List Byte) : State :=
  let q := (s.pair.msgSeq + 1) % 65536
  let m : WitMsg := { wcode, pair := s.pair.pairNo, unit := s.unitNo, claim := s.pair.claim, seq := q, body }
  { s with pair := { s.pair with msgSeq := q } }.send (.wit m)

/-- No test stands failed and the mirror is complete: READY (R401). -/
def State.ready (s : State) : Bool :=
  decide (s.mode.cur = .standby) && s.flag F.PAIR_STAT_INSYNC && s.pair.standing == 0

/-- Within 15 ms of the last RENEW it answered a standby takes no grant and sends no HELLO (R391, R392). -/
def State.grantBarred (s : State) : Bool :=
  match s.pair.lastRenew with
  | some t => decide ((s.tbase - t).toNat < 1500000)
  | none => false

/-- HELLO with the pair identity and flags STALE, PREFER, READY, last holder (R389). -/
def State.sendHello (s : State) : State :=
  match s.pairId with
  | some (a, b) =>
    if s.pair.mismatch || !s.paired || s.grantBarred then s
    else s.sendWit 1 (leBytes 8 a ++ leBytes 8 b ++ leBytes 1 ((s.flag F.PAIR_STAT_STALE).toNat +
      2 * s.hw.straps.prefer.toNat + 4 * s.ready.toNat + 8 * s.pair.lastHolder.toNat))
  | none => s

/-- A message from the witness has arrived: it answers, and ride-through ends (R391, R392). -/
def State.fromWitness (s : State) : State :=
  { s with pair := { s.pair with lastWit := s.tbase, riding := false } }.pairStat (fun s => s.setFlag F.PAIR_STAT_WIT_UP true)

/-! ## The mirror -/

/-- EMITs that waited for their ISSUED bit go out once it is confirmed (R90 step 4). -/
def State.releaseEmits (s : State) : State :=
  s.threads.foldl (fun s t => t.2.asyncs.foldl (fun s o => match o.wait with
    | .emitHeld q e col interim words =>
      if s.durableAt q then
        (s.setThr t.1 ((s.thr t.1).mapAsync o.id (fun x => { x with wait := .emit e col }))).sendProgram t.1 o.id e col interim 0 words
      else s
    | _ => s) s) s.releaseHeld

/-- Deltas are durable once every item sent is (R89). -/
def State.syncDurable (s : State) : State :=
  if s.durableAt s.pair.mirSeq then { s with dlog := { s.dlog with durable := s.dlog.next } } else s

/-- Acknowledgement without the peer begins or ends (R84, R387, R395, R398). -/
def State.setMirroring (s : State) (b : Bool) : State :=
  let s1 := { s with pair := { s.pair with mirroring := b } }
  if b then s1 else s1.syncDurable.releaseEmits.settleWorks

/-- Versions that stand in no couching entry re-enter gathering; nothing is gathered or due after a loss of the threads that
wrote (R83, R107, R394). -/
def State.regatherLoose (s : State) : State :=
  { s with hoop := { s.hoop with
    versions := s.hoop.versions.map (fun v => if v.entry.isNone then { v with gathered := false } else v)
    gathers := [], jobs := [], bankWaits := [], works := [], held := [], copyGather := [], victims := [], reads := [] } }

/-- Hoop, couching and bitmap registers follow the tables (HOOP_STAT, CLOG_STAT, DRB_STAT, ARR_LGT, ARR_DLOG). -/
def State.syncHoop (s : State) : State :=
  let s1 := s.syncDirty.setF F.CLOG_STAT_INFLIGHT (s.hoop.entries.filter (fun y => y.2.state != 0)).length
  ((s1.setF F.DRB_STAT_SET (s1.hoop.bitmap.filter (fun e => e.2)).length).syncLost).syncDlog

/-! ## Loss of the peer (R387) -/

/-- The peer is READY by its newest report, no more than 3 s old (R387, R397). -/
def State.peerReady (s : State) : Bool :=
  match s.pair.peerReport with
  | some (r, t) => r.state == 0 && decide ((s.tbase - t).toNat ≤ 300000000)
  | none => false

/-- The active asks the witness to mark its peer STALE, again at each cause until it is answered (R387). -/
def State.declarePeerLost (s : State) : State :=
  if s.role = 1 && s.pair.mirroring then
    { s with pair := { s.pair with lostPending := true } }.sendWit 7 []
  else s

/-- Every waiting STORE COMMIT ends without entering its blocks (R393); with what outcome is not stated (log entry 2). -/
def State.lapseCommits (s : State) : State :=
  let held (o : AsyncOp) : Bool := match o.wait with | .commit .. => true | _ => false
  let v := s.freshVal.toNat % 65536
  let s1 : State := (s.threads.filter (fun t => t.2.asyncs.any held)).foldl (fun (s : State) t =>
    s.setThr t.1 { s.thr t.1 with
      lapsed := true, asyncs := (s.thr t.1).asyncs.map (fun o => if held o then { o with wait := .done, outcome := v } else o) }) s
  (s1.setBankWaits []).bumpFree

/-- The lease has ended (R393): fetching, Bobbin commands and waiting commits stop, and ROLE becomes 4. -/
def State.loseLease (s : State) : State :=
  let s1 := { s with pair := { s.pair with intakeClosed := true, leaseLost := some s.tbase, lease := none, live := false, gap := false,
                                           handover := none, lastHolder := false } }
  s1.lapseCommits.pairStat (fun s => (s.setF F.PAIR_STAT_ROLE 4).setFlag F.PAIR_STAT_RIDE false)

/-- The entries of a batch that have been dispatched. -/
def Batch.started (b : Batch) (keep : List Nat) : List BatchEntry := b.entries.filter (fun e => !keep.contains e.num)

/-- A batch withheld is logged with its ring and tags (R307, R393). -/
def State.logWithheld (s : State) (r : Nat) (tags : List Nat) : State :=
  (s.logRec clsNotice 2 r (s.freshVal.toNat % 65536) 0 (BitVec.ofNat 256 (leNat (tags.flatMap (fun t => leBytes 2 t))))).bumpFree

/-- The results of ring `r` that are not yet in a record are withheld, a count for each batch; entries not dispatched stay. -/
def State.withholdRing (s : State) (r : Nat) : State :=
  let x := s.sub r
  let q := s.cqOf r
  let keep := x.fetched.map (fun e => e.num)
  let lost := (x.batches.map (fun b => b.started keep)).filter (fun l => !l.isEmpty)
  let bs := (x.batches.map (fun b => { b with entries := b.entries.filter (fun e => keep.contains e.num) })).filter
    (fun b => !b.entries.isEmpty)
  let s1 := (s.setSub r { x with batches := bs }).setF (F.CQ_STAT_WITHHELD q) (s.f (F.CQ_STAT_WITHHELD q) + lost.length)
  let s2 := lost.foldl (fun s l => s.logWithheld r (l.map (fun e => e.tag))) s1
  s2.inflightDone r (s2.f (F.SQ_STAT_INFLIGHT r) - (x.fetched.length + x.reads.length))

/-- The records held for completion ring `q` are withheld, and its holding area is empty. -/
def State.withholdHeld (s : State) (q : Nat) : State :=
  let x := s.cpl q
  let s1 := ((s.setCpl q { x with holding := [], stalled := [] }).setF (F.CQ_STAT_HOLD q) 0).setF (F.CQ_STAT_WITHHELD q)
    (s.f (F.CQ_STAT_WITHHELD q) + x.holding.length)
  (x.holding.foldl (fun s r => s.logWithheld r.sq r.tags) s1).holdingFreed q

/-- Every call thread ends without POST, and the records still unwritten are withheld, counted and logged (R393, R399). Entries
fetched and not dispatched stay. -/
def State.withhold (s : State) : State :=
  let s1 := ((s.threads.map (fun t => t.1)).filter (fun th => !thDevWork th && (s.thr th).running)).foldl
    (fun s th => (s.abandonOwned th).endThread th) s
  let s2 := (s1.cplRings.map (fun e => e.1)).foldl (fun s q => s.withholdHeld q) s1
  (s2.subRings.map (fun e => e.1)).foldl (fun s r => s.withholdRing r) s2

/-- A unit that holds no claim any more sends no media command (R372): those outstanding keep their tags and have no effect, those
that waited are gone, and what waited for either is told so. -/
def State.dropMedia (s : State) : State :=
  let own (x : ReadJob) : Bool := match x.owner with | .fetch .. => true | _ => false
  let s0 : State := { s with devReads := [], readJobs := s.readJobs.filter (fun e => own e.2) }
  let out := s0.sledCmds.filter (fun e => e.2.kind.needsClaim && e.2.timedOut.isNone)
  let kept := s0.ports.flatMap (fun (e : Nat × Port) => e.2.waiting.filter (fun c => c.kind.needsClaim))
  let media (k : TxPkt) : Bool := match k.msg with | .sled _ _ _ kind .. => kind.needsClaim | .sledData .. => true | _ => false
  let s1 : State := out.foldl (fun (s : State) e =>
    { s with sledCmds := s.sledCmds.insert e.1 { e.2 with timedOut := some s.tbase } }) s0
  let s2 : State := { s1 with ports := s1.ports.map (fun (e : Nat × Port) => (e.1, { e.2 with
    waiting := e.2.waiting.filter (fun c => !c.kind.needsClaim)
    ctrlQ := e.2.ctrlQ.filter (fun k => !media k), bulkQ := e.2.bulkQ.filter (fun k => !media k) })) }
  (out.map (fun e => e.2) ++ kept).foldl (fun (s : State) c => s.commandLost c) s2

end Sys2Proof.Machine
end

