-- ==== Sys2Proof/Machine/Links.lean ====
section
/-! DEFINITION. The links: frames, replay and credit (R355 to R357, R360), link loss and training (R357, R381, R384). Links 0 to
31 are the Bobbin ports, 32 to 35 the Bride ports. -/

namespace Sys2Proof.Machine

/-! ## Protocol errors, sleds at hops -/

/-- A protocol error on a Bobbin port (R199, R360): counted, with the TYPE of the packet discarded, and logged. -/
def State.protoError (s : State) (p type : Nat) : State :=
  if 32 ≤ p then s else ((s.satF (F.BP_ERR_PROTO p)).setF (F.BP_ERR_LASTTYPE p) type).noticeOther 6 p 0 type

/-- The number enrolled at a hop (BP_HOP_STAT.NUMBER). -/
def State.sledAt (s : State) (p h : Nat) : Option Nat :=
  let n := s.f (F.BP_HOP_STAT_NUMBER p h)
  if n = 0xFFFF then none else some n

/-- The links of the pair (R380): Bride port 0, and port 1 where the PLINK strap selects it. -/
def State.pairLink (s : State) (link : Nat) : Bool :=
  s.paired && (link == 32 || (link == 33 && s.hw.straps.plink)) && s.brideAvail (link - 32)

/-- The link is built, and has power in this mode; in Witness no sled is taken (R5, R35). -/
def State.linkServed (s : State) (link : Nat) : Bool :=
  (if link < 32 then s.portAvail link && s.mode.cur != .witness else s.brideAvail (link - 32)) && s.hw.powered &&
    !(decide (s.mode.cur = .dormant) || decide (s.mode.cur = .flush))

/-! ## Frames and credit -/

/-- The ACKSEQ and NAK of a frame (R356): the replay buffer empties; a NAK has every frame after it replayed and counted. -/
def State.takeAck (s : State) (link : Nat) (f : Frame) : State :=
  let x := s.port link
  let inWindow := decide ((f.ackseq + 256 - x.ackSeq) % 256 ≤ (x.txSeq + 256 - x.ackSeq) % 256)
  let y := if inWindow then
      { x with ackSeq := f.ackseq, replays := if f.ackseq = x.ackSeq then x.replays else 0 } else x
  let n := (y.txSeq + 256 - y.ackSeq) % 256
  if f.nak && decide (0 < n) then
    let first := (y.ackSeq + 1) % 256
    let z := { y with replays := if y.replayAt = first then y.replays + 1 else 1, replayAt := first }
    let s1 := s.setPort link z
    if link < 32 then s1.satF (F.BP_ERR_REPLAYS link) n else s1
  else s.setPort link y

/-- A frame arrives (R355, R356): one with an uncorrectable codeword, or out of sequence, is discarded and NAKed. -/
def execFrameReceive (link : Nat) (f : Frame) (s : State) : Host.Outcome State Fault Refusal :=
  .next (
    if !s.linkServed link || !(s.port link).up then s
    else
      let s0 := if s.pairLink link then { s with pair := { s.pair with lastFrame := s.tbase } } else s
      if !f.good then
        let s1 := if link < 32 then s0.satF (F.BP_FEC_UNCORR link) else s0
        s1.setPort link { s1.port link with nak := true }
      else
        let s1 := if f.corrected && decide (link < 32) then s0.satF (F.BP_FEC_CORR link) else s0
        let s2 := s1.takeAck link f
        let x := s2.port link
        let s3 := if f.idle then s2
          else if f.fseq % 256 = (x.rxSeq + 1) % 256 then s2.setPort link { x with rxSeq := f.fseq % 256, nak := false }
          else s2.setPort link { x with nak := true }
        s3.pump link)

/-- A CREDIT packet: slots returned in each class (R360). -/
def execCredit (link ctrl bulk : Nat) (hcrcOk : Bool) (s : State) : Host.Outcome State Fault Refusal :=
  .next (
    if !s.linkServed link || !(s.port link).up then s
    else if !hcrcOk then s.protoError link 0x3F
    else
      let x := s.port link
      (s.setPort link { x with ctrlCr := x.ctrlCr + ctrl % 2 ^ 16, bulkCr := x.bulkCr + bulk % 2 ^ 16 }).pump link)

/-! ## Link loss -/

/-- A hop beyond a lost link: unreachable, to be enumerated again, its commands marked (R196, R198, R369). -/
def State.hopLost (s : State) (p h : Nat) : State :=
  let x := s.hop p h
  if x.stage = .off then s
  else
    let s1 := s.setHop p h { x with stage := .training, downSince := x.downSince.or (some s.tbase) }
    let s2 : State := { s1 with sledCmds := s1.sledCmds.map (fun e =>
      if e.1 / 512 == p && e.2.hop == h then (e.1, { e.2 with underLoss := true }) else e) }
    let s3 : State := match s2.sledAt p h with
      | some n =>
        let y := s2.sled n
        s2.setSled n { y with reachable := false, lostSince := y.lostSince.or (some s.tbase) }
      | none => s2
    let st := s3.f (F.BP_HOP_STAT_STATE p h)
    if st = 4 ∨ st = 5 then s3.setF (F.BP_HOP_STAT_STATE p h) 3 else s3

/-- The link to hop `h` of a Bobbin port goes down, and with it every hop behind it (R196, R357). -/
def State.hopsLost (s : State) (p h : Nat) : State :=
  let s1 := ((List.range 4).filter (fun k => decide (h ≤ k))).foldl (fun s k => s.hopLost p k) s
  let s2 := s1.setF (F.BP_LINK_HOPS p) (min h (s1.f (F.BP_LINK_HOPS p)))
  if h ≠ 0 then s2
  else
    ((s2.setPort p { s2.port p with up := false, replays := 0, downSince := (s2.port p).downSince.or (some s.tbase) }).setFlag
      (F.BP_LINK_LANE0 p) false).setFlag (F.BP_LINK_LANE1 p) false

/-- Hop 0 retrains (R357): BP_LINK.STATE 3 and RETRAINS. -/
def State.retrain (s : State) (p : Nat) : State :=
  let s1 := s.hopsLost p 0
  if s1.flag (F.BP_HOP_STAT_PWR p 0) then (s1.setF (F.BP_LINK_STATE p) 3).satF (F.BP_LINK_RETRAINS p) else s1.setF (F.BP_LINK_STATE p) 0

/-- PAIR_LINK.UP and PAIR_STAT.PEER_UP follow a pair link port. -/
def State.pairPortUp (s : State) (link : Nat) (up : Bool) : State :=
  let s1 := s.setF F.PAIR_LINK_UP (putBit (s.f F.PAIR_LINK_UP) (link - 32) up)
  s1.pairStat (fun s => s.setFlag F.PAIR_STAT_PEER_UP (s.f F.PAIR_LINK_UP != 0))

/-- The same frame has been replayed 8 times, or signal or alignment has been lost for 1 ms (`signal`): the link goes down and
retrains (R357). `hop` is the hop whose link is lost: 0 for the Odard's own end. -/
def execBobbinLinkDown (link hop : Nat) (signal : Bool) (s : State) : Host.Outcome State Fault Refusal :=
  .next (
    let x := s.port link
    if !s.linkServed link || !x.up || !(signal || decide (8 ≤ x.replays)) then s
    else if link < 32 then (if hop % 4 = 0 then s.retrain link else s.hopsLost link (hop % 4))
    else
      let s1 := s.setPort link { x with up := false, replays := 0, downSince := some s.tbase }
      if s.pairLink link then s1.pairPortUp link false else s1)

/-! ## Training -/

/-- The peer's serial number has been learned (R381): the pair identity, or a mismatch with the one kept, which is logged. -/
def State.learnPeer (s : State) (serial : Nat) : State :=
  let id := (min serial s.hw.serial, max serial s.hw.serial)
  let bad := s.anyArray && (match s.pair.storedId with | some x => x != id | none => false)
  let s1 := { s with pair := { s.pair with
    peerSerial := some serial, mismatch := bad, storedId := if bad then s.pair.storedId else some id } }
  let s2 := (s1.setF F.PAIR_ID0_ID id.1).setF F.PAIR_ID1_ID id.2
  if bad then s2.noticeOther 7 0xFFFF 0 serial else s2.sendHello

/-- A link completes training (R357): frames resume after the ACKSEQ received; credit is what training advertised the first time
only (R360). At hop 0 and above of a Bobbin port, the sled there can be enumerated. -/
def State.linkTrained (s : State) (link hop ack ctrl bulk serial : Nat) : State :=
  let x := s.port link
  let fresh := x.ctrlCr == 0 && x.bulkCr == 0 && x.downSince.isNone
  let y := { x with
    up := true, downSince := none, replays := 0, nak := false
    ackSeq := if fresh then x.ackSeq else ack % 256
    ctrlCr := if fresh then max 128 ctrl else x.ctrlCr, bulkCr := if fresh then max 1024 bulk else x.bulkCr }
  if link < 32 then
    let s1 := if hop = 0 then
        ((((s.setPort link y).setF (F.BP_LINK_STATE link) 2).setFlag (F.BP_LINK_LANE0 link) true).setFlag (F.BP_LINK_LANE1 link) true)
      else s
    let s2 := (s1.setHop link hop { s1.hop link hop with stage := .trained, downSince := none, retried := false }).setF
      (F.BP_HOP_STAT_STATE link hop) (if s1.f (F.BP_HOP_STAT_STATE link hop) = 6 then 6 else 3)
    s2.pump link
  else
    let s1 := s.setPort link y
    (if s.pairLink link then (s1.pairPortUp link true).learnPeer serial else s1).pump link

/-- LINK_TRAINED (R357, R369, R381): a Bobbin hop whose sled is powered and whose link is down, or a Bride link. -/
def execLinkTrained (link hop ack ctrl bulk serial : Nat) (s : State) : Host.Outcome State Fault Refusal :=
  .next (
    if !s.linkServed link then s
    else if link < 32 then
      let h := hop % 4
      let base := h == 0 || ((s.port link).up && decide ((s.hop link (h - 1)).stage ≠ .off ∧ (s.hop link (h - 1)).stage ≠ .training))
      if base && decide ((s.hop link h).stage = .training) && s.flag (F.BP_HOP_STAT_PWR link h) &&
          s.flag (F.BP_CTL_EN link) then s.linkTrained link h ack ctrl bulk serial
      else s
    else if (s.port link).up then s
    else s.linkTrained link 0 ack ctrl bulk serial)

/-- BP_CTL is written (R357, R369): RETRAIN retrains hop 0, EN = 0 holds the port down and its sleds unpowered. -/
def State.powerOff (s : State) (p h : Nat) (state : Nat) : State :=
  let s1 := s.hopsLost p h
  let x := s1.hop p h
  let s2 := s1.setHop p h { x with stage := .off, ident := none, record := [], initSince := none, poweredAt := none, retried := false,
                                   offSince := none, fatal := false, enrol := none, downSince := none }
  let s3 := ((s2.setFlag (F.BP_HOP_STAT_PWR p h) false).setF (F.BP_HOP_STAT_STATE p h) state).setF (F.BP_HOP_STAT_NUMBER p h) 0xFFFF
  let s4 := ((s3.setReg (R.BP_HOP_UID0 p h) 0).setReg (R.BP_HOP_UID1 p h) 0).setReg (R.BP_HOP_GEOM p h) 0
  let kept := (s4.port p).waiting.filter (fun c => c.sled.isSome || c.hop != h)
  if h = 0 then (s4.setF (F.BP_LINK_STATE p) 0).setPort p { portReset 0 with waiting := kept }
  else s4.setPort p { s4.port p with waiting := kept }

/-- Every sled of a port is unpowered; one that is present waits for power where the port is released. -/
def State.portOff (s : State) (p : Nat) (state : Nat) : State :=
  [3, 2, 1, 0].foldl (fun s h =>
    s.powerOff p h (if s.flag (F.BP_HOP_STAT_PRESENT p h) then state else 0)) s

/-- BP_CTL is written. -/
def State.writeBpCtl (s : State) (p off size : Nat) (value : Word) : State :=
  s.gate off size value (fun s =>
    let v := writtenValue off size value
    let s1 := s.storeReg off size value
    let was := s.flag (F.BP_CTL_EN p)
    let now := s1.flag (F.BP_CTL_EN p)
    let s2 := if was && !now then s1.portOff p 7
      else if !was && now then [0, 1, 2, 3].foldl (fun s h =>
        if s.flag (F.BP_HOP_STAT_PRESENT p h) && !s.flag (F.BP_HOP_CTL_PWROFF p h) then s.setF (F.BP_HOP_STAT_STATE p h) 1 else s) s1
      else s1
    if bit v 1 && now && off % 8 == 0 then s2.retrain p else s2)

/-- RETRAIN: BP_CTL is written with RETRAIN = 1 and EN as it stands (R357). -/
def execRetrain (p : Nat) (s : State) : Host.Outcome State Fault Refusal :=
  .next (s.writeBpCtl (p % 32) (R.BP_CTL (p % 32)) 4 (2 + (s.reg (R.BP_CTL (p % 32)) &&& 1)))

/-- PORT_EN_WRITE: BP_CTL is written (R369). -/
def execPortEnWrite (p size : Nat) (value : Word) (s : State) : Host.Outcome State Fault Refusal :=
  .next (s.writeBpCtl (p % 32) (R.BP_CTL (p % 32)) size value)

end Sys2Proof.Machine
end

