-- ==== Sys2Proof/Machine/DevReads.lean ====
section
/-! DEFINITION. Reads of the device's own (R93, R107, R109, R141, R207, R214, R228, R283, R493): a stripe is read codeword index by
codeword index through R177, what is lost of it is determined, and the work that read it goes on. -/

namespace Sys2Proof.Machine

/-! ## Victims and background work -/

/-- No victim. -/
def noVictim : Nat := 2 ^ 21

/-- No victim of any cluster. -/
def victimReset (_ : Nat) : Nat := noVictim

/-- The victim of cluster `c` in array `a`. -/
def State.victimOf (s : State) (a c : Nat) : Nat := Tbl.get victimReset s.hoop.victims (a * 8 + c)

/-- Replace the victim of a cluster. -/
def State.setVictim (s : State) (a c b : Nat) : State :=
  { s with hoop := { s.hoop with victims := Tbl.set victimReset s.hoop.victims (a * 8 + c) b } }

/-- Background work of an array may run: the mode, the claim, no resynchronisation, members reachable (R44, R107). -/
def State.relocates (s : State) (a : Nat) : Bool :=
  s.arrExists a && s.backgroundRuns && !s.bobbinIdle && s.holdsClaim && s.hoop.resync.isNone && !s.imageHeld

/-- A stripe that has been read and whose copies are not yet done. -/
def State.beingRead (s : State) (a b st : Nat) : Bool :=
  s.hoop.reads.any (fun r => r.array == a && r.band == b && r.stripe == st)

/-- The stripe of a PGA of band `b` of array `a` (R117). -/
def State.pgaStripe (s : State) (a b pga : Nat) : Nat :=
  (pgaLocate (s.prickingOf a (s.band a b).generation) (pgaUnit pga)).1

/-- A unit of a stripe waits for a scan (R215). -/
def State.scanPending (s : State) (a b st : Nat) : Bool :=
  s.lost.scans.any (fun u => u.array == a && pgaBand u.pga == b && s.pgaStripe a b u.pga == st)

/-- A relocation starts to read a stripe: the band counts as read, and is no victim any more (R140). -/
def State.beginRead (s : State) (r : StripeRead) : State :=
  let s1 : State := { s with hoop := { s.hoop with reads := s.hoop.reads ++ [r] } }
  let s2 := s1.setBand r.array r.band { s1.band r.array r.band with reading := true }
  (List.range 8).foldl (fun (s : State) c => if s.victimOf r.array c = r.band then s.setVictim r.array c noVictim else s) s2

/-- Bands of the RETIRING pricking that are not FREE. -/
def State.retiringBands (s : State) (a : Nat) : List Nat :=
  match s.retiring a with
  | some img => (s.bandsOf a).filter (fun b => (s.band a b).state != .free && (s.band a b).generation == pkGen img)
  | none => []

/-- Why relocation of the RETIRING bands is not running, 0 when it may (R229 to R231; ARR_RS.WHY). -/
def State.reshapeWhy (s : State) (a : Nat) : Nat :=
  if !(decide (s.mode.cur = .active) || decide (s.mode.cur = .maintenance)) then 1
  else if bit (s.arr a).rsRate 32 then 2
  else if !(s.rebuildWork a).isEmpty then 3
  else if s.hoop.resync.isSome then 4
  else if s.narrow a || s.openableNow a == 0 then 5
  else 0

/-! ## Starting a read -/

/-- A device read of a stripe begins: one job for each codeword index, with the columns it wants. -/
def State.startRead (s : State) (goal : ReadGoal) (a b st : Nat) (want : List (Nat × List Nat)) : State :=
  match s.devReads.fresh 0 (s.devReads.length + 1) with
  | some k =>
    let d : DevRead := { goal, array := a, band := b, stripe := st, left := want.map (fun w => w.1), words := [], lost := [] }
    let s1 : State := { s with devReads := s.devReads.insert k d }
    want.foldl (fun s w => s.startJob (ReadJob.make (.device k) a b st w.1 w.2 true)) s1
  | none => s

/-- The columns that a read of a whole stripe wants: with its parity columns where syndromes are compared (R109, R283). -/
def State.goalCols (s : State) (goal : ReadGoal) (a b : Nat) : List Nat :=
  let img := s.bandImg a b
  match goal with
  | .scrub => List.range (pkW img)
  | .check => List.range (pkW img)
  | _ => pkDataCols img

/-- A device read of every codeword index of a stripe. -/
def State.readStripe (s : State) (goal : ReadGoal) (a b st : Nat) : State :=
  s.startRead goal a b st ((List.range (pkZ (s.bandImg a b) / 4096)).map (fun k => (k, s.goalCols goal a b)))

/-- A device read of a stripe for a goal runs. -/
def State.stripeBusy (s : State) (a b st : Nat) (p : ReadGoal → Bool) : Bool :=
  s.devReads.any (fun e => e.2.array == a && e.2.band == b && e.2.stripe == st && p e.2.goal)

/-- The first stripe of band `b` from `st` on that relocation has still to read: a unit of it is named, no copy out of it is pending,
none of its units awaits a scan (R141, R142, R215). -/
def State.stripeToMove (s : State) (a b st : Nat) : Option Nat :=
  ((List.range (s.bandStripes a b)).drop st).find? (fun x => s.stripeNamed a b x && !s.scanPending a b x &&
    !s.copiesOf { array := a, band := b, stripe := x, source := 0 } && !s.stripeBusy a b x (fun _ => true))

/-! ## What a read found lost (R214, R215) -/

/-- The good words of a column of a device read. -/
def DevRead.goods (d : DevRead) (p : Nat → Nat → Bool) : List Info :=
  d.words.filterMap (fun w => if p w.1 w.2.1 then (match w.2.2 with | .good _ i => some i | _ => none) else none)

/-- What a device read has of a column at an index. -/
def DevRead.at_ (d : DevRead) (c k : Nat) : Option WordRead :=
  (d.words.find? (fun w => w.1 == c && w.2.1 == k)).map (fun w => w.2.2)

/-- A grain's name and VSEQ as an accepted host codeword gives them (R174). -/
def Info.named (i : Info) : Option (Nat × Nat) :=
  if i.mFiller || i.mGrain == 0xFFFFFFFFFF then none else some (i.mGrain, i.mVseq)

/-- The loss of a stripe from a device read of it (R214, R215, R218). -/
def State.lossOf (s : State) (d : DevRead) : StripeLoss :=
  let img := s.bandImg d.array d.band
  let upg := s.gblk d.array / 16
  let blocks : List (Nat × Nat × Nat) := d.lost.flatMap (fun e => e.2.filterMap (fun c =>
    match pkRole img c with | .data i => some (i, c, e.1) | _ => none))
  let units := (blocks.map (fun x => (x.1, x.2.1, x.2.2 / 16))).eraseDups
  let name (x : Nat × Nat × Nat) : Option Info := (d.goods (fun c k => c == x.2.1 && k / 16 == x.2.2)).head?
  let pga (x : Nat × Nat × Nat) : Nat := s.unitAt d.array d.band d.stripe x.1 (16 * x.2.2)
  let known := (units.filterMap (fun x => (name x).bind Info.named)).eraseDups
  let blind := units.filter (fun x => (name x).isNone)
  let heads := ((units.filter (fun x => (name x).isSome)).map (fun x => pga x / max 1 upg)).eraseDups
  { cols := (d.lost.flatMap (fun e => e.2) ++ (List.range (pkW img)).filter (fun c =>
      (s.sled (pkMember img (pkMemberIdx img d.stripe c))).failed)).eraseDups
    idx := (d.lost.map (fun e => e.1)).eraseDups
    grains := known
    units := blind.map pga
    unknown := (((blind.map (fun x => pga x / max 1 upg)).eraseDups).filter (fun h => !heads.contains h)).length
    vseqs := ((d.goods (fun c _ => match pkRole img c with | .data _ => true | _ => false)).filterMap Info.named).eraseDups }

/-- FOUND of the lost-stripe log (R218) by what found the stripe; log entry 18 for resynchronisation and the check of R109. -/
def ReadGoal.found : ReadGoal → Nat
  | .rebuild _ => 1 | .gc _ => 2 | .reshape _ => 3 | .scrub => 4 | _ => 5

/-- A read that found its stripe beyond tolerance makes the records of R214. -/
def State.noteLoss (s : State) (d : DevRead) : State :=
  match d.goal with
  | .fill .. =>
    if d.lost = [] ∨ s.stripeLogged d.array d.band d.stripe then s else s.readStripe .examine d.array d.band d.stripe
  | .segment .. => s
  | g => if d.lost = [] then s else s.findLost g.found d.array d.band d.stripe (s.lossOf d)

/-! ## Copies out of a stripe (R141, R142, R149, R207, R228) -/

/-- The block that a copy carries for what was read: a word as it is, a lost block with the poison signature over what was last
decoded or over zeros, and metadata with the VSEQ that the grain's other codewords give (R149, R214, R215). -/
def State.copyWord (s : State) (a g i vseq : Nat) (w : Option WordRead) : Info :=
  let fmt := (s.arr a).pifmt
  match w with
  | some (.good _ x) => x
  | some (.bad (some x)) => { x.poison fmt with mta := mtaMake g a false true i fmt vseq }
  | _ => { (zeroBlock fmt 0 (g * s.gblk a + i)).poison fmt with mta := mtaMake g a false true i fmt vseq }

/-- One grain of a stripe that was read: copied where the map still names it here, unmapped where it is discarded, else garbage; one
with a unit that awaits a scan stays (R141, R207, R215). -/
def State.copyGrain (s : State) (a source g pga : Nat) (words : List (Option WordRead)) : State :=
  let e := (s.mapGet a g).toNat % 2 ^ 48
  let v := (words.findSome? (fun w => match w with | some (.good _ x) => some x.mVseq | _ => none)).getD vseqNone
  if (List.range (s.gblk a / 16)).any (fun k => s.unitScanned a (pga + k)) then s
  else if meValid e && mePga e == pga then
    let ws := (List.range words.length).map (fun i => s.copyWord a g i v (words.getD i none))
    let key := (a * 8 + s.gatherCluster g) * 4 + source
    let x : CopyGrain := { grain := g, src := pga, poisoned := ws.any (fun w => w.marked (s.arr a).pifmt), words := ws }
    let l := Tbl.get (fun _ => []) s.hoop.copyGather key
    { s with hoop := { s.hoop with copyGather := Tbl.set (fun _ => []) s.hoop.copyGather key (l ++ [x]) } }
  else if meDiscarded e && mePga e == pga then s.mapup a g 3 pga (meMake pgaNone false false false (mePinned e))
  else s

/-- Every grain of a stripe that was read, by the grain that its metadata names, or that the map has there (R141). -/
def State.copyStripe (s : State) (d : DevRead) (source : Nat) : State :=
  let img := s.bandImg d.array d.band
  let q := pkZ img / 4096
  let n := s.gblk d.array
  (List.range (pkD img * q / max 1 n)).foldl (fun (s : State) k =>
    let words := (List.range n).map (fun i => d.at_ (pkColOf img ((k * n + i) / max 1 q)) ((k * n + i) % max 1 q))
    let pga := pgaMake d.band (unitOf img d.stripe (k * n))
    let name := (words.findSome? (fun w => match w with | some (.good _ x) => x.named | _ => none)).map (fun x => x.1)
    match name.or (s.grainAt d.array pga) with
    | some g => s.copyGrain d.array source g pga words
    | none => s) s

/-- The relocation stripes of a source that have no more to come are filled up and written (log entry 30). -/
def State.padCopies (s : State) (a source : Nat) : State :=
  (s.hoop.copyGather.map (fun e => e.1)).foldl (fun (s : State) k =>
    if k / 32 = a ∧ k % 4 = source then s.writeCopies k true else s) s

/-! ## What follows a read -/

/-- Garbage collection of a cluster goes on to its victim's next stripe (R141), while it may run. -/
def State.nextGc (s : State) (a c b st : Nat) : State :=
  if !s.relocates a || !s.flag (F.ARR_GC_RUN a) || decide (s.victimOf a c ≠ b) || (s.band a b).state != .closed then s
  else match s.stripeToMove a b st with
    | some x => s.readStripe (.gc c) a b x
    | none => s

/-- Reshape of a cluster goes on to its band's next stripe (R228), while it may run; a pause stops at this boundary (R230). -/
def State.nextReshape (s : State) (a c b st : Nat) : State :=
  if !s.relocates a || decide (s.reshapeWhy a ≠ 0) || (s.band a b).state != .closed then s
  else match s.stripeToMove a b st with
    | some x => (s.beginRead { array := a, band := b, stripe := x, source := 3 }).readStripe (.reshape c) a b x
    | none => s

/-- The stripe's parity columns hold the syndromes of its data columns (R109, R178, R283): an erased one does not (R490). -/
def State.consistent (s : State) (d : DevRead) : Bool :=
  let img := s.bandImg d.array d.band
  (List.range (pkZ img / 4096)).all (fun k =>
    let word (c : Nat) : Option Info := match d.at_ c k with | some (.good step i) => if step = 12 then none else some i | _ => none
    let data := (pkDataCols img).filterMap (fun c => match d.at_ c k with | some (.good _ i) => some (c, i) | _ => none)
    data.length == pkD img && (pkParityCols img).all (fun c =>
      (s.sled (pkMember img (pkMemberIdx img d.stripe c))).failed ||
        (word c).any (fun i => i.bytes == (parityWord img data (pkRole img c)).bytes)))

/-- A codeword of the read needed step 9 or beyond (R283). -/
def DevRead.strained (d : DevRead) : Bool :=
  d.words.any (fun w => match w.2.2 with | .good step _ => decide (9 ≤ step ∧ step ≠ 12) | .bad _ => true | .blank => false)

/-- Scrub has read a stripe (R283): bad, its valid grains are relocated as garbage collection relocates them, but for a lost stripe of
an array without a failed member, which stays in place (R219). -/
def State.scrubbed (s : State) (d : DevRead) : State :=
  let bad := d.strained || !s.consistent d
  if bad && !(decide (d.lost ≠ []) && (s.failedNamed d.array).isEmpty) then s.copyStripe d 1 else s

/-- The map delta of a grain found in a stripe (R493): for host data under the version condition of R94; for a copy only if
the entry is VALID and the copy's VSEQ is not older than the newest version past step 6. -/
def State.resyncDelta (s : State) (a source g pga vseq : Nat) (poisoned : Bool) : State :=
  let low := s.mapGet a g
  let new := meMake pga true false poisoned (mePinned low.toNat)
  if source = 0 then s.mapup a g 2 vseq new
  else if meValid low.toNat && decide (s.passedSeq a g % 2 ^ 48 ≤ vseq) then s.logEntry a g new
  else s.mapAccess a g

/-- Resynchronisation has read a complete stripe: the deltas of the grains that its metadata names, then step 7 (R107, R493). -/
def State.resynced (s : State) (d : DevRead) (e eseq : Nat) : State :=
  let x := s.centry e
  if x.state = 0 ∨ x.eseq ≠ eseq then s
  else
    let img := s.bandImg d.array d.band
    let q := pkZ img / 4096
    let n := s.gblk d.array
    let fmt := (s.arr d.array).pifmt
    let s1 := (List.range (pkD img * q / max 1 n)).foldl (fun (s : State) k =>
      let words := (List.range n).map (fun i => d.at_ (pkColOf img ((k * n + i) / max 1 q)) ((k * n + i) % max 1 q))
      match words.findSome? (fun w => match w with | some (.good _ i) => i.named | _ => none) with
      | some (g, v) => s.resyncDelta d.array x.source g (pgaMake d.band (unitOf img d.stripe (k * n))) v
          (words.any (fun w => match w with | some (.good _ i) => i.marked fmt | _ => true))
      | none => s) s
    s1.closeStripe e

/-- The region being resynchronised has been visited once none of its stripes is being read (R107). -/
def State.regionStep (s : State) : State :=
  match s.hoop.resync with
  | some x =>
    let busy := s.devReads.any (fun e => match e.2.goal with | .resync _ _ => true | .check => true | _ => false)
    match x.left with
    | r :: rest =>
      if !x.begun || busy then s
      else
        let still := s.hoop.entries.any (fun e => e.2.state != 0 && s.regionOf e.2.array e.2.band == r)
        ((if still then s else s.setRegion r false).resyncNext rest x.total).drive
    | [] => s
  | none => s

/-- A version's unwritten blocks are filled and it enters its gathering stripe; where a call waits for it, or the bank fails, partial
stripes are forced out (R88, R93, R97, R98). -/
def State.enterFilled (s : State) (v : Version) (fill : List (Nat × Info)) : State :=
  let fmt := (s.arr v.array).pifmt
  match s.fillVersion v fill (fun b => zeroBlock fmt 0 (v.grain * s.gblk v.array + b)) with
  | none => s
  | some w =>
    let s1 := s.placeVersion w
    (if s.coverDue v.array v.grain v.seq || !s.flag F.HU_STAT_HEALTHY then s1.forceAll (fun x => x == v.array) else s1).drive

/-- Column and codeword index of block `b` of the grain at a PGA (R112, R117). -/
def State.blockPlace (s : State) (a pga b : Nat) : Nat × Nat :=
  let img := s.bandImg a (pgaBand pga)
  let l := pgaLocate img (pgaUnit pga + b / 16)
  (pkColOf img l.2.1, l.2.2 / 4096 + b % 16)

/-- A read of a version's fill has ended (R93): the version is filled with what was read, a block that could not be read entering with
the poison signature. -/
def State.filled (s : State) (d : DevRead) (g seq pga : Nat) : State :=
  match s.hoop.versions.find? (fun v => v.seq == seq && v.array == d.array && v.grain == g && !v.gathered) with
  | none => s
  | some v =>
    s.enterFilled v ((List.range (s.gblk d.array)).filterMap (fun b =>
      match d.at_ (s.blockPlace d.array pga b).1 (s.blockPlace d.array pga b).2 with
      | none => none
      | w => some (b, s.copyWord d.array g b (seq % 2 ^ 48) w)))

/-- Read what only the media hold of a version's unwritten blocks (R93). -/
def State.readFill (s : State) (v : Version) (l : List Nat) : State :=
  let pga := mePga (s.mapGet v.array v.grain).toNat
  let at_ := l.map (s.blockPlace v.array pga)
  let want := ((at_.map (fun x => x.2)).eraseDups).map (fun k => (k, (at_.filter (fun x => x.2 == k)).map (fun x => x.1)))
  if s.devReads.any (fun e => match e.2.goal with | .fill g q _ => e.2.array == v.array && g == v.grain && q == v.seq | _ => false) then s
  else s.startRead (.fill v.grain v.seq pga) v.array (pgaBand pga) (s.pgaStripe v.array (pgaBand pga) pga) want

/-- FETCH jobs that waited for their stripe to be examined end (R214). -/
def State.releaseJobs (s : State) (a b st : Nat) : State :=
  (s.readJobs.filter (fun e => e.2.held && e.2.array == a && e.2.band == b && e.2.stripe == st)).foldl (fun (s : State) e =>
    match e.2.owner with
    | .fetch th id place x => s.endFetch e.1 e.2 th id place x
    | _ => s) s

/-! ## Map load (R130, R205) -/

/-- Valid grains of each band and array are counted from the map (R119, R134). -/
def State.recount (s : State) : State :=
  let used (a : Nat) (p : Word → Bool) : Nat := (s.map.filter (fun e => e.1 / 2 ^ 40 == a && meValid e.2.toNat && p e.2)).length
  let s1 : State := { s with bands := s.bands.map (fun b =>
    (b.1, { b.2 with valid := used (b.1 / 2 ^ 21) (fun w => pgaBand (mePga w.toNat) == b.1 % 2 ^ 21) })) }
  ((List.range 16).filter s1.arrExists).foldl (fun (s : State) a =>
    (s.setF (F.ARR_FILL_VALID a) (used a (fun _ => true))).syncArray a) s1

/-- A map with the kind 1 deltas held replayed into it, in order (R126, R130, R170). -/
def DeltaLog.replay (l : DeltaLog) (m : Tbl Word) : Tbl Word :=
  (l.deltas.filter (fun d => d.kind == 1)).foldl (fun m d => Tbl.set mapDefault m (grainKey d.array d.key) d.value) m

/-- The stripes that hold a segment's copy at a PGA, and the words that each carries (R128, R129). -/
def State.segStripes (s : State) (a pga : Nat) : Nat × Nat :=
  let img := s.bandImg a (pgaBand pga)
  let per := pkD img * (pkZ img / 4096)
  (ceilDiv 256 (max 1 per), per)

/-- Every segment has been read: the map is what was read with the deltas replayed, and what follows from it is counted; an array with a
segment that could not be read is Failed (R130, R205). -/
def State.finishLoad (s : State) : State :=
  match s.power.loading with
  | none => s
  | some m =>
    if s.devReads.any (fun e => match e.2.goal with | .segment .. => true | _ => false) then s
    else
      let s1 : State := { s with
        map := s.dlog.replay m, dlog := { s.dlog with segs := m }, power := { s.power with mapLoaded := true, loading := none } }
      s1.recount.syncAll

/-- The map load begins: every segment of the committed directory is read, by reconstruction where it must be (R130, R208). -/
def State.beginLoad (s : State) : State :=
  if s.power.mapLoaded || s.power.loading.isSome then s
  else
    let s1 : State := { s with power := { s.power with loading := some [] } }
    (s.dlog.dir.foldl (fun (s : State) e =>
      let a := e.1 / 2 ^ 40
      let b := pgaBand e.2
      let st := s.pgaStripe a b e.2
      (List.range (s.segStripes a e.2).1).foldl (fun (s : State) k => s.readStripe (.segment (e.1 % 2 ^ 40) k) a b (st + k)) s) s1).finishLoad

/-- A stripe of a segment has been read (R130): its words' entries are taken; a word that could be neither read nor rebuilt loses the
array's map (R205). -/
def State.segmentRead (s : State) (d : DevRead) (seg part : Nat) : State :=
  match s.power.loading with
  | none => s
  | some m =>
    let img := s.bandImg d.array d.band
    let q := pkZ img / 4096
    let per := pkD img * q
    let a := seg / 2 ^ 24
    let g0 := seg % 2 ^ 24 * 131072
    let ks := (List.range per).filter (fun j => decide (part * per + j < 256))
    let word (j : Nat) : Option Info := match d.at_ (pkColOf img (j / max 1 q)) (j % max 1 q) with | some (.good _ i) => some i | _ => none
    let m1 := ks.foldl (fun m j => match word j with
      | some i => (List.range 512).foldl (fun m k =>
          Tbl.set mapDefault m (grainKey a (g0 + 512 * (part * per + j) + k)) (BitVec.ofNat 64 (leNat (i.data.readBytes (8 * k) 8)))) m
      | none => m) m
    let s1 : State := { s with power := { s.power with loading := some m1 } }
    (if ks.all (fun j => (word j).isSome) then s1 else s1.setFlag (F.ARR_STATE_MAPLOST a) true).finishLoad

/-- A device read has ended: what it found lost is recorded, and its work goes on (R214 step 4). -/
def State.finishRead (s : State) (d : DevRead) : State :=
  let s1 := s.noteLoss d
  match d.goal with
  | .gc c => ((s1.copyStripe d 1).drive).nextGc d.array c d.band (d.stripe + 1)
  | .rebuild _ => (s1.copyStripe d 2).settleWorks
  | .reshape c => ((s1.copyStripe d 3).settleWorks).nextReshape d.array c d.band (d.stripe + 1)
  | .scrub => (s1.scrubbed d).drive
  | .check => (if s1.consistent d then s1 else (s1.copyStripe d 1).drive).regionStep
  | .resync e q => (s1.resynced d e q).regionStep
  | .fill g q p => s1.filled d g q p
  | .examine => s1.releaseJobs d.array d.band d.stripe
  | .segment seg part => s1.segmentRead d seg part

/-- Stripes that FETCH jobs wait for are examined (R214). -/
def State.examineHeld (s : State) : State :=
  (s.readJobs.filter (fun e => e.2.held)).foldl (fun (s : State) e =>
    if s.stripeBusy e.2.array e.2.band e.2.stripe (fun g => g == .examine) then s
    else s.readStripe .examine e.2.array e.2.band e.2.stripe) s

/-- Every device read that has all its words is finished, one after the other. -/
def State.settleDev (s : State) : Nat → State
  | 0 => s
  | n + 1 =>
    match s.devReads.find? (fun e => e.2.left.isEmpty) with
    | some (k, d) => (({ s with devReads := s.devReads.erase k } : State).finishRead d).settleDev n
    | none => s

/-- What the device's own reads allow now: stripes that FETCH jobs wait for are examined, and reads that have ended go on. -/
def State.runReads (s : State) : State := s.examineHeld.settleDev 4096

end Sys2Proof.Machine
end

