-- ==== Sys2Proof/Machine/Relocate.lean ====
section
/-! DEFINITION. The device's own array work: fills by age (R93), resynchronisation (R107), checkpoint epochs (R128), garbage collection
(R139 to R143), the erase gate (R150, R151), rebuild (R207 to R215), rates (R210, R230), reshape relocation (R228 to R231), and scrub
(R283). -/

namespace Sys2Proof.Machine

/-! ## Fills by age, flush or bank (R88, R93, R98) -/

/-- A version whose age has reached HOOP_AGE, or that a flush, FUA or a failing bank forces, is filled and enters its gathering stripe:
at once where the hoop holds every block, else once the unwritten blocks have been read (R88, R93, R97). -/
def execGrainAgeExpiry (a g : Nat) (_fill : Unit) (s : State) : Host.Outcome State Fault Refusal :=
  .next (
    match s.looseVersion a g with
    | none => s
    | some v =>
      let forced := s.coverDue a g v.seq || !s.flag F.HU_STAT_HEALTHY
      let aged := decide (s.f F.HOOP_AGE_AGE ≤ (s.tbase - v.since).toNat)
      if !(forced || aged) || !s.destages || s.bobbinIdle then s
      else match s.unread v with
        | [] => s.enterFilled v []
        | l => (s.readFill v l).runReads)

/-! ## Resynchronisation (R107 to R109, R493) -/

/-- One couching entry of a region being resynchronised (R107): a complete one has its stripe read (R493), any other is abandoned. -/
def State.resyncEntry (s : State) (e : Nat) : State :=
  let x := s.centry e
  if x.state = 2 || (x.state == 1 && s.allAcked e) then s.readStripe (.resync e x.eseq) x.array x.band x.stripe
  else (s.abandonEntry e false).closeBand x.array x.band true false

/-- The bands of a region that a lost hoop left open: every stripe written in them is checked (R109). -/
def State.checkBands (s : State) (r : Nat) : State :=
  let here := s.hoop.checks.filter (fun k => s.regionOf k.1 k.2 == r)
  let s1 : State := { s with hoop := { s.hoop with checks := s.hoop.checks.filter (fun k => !here.contains k) } }
  here.foldl (fun (s : State) k => (List.range (s.bandStripes k.1 k.2)).foldl
    (fun (s : State) st => s.readStripe .check k.1 k.2 st) s) s1

/-- Resynchronisation visits the next marked region (R107): its couching entries, and after a loss of the hoop its open bands (R109).
The next region follows once nothing of this one is being read. -/
def execResyncRegion (_found _lost : Unit) (s : State) : Host.Outcome State Fault Refusal :=
  .next (
    match s.hoop.resync with
    | none => s
    | some x =>
      match x.left with
      | [] => s.resyncNext [] x.total
      | r :: _ =>
        if !s.backgroundRuns || s.bobbinIdle || !s.holdsClaim then s
        else if x.begun then s.regionStep
        else
          let es := (s.hoop.entries.filter (fun e => e.2.state != 0 && s.regionOf e.2.array e.2.band == r)).map (fun e => e.1)
          let s0 : State := { s with hoop := { s.hoop with resync := some { x with begun := true } } }
          ((es.foldl (fun (s : State) e => s.resyncEntry e) s0).checkBands r).runReads.regionStep)

/-! ## Checkpoint epochs (R128) -/

/-- An epoch starts when the delta buffer is half full, or 60 s after the previous one started with deltas appended since (R128). -/
def execCheckpointEpochTimer (s : State) : Host.Outcome State Fault Refusal :=
  .next (
    let l := s.dlog
    let half := decide (deltaRoom / 2 ≤ l.next - l.committed)
    let late := l.appended && decide (6000000000 ≤ (s.tbase - l.lastEpoch).toNat)
    if l.epochRun || !(half || late) || s.bobbinIdle || !s.destages || !s.holdsClaim then s else s.startEpoch [])

/-- The epoch commits: its directory is durable in the vault and on the copy sleds; the deltas before its start are released (R128). -/
def execCheckpointEpochCommit (s : State) : Host.Outcome State Fault Refusal :=
  .next (
    if !s.dlog.written || s.linkOff || s.bobbinIdle then s
    else
      let s0 := s.sendDirectory
      let l := s0.dlog
      let s1 := s0.setDlog { l with
        dir := l.merged, segs := l.newSegs, committed := l.epochStart, newDir := [], newSegs := [], epochRun := false, dirSent := false
        deltas := l.deltas.filter (fun d => decide (l.epochStart ≤ d.pos)) }
      let s2 := (((((s1.setFlag F.ARR_DLOG_EPOCH_RUN false).setFlag F.ARR_DLOG_FULL false).incF F.ARR_CKPT_EPOCHS).syncDlog).mirror
        (.released l.epochStart l.merged)).settleWorks
      if l.again then s2.startEpoch [] else s2)

/-! ## Garbage collection (R139, R140, R143) -/

/-- A candidate of R140 that is no cluster's victim yet. -/
def State.movable (s : State) (a b : Nat) : Bool :=
  s.candidate a b && !s.hoop.victims.any (fun e => e.1 / 8 == a && e.2 == b)

/-- Order among candidates: PFAIL first, by number; then fewest valid grains, earliest TCLOSE, lowest number (R140). -/
def State.before (s : State) (a b c : Nat) : Bool :=
  let x := s.band a b
  let y := s.band a c
  if x.pfail || y.pfail then x.pfail && (!y.pfail || decide (b < c))
  else if x.valid ≠ y.valid then decide (x.valid < y.valid)
  else if x.tclose ≠ y.tclose then decide (x.tclose.toNat < y.tclose.toNat)
  else decide (b < c)

/-- The first of a list in the order of R140. -/
def State.firstOf (s : State) (a : Nat) (l : List Nat) : Option Nat :=
  l.foldl (fun m b => match m with | none => some b | some x => if s.before a b x then some b else some x) none

/-- The victim that cluster `c` would choose among the bands that have a stripe to relocate (R140). -/
def State.chooseVictim (s : State) (a c : Nat) : Option Nat :=
  let l := (s.bandsOf a).filter (fun b => s.bandCluster a b == c && s.movable a b && (s.stripeToMove a b 0).isSome)
  let fg := l.filter (fun b => (s.band a b).kind == .fastGround)
  if l.any (fun b => (s.band a b).pfail) then s.firstOf a l
  else if s.flag (F.ARR_GC_FGFOLD a) && !fg.isEmpty then s.firstOf a fg
  else s.firstOf a l

/-- Cluster `c` is reading a stripe of a victim. -/
def State.gcReading (s : State) (a c : Nat) : Bool := s.devReads.any (fun e => e.2.array == a && e.2.goal == .gc c)

/-- A cluster goes on with its victim, or chooses the next once every stripe of it has been read (R139 to R143); with no candidate left
the copies gathered so far are written. -/
def execGcVictimSelect (a c : Nat) (_units _lost : Unit) (s : State) : Host.Outcome State Fault Refusal :=
  .next (
    if !s.relocates a || !s.clusterAvail c then s
    else if !s.flag (F.ARR_GC_RUN a) then ((s.padCopies a 1).setVictim a c noVictim).syncSpace a
    else if s.gcReading a c then s
    else
      let v := s.victimOf a c
      if v ≠ noVictim ∧ !(s.band a v).reading ∧ (s.stripeToMove a v 0).isSome then (s.nextGc a c v 0).runReads
      else
        let s1 := (s.setVictim a c noVictim).syncSpace a
        match s1.chooseVictim a c with
        | some b => ((s1.setVictim a c b).nextGc a c b 0).runReads
        | none => s1.padCopies a 1)

/-- The victim that ARR_GC shows, that of the lowest-numbered cluster that has one, and its valid grains still to copy (R140). -/
def State.gcShown (s : State) (a : Nat) : Nat × Nat :=
  match (List.range 8).find? (fun c => decide (s.victimOf a c ≠ noVictim)) with
  | some c => (s.victimOf a c, (s.band a (s.victimOf a c)).valid)
  | none => (0, 0)

/-! ## Erasing a band (R144, R145, R150, R151) -/

/-- The kind 2 delta that set a band to ERASING is durable (R150): it is among those held, or a committed epoch has released it. -/
def State.erasingDurable (s : State) (a b : Nat) : Bool :=
  (s.dlog.deltas.filter (fun d => d.kind == 2 && d.array == a && d.key == b)).all (fun d => decide (d.pos < s.dlog.durable))

/-- Erases of a band of healthy members are outstanding or wait to be sent (R150). -/
def State.erasesOut (s : State) (a b : Nat) : Bool :=
  let of (c : SledCmd) : Bool := (match c.purpose with | .erase x y _ _ => x == a && y == b | _ => false) &&
    c.sled.all (fun n => !(s.sled n).failed)
  s.sledCmds.any (fun e => e.2.timedOut.isNone && of e.2) || s.ports.any (fun e => e.2.waiting.any of)

/-- ERASE goes to every block of an ERASING band that is erased; a block that failed a program is retired without it (R145, R150). -/
def State.issueErases (s : State) (a b : Nat) : State :=
  let x := s.band a b
  let img := s.prickingOf a x.generation
  let s1 := x.pfailed.foldl (fun (s : State) k =>
    let n := pkMember img k
    let blk := x.blocks.getD k noBlock
    if blk = noBlock || (s.sled n).failed || (s.eword n blk).state == 4 then s else s.retireBlock a n blk 4) s
  let l := s1.eraseList a b
  if l = [] then s1.finishErase a b
  else l.foldl (fun (s : State) e => s.sendSled e.1 (.erase e.2 x.kind.slc) a false (.erase a b e.2 false)) s1

/-- The erase gate of a band holds: STATE becomes ERASING, and once that delta is durable ERASE is issued; an ERASING band found after
a boot is erased again (R150, R151). -/
def execBandEraseStart (a b : Nat) (s : State) : Host.Outcome State Fault Refusal :=
  .next (
    if !s.relocates a then s
    else
      let s1 := if s.eraseGate a b then
          (((List.range 8).foldl (fun (s : State) c => if s.victimOf a c = b then s.setVictim a c noVictim else s) s).setBandLogged a b
            { s.band a b with state := .erasing, erased := [] })
        else s
      if (s1.band a b).state == .erasing && s1.erasingDurable a b && !s1.erasesOut a b then s1.issueErases a b else s1)

/-! ## Rates (R210, R230) -/

/-- Every 10 ms the shares are renewed, writes of FLOOR, CEIL and PAUSE take effect, and commands that waited for their share are tried
again (R210, R230). -/
def execRateInterval (s : State) : Host.Outcome State Fault Refusal :=
  .next (
    if !s.hw.powered || decide ((s.tbase - s.bobbin.lastRate).toNat < 1000000) then s
    else
      let s1 : State := { s with
        bobbin := { s.bobbin with lastRate := s.tbase }
        sleds := s.sleds.map (fun (e : Nat × Sled) => (e.1, { e.2 with allUsed := 0, shareUsed := 0, reshapeUsed := 0 })) }
      let s2 := ((List.range 16).filter s.arrExists).foldl (fun (s : State) a =>
        ({ s with arrays := Tbl.set arrayReset s.arrays a { s.arr a with
            rbRate := (s.reg (R.ARR_RB_CTL a)).toNat, rsRate := (s.reg (R.ARR_RS_CTL a)).toNat } } : State)) s1
      (List.range 32).foldl (fun (s : State) p => s.retryWaiting p) s2)

/-! ## Rebuild (R207 to R215) -/

/-- The work of one cluster (R209). -/
def State.clusterWork (s : State) (a c : Nat) : List (Nat × Nat) := (s.rebuildWork a).filter (fun x => s.bandCluster a x.1 == c)

/-- The first stripe of a list in pass order: highest loss count, lowest band, lowest stripe (R209). -/
def State.passFirst (s : State) (a : Nat) (l : List (Nat × Nat)) : Option (Nat × Nat) :=
  let ahead (x y : Nat × Nat) : Bool :=
    let i := s.lossCount a x.1 x.2
    let j := s.lossCount a y.1 y.2
    decide (j < i) || (i == j && (decide (x.1 < y.1) || (x.1 == y.1 && decide (x.2 < y.2))))
  l.foldl (fun m x => match m with | none => some x | some y => if ahead x y then some x else some y) none

/-- The stripes of a cluster's present pass (R209): those with the highest loss count that it has. -/
def State.passWork (s : State) (a c : Nat) : List (Nat × Nat) :=
  let l := s.clusterWork a c
  let lc := (l.map (fun x => s.lossCount a x.1 x.2)).foldl max 0
  l.filter (fun x => s.lossCount a x.1 x.2 == lc)

/-- A cluster relocates the next stripe of its rebuild pass (R207, R209): the pass goes on while any stripe of it is not done. With none
left to read, the copies gathered so far are written. -/
def execRebuildStripe (a c : Nat) (_units _lost : Unit) (s : State) : Host.Outcome State Fault Refusal :=
  .next (
    if !s.relocates a || decide (s.rebuildWhy a ≠ 0) || !s.clusterAvail c then s.syncMembers a
    else if s.devReads.any (fun e => e.2.array == a && e.2.goal == .rebuild c) then s
    else match s.passFirst a ((s.passWork a c).filter (fun x => !s.beingRead a x.1 x.2 && !s.scanPending a x.1 x.2)) with
      | none => (s.padCopies a 2).settleWorks
      | some (b, st) => ((s.beginRead { array := a, band := b, stripe := st, source := 2 }).readStripe (.rebuild c) a b st).runReads)

/-- Position of rebuild: that of the lowest-numbered cluster that has work, as PASS, BAND, STRIPE, CLUSTER (R212). -/
def State.rbPos (s : State) (a : Nat) : Nat × Nat × Nat × Nat :=
  match (List.range 8).findSome? (fun c => (s.passFirst a (s.clusterWork a c)).map (fun x => (c, x))) with
  | some (c, b, st) => (s.lossCount a b st, b, st, c)
  | none => (0, 0, 0, 0)

/-- A scan for a unit may run: at once outside rebuild, else at the end of the pass in which the unit was found (R215). -/
def State.scanDue (s : State) (a pga : Nat) : Bool :=
  let b := pgaBand pga
  let st := s.pgaStripe a b pga
  let byRebuild := s.lost.stripes.any (fun x => x.array == a && x.band == b && x.stripe == st && x.found == 1)
  !byRebuild || !(s.clusterWork a (s.bandCluster a b)).any (fun x =>
    decide (s.lossCount a b st ≤ s.lossCount a x.1 x.2) && !s.scanPending a x.1 x.2)

/-- The VSEQ that an accepted codeword of another unit gave for a grain when its stripe was examined, or the value that matches every
version (R215). -/
def State.scanVseq (s : State) (a pga g : Nat) : Nat :=
  (((s.lost.scans.filter (fun u => u.array == a && u.pga == pga)).flatMap (fun u => u.vseqs)).findSome? (fun x =>
    if x.1 = g then some x.2 else none)).getD vseqNone

/-- A lost-unit scan ends (R215): the grain whose map entry names the unit is entered, and FIRSTGRAIN of the record follows. -/
def execLostUnitScan (a pga : Nat) (_vseq : Unit) (s : State) : Host.Outcome State Fault Refusal :=
  .next (
    if !s.unitScanned a pga || !s.scanDue a pga || s.linkOff || decide (s.mode.cur = .halted) then s
    else
      let b := pgaBand pga
      let st := s.pgaStripe a b pga
      let s1 : State := { s with lost := { s.lost with scans := s.lost.scans.filter (fun u => !(u.array == a && u.pga == pga)) } }
      match s1.grainAt a pga with
      | none => s1.syncLost
      | some g =>
        let s2 := s1.addLostGrain a g (s.scanVseq a pga g)
        let here (x : LostGrain) : Bool := x.array == a && pgaBand (mePga (s2.mapGet a x.grain).toNat) == b &&
          s2.pgaStripe a b (mePga (s2.mapGet a x.grain).toNat) == st
        let first := (s2.lost.grains.filter here).foldl (fun m x => min m x.grain) g
        let upd (x : LostStripe) : LostStripe :=
          if x.array == a && x.band == b && x.stripe == st && !s2.scanPending a b st then { x with firstGrain := first } else x
        ({ s2 with lost := { s2.lost with stripes := s2.lost.stripes.map upd } } : State).syncLost)

/-! ## Reshape (R228 to R231) -/

/-- LEFT (R231): valid grains in bands of the RETIRING pricking. -/
def State.reshapeLeft (s : State) (a : Nat) : Nat := ((s.retiringBands a).map (fun b => (s.band a b).valid)).sum

/-- PERMILLE for a value of LEFT (R231). -/
def State.reshapePermille (s : State) (a left : Nat) : Nat :=
  let start := s.f (F.ARR_RS_START_START a)
  if start = 0 then 1000 else 1000 * (start - left) / start

/-- ARR_RS_PROG and ARR_RS_BANDS follow the reshape while it is active; LEFT never rises (R231). DESIGN CHOICE: stripes that an OPEN
RETIRING band still takes (R224) leave LEFT as it is until the sum has fallen below it (log entry 82). -/
def State.syncReshape (s : State) (a : Nat) : State :=
  if !s.flag (F.ARR_RS_ACTIVE a) then s
  else
    let why := s.reshapeWhy a
    let left := min (s.f (F.ARR_RS_PROG_LEFT a)) (s.reshapeLeft a)
    let cur := (s.retiringBands a).filter (fun b => s.hoop.reads.any (fun r => r.array == a && r.band == b && r.source == 3))
    let shown := (List.range 8).findSome? (fun c => (cur.find? (fun b => s.bandCluster a b == c)).map (fun b => (c, b)))
    let s1 := (((s.setF (F.ARR_RS_PROG_LEFT a) left).setF (F.ARR_RS_PROG_PERMILLE a) (s.reshapePermille a left)).setFlag
      (F.ARR_RS_RUN a) (why == 0 && decide (0 < s.reshapeLeft a))).setF (F.ARR_RS_WHY a) why
    ((s1.setF (F.ARR_RS_BANDS_BANDS a) (s.retiringBands a).length).setF (F.ARR_RS_BANDS_BAND a)
      ((shown.map (fun x => x.2)).getD 0)).setF (F.ARR_RS_BANDS_CLUSTER a) ((shown.map (fun x => x.1)).getD 0)

/-- The band whose stripes cluster `c` relocates now (R228): the one it has begun, else the first by rules 1 and 3 of R140. -/
def State.reshapeNext (s : State) (a c : Nat) : Option Nat :=
  let l := (s.retiringBands a).filter (fun b => s.bandCluster a b == c && (s.band a b).state == .closed && (s.band a b).kind.moves &&
    (s.stripeToMove a b 0).isSome)
  (l.find? (fun b => s.hoop.reads.any (fun r => r.array == a && r.band == b && r.source == 3))).or (s.firstOf a (l.filter (s.movable a)))

/-- With nothing of a cluster's left to relocate, its OPEN bands of the RETIRING pricking that no couching entry names are closed, so
that they are relocated too. DESIGN CHOICE: R224 lets them take stripes until they are full, and R232 waits for them (log entry 82). -/
def State.closeRetiring (s : State) (a c : Nat) : State :=
  ((s.retiringBands a).filter (fun b => (s.band a b).state == .open_ && s.bandCluster a b == c &&
    !s.hoop.entries.any (fun e => e.2.state != 0 && e.2.array == a && e.2.band == b))).foldl (fun (s : State) b => s.closeBand a b true false) s

/-- A cluster relocates the CLOSED bands of the RETIRING pricking, one at a time, stripe by stripe (R228 to R231); with none left to
read, the copies gathered so far are written. -/
def execReshapeRelocateBand (a c : Nat) (_units _lost : Unit) (s : State) : Host.Outcome State Fault Refusal :=
  .next (
    if !s.relocates a || (s.retiring a).isNone || decide (s.reshapeWhy a ≠ 0) || !s.clusterAvail c then s.syncReshape a
    else if s.devReads.any (fun e => e.2.array == a && e.2.goal == .reshape c) then s
    else match s.reshapeNext a c with
      | none => (((s.padCopies a 3).closeRetiring a c).settleWorks).syncReshape a
      | some b => ((s.nextReshape a c b 0).runReads).syncReshape a)

/-- The registers and the states of the arrays follow what has happened to them (R134 to R143, R205 to R213, R231; log entry 76). -/
def State.settleArrays (s : State) : State :=
  if !s.holdsClaim then s
  else ((List.range 16).filter s.arrExists).foldl (fun (s : State) a =>
    (((s.syncArray a).syncSpace a).syncMembers a).syncReshape a) s

/-! ## Scrub (R283) -/

/-- The next stripe of a CLOSED band at or after scrub's position. -/
def State.scrubNext (s : State) (a : Nat) : Option (Nat × Nat) :=
  let x := s.arr a
  let at_ (b : Nat) : Option (Nat × Nat) :=
    let st := if b = x.scrubBand then x.scrubStripe else 0
    if (s.band a b).state == .closed && decide (x.scrubBand ≤ b) && decide (st < s.bandStripes a b) then some (b, st) else none
  (s.bandsOf a).foldl (fun m b => match m, at_ b with
    | none, r => r
    | some y, some z => if z.1 < y.1 then some z else some y
    | some y, none => some y) none

/-- Scrub reads the next stripe, its parity columns included, in idle member time (R283). -/
def execScrubStripe (a : Nat) (_bad _units _lost : Unit) (s : State) : Host.Outcome State Fault Refusal :=
  .next (
    if !s.relocates a || !(s.arr a).scrubRun || s.devReads.any (fun e => e.2.array == a && e.2.goal == .scrub) then s
    else match s.scrubNext a with
      | none => s.setArr a { s.arr a with scrubRun := false, scrubDone := true }
      | some (b, st) =>
        ((s.setArr a { s.arr a with scrubBand := b, scrubStripe := st + 1 }).readStripe .scrub a b st).runReads)

end Sys2Proof.Machine
end

