-- ==== Sys2Proof/Machine/Sleds.lean ====
section
/-! DEFINITION. Sleds: responses, read data and alerts (R359 to R365, R492), time limits (R198, R366, R367), enumeration and
enrolment (R369 to R374, R496). -/

namespace Sys2Proof.Machine

/-- `n` bytes of a block at an offset as a number (R11). -/
def blockNum (l : List Byte) (o n : Nat) : Nat := leNat ((l.drop o).take n)

/-- A 512-byte or 64-byte block passes its CRC in its last four bytes (R363, R364, R373). -/
def blockOk (l : List Byte) (n : Nat) : Bool := l.length == n && crc32c (l.take (n - 4)) == blockNum l (n - 4) 4

/-! ## Claims -/

/-- A STALE_CLAIM at the unit that believes it holds the claim is the loss of the claim (R371, R393). -/
def State.staleClaim (s : State) : State := if s.paired && s.role == 1 then s.loseLease else s

/-! ## Enumeration (R369, R374, R496) -/

/-- The domain of this device's enrolment records (R373, R381). -/
def State.domain (s : State) : List Byte :=
  match if s.paired then s.pairId.or s.pair.storedId else none with
  | some (a, b) => leBytes 8 a ++ leBytes 8 b
  | none => leBytes 8 s.hw.serial ++ List.replicate 8 0

/-- The enrolment record of a number (R373). -/
def State.enrolRecord (s : State) (n : Nat) : List Byte :=
  let b := leBytes 4 0x4C524E45 ++ leBytes 1 1 ++ leBytes 1 0 ++ leBytes 2 n ++ s.domain ++ leBytes 8 s.tbase.toNat ++
    List.replicate (0x1FC - 32) 0
  b ++ leBytes 4 (crc32c b)

/-- A sled as its IDENTIFY block reports it (R364). -/
def identSled (p h : Nat) (l : List Byte) : Sled :=
  { sledReset 0 with
    port := p, hop := h, uid := BitVec.ofNat 128 (blockNum l 0x30 16), blocks := blockNum l 8 3, bpc := blockNum l 5 1
    cwp := blockNum l 6 1, ppb := blockNum l 0xC 2, cycles := blockNum l 0x24 4, cyclesSlc := blockNum l 0x28 4
    qdepth := blockNum l 0x12 2, tprog := blockNum l 0x1E 2 * 100, terase := blockNum l 0x20 4 * 100
    rdMbps := blockNum l 0x14 4, wrMbps := blockNum l 0x18 4, cfgRecords := blockNum l 0x2C 2, reachable := true }

/-- Send an enumeration command to a hop (R369); step 1 IDENTIFY, 2 SET_TIME and CLAIMs, 3 STATUS, 4 record 0. -/
def State.hopSend (s : State) (p h step : Nat) (kind : SledKind) (array : Nat := 0) (scope : Bool := true) : State :=
  s.issueSled p { hop := h, sled := none, kind, array, scope, claim := s.pair.claim, issued := s.tbase, timedOut := none,
                  again := false, purpose := .hop step, share := .other, underLoss := false, heldSince := none }

/-- Codewords of a page that a sled may report (R175, R364). -/
def cwpKnown (n : Nat) : Bool := n == 2 || n == 4 || n == 8

/-- IDENTIFY answered: the hop's registers are loaded, and SET_TIME and, with a claim, the 17 CLAIMs leave together (R369, R372,
R496). A block with another CWP than 2, 4 or 8 is no valid one (R175; DESIGN CHOICE, log entry 89). -/
def State.identified (s : State) (p h : Nat) (l : List Byte) : State :=
  if !(blockOk l 512 && blockNum l 0 4 == 0x44454C53 && blockNum l 4 1 == 1 && cwpKnown (blockNum l 6 1)) then s
  else
    let x := s.hop p h
    let y := identSled p h l
    let s1 := s.setHop p h { x with stage := .setup, ident := some y, initSince := x.initSince.or (some s.tbase) }
    let s2 := ((s1.setReg (R.BP_HOP_UID0 p h) (y.uid.setWidth 64)).setReg (R.BP_HOP_UID1 p h)
      (BitVec.ofNat 64 (y.uid.toNat / 2 ^ 64))).setReg (R.BP_HOP_GEOM p h)
      (BitVec.ofNat 64 (y.blocks + 2 ^ 24 * (y.bpc % 8) + 2 ^ 28 * (y.cwp % 16) + 2 ^ 32 * y.ppb))
    let s3 := s2.hopSend p h 2 (.setTime s.tbase)
    if s3.holdsClaim then
      ((List.range 16).foldl (fun s a => s.hopSend p h 2 .claim a false) s3).hopSend p h 2 .claim
    else s3

/-- The last of SET_TIME and the CLAIMs has been answered: STATUS is read (R369 step 4). -/
def State.setupDone (s : State) (p h : Nat) : State :=
  let out (c : SledCmd) : Bool := c.hop == h && decide (c.purpose = .hop 2)
  if s.sledCmds.any (fun e => e.1 / 512 == p && e.2.timedOut.isNone && out e.2) || (s.port p).waiting.any out then s
  else (s.setHop p h { s.hop p h with stage := .status, lastPoll := s.tbase }).hopSend p h 3 .status

/-- A sled takes its place at a hop under a number: reachable, ENROLLED (R374); one declared failed with cause 1 or 4 is reset, and its
hop enumerated again (R199). -/
def State.seatSled (s : State) (p h n : Nat) : State :=
  let x := s.hop p h
  let o := s.sled n
  let i := x.ident.getD (sledReset 0)
  let y := { o with
    enrolled := true, port := p, hop := h, uid := i.uid, blocks := i.blocks, bpc := i.bpc, cwp := i.cwp, ppb := i.ppb
    cycles := i.cycles, cyclesSlc := i.cyclesSlc, qdepth := i.qdepth, tprog := i.tprog, terase := i.terase
    rdMbps := i.rdMbps, wrMbps := i.wrMbps, cfgRecords := i.cfgRecords, reachable := true, lostSince := none
    notReady := none, notReadySince := none, resetDue := false }
  let s1 := (s.setSled n y).setHop p h { x with stage := .done, initSince := none, failedHere := o.failed }
  let s2 := ((((s1.setF (F.BP_HOP_STAT_STATE p h) (if o.failed then 6 else 5)).setF (F.BP_HOP_STAT_NUMBER p h) n).mirror
    (.sled n y)).chooseCopies).syncAll
  if o.resetDue then s2.resetSled n else s2

/-- A sled that is not enrolled: NEW (R374). -/
def State.seatNew (s : State) (p h : Nat) : State :=
  let s1 := s.setHop p h { s.hop p h with stage := .done, initSince := none }
  (s1.setF (F.BP_HOP_STAT_STATE p h) 4).setF (F.BP_HOP_STAT_NUMBER p h) 0xFFFF

/-- The number that record 0 gives a sled, if its domain is this device's and no other enrolled or failed sled has the number
(R373, R374). -/
def State.recordNumber (s : State) (l : List Byte) (uid : BitVec 128) : Option Nat :=
  let n := blockNum l 6 2
  if blockOk l 512 && blockNum l 0 4 == 0x4C524E45 && blockNum l 4 1 == 1 && ((l.drop 8).take 16 == s.domain) && n != 0xFFFF &&
      !((s.sled n).enrolled && ((s.sled n).failed || (s.sled n).uid != uid)) then some n
  else none

/-- Record 0 has been read (R374). -/
def State.recordRead (s : State) (p h : Nat) (ok : Bool) : State :=
  let x := s.hop p h
  match if ok then s.recordNumber x.record (x.ident.getD (sledReset 0)).uid else none with
  | some n => s.seatSled p h n
  | none => s.seatNew p h

/-- A status block (R363): temperature, a fatal state, the downstream link; and during enumeration what STATE allows next (R369,
R374). -/
def State.statusBlock (s : State) (p h : Nat) (l : List Byte) : State :=
  if !blockOk l 64 then s
  else
    let state := blockNum l 0 1
    let down := bit (blockNum l 2 1) 2
    let s1 : State := match s.sledAt p h with
      | some n =>
        let t := s.setSledHealth n { s.sledHealth n with temp := blockNum l 1 1 }
        if state = 3 then t.fatalReport n
        else if (t.hop p h).fatal then t.setHop p h { t.hop p h with fatal := false } else t
      | none => s
    let next := if h < 3 then h + 1 else 3
    let s2 : State := if h < 3 then
        (if down && decide ((s1.hop p next).stage = .off) && s1.flag (F.BP_HOP_STAT_PWR p next) then
          s1.setHop p next { s1.hop p next with stage := .training }
        else if !down && decide ((s1.hop p next).stage ≠ .off ∧ (s1.hop p next).stage ≠ .training) then s1.hopsLost p next
        else s1)
      else s1
    let x := s2.hop p h
    if x.stage ≠ .status then s2
    else
      let s3 := s2.setF (F.BP_LINK_HOPS p) (max (h + 1) (s2.f (F.BP_LINK_HOPS p)))
      let known : Bool := match s3.sledAt p h with
        | some n => (s3.sled n).enrolled && x.ident.any (fun i => i.uid == (s3.sled n).uid)
        | none => false
      if known then s3.seatSled p h (s3.f (F.BP_HOP_STAT_NUMBER p h))
      else if state = 0 ∨ state = 2 then
        (s3.setHop p h { x with stage := .record, record := [] }).hopSend p h 4 (.log 0 0 [])
      else s3

/-- ENUMERATE_HOP: the hop's link has trained and every lower hop is identified; IDENTIFY leaves (R369). -/
def execEnumerateHop (p h : Nat) (s : State) : Host.Outcome State Fault Refusal :=
  .next (
    let x := s.hop (p % 32) (h % 4)
    if s.bobbinIdle || decide (x.stage ≠ .trained) then s
    else (s.setHop (p % 32) (h % 4) { x with stage := .identify }).hopSend (p % 32) (h % 4) 1 .identify)

/-- Hops whose sled has been identified. -/
def State.liveHops (s : State) : List (Nat × Nat) :=
  (s.bobbin.hops.filter (fun e => decide (e.2.stage = .done ∨ e.2.stage = .status ∨ e.2.stage = .record))).map
    (fun e => (e.1 / 4, e.1 % 4))

/-- SET_TIME_TIMER: every 60 s SET_TIME goes to each sled, and the temperature bins of the enrolled ones are read (R369, R445). -/
def execSetTimeTimer (s : State) : Host.Outcome State Fault Refusal :=
  .next (
    if s.bobbinIdle || decide ((s.tbase - s.bobbin.lastSetTime).toNat < 6000000000) then s
    else
      let s1 := s.liveHops.foldl (fun s k =>
        let t := s.sendHop k.1 k.2 (.setTime s.tbase) .none
        match t.sledAt k.1 k.2 with
        | some n => if (t.sled n).usable then t.sendSled n (.log 4 0 []) 0 true .none else t
        | none => t) s
      { s1 with bobbin := { s1.bobbin with lastSetTime := s.tbase } })

/-- INIT_STATUS_POLL: every 10 ms the STATUS of a sled that reports STATE 1 is read (R374). -/
def execInitStatusPoll (p h : Nat) (s : State) : Host.Outcome State Fault Refusal :=
  .next (
    let x := s.hop (p % 32) (h % 4)
    if s.bobbinIdle || decide (x.stage ≠ .status) || decide ((s.tbase - x.lastPoll).toNat < 1000000) then s
    else (s.setHop (p % 32) (h % 4) { x with lastPoll := s.tbase }).hopSend (p % 32) (h % 4) 3 .status)

/-- SLED_INIT_TIMEOUT: still at STATE 1 after 30 s, the sled is powered off, its hop reads OFF, and the event is logged (R374). -/
def execSledInitTimeout (p h : Nat) (s : State) : Host.Outcome State Fault Refusal :=
  .next (
    let x := s.hop (p % 32) (h % 4)
    match x.initSince with
    | some t =>
      if x.stage = .status ∧ 3000000000 ≤ (s.tbase - t).toNat then
        (s.powerOff (p % 32) (h % 4) 7).logOpen clsNotice 6 (p % 32) (h % 4)
      else s
    | none => s)

/-! ## ENROL and DISENROL (R374) -/

/-- A refused BP_HOP_CMD or PWROFF: SEQERR and a notice. -/
def State.hopRefuse (s : State) (p h : Nat) (value : Nat) : State :=
  (s.setFlag (F.BP_HOP_CTL_SEQERR p h) true).noticeOther 6 p (R.BP_HOP_CMD p h) value

/-- Some pricking slot that is not EMPTY names a sled (R374). -/
def State.slotNames (s : State) (n : Nat) : Bool :=
  (List.range 32).any (fun i => (s.slot i).state != .empty && (pkMembers (s.slot i).image).contains n)

/-- The lowest number free for ENROL (R374). -/
def State.freeNumber (s : State) : Option Nat :=
  (List.range 0xFFFF).find? (fun n => !(s.sled n).enrolled && !s.slotNames n &&
    !s.bobbin.hops.any (fun e => e.2.enrol.any (fun r => r.number == n)))

/-- ENROL runs on a NEW hop: a number is assigned and record 0 written (R374). -/
def State.enrolHop (s : State) (p h : Nat) : State :=
  let x := s.hop p h
  if s.f (F.BP_HOP_STAT_STATE p h) ≠ 4 ∨ !s.holdsClaim ∨ x.enrol.isSome ∨ s.bobbinIdle then s.hopRefuse p h 1
  else match s.freeNumber with
    | none => s.hopRefuse p h 1
    | some n =>
      (s.setHop p h { x with enrol := some { number := n, step := 2, wear := [], bad := [] } }).sendHop p h
        (.log 1 0 (s.enrolRecord n)) (.config 1)

/-- A step of ENROL failed: it is refused and nothing of it stays (R374). -/
def State.enrolFailed (s : State) (p h status : Nat) : State :=
  (s.setHop p h { s.hop p h with enrol := none }).hopRefuse p h status

/-- The erase block words that READ_WEAR and READ_BAD give (R121, R374). -/
def State.enrolWords (s : State) (n blocks : Nat) (wear bad : List Byte) : State :=
  let badAt (b : Nat) : Bool := (List.range (bad.length / 4)).any (fun i => blockNum bad (4 * i) 4 == b)
  (List.range blocks).foldl (fun s b =>
    let e : EWord := { erases := blockNum wear (4 * b) 4 % 2 ^ 24, state := if badAt b then 5 else 0, pslc := false }
    if e = s.eword n b then s else s.setEword n b e) s

/-- The health counters start at enrolment (R445). -/
def State.startHealth (s : State) (n bad : Nat) : State := s.setSledHealth n { sledHealthReset 0 with badInit := bad }

/-- A step of ENROL has been answered OK: READ_WEAR, READ_BAD, then the sled is ENROLLED (R374). -/
def State.enrolNext (s : State) (p h : Nat) : State :=
  let x := s.hop p h
  match x.enrol with
  | none => s
  | some r =>
    if r.step = 2 then
      (s.setHop p h { x with enrol := some { r with step := 3 } }).sendHop p h (.log 5 0 []) (.config 1)
    else if r.step = 3 then
      (s.setHop p h { x with enrol := some { r with step := 4 } }).sendHop p h (.log 2 0 []) (.config 1)
    else
      let i := x.ident.getD (sledReset 0)
      let nbad := r.bad.length / 4
      let s1 := (s.setHop p h { x with enrol := none }).setSled r.number { sledReset 0 with bad := nbad }
      ((s1.enrolWords r.number i.blocks r.wear r.bad).startHealth r.number nbad).seatSled p h r.number

/-- DISENROL: allowed for a sled that no slot names; record 0 is cleared, the number freed, the hop left NEW (R374). -/
def State.disenrolHop (s : State) (p h : Nat) : State :=
  match s.sledAt p h with
  | none => s.hopRefuse p h 2
  | some n =>
    if s.slotNames n || !s.holdsClaim then s.hopRefuse p h 2
    else
      let s1 := if (s.sled n).reachable && !s.bobbinIdle then s.sendHop p h (.log 1 0 (List.replicate 512 0)) .none else s
      let s2 := (s1.setSled n (sledReset 0)).mirror (.sled n (sledReset 0))
      ((((s2.setF (F.BP_HOP_STAT_STATE p h) 4).setF (F.BP_HOP_STAT_NUMBER p h) 0xFFFF).setHop p h
        { s2.hop p h with fatal := false, failedHere := false }).chooseCopies).syncAll

/-- BP_HOP_CMD is written (R374); a reserved OP is refused. -/
def State.writeHopCmd (s : State) (p h size : Nat) (value : Word) : State :=
  s.command (R.BP_HOP_CMD p h) size value false (fun v s =>
    match v % 4 with
    | 1 => s.enrolHop p h
    | 2 => s.disenrolHop p h
    | _ => s.hopRefuse p h v)

/-- ENROL (R374). -/
def execEnrol (p h : Nat) (s : State) : Host.Outcome State Fault Refusal := .next (s.writeHopCmd (p % 32) (h % 4) 8 1)

/-- DISENROL (R374). -/
def execDisenrol (p h : Nat) (s : State) : Host.Outcome State Fault Refusal := .next (s.writeHopCmd (p % 32) (h % 4) 8 2)

/-! ## Read data (R177 to R182, R359, R361) -/

/-- Bytes of a log that a hop's command asked for. -/
def State.logData (s : State) (p : Nat) (c : SledCmd) (bs : List Byte) : State :=
  let x := s.hop p c.hop
  match c.purpose, c.kind with
  | .hop 4, _ => s.setHop p c.hop { x with record := x.record ++ bs }
  | .config 1, .log 5 _ _ => s.setHop p c.hop { x with enrol := x.enrol.map (fun r => { r with wear := r.wear ++ bs }) }
  | .config 1, .log 2 _ _ => s.setHop p c.hop { x with enrol := x.enrol.map (fun r => { r with bad := r.bad ++ bs }) }
  | _, .log 4 _ _ =>
    match c.sled with
    | some n => s.setSledHealth n { s.sledHealth n with bins := (List.range 16).map (fun i => blockNum bs (4 * i) 4) }
    | none => s
  | _, _ => s

/-- RDATA: read data of a command (R359, R361, R365); data of no command is a protocol error, data after a timeout is discarded
(R199). -/
def execRdata (p tag hop seg : Nat) (d : ReadData) (hcrcOk : Bool) (s : State) : Host.Outcome State Fault Refusal :=
  .next (
    let q := p % 32
    if s.bobbinIdle || !(s.port q).up then s
    else
      let s := s.returnCredit q 0 (match d with | .codeword _ => slotsOf 4640 | .log bs => slotsOf bs.length)
      if !hcrcOk then s.protoError q 0x21
      else match s.sledCmds.find (sledKey q (tag % 512)) with
        | none => s.protoError q 0x21
        | some c =>
          if c.timedOut.isSome then s
          else if c.hop ≠ hop % 4 then s.protoError q 0x21
          else match c.purpose, c.kind, d with
            | .read j k, .read _ _ _ level _, .codeword raw => (s.columnData j k level seg raw).runReads
            | _, _, .log bs => s.logData q c bs
            | _, _, _ => s)

/-! ## Responses (R362, R367, R492) -/

/-- A media command answered NOT_READY (R367): the time is kept for 10 ms; after 30 s of nothing else each counts as a timeout. -/
def State.sledNotReady (s : State) (n : Nat) : State :=
  let x := s.sled n
  let since := x.notReadySince.getD s.tbase
  let s1 := s.setSled n { x with notReady := some s.tbase, notReadySince := some since }
  if 3000000000 ≤ (s.tbase - since).toNat then s1.countTimeout n false else s1

/-- A media command answered otherwise ends the series; the 10 ms after the last NOT_READY run on (R367). -/
def State.sledAnswered (s : State) (n : Nat) : State := s.setSled n { s.sled n with notReadySince := none }

/-- A command waits out a NOT_READY (R367). -/
def State.holdCommand (s : State) (p : Nat) (c : SledCmd) : State :=
  s.setPort p { s.port p with waiting := (s.port p).waiting ++ [{ c with heldSince := some s.tbase }] }

/-- The READ of a column ends without data (R181, R198, R492). -/
def State.readEnded (s : State) (c : SledCmd) (j col : Nat) : State :=
  match s.job j, c.kind with
  | some x, .read _ _ _ level _ => match x.col col with
    | some (.reading l _) => if l = level then s.readErased j col else s
    | _ => s
  | _, _ => s

/-- An ERASE of a band has ended: the number is FREE once every block to be erased has been (R150). -/
def State.eraseEnded (s : State) (a b : Nat) : State :=
  if (s.band a b).state == .erasing && !s.erasesOut a b && (s.eraseList a b).isEmpty then s.finishErase a b else s

/-- The member index of a sled in a band (R62). -/
def State.bandIndex (s : State) (a b n : Nat) : Nat :=
  ((List.range (pkN (s.prickingOf a (s.band a b).generation))).find? (fun k =>
    pkMember (s.prickingOf a (s.band a b).generation) k == n)).getD 0

/-- An ERASE succeeded: the block's cycle counts, and it shows free once its band's last erase has ended, or stays in the band that had
it erased to change its mode (R122, R150). Array numbers from 16 on stand for blocks of a deleted array (R286). -/
def State.blockErased (s : State) (a b n blk : Nat) (slc : Bool) : State :=
  let e := s.eword n blk
  if 16 ≤ a then s.setEword n blk { erases := e.erases + 1, state := 0, pslc := slc }
  else
    let s1 := s.setEword n blk { erases := e.erases + 1, state := 1, pslc := slc }
    let x := s1.band a b
    if x.state == .erasing then (s1.setBand a b { x with erased := (x.erased ++ [s1.bandIndex a b n]).eraseDups }).eraseEnded a b
    else s1.retryWaiting (s1.sled n).port

/-- PROGRAMs of a block that wait for its erase go to the block that takes its place (R122). -/
def State.retarget (s : State) (n old new : Nat) : State :=
  let p := (s.sled n).port
  s.setPort p { s.port p with waiting := (s.port p).waiting.map (fun c =>
    match c.kind with
    | .program blk pg np ws => if c.sled = some n ∧ blk = old then { c with kind := .program new pg np ws } else c
    | _ => c) }

/-- PROGRAMs that wait for a block that can be replaced by none end: their stripes are abandoned (R122, R144). -/
def State.dropPrograms (s : State) (n old : Nat) : State :=
  let p := (s.sled n).port
  let mine (c : SledCmd) : Bool := c.sled == some n && (match c.kind with | .program blk .. => blk == old | _ => false)
  let gone := (s.port p).waiting.filter mine
  gone.foldl (fun (s : State) c => match c.purpose with
    | .emit th id e col interim => (s.programFailed e col interim false).asyncDone th id 0x0231
    | .checkpoint a b _ => s.ckptAcked a b false false
    | _ => s) (s.setPort p { s.port p with waiting := (s.port p).waiting.filter (fun c => !mine c) })

/-- An ERASE failed: the block is retired (R144); a band that was about to use it takes the next block (R122). The word of a failed
member's block stays as it is (R150). -/
def State.eraseFailed (s : State) (a b n blk : Nat) (slc : Bool) : State :=
  if 16 ≤ a then s.setEword n blk { s.eword n blk with state := 3 }
  else if (s.sled n).failed then s.eraseEnded a b
  else
    let s1 := s.retireBlock a n blk 3
    let x := s1.band a b
    if x.state == .erasing then (s1.eraseEnded a b).syncArray a
    else
      let put (nb : Nat) : List Nat := x.blocks.set (s1.bandIndex a b n) nb
      match s1.pickBlock n with
      | some nb => (((((s1.setBand a b { x with blocks := put nb }).takeBlock a b n nb slc).retarget n blk nb).retryWaiting
          (s.sled n).port).syncArray a)
      | none => (((s1.setBand a b { x with blocks := put noBlock }).closeBand a b true false).dropPrograms n blk).syncArray a

/-- A PROGRAM of a couching entry's column ends with a status (R145, R252, R367): a failed page abandons the stripe and closes the
band with PFAIL and EARLY, any other failure with EARLY alone; a refused claim leaves the stripe to resynchronisation. -/
def State.programEnded (s : State) (th id e col : Nat) (interim : Bool) (status : Nat) : State :=
  if status = 0 then
    if th = deviceWriter then s.workAcked e col interim
    else
      let x := s.centry e
      (s.setCentry e (if interim then { x with ipacked := putBit x.ipacked col true } else { x with acked := putBit x.acked col true })).asyncDone
        th id 0
  else if status = 1 then s.staleClaim.asyncDone th id 0x0231
  else if status = 2 then ((s.programFailed e col interim true).asyncDone th id 0x0230).drive
  else ((s.programFailed e col interim false).asyncDone th id 0x0231).drive

/-- A configuration write ends (R65, R232, R374). -/
def State.configEnded (s : State) (p : Nat) (c : SledCmd) (what status : Nat) : State :=
  match what with
  | 1 => if status = 0 then s.enrolNext p c.hop else s.enrolFailed p c.hop status
  | 2 =>
    match c.sled with
    | some n => { s with prk := { s.prk with markerWaits := s.prk.markerWaits.filter (fun m => status != 0 || m.2 != n) } }
    | none => s
  | _ =>
    match s.prk.run, c.sled with
    | some r, some n =>
      { s with prk := { s.prk with run := some { r with waits := r.waits.filter (fun m => m != n), failed := r.failed || status != 0 } } }
    | _, _ => s

/-- An enumeration command of a hop ends (R369, R374). -/
def State.hopEnded (s : State) (p : Nat) (c : SledCmd) (step status : Nat) (body : List Byte) : State :=
  let x := s.hop p c.hop
  if step = 1 ∧ x.stage = .identify then (if status = 0 then s.identified p c.hop body else s)
  else if step = 2 ∧ x.stage = .setup then
    (if status = 1 ∧ c.kind = .claim then s.staleClaim else s).setupDone p c.hop
  else if step = 3 then (if status = 0 then s.statusBlock p c.hop body else s)
  else if step = 4 ∧ x.stage = .record then s.recordRead p c.hop (status == 0)
  else s

/-- What an answered command was for goes on (R362, R367, R492). -/
def State.settleRsp (s : State) (p : Nat) (c : SledCmd) (status : Nat) (body : List Byte) : State :=
  let media := match c.kind with
    | .read .. => true | .program .. => true | .erase .. => true | .log .. => true | _ => false
  let s0 : State := match c.sled with
    | some n =>
      if media && status == 9 then s.sledNotReady n
      else if status = 8 then (s.sledAnswered n).fatalReport n
      else if media then s.sledAnswered n else s
    | none => s
  match c.purpose with
  | .read j col =>
    let s1 := if status = 0 ∨ status = 8 ∨ status = 9 then s0
      else if status = 1 then s0.staleClaim
      else match c.sled with
        | some n => (s0.protoError p 0x20).countTimeout n c.underLoss
        | none => s0
    s1.readEnded c j col
  | .emit th id e col interim =>
    if status = 9 then s0.holdCommand p c else s0.programEnded th id e col interim status
  | .erase a b blk _ =>
    let n := c.sled.getD 0xFFFF
    let slc := match c.kind with | .erase _ m => m | _ => false
    if status = 9 then s0.holdCommand p c
    else if status = 0 then s0.blockErased a b n blk slc
    else if status = 1 then s0.staleClaim.eraseEnded a b
    else if status = 8 then s0.eraseEnded a b
    else s0.eraseFailed a b n blk slc
  | .checkpoint a b _ => if status = 9 then s0.holdCommand p c else
      (if status = 1 then s0.staleClaim else s0).ckptAcked a b (status == 0) (status == 2)
  | .config what =>
    if status = 9 ∧ what ≠ 1 then s0.holdCommand p c
    else (if status = 1 then s0.staleClaim else s0).configEnded p c what status
  | .hop step => if media ∧ status = 9 then s0.holdCommand p c else s0.hopEnded p c step status body
  | .none =>
    if media ∧ status = 9 then s0.holdCommand p c
    else match c.kind with
    | .status => if status = 0 then s0.statusBlock p c.hop body else s0
    | .claim => if status = 1 then s0.staleClaim else s0
    | _ => s0

/-- RSP: the final response of a command ends it (R362). A late one frees its reserved tag and is counted; one with no command is a
protocol error (R199). -/
def execRsp (p tag hop status : Nat) (body : List Byte) (hcrcOk : Bool) (s : State) : Host.Outcome State Fault Refusal :=
  .next (
    let q := p % 32
    if s.bobbinIdle || !(s.port q).up then s
    else
      let s := s.returnCredit q (slotsOf body.length) 0
      if !hcrcOk then s.protoError q 0x20
      else match s.sledCmds.find (sledKey q (tag % 512)) with
        | none => s.protoError q 0x20
        | some c =>
          if c.hop ≠ hop % 4 then s.protoError q 0x20
          else if c.timedOut.isSome then (s.satF F.ARR_LATE_LATE).endSled q (tag % 512)
          else (((s.endSled q (tag % 512)).settleRsp q c (status % 256) body).retryWaiting q).runReads)

/-- ALERT: a status block unasked for; a fatal state declares the sled failed (R196, R363). -/
def execAlert (p hop : Nat) (body : List Byte) (hcrcOk : Bool) (s : State) : Host.Outcome State Fault Refusal :=
  .next (
    let q := p % 32
    if s.bobbinIdle || !(s.port q).up then s
    else
      let s := s.returnCredit q (slotsOf body.length) 0
      if !hcrcOk then s.protoError q 0x30
      else (s.statusBlock q (hop % 4) body).runReads)

/-! ## Time limits (R198, R367) -/

/-- Ticks a command may take (R198, R367). -/
def State.cmdLimit (s : State) (c : SledCmd) : Nat :=
  let x := c.sled.map s.sled
  match c.kind with
  | .read .. => s.f F.ARR_MTMO_TIMEOUT
  | .program _ _ np _ => np * (x.map (fun y => y.tprog)).getD 0 + 1000000
  | .erase .. => (x.map (fun y => y.terase)).getD 0 + 1000000
  | .claim => 5000000
  | .log op _ _ => if op = 1 then 5000000 else 1000000
  | _ => 1000000

/-- The tag of a command that has passed its limit stays reserved (R199). -/
def State.reserveTag (s : State) (k : Nat) (c : SledCmd) : State :=
  { s with sledCmds := s.sledCmds.insert k { c with timedOut := some s.tbase } }

/-- A command is sent once more under a new tag (R367). -/
def State.reissue (s : State) (p : Nat) (c : SledCmd) : State :=
  let c2 := { c with again := true, underLoss := false, purpose := match c.purpose with
    | .erase a b blk _ => .erase a b blk true
    | x => x }
  s.issueSled p c2

/-- A second expiry of another command: the sled is treated as not answering (R367). -/
def State.notAnswering (s : State) (p : Nat) (c : SledCmd) : State :=
  let s1 : State := match c.sled with
    | some n => s.setSled n { s.sled n with reachable := false, lostSince := (s.sled n).lostSince.or (some s.tbase) }
    | none => s
  match c.purpose with
  | .config 1 => s1.enrolFailed p c.hop 0x100
  | .config _ => s1.commandLost c
  | .hop 4 => s1.seatNew p c.hop
  | _ => s1

/-- A command has passed its limit (R367). -/
def State.commandTimeout (s : State) (p k : Nat) (c : SledCmd) : State :=
  let s0 := s.reserveTag k c
  let s1 := match c.sled with
    | some n => s0.countTimeout n c.underLoss
    | none => s0
  match c.purpose with
  | .emit th id e col interim => ((s1.programFailed e col interim false).asyncDone th id 0x0231).drive
  | .checkpoint a b _ => s1.ckptAcked a b false false
  | .erase a b blk again =>
    let slc := match c.kind with | .erase _ m => m | _ => false
    if c.sled.any (fun n => (s1.sled n).failed) then s1.eraseEnded a b
    else if again then s1.eraseFailed a b (c.sled.getD 0xFFFF) blk slc else s1.reissue p c
  | _ =>
    match c.purpose with
    | .config 1 => s1.enrolFailed p c.hop 0x100
    | _ => if c.again then s1.notAnswering p c else s1.reissue p c

/-- MEMBER_READ_TIMEOUT: a READ has not completed within ARR_MTMO.TIMEOUT: it is served by reconstruction and counted (R198). -/
def execMemberReadTimeout (p tag : Nat) (s : State) : Host.Outcome State Fault Refusal :=
  .next (
    let k := sledKey (p % 32) (tag % 512)
    match s.sledCmds.find k with
    | some c =>
      match c.purpose with
      | .read j col =>
        if c.timedOut.isNone && decide (s.cmdLimit c ≤ (s.tbase - c.issued).toNat) then
          let s1 := (s.reserveTag k c).readEnded c j col
          (match c.sled with
          | some n => s1.countTimeout n c.underLoss
          | none => s1).runReads
        else s
      | _ => s
    | none => s)

/-- COMMAND_TIMEOUT: a command other than a READ passes its limit (R367). -/
def execCommandTimeout (p tag : Nat) (s : State) : Host.Outcome State Fault Refusal :=
  .next (
    let k := sledKey (p % 32) (tag % 512)
    match s.sledCmds.find k with
    | some c =>
      match c.purpose with
      | .read _ _ => s
      | _ =>
        if c.timedOut.isNone && decide (s.cmdLimit c ≤ (s.tbase - c.issued).toNat) then (s.commandTimeout (p % 32) k c).runReads else s
    | none => s)

/-- NOT_READY_RETRY: commands answered NOT_READY go out again 10 ms later (R367). -/
def execNotReadyRetry (p : Nat) (s : State) : Host.Outcome State Fault Refusal :=
  .next (
    let q := p % 32
    if s.bobbinIdle then s
    else
      let due (c : SledCmd) : Bool := c.heldSince.any (fun t => decide (1000000 ≤ (s.tbase - t).toNat))
      (s.setPort q { s.port q with waiting := (s.port q).waiting.map (fun c =>
        if due c then { c with heldSince := none } else c) }).retryWaiting q)

/-- LINK_LOSS_DECLARE: a sled's link has been lost for 200 ms (R196 cause 1, R491). -/
def execLinkLossDeclare (n : Nat) (s : State) : Host.Outcome State Fault Refusal :=
  .next (
    match (s.sled n).lostSince with
    | some t => if 20000000 ≤ (s.tbase - t).toNat then (s.declareFailed n 1).runReads else s
    | none => s)

end Sys2Proof.Machine
end

