-- ==== Sys2Proof/Machine/Bay.lean ====
section
/-! DEFINITION. The Bay bus (R376, R377), staggered power-on (R378), the indicator and PWROFF (R379). -/

namespace Sys2Proof.Machine

/-! ## Inputs (R377) -/

/-- One sample of a filtered input; the second component is an event: a debounced change. -/
def BayInput.sample (x : BayInput) (v : Bool) (now : Word) (need : Nat) : BayInput × Bool :=
  let ch := (if v = x.last then x.changes else x.changes ++ [now]).filter (fun t => decide ((now - t).toNat < 100000000))
  let same := if v = x.last then x.same + 1 else 1
  if x.chatter then
    if ch.isEmpty then ({ last := v, same, level := v, changes := ch, chatter := false }, v != x.level)
    else ({ x with last := v, same, changes := ch }, false)
  else if 10 < ch.length then ({ x with last := v, same, changes := ch, chatter := true }, false)
  else if v ≠ x.level ∧ need ≤ same then ({ last := v, same, level := v, changes := ch, chatter := false }, true)
  else ({ x with last := v, same, changes := ch }, false)

/-- Presence has changed (R377, R378): a sled queues for power, or its bay loses power and it is declared failed with cause 4. -/
def State.presenceChanged (s : State) (p h : Nat) (present : Bool) : State :=
  let s1 := ((s.setFlag (F.BP_HOP_STAT_PRESENT p h) present).setFlag (F.BP_HOP_STAT_PRES_EVT p h) true).raiseEvent 10
  if present then
    s1.setF (F.BP_HOP_STAT_STATE p h) (if s1.flag (F.BP_CTL_EN p) && !s1.flag (F.BP_HOP_CTL_PWROFF p h) then 1 else 7)
  else
    let s2 := match s1.sledAt p h with
      | some n => s1.declareFailed n 4
      | none => s1
    let s3 := s2.powerOff p h 0
    s3.setHop p h { s3.hop p h with failedHere := false }

/-- The inputs of one bay (R376, R377): PRESENT# and ATTN#, low when asserted. -/
def State.sampleBay (s : State) (p h word : Nat) : State :=
  let x := s.hop p h
  let pr := x.presence.sample (!bit word (4 * h)) s.tbase 10
  let at_ := x.attention.sample (!bit word (4 * h + 1)) s.tbase 2
  let since := if at_.1.level then x.attnSince.or (some s.tbase) else none
  let stuck := match since with | some t => decide (3000000000 ≤ (s.tbase - t).toNat) | none => false
  let s1 := s.setHop p h { x with presence := pr.1, attention := at_.1, attnSince := since }
  let s2 := (s1.setFlag (F.BP_HOP_STAT_STUCK p h) stuck).setFlag (F.BP_HOP_STAT_CHATTER p h) (pr.1.chatter || at_.1.chatter)
  let s3 := if at_.2 then
      ((s2.setFlag (F.BP_HOP_STAT_ATTN p h) at_.1.level).setFlag (F.BP_HOP_STAT_ATTN_EVT p h) true).raiseEvent 10
    else s2
  if pr.2 then s3.presenceChanged p h pr.1.level else s3

/-- Polls that an expander has missed in a row. -/
def State.missedPolls (s : State) (e : Nat) : Nat := Tbl.get markReset s.bobbin.missed e

/-- One expander of a poll: its input word, or no answer (R376). -/
def State.pollExpander (s : State) (e : Nat) (word : Option Nat) : State :=
  let n := match word with | some _ => 0 | none => min 3 (s.missedPolls e + 1)
  let s1 := { s with bobbin := { s.bobbin with missed := Tbl.set markReset s.bobbin.missed e n } }
  match word with
  | some w =>
    let s2 := (s1.setF F.BAY_STAT_FOUND (putBit (s1.f F.BAY_STAT_FOUND) e true)).setF F.BAY_STAT_NAK
      (putBit (s1.f F.BAY_STAT_NAK) e false)
    if s.portAvail e then [0, 1, 2, 3].foldl (fun s h => s.sampleBay e h w) s2 else s2
  | none =>
    if n = 3 ∧ s.missedPolls e ≠ 3 then
      ((s1.setF F.BAY_STAT_FOUND (putBit (s1.f F.BAY_STAT_FOUND) e false)).setF F.BAY_STAT_NAK
        (putBit (s1.f F.BAY_STAT_NAK) e true)).raiseEvent 10
    else s1

/-- The Bay bus is polled: with power, outside Dormant and Flush. -/
def State.bayRuns (s : State) : Bool := s.hw.powered && !(decide (s.mode.cur = .dormant) || decide (s.mode.cur = .flush))

/-! ## Power (R378, R379) -/

/-- Modes in which sleds are powered (R35). -/
def State.sledPower (s : State) : Bool :=
  s.hw.powered && (match s.mode.cur with
    | .boot => true | .standby => true | .active => true | .maintenance => true | _ => false)

/-- A bay is queued for power (R378). -/
def State.bayQueued (s : State) (p h : Nat) : Bool :=
  s.portAvail p && s.flag (F.BP_CTL_EN p) && s.flag (F.BP_HOP_STAT_PRESENT p h) && !s.flag (F.BP_HOP_CTL_PWROFF p h) &&
    s.f (F.BP_HOP_STAT_STATE p h) == 1 &&
    (List.range h).all (fun k => s.f (F.BP_HOP_STAT_STATE p k) == 4 || s.f (F.BP_HOP_STAT_STATE p k) == 5)

/-- Start-up step 0x07 is over, and after Dormant the renewed power-on and enumeration has ended (R491): enrolled sleds not found count
their link as lost. -/
def State.settleMissing (s : State) : State :=
  let settled := match s.boot.running with | none => true | some (st, _) => decide (7 < st)
  let busy := (List.range 32).any (fun p => (List.range 4).any (fun h =>
    s.bayQueued p h || s.f (F.BP_HOP_STAT_STATE p h) == 2 || s.f (F.BP_HOP_STAT_STATE p h) == 3 || (s.hop p h).offSince.isSome))
  if settled && judgedMode s.mode.cur && !busy then s.countMissing else s

/-- BAY_POLL: every 10 ms each of the 32 expanders is read (R376, R377). -/
def execBayPoll (inputs : List (Option Nat)) (s : State) : Host.Outcome State Fault Refusal :=
  .next (
    if !s.bayRuns || decide ((s.tbase - s.bobbin.lastPoll).toNat < 1000000) then s
    else ((List.range 32).foldl (fun (s : State) e => s.pollExpander e (inputs.getD e none))
      { s with bobbin := { s.bobbin with lastPoll := s.tbase } }).settleMissing)

/-- Sleds in their first 250 ms after PWR_EN (R378). -/
def State.powering (s : State) : Nat :=
  (s.bobbin.hops.filter (fun e => e.2.poweredAt.any (fun t => decide ((s.tbase - t).toNat < 25000000)))).length

/-- PWR_EN rises (R357, R378). -/
def State.powerBay (s : State) (p h : Nat) : State :=
  let s1 := s.setHop p h { s.hop p h with stage := .training, poweredAt := some s.tbase, offSince := none, ident := none,
                                          downSince := none }
  let s2 := (s1.setFlag (F.BP_HOP_STAT_PWR p h) true).setF (F.BP_HOP_STAT_STATE p h) 2
  if h = 0 then s2.setF (F.BP_LINK_STATE p) 1 else s2

/-- BAY_POWER_ON: the first queued bay, by hop then port, is powered once the stagger admits it (R378). -/
def execBayPowerOn (p h : Nat) (s : State) : Host.Outcome State Fault Refusal :=
  .next (
    let q := p % 32
    let k := h % 4
    let first := (List.range 4).all (fun i => (List.range 32).all (fun j =>
      !(decide (i < k) || (i == k && decide (j < q))) || !s.bayQueued j i))
    if s.sledPower && s.bayQueued q k && first && decide (s.powering < s.f F.BAY_CTL_PWR_CONCURRENT) then s.powerBay q k else s)

/-- SLED_TRAIN_TIMEOUT: not trained within 350 ms, the sled is powered off for 1 s the first time, and stays OFF the second (R378). -/
def execSledTrainTimeout (p h : Nat) (s : State) : Host.Outcome State Fault Refusal :=
  .next (
    let q := p % 32
    let k := h % 4
    let x := s.hop q k
    match x.poweredAt with
    | some t =>
      if x.stage = .training ∧ x.ident = none ∧ 35000000 ≤ (s.tbase - t).toNat then
        let s1 := s.powerOff q k 7
        if x.retried then s1.logOpen clsNotice 6 q k
        else s1.setHop q k { s1.hop q k with offSince := some s.tbase }
      else s
    | none => s)

/-- SLED_POWER_RETRY: after the 1 s power-off the bay is powered once more (R378). -/
def execSledPowerRetry (p h : Nat) (s : State) : Host.Outcome State Fault Refusal :=
  .next (
    let q := p % 32
    let k := h % 4
    match (s.hop q k).offSince with
    | some t =>
      if s.sledPower && decide (100000000 ≤ (s.tbase - t).toNat) && s.flag (F.BP_HOP_STAT_PRESENT q k) &&
          !s.flag (F.BP_HOP_CTL_PWROFF q k) && s.flag (F.BP_CTL_EN q) && decide (s.powering < s.f F.BAY_CTL_PWR_CONCURRENT) then
        (s.setHop q k { s.hop q k with retried := true }).powerBay q k
      else s
    | none => s)

/-- Do not remove: enrolled, healthy, named by an ARMED or RETIRING pricking (R379). -/
def State.doNotRemove (s : State) (n : Nat) : Bool :=
  (s.sled n).enrolled && !(s.sled n).failed && (List.range 32).any (fun i =>
    ((s.slot i).state == .armed || (s.slot i).state == .retiring) && (pkMembers (s.slot i).image).contains n)

/-- BP_HOP_STAT.IND (R379). -/
def State.indicator (s : State) (p h : Nat) : Nat :=
  if s.flag (F.BP_HOP_CTL_LOCATE p h) then 2
  else if (s.hop p h).failedHere && s.flag (F.BP_HOP_STAT_PRESENT p h) then 3
  else match s.sledAt p h with
    | some n => (s.doNotRemove n).toNat
    | none => 0

/-- BP_HOP_CTL is written (R379): PWROFF for a sled that shows do-not-remove is refused with SEQERR. -/
def State.writeHopCtl (s : State) (p h off size : Nat) (value : Word) : State :=
  s.gate off size value (fun s =>
    let was := s.flag (F.BP_HOP_CTL_PWROFF p h)
    let s1 := s.storeReg off size value
    let now := s1.flag (F.BP_HOP_CTL_PWROFF p h)
    let keep := match s.sledAt p h with | some n => s.doNotRemove n | none => false
    if !was && now then
      if keep then (s1.setFlag (F.BP_HOP_CTL_PWROFF p h) false).hopRefuse p h value.toNat
      else if s1.flag (F.BP_HOP_STAT_PRESENT p h) then s1.powerOff p h 7 else s1
    else if was && !now && s1.flag (F.BP_HOP_STAT_PRESENT p h) && s1.flag (F.BP_CTL_EN p) then
      s1.setF (F.BP_HOP_STAT_STATE p h) 1
    else s1)

/-- PWROFF: BP_HOP_CTL is written (R379). -/
def execPwroff (p h size : Nat) (value : Word) (s : State) : Host.Outcome State Fault Refusal :=
  .next (s.writeHopCtl (p % 32) (h % 4) (R.BP_HOP_CTL (p % 32) (h % 4)) size value)

/-- Entry into Dormant (R378), and into Witness, which takes no sleds (R35): every sled is told to QUIESCE and loses power. No link loss is counted
until the sleds have been enumerated again (R491). -/
def State.sledsOff (s : State) : State :=
  let s1 := s.liveHops.foldl (fun s k => s.sendHop k.1 k.2 (.power 3) .none) s
  let s2 := (List.range 32).foldl (fun s p => if s.portAvail p then s.portOff p 7 else s) s1
  { s2 with sleds := s2.sleds.map (fun (e : Nat × Sled) => (e.1, { e.2 with lostSince := none })) }

/-- Without power no command is answered any more: what waits for an answer is told so, and no tag is outstanding (R252, R378). -/
def State.sledsGone (s : State) : State :=
  let out := s.sledCmds.filter (fun e => e.2.timedOut.isNone)
  let kept := s.ports.flatMap (fun (e : Nat × Port) => e.2.waiting)
  let quiet (s : State) : State := { s with
    sledCmds := [], ports := s.ports.map (fun (e : Nat × Port) => (e.1, { e.2 with waiting := [] })) }
  quiet ((out.map (fun e => e.2) ++ kept).foldl (fun (s : State) c => s.commandLost c) (quiet s))

/-- The stagger starts: every present bay that is not held off queues (R378). -/
def State.queueBays (s : State) : State :=
  (List.range 32).foldl (fun s p => [0, 1, 2, 3].foldl (fun s h =>
    if s.flag (F.BP_HOP_STAT_PRESENT p h) && !s.flag (F.BP_HOP_STAT_PWR p h) && !s.flag (F.BP_HOP_CTL_PWROFF p h) &&
        s.flag (F.BP_CTL_EN p) then s.setF (F.BP_HOP_STAT_STATE p h) 1 else s) s) s

end Sys2Proof.Machine
end

