-- ==== Sys2Proof/Machine/Boot.lean ====
section
/-! DEFINITION. Conventional resets (R351, R456, R486) and Boot: its steps and ledger (R412 to R415), measurement (R417), the
restore of the hoop (R83, R109), DEV_CAP1 (R5, R6), and the map load (R124, R130). -/

namespace Sys2Proof.Machine

/-! ## Conventional reset (R351, R456) -/

/-- Registers whose content outlives a conventional reset: the arrays' own, restored with the device state (R434); the bitmap
ranges and copy sleds of the arrays; PWR_LOG (log entry 25). FED_SPAN of an array that exists stays too (R410). -/
def resetKeeps (off : Nat) : Bool :=
  (arrayOf off).isSome || decide (R.DRB_ARR 0 ≤ off ∧ off < R.DRB_ARR 16) || off == R.CLOG_REPL || off == R.PWR_LOG

/-- BAR0 after a conventional reset. -/
def State.coldRegs (s : State) : State :=
  { s with bar0 := s.bar0.filter (fun e => resetKeeps e.1 || (List.range 16).any (fun a => e.1 == R.FED_SPAN a && s.arrExists a)) }

/-- LOADED and BOUND slots become EMPTY; ARMED and RETIRING ones stay (R64, R72). -/
def State.coldSlots (s : State) : State :=
  { s with prk := { s.prk with
    slots := s.prk.slots.filter (fun e => decide (e.2.state = .armed) || decide (e.2.state = .retiring)), run := none, markerWaits := []
    switching := [], unread := [] } }

/-- An empty Map Cache. DESIGN CHOICE: R168 leaves its lines undefined after a conventional reset; the model holds every line invalid
(log entry 73). -/
def mapCacheReset : MapCache := { lines := [], plru := [], waits := [], run := none, preSince := 0, ecc := [] }

/-- Pairing after a conventional reset: claim, vault identity and last holder stay; an unpaired device takes the next claim
(R381, R382). -/
def PairState.cold (p : PairState) (paired : Bool) : PairState :=
  { gap := false, gapStart := 0, mirroring := false, claim := if paired then p.claim else nextClaim p.claim, live := false,
    intakeClosed := false, mirSeq := 0, confSeq := 0, rxSeq := 0, resends := 0, staged := [], peerSerial := none,
    storedId := p.storedId, mismatch := false, pairNo := 0xFF, msgSeq := p.msgSeq, lease := none, reqSent := [],
    renewSent := none, lastWit := 0, riding := false, lastRenew := none, lastFrame := 0, peerReport := none, leaseLost := none,
    handover := none, lostPending := false, lastHolder := p.lastHolder, failbackAsked := none, standing := 0, rerunFailed := 0,
    failTimes := p.failTimes, lastReport := 0, ceTimes := p.ceTimes, ueTimes := p.ueTimes, pairs := p.pairs }

/-- The power state after a conventional reset: the first test of the boot is due; nothing is computed yet (R429, R430). -/
def PowerState.cold (p : PowerState) : PowerState :=
  { p with waiting := none, tested := false, testPending := true, firstRecomp := true, vchg := 480, lowering := false, flush := none,
           resetWaits := false, mapLoaded := false, loading := none, peerBank := none }

/-- What the registers show at once after a conventional reset: boot number, logs, bank voltage, preferred image, hoop size
and a STALE mark. -/
def State.coldShow (s old : State) : State :=
  let s1 := (((s.setF F.DEV_BOOT_STAT_BOOTNO s.boot.bootNo).setFlag F.DEV_FW_PREF s.boot.pref).setF F.HOOP_SIZE_SIZE_GIB
    s.boot.hoopGib).setF F.HU_STAT_VBANK_DV (old.f F.HU_STAT_VBANK_DV)
  let s2 := ((s1.setReg R.ELOG_STAT (old.reg R.ELOG_STAT)).setFlag F.ELOG_STAT_EVT false).setReg R.ELOG_AON (old.reg R.ELOG_AON)
  let s3 := s2.setReg R.HLTH_DMP_VADDR (old.reg R.HLTH_DMP_VADDR)
  (s3.setFlag F.PAIR_STAT_STALE (old.flag F.PAIR_STAT_STALE)).setF F.DEV_BOOT_STAT_ALTS
    ((List.range 9).map (fun k => if Tbl.get markReset s.boot.alts k = 0 then 0 else 2 ^ k)).sum

/-- A boot step starts: a ledger record and LASTSTEP (R413, R414). -/
def State.startStep (s : State) (st : Nat) : State :=
  ({ s with boot := { s.boot with running := some (st, s.tbase) } }.setF F.DEV_BOOT_STAT_LASTSTEP st).ledger st 1 0xFF

/-- A conventional reset (R351, R456): Boot begins with step 0x00. -/
def State.convReset (s : State) (cause : Nat) (pins : Straps) : State :=
  let keep := s.power.dramKept
  let s1 := { s with
    hw := { s.hw with pins, straps := pins, perst0 := false, powered := true, wake := false }
    mode := { cur := .boot, busy := false, tgt := .boot, reqErr := false, cause, draining := false, prev := s.mode.cur }
    corrected := [], ep0 := { s.ep0.reset false with aerStatus := [] }, ep1 := { s.ep1.reset false with aerStatus := [] }
    subRings := [], cplRings := [], threads := [], skeins := [], skeinUsed := [], pmem := [], master := [], extents := []
    maskCleared := [], faults := [], workFaults := [], mc := mapCacheReset, hostTags := [], ats := [], invals := [], sht := []
    sledCmds := [], ports := [], bobbin := { hops := [], missed := [], lastPoll := s.tbase, lastSetTime := s.tbase, lastRate := s.tbase }, readJobs := [], devReads := [], recorder := [], doe := [], eids := [], tbaseLatch := 0, fetchLast := 1023
    map := if keep then s.map else [], dram := if keep then s.dram else [], poison := if keep then s.poison else []
    thermal := { sensors := [], lastStep := s.tbase }
    health := { s.health with newest := [], readable := [], formedAt := s.tbase, savedAt := s.tbase }
    sleds := s.sleds.map (fun (e : Nat × Sled) => (e.1, { e.2 with reachable := false, lostSince := none, timeouts := [], notReady := none, notReadySince := none })) }
  let paired := s1.hw.variant.pair && pins.pairEn
  let f := { s.fed with released := none, electing := false, peers := [], queue := [], waits := [], reports := [], seen := 0 }
  let b := { s1.boot with
             bootNo := s.boot.bootNo + 1, running := none, retry := s.flag F.DEV_BOOT_CTL_RETRY, slots := [], mlog := []
             fwRun := none }
  let s2 := { s1 with boot := b, fed := f, pair := s.pair.cold paired, power := s.power.cold
                      dump := { s.dump with imageRunning := false, inDram := if keep then s.dump.inDram else none } }
  let s3 := (s2.coldRegs.coldSlots).coldShow s
  if s3.hw.ctlReset then s3 else s3.startStep 0

/-- Power is applied (R351, R486): `aonLost` where the always-on supply was lost, so that TBASE and the always-on log start anew;
`held` where PFAIL# is asserted or VIN below 4.5 V. Health counters come from the vault's health record (R456). -/
def execPowerOn (pins : Straps) (aonLost held : Bool) (s : State) : Host.Outcome State Fault Refusal :=
  .next (
    if s.hw.powered then s
    else
      let s1 := { s with
        tbase := if aonLost then 0 else s.tbase
        aon := if aonLost then { recs := [], pend := 0, ovf := false } else s.aon
        power := { s.power with dramKept := false }
        health := { s.health with
          dramCe := s.health.savedCe, dramUe := s.health.savedUe, caseBins := s.health.savedBins, sleds := s.health.savedSleds } }
      let s2 := if aonLost then (s1.setF F.ELOG_AON_PEND 0).setFlag F.ELOG_AON_OVF false else s1
      { s2 with hw := { s2.hw with ctlReset := held, aonUp := true } }.convReset 0 pins)

/-- The always-on island releases the control island: step 0x00 starts (R486). -/
def execControlIslandResetRelease (s : State) : Host.Outcome State Fault Refusal :=
  .next (if s.hw.ctlReset && s.hw.powered then { s with hw := { s.hw with ctlReset := false } }.startStep 0 else s)

/-- The D3cold case of R348: Dormant with the link in L2. -/
def State.d3cold (s : State) : Bool := decide (s.mode.cur = .dormant) && (s.ep0.l2Ready || decide (s.ep0.dstate = .d3cold))

/-- PERST0# is asserted for at least 1 µs (R486): fetch stops and call threads end without completions. -/
def execPerstAssert (s : State) : Host.Outcome State Fault Refusal :=
  .next (
    let s1 := { s with hw := { s.hw with perst0 := true } }
    if s.d3cold then s1.setEp 0 { s1.ep 0 with dstate := .d3cold }
    else if s.power.flush.isSome || !s.hw.powered then s1
    else ((((s1.endCalls 0).endCalls 1).silenceThreads 0).silenceThreads 1))

/-- PERST0# is deasserted (R83, R348, R351, R486): a conventional reset, a hot reset of the endpoint in the D3cold case, nothing
during a Flush; it waits for the vault write of the entry into Halted. -/
def execPerstDeassert (pins : Straps) (s : State) : Host.Outcome State Fault Refusal :=
  .next (
    if !s.hw.perst0 then s
    else
      let s1 := { s with hw := { s.hw with perst0 := false, pins } }
      if s.power.flush.isSome then s1
      else if s.d3cold then ({ s1 with hw := { s1.hw with wake := false } } : State).resetEndpoint 0 false
      else if s.mode.cur = .halted ∧ s.dump.imageRunning then { s1 with power := { s1.power with resetWaits := true } }
      else s1.convReset 0 pins)

/-- The internal reset after a Flush, once power has been present for 100 ms (R38, R435). -/
def execInternalReset (s : State) : Host.Outcome State Fault Refusal :=
  .next (
    match s.power.flush with
    | some f => if f.ended && s.hw.powered then s.convReset 0x0B s.hw.pins else s
    | none => s)

/-! ## Measurement (R417) -/

/-- A slot never extended. -/
def measReset (_ : Nat) : BitVec 384 := 0

/-- The 48 bytes of a digest. -/
def digestBytes (d : BitVec 384) : List Byte := leBytes 48 d.toNat

/-- Extend a measurement slot and append to the measurement log (R417). The kind code is firmware's: a free value (log entry
2). -/
def State.measure (s : State) (slot pattern : Nat) (digest : BitVec 384) (version : Word) : State :=
  let old := Tbl.get measReset s.boot.slots slot
  let e : MeasEntry := { slot, kind := s.freshVal.toNat % 65536, digest, pattern, version, tbase := s.tbase }
  let b := { s.boot with
             slots := Tbl.set measReset s.boot.slots slot (Config.sha384 (digestBytes old ++ digestBytes digest))
             mlog := s.boot.mlog ++ [e] }
  let s1 := { s with boot := b }
  ((s1.setF F.DEV_MEAS_STAT_ENTRIES s1.boot.mlog.length).setFlag F.DEV_MEAS_STAT_FULL (decide (960 ≤ s1.boot.mlog.length))).bumpFree

/-- The slots that a step extends, in order (R417). -/
def stepSlots (st : Nat) : List Nat :=
  match st with
  | 0 => [0, 4, 5] | 1 => [1] | 2 => [4] | 3 => [2, 3] | _ => []

/-- Measure the items of a step. -/
def State.measureStep (s : State) (st : Nat) (digests : List (BitVec 384)) : State :=
  (List.zip (stepSlots st) digests).foldl (fun s e => s.measure e.1 0 e.2 0) s

/-! ## The ledger of the previous boot (R415) -/

/-- Records of a boot and step, in the order written. -/
def State.ledgerOf (s : State) (bootNo step : Nat) : List LedgerRec :=
  ((List.range 4096).filterMap (fun k => Tbl.get noLedger s.boot.ledger ((s.boot.ledgerNext + k) % 4096))).filter
    (fun r => r.bootNo == bootNo && r.step == step)

/-- A step of a boot failed: a start without an end or power-lost record, or an end with EVENT 3 (R415); with the unit named. -/
def State.stepFailed (s : State) (bootNo step : Nat) : Option Nat :=
  let l := s.ledgerOf bootNo step
  match l.find? (fun r => r.event == 3) with
  | some r => some r.unit
  | none => if l.any (fun r => r.event == 1) && !l.any (fun r => r.event == 2 || r.event == 6) then some 0xFF else none

/-- An alternative of a step is taken into use. -/
def State.setAlt (s : State) (st n : Nat) : State := { s with boot := { s.boot with alts := Tbl.set markReset s.boot.alts st n } }

/-- The clusters, Bride ports and Bobbin ports that are built and not omitted (R5, R415). -/
def State.bootMask (s : State) : Nat × Nat × Nat :=
  let w (n omitted : Nat) : Nat := (2 ^ n - 1) &&& ((2 ^ 32 - 1) ^^^ (omitted % 2 ^ 32))
  (w s.hw.variant.ports s.boot.omitChains, w s.hw.variant.clusters s.boot.omitClusters, w s.hw.variant.brides s.boot.omitBrides)

/-- The next alternative for a failed step, none when it is exhausted (R413, R415). -/
def State.nextAlt (s : State) (st unit : Nat) : Option State :=
  let n := Tbl.get markReset s.boot.alts st
  let bump := s.setAlt st (n + 1)
  let b := bump.boot
  match st with
  | 1 => if n = 0 then some ((s.setAlt 1 1).setAlt 3 1) else none
  | 2 => if n < 2 then some bump else none
  | 3 => if n = 0 then some ((s.setAlt 1 1).setAlt 3 1) else none
  | 4 => if n < 2 then some bump else none
  | 5 => if unit < 8 ∧ 1 < popcount s.bootMask.2.1 8 then
      some { bump with boot := { b with omitClusters := putBit b.omitClusters unit true } } else none
  | 6 => if unit < 4 then some { bump with boot := { b with omitBrides := putBit b.omitBrides unit true } } else none
  | 7 => if unit < 32 then some { bump with boot := { b with omitChains := putBit b.omitChains unit true } } else none
  | 8 => if n = 0 then some bump else none
  | _ => none

/-- Every step on its primary way again, nothing omitted (R415). -/
def State.clearAlts (s : State) : State :=
  { s with boot := { s.boot with alts := [], omitClusters := 0, omitBrides := 0, omitChains := 0 } }

/-- Step 0x00 reads the ledger (R415): the second component says that a step is exhausted, and which. -/
def State.chooseAlts (s : State) : State × Option Nat :=
  if s.boot.retry then ({ s.clearAlts with boot := { s.clearAlts.boot with retry := false } }.setFlag F.DEV_BOOT_CTL_RETRY false, none)
  else (List.range 9).foldl (fun (p : State × Option Nat) st =>
    match p.2, p.1.stepFailed (p.1.boot.bootNo - 1) st with
    | none, some unit =>
      match p.1.nextAlt st unit with
      | some t => (t.ledger st 4 unit, none)
      | none => ((p.1.ledger st 5 unit).clearAlts, some st)
    | _, _ => p) (s, none)

/-! ## The restore of the hoop (R83, R109) -/

/-- An empty hoop whose sequence numbers go on (R94; log entry 27). -/
def Hoop.lost (h : Hoop) : Hoop :=
  { h with versions := [], entries := [], gathers := [], jobs := [], bitmap := [], resync := none, bankWaits := [], works := [], held := [],
            copyGather := [], victims := [], reads := [] }

/-- The error log restored with the hoop (R442): ELOG_STAT follows. -/
def State.showElog (s : State) (l : ErrorLog) : State :=
  ((({ s with elog := l } : State).setF F.ELOG_STAT_COUNT (min 4096 l.next)).setF F.ELOG_STAT_NEWSEQ l.next).setFlag F.ELOG_STAT_WRAP
    (decide (4096 < l.next))

/-- The vault image with its hoop, couching table and bitmap, the deltas, the lost tables, and the error log (R83, R434, R442). -/
def State.fromVault (s : State) (im : VaultImage) : State :=
  let t : State := { s.showElog im.elog with hoop := im.hoop, dlog := im.dlog, lost := im.lost }
  { ((t.setF F.HOOP_STAT_SRC 1).setF F.CLOG_STAT_SRC 1) with power := { s.power with waiting := some t.dirtyBlocks } }

/-- The hoop that DRAM has kept: the restored delta log is replayed into the DRAM map before it is used (R83, R124, R170). -/
def State.fromDram (s : State) : State :=
  { ((s.setF F.HOOP_STAT_SRC 2).setF F.CLOG_STAT_SRC 1) with
    map := s.dlog.replay s.map, power := { s.power with image := none, mapLoaded := true } }

/-- Bands whose ERASING delta has been lost are CLOSED, as before it (R150, R151). -/
def State.undoErasing (s : State) (gone : List Delta) : State :=
  gone.foldl (fun (s : State) d =>
    if d.kind = 2 ∧ d.value.toNat % 256 = BandState.erasing.code ∧ (s.band d.array d.key).state = .erasing then
      s.setBand d.array d.key { s.band d.array d.key with state := .closed, erased := [] }
    else s) s

/-- No source of the hoop passes (R83): the deltas that the copy sleds have are kept (R109, R129), and the error log starts empty, with
SRC 3 its first record the loss (R442; log entry 78). DESIGN CHOICE: both SRC fields read 0, empty, while no array exists on the device, 3 otherwise:
R83 names 3 for a device that finds no source, and the registers give 0 the meaning empty (log entry 78). -/
def State.noHoop (s : State) : State :=
  let kept (x : Delta) : Bool := decide (x.pos < s.hoop.repl.deltaSent)
  let t : State := { s with
    hoop := s.hoop.lost, dlog := { s.dlog with deltas := s.dlog.deltas.filter kept }, power := { s.power with image := none } }
  let t := (t.undoErasing (s.dlog.deltas.filter (fun x => !kept x))).showElog { slots := [], next := 0 }
  if s.anyArray then
    (t.notice 5 0xFFFF 7 0 0).setF F.HOOP_STAT_SRC 3 |>.setF F.CLOG_STAT_SRC 3
  else t

/-- Step 0x04: the vault image, the DRAM hoop, or nothing, the first that passes its CRC checks (R83, R413, R415). -/
def State.restoreHoop (s : State) (x : BootEnd) : State :=
  let alt := Tbl.get markReset s.boot.alts 4
  let s1 := match s.power.image with
    | some im =>
      if alt = 0 ∧ x.imageOk then s.fromVault im
      else if s.power.dramKept && decide (alt < 2) && x.dramOk then s.fromDram else s.noHoop
    | none => if s.power.dramKept && decide (alt < 2) && x.dramOk then s.fromDram else s.noHoop
  ({ s1 with power := { s1.power with dramKept := true } }.regatherLoose.restartEpoch.syncHoop).resyncDue

/-- Step 0x04 restores the prickings (R62, R495; log entry 78): a slot that a marker of the vault retires is EMPTY; one whose copy in
the vault fails its CRC waits for a sled's copy. -/
def State.restoreSlots (s : State) (bad : List Nat) : State :=
  let live := s.prk.slots.filter (fun e => !s.prk.markers.any (fun m => m.retires e.2.image))
  { s with prk := { s.prk with
    slots := live.filter (fun e => !bad.contains e.1), unread := live.filter (fun e => bad.contains e.1) } }

/-- Step 0x07 has read the sleds' configuration records: markers found there are kept, and the prickings that still wait are restored
from any copy whose CRC is valid, unless a valid marker retires it (R62, R495). -/
def State.restoreCopies (s : State) (records : List (Nat × Nat × List Byte)) : State :=
  let marks := (records.filter (fun r => decide (33 ≤ r.2.1 ∧ r.2.1 < 49))).filterMap (fun r => markerOf r.2.2)
  let copy (e : Nat × Slot) : Option (Nat × Slot) :=
    (records.find? (fun r => r.2.1 == 1 + e.1 && pkCrc r.2.2 == crc32c (r.2.2.take 0x1FC) && r.2.2.length == 512)).bind (fun r =>
      if (marks ++ s.prk.markers).any (fun m => m.retires r.2.2) then none else some (e.1, { e.2 with image := r.2.2 }))
  { s with prk := { s.prk with slots := (s.prk.unread.filterMap copy).foldl (fun t e => Tbl.set slotReset t e.1 e.2) s.prk.slots
                               unread := [] } }

/-- Recovery from the copy sleds (R109): their couching entries, every band of the newest open-band record marked, closed for writing
and to be checked, and the loss recorded with the TBASE of the newest record used. -/
def State.recoverCopies (s : State) (x : BootEnd) : State :=
  let s1 := x.entries.foldl (fun s e => s.setCentry e.1 e.2) s
  let s2 := x.openBands.foldl (fun s b => (s.closeBand b.1 b.2 true false).setRegion (s.regionOf b.1 b.2) true) s1
  let s3 : State := { s2 with hoop := { s2.hoop with lossTbase := some x.newest, checks := x.openBands } }
  (((s3.healthEvent 0x01 true 5 0xFFFF (some (x.newest.setWidth 256))).raiseEvent 3).syncHoop).resyncDue

/-! ## The end of Boot -/

/-- The Pattern Book's indexes (R277 to R287). -/
def bookPatterns : List Nat := (List.range 48).filter (fun p => (bookMask p).isSome)

/-- A Pattern Table entry of the Pattern Book (R271, R272): ORIGIN 0, VALID. BASE, LENGTH and BUDGET are the model's (log entry
26). -/
def bookEntry : Word := BitVec.ofNat 64 (2 ^ 63 + 2 ^ 48 * 4095)

/-- Step 0x05: the Pattern Book is loaded into every cluster, then the master copy written (R272). -/
def State.loadBook (s : State) : State :=
  let cs := setBits s.bootMask.2.1 8
  let s1 := cs.foldl (fun s c => bookPatterns.foldl (fun s p => s.setReg (R.SE_PTAB c p) bookEntry) s) s
  { s1 with master := bookPatterns.foldl (fun t p => Tbl.set wordZero t p bookEntry) s1.master }

/-- Boot ends (R6, R38): DEV_CAP1 is written, and the device enters Standby or Witness; a paired unit says HELLO once its link
trains, and knows no holder until it is answered (R398; log entry 93). Doorbells recorded in Boot are checked. -/
def State.leaveBoot (s : State) : State :=
  let m := s.bootMask
  let s1 := ((s.setF F.DEV_CAP1_BP_AVAIL m.1).setF F.DEV_CAP1_CL_AVAIL m.2.1).setF F.DEV_CAP1_BR_AVAIL m.2.2
  let wit := s1.hw.straps.witness
  let s1 := if wit then s1.sledsOff else s1
  let s2 := { s1 with mode := { s1.mode with cause := if wit then 0x0A else 1 } }.enterMode (if wit then .witness else .standby)
  let s3 := if s2.paired && !wit then s2.pairStat (fun s => s.setF F.PAIR_STAT_ROLE 5) else s2
  s3.replayDoorbells

/-- What a passed step does (R413). -/
def State.stepDone (s : State) (st : Nat) (x : BootEnd) : State :=
  match st with
  | 0 =>
    let s1 := (s.setF F.PWR_PF_VBOOT_MV x.vboot).setF F.PWR_PF_TRIP_MV (max (s.f F.PWR_PF_THRESH_PM * x.vboot / 1000) 4200)
    s1.setFlag F.HU_STAT_CHARGING (decide (s1.f F.HU_STAT_VBANK_DV < s1.f F.HU_CTL_VCHG_DV))
  | 1 => s.setFlag F.DEV_BOOT_STAT_IMAGE (s.boot.pref != (Tbl.get markReset s.boot.alts 1 == 1))
  | 4 => ((((s.setF F.PAIR_CLAIM_CLAIM s.pair.claim).restoreSlots x.badSlots).restoreHoop x).moveDump)
  | 5 => s.loadBook.leaveBoot
  | 7 => (s.restoreCopies x.records).countMissing
  | 8 => if s.f F.CLOG_STAT_SRC = 3 ∧ s.hoop.lossTbase.isNone then s.recoverCopies x else s
  | _ => s

/-- A step that starts: step 0x08 begins the map load of a unit that holds its claim (R130, R413). -/
def State.nextStep (s : State) (st : Nat) : State :=
  let s1 := s.startStep st
  if st = 8 ∧ s.holdsClaim then s1.beginLoad.runReads else s1

/-- The fatal end of a boot or start-up step (R413, R451). -/
def State.bootHalt (s : State) (kind cause st : Nat) : State :=
  { s with boot := { s.boot with running := none } }.halt cause kind 0 false 0 0 st 0

/-- The Bride training step has ended, passed or not: FED_SYNC is released (R405). -/
def State.releaseSync (s : State) (st : Nat) : State :=
  if st = 6 ∧ s.fed.released.isNone then { s with fed := { s.fed with released := some s.tbase } } else s

/-- A boot or start-up step ends (R413 to R417), its measurements made also where it failed; step 0x08 not before every segment has been read. Step 0x00 chooses the alternatives; an exhausted one ends in Halted with CAUSE
0x09. In Witness no start-up step runs. -/
def execBootStepEnd (x : BootEnd) (s : State) : Host.Outcome State Fault Refusal :=
  .next (
    match s.boot.running with
    | none => s
    | some (st, _) =>
      if s.mode.cur = .halted ∨ s.mode.cur = .flush ∨ !s.hw.powered then s
      else if !x.pass then (((s.measureStep st x.digests).ledger st 3 x.unit).releaseSync st).bootHalt 4 7 st
      else if st = 8 ∧ s.power.loading.isSome then s
      else
        let s1 := ((s.measureStep st x.digests).ledger st 2 0xFF).releaseSync st
        let p := if st = 0 then s1.chooseAlts else (s1, none)
        match p.2 with
        | some bad => p.1.bootHalt 5 9 bad
        | none =>
          let s2 := { (p.1.stepDone st x) with boot := { (p.1.stepDone st x).boot with running := none } }
          let s3 := s2.setF F.DEV_BOOT_STAT_ALTS
            ((List.range 9).map (fun k => if Tbl.get markReset s2.boot.alts k = 0 then 0 else 2 ^ k)).sum
          if st = 8 ∨ s3.mode.cur = .witness then s3 else s3.nextStep (st + 1))

/-- Time limits of the steps (R413). -/
def stepLimit (st : Nat) : Nat :=
  match st with
  | 0 => 2000000 | 1 => 5000000 | 2 => 60000000 | 3 => 30000000 | 4 => 50000000 | 5 => 20000000
  | 6 => 30000000 | 7 => 300000000 | _ => 1000000000

/-- A boot or start-up step exceeds its limit (R413): Halted with CAUSE 0x07. Where the hang names a unit, the ledger records it
with EVENT 3 (R415); 0xFF names none. -/
def execBootStepTimeout (unit : Nat) (s : State) : Host.Outcome State Fault Refusal :=
  .next (
    match s.boot.running with
    | none => s
    | some (st, t) =>
      if (s.tbase - t).toNat ≤ stepLimit st ∨ s.mode.cur = .halted ∨ s.mode.cur = .flush ∨ !s.hw.powered then s
      else ((if unit = 0xFF then s else s.ledger st 3 unit).releaseSync st).bootHalt 4 7 st)

/-- Every array's map is loaded and its deltas replayed: Standby to Active completes (R38); a load not yet begun begins. -/
def execMapLoadComplete (s : State) : Host.Outcome State Fault Refusal :=
  .next (
    if s.mode.busy && decide (s.mode.tgt = .active) && !s.pair.gap && decide (s.mode.cur ≠ .halted ∧ s.mode.cur ≠ .flush) &&
        !s.mode.draining then
      let t := s.beginLoad.runReads
      if t.power.mapLoaded then t.enterMode .active else t
    else s)

end Sys2Proof.Machine
end

