-- ==== Sys2Proof/Machine/Firmware.lean ====
section
/-! DEFINITION. Replacing a firmware image through DEV_FW (R416, R418). -/

namespace Sys2Proof.Machine

/-- A refused command of DEV_FW: ERR and a notice (R416, R462, R494). -/
def State.fwRefuse (s : State) (off : Nat) (value : Word) : State := (s.setFlag F.DEV_FW_ERR true).regNotice 3 off value

/-- The DRAM range of an image lies within the buffer area, and its length in 4 KiB units is one that an image may have (R416). -/
def State.fwRange (s : State) (addr len : Nat) : Bool :=
  decide (s.bufBase ≤ addr * 4096) && decide ((addr + len) * 4096 ≤ s.bufBase + 2 ^ 32) && decide (len ≤ 7168)

/-- A command of DEV_FW (R416): WRITE in Maintenance, to the image that is not running; SELECT of the image last written. OP 3 is
reserved and refused (log entry 48). -/
def State.fwCommand (s : State) (v off : Nat) (value : Word) : State :=
  let addr := bits v 24 28
  let len := bits v 5 13
  match bits v 0 2 with
  | 0 => s
  | 1 =>
    if s.flag F.DEV_POLICY_FW_WRITE_DIS || decide (s.mode.cur ≠ .maintenance) || s.flag F.DEV_FW_BUSY || !s.fwRange addr len then
      s.fwRefuse off value
    else { s with boot := { s.boot with fwRun := some (addr, len), written := none } }.setFlag F.DEV_FW_BUSY true
  | 2 =>
    match s.boot.written with
    | some b =>
      if s.flag F.DEV_FW_BUSY then s.fwRefuse off value
      else { s with boot := { s.boot with pref := b } }.setFlag F.DEV_FW_PREF b
    | none => s.fwRefuse off value
  | _ => s.fwRefuse off value

/-- DEV_FW is written (R12, R416): ERR clears where 1 is written to it. -/
def State.writeFw (s : State) (off size : Nat) (value : Word) : State :=
  s.command off size value false (fun v s =>
    (if bit v 4 then s.setFlag F.DEV_FW_ERR false else s).fwCommand v off value)

/-- DEV_FW is written with OP = 1 (R416). -/
def execFwWrite (size : Nat) (value : Word) (s : State) : Host.Outcome State Fault Refusal :=
  .next (s.writeFw R.DEV_FW size (BitVec.ofNat 64 (putBits value.toNat 0 2 1)))

/-- DEV_FW is written with OP = 2 (R416). -/
def execFwSelect (size : Nat) (value : Word) (s : State) : Host.Outcome State Fault Refusal :=
  .next (s.writeFw R.DEV_FW size (BitVec.ofNat 64 (putBits value.toNat 0 2 2)))

/-- The image is written (R416): `ok` where the CRC of its directory entry passes, the only check made (R418). -/
def execFwWriteComplete (ok : Bool) (s : State) : Host.Outcome State Fault Refusal :=
  .next (
    match s.boot.fwRun with
    | none => s
    | some (addr, len) =>
      if s.linkOff || decide (s.mode.cur = .halted) then s
      else
        let s1 := { s with boot := { s.boot with fwRun := none } }.setFlag F.DEV_FW_BUSY false
        if !ok then s1.setFlag F.DEV_FW_ERR true
        else
          let bytes := s.dram.readBytes (addr * 4096) (len * 4096)
          let b := !s.flag F.DEV_BOOT_STAT_IMAGE
          { s1 with boot := if b then { s1.boot with imageB := bytes, written := some b }
                            else { s1.boot with imageA := bytes, written := some b } })

end Sys2Proof.Machine
end

