-- ==== Sys2Proof/Machine/Prickings.lean ====
section
/-! DEFINITION. Pricking commands (R60 to R79, R227): LOAD, BIND, ARM and DROP on one engine, the ARM commit with the start of a
reshape (R138, R222 to R224), and the retirement of a pricking (R232, R233, R495). -/

namespace Sys2Proof.Machine

/-! ## Checks -/

/-- Grains of a logical capacity that this device holds (R113, R410). -/
def State.ownGrains (s : State) (a grains : Nat) : Nat := ceilDiv grains (s.spanCount a)

/-- A capacity in grains of `blk` blocks exceeds 93 % of the data capacity of a pricking (R111, R227). -/
def State.aboveCapacity (s : State) (a grains blk : Nat) (img : List Byte) : Bool :=
  decide (93 * s.cdata img < 100 * (s.ownGrains a grains * blk * 4096))

/-- Checks 3 of BIND: every MEMBER sled enrolled, reachable, healthy, of equal erase block size, its pages dividing the strip (R65). -/
def State.membersOk (s : State) (img : List Byte) : Bool :=
  let e := (s.sled (pkMember img 0)).eraseBytes
  (pkMembers img).all (fun n => (s.sled n).usable && (s.sled n).eraseBytes == e && decide (0 < (s.sled n).cwp) &&
    pkZ img % ((s.sled n).cwp * 4096) == 0)

/-- Checks 2 to 4 of BIND: generation, members, KSTRIPS (R65, R285). -/
def State.memberCheck (s : State) (img : List Byte) : Nat :=
  let a := pkArray img
  if !serialAbove (pkGen img) (s.genMark a) then 0x0315
  else if !s.membersOk img then 0x0314
  else if pkK img * pkZ img != (s.sled (pkMember img 0)).eraseBytes then 0x0311
  else 0

/-- A stripe of the pricking carries a whole number of grains (R112). -/
def wholeGrains (img : List Byte) (blk : Nat) : Bool := pkD img * pkZ img % (blk * 4096) == 0

/-- The BIND checks in their order, with ARM's own (R65, R227): the first that fails. -/
def State.bindCheck (s : State) (img : List Byte) (arm : Bool) : Nat :=
  let a := pkArray img
  if !s.arrExists a || s.f (F.ARR_STATE_STATE a) == 5 || (arm && (s.retiring a).isSome) then 0x0316
  else if s.memberCheck img ≠ 0 then s.memberCheck img
  else if !wholeGrains img (s.gblk a) then 0x0311
  else if s.aboveCapacity a (s.f (F.ARR_GEOM_GRAINS a)) (s.gblk a) img then 0x031E
  else 0

/-! ## The engine (R64 to R68) -/

/-- OP codes of PRK_CMD (R64). -/
def PrkOp.code : PrkOp → Nat
  | .load => 1 | .bind => 2 | .arm => 3 | .drop => 4

/-- A slot state in which a command is allowed (R65). -/
def PrkOp.allowed : PrkOp → SlotState → Bool
  | .load, .empty => true | .bind, .loaded => true | .arm, .bound => true | .drop, .loaded => true | .drop, .bound => true
  | _, _ => false

/-- Replace the run of the engine. -/
def State.setRun (s : State) (r : Option PrkRun) : State := { s with prk := { s.prk with run := r } }

/-- PRK_STAT records a command's or a call's end (R64, R68). -/
def State.prkRecord (s : State) (op slot code : Nat) : State :=
  let s1 := ((s.setF F.PRK_STAT_CODE code).setF F.PRK_STAT_OP op).setF F.PRK_STAT_SLOT slot
  if code = 0 then s1 else s1.setFlag F.PRK_STAT_ERR true

/-- The call that used the engine learns its status and the slot's state. -/
def State.tellCall (s : State) (th : Option Nat) (code result : Nat) : State :=
  match th with
  | some t => if (s.thr t).running then
      s.setThr t { s.thr t with book := { (s.thr t).book with ended := some (code, result) } } else s
  | none => s

/-- A running command or call ends with a code: BUSY clears, and PRK_STAT records it unless a function level reset cleared PRK_STAT
meanwhile (R64, R68, R79). -/
def State.prkEnd (s : State) (r : PrkRun) (code : Nat) : State :=
  let s1 := (s.setRun none).setFlag F.PRK_STAT_BUSY false
  let s2 := if r.silent then s1 else s1.prkRecord r.op.code r.slot code
  s2.tellCall r.th code (if r.create.isSome then (if code = 0 then r.slot else 0) else (s.slot r.slot).state.code)

/-- A command has taken effect: it ends once the standby has applied it, or at once where none is connected (R72). -/
def State.prkDone (s : State) (r : PrkRun) (code : Nat) : State :=
  if s.durableAt s.pair.mirSeq then s.prkEnd r code else s.setRun (some { r with done := some (code, s.pair.mirSeq) })

/-- The configuration writes of a pricking to its members: record 1 + slot (R65, R495). -/
def State.writePricking (s : State) (a slot : Nat) (img : List Byte) : State :=
  (pkMembers img).foldl (fun (s : State) n => s.sendSled n (.log 1 (1 + slot) img) a true (.config 0)) s

/-- The refusal that a command meets before it runs: a paired standby, a slot state not allowed, ARM outside Maintenance (R65, R66,
R72); 0 for none. DESIGN CHOICE: an ARM that meets both of the last two gets 0x0317; R66 and R67 state no order (log entry 79). -/
def State.prkRefusal (s : State) (op : PrkOp) (slot : Nat) : Nat :=
  if !s.holdsClaim then 0x0501
  else if !op.allowed (s.slot slot).state then 0x0317
  else if op = .arm ∧ s.mode.cur ≠ .maintenance then 0x0318
  else 0

/-- A command or call begins on an idle engine (R65, R68). ARM makes its checks and sends its writes. -/
def State.prkBegin (s : State) (op : PrkOp) (slot : Nat) (image : List Byte) (th : Option Nat) : State :=
  let code := s.prkRefusal op slot
  let img := (s.slot slot).image
  let late := if code = 0 ∧ op = .arm then s.bindCheck img true else code
  if late ≠ 0 then
    (s.prkRecord op.code slot late).tellCall th late (s.slot slot).state.code
  else
    let r : PrkRun := { op, slot, image := if op = .load then image else img, th, create := none
                        waits := if op = .arm then pkMembers img else [], failed := false, done := none, silent := false
                        ready := true }
    let s1 := (((s.setRun (some r)).setFlag F.PRK_STAT_BUSY true).setF F.PRK_STAT_OP op.code).setF F.PRK_STAT_SLOT slot
    if op = .arm then s1.writePricking (pkArray img) slot img else s1

/-- A call takes the idle engine while it reads its image and makes its checks: BUSY reads 1 (R68). -/
def State.takeEngine (s : State) (th slot : Nat) (op : PrkOp) : State :=
  let r : PrkRun := { op, slot, image := [], th := some th, create := none, waits := [], failed := false, done := none
                      silent := false, ready := false }
  (((s.setRun (some r)).setFlag F.PRK_STAT_BUSY true).setF F.PRK_STAT_OP op.code).setF F.PRK_STAT_SLOT slot

/-- A call that has taken the engine has its image: the command begins (R65, R68). -/
def State.giveImage (s : State) (op : PrkOp) (slot : Nat) (image : List Byte) (th : Option Nat) : State :=
  ((s.setRun none).setFlag F.PRK_STAT_BUSY false).prkBegin op slot image th

/-- The bytes staged in PRK_STAGE (R64). -/
def State.stageImage (s : State) : List Byte := (List.range 64).flatMap (fun j => leBytes 8 (s.reg (R.PRK_STAGE j)).toNat)

/-- OP of PRK_CMD. -/
def prkOpOf (n : Nat) : Option PrkOp :=
  match n with | 1 => some .load | 2 => some .bind | 3 => some .arm | 4 => some .drop | _ => none

/-- PRK_CMD is written (R64 to R66): refused with a notice while BUSY, recorded with 0x0317 where OP is reserved. -/
def State.writePrkCmd (s : State) (off size : Nat) (value : Word) : State :=
  s.command off size value false (fun v s =>
    let slot := bits v 8 5
    if s.prk.run.isSome then s.regNotice 3 off (BitVec.ofNat 64 v)
    else match prkOpOf (bits v 0 4) with
      | none => s.prkRecord (bits v 0 4) slot (if s.holdsClaim then 0x0317 else 0x0501)
      | some op => s.prkBegin op slot s.stageImage none)

/-- PRK_CMD with OP = `op`. -/
def State.askPrk (s : State) (op size : Nat) (value : Word) : State :=
  s.writePrkCmd R.PRK_CMD size (BitVec.ofNat 64 (putBits value.toNat 0 4 op))

/-- PRK_CMD LOAD (R65). -/
def execPrkCmdLoad (size : Nat) (value : Word) (s : State) : Host.Outcome State Fault Refusal := .next (s.askPrk 1 size value)

/-- PRK_CMD BIND (R65). -/
def execPrkCmdBind (size : Nat) (value : Word) (s : State) : Host.Outcome State Fault Refusal := .next (s.askPrk 2 size value)

/-- PRK_CMD ARM (R65). -/
def execPrkCmdArm (size : Nat) (value : Word) (s : State) : Host.Outcome State Fault Refusal := .next (s.askPrk 3 size value)

/-- PRK_CMD DROP (R65). -/
def execPrkCmdDrop (size : Nat) (value : Word) (s : State) : Host.Outcome State Fault Refusal := .next (s.askPrk 4 size value)

/-- PRK_CMD with a reserved OP: 0 where the value names none (R66). -/
def execPrkCmdReserved (size : Nat) (value : Word) (s : State) : Host.Outcome State Fault Refusal :=
  .next (s.askPrk (if (prkOpOf (bits value.toNat 0 4)).isSome then 0 else bits value.toNat 0 4) size value)

/-- The engine runs: not in Flush or Halted, where a command stops uncommitted (R73, R74). -/
def State.prkRuns (s : State) : Bool := !s.linkOff && decide (s.mode.cur ≠ .halted)

/-- A LOAD, BIND or DROP finishes, or a command whose effect the standby has now applied (R65, R72). -/
def execPrkCommandComplete (s : State) : Host.Outcome State Fault Refusal :=
  .next (
    match s.prk.run with
    | none => s
    | some r =>
      if !s.prkRuns || !r.ready then s
      else match r.done with
        | some (code, seq) => if s.durableAt seq then s.prkEnd r code else s
        | none =>
          match r.op with
          | .load =>
            let code := pkLoadCheck s.hw.variant.net true r.image
            if code = 0 then (s.setSlot r.slot { state := .loaded, image := r.image }).prkDone r 0 else s.prkDone r code
          | .bind =>
            let img := (s.slot r.slot).image
            let code := s.bindCheck img false
            if code = 0 then (s.setSlot r.slot { state := .bound, image := img }).prkDone r 0 else s.prkDone r code
          | .drop => (s.setSlot r.slot (slotReset 0)).prkDone r 0
          | .arm => s)

/-! ## The ARM commit (R65, R138, R222 to R224) -/

/-- Seal every stripe of an array that holds a forced extent (R138). -/
def State.sealAll (s : State) (a : Nat) : State :=
  (s.hoop.gathers.filter (fun g => g.1 / 16 == a)).foldl (fun (s : State) g => s.sealGather a (g.1 / 2 % 8) (g.1 % 2 == 1)) s

/-- Checkpoint segments whose committed copy lies in a band of a generation of an array (R224). -/
def State.segsOfGen (s : State) (a gen : Nat) : List Nat :=
  (s.dlog.merged.filter (fun e => e.1 / 2 ^ 40 == a && (s.band a (pgaBand e.2)).generation == gen)).map (fun e => e.1 % 2 ^ 40)

/-- The OPEN interim parity and map checkpoint bands of a RETIRING generation are closed: they take nothing more (R71, R137, R228). -/
def State.closeOld (s : State) (a gen : Nat) : State :=
  ((s.bandsOf a).filter (fun b => (s.band a b).state == .open_ && !(s.band a b).kind.moves && (s.band a b).generation == gen)).foldl
    (fun (s : State) b => s.closeBand a b true false) s

/-- A reshape begins at the ARM commit (R222 to R224). -/
def State.beginReshape (s : State) (a slot old : Nat) : State :=
  let gen := pkGen (s.slot old).image
  let s0 := (s.sealAll a).closeOld a gen
  let s1 := (s0.syncArray a).startEpoch (s.segsOfGen a gen)
  let s2 := ((s1.setFlag (F.ARR_RS_ACTIVE a) true).setF (F.ARR_RS_ARMED_SLOT a) slot).setF (F.ARR_RS_RET_SLOT a) old
  let s3 := (s2.setF (F.ARR_RS_GEN_OLD_GEN a) gen).setF (F.ARR_RS_GEN_NEW_GEN a) (pkGen (s.slot slot).image)
  let s4 := ((s3.setF (F.ARR_RS_START_START a) (s3.reshapeLeft a)).setF (F.ARR_RS_PROG_LEFT a) (s3.reshapeLeft a)).raiseEvent (16 + a)
  (((s4.syncMembers a).syncReshape a).syncSpace a).mirrorRegs s a

/-- The ARM commit as one change: the slot armed, the slot of the array's previous pricking, the generation mark (R61, R65); it reaches a
standby as one item (R77). -/
def State.putArmed (s : State) (old : Option (Nat × Slot)) (slot : Nat) (x : Slot) (a gen : Nat) : State :=
  let s1 := match old with | some (i, y) => s.putSlot i y | none => s
  let s2 := s1.putSlot slot x
  ({ s2 with prk := { s2.prk with marks := Tbl.set markReset s2.prk.marks a gen } }).mirror (.armed old slot x a gen)

/-- ARM commits a slot: it becomes ARMED, an ARMED pricking of its array becomes RETIRING, and the mark takes its generation (R65). -/
def State.armSlot (s : State) (slot : Nat) (img : List Byte) : State :=
  let a := pkArray img
  match s.slotIn a .armed with
  | some old => (s.putArmed (some (old, { s.slot old with state := .retiring })) slot { state := .armed, image := img } a
      (pkGen img)).beginReshape a slot old
  | none => (s.putArmed none slot { state := .armed, image := img } a (pkGen img)).syncArray a

/-! ### ARRAY_CREATE's part (R104, R132, R285) -/

/-- RB_LOG2 of an erase block size (R104). -/
def rbLog2 (e : Nat) : Nat := 26 - (Nat.log2 (max 1 (2 * e - 1)))

/-- Region bits that an array of LIMIT bands needs (R104). -/
def rbLen (limit rb : Nat) : Nat := ceilDiv limit (2 ^ rb)

/-- The ranges of the bitmap in use, as base and length (R104). -/
def State.bitmapRanges (s : State) : List (Nat × Nat) :=
  ((List.range 16).filter s.arrExists).map (fun a => (s.f (F.DRB_ARR_BASE a), s.f (F.DRB_ARR_LEN a)))

/-- The lowest bit at which a free run of `n` bits begins, below 16,777,216 (R104, R105): a run begins at 0 or where a range ends. -/
def State.bitmapFree (s : State) (n : Nat) : Option Nat :=
  let ranges := s.bitmapRanges
  let fits (b : Nat) : Bool := decide (b + n ≤ 16777216) && ranges.all (fun r => decide (b + n ≤ r.1) || decide (r.1 + r.2 ≤ b))
  let cands := (0 :: ranges.map (fun r => r.1 + r.2)).filter fits
  cands.foldl (fun m b => match m with | none => some b | some x => some (min x b)) none

/-- Bytes of a band record of a pricking of `n` members (R119). -/
def bandRecordBytes (n : Nat) : Nat := ceilDiv (32 + 4 * n) 64 * 64

/-- DRAM that the arrays, the sleds, the hoop and the fixed parts need, with a hoop of `hoop` GiB and `more` bytes besides (R132). -/
def State.dramNeed (s : State) (hoop more : Nat) : Nat :=
  let arrs := (List.range 16).filter s.arrExists
  (arrs.map (fun a => 8 * s.ownGrains a (s.f (F.ARR_GEOM_GRAINS a)) +
      s.f (F.ARR_BAND_LIMIT a) * bandRecordBytes (((s.armed a).map pkN).getD 0))).sum +
    (s.sleds.map (fun e => if e.2.enrolled then 4 * e.2.blocks else 0)).sum +
    hoop * 2 ^ 30 * (if s.paired then 2 else 1) + 536870912 + 523776 + 8 * 2 ^ 30 + more

/-- The array of a creation exists: its registers, its dirty-region range, what it has beside its registers (R285). The range is
fixed by its first pricking. -/
def State.createArray (s : State) (a grain pifmt pitype grains limit : Nat) (img : List Byte) : State :=
  let rb := rbLog2 (s.sled (pkMember img 0)).eraseBytes
  let n := rbLen limit rb
  let s1 := ((s.setF (F.DRB_ARR_BASE a) ((s.bitmapFree n).getD 0)).setF (F.DRB_ARR_LEN a) n).setF (F.DRB_ARR_RB_LOG2 a) rb
  let s2 := (((s1.setF (F.ARR_GEOM_GRAIN a) grain).setF (F.ARR_GEOM_GRAINS a) grains).setF (F.ARR_BAND_LIMIT a) limit).setFlag
    (F.ARR_STATE_EXISTS a) true
  s2.setArr a { arrayReset a with pifmt, pitype }

/-- The ARM of an ARM command, or of ARRAY_CREATE, commits once every member has taken its copy (R65, R76, R285); a member that is
lost first ends it with 0x0314. -/
def execArmCommit (s : State) : Host.Outcome State Fault Refusal :=
  .next (
    match s.prk.run with
    | none => s
    | some r =>
      if !s.prkRuns || decide (r.op ≠ .arm) || r.done.isSome || !r.ready then s
      else if !s.holdsClaim then s.prkEnd r 0x0501
      else if r.failed || (pkMembers r.image).any (fun n => !(s.sled n).usable) then s.prkDone r 0x0314
      else if r.waits ≠ [] then s
      else match r.create with
        | none => (s.armSlot r.slot r.image).drive.prkDone r 0
        | some (a, grain, pifmt, pitype, grains, limit) =>
          let s1 := (s.createArray a grain pifmt pitype grains limit r.image).armSlot r.slot r.image
          (((s1.syncMembers a).chooseCopies).mirrorRegs s a).prkDone r 0)

/-! ## Retirement (R232, R233, R495) -/

/-- The sleds named by the ARMED and RETIRING prickings of every array but those of slot `r`. -/
def State.namedElsewhere (s : State) (r : Nat) : List Nat :=
  ((List.range 32).filter (fun i => i != r && (decide ((s.slot i).state = .armed) || decide ((s.slot i).state = .retiring)))).flatMap
    (fun i => pkMembers (s.slot i).image)

/-- The sleds that a retirement releases (R232 step 1). -/
def State.released (s : State) (r : Nat) : List Nat :=
  (pkMembers (s.slot r).image).eraseDups.filter (fun n => !(s.namedElsewhere r).contains n)

/-- Bands and couching entries of a generation of an array remain (R232). -/
def State.genInUse (s : State) (a gen : Nat) : Bool :=
  (s.bandsOf a).any (fun b => (s.band a b).state != .free && (s.band a b).generation == gen) ||
    s.hoop.entries.any (fun e => e.2.state != 0 && e.2.array == a && e.2.generation == gen)

/-- A marker write to a sled is outstanding or waits. -/
def State.markerOut (s : State) (n : Nat) : Bool :=
  let of (c : SledCmd) : Bool := c.sled == some n && decide (c.purpose = .config 2)
  s.sledCmds.any (fun e => e.2.timedOut.isNone && of e.2) || s.ports.any (fun e => e.2.waiting.any of)

/-- The marker goes to sleds as record 33 + array (R232 step 2, R495). -/
def State.sendMarker (s : State) (a gen : Nat) (l : List Nat) : State :=
  let m : Marker := { array := a, generation := gen, tbase := s.tbase }
  l.foldl (fun (s : State) n => if s.markerOut n then s else s.sendSled n (.log 1 (33 + a) m.bytes) a true (.config 2)) s

/-- The switch-over of a retirement (R232 steps 1 and 2): a copy sled that is released is replaced first; then the markers go out,
and go out again where one was not acknowledged. -/
def execRetirementSwitchover (a : Nat) (s : State) : Host.Outcome State Fault Refusal :=
  .next (
    match s.slotIn a .retiring with
    | none => s
    | some r =>
      let img := (s.slot r).image
      let rel := s.released r
      if !s.arrExists a || s.genInUse a (pkGen img) || !s.holdsClaim || s.bobbinIdle || !judgedMode s.mode.cur then s
      else if s.prk.switching.any (fun x => x.1 == r) then
        s.sendMarker a (pkGen img) (((s.prk.markerWaits.filter (fun m => m.1 == r)).map (fun m => m.2)).filter (fun n => (s.sled n).reachable))
      else if rel.any (fun n => s.copies.contains n) then (s.chooseCopiesBut rel).startEpoch []
      else if s.copyJoining then s
      else
        let l := ((pkMembers img ++ ((s.armed a).map pkMembers).getD []).eraseDups).filter (fun n => (s.sled n).enrolled && (s.sled n).reachable)
        ({ s with prk := { s.prk with
            switching := s.prk.switching ++ [(r, rel)], markerWaits := s.prk.markerWaits ++ l.map (fun n => (r, n)) } }).sendMarker a
          (pkGen img) l)

/-- The array records of a retirement (R232, R442): the generation in ADDR, the sleds released in DETAIL, 16 to a record, 0xFFFF for
none; CODE is a free value, and the packing is the model's (log entry 81). -/
def State.logRetired (s : State) (a gen : Nat) (rel : List Nat) : State :=
  (List.range (max 1 (ceilDiv rel.length 16))).foldl (fun (s : State) k =>
    (s.logRec clsArray 10 a (s.freshVal.toNat % 65536) gen (BitVec.ofNat 256 (leNat ((List.range 16).flatMap (fun i =>
      leBytes 2 (rel.getD (16 * k + i) 0xFFFF)))))).bumpFree) s

/-- The retirement commits (R232 steps 3 and 4): the slot is EMPTY, sleds are released, the reshape has ended. -/
def execRetirementCommit (a : Nat) (s : State) : Host.Outcome State Fault Refusal :=
  .next (
    match s.slotIn a .retiring with
    | none => s
    | some r =>
      match s.prk.switching.find? (fun x => x.1 == r) with
      | none => s
      | some sw =>
        let wait := s.prk.markerWaits.any (fun m => m.1 == r && (s.sled m.2).usable)
        if wait || s.linkOff || decide (s.mode.cur = .halted) || !s.holdsClaim then s
        else
          let gen := pkGen (s.slot r).image
          let s0 := (s.syncReshape a).putMarker { array := a, generation := gen, tbase := s.tbase }
          let s1 := ({ s0 with prk := { s0.prk with
            switching := s.prk.switching.filter (fun x => x.1 != r)
            markerWaits := s.prk.markerWaits.filter (fun m => m.1 != r) } }).setSlot r (slotReset 0)
          let s2 := (((s1.setFlag (F.ARR_RS_ACTIVE a) false).setFlag (F.ARR_RS_RUN a) false).setF (F.ARR_RS_WHY a) 0).setFlag
            (F.ARR_RS_RETIRED a) true
          let s3 := if sw.2 = [] then s2 else s2.setFlag (F.ARR_RS_RELEASED a) true
          ((((s3.raiseEvent (16 + a)).logRetired a gen sw.2).syncMembers a).syncArray a).mirrorRegs s a)

end Sys2Proof.Machine
end

