-- ==== Sys2Proof/Machine/FedOps.lean ====
section
/-! DEFINITION. Links of the federation as spanning calls use them (R403, R404, R409, R411): which device serves a member's share,
parts sent to it, and their answers. -/

namespace Sys2Proof.Machine

/-- The federation takes part: the link to a device is up, and no DEVID is double (R409). -/
def State.fedUp (s : State) (dev : Nat) : Bool :=
  s.fedPresent && !s.flag F.FED_STAT_DUP && bit (s.f F.FED_LINK_UP) dev && decide (dev < 8) && !s.linkOff

/-- A device that has sent no HELLO. -/
def helloReset (k : Nat) : FedHello := { dev := k, pair := none, mode := 0, view := 0 }

/-- What a device's last HELLO said. -/
def State.peer (s : State) (dev : Nat) : FedHello := Tbl.get helloReset s.fed.peers dev

/-- The device that serves a member's share: of a pair, the unit in Active (R404); none that can be reached gives 0x0504. -/
def State.fedUnit (s : State) (m : Nat) : Option Nat :=
  match [m, m + 1].find? (fun d => s.fedUp d && (s.peer d).mode == 3 && (d == m || (s.peer d).pair.isSome)) with
  | some d => some d
  | none => if s.fedUp m then some m else none

/-- Add an instruction of a native program that waits for a device's answer, or ends with 0x0504 where no device serves the member
(R260, R411). -/
def State.fedPart (s : State) (th m : Nat) (f : Option Xfer) (body : FedBody) : State :=
  let t := s.thr th
  match s.fedUnit m with
  | some d =>
    let s1 := s.setThr th ((t.addAsync 0 none (.remote d) 0 [] [] s.tbase.toNat).mapAsync t.nextId (fun o => { o with xfer := f }))
    s1.fedAsk d th t.nextId body
  | none => s.setThr th (t.addAsync 0 none .done 0x0504 [] [] s.tbase.toNat)

end Sys2Proof.Machine
end

