-- ==== Sys2Proof/Machine/Health.lean ====
section
/-! DEFINITION. Health (R443 to R450): counters, thresholds, the report, and the management messages that read them. -/

namespace Sys2Proof.Machine

/-! ## Spare and wear (R446) -/

/-- Blocks of a sled that are not bad from manufacture. -/
def State.goodBlocks (s : State) (n : Nat) : Nat := (s.sled n).blocks - (s.sled n).bad

/-- The words of a sled's blocks that differ from a block never cycled. -/
def State.sledWords (s : State) (n : Nat) : List EWord := (s.ewords.filter (fun e => e.1 / 2 ^ 24 == n)).map (fun e => e.2)

/-- Blocks retired since enrolment (R446). -/
def State.retiredBlocks (s : State) (n : Nat) : Nat := ((s.sledWords n).filter (fun e => e.state == 3 || e.state == 4)).length

/-- SPARE_PM (R446); a free value where the allowance is zero, which divides by it (log entry 2). -/
def State.sparePm (s : State) (n : Nat) : Nat :=
  let a := ceilDiv (s.goodBlocks n * 20) 1000
  if a = 0 then s.freshVal.toNat % 65536 else 1000 * (a - s.retiredBlocks n) / a

/-- WEAR_PM (R446), over the blocks neither retired nor bad; a free value where there is none, or CYCLES is zero (log entry 2). -/
def State.wearPm (s : State) (n : Nat) : Nat :=
  let used := s.goodBlocks n - s.retiredBlocks n
  let sum := (((s.sledWords n).filter (fun e => decide (e.state < 3))).map (fun e => e.erases)).sum
  if used * (s.sled n).cycles = 0 then s.freshVal.toNat % 65536 else min 65535 (1000 * sum / (used * (s.sled n).cycles))

/-! ## The report (R447, R448) -/

/-- Enrolled sleds in ascending number. -/
def State.enrolledSleds (s : State) : List Nat := (s.sleds.filter (fun e => e.2.enrolled)).map (fun e => e.1)

/-- STATE of a sled record (R447). -/
def State.sledState (s : State) (n : Nat) : Nat :=
  if (s.sled n).failed then 1 else if (s.sled n).reachable then 0 else 2

/-- The 128-byte record of a sled (R447). -/
def State.sledReport (s : State) (n : Nat) : List Byte :=
  let x := s.sled n
  let h := s.sledHealth n
  leBytes 2 n ++ leBytes 1 x.port ++ leBytes 1 x.hop ++ leBytes 1 (s.sledState n) ++ leBytes 1 h.temp ++
    leBytes 2 (s.sparePm n) ++ leBytes 2 (s.wearPm n) ++ leBytes 6 0 ++ leBytes 8 h.corr ++ leBytes 8 h.parity ++
    leBytes 8 h.uncorr ++ leBytes 4 h.timeouts ++ leBytes 4 0 ++
    (List.range 16).flatMap (fun i => leBytes 4 (h.bins.getD i 0)) ++ leBytes 16 0

/-- The 256-byte module record (R447). The case sensor is read each millisecond, 60,000 readings a minute. -/
def State.moduleReport (s : State) : List Byte :=
  let sum (f : SledHealth → Nat) : Nat := (s.enrolledSleds.map (fun n => f (s.sledHealth n))).sum
  leBytes 8 s.tbase.toNat ++ leBytes 1 s.mode.cur.code ++ leBytes 1 (s.f F.TEMP_STAT_LEVEL) ++ leBytes 1 (s.f F.TEMP_STAT_CASE_C) ++
    leBytes 1 (s.f F.TEMP_STAT_JMAX_C) ++ leBytes 2 (s.f F.HU_CAP_C_DMF) ++ leBytes 1 (s.f F.MC_WAYDIS_COUNT) ++
    leBytes 1 s.critNow ++ leBytes 8 s.health.dramCe ++ leBytes 8 s.health.dramUe ++
    leBytes 8 (sum (fun h => h.corr)) ++ leBytes 8 (sum (fun h => h.parity)) ++ leBytes 8 (sum (fun h => h.uncorr)) ++
    leBytes 4 (((List.range 16).map (fun a => s.f (F.ARR_LOST_STRIPES a))).sum) ++ leBytes 4 0 ++
    (List.range 16).flatMap (fun a => leBytes 4 (s.f (F.ARR_LOST_STRIPES a))) ++
    (List.range 16).flatMap (fun i => leBytes 4 (s.health.caseBins.getD i 0 / 60000)) ++ leBytes 64 0

/-- The report of a sequence number (R447): its CRC covers the whole with the field taken as zero. -/
def State.healthReport (s : State) (seq : Nat) : List Byte :=
  let head (crc : Nat) : List Byte :=
    leBytes 4 0x48544C48 ++ leBytes 1 1 ++ leBytes 1 s.hw.straps.devid ++ leBytes 2 s.enrolledSleds.length ++ leBytes 8 seq ++
      leBytes 8 s.hw.serial ++ leBytes 36 0 ++ leBytes 4 crc
  let rest := s.moduleReport ++ s.enrolledSleds.flatMap s.sledReport
  head (crc32c (head 0 ++ rest)) ++ rest

/-- A sled crosses a threshold of HLTH_THR (R449): one event for each crossing. -/
def State.checkSled (s : State) (n : Nat) : State :=
  let h := s.sledHealth n
  let low := decide (s.sparePm n < s.f F.HLTH_THR_SPARE_PM)
  let worn := decide (s.f F.HLTH_THR_WEAR_PM ≤ s.wearPm n)
  let s1 := s.setSledHealth n { h with spareLow := low, wearHigh := worn }
  let s2 := if low && !h.spareLow then s1.healthEvent 0x0B false 6 n else s1
  if worn && !h.wearHigh then s2.healthEvent 0x0C false 6 n else s2

/-- The modes in which firmware forms reports (R448). -/
def State.reports (s : State) : Bool :=
  s.mode.cur == .standby || s.mode.cur == .active || s.mode.cur == .maintenance

/-- A new report, a second after the last one (R448); a member sends its report to the coordinator (R408). -/
def execHealthReportForm (s : State) : Host.Outcome State Fault Refusal :=
  .next (
    if !s.reports || !s.hw.powered || decide ((s.tbase - s.health.formedAt).toNat < 100000000) then s
    else
      let s1 := s.enrolledSleds.foldl (fun (s : State) n => s.checkSled n) s
      let r := s1.healthReport (s1.health.seq + 1)
      let keep := s1.flag F.HLTH_CTL_FREEZE
      let s2 : State := { s1 with health := { s1.health with
        seq := s1.health.seq + 1, newest := r, readable := if keep then s1.health.readable else r, formedAt := s1.tbase } }
      let c := s2.f F.FED_STAT_COORD
      let s3 := if s2.fedUp c && decide (c ≠ s2.hw.straps.devid) then s2.send (.fed { dev := c, id := 0, body := .report r }) else s2
      s3.bumpFree)

/-- The health record of the vault is written every 60 s (R445, R454). -/
def execHealthRecordSave (s : State) : Host.Outcome State Fault Refusal :=
  .next (
    let up := s.hw.powered && s.mode.cur != .dormant && s.mode.cur != .flush && s.mode.cur != .halted
    if !up || decide ((s.tbase - s.health.savedAt).toNat < 6000000000) then s
    else { s.saveHealth with health := { s.saveHealth.health with savedAt := s.tbase } })

/-- A served write of HLTH_CTL (R448): with FREEZE back at 0 the newest report is readable. -/
def State.writeHlthCtl (s : State) (off size : Nat) (value : Word) : State :=
  let s1 := s.storeReg off size value
  if s1.flag F.HLTH_CTL_FREEZE then s1 else { s1 with health := { s1.health with readable := s1.health.newest } }

/-- HLTH_CTL is written (R448). -/
def execHlthFreeze (size : Nat) (value : Word) (s : State) : Host.Outcome State Fault Refusal :=
  .next (s.gate R.HLTH_CTL size value (fun s => s.writeHlthCtl R.HLTH_CTL size value))

/-! ## Errors of the memories (R187, R195, R443) -/

/-- A hoop block takes the poison signature in the newest version that holds it (R187). -/
def State.poisonHoop (s : State) (a blk : Nat) : State :=
  let g := blk / s.gblk a
  let i := blk % s.gblk a
  let vs := s.hoop.versions.filter (fun v => v.array == a && v.grain == g && v.blocks.any (fun e => e.1 == i))
  match vs.foldl (fun m v => match m with | none => some v | some x => if x.seq < v.seq then some v else some x)
      (none : Option Version) with
  | none => s
  | some v =>
    let bs := v.blocks.map (fun (e : Nat × Info) => if e.1 == i then (e.1, e.2.poison (s.arr a).pifmt) else e)
    (s.putVersion { v with blocks := bs }).mirrorVersion v.seq

/-- A correctable error of a DRAM, an SRAM or a link (R441, R443); or, where `hit` names a hoop block and says that the error was
not corrected, a deferred error of that block (R187, R195). Counts of the last 24 h are the pair's (R401). -/
def execCorrectedErrorLog (src unit addr : Nat) (hit : Option (Nat × Nat × Bool)) (s : State) : Host.Outcome State Fault Refusal :=
  .next (
    let day (l : List Word) : List Word := l.filter (fun t => decide ((s.tbase - t).toNat < 8640000000000)) ++ [s.tbase]
    if !s.hw.powered then s
    else match hit with
      | some (a, b, true) =>
        let s1 : State := { s with
          health := { s.health with dramUe := s.health.dramUe + 1 }, pair := { s.pair with ueTimes := day s.pair.ueTimes } }
        (s1.poisonHoop a b).logOpen clsDeferred 5 unit addr
      | some (_, _, false) =>
        let s1 : State := { s with
          health := { s.health with dramCe := s.health.dramCe + 1 }, pair := { s.pair with ceTimes := day s.pair.ceTimes } }
        s1.logCorrected 5 unit addr
      | none =>
        let s1 : State := if src = 5 then { s with pair := { s.pair with ceTimes := day s.pair.ceTimes } } else s
        s1.logCorrected src unit addr)

/-! ## Management messages (R450) -/

/-- The coordinator's result for the federation (R408, R450): the members' reports, and which are older than 3 s. -/
def State.fedReport (s : State) : List Byte :=
  let view := s.f F.FED_STAT_VIEW
  let of (j : Nat) : Option (Word × List Byte) :=
    if j = s.hw.straps.devid then some (s.health.formedAt, s.health.newest) else s.fed.reports.find j
  let stale (j : Nat) : Bool := match of j with
    | some x => decide (300000000 < (s.tbase - x.1).toNat)
    | none => true
  let m := setBits view 8
  leBytes 1 m.length ++ leBytes 1 view ++ leBytes 1 (((m.filter stale).map (fun j => 2 ^ j)).sum) ++ leBytes 13 0 ++
    m.flatMap (fun j => ((of j).map (fun x => x.2)).getD [])

/-- This device is the coordinator (R407, R408). -/
def State.coordinates (s : State) : Bool :=
  s.fedPresent && s.mode.cur != .witness && !s.fed.electing && decide (0 < s.f F.FED_STAT_EPOCH) &&
    s.f F.FED_STAT_COORD == s.hw.straps.devid

/-- HLTH_GET (R450): an OFFSET at the end of the result is beyond it, since no byte lies there (DEDUCED, log entry 97). A reserved SCOPE
has no answer (log entry 1). -/
def execHlthGet (scope offset : Nat) (s : State) : Host.Outcome State Fault Refusal :=
  .next (
    let answer (bs : List Byte) : OutMsg :=
      if bs.length ≤ offset then .management 0x21 (leBytes 1 1 ++ leBytes 3 0 ++ leBytes 4 bs.length)
      else .management 0x21 (leBytes 1 0 ++ leBytes 3 0 ++ leBytes 4 bs.length ++ (bs.drop offset).take 1024)
    if !s.hw.powered then s
    else match scope with
      | 0 => s.send (answer s.health.newest)
      | 1 => s.send (if s.coordinates then answer s.fedReport else .management 0x21 (leBytes 1 3 ++ leBytes 7 0))
      | _ => s)

/-- The dump that DUMP_GET names (R450, R455). -/
def State.dumpOf (s : State) (src : Nat) : Option Dump :=
  if src = 0 then s.dump.inDram else if src < 3 then s.vaultDumps[src - 1]? else none

/-- DUMP_GET (R450). A reserved SRC and a LEN outside 1 to 1,024 have no answer (log entry 1). -/
def execDumpGet (src len offset : Nat) (s : State) : Host.Outcome State Fault Refusal :=
  .next (
    let head (st : Nat) : List Byte := leBytes 1 st ++ leBytes 7 0 ++ leBytes 8 offset
    if !s.hw.powered || decide (2 < src ∨ len = 0 ∨ 1024 < len) then s
    else match s.dumpOf src with
      | none => s.send (.management 0x23 (head 1))
      | some d =>
        if d.len ≤ offset then s.send (.management 0x23 (head 2))
        else s.send (.management 0x23 (head 0 ++ d.mem.readBytes offset (min len (d.len - offset)))))

end Sys2Proof.Machine
end

