-- ==== Sys2Proof/Machine/MapCache.lean ====
section
/-! DEFINITION. Maintenance of the Map Cache: range commands (R159 to R164), way locks (R165, R166), enabling and draining (R167
to R170), write-backs (R157) and way errors (R171, R172). A command visits its lines as ticks pass, the rest at the event that
completes it. -/

namespace Sys2Proof.Machine

/-! ## Refusals and ranges -/

/-- A maintenance command or a lock write is refused or stopped: ERR and ECODE, logged (R162, R163, R165, R494). -/
def State.mcRefuse (s : State) (ecode off : Nat) (value : Word) : State :=
  ((s.setFlag F.MC_MAINT_STAT_ERR true).setF F.MC_MAINT_STAT_ECODE ecode).regNotice 3 off value ecode

/-- Number of lines that hold at least one grain of a range (R159). -/
def rangeLines (first len : Nat) : Nat := if len = 0 then 0 else (first + len - 1) / 8 - first / 8 + 1

/-- A tag belongs to a line of the command's range (R159). -/
def MaintRun.holds (r : MaintRun) (tag : Nat) : Bool :=
  r.all || (tag / 2 ^ 40 == r.array && decide (0 < r.len) && decide (r.first / 8 ≤ tag % 2 ^ 40) &&
    decide (tag % 2 ^ 40 ≤ (r.first + r.len - 1) / 8))

/-- The command sweeps the cache (R159, R160): ALL, or a range of more lines than it has. -/
def MaintRun.sweep (r : MaintRun) : Bool := r.all || decide (262144 < rangeLines r.first r.len)

/-- Lines that the command visits: the places of the cache in a sweep, else the lines of its range. -/
def MaintRun.total (r : MaintRun) : Nat :=
  if 4 ≤ r.op then (if r.all then 0 else rangeLines r.first r.len) else if r.sweep then 262144 else rangeLines r.first r.len

/-- The valid lines that a command acts on among its next `n`. -/
def State.linesOf (s : State) (r : MaintRun) (n : Nat) : List Nat :=
  let at_ (e : Nat × CacheLine) : Nat := if r.sweep then e.1 else e.2.tag % 2 ^ 40 - r.first / 8
  (s.mc.lines.filter (fun e => e.2.valid && r.holds e.2.tag && decide (r.pos ≤ at_ e) && decide (at_ e < r.pos + n))).map (fun e => e.1)

/-- Replace the running command. -/
def State.setMaintRun (s : State) (r : Option MaintRun) : State := { s with mc := { s.mc with run := r } }

/-- The ways in lock or held after a change. -/
def wayCount (w : Nat) : Nat := popcount w 16

/-- The ECODE with which a command is refused, 0 for none (R162, R169). DESIGN CHOICE (log entry 73): of several refusals the one of the
order 1, 3, 2, 5, 7 is recorded; holds that the command's start would end count toward the limit of 8 ways; WAYS of CLEAN, INVAL and CLINV
is ignored. -/
def State.maintCheck (s : State) (v : Nat) : Nat :=
  let op := bits v 0 3
  let all := bit v 3
  let ways := bits v 16 16
  let a := s.f F.MC_MAINT_BASE_ARRAY
  let lines := rangeLines (s.f F.MC_MAINT_BASE_GRAIN) (s.f F.MC_MAINT_LEN_LEN)
  let fill := op == 4 || op == 5
  let stateOk := match op with
    | 1 => s.mcState != 2
    | 2 => s.mcState == 0
    | _ => s.mcState == 1
  let inUse := s.f F.MC_WAYLOCK_LOCK ||| s.f F.MC_WAYPRE_PRE ||| ways
  if s.flag F.MC_MAINT_STAT_BUSY then 1
  else if op = 0 ∨ 6 ≤ op ∨ bits v 4 12 ≠ 0 ∨ bits v 32 32 ≠ 0 ∨ (!all && !s.arrExists a) then 3
  else if !stateOk then 2
  else if fill && (ways == 0 || decide (16384 * wayCount ways < (if all then 262144 else lines))) then 5
  else if fill && ((ways &&& s.f F.MC_WAYDIS_DIS) != 0 || decide (8 < wayCount inUse)) then 7
  else 0

/-! ## Actions on lines (R159) -/

/-- A line leaves the cache. -/
def State.dropLine (s : State) (k : Nat) : State := s.setLine (k / 16) (k % 16) (lineReset 0)

/-- Fill one line of a PRELOAD or LOCK; the second component says that every way of WAYS is taken by the command (R159, R163). A line of
a locked way is never replaced (R166), nor is one of a way disabled meanwhile; such a way counts as taken (log entry 73). -/
def State.preloadLine (s : State) (r : MaintRun) (tag : Nat) : State × Bool :=
  let set := mcSet (tag % 2 ^ 40)
  let taken (w : Nat) : Bool :=
    s.wayDisabled w || ((s.line set w).valid && (r.holds (s.line set w).tag || s.wayLocked w))
  if (s.wayOf set tag).isSome then (s, false)
  else match (setBits r.ways 16).find? (fun w => !taken w) with
    | none => (s, true)
    | some w =>
      let s1 := s.cleanLine (set * 16 + w)
      (s1.fillLine set w tag false, false)

/-- Fill up to `n` further lines of a PRELOAD or LOCK, until one finds no way. -/
def State.preloadFrom (s : State) (r : MaintRun) : Nat → State × MaintRun × Bool
  | 0 => (s, r, false)
  | n + 1 =>
    match s.preloadLine r (r.array * 2 ^ 40 + r.first / 8 + r.pos) with
    | (s1, true) => (s1, r, true)
    | (s1, false) => s1.preloadFrom { r with pos := r.pos + 1 } n

/-- The ways of a completed PRELOAD are held, but for one disabled meanwhile; MC_WAYPRE marks ways held or locked (R164, R171). -/
def State.holdWays (s : State) (w : Nat) : State :=
  { s.setF F.MC_WAYPRE_PRE (s.f F.MC_WAYPRE_PRE ||| (w - (w &&& s.f F.MC_WAYDIS_DIS))) with mc := { s.mc with preSince := s.tbase } }

/-- Every hold ends without a lock: MC_WAYPRE keeps the locked ways (R164). -/
def State.dropHolds (s : State) : State := s.setF F.MC_WAYPRE_PRE (s.f F.MC_WAYPRE_PRE &&& s.f F.MC_WAYLOCK_LOCK)

/-- The ways of a completed LOCK are locked, but for one disabled meanwhile (R159, R164, R166). -/
def State.lockWays (s : State) (ways : Nat) : State :=
  let w := ways - (ways &&& s.f F.MC_WAYDIS_DIS)
  (s.setF F.MC_WAYLOCK_LOCK (s.f F.MC_WAYLOCK_LOCK ||| w)).setF F.MC_WAYPRE_PRE (s.f F.MC_WAYPRE_PRE ||| w)

/-- Visit up to `n` further lines of a command and act on each (R159, R161, R163); the last component says that the command stops. -/
def State.maintVisit (s : State) (r : MaintRun) (n : Nat) : State × MaintRun × Bool :=
  let m := min n (r.total - r.pos)
  let next : MaintRun := { r with pos := r.pos + m }
  match r.op with
  | 1 => ((s.linesOf r m).foldl (fun s k => s.cleanLine k) s, next, false)
  | 2 => ((s.linesOf r m).foldl (fun s k => s.dropLine k) s, next, false)
  | 3 => ((s.linesOf r m).foldl (fun s k =>
      let s1 := s.cleanLine k
      if s1.wayLocked (k % 16) then s1 else s1.dropLine k) s, next, false)
  | _ => s.preloadFrom r m

/-- MC_MAINT_POS and PERMILLE show how far a command has come (R161). A sweep shows the next line concerned that the cache holds; where
none is left MC_MAINT_POS stays. -/
def State.maintShow (s : State) (r : MaintRun) : State :=
  let pos := if r.sweep || decide (r.total = 0) then
      ((s.mc.lines.find? (fun e => e.2.valid && r.holds e.2.tag && decide (r.pos ≤ e.1))).map
        (fun e => e.2.tag % 2 ^ 40 * 8)).getD (s.f F.MC_MAINT_POS_GRAIN)
    else (r.first / 8 + r.pos) * 8
  (s.setF F.MC_MAINT_POS_GRAIN pos).setF F.MC_MAINT_STAT_PERMILLE (if r.total = 0 then 1000 else 1000 * r.pos / r.total)

/-- The command is over (R161): BUSY clears unless a drain follows. DESIGN CHOICE (log entry 73): MC_MAINT_POS and PERMILLE keep what they
showed last. -/
def State.maintOver (s : State) : State :=
  (s.setMaintRun none).setFlag F.MC_MAINT_STAT_BUSY (s.mcState == 2)

/-- A command has visited every line (R159, R164, R167), or, `stop`, found no way for one (R163). -/
def State.maintClose (s : State) (r : MaintRun) (stop : Bool) : State :=
  let s1 := s.maintShow r
  (if stop then s1.mcRefuse 4 R.MC_MAINT_CMD 0
    else match r.op with
      | 2 => if r.all then s1.setFlag F.MC_CTL_INVDONE true else s1
      | 4 => s1.holdWays r.ways
      | 5 => s1.lockWays r.ways
      | _ => s1).maintOver

/-- The command visits the lines left and ends (R161). -/
def State.maintEnd (s : State) (r : MaintRun) : State :=
  let v := s.maintVisit r (r.total - r.pos)
  v.1.maintClose v.2.1 v.2.2

/-- Lines that the engine visits in a tick. DESIGN CHOICE: a rate within the bounds of R160 (log entry 69). -/
def maintRate (op : Nat) : Nat := if op = 2 then 256 else if op ≤ 3 then 128 else 16

/-- The engine works in every mode but Flush and Halted, which stop it (R170 and the coincidences of its chapter). -/
def State.mcRuns (s : State) : Bool := s.mode.cur != .flush && s.mode.cur != .halted && s.hw.powered

/-- A tick of the range engine (R161). -/
def State.maintTick (s : State) : State :=
  match s.mc.run with
  | none => s
  | some r =>
    if !s.mcRuns then s
    else
      let v := s.maintVisit r (maintRate r.op)
      if v.2.2 then v.1.maintClose v.2.1 true else (v.1.maintShow v.2.1).setMaintRun (some v.2.1)

/-- A maintenance command is written (R159 to R164): refused, or started; holds end with the start of a command. DESIGN CHOICE (log entry
73): ECODE keeps its value when a command starts and when ERR is cleared. -/
def State.maintCommand (s : State) (v off : Nat) (value : Word) : State :=
  let e := s.maintCheck v
  if e ≠ 0 then s.mcRefuse e off value
  else
    let r : MaintRun := { op := bits v 0 3, all := bit v 3, array := s.f F.MC_MAINT_BASE_ARRAY, first := s.f F.MC_MAINT_BASE_GRAIN,
                          len := s.f F.MC_MAINT_LEN_LEN, ways := bits v 16 16, pos := 0 }
    let s1 := (s.setFlag F.MC_MAINT_STAT_BUSY true).setF F.MC_MAINT_STAT_OP r.op
    let s2 := (s1.maintShow r).dropHolds.setMaintRun (some r)
    if (!r.all && r.len == 0) || (r.op == 1 && s2.mcState == 0) then s2.maintEnd r else s2

/-- MC_MAINT_CMD written with an OP (R12, R35, R159). -/
def State.writeMaint (s : State) (size : Nat) (value : Word) : State :=
  s.command R.MC_MAINT_CMD size value false (fun v s => s.maintCommand v R.MC_MAINT_CMD value)

/-- The value written, with the row's OP. -/
def withOp (value : Word) (op : Nat) : Word := BitVec.ofNat 64 (putBits value.toNat 0 3 op)

/-- CLEAN (R159). -/
def execMcClean (size : Nat) (value : Word) (s : State) : Host.Outcome State Fault Refusal := .next (s.writeMaint size (withOp value 1))

/-- INVAL (R159, R167). -/
def execMcInval (size : Nat) (value : Word) (s : State) : Host.Outcome State Fault Refusal := .next (s.writeMaint size (withOp value 2))

/-- CLINV (R159). -/
def execMcClinv (size : Nat) (value : Word) (s : State) : Host.Outcome State Fault Refusal := .next (s.writeMaint size (withOp value 3))

/-- PRELOAD (R159, R162 to R164). -/
def execMcPreload (size : Nat) (value : Word) (s : State) : Host.Outcome State Fault Refusal :=
  .next (s.writeMaint size (withOp value 4))

/-- LOCK (R159, R162, R163, R166). -/
def execMcLock (size : Nat) (value : Word) (s : State) : Host.Outcome State Fault Refusal := .next (s.writeMaint size (withOp value 5))

/-- A running maintenance command finishes (R160, R161, R164). -/
def execMcMaintComplete (s : State) : Host.Outcome State Fault Refusal :=
  .next (match s.mc.run with
    | some r => if s.mcRuns then s.maintEnd r else s
    | none => s)

/-- The hold of preloaded ways ends 10 ms after the preload (R164). -/
def execPreloadHoldExpiry (s : State) : Host.Outcome State Fault Refusal :=
  .next (if 1000000 ≤ (s.tbase - s.mc.preSince).toNat then s.dropHolds else s)

/-! ## Way locks (R165, R166) -/

/-- MC_WAYLOCK takes a new value (R165, R166): bits cleared clear, bits set take effect where the way is preloaded. A value that names a
disabled way, or would leave more than 8 ways locked or held, changes nothing. -/
def State.writeWaylock (s : State) (new off : Nat) (value : Word) : State :=
  let old := s.f F.MC_WAYLOCK_LOCK
  let pre := s.f F.MC_WAYPRE_PRE
  let ok := new &&& (old ||| pre)
  let left := (pre - (pre &&& old)) ||| ok
  if (new &&& s.f F.MC_WAYDIS_DIS) ≠ 0 ∨ 8 < wayCount left then s.mcRefuse 7 off value
  else
    let s1 := (s.setF F.MC_WAYLOCK_LOCK ok).setF F.MC_WAYPRE_PRE left
    if ok = new then s1 else s1.mcRefuse 6 off value

/-- MC_WAYLOCK written (R165, R166). -/
def execMcWaylockWrite (size : Nat) (value : Word) (s : State) : Host.Outcome State Fault Refusal :=
  .next (s.gate R.MC_WAYLOCK size value (fun s => s.writeWaylock (bits (writtenValue R.MC_WAYLOCK size value) 0 16) R.MC_WAYLOCK value))

/-! ## Enabling and draining (R167 to R169) -/

/-- The cache begins to drain (R169, R172). -/
def State.beginDrain (s : State) : State :=
  ((((s.setFlag F.MC_CTL_EN false).setFlag F.MC_CTL_INVDONE false).setF F.MC_CTL_STATE 2).setFlag F.MC_MAINT_STAT_DRAIN true).setFlag
    F.MC_MAINT_STAT_BUSY true

/-- A served write of MC_CTL (R167, R169). -/
def State.writeMcCtl (s : State) (off size : Nat) (value : Word) : State :=
  let v := writtenValue off size value
  if !bit (writtenMask off size) 0 then s
  else
    let s1 := if bit v 1 then s.setFlag F.MC_CTL_SEQERR false else s
    if bit v 0 then
      if s1.mcState = 1 then s1
      else if s1.mcState = 0 ∧ s1.flag F.MC_CTL_INVDONE ∧ !s1.flag F.MC_CTL_FAULT then
        (s1.setFlag F.MC_CTL_EN true).setF F.MC_CTL_STATE 1
      else (s1.setFlag F.MC_CTL_SEQERR true).regNotice 3 off value
    else if s1.mcState = 1 then s1.beginDrain
    else s1

/-- MC_CTL written with EN = 1 (R167). -/
def execMcEnable (size : Nat) (value : Word) (s : State) : Host.Outcome State Fault Refusal :=
  .next (s.gate R.MC_CTL size (value ||| 1) (fun s => s.writeMcCtl R.MC_CTL size (value ||| 1)))

/-- MC_CTL written with EN = 0 (R169). -/
def execMcDisable (size : Nat) (value : Word) (s : State) : Host.Outcome State Fault Refusal :=
  .next (s.gate R.MC_CTL size (value &&& ~~~1) (fun s => s.writeMcCtl R.MC_CTL size (value &&& ~~~1)))

/-- Every dirty line is written; lines, locks and holds are cleared; the cache is Off (R169). -/
def State.endDrain (s : State) : State :=
  let s1 := (s.mc.lines.map (fun e => e.1)).foldl (fun s k => s.cleanLine k) s
  let s2 : State := { s1 with mc := { s1.mc with lines := [], waits := [] } }
  ((((s2.setF F.MC_WAYLOCK_LOCK 0).setF F.MC_WAYPRE_PRE 0).setF F.MC_CTL_STATE 0).setFlag F.MC_MAINT_STAT_DRAIN false).setFlag
    F.MC_MAINT_STAT_BUSY false

/-- The drain ends; a command that was running has completed first (R169). -/
def execMcDrainComplete (s : State) : Host.Outcome State Fault Refusal :=
  .next (if s.mcState = 2 ∧ s.mc.run.isNone ∧ s.mcRuns then s.endDrain else s)

/-- The memory island acknowledges the write-back of a set's victim, and the fill is made (R157). -/
def execMcWritebackAck (set : Nat) (s : State) : Host.Outcome State Fault Refusal := .next (s.ackSet set)

/-! ## Errors of a way (R171, R172) -/

/-- A way's window before any error. -/
def eccReset (_ : Nat) : WayEcc := { count := 0, start := 0 }

/-- The entries of a line with an uncorrectable error are rebuilt into the DRAM map (R131, R171). -/
def State.rebuildLine (s : State) (k : Nat) : State :=
  let l := Tbl.get lineReset s.mc.lines k
  if l.valid then
    (List.range 8).foldl (fun s i =>
      let a := l.tag / 2 ^ 40
      let g := l.tag % 2 ^ 40 * 8 + i
      let r := s.rebuiltEntry a g
      let s1 := s.setDramEntry a g r
      if mapOk r g a then s1.logCorrected 10 a g else s1.logOpen clsDeferred 10 a g) s
  else s

/-- A way is disabled (R171): its lines written back, those in error rebuilt, then invalidated; its lock and hold cleared. -/
def State.disableWay (s : State) (w : Nat) (bad : Option Nat) (cls : Nat) : State :=
  let keys := (s.mc.lines.filter (fun e => e.1 % 16 == w)).map (fun e => e.1)
  let s1 := keys.foldl (fun s k => (if bad == some k then s.rebuildLine k else s.cleanLine k).dropLine k) s
  let s2 := (s1.setF F.MC_WAYLOCK_LOCK (putBit (s1.f F.MC_WAYLOCK_LOCK) w false)).setF F.MC_WAYPRE_PRE
    (putBit (s1.f F.MC_WAYPRE_PRE) w false)
  (((s2.setF F.MC_WAYDIS_DIS (putBit (s2.f F.MC_WAYDIS_DIS) w true)).incF F.MC_WAYDIS_COUNT).logOpen cls 4 w w).raiseEvent 4

/-- A way meets a condition of disabling; the fifth sets FAULT, raises its event and drains the cache (R171, R172,
R470). -/
def State.wayFails (s : State) (w : Nat) (bad : Option Nat) (cls : Nat) : State :=
  if s.wayDisabled w then s
  else if s.f F.MC_WAYDIS_COUNT < 4 then s.disableWay w bad cls
  else
    let s0 := match bad with
      | some k => (s.rebuildLine k).dropLine k
      | none => s
    let s1 := ((s0.setFlag F.MC_CTL_FAULT true).healthEvent 0x07 true 4 w).raiseEvent 4
    if s1.mcState = 1 then s1.beginDrain else s1

/-- An ECC error in a line of a way (R171, R172). DESIGN CHOICE: the counters of MC_ECC saturate (log entry 73). -/
def execMcEccError (way set : Nat) (uncorrectable : Bool) (s : State) : Host.Outcome State Fault Refusal :=
  .next (
    let w := way % 16
    let s0 := s.setF F.MC_ECC_LASTWAY w
    if uncorrectable then ((s0.satF F.MC_ECC_UNCORR).logDeferred 4 w 0 set).wayFails w (some (set * 16 + w)) clsDeferred
    else
      let e := Tbl.get eccReset s.mc.ecc w
      let fresh := e.count == 0 || decide (2 ^ 32 < (s.tbase - e.start).toNat)
      let e1 : WayEcc := if fresh then { count := 1, start := s.tbase } else { e with count := e.count + 1 }
      let s1 : State := { s0 with mc := { s0.mc with ecc := Tbl.set eccReset s0.mc.ecc w e1 } }
      let s2 := (s1.satF F.MC_ECC_CORR).logCorrected 4 w set
      if e1.count = 16 then s2.wayFails w none clsCorrectable else s2)

end Sys2Proof.Machine
end

