-- ==== Sys2Proof/Machine/Pair.lean ====
section
/-! DEFINITION. The pair link (R384 to R387, R398), lease and claim of a unit (R391 to R399), self-tests and health reports
(R400, R401). -/

namespace Sys2Proof.Machine

/-- A frame has arrived on the pair link (R387). -/
def State.pairFrame (s : State) : State := { s with pair := { s.pair with lastFrame := s.tbase } }

/-- The pair link carries frames: paired, with a peer of the pair identity kept, with power, in a mode whose Bride links are on (R35,
R381, R384). -/
def State.linkRuns (s : State) : Bool :=
  s.paired && !s.pair.mismatch && !s.linkOff && decide (s.mode.cur ≠ .dormant ∧ s.mode.cur ≠ .boot ∧ s.mode.cur ≠ .witness)

/-- The unit takes MIRROR and SYNC items: a standby outside a gap (R385, R394). -/
def State.mirrorOpen (s : State) : Bool := s.linkRuns && s.role == 2 && !s.pair.gap && decide (s.mode.cur ≠ .halted)

/-! ## MIRROR and SYNC at the standby (R384, R385, R398) -/

/-- A delta mirrored from the active: held in the log and applied to the standby's own DRAM map (R385). -/
def State.mirrorDelta (s : State) (d : Delta) : State :=
  let l := { s.dlog with deltas := s.dlog.deltas ++ [d], next := d.pos + 1, durable := d.pos + 1, appended := true }
  let s1 := { s with dlog := l }.syncDlog
  if d.kind = 1 then { s1 with map := Tbl.set mapDefault s1.map (grainKey d.array d.key) d.value } else s1

/-- A version of the active's hoop replaces this unit's copy; blocks staged for it are covered (R384). -/
def State.mirrorVersionIn (s : State) (v : Version) : State :=
  let rest := s.hoop.versions.filter (fun x => x.seq != v.seq)
  let covered (x : Staged) : Bool :=
    x.array == v.array && x.block / s.gblk v.array == v.grain && v.blocks.any (fun e => e.1 == x.block % s.gblk v.array)
  let s1 := { s with hoop := { s.hoop with versions := rest ++ [v], nextSeq := max s.hoop.nextSeq (v.seq + 1) } }
  ({ s1 with pair := { s1.pair with staged := s1.pair.staged.filter (fun x => !covered x) } }).syncDirty

/-- An enrolled sled as the peer knows it: port, hop and reachability stay this unit's own (R372, R384). -/
def State.mirrorSled (s : State) (n : Nat) (x : Sled) : State :=
  let o := s.sled n
  s.setSled n { x with port := o.port, hop := o.hop, reachable := o.reachable, notReady := none, notReadySince := none,
                       timeouts := [] }

/-- Store and apply one mirrored item (R384, R385). -/
def State.applyMirror (s : State) (i : MirrorItem) : State :=
  match i with
  | .block a blk _ x => { s with pair := { s.pair with staged := s.pair.staged ++ [{ array := a, block := blk, info := x }] } }
  | .delta d => s.mirrorDelta d
  | .entry e x => s.setCentry e x
  | .region r b => s.setRegion r b
  | .reg off w => s.setReg off w
  | .slot n x => s.setSlot n x
  | .mark a g => { s with prk := { s.prk with marks := Tbl.set markReset s.prk.marks a g } }
  | .band k x => { s with bands := Tbl.set bandReset s.bands k x }
  | .eword k x => { s with ewords := Tbl.set ewordReset s.ewords k x }
  | .sled n x => s.mirrorSled n x
  | .lost l => { s with lost := l }.syncLost
  | .array a x => s.setArr a x
  | .deleted a => s.purgeArray a
  | .dlog l => ({ s with dlog := l }).syncDlog
  | .armed old i x a g =>
    let s1 := ((match old with | some (j, y) => s.putSlot j y | none => s).putSlot i x)
    { s1 with prk := { s1.prk with marks := Tbl.set markReset s1.prk.marks a g } }
  | .marker m => s.putMarker m
  | .unstage l => { s with pair := { s.pair with staged := s.pair.staged.filter (fun x => !l.contains (x.array, x.block)) } }
  | .version v => s.mirrorVersionIn v
  | .drop l => ({ s with hoop := { s.hoop with versions := s.hoop.versions.filter (fun v => !l.contains v.seq) } }).syncDirty
  | .released n dir => ({ s with dlog := { s.dlog with
      deltas := s.dlog.deltas.filter (fun d => decide (n ≤ d.pos)), committed := max s.dlog.committed n, dir
      segs := ({ s.dlog with deltas := s.dlog.deltas.filter (fun d => decide (d.pos < n)) } : DeltaLog).replay s.dlog.segs } }).syncDlog
  | .segment l => { s with map := l.foldl (fun m e => Tbl.set mapDefault m e.1 e.2) s.map }
  | .sequences n l =>
    { s with hoop := { s.hoop with
      nextSeq := max n s.hoop.nextSeq
      passed := l.foldl (fun t e => Tbl.set markReset t e.1 e.2) s.hoop.passed } }

/-- A block's guard holds, or it is marked (R187). -/
def State.blockGood (s : State) (a : Nat) (x : Info) : Bool := x.guardOk (s.arr a).pifmt || x.marked (s.arr a).pifmt

/-- The guards of the mirrored blocks hold (R187); items without blocks carry none. -/
def State.mirrorGood (s : State) : MirrorItem → Bool
  | .block a _ _ x => s.blockGood a x
  | .version v => v.blocks.all (fun e => s.blockGood v.array e.2)
  | _ => true

/-- What a phase of SYNC replaces is empty before its first data come (R398; log entry 80): the tables, the map, or the hoop. -/
def State.clearPhase (s : State) (phase : Nat) : State :=
  match phase with
  | 1 =>
    let gone (e : Nat × Sled) : Nat × Sled := (e.1, { sledReset e.1 with port := e.2.port, hop := e.2.hop, reachable := e.2.reachable })
    { s with
      prk := { s.prk with slots := [], marks := [], markers := [] }, sleds := s.sleds.map gone, arrays := [], bands := [], ewords := []
      hoop := { s.hoop with entries := [], bitmap := [] }, bar0 := s.bar0.filter (fun e => !(resetKeeps e.1) || e.1 == R.PWR_LOG) }
  | 2 => { s with map := [], mc := { s.mc with lines := [] } }
  | _ => { s with hoop := { s.hoop with versions := [], passed := [] }, pair := { s.pair with staged := [] } }

/-- The standby stores the next mirrored item and returns CONFIRM (R385). A block that fails its guard is not confirmed and is sent
again up to three times; then the pair link is treated as failed (R187). -/
def execMirror (seq : Nat) (i : MirrorItem) (s : State) : Host.Outcome State Fault Refusal :=
  .next (
    if !s.mirrorOpen then s
    else
      let s1 := s.pairFrame
      if seq ≠ s.pair.rxSeq + 1 then s1
      else if s.mirrorGood i then
        ({ (s1.applyMirror i) with pair := { (s1.applyMirror i).pair with rxSeq := seq, resends := 0 } }).send (.confirm seq)
      else if s.pair.resends < 3 then
        ({ s1 with pair := { s1.pair with resends := s1.pair.resends + 1 } }.satF F.PAIR_LINK_RESENDS).send (.resend seq)
      else s1.pairStat (fun s => (s.setFlag F.PAIR_STAT_PEER_UP false).setF F.PAIR_LINK_UP 0))

/-- The active learns how far its items are stored (R385): what waited for them goes on. -/
def execConfirm (seq : Nat) (s : State) : Host.Outcome State Fault Refusal :=
  .next (
    if s.linkRuns && s.pair.live && decide (s.pair.confSeq < seq ∧ seq ≤ s.pair.mirSeq) then
      (({ s.pairFrame with pair := { s.pairFrame.pair with confSeq := seq } }).syncDurable).releaseEmits.settleWorks
    else s)

/-- The mirror is complete (R398): INSYNC reads 1, STALE and PEER_LOST clear. -/
def State.inSyncNow (s : State) : State :=
  ((s.setF F.PAIR_SYNC_PHASE 4).setF F.PAIR_SYNC_PERMILLE 1000).pairStat (fun s =>
    ((s.setFlag F.PAIR_STAT_INSYNC true).setFlag F.PAIR_STAT_STALE false).setFlag F.PAIR_STAT_PEER_LOST false)

/-- SYNC data reaches the standby (R398): phase 1 tables, 2 map, 3 hoop, 4 the word that the witness has acknowledged IN_SYNC (log entry
94). A block whose guard fails is not taken; it is sent again (R187). -/
def execSync (phase permille : Nat) (items : List MirrorItem) (s : State) : Host.Outcome State Fault Refusal :=
  .next (
    if s.mirrorOpen && !s.flag F.PAIR_STAT_INSYNC && decide (1 ≤ phase ∧ phase ≤ 3) then
      let s0 := if s.f F.PAIR_SYNC_PHASE = phase then s.pairFrame else s.pairFrame.clearPhase phase
      let s1 := items.foldl (fun (s : State) i => if s.mirrorGood i then s.applyMirror i else (s.satF F.PAIR_LINK_RESENDS).send (.resend 0)) s0
      let s1 : State := if phase = 3 then { s1 with power := { s1.power with mapLoaded := true, loading := none } } else s1
      ((s1.setF F.PAIR_SYNC_PHASE phase).setF F.PAIR_SYNC_PERMILLE (min 1000 permille)).setF F.CLOG_STAT_SRC 2
    else if s.mirrorOpen && decide (phase = 4 ∧ s.f F.PAIR_SYNC_PHASE = 3) then s.pairFrame.inSyncNow
    else s)

/-- The items of the three phases of SYNC as the active holds them (R398). -/
def State.syncItems (s : State) : List (Nat × List MirrorItem) :=
  let tables := (List.range 32).map (fun i => MirrorItem.slot i (s.slot i)) ++ s.prk.markers.map MirrorItem.marker ++ s.prk.marks.map (fun e => MirrorItem.mark e.1 e.2) ++
    s.sleds.map (fun e => MirrorItem.sled e.1 e.2) ++ s.arrays.map (fun e => MirrorItem.array e.1 e.2) ++
    s.bands.map (fun e => MirrorItem.band e.1 e.2) ++ s.ewords.map (fun e => MirrorItem.eword e.1 e.2) ++
    s.hoop.entries.map (fun e => MirrorItem.entry e.1 e.2) ++ s.hoop.bitmap.map (fun e => MirrorItem.region e.1 e.2) ++
    [MirrorItem.lost s.lost] ++ (s.bar0.filter (fun e => resetKeeps e.1 && e.1 != R.PWR_LOG)).map (fun e => MirrorItem.reg e.1 e.2)
  let hoop := MirrorItem.sequences s.hoop.nextSeq s.hoop.passed :: s.hoop.versions.map (fun v => MirrorItem.version v)
  [(1, tables), (2, [MirrorItem.segment s.mapNow, MirrorItem.dlog s.dlog]), (3, hoop)]

/-- The active starts live MIRROR to a rejoining standby, and SYNC (R398). -/
def State.startSync (s : State) : State :=
  let s1 := { s with pair := { s.pair with live := true, mirSeq := 0, confSeq := 0 } }
  (s.syncItems.foldl (fun s p => s.send (.sync p.1 p.2)) s1).setF F.PAIR_SYNC_PHASE 1

/-- Phase 3 of SYNC has ended: the active sends IN_SYNC (R398). -/
def execSyncComplete (s : State) : Host.Outcome State Fault Refusal :=
  .next (
    if s.linkRuns && s.role == 1 && s.pair.live && !s.flag F.PAIR_STAT_INSYNC then
      ((s.setF F.PAIR_SYNC_PHASE 3).setF F.PAIR_SYNC_PERMILLE 1000).sendWit 9 []
    else s)

/-! ## Leases (R391 to R393) -/

/-- A RENEW packet or its answer (R391): a standby that rides through answers; the active's lease counts from the RENEW it sent. -/
def execRenew (answer : Bool) (s : State) : Host.Outcome State Fault Refusal :=
  .next (
    if !s.linkRuns then s
    else
      let s1 := s.pairFrame
      if answer then
        match s.pair.renewSent with
        | some t =>
          if s.role = 1 then
            { s1 with pair := { s1.pair with lease := some t, renewSent := none } }.pairStat (fun s => s.setFlag F.PAIR_STAT_RIDE true)
          else s1
        | none => s1
      else if s.role = 2 && s.pair.riding then
        ({ s1 with pair := { s1.pair with lastRenew := some s.tbase } }).send (.renew true)
      else s1)

/-- Every 5 ms the active sends LEASE_REQ, and RENEW on the pair link (R391). A witness silent for 15 ms is not answering. -/
def execLeaseRenewTimer (s : State) : Host.Outcome State Fault Refusal :=
  .next (
    let due := match s.pair.reqSent.head? with
      | some (_, t) => decide (500000 ≤ (s.tbase - t).toNat)
      | none => true
    if s.linkRuns && (s.role == 1 || s.role == 3) && due && decide (s.mode.cur ≠ .halted) then
      let s0 := if 1500000 ≤ (s.tbase - s.pair.lastWit).toNat then s.pairStat (fun s => s.setFlag F.PAIR_STAT_WIT_UP false) else s
      let s1 := s0.sendWit 3 []
      ({ s1 with pair := { s1.pair with reqSent := ((s1.pair.msgSeq, s.tbase) :: s1.pair.reqSent).take 3, renewSent := some s.tbase } }).send (.renew false)
    else s)

/-- LEASE_ACK: the lease counts from the sending of the last request acknowledged (R391). -/
def execLeaseAck (seq : Nat) (s : State) : Host.Outcome State Fault Refusal :=
  .next (
    if !s.paired || s.linkOff then s
    else
      let s1 := s.fromWitness
      match s.pair.reqSent.find? (fun e => e.1 == seq) with
      | some (_, t) =>
        if s.role = 1 ∨ s.role = 3 then
          { s1 with pair := { s1.pair with
              lease := if s.pair.lease.any (fun l => decide ((s.tbase - l).toNat < (s.tbase - t).toNat)) then s.pair.lease else some t } }.pairStat (fun s => s.setFlag F.PAIR_STAT_RIDE false)
        else s1
      | none => s1)

/-- The local lease has run 14 ms without renewal (R391, R393). -/
def execLeaseExpiry (s : State) : Host.Outcome State Fault Refusal :=
  .next (
    match s.pair.lease with
    | some t => if s.role = 1 && s.pair.leaseLost.isNone && decide (1400000 ≤ (s.tbase - t).toNat) then s.loseLease else s
    | none => s)

/-- LEASE_DENY: the lease ends at once (R392), of an active and of a unit in its gap. -/
def execLeaseDeny (_claim : Nat) (s : State) : Host.Outcome State Fault Refusal :=
  .next (
    if !s.paired || s.linkOff then s
    else
      let s1 := s.fromWitness
      if (s.role == 1 || s.role == 3) && s.pair.leaseLost.isNone then s1.loseLease else s1)

/-- The unit becomes a STALE standby without media commands, and rejoins (R372, R393, R396, R398, R399). -/
def State.becomeStale (s : State) : State :=
  let p := { s.pair with
             intakeClosed := false, leaseLost := none, handover := none, live := false, mirroring := false, rxSeq := 0, lease := none
             riding := false, lostPending := false, reqSent := [], renewSent := none }
  let s0 : State := s.lapseCommits
  let s1 : State := ({ s0 with pair := p, hoop := { s0.hoop with resync := none } } : State).regatherLoose.enterMode .standby
  (((s1.pairStat (fun s => (((s.setF F.PAIR_STAT_ROLE 2).setFlag F.PAIR_STAT_STALE true).setFlag F.PAIR_STAT_INSYNC false).setFlag
    F.PAIR_STAT_PEER_LOST false)).setF F.PAIR_SYNC_PHASE 0)).dropMedia

/-- The window of 3 ms after the lease's end is over (R393): threads end, records are withheld, the unit goes to Standby with CAUSE
0x04 and says HELLO. -/
def execPostWindowExpiry (s : State) : Host.Outcome State Fault Refusal :=
  .next (
    match s.pair.leaseLost with
    | some t =>
      if (s.tbase - t).toNat < 300000 ∨ s.mode.cur = .halted ∨ s.linkOff then s
      else
        let s1 := s.withhold
        ({ s1 with mode := { s1.mode with cause := 4 } }.becomeStale).sendHello
    | none => s)

/-- The standby has had no witness answer for 15 ms and answers RENEW (R391). -/
def execRideThroughStart (s : State) : Host.Outcome State Fault Refusal :=
  .next (
    if s.linkRuns && s.role == 2 && !s.pair.riding && decide (1500000 ≤ (s.tbase - s.pair.lastWit).toNat) then
      { s with pair := { s.pair with riding := true } }.pairStat (fun s => s.setFlag F.PAIR_STAT_WIT_UP false)
    else s)

/-! ## Grants and the gap (R392, R394, R395) -/

/-- CLAIM_GRANT (R392, R394): the gap starts `ago` ticks ago, with the issue of this copy. A repeated copy of the grant accepted is
acknowledged again. A grant within 3.1 ms of this unit's own request for a handover, the most that R390 and R399 leave it, is the
failback (CAUSE 0x05; DESIGN CHOICE, log entry 95). -/
def execClaimGrant (claim ago : Nat) (s : State) : Host.Outcome State Fault Refusal :=
  .next (
    if !s.paired || s.linkOff then s
    else
      let s1 := s.fromWitness
      if claim = s.pair.claim ∧ (s.role = 3 ∨ s.role = 1) then s1.sendWit 0xD []
      else if s.grantBarred || decide (s.mode.cur ≠ .standby) || s.mode.busy || !claimAbove claim s.pair.claim ||
          !(s.role == 2 || s.role == 5) then s1
      else
        let cause := if s.pair.failbackAsked.any (fun t => decide ((s.tbase - t).toNat ≤ 310000)) then 5 else 3
        let s2 := (s1.setClaim claim).sendWit 0xD []
        let p := { s2.pair with
                   gap := true, gapStart := s.tbase - BitVec.ofNat 64 ago, mirroring := false, live := false, lastHolder := true
                   lease := some (s.tbase - BitVec.ofNat 64 ago), failbackAsked := none, intakeClosed := false }
        (({ s2 with pair := p }.beginMove .active cause false).beginLoad).pairStat (fun s =>
          ((s.setF F.PAIR_STAT_ROLE 3).setFlag F.PAIR_STAT_PEER_LOST true).setFlag F.PAIR_STAT_INSYNC false))

/-- Blocks mirrored for commits that the old active had not entered are entered here (R85, R395; log entry 28). -/
def State.enterStaged (s : State) : State :=
  let l := s.pair.staged
  { s with pair := { s.pair with staged := [] } }.enterHoop (l.filter (fun x => s.arrExists x.array))

/-- The switch-over gap ends (R394, R395): CUR = 3, held completions are released, CLAIM is sent to every sled, a resynchronisation
is due, PRK_STAT shows no command (R77). A failed check of the mirrored tables is fatal (KIND 6). The maps are loaded first where SYNC
did not bring them (R38). -/
def execGapEnd (tablesOk : Bool) (s : State) : Host.Outcome State Fault Refusal :=
  .next (
    if !s.pair.gap || decide (s.mode.cur ≠ .standby) then s
    else if !tablesOk then s.halt 7 6 0 false 0 0 0xFF 0
    else if !s.power.mapLoaded then s.beginLoad
    else
      let s1 := ((s.setReg R.PRK_STAT 0).regatherLoose.enterStaged.syncHoop).setF F.CLOG_STAT_SRC 2
      let s2 := { s1 with pair := { s1.pair with gap := false } }.enterMode .active
      let s3 := s2.pairStat (fun s => (s.setF F.PAIR_STAT_ROLE 1).setF F.PAIR_STAT_LASTGAP
        (min 65535 ((s.tbase - s.pair.gapStart).toNat / 1000)))
      let s4 := (s3.cplRings.map (fun e => e.1)).foldl (fun s q => s.holdingFreed q) s3
      let s5 := s4.claimAll
      ((s5.ports.map (fun (e : Nat × Port) => e.1)).foldl (fun (s : State) p => s.retryWaiting p) s5).resyncDue.drive)

/-! ## The peer (R387, R395, R398, R401) -/

/-- The standby's report, as the active receives it (R401): BANK_MF enters MAX_MIB (R428); a state other than READY makes the peer
lost (R387); a standby not yet mirrored to is brought into sync (R398). -/
def execPairHealth (r : PairReport) (s : State) : Host.Outcome State Fault Refusal :=
  .next (
    if !s.linkRuns || s.role ≠ 1 then s
    else
      let s1 := { s.pairFrame with pair := { s.pairFrame.pair with peerReport := some (r, s.tbase) }
                                   power := { s.power with peerBank := some r.bankMf } }
      let s2 := if s1.power.tested && decide (s1.maxMib s1.power.vchg ≠ s1.f F.HOOP_DIRTY_LIMIT_MAX_MIB) then
          s1.recompute s1.power.vchg else s1
      let s3 := if r.state ≠ 0 then s2.declarePeerLost else s2
      if !s3.pair.live && s3.flag F.PAIR_STAT_PEER_UP then s3.startSync else s3)

/-- No frame for PEER_TMO (R387). -/
def execPeerTimeout (s : State) : Host.Outcome State Fault Refusal :=
  .next (
    if s.linkRuns && decide (s.f F.PAIR_TMO_PEER_TMO ≤ (s.tbase - s.pair.lastFrame).toNat) then s.declarePeerLost else s)

/-- The newest report is more than 3 s old (R387). -/
def execPeerHealthStale (s : State) : Host.Outcome State Fault Refusal :=
  .next (
    match s.pair.peerReport with
    | some (_, t) => if s.linkRuns && decide (300000000 < (s.tbase - t).toNat) then s.declarePeerLost else s
    | none => s)

/-- PEER_LOST_ACK: the unpaired conditions of R84 apply (R387). -/
def execPeerLostAck (s : State) : Host.Outcome State Fault Refusal :=
  .next (
    if !s.paired || s.linkOff then s
    else
      let s1 := s.fromWitness
      if s.pair.lostPending && s.role == 1 then
        let s2 := { s1 with pair := { s1.pair with lostPending := false, live := false } }.setMirroring false
        (s2.pairStat (fun s => (s.setFlag F.PAIR_STAT_PEER_LOST true).setFlag F.PAIR_STAT_INSYNC false)).incF F.PAIR_LINK_LOSSES
      else s1)

/-- IN_SYNC_ACK (R398): STALE clears and INSYNC reads 1; at the active PEER_LOST clears, acknowledgements need the peer again, and the
standby is told (log entry 94). -/
def execInSyncAck (s : State) : Host.Outcome State Fault Refusal :=
  .next (
    if !s.paired || s.linkOff || !(s.role == 1 || s.role == 2) then s
    else
      let s1 := s.fromWitness.inSyncNow
      if s.role = 1 && s.pair.live then (s1.setMirroring true).send (.sync 4 []) else s1)

/-- The witness has answered the first HELLO: its endpoint ID, which the bus owner gave it, and the transport, TRANSPORT's where that
names one, are free values (R420; log entry 2). -/
def State.witnessFound (s : State) : State :=
  if s.f F.WIT_STAT_EID ≠ 0 then s
  else
    let v := s.freshVal.toNat
    let t := s.f F.WIT_CFG_TRANSPORT
    ((s.setF F.WIT_STAT_EID (v % 256)).setF F.WIT_STAT_VIA (if t = 0 then 1 + v / 256 % 3 else t)).bumpFree

/-- HELLO_ACK: the pair number, and whether this unit holds the claim (R389, R398). -/
def execHelloAck (pairNo : Nat) (holds : Bool) (s : State) : Host.Outcome State Fault Refusal :=
  .next (
    if !s.paired || s.linkOff then s
    else
      let s0 := { s.fromWitness with pair := { s.fromWitness.pair with pairNo := pairNo % 4 } }.witnessFound
      if holds then s0
      else if s.role = 2 ∨ s.role = 5 then s0.pairStat (fun s => s.setF F.PAIR_STAT_ROLE 2)
      else s0)

/-! ## Handover (R396, R397, R399, R400) -/

/-- The unit stops fetching for a handover that it starts itself (R399). -/
def State.startHandover (s : State) : State :=
  { s with pair := { s.pair with intakeClosed := true, handover := some s.tbase } }.beginMove .standby 4 true

/-- HANDOVER is sent and the unit is a STALE standby (R396, R399). -/
def State.finishHandover (s : State) : State := ((s.sendWit 0xB []).becomeStale).sendHello

/-- The PREFER standby asks for a handover: it is started where FAILBACK_EN = 1 (R400). -/
def execFailbackRequest (s : State) : Host.Outcome State Fault Refusal :=
  .next (
    if s.linkRuns && s.role == 1 && s.flag F.PAIR_CTL_FAILBACK_EN && !s.mode.busy && s.pair.leaseLost.isNone && s.peerReady &&
        s.flag F.PAIR_STAT_INSYNC && (decide (s.mode.cur = .active) || decide (s.mode.cur = .maintenance)) then
      s.pairFrame.startHandover
    else s)

/-- Two milliseconds after fetching stopped for a self-started handover (R399): calls still running end with their results
withheld, and HANDOVER is sent. -/
def execHandoverDrainTimeout (s : State) : Host.Outcome State Fault Refusal :=
  .next (
    match s.pair.handover with
    | some t =>
      if s.linkRuns && decide (s.mode.cur ≠ .halted) && decide (200000 ≤ (s.tbase - t).toNat) then s.withhold.finishHandover else s
    | none => s)

/-! ## Self-tests and reports (R400, R401) -/

/-- Failures of the last 24 h (R401). -/
def State.failedDay (s : State) : Nat :=
  ((List.range 5).map (fun k => if s.pair.failTimes.any (fun e => e.1 == k && decide ((s.tbase - e.2).toNat < 8640000000000))
    then 2 ^ k else 0)).sum

/-- DRAM errors of the last 24 h. -/
def State.dayCount (s : State) (l : List Word) : Nat := (l.filter (fun t => decide ((s.tbase - t).toNat < 8640000000000))).length

/-- Some failed test's rerun has not ended (R401). -/
def bitsClear (standing rerun : Nat) : Bool := (List.range 5).any (fun k => bit standing k && !bit rerun k)

/-- This unit's report (R401). -/
def State.pairReport (s : State) : PairReport :=
  let st := if s.mode.cur = .maintenance ∧ s.role = 2 then 4
    else if bitsClear s.pair.standing s.pair.rerunFailed then 2 else if s.pair.standing ≠ 0 then 3
    else if s.role ≠ 1 ∧ s.role ≠ 3 ∧ !s.flag F.PAIR_STAT_INSYNC then 1 else 0
  { state := st, failed := s.failedDay, bankMf := s.f F.HU_CAP_C_DMF / 10, temp := s.f F.TEMP_STAT_CASE_C
    syncPm := s.f F.PAIR_SYNC_PERMILLE, confSeq := if s.role = 2 then s.pair.rxSeq else s.pair.confSeq
    ce := s.dayCount s.pair.ceTimes, ue := s.dayCount s.pair.ueTimes }

/-- The report's 32 bytes (R401). -/
def PairReport.bytes (r : PairReport) : List Byte :=
  leBytes 1 r.state ++ leBytes 1 r.failed ++ leBytes 2 r.bankMf ++ leBytes 1 r.temp ++ leBytes 1 0 ++ leBytes 2 r.syncPm ++
    leBytes 8 r.confSeq ++ leBytes 4 r.ce ++ leBytes 4 r.ue ++ leBytes 8 0

/-- The second that ends was clean (R400). -/
def State.cleanSecond (s : State) : Bool :=
  s.flag F.PAIR_STAT_INSYNC && s.ready && !s.pair.failTimes.any (fun e => decide ((s.tbase - e.2).toNat ≤ 100000000))

/-- Every second each unit sends its report to the witness, and a standby to the active; CLEAN_S counts, and the PREFER standby
asks for the claim after 60 clean seconds (R400, R401). A unit that the witness does not answer says HELLO again (log entry 93). -/
def execHealthReportTimer (s : State) : Host.Outcome State Fault Refusal :=
  .next (
    if !s.linkRuns || decide (s.mode.cur = .halted) || decide ((s.tbase - s.pair.lastReport).toNat < 100000000) then s
    else
      let r := s.pairReport
      let s0 : State := if s.flag F.PAIR_STAT_WIT_UP then s else s.sendHello
      let s1 := ({ s0 with pair := { s0.pair with lastReport := s0.tbase } }).sendWit 6 r.bytes
      if s.role ≠ 2 then s1
      else
        let s2 := s1.send (.pairHealth r)
        if !s.hw.straps.prefer then s2
        else if !s.cleanSecond then s2.setF F.PAIR_SYNC_CLEAN_S 0
        else
          let s3 := s2.satF F.PAIR_SYNC_CLEAN_S
          if 60 ≤ s3.f F.PAIR_SYNC_CLEAN_S then ({ s3 with pair := { s3.pair with failbackAsked := some s.tbase } }).send .failback else s3)

/-- A self-test fails, or passes: a failure stands until a rerun passes, and the rerun starts at once (R401). Tests 0 to 4 as in the
FAILED field. -/
def execStandbySelfTest (test : Nat) (pass : Bool) (s : State) : Host.Outcome State Fault Refusal :=
  .next (
    if !s.linkRuns || s.role ≠ 2 || decide (5 ≤ test) || pass then s
    else { s with pair := { s.pair with
      standing := putBit s.pair.standing test true
      failTimes := s.pair.failTimes.filter (fun e => e.1 != test) ++ [(test, s.tbase)] } })

/-- A failed test is rerun (R401): passed, it stands failed no longer; failed again, the unit is FAULTED. -/
def execSelfTestRerun (test : Nat) (pass : Bool) (s : State) : Host.Outcome State Fault Refusal :=
  .next (
    if !s.linkRuns || s.role ≠ 2 || !bit s.pair.standing test || decide (5 ≤ test) then s
    else if pass then
      { s with pair := { s.pair with
        standing := putBit s.pair.standing test false, rerunFailed := putBit s.pair.rerunFailed test false } }
    else { s with pair := { s.pair with
      rerunFailed := putBit s.pair.rerunFailed test true, failTimes := s.pair.failTimes.filter (fun e => e.1 != test) ++ [(test, s.tbase)] } })

end Sys2Proof.Machine
end

