-- ==== Sys2Proof/Machine/Modes.lean ====
section
/-! DEFINITION. Mode requests (R33, R37), drains (R38, R42), planned handovers (R396, R397), and Dormant (R298, R437). -/

namespace Sys2Proof.Machine

/-- A mode request is refused (R37): REQ_ERR is set and the refusal logged. -/
def State.modeRefused (s : State) (value : Nat) : State :=
  { s with mode := { s.mode with reqErr := true } }.notice 0 0xFFFF 3 R.DEV_MODE value

/-- The condition of a request for Dormant (R37): nothing dirty, an empty couching log, not paired. -/
def State.dormantOk (s : State) : Bool := s.dirtyBlocks == 0 && s.couchingEmpty && !s.paired

/-- A request for Standby may be met (R37, R397): unpaired, or a peer that could take the claim. -/
def State.standbyOk (s : State) : Bool := !s.paired || (s.role == 1 && s.peerReady && s.flag F.PAIR_STAT_INSYNC)

/-- A mode request (R37, R38): acted on, already met, or refused. -/
def State.requestMode (s : State) (r : Mode) (value : Nat) : State :=
  let drainTo (ok : Bool) : State :=
    if ok then s.beginMove r (if r = .standby ∧ s.paired then 4 else 2) true else s.modeRefused value
  let activate (ok : Bool) : State := if ok then s.beginMove .active 2 false else s.modeRefused value
  if s.mode.busy then s.modeRefused value
  else match s.mode.cur, r with
    | .dormant, .dormant => s
    | .dormant, .standby => s.beginMove .standby 2 false
    | .standby, .standby => s
    | .standby, .active => activate (!s.paired || s.role == 1)
    | .standby, .maintenance => drainTo true
    | .standby, .dormant => drainTo s.dormantOk
    | .standby, .witness => drainTo (!s.anyArray)
    | .active, .active => s
    | .active, .standby => drainTo s.standbyOk
    | .active, .maintenance => drainTo true
    | .maintenance, .maintenance => s
    | .maintenance, .active => activate (!s.paired || s.role == 1)
    | .maintenance, .standby => drainTo s.standbyOk
    | _, _ => s.modeRefused value

/-- DEV_MODE is written (R12, R33): REQ_ERR clears where 1 is written to it, and GO makes the write a request. -/
def State.writeMode (s : State) (off size : Nat) (value : Word) : State :=
  s.command off size value false (fun v s =>
    let s1 := if bit v 15 then { s with mode := { s.mode with reqErr := false } } else s
    if bit v 7 then s1.requestMode (Mode.ofCode (bits v 12 3)) v else s1)

/-- A write of DEV_MODE whose GO is 1 and whose REQ names a mode. -/
def State.askMode (s : State) (code size : Nat) (value : Word) : State :=
  s.writeMode R.DEV_MODE size (BitVec.ofNat 64 (putBits (putBit value.toNat 7 true) 12 3 code))

/-- Request for Standby (R37). -/
def execModeReqStandby (size : Nat) (value : Word) (s : State) : Host.Outcome State Fault Refusal := .next (s.askMode 2 size value)

/-- Request for Active (R37). -/
def execModeReqActive (size : Nat) (value : Word) (s : State) : Host.Outcome State Fault Refusal := .next (s.askMode 3 size value)

/-- Request for Maintenance (R37). -/
def execModeReqMaintenance (size : Nat) (value : Word) (s : State) : Host.Outcome State Fault Refusal :=
  .next (s.askMode 4 size value)

/-- Request for Dormant (R37). -/
def execModeReqDormant (size : Nat) (value : Word) (s : State) : Host.Outcome State Fault Refusal := .next (s.askMode 0 size value)

/-- Request for Witness (R37). -/
def execModeReqWitness (size : Nat) (value : Word) (s : State) : Host.Outcome State Fault Refusal := .next (s.askMode 7 size value)

/-- A request for Boot, Flush or Halted (R37): `k` names which of the three. -/
def execModeReqUnlisted (k size : Nat) (value : Word) (s : State) : Host.Outcome State Fault Refusal :=
  .next (s.askMode (if k % 3 = 0 then 1 else if k % 3 = 1 then 5 else 6) size value)

/-- A drain is abandoned because its condition no longer holds (R38): CUR stays and REQ_ERR is set. -/
def State.abandonDrain (s : State) : State :=
  { s with mode := { s.mode with busy := false, tgt := s.mode.cur, draining := false, reqErr := true } }

/-- Fetch has stopped and running calls have completed (R38, R42): the condition is checked again, and the new mode entered. A paired
active hands over once every MIRROR item is confirmed (R396). -/
def execDrainComplete (s : State) : Host.Outcome State Fault Refusal :=
  .next (
    if !s.mode.busy || !s.mode.draining || !s.drained || s.linkOff || decide (s.mode.cur = .halted) then s
    else match s.mode.tgt with
      | .standby =>
        if s.paired && s.role == 1 then
          if s.pair.handover.isSome || s.durableAt s.pair.mirSeq then s.finishHandover else s
        else s.enterMode .standby
      | .maintenance => s.enterMode .maintenance
      | .dormant => if s.dormantOk then (s.sledsOff.enterMode .dormant).sledsGone else s.abandonDrain
      | .witness => if s.anyArray then s.abandonDrain else (s.sledsOff.enterMode .witness).sledsGone
      | _ => s)

/-- Dormant ends (R298, R437): CUR becomes 2, recorded doorbells are checked before anything is fetched, and the power-on stagger
starts. -/
def execDormantExitComplete (s : State) : Host.Outcome State Fault Refusal :=
  .next (
    if s.mode.busy && decide (s.mode.cur = .dormant ∧ s.mode.tgt = .standby) && s.hw.powered then
      (s.enterMode .standby).queueBays.replayDoorbells
    else s)

end Sys2Proof.Machine
end

