-- ==== Sys2Proof/Machine/Native.lean ====
section
/-! DEFINITION. The block calls of the Pattern Book (R274 to R282, R97, R146, R192, R411), as the programs that firmware ships run
them (log entry 26): each command of a call carries its thread one stage further, once what the stage before has started is
complete. -/

namespace Sys2Proof.Machine

/-! ## A native program -/

/-- Progress of thread `th`'s program. -/
def State.book (s : State) (th : Nat) : BookRun := (s.thr th).book

/-- Replace the progress of a program. -/
def State.setBook (s : State) (th : Nat) (b : BookRun) : State := s.setThr th { s.thr th with book := b }

/-- Argument word `k` of a call (R238). -/
def State.arg (s : State) (th k : Nat) : Nat := ((s.thr th).reg k).toNat

/-- ARRAY of a call. -/
def State.argArray (s : State) (th : Nat) : Nat := bits (s.arg th 1) 0 4

/-- The stage after the last: the status is posted. -/
def bookLast : Nat := 99

/-- A thread runs the shipped program of a pattern and may go on. -/
def State.bookReady (s : State) (th p : Nat) : Bool :=
  decide (th < 1024) && s.threadsRun && s.clusterAvail (thCluster th) && (s.thr th).native && (s.thr th).pattern == p &&
    decide ((s.thr th).wait = .none) && (s.thr th).asyncs.isEmpty

/-- One stage of a pattern's program on a thread; nothing happens where it cannot go on (log entry 1). -/
def State.bookStep (s : State) (th p : Nat) (stage : State → State) : State :=
  if !s.bookReady th p then s
  else if (s.book th).stage = bookLast then s.endThread th
  else stage s

/-- A program ends: its status and result go to its calls, to the SIGNAL that started it, or to the device that sent the part (R260,
R261, R274, R411). -/
def State.bookPost (s : State) (th status result : Nat) : State :=
  let b := s.book th
  match b.origin with
  | some (dev, id) =>
    ((s.setBook th { b with origin := none, stage := bookLast }).send
      (.fed { dev, id, body := .partDone status result b.words })).endThread th
  | none =>
    let s0 := s.setBook th { b with stage := bookLast }
    if (s.thr th).calls = [] then (s0.postNone th status).endThread th
    else if s.postBarred th then s
    else
      let s1 := s0.postCalls th status result
      if (s1.thr th).wait = .none then s1.endThread th else s1

/-- A program breaks a permission of its ring: the thread faults (R266, R276). -/
def State.bookFault (s : State) (th : Nat) : State :=
  (s.threadFault th 0x0402 0 (s.thr th).pc s.freshVal).bumpFree

/-- The first of a list of statuses that is not zero. -/
def firstStatus : List Nat → Nat
  | [] => 0
  | x :: xs => if x ≠ 0 then x else firstStatus xs

/-- An administration call hands its work to firmware on a device-work thread of its cluster, and waits while none is free; a program
that runs on such a thread already does its own (R237, R276). -/
def State.handOver (s : State) (th : Nat) (body : State → State) : State :=
  if thDevWork th then body s
  else match s.freeThread (thCluster th) true with
    | none => s
    | some w =>
      let t := s.thr th
      let s1 := s.startThread w t.pattern ((List.range 7).map (fun k => t.reg (k + 1))) 0 (BitVec.ofNat 64 (w + 2 ^ 63)) 31
      let s2 := s1.setThr w { s1.thr w with wait := .serving th }
      body (s2.setThr th { t with book := { t.book with helper := some w } })

/-- The beginning of a program: its permissions `need`, then its checks in order; a check that fails ends the call with its status
and nothing of it takes effect (R275, R278). A call that needs permission X is an administration call (R276). -/
def State.bookBegin (s : State) (th need : Nat) (checks : List Nat) (body : State → State) : State :=
  if ((s.thr th).perm &&& need) ≠ need then s.bookFault th
  else if firstStatus checks ≠ 0 then s.bookPost th (firstStatus checks) 0
  else if bit need 4 then s.handOver th body
  else body s

/-- The outcome of an instruction of the stage: its outcome word, and the third component of its record. -/
def BookRun.outOf (b : BookRun) (id : Nat) : Nat × Nat := ((b.outs.find? (fun o => o.1 == id)).map (fun o => o.2)).getD (0, 0)

/-- Statuses of a call that touches blocks, in order of precedence (R192, R411; log entry 40). -/
def statusRank (st : Nat) : Nat :=
  if st = 0 then 0 else if st = 0x0203 then 2 else if st = 0x0301 then 3 else if st = 0x0504 then 5 else 4

/-- The status of higher precedence. -/
def worse (x y : Nat) : Nat := if statusRank x < statusRank y then y else x

/-- The transport statuses (R342). -/
def transport (st : Nat) : Bool := decide (0x0101 ≤ st ∧ st ≤ 0x0104)

/-! ## Ranges of blocks -/

/-- Pieces of `n` blocks from block `blk` on: the grains that they touch, as first place and length (R411). -/
def pieces (gb blk n : Nat) : List (Nat × Nat) :=
  ((List.range n).filter (fun k => k == 0 || (blk + k) % gb == 0)).map (fun k => (k, min (n - k) (gb - (blk + k) % gb)))

/-- The first block of a call. -/
def State.argBlock (s : State) (th : Nat) : Nat := bits (s.arg th 2) 0 48

/-- COUNT of a call. -/
def State.argCount (s : State) (th : Nat) : Nat := bits (s.arg th 3) 0 32

/-- A call moves no protection information: format 0 or ACT (R186, R279). -/
def State.noPi (s : State) (th : Nat) : Bool :=
  let fmt := (s.arr (s.argArray th)).pifmt
  fmt == 0 || bit (s.arg th 1) 8

/-- Protection information has a host buffer of its own. -/
def State.piApart (s : State) (th : Nat) : Bool := !s.noPi th && bit (s.arg th 1) 48

/-- Host bytes of one block at HOSTADDR. -/
def State.hostUnit (s : State) (th : Nat) : Nat :=
  let fmt := (s.arr (s.argArray th)).pifmt
  4096 + (if s.noPi th || s.piApart th then 0 else piHostBytes fmt)

/-- The checks of a block call after its mode: array, argument ranges, capacity, Failed (R205, R278, R279). -/
def State.blockChecks (s : State) (th most : Nat) (host : Bool) : List Nat :=
  let a := s.argArray th
  let odd := host && (s.arg th 4 % 4 != 0 || (s.piApart th && s.arg th 5 % 4 != 0))
  [if s.arrExists a then 0 else 0x0321, if s.argCount th = 0 ∨ most < s.argCount th ∨ odd then 0x0323 else 0,
    s.rangeStatus a (s.argBlock th) (s.argCount th)]

/-- Handle 0 of a program takes `n` cleared skeins, and its progress stands at a stage. -/
def State.bookRun (s : State) (th n stage : Nat) : State :=
  let t := s.thr th
  let t1 := t.setRun 0 ((List.range n).map (fun k => bookSkein th + k))
  (s.setThr th { t1 with book := { t.book with stage, n, parts := [], outs := [], again := none } }).putInfos th 0 0 (List.replicate n (infoReset 0))

/-- The transfer of `n` blocks at place `k` of the present run, at a host address. -/
def bookXfer (space k n addr array : Nat) (piint side : Bool) : Xfer :=
  { space, handle := 0, first := k, count := n, addr, array, piint, side, assist := true, left := n, step := 0, unrec := 0,
    status := 0, assisted := 0 }

/-- Note that an instruction serves `n` blocks from place `k` of the run. -/
def State.notePart (s : State) (th id k n : Nat) : State :=
  s.setBook th { s.book th with parts := (s.book th).parts ++ [(id, k, n)] }

/-- Add an instruction of a native program with its transfer. -/
def State.bookAsync (s : State) (th : Nat) (w : AsyncWait) (f : Option Xfer) : State :=
  let t := s.thr th
  s.setThr th ((t.addAsync 0 none w 0 [] [] s.tbase.toNat).mapAsync t.nextId (fun o => { o with xfer := f }))

/-- Merge the outcomes of the parts of a run from the `m`-th on into the call: the status of highest precedence, and in a spanning call the first
block whose part failed (R192, R411). -/
def State.mergeFrom (s : State) (th m : Nat) : State :=
  let b := s.book th
  let a := s.argArray th
  let parts := b.parts.drop m
  let bad := parts.filter (fun p => (b.outOf p.1).1 % 65536 != 0)
  let status := bad.foldl (fun st p => worse st ((b.outOf p.1).1 % 65536)) b.status
  let first := if s.spanMembers a = [] then none
    else bad.foldl (fun m p => match m with | none => some (b.pos + p.2.1) | some x => some (min x (b.pos + p.2.1))) none
  s.setBook th { b with status, bad := b.bad.or first, result := b.result + (parts.map (fun p => (b.outOf p.1).2)).sum }

/-- Merge the outcomes of all parts of a run. -/
def State.mergeParts (s : State) (th : Nat) : State := s.mergeFrom th 0

/-! ## READ and VERIFY (R280, R192) -/

/-- Read one piece of a run: from this device's hoop and media, or from the member that holds its grain (R91, R411). -/
def State.readPiece (s : State) (th : Nat) (p : Nat × Nat) : State :=
  let a := s.argArray th
  let blk := s.argBlock th + (s.book th).pos + p.1
  let id := (s.thr th).nextId
  let f := bookXfer 2 p.1 p.2 0 a false false
  let m := s.grainMember a (blk / s.gblk a)
  if m = s.ownMember then
    (List.range p.2).foldl (fun (s : State) j => s.fetchBlock th id 0 p.1 j a (blk + j))
      ((s.bookAsync th (.sled []) (some f)).notePart th id p.1 p.2)
  else (s.fedPart th m (some f) (.part 1 ((s.thr th).reg 1) blk p.2 false [])).notePart th id p.1 p.2

/-- The status and result with which a READ or VERIFY ends (R192, R280, R411). -/
def State.readEnd (s : State) (th : Nat) : State :=
  let b := s.book th
  let status := if b.status ≠ 0 then b.status else (b.stop.map (fun x => x.2)).getD 0
  let moved := match b.bad, b.stop with
    | some x, _ => x
    | none, some x => x.1
    | none, none => s.argCount th
  s.bookPost th status (if (s.thr th).pattern = 5 ∨ b.origin.isSome then min (2 ^ 32 - 1) b.result else moved)

/-- Begin a run of at most 256 blocks of a READ or VERIFY, or end the call. -/
def State.readRun (s : State) (th : Nat) : State :=
  let b := s.book th
  let a := s.argArray th
  let n := min 256 (s.argCount th - b.pos)
  if n = 0 then s.readEnd th
  else
    let st := s.rangeStatus a (s.argBlock th + b.pos) n
    if st ≠ 0 then s.bookPost th st b.pos
    else
      let l := if s.spanMembers a = [] then [(0, n)] else pieces (s.gblk a) (s.argBlock th + b.pos) n
      l.foldl (fun (s : State) p => s.readPiece th p) (s.bookRun th n 2)

/-- A status that brings no data for its blocks. -/
def dataless (st : Nat) : Bool := st != 0 && st != 0x0203 && st != 0x0301

/-- The block at place `k` of the run came with data. -/
def BookRun.hasData (b : BookRun) (k : Nat) : Bool :=
  !(b.parts.any (fun p => decide (p.2.1 ≤ k ∧ k < p.2.1 + p.2.2) && dataless ((b.outOf p.1).1 % 65536)))

/-- The check of the block at place `k` of the run at egress, 0 where it came without data (R186, R187). -/
def State.egressCheck (s : State) (th k : Nat) : Nat :=
  let a := s.argArray th
  let w := s.arg th 1
  if !(s.book th).hasData k then 0
  else (s.runInfo th 0 k).check (s.arr a).pifmt (s.arr a).pitype (bits w 8 8) (bits w 16 16) (bits w 32 16)
    (s.argBlock th + (s.book th).pos + k)

/-- Egress of the block at place `k` of the run (R186, R187): a guard that has failed twice marks the block with 0x0203, a deferred
error; a tag that fails stops the call there, for the first such block. -/
def State.egress (s : State) (th k : Nat) : State :=
  let a := s.argArray th
  let fmt := (s.arr a).pifmt
  let b := s.book th
  let st := s.egressCheck th k
  if st = 0 then s
  else if st = 0x0201 then
    ((s.setRunInfo th 0 k ((s.runInfo th 0 k).poison fmt)).setBook th { b with status := worse b.status 0x0203 }).logDeferred 10 a
      0x0203 ((s.argBlock th + b.pos + k) / s.gblk a)
  else if b.stop.isSome then s
  else
    let first := if s.spanMembers a = [] then none
      else (b.parts.find? (fun p => decide (p.2.1 ≤ k ∧ k < p.2.1 + p.2.2))).map (fun p => b.pos + p.2.1)
    s.setBook th { b with stop := some (b.pos + k, egressStatus st), bad := b.bad.or first }

/-- The host writes of one block: data with interleaved protection information, and protection information apart (R191, R249,
R279). -/
def State.blockWrites (s : State) (th k : Nat) : List (Nat × Bool × List Byte) :=
  let fmt := (s.arr (s.argArray th)).pifmt
  let x := s.runInfo th 0 k
  let place := (s.book th).pos + k
  let data := (s.arg th 4 + s.hostUnit th * place, x.marked fmt, x.hostBytes fmt (!s.noPi th && !s.piApart th) false)
  if s.piApart th then [data, (s.arg th 5 + piHostBytes fmt * place, x.marked fmt, x.hostBytes fmt true true)] else [data]

/-- Store the block at place `k` of the run to the host: a denied translation stops the call there; a write that waits for its
translation is waited for (R345). -/
def State.storeOut (s : State) (th k : Nat) : State :=
  let b := s.book th
  let ats := bit (s.arg th 1) 49
  let e := s.thEp th
  let id := (s.thr th).nextId
  let ws := s.blockWrites th k
  if b.outs.any (fun o => transport o.2.1) then s
  else if ws.any (fun w => s.xlatDenies e w.1 w.2.2.length true ats) then
    (s.satF F.HE_XERR_ATSDENY).setBook th { b with parts := b.parts ++ [(id, k, 1)], outs := b.outs ++ [(id, 0x0103, 0)] }
  else
    let wait := ws.any (fun w => ats && (s.ep e).atsEnable && !s.xlatHit e w.1 w.2.2.length)
    let s1 := if wait then (s.bookAsync th (.host []) none).notePart th id k 1 else s
    ws.foldl (fun (s : State) w => s.hostWrite e (.thread th id) w.1 ats w.2.1 w.2.2) s1

/-- Every block of the run lies in the call's host ranges (R266, R312). -/
def State.runAllowed (s : State) (th n : Nat) : Bool :=
  let b := s.book th
  let fmt := (s.arr (s.argArray th)).pifmt
  s.thHostAllowed th (s.arg th 4 + s.hostUnit th * b.pos) (s.hostUnit th * n) &&
    (!s.piApart th || s.thHostAllowed th (s.arg th 5 + piHostBytes fmt * b.pos) (piHostBytes fmt * n))

/-- A run has been read: blocks whose guard fails are decoded again once (R187); it is checked, and for READ its blocks before the first tag failure go to the host; a part for another device
keeps its blocks for the answer (R192, R280, R411). -/
def State.readDone (s : State) (th : Nat) : State :=
  let s1 := s.mergeFrom th (((s.book th).again).getD 0)
  let b := s1.book th
  let next (s : State) : State := s.setBook th { s.book th with stage := 1, pos := (s.book th).pos + b.n }
  let bad := (List.range b.n).filter (fun k => s1.egressCheck th k == 0x0201)
  if b.origin.isSome then next (s1.setBook th { b with words := b.words ++ s1.runInfos th 0 })
  else if b.again.isNone && !bad.isEmpty then
    bad.foldl (fun (s : State) k => s.readPiece th (k, 1)) (s1.setBook th { b with again := some b.parts.length })
  else
    let s2 := (List.range b.n).foldl (fun (s : State) k => s.egress th k) s1
    let c := s2.book th
    let last := match c.stop with | some x => min b.n (x.1 - b.pos) | none => b.n
    let l := (List.range last).filter c.hasData
    if (s.thr th).pattern = 5 ∨ l = [] then next s2
    else if !s.runAllowed th b.n then s.bookFault th
    else if !s.hostReady (s.thEp th) then s2.bookPost th 0x0104 b.pos
    else if s.tagsFree (s.thEp th) < 2 * b.n then s
    else l.foldl (fun (s : State) k => s.storeOut th k) (s2.setBook th { c with stage := 3, parts := [], outs := [] })

/-- The blocks of a run have gone to the host; a write that failed ends the call with its transport status (R342). -/
def State.storeDone (s : State) (th : Nat) : State :=
  let b := s.book th
  match b.parts.find? (fun p => (b.outOf p.1).1 != 0) with
  | some p => s.bookPost th ((b.outOf p.1).1 % 65536) (b.pos + p.2.1)
  | none => s.setBook th { b with stage := 1, pos := b.pos + b.n }

/-- One stage of READ or VERIFY. -/
def State.readStage (s : State) (th need : Nat) (host : Bool) : State :=
  match (s.book th).stage with
  | 0 => s.bookBegin th need (s.dataStatus :: s.blockChecks th 65536 host)
      (fun s => s.setBook th { s.book th with stage := 1 })
  | 1 => s.readRun th
  | 2 => s.readDone th
  | _ => s.storeDone th

/-- READ (R279, R280). -/
def execRead (th : Nat) (s : State) : Host.Outcome State Fault Refusal :=
  .next (s.bookStep th 0x001 (fun s => s.readStage th 3 true))

/-- VERIFY (R280). -/
def execVerify (th : Nat) (s : State) : Host.Outcome State Fault Refusal :=
  .next (s.bookStep th 0x005 (fun s => s.readStage th 2 false))

/-! ## WRITE (R280, R281) -/

/-- FUA of a WRITE (R279). -/
def State.argFua (s : State) (th : Nat) : Bool := bit (s.arg th 3) 32

/-- The array takes no write calls now (R143, R204, R281). -/
def State.writeBarred (s : State) (a : Nat) : Nat :=
  if s.flag (F.ARR_STATE_NARROW a) then 0x0304 else if s.flag (F.ARR_GC_NOSPACE a) then 0x031C else 0

/-- The status and result with which a WRITE ends (R192, R280). `result` of the run counts blocks that arrived marked. -/
def State.writeEnd (s : State) (th : Nat) : State :=
  let b := s.book th
  let marked := if b.result ≠ 0 then 0x0205 else 0
  let status := if b.status ≠ 0 then b.status else (b.stop.map (fun x => x.2)).getD marked
  let moved := match b.bad, b.stop with
    | some x, _ => x
    | none, some x => x.1
    | none, none => s.argCount th
  s.bookPost th status moved

/-- Every block of the WRITE has been stored, or it has stopped: with FUA it waits for step 6 of its blocks (R97). -/
def State.writeLast (s : State) (th : Nat) : State :=
  if s.argFua th then
    let t := s.thr th
    s.setThr th { t with covers := s.hoop.nextSeq - 1, book := { t.book with stage := 4 } }
  else s.writeEnd th

/-- Begin a run of at most 1,024 blocks of a WRITE: its data, and protection information apart, are read from the host (R249, R280). -/
def State.writeRun (s : State) (th : Nat) : State :=
  let b := s.book th
  let a := s.argArray th
  let n := min 1024 (s.argCount th - b.pos)
  let fmt := (s.arr a).pifmt
  let st := firstStatus [s.rangeStatus a (s.argBlock th + b.pos) n, s.writeBarred a]
  let e := s.thEp th
  let ats := bit (s.arg th 1) 49
  let da := s.arg th 4 + s.hostUnit th * b.pos
  let pa := s.arg th 5 + piHostBytes fmt * b.pos
  if n = 0 then s.writeLast th
  else if st ≠ 0 then s.bookPost th st b.pos
  else if b.origin.isSome then (s.bookRun th n 2).putInfos th 0 0 ((b.words.drop b.pos).take n)
  else if !s.runAllowed th n then s.bookFault th
  else if !s.hostReady e then s.bookPost th 0x0104 b.pos
  else if s.xlatDenies e da (s.hostUnit th * n) false ats ∨ (s.piApart th ∧ s.xlatDenies e pa (piHostBytes fmt * n) false ats) then
    (s.satF F.HE_XERR_ATSDENY).bookPost th 0x0103 b.pos
  else if s.tagsFree e < 2 then s
  else
    let id := (s.thr th).nextId
    let f := bookXfer 0 0 n da a (!s.noPi th && !s.piApart th) false
    let s1 := (((s.bookRun th n 2).bookAsync th (.host []) (some f)).hostRead e (.thread th id) da (s.hostUnit th * n) ats).1
    if s.piApart th then
      ((s1.bookAsync th (.host []) (some (bookXfer 0 0 n pa a false true))).hostRead e (.thread th (id + 1)) pa
        (piHostBytes fmt * n) ats).1
    else s1

/-- The block at place `k` of a WRITE's run as it is stored: protection information generated for format 0 and with ACT; a block that
arrived poisoned keeps its mark (R185, R186, R190). -/
def State.ingressInfo (s : State) (th k : Nat) : Info :=
  let fmt := (s.arr (s.argArray th)).pifmt
  let x := s.runInfo th 0 k
  if s.noPi th then
    let y := ({ x with mta := 0 } : Info).gen fmt (bits (s.arg th 1) 16 16) (s.argBlock th + (s.book th).pos + k)
    if x.poisonBit then y.poison fmt else y
  else x.remark fmt

/-- The ingress check of the block at place `k` (R187). -/
def State.ingress (s : State) (th k : Nat) : Nat :=
  let a := s.argArray th
  let w := s.arg th 1
  (s.ingressInfo th k).check (s.arr a).pifmt (s.arr a).pitype (bits w 8 8) (bits w 16 16) (bits w 32 16)
    (s.argBlock th + (s.book th).pos + k)

/-- Hand the blocks of a run that lie in grains of other members to them (R411). -/
def State.writeParts (s : State) (th : Nat) (n : Nat) (infos : List Info) : State :=
  let a := s.argArray th
  let blk := s.argBlock th + (s.book th).pos
  (pieces (s.gblk a) blk n).foldl (fun (s : State) p =>
    let m := s.grainMember a ((blk + p.1) / s.gblk a)
    if m = s.ownMember then s
    else
      let id := (s.thr th).nextId
      (s.fedPart th m (some (bookXfer 2 p.1 p.2 0 a false false)) (.part 2 ((s.thr th).reg 1) (blk + p.1) p.2 (s.argFua th)
        ((infos.drop p.1).take p.2))).notePart th id p.1 p.2) s

/-- The blocks of a run have arrived: they are checked, and those before the first failure are stored together once R84 holds for all
of them (R84, R86, R187, R280). -/
def State.writeData (s : State) (th : Nat) : State :=
  let b := s.book th
  let a := s.argArray th
  let part := b.origin.isSome
  let outs := b.outs.map (fun o => o.2.1 % 65536)
  match outs.find? transport with
  | some st => s.bookPost th st b.pos
  | none =>
    let fail := if part then none else (List.range b.n).find? (fun k => s.ingress th k != 0)
    let n := fail.getD b.n
    let infos := (List.range n).map (fun k => if part then s.runInfo th 0 k else s.ingressInfo th k)
    let marked := outs.contains 0x0205 && infos.any Info.poisonBit
    let own := (List.range n).filter (fun k => s.ownsGrain a ((s.argBlock th + b.pos + k) / s.gblk a))
    let l := own.map (fun k => ({ array := a, block := s.argBlock th + b.pos + k, info := infos.getD k (infoReset 0) } : Staged))
    let st := if l = [] then 0 else s.commitStatus l
    let stop := b.stop.or (fail.map (fun k => (b.pos + k, s.ingress th k)))
    if st ≠ 0 then s.bookPost th st b.pos
    else
      let s1 := s.setBook th { b with stage := 3, stop, parts := [], outs := [], result := b.result + marked.toNat }
      let s2 := if s.spanMembers a = [] then s1 else s1.writeParts th n infos
      if l = [] then s2
      else
        let s3 := s2.mirrorBlocks l
        let id := (s3.thr th).nextId
        let s4 := ((s3.bookAsync th (.commit l s3.pair.mirSeq) none).notePart th id (own.headD 0) 0).beginBankWait th
        match (s4.thr th).async? id with
        | some o => (s4.tryCommit th o).drive
        | none => s4

/-- The blocks of a run are stored, or their commit has ended without them (R86, R281). -/
def State.writeStored (s : State) (th : Nat) : State :=
  let b := s.book th
  match b.parts.find? (fun p => p.2.2 == 0 && (b.outOf p.1).1 != 0) with
  | some p => s.bookPost th ((b.outOf p.1).1 % 65536) (b.pos + p.2.1)
  | none =>
    let s1 := s.mergeParts th
    let c := s1.book th
    let s2 := s1.setBook th { c with stage := 1, pos := c.pos + c.n, result := b.result }
    if c.stop.isSome then s2.writeLast th else s2

/-- Versions that a thread's FLUSH or WRITE with FUA still waits for (R97): dirty, not past step 6, not overtaken. -/
def State.uncovered (s : State) (th : Nat) : List Version :=
  s.hoop.versions.filter (fun v => (s.thr th).coversGrain (s.gblk v.array) v.array v.grain v.seq && !v.step6 &&
    decide (s.passedSeq v.array v.grain ≤ v.seq))

/-- Force out the gathering stripes that hold what a thread waits for (R98). -/
def State.forceCovered (s : State) (th : Nat) : State :=
  let l := s.uncovered th
  let a := s.argArray th
  if s.destages && s.hoop.gathers.any (fun g => g.1 / 16 == a && g.2.grains.any (fun x => l.any (fun v => v.seq == x.2))) then
    (s.forceAll (fun x => x == a)).drive
  else s

/-- A WRITE with FUA waits for step 6 of its blocks (R97). -/
def State.writeCover (s : State) (th : Nat) : State :=
  if !s.arrExists (s.argArray th) then s.bookPost th 0x0321 (s.book th).pos
  else if s.uncovered th = [] then s.writeEnd th
  else s.forceCovered th

/-- WRITE (R279 to R281). -/
def execWrite (th : Nat) (s : State) : Host.Outcome State Fault Refusal :=
  .next (s.bookStep th 0x002 (fun s =>
    match (s.book th).stage with
    | 0 => s.bookBegin th 3
        (s.dataStatus :: s.blockChecks th 65536 (s.book th).origin.isNone ++ [s.writeBarred (s.argArray th)])
        (fun s => s.setBook th { s.book th with stage := 1 })
    | 1 => s.writeRun th
    | 2 => s.writeData th
    | 3 => s.writeStored th
    | _ => s.writeCover th))

/-! ## FLUSH and DISCARD (R97, R146) -/

/-- Hand a call over a whole array to the other members of its span (R411). -/
def State.eachMember (s : State) (th p : Nat) : State :=
  let a := s.argArray th
  if (s.book th).origin.isSome then s
  else ((s.spanMembers a).filter (fun m => m != s.ownMember)).foldl (fun (s : State) m =>
    let id := (s.thr th).nextId
    (s.fedPart th m (some (bookXfer 2 0 0 0 a false false)) (.part p ((s.thr th).reg 1) (s.argBlock th) (s.argCount th) false
      [])).notePart th id 0 0) s

/-- FLUSH waits until everything acknowledged to the array before it began is past step 6 (R97). -/
def State.flushWait (s : State) (th : Nat) : State :=
  let st := (s.rangeStatus (s.argArray th) 0 0)
  if st ≠ 0 then s.bookPost th st 0
  else if s.uncovered th = [] then (s.mergeParts th).bookPost th ((s.mergeParts th).book th).status 0
  else s.forceCovered th

/-- FLUSH (R280). -/
def execFlush (th : Nat) (s : State) : Host.Outcome State Fault Refusal :=
  .next (s.bookStep th 0x003 (fun s =>
    match (s.book th).stage with
    | 0 => s.bookBegin th 2 [s.dataStatus, s.rangeStatus (s.argArray th) 0 0] (fun s =>
        let t := s.thr th
        (s.setThr th { t with covers := s.hoop.nextSeq - 1, book := { t.book with stage := 1 } }).eachMember th 3)
    | _ => s.flushWait th))

/-- The whole grains of a range: the first, and the one after the last (R146). -/
def State.wholeRange (s : State) (th : Nat) : Nat × Nat :=
  let gb := s.gblk (s.argArray th)
  (ceilDiv (s.argBlock th) gb, (s.argBlock th + s.argCount th) / gb)

/-- The newest version of a grain has not passed step 6 (R146). -/
def State.beforeStep6 (s : State) (a g : Nat) : Bool :=
  match s.newestVersion a g with
  | some v => !v.step6 && decide (s.passedSeq a g ≤ v.seq)
  | none => false

/-- The entry that a discard leaves a grain, none where it changes nothing (R146). -/
def State.discardEntry (s : State) (a g : Nat) : Option Nat :=
  let low := (s.mapGet a g).toNat % 2 ^ 48
  if mePinned low then none
  else if s.beforeStep6 a g then some (meMake pgaNone false true (mePoisoned low) false)
  else if meValid low then some (meMake (mePga low) false true (mePoisoned low) false)
  else none

/-- Discard one grain: it takes a sequence number like a version, and its entry changes by a kind 1 delta (R94, R146). -/
def State.discardGrain (s : State) (a g : Nat) : State :=
  match s.discardEntry a g with
  | none => s
  | some low =>
    let q := nextSeq s.hoop.nextSeq
    ({ s with hoop := { s.hoop with nextSeq := q + 1 } }).mapup a g 2 q low

/-- The grains of an array that are mapped, cached or in the hoop: no other grain is changed by a discard. -/
def State.knownGrains (s : State) (a : Nat) : List Nat :=
  let mapped : List Nat := (s.map.filter (fun e => e.1 / 2 ^ 40 == a)).map (fun e => e.1 % 2 ^ 40)
  let cached : List Nat := (s.mc.lines.filter (fun e => e.2.valid && e.2.tag / 2 ^ 40 == a)).flatMap
    (fun e => (List.range 8).map (fun k => e.2.tag % 2 ^ 40 * 8 + k))
  let held : List Nat := (s.hoop.versions.filter (fun v => v.array == a)).map (fun v => v.grain)
  (mapped ++ cached ++ held).eraseDups

/-- Discard the whole grains of the range that this device holds, while the delta log has room (R127, R146). -/
def State.discardRange (s : State) (th : Nat) : State :=
  let a := s.argArray th
  let r := s.wholeRange th
  let due (s : State) : List Nat := (s.knownGrains a).filter (fun g => decide (r.1 ≤ g ∧ g < r.2) && s.ownsGrain a g &&
    (s.discardEntry a g).isSome)
  let s1 := (due s).foldl (fun (s : State) g =>
    if s.deltaFits then (s.discardGrain a g).setBook th { s.book th with result := (s.book th).result + 1 }
    else s.setFlag F.ARR_DLOG_FULL true) s
  if due s1 = [] then
    (s1.setBook th { s1.book th with stage := 2, n := s1.pair.mirSeq, parts := [], outs := [] }).eachMember th 4
  else s1

/-- DISCARD (R146, R280). -/
def execDiscard (th : Nat) (s : State) : Host.Outcome State Fault Refusal :=
  .next (s.bookStep th 0x004 (fun s =>
    match (s.book th).stage with
    | 0 => s.bookBegin th 10 (s.dataStatus :: s.blockChecks th (2 ^ 32 - 1) false)
        (fun s => s.setBook th { s.book th with stage := 1 })
    | 1 => if s.arrExists (s.argArray th) then s.discardRange th else s.bookPost th 0x0321 0
    | _ => if s.durableAt (s.book th).n then
          (s.mergeParts th).bookPost th ((s.mergeParts th).book th).status (min (2 ^ 32 - 1) ((s.mergeParts th).book th).result)
        else s))

end Sys2Proof.Machine
end

