-- ==== Sys2Proof/Machine/Patterns.lean ====
section
/-! DEFINITION. PIN, SCRUB and the administration calls of the Pattern Book (R270 to R273, R275, R276, R282 to R288, R235), as the
programs that firmware ships run them (log entry 26). -/

namespace Sys2Proof.Machine

/-! ## Common parts -/

/-- The modes in which an administration call runs, by its pattern (R274). -/
def adminModes (p : Nat) : List Mode :=
  if p = 0x010 then [.standby, .maintenance]
  else if p = 0x011 ∨ p = 0x012 ∨ p = 0x01A then [.maintenance]
  else if p = 0x013 ∨ p = 0x014 then [.active, .maintenance]
  else [.standby, .active, .maintenance]

/-- The status that an administration call meets in the present mode and role, 0 for none (R275). -/
def State.adminStatus (s : State) (p : Nat) : Nat :=
  if s.paired && s.mode.cur == .standby && !s.holdsClaim && p != 0x010 && p != 0x020 && p != 0x021 then 0x0501
  else if (adminModes p).contains s.mode.cur then 0 else 0x0324

/-- The array exists and has not failed (R205, R278). -/
def State.liveArray (s : State) (a : Nat) : Nat := s.rangeStatus a 0 0

/-- A program goes to a stage. -/
def State.toStage (s : State) (th n : Nat) : State := s.setBook th { s.book th with stage := n, parts := [], outs := [] }

/-- A program reads an image of `len` bytes from the host into the skeins of handle 0; it ends with 0x0104 where the host cannot be
reached (R284, R342). -/
def State.readImage (s : State) (th addr len stage : Nat) : State :=
  let e := s.thEp th
  let n := ceilDiv len 4096
  if !s.thHostAllowed th addr len then s.bookFault th
  else if !s.hostReady e then s.bookPost th 0x0104 0
  else if s.tagsFree e = 0 then s
  else
    let id := (s.thr th).nextId
    (((s.bookRun th n stage).bookAsync th (.host []) (some (bookXfer 0 0 n addr 0 false false))).hostRead e (.thread th id) addr len
      false).1

/-- The status with which the read of an image ended. -/
def State.imageStatus (s : State) (th : Nat) : Nat := ((s.book th).outs.map (fun o => o.2.1 % 65536)).foldl worse 0

/-- The bytes of the image read. -/
def State.imageBytes (s : State) (th len : Nat) : List Byte :=
  ((s.runInfos th 0).flatMap (fun x => x.data.readBytes 0 4096)).take len

/-- A program waits until everything mirrored so far is durable, then posts (R89, R126). -/
def State.postDurable (s : State) (th status result : Nat) : State :=
  if s.durableAt (s.book th).n then s.bookPost th status result else s

/-! ## PIN and SCRUB (R148, R282, R283) -/

/-- Change PINNED of grains [g, g + n) that this device holds, while the delta log has room; the place reached is kept (R127, R282). -/
def State.pinRange (s : State) (th a : Nat) (set : Bool) : Nat → Nat → State
  | _, 0 => (s.setBook th { s.book th with stage := 2, n := s.pair.mirSeq })
  | g, n + 1 =>
    let low := (s.mapGet a g).toNat % 2 ^ 48
    let at_ := s.setBook th { s.book th with pos := g }
    if !s.ownsGrain a g || mePinned low == set then s.pinRange th a set (g + 1) n
    else if !s.deltaFits then at_.setFlag F.ARR_DLOG_FULL true
    else ((s.logEntry a g (putBit low 43 set)).setBook th { s.book th with result := (s.book th).result + 1 }).pinRange th a set (g + 1) n

/-- PIN (R282). -/
def execPin (th : Nat) (s : State) : Host.Outcome State Fault Refusal :=
  .next (s.bookStep th 0x006 (fun s =>
    let a := s.argArray th
    let r := s.wholeRange th
    match (s.book th).stage with
    | 0 => s.bookBegin th 10 (s.adminStatus 0x006 :: s.blockChecks th (2 ^ 32 - 1) false)
        (fun s => s.setBook th { s.book th with stage := 1, pos := r.1 })
    | 1 => if s.arrExists a then s.pinRange th a (bit (s.arg th 1) 8) (s.book th).pos (r.2 - (s.book th).pos) else s.bookPost th 0x0321 0
    | _ => s.postDurable th 0 (min (2 ^ 32 - 1) (s.book th).result)))

/-- The result word of SCRUB: per-mille of the pass, and running (R283). -/
def State.scrubResult (s : State) (a : Nat) : Nat :=
  let x := s.arr a
  let bands := (s.bandsOf a).filter (fun b => (s.band a b).state == .closed)
  let total := (bands.map (s.bandStripes a)).sum
  let seen := (bands.map (fun b => if b < x.scrubBand then s.bandStripes a b
    else if b = x.scrubBand then min x.scrubStripe (s.bandStripes a b) else 0)).sum
  (if x.scrubDone then 1000 else if total = 0 then 0 else 1000 * seen / total) + 2 ^ 10 * x.scrubRun.toNat

/-- SCRUB with its OP: start, stop or query (R283). -/
def State.scrubCall (s : State) (th op : Nat) : State :=
  s.bookStep th 0x008 (fun s =>
    if bits (s.arg th 1) 8 2 ≠ op then s
    else s.bookBegin th 16 [s.adminStatus 0x008, if s.arrExists (s.argArray th) then 0 else 0x0321, if op = 3 then 0x0323 else 0,
      s.liveArray (s.argArray th)] (fun s =>
        let a := s.argArray th
        let x := s.arr a
        let s1 := match op with
          | 0 => if x.scrubRun then s
            else if x.scrubDone then s.setArr a { x with scrubRun := true, scrubDone := false, scrubBand := 0, scrubStripe := 0 }
            else s.setArr a { x with scrubRun := true }
          | 1 => s.setArr a { x with scrubRun := false }
          | _ => s
        s1.bookPost th 0 (s1.scrubResult a)))

/-- SCRUB, OP 0 (R283). -/
def execScrubStart (th : Nat) (s : State) : Host.Outcome State Fault Refusal := .next (s.scrubCall th 0)

/-- SCRUB, OP 1 (R283). -/
def execScrubStop (th : Nat) (s : State) : Host.Outcome State Fault Refusal := .next (s.scrubCall th 1)

/-- SCRUB, OP 2, and the reserved OP 3, which is out of range (R278, R283). -/
def execScrubQuery (th : Nat) (s : State) : Host.Outcome State Fault Refusal :=
  .next (s.scrubCall th (if bits (s.arg th 1) 8 2 = 3 then 3 else 2))

/-! ## CONFIG, MEMBER_FAIL, LOG_CLEAR, ARRAY_RESIZE -/

/-- CONFIG stores the size of the hoop's data area for the next conventional reset (R284). -/
def execConfig (th : Nat) (s : State) : Host.Outcome State Fault Refusal :=
  .next (s.bookStep th 0x010 (fun s =>
    let v := bits (s.arg th 1) 0 7
    s.bookBegin th 16 [s.adminStatus 0x010, if v = 0 ∨ 64 < v then 0x0323 else 0, if s.dramBytes < s.dramNeed v 0 then 0x031A else 0]
      (fun s => ({ s with boot := { s.boot with hoopGib := v } }).bookPost th 0 v)))

/-- MEMBER_FAIL declares a sled failed with cause 5 (R196, R284). -/
def execMemberFail (th : Nat) (s : State) : Host.Outcome State Fault Refusal :=
  .next (s.bookStep th 0x014 (fun s =>
    let n := bits (s.arg th 1) 0 16
    s.bookBegin th 16 [s.adminStatus 0x014, if (s.sled n).enrolled then 0 else 0x0314]
      (fun s => (s.declareFailed n 5).bookPost th 0 0)))

/-- LOG_CLEAR empties the lost-stripe log (R218, R284). -/
def execLogClear (th : Nat) (s : State) : Host.Outcome State Fault Refusal :=
  .next (s.bookStep th 0x015 (fun s =>
    s.bookBegin th 16 [s.adminStatus 0x015] (fun s =>
      (({ s with lost := { s.lost with stripes := [] } }.setFlag F.ARR_LSL_STAT_OVF false).syncLost).bookPost th 0 s.lost.stripes.length)))

/-- Grains at or above a capacity are set to unmapped, while the delta log has room; older versions of them are overtaken (R94,
R235). -/
def State.trimGrains (s : State) (a g0 : Nat) : State × Bool :=
  let empty := meMake pgaNone false false false false
  let due (s : State) : List Nat := (s.knownGrains a).filter (fun g => decide (g0 ≤ g) && s.ownsGrain a g &&
    ((s.mapGet a g).toNat % 2 ^ 48 != empty || s.beforeStep6 a g))
  let s1 := (due s).foldl (fun (s : State) g =>
    if s.deltaFits then
      let q := nextSeq s.hoop.nextSeq
      ({ s with hoop := { s.hoop with nextSeq := q + 1 } }).mapup a g 2 q empty
    else s.setFlag F.ARR_DLOG_FULL true) s
  (s1, (due s1).isEmpty)

/-- ARRAY_RESIZE sets GRAINS (R235, R284). -/
def execArrayResize (th : Nat) (s : State) : Host.Outcome State Fault Refusal :=
  .next (s.bookStep th 0x013 (fun s =>
    let a := s.argArray th
    let new := bits (s.arg th 2) 0 40
    let old := s.f (F.ARR_GEOM_GRAINS a)
    let img := (s.armed a).getD []
    let set (s : State) : State := ((s.setF (F.ARR_GEOM_GRAINS a) new).syncArray a).mirrorRegs s a
    match (s.book th).stage with
    | 0 => s.bookBegin th 16 [s.adminStatus 0x013, s.liveArray a, if new = 0 then 0x0323 else 0,
        if decide (old < new) && s.aboveCapacity a new (s.gblk a) img then 0x031B else 0] (fun s => s.toStage th 1)
    | 1 =>
      if !s.arrExists a then s.bookPost th 0x0321 0
      else if old ≤ new then (set s).bookPost th 0 (new % 2 ^ 32)
      else
        let r := s.trimGrains a new
        if r.2 then
          let s1 := set r.1
          s1.setBook th { s1.book th with stage := 2, n := s1.pair.mirSeq }
        else r.1
    | _ => s.postDurable th 0 (old % 2 ^ 32)))

/-! ## Pricking calls (R67, R68, R284) -/

/-- The beginning of a call that uses the pricking engine (R68): a check that fails ends it, and PRK_STAT records that where the engine
is idle; an engine that runs another command or call ends it with 0x0317. -/
def State.engineBegin (s : State) (th need : Nat) (op : PrkOp) (slot busyResult : Nat) (checks : List Nat) (body : State → State) : State :=
  let st := firstStatus checks
  let s1 := if (((s.thr th).perm &&& need) == need) && st != 0 && s.prk.run.isNone then s.prkRecord op.code slot st else s
  s1.bookBegin th need checks (fun s => if s.prk.run.isSome then s.bookPost th 0x0317 busyResult else body s)

/-- A call that holds the engine ends with a status before its command begins: PRK_STAT records it (R68). -/
def State.engineFails (s : State) (th status result : Nat) : State :=
  (match s.prk.run with
    | some r => if r.th = some th then s.prkEnd { r with th := none } status else s
    | none => s).bookPost th status result

/-- A pricking call hands its command to the idle engine and waits for its end. -/
def State.askEngine (s : State) (th : Nat) (op : PrkOp) (slot : Nat) (image : List Byte) : State :=
  (s.toStage th 9).giveImage op slot image (some th)

/-- The engine has ended the call's command (R68). -/
def State.engineEnded (s : State) (th : Nat) : State :=
  match (s.book th).ended with
  | some (code, result) => s.bookPost th code result
  | none => s

/-- PRK_BIND, PRK_ARM and PRK_DROP (R284). -/
def State.prkCall (s : State) (th p : Nat) (op : PrkOp) : State :=
  s.bookStep th p (fun s =>
    if (s.book th).stage = 9 then s.engineEnded th
    else
      let slot := bits (s.arg th 1) 0 5
      s.engineBegin th 16 op slot (s.slot slot).state.code [s.adminStatus p] (fun s => s.askEngine th op slot []))

/-- PRK_LOAD: the image is read from the host first (R284). -/
def execPrkLoad (th : Nat) (s : State) : Host.Outcome State Fault Refusal :=
  .next (s.bookStep th 0x018 (fun s =>
    let slot := bits (s.arg th 1) 0 5
    match (s.book th).stage with
    | 0 => s.engineBegin th 17 .load slot (s.slot slot).state.code [s.adminStatus 0x018, if s.arg th 2 % 8 ≠ 0 then 0x0323 else 0] (fun s =>
        if s.hostReady (s.thEp th) then ((s.takeEngine th slot .load).toStage th 1) else s.engineFails th 0x0104 (s.slot slot).state.code)
    | 1 => s.readImage th (s.arg th 2) 512 2
    | 2 => if s.imageStatus th ≠ 0 then s.engineFails th (s.imageStatus th) (s.slot slot).state.code
      else s.askEngine th .load slot (s.imageBytes th 512)
    | _ => s.engineEnded th))

/-- PRK_BIND (R284). -/
def execPrkBind (th : Nat) (s : State) : Host.Outcome State Fault Refusal := .next (s.prkCall th 0x019 .bind)

/-- PRK_ARM (R284). -/
def execPrkArm (th : Nat) (s : State) : Host.Outcome State Fault Refusal := .next (s.prkCall th 0x01A .arm)

/-- PRK_DROP (R284). -/
def execPrkDrop (th : Nat) (s : State) : Host.Outcome State Fault Refusal := .next (s.prkCall th 0x01B .drop)

/-! ## ARRAY_CREATE and ARRAY_DELETE (R285, R286, R410) -/

/-- The arguments of ARRAY_CREATE: GRAIN, PIFMT, PITYPE, GRAINS, LIMIT, SLOT (R285). -/
def State.createArgs (s : State) (th : Nat) : Nat × Nat × Nat × Nat × Nat × Nat :=
  let w := s.arg th 1
  (bits w 4 2, bits w 6 2, bits w 8 2, bits (s.arg th 2) 0 40, bits (s.arg th 3) 0 21, bits (s.arg th 5) 0 5)

/-- Ask every other member of the span for its FED_SPAN (R410). -/
def State.askSpan (s : State) (th : Nat) : State :=
  let a := s.argArray th
  ((s.spanMembers a).filter (fun m => m != s.ownMember)).foldl (fun (s : State) m =>
    let id := (s.thr th).nextId
    (s.fedPart th m (some (bookXfer 2 0 0 0 a false false)) (.span a)).notePart th id 0 0) s

/-- The span of the array is consistent: this device is in it, and every member answered with the same mask and no other array
(R410). -/
def State.spanOk (s : State) (th : Nat) : Bool :=
  let a := s.argArray th
  (s.spanMembers a == [] || (s.spanMembers a).contains s.ownMember) && (s.book th).outs.all (fun o => o.2.1 % 65536 == 0)

/-- Checks 3 and 4 of R285: argument ranges, PITYPE 2. -/
def State.createRange (s : State) (th : Nat) : Nat :=
  match s.createArgs th with
  | (grain, pifmt, pitype, grains, limit, _) =>
    if grain = 3 ∨ pifmt = 3 ∨ (pitype = 0 ∧ pifmt ≠ 0) ∨ grains = 0 ∨ limit = 0 ∨ s.arg th 4 % 8 ≠ 0 then 0x0323
    else if pitype = 2 then 0x031D else 0

/-- Checks 5 to 10 of R285, with the slot's and the engine's state (R65), for the image read. -/
def State.createCheck (s : State) (th : Nat) (img : List Byte) : Nat :=
  match s.createArgs th with
  | (grain, _, _, grains, limit, slot) =>
    let a := s.argArray th
    let blk := grainBlocks grain
    let e := (s.sled (pkMember img 0)).eraseBytes
    firstStatus [
      if (s.slot slot).state ≠ .empty then 0x0317 else 0,
      pkLoadCheck s.hw.variant.net (pkArray img == a) img,
      s.memberCheck img,
      if wholeGrains img blk then 0 else 0x0311,
      if s.dramBytes < s.dramNeed (s.f F.HOOP_SIZE_SIZE_GIB) (8 * s.ownGrains a grains + limit * bandRecordBytes (pkN img)) then 0x031A else 0,
      if (s.bitmapFree (rbLen limit (rbLog2 e))).isSome then 0 else 0x0319,
      if s.aboveCapacity a grains blk img then 0x031B else 0]

/-- ARRAY_CREATE's pricking is written as ARM writes it (R285). -/
def State.createBegin (s : State) (th : Nat) (img : List Byte) : State :=
  match s.createArgs th with
  | (grain, pifmt, pitype, grains, limit, slot) =>
    let a := s.argArray th
    let r : PrkRun := { op := .arm, slot, image := img, th := some th, create := some (a, grain, pifmt, pitype, grains, limit)
                        waits := pkMembers img, failed := false, done := none, silent := s.prk.run.any (fun r => r.silent), ready := true }
    (((((s.toStage th 9).setRun (some r)).setFlag F.PRK_STAT_BUSY true).setF F.PRK_STAT_OP 3).setF F.PRK_STAT_SLOT slot).writePricking a
      slot img

/-- ARRAY_CREATE (R285). -/
def execArrayCreate (th : Nat) (s : State) : Host.Outcome State Fault Refusal :=
  .next (s.bookStep th 0x011 (fun s =>
    match (s.book th).stage with
    | 0 => s.engineBegin th 17 .arm (bits (s.arg th 5) 0 5) 0 [s.adminStatus 0x011, if s.arrExists (s.argArray th) then 0x0322 else 0]
        (fun s => ((s.takeEngine th (bits (s.arg th 5) 0 5) .arm).toStage th 1).askSpan th)
    | 1 =>
      if !s.spanOk th then s.engineFails th 0x0325 0
      else if s.createRange th ≠ 0 then s.engineFails th (s.createRange th) 0
      else if !s.hostReady (s.thEp th) then s.engineFails th 0x0104 0
      else s.readImage th (s.arg th 4) 512 2
    | 2 =>
      let img := s.imageBytes th 512
      let st := firstStatus [s.imageStatus th, s.adminStatus 0x011, if s.arrExists (s.argArray th) then 0x0322 else 0, s.createCheck th img]
      if st ≠ 0 then s.engineFails th st 0 else s.createBegin th img
    | _ => s.engineEnded th))

/-- The slots that hold an array's ARMED and RETIRING prickings. -/
def State.slotsOf (s : State) (a : Nat) : List Nat :=
  (List.range 32).filter (fun i => pkArray (s.slot i).image == a &&
    (decide ((s.slot i).state = .armed) || decide ((s.slot i).state = .retiring)))

/-- Begin a deletion: hoop blocks and couching entries go, and the marker of the highest generation goes to the members (R286 steps 1
and 2). -/
def State.deleteBegin (s : State) (th a : Nat) : State :=
  let l := s.slotsOf a
  let gen := l.foldl (fun g i => if serialAbove (pkGen (s.slot i).image) g then pkGen (s.slot i).image else g) 0
  let sleds := ((l.flatMap (fun i => pkMembers (s.slot i).image)).eraseDups).filter (fun n => (s.sled n).enrolled && (s.sled n).reachable)
  let s1 := (s.endReads a).endCommits a
  let p := { s1.prk with
    switching := s1.prk.switching.filter (fun x => !l.contains x.1)
    markerWaits := s1.prk.markerWaits.filter (fun m => !l.contains m.1) ++ sleds.map (fun n => (32 + a, n)) }
  let s2 : State := { s1 with hoop := s1.hoop.without a, prk := p }
  (((s2.syncDirty.putMarker { array := a, generation := gen, tbase := s.tbase }).sendMarker a gen sleds).setBook th { (s.book th) with stage := 1, n := gen })

/-- The erases that are due for the blocks of an array's bands: sled, block, mode (R150, R286). -/
def State.deleteErases (s : State) (a : Nat) : List (Nat × Nat × Bool) :=
  (s.bandsOf a).flatMap (fun b =>
    let x := s.band a b
    let img := s.prickingOf a x.generation
    (x.blocks.zipIdx.filter (fun e => e.1 != noBlock && !(s.sled (pkMember img e.2)).failed)).map
      (fun e => (pkMember img e.2, e.1, x.kind.slc)))

/-- The array is gone, and its blocks are erased in the background (R286 steps 2 to 4). Without the last array the vault state knows no
pair identity, and a unit that found another one pairs again (R381). -/
def State.deleteEnd (s : State) (th a : Nat) : State :=
  let l := s.slotsOf a
  let due := s.deleteErases a
  let s2 : State := { s with prk := { s.prk with markerWaits := s.prk.markerWaits.filter (fun m => m.1 != 32 + a) } }
  let s3 := (l.foldl (fun (s : State) i => s.setSlot i (slotReset 0)) s2).purgeArray a
  let s4 := (s3.mirror (.deleted a)).chooseCopies
  let s5 := due.foldl (fun (s : State) e => s.sendSled e.1 (.erase e.2.1 e.2.2) a false (.erase (16 + a) 0 e.2.1 false)) s4
  let s6 : State := if s5.anyArray then s5 else { s5 with pair := { s5.pair with storedId := none, mismatch := false } }
  s6.bookPost th 0 0

/-- ARRAY_DELETE (R286). -/
def execArrayDelete (th : Nat) (s : State) : Host.Outcome State Fault Refusal :=
  .next (s.bookStep th 0x012 (fun s =>
    let a := s.argArray th
    match (s.book th).stage with
    | 0 => s.bookBegin th 16 [s.adminStatus 0x012, if s.arrExists a then 0 else 0x0321] (fun s => s.deleteBegin th a)
    | _ =>
      let left := s.prk.markerWaits.filter (fun m => m.1 == 32 + a && (s.sled m.2).usable)
      if !s.arrExists a then s.bookPost th 0x0321 0
      else if left = [] then s.deleteEnd th a
      else s.sendMarker a (s.book th).n (left.map (fun m => m.2))))

/-! ## Program load and unload (R270 to R273, R287, R288) -/

/-- Another call loads or unloads the pattern index (R272). -/
def State.switchingNow (s : State) (th p : Nat) : Bool :=
  s.threads.any (fun t => t.1 != th && t.2.native && (t.2.pattern == 0x020 || t.2.pattern == 0x021) && decide (2 ≤ t.2.book.stage) &&
    t.2.book.stage != bookLast && t.2.book.n == p)

/-- Fields of a program header (R270). -/
def imNum (bs : List Byte) (o n : Nat) : Nat := leNat ((bs.drop o).take n)

/-- The header checks of R272 step 1, and the length that word 2 gives (R284, R287). -/
def State.progCheck (s : State) (th : Nat) (bs : List Byte) : Nat :=
  let zero (o n : Nat) : Bool := ((bs.drop o).take n).all (fun b => b == 0)
  let count := imNum bs 8 4
  let p := imNum bs 6 2
  if imNum bs 0 4 ≠ 0x50494E51 ∨ imNum bs 4 1 ≠ 1 ∨ !(zero 5 1 && zero 0x12 6 && zero 0x20 28) ∨
      imNum bs 0x3C 4 ≠ crc32c (bs.take 0x3C ++ bs.drop 64) then 0x0410
  else if count = 0 ∨ 65535 < count ∨ count ≤ imNum bs 0xC 4 ∨ imNum bs 0x10 2 = 0 ∨ 4095 < imNum bs 0x10 2 then 0x0411
  else if bs.length ≠ 64 + 8 * count then 0x0323
  else if 4096 ≤ p ∨ p = 0x010 ∨ p = 0x011 ∨ p = 0x020 ∨ p = 0x021 then 0x0413
  else if s.switchingNow th p then 0x0414
  else 0

/-- The lowest free extent of `n` instructions of program memory (R272; log entry 15). -/
def State.freeExtent (s : State) (n : Nat) : Option Nat :=
  let free (b : Nat) : Bool := decide (b + n ≤ 65536) && s.extents.all (fun x => decide (b + n ≤ x.base) || decide (x.base + x.length ≤ b))
  ((0 :: s.extents.map (fun x => x.base + x.length)).filter free).foldl
    (fun m b => match m with | none => some b | some x => some (min x b)) none

/-- The cluster copies of an entry are written, in ascending cluster order (R272). -/
def State.putCopies (s : State) (p : Nat) (f : Nat → Nat) : State :=
  s.clusters.foldl (fun (s : State) c => s.setReg (R.SE_PTAB c p) (BitVec.ofNat 64 (f (s.ptab c p)))) s

/-- Extents of a pattern but the one at `keep` are retired: freed once no thread runs them (R272, R273). -/
def State.retireExtents (s : State) (p : Nat) (keep : Option Nat) : State :=
  ({ s with extents := s.extents.map (fun (x : Extent) =>
      if x.pattern == p && some x.base != keep then { x with retired := true } else x) }).reapExtents

/-- Steps 2 to 4 of R272 for an image that passed step 1: measured, copied, the cluster copies written with SWITCHING set. -/
def State.progInstall (s : State) (th : Nat) (bs : List Byte) : State :=
  let p := imNum bs 6 2
  let count := imNum bs 8 4
  if s.flag F.DEV_MEAS_STAT_FULL then s.bookPost th 0x0415 0
  else
    let s1 := s.measure 6 p (Config.sha384 bs) (BitVec.ofNat 64 (imNum bs 0x18 8))
    match s1.freeExtent count with
    | none => s1.bookPost th 0x0412 0
    | some base =>
      let e := base + 2 ^ 16 * count + 2 ^ 32 * imNum bs 0xC 4 + 2 ^ 48 * imNum bs 0x10 2 + 2 ^ 60 + 2 ^ 61 + 2 ^ 63
      let words (c : Nat) (m : Tbl Word) : Tbl Word := (List.range count).foldl (fun t k =>
        Tbl.set wordZero t (c * 65536 + base + k) (BitVec.ofNat 64 (imNum bs (64 + 8 * k) 8))) m
      let s2 : State := { s1 with pmem := s1.clusters.foldl (fun m c => words c m) s1.pmem }
      let s3 : State := { s2 with extents := s2.extents ++ [{ pattern := p, base, length := count, retired := false }] }
      (s3.putCopies p (fun _ => e)).setBook th { s3.book th with
        stage := 2, n := p, pos := base, result := if imNum bs 0x18 8 < 2 ^ 63 then 1 else 0 }

/-- PROG_LOAD (R272, R284, R287). The old code stays resident until step 5 (R273). -/
def execProgLoad (th : Nat) (s : State) : Host.Outcome State Fault Refusal :=
  .next (s.bookStep th 0x020 (fun s =>
    let len := bits (s.arg th 2) 0 32
    let b := s.book th
    match b.stage with
    | 0 => s.bookBegin th 17 [s.adminStatus 0x020,
        if s.arg th 1 % 8 ≠ 0 ∨ len < 72 ∨ 64 + 8 * 65535 < len ∨ len % 8 ≠ 0 then 0x0323 else 0] (fun s => s.readImage th (s.arg th 1) len 1)
    | 1 =>
      let bs := s.imageBytes th len
      let st := firstStatus [s.imageStatus th, s.progCheck th bs]
      if st ≠ 0 then s.bookPost th st 0 else s.progInstall th bs
    | 2 => (s.putCopies b.n (fun e => e - (if ptSwitching e then 2 ^ 61 else 0))).toStage th 3
    | _ =>
      let e := BitVec.ofNat 64 (s.ptab (s.clusters.headD 0) b.n)
      let clear := decide (b.result = 1) && (bookMask b.n).isSome
      let s1 : State := { s with
        master := Tbl.set wordZero s.master b.n e, maskCleared := Tbl.set maskReset s.maskCleared b.n clear }
      (s1.retireExtents b.n (some b.pos)).bookPost th 0 (b.n + 2 ^ 12 * b.pos)))

/-- PROG_UNLOAD: SWITCHING shows while it runs (R271); a host-loaded program goes; at a Pattern Book index the shipped one returns (R272, R284, R288). -/
def execProgUnload (th : Nat) (s : State) : Host.Outcome State Fault Refusal :=
  .next (s.bookStep th 0x021 (fun s =>
    let p := bits (s.arg th 1) 0 12
    let shipped := (bookMask p).isSome
    match (s.book th).stage with
    | 0 => s.bookBegin th 16 [s.adminStatus 0x021, if ptHost (s.masterEntry p) then 0 else 0x0413,
        if s.switchingNow th p then 0x0414 else 0] (fun s =>
          let s1 : State := if shipped then s else { s with master := Tbl.set wordZero s.master p 0 }
          (s1.putCopies p (fun e => e + (if ptSwitching e then 0 else 2 ^ 61))).setBook th { s1.book th with stage := 2, n := p })
    | 2 =>
      if shipped then (s.putCopies p (fun _ => bookEntry.toNat + 2 ^ 61)).toStage th 3
      else ((s.putCopies p (fun _ => 0)).retireExtents p none).bookPost th 0 0
    | _ =>
      let s1 := (s.putCopies p (fun _ => bookEntry.toNat)).retireExtents p none
      let s2 : State := { s1 with
        master := Tbl.set wordZero s1.master p bookEntry, maskCleared := Tbl.set maskReset s1.maskCleared p false }
      s2.bookPost th 0 0))

end Sys2Proof.Machine
end

