-- ==== Sys2Proof/Machine/Registers.lean ====
section
/-! DEFINITION. Reading and writing BAR0 (R12 to R15, R23, R28, R35, R457 to R474): what every register reads as, and where a
write goes. -/

namespace Sys2Proof.Machine

/-! ## Words of data windows -/

/-- Word `w` of a byte string; zero beyond its end. -/
def wordOf (bs : List Byte) (w : Nat) : Nat := leNat ((bs.drop (8 * w)).take 8)

/-- The 32 bytes of a ledger record (R414). -/
def LedgerRec.bytes (r : LedgerRec) : List Byte :=
  let b := leBytes 4 r.bootNo ++ leBytes 1 r.step ++ leBytes 1 r.event ++ leBytes 1 r.alt ++ leBytes 1 r.unit ++
    leBytes 8 r.tbase.toNat ++ leBytes 4 r.detail ++ leBytes 8 0
  b ++ leBytes 4 (crc32c b)

/-- The 16 words of a measurement log entry (R417). -/
def MeasEntry.word (e : MeasEntry) (w : Nat) : Nat :=
  (Config.measWord e.slot e.kind e.digest e.pattern e.version e.tbase w).toNat

/-- The 32 bytes of a fault record (R273). -/
def FaultRec.bytes (r : FaultRec) : List Byte :=
  leBytes 8 r.w0.toNat ++ leBytes 8 r.w1.toNat ++ leBytes 8 r.w2.toNat ++ leBytes 8 r.w3.toNat

/-- The 16 bytes of an always-on record (R444). -/
def AonRec.bytes (r : AonRec) : List Byte := leBytes 8 r.tbase.toNat ++ leBytes 2 r.code ++ leBytes 6 r.detail.toNat

/-- A fault record never written. -/
def noFault (_ : Nat) : FaultRec := { w0 := 0, w1 := 0, w2 := 0, w3 := 0 }

/-! ## Registers that follow other state -/

/-- The endpoint's data link is up: power, no PERST#, no Flush. -/
def State.hostUp (s : State) (e : Nat) : Bool := !s.hostDown && (e == 0 || s.bifurcated)

/-- HE_LINK (R353): the rates and widths are the link partner's to settle (log entry 2). -/
def State.heLink (s : State) : Nat :=
  let b (k w : Nat) : Nat := (Config.boardValue k).toNat % 2 ^ w
  let e0 := if s.hostUp 0 then b 1 4 + 2 ^ 4 * b 2 5 + 2 ^ 9 * b 3 1 + 2 ^ 11 else 0
  let e1 := if s.hostUp 1 then 2 ^ 12 * b 4 4 + 2 ^ 16 * b 5 5 + 2 ^ 21 * b 6 1 + 2 ^ 22 else 0
  e0 + e1 + 2 ^ 10 * s.bifurcated.toNat

/-- HOOP_STAT's wait bits (R82, R86). -/
def State.hoopWaits (s : State) (v : Nat) : Nat :=
  let l := s.commitWaits
  let limit := l.any (fun x => decide (s.dirtyLimit < s.dirtyBlocks + s.newDirty x.1) && decide (0 < s.dirtyBlocks))
  let bank := !l.isEmpty && !s.flag F.HU_STAT_HEALTHY
  let peer := l.any (fun x => !s.durableAt x.2)
  putBit (putBit (putBit v 32 limit) 33 bank) 34 peer

/-- CLOG_STAT.FULL (R96): a stripe waits for a couching entry, of a thread's OPEN or of the device's own writer. -/
def State.stripesWait (s : State) : Bool :=
  s.freeCentry.isNone && (s.hoop.jobs.any (fun j => j.entry.isNone) ||
    s.hoop.copyGather.any (fun e => decide (0 < s.stripeGrains (e.1 / 32) (e.1 / 4 % 8) .reloc ∧
      s.stripeGrains (e.1 / 32) (e.1 / 4 % 8) .reloc ≤ e.2.length)) ||
    s.threads.any (fun t => t.2.asyncs.any (fun o => match o.wait with | .stripeOpen .. => true | _ => false)))

/-- DRB_DATA: 64 regions of the bitmap (R106). -/
def State.bitmapWord (s : State) : Nat :=
  let w := s.f F.DRB_SEL_WORD
  ((List.range 64).map (fun i => if Tbl.get regionReset s.hoop.bitmap (64 * w + i) then 2 ^ i else 0)).sum

/-- ARR_MBR of the member that ARR_MBR_SEL names (R221). -/
def State.memberView (s : State) (a : Nat) : Nat :=
  let img := if s.flag (F.ARR_MBR_SEL_PRK a) then s.retiring a else s.armed a
  let none_ := 0xFFFF + 2 ^ 16 * 3
  match img with
  | none => none_
  | some img =>
    let k := s.f (F.ARR_MBR_SEL_INDEX a)
    if pkN img ≤ k then none_
    else
      let n := pkMember img k
      let x := s.sled n
      if !x.failed then n
      else
        let todo := (s.rebuildWork a).any (fun w => (s.stripeHolders a w.1 w.2).contains n)
        n + 2 ^ 16 * (if todo then 1 else 2) + 2 ^ 18 * x.cause + 2 ^ 32 * x.tfail

/-- The lost-stripe record that ARR_LSL_SEL names (R218, R221). -/
def State.lslWord (s : State) : Nat :=
  match s.lost.stripes[s.f F.ARR_LSL_SEL_RECORD]? with
  | some x => wordOf x.bytes (s.f F.ARR_LSL_SEL_WORD)
  | none => 0

/-- Tags of a port outstanding, and those reserved under R199. -/
def State.portTags (s : State) (p : Nat) : Nat × Nat :=
  let l := s.sledCmds.filter (fun e => e.1 / 512 == p)
  ((l.filter (fun e => e.2.timedOut.isNone)).length, (l.filter (fun e => e.2.timedOut.isSome)).length)

/-- SE_STAT of a cluster (R273). -/
def State.seStat (s : State) (c : Nat) : Nat :=
  let busy := (s.threads.filter (fun e => thCluster e.1 == c && (e.2.running || decide (e.2.wait = .ending)))).length
  let used := (s.skeinUsed.filter (fun e => e.2 && decide (c * 1024 ≤ e.1 ∧ e.1 < c * 1024 + 1024))).length
  let edges := 0 :: s.extents.map (fun x => x.base + x.length)
  let gap (b : Nat) : Nat :=
    if s.extents.any (fun x => decide (x.base ≤ b ∧ b < x.base + x.length)) then 0
    else (s.extents.foldl (fun m x => if b ≤ x.base then min m x.base else m) 65536) - b
  8 + 2 ^ 8 * busy + 2 ^ 16 * (1024 - used) + 2 ^ 32 * ((edges.map gap).foldl max 0)

/-- SE_THR of a thread (R273). -/
def State.seThr (s : State) (th : Nat) : Nat :=
  let t := s.thr th
  let st := if t.wait = .ending then 2
    else if !t.running then 0
    else match t.wait with
      | .waitev .. => 3
      | .none => if t.native then (if t.asyncs.isEmpty then 1 else 2) else if s.stalls th (iword (s.curWord th)) then 2 else 1
      | _ => 2
  st + 2 ^ 2 * (thDevWork th).toNat +
    (if st = 0 then 0 else 2 ^ 4 * (t.pattern % 4096) + 2 ^ 16 * (t.pc % 65536) + 2 ^ 32 * t.held)

/-- The states of 16 slots from `q` on, four bits each (R64). -/
def State.slotStates (s : State) (q : Nat) : Nat :=
  ((List.range 16).map (fun i => 2 ^ (4 * i) * (s.slot (q + i)).state.code)).sum

/-- LEASE_LEFT in units of 1,000 ticks (R391). -/
def State.leaseLeft (s : State) : Nat :=
  match s.pair.lease with
  | some t => if s.role = 1 ∧ s.pair.leaseLost.isNone then (1400000 - (s.tbase - t).toNat) / 1000 else 0
  | none => 0

/-- The selected sensor (R438). -/
def State.sensorView (s : State) : Nat :=
  let i := s.f F.TEMP_SEL_SENSOR
  if 28 ≤ i then 0 else (s.sensor i).cur % 256 + 2 ^ 8 * ((s.sensor i).max % 256) + 2 ^ 16 * ((s.sensor i).min % 256)

/-- A register's value where hardware derives part or all of it; its stored value elsewhere. -/
def State.derived (s : State) (off : Nat) : Nat :=
  let v := (s.reg off).toNat
  match blockOf off with
  | .global =>
    if off = R.DEV_ID then s.hw.variant.devId
    else if off = R.DEV_CAP0 then s.hw.variant.cap0
    else if off = R.DEV_MODE then s.mode.value
    else if off = R.DEV_STATUS then s.devStatus
    else if off = R.DEV_TBASE then s.tbase.toNat
    else if off = R.DEV_LEDGER_DATA then
      match Tbl.get noLedger s.boot.ledger (s.f F.DEV_LEDGER_SEL_RECORD) with
      | some r => wordOf r.bytes (s.f F.DEV_LEDGER_SEL_WORD)
      | none => 0
    else if off = R.DEV_MEAS_DATA then
      let w := s.f F.DEV_MEAS_SEL_WORD
      if s.flag F.DEV_MEAS_SEL_SLOT then
        wordOf (digestBytes (Tbl.get measReset s.boot.slots (s.f F.DEV_MEAS_SEL_ENTRY % 16))) w
      else match s.boot.mlog[s.f F.DEV_MEAS_SEL_ENTRY]? with
        | some e => e.word w
        | none => 0
    else v
  | .windows =>
    if off = R.HE_LINK then s.heLink
    else if off = R.HE_BUF_BASE then s.bufBase
    else if off = R.HE_DUMP_BASE then s.dumpBase
    else v
  | .hoop => if off = R.HOOP_STAT then s.hoopWaits v else if off = R.DRB_DATA then s.bitmapWord
      else if off = R.CLOG_STAT then putBit v 16 s.stripesWait else v
  | .shuttle =>
    if off = R.SHT_DONE then
      putBits v 32 32 (((List.range 32).map (fun n => if s.f (F.SHT_CH_STAT_STATE n) = 2 then 2 ^ n else 0)).sum)
    else v
  | .arrays =>
    match arrayOf off with
    | some a =>
      if off = R.ARR_MBR a then s.memberView a
      else if off = R.ARR_GC a then putBits (putBits v 11 21 (s.gcShown a).1) 32 32 (s.gcShown a).2
      else if off = R.ARR_RB_POS a then
        let p := s.rbPos a
        p.1 + 2 ^ 4 * p.2.1 + 2 ^ 32 * p.2.2.1 + 2 ^ 56 * p.2.2.2
      else ((s.syncReshape a).reg off).toNat
    | none =>
      if off = R.ARR_LATE then
        putBits v 32 15 (s.sledCmds.filter (fun e => e.2.timedOut.isSome)).length
      else if off = R.ARR_LSL_DATA then s.lslWord
      else if off = R.PRK_SLOTS0 then s.slotStates 0
      else if off = R.PRK_SLOTS1 then s.slotStates 16
      else if 0xD0000 ≤ off then wordOf (s.slot ((off - 0xD0000) / 512)).image ((off - 0xD0000) % 512 / 8)
      else v
  | .bobbin =>
    let p := (off - 0x200000) / 0x1000
    let h := (off % 0x1000 - 0x100) / 0x40
    if off = R.BP_TAGS p then (s.portTags p).1 + 2 ^ 16 * (s.portTags p).2
    else if off = R.BP_HOP_STAT p h then putBits v 8 2 (s.indicator p h)
    else v
  | .pair =>
    if off = R.PAIR_CTL then
      putBit (putBit (putBit v 0 s.hw.straps.pairEn) 1 s.hw.straps.prefer) 2 s.hw.straps.plink
    else if off = R.PAIR_CLAIM then putBits v 32 16 s.leaseLeft
    else if off = R.PAIR_ID0 then (s.pairId.map (fun x => x.1)).getD 0
    else if off = R.PAIR_ID1 then (s.pairId.map (fun x => x.2)).getD 0
    else if off = R.WIT_STAT ∧ s.flag F.PAIR_STAT_WIT_UP then
      putBits (putBits v 0 8 (Config.boardValue 7).toNat) 8 2 (Config.boardValue 8).toNat
    else v
  | .fed => if off = R.FED_STAT then putBits v 0 3 s.hw.straps.devid else v
  | .power =>
    if off = R.HU_CAP then putBits v 32 32 (min (2 ^ 32 - 1) ((s.tbase - s.power.lastTest).toNat / 100000000))
    else if off = R.TEMP_DATA then s.sensorView
    else v
  | .health =>
    if off = R.HLTH_STAT then s.health.readable.length + 2 ^ 32 * s.f F.HLTH_CTL_FREEZE
    else if off = R.HLTH_DATA then wordOf s.health.readable (s.f F.HLTH_SEL_WORD)
    else if off = R.ELOG_DATA then
      match Tbl.get noRec s.elog.slots (s.f F.ELOG_SEL_RECORD) with
      | some r => wordOf r.bytes (s.f F.ELOG_SEL_WORD)
      | none => 0
    else v
  | .clusters =>
    let c := (off - 0x600000) / 0x40000
    let o := (off - 0x600000) % 0x40000
    if o = 0 then s.seStat c
    else if off = R.SE_FLT_DATA c then
      wordOf (Tbl.get noFault s.faults (c * 256 + s.f (F.SE_FLT_SEL_RECORD c))).bytes (s.f (F.SE_FLT_SEL_WORD c))
    else if 0x1000 ≤ o ∧ o < 0x1400 then s.seThr (128 * c + (o - 0x1000) / 8)
    else v
  | _ => v

/-- What an aligned 8-byte read of a register returns (R12, R13, R35, R458): zero where the register is absent or its block is not
served; write-only fields read zero. -/
def State.readReg (s : State) (off : Nat) : Word :=
  if s.served off && !s.hostDown then BitVec.ofNat 64 (s.derived off &&& readMask off) else 0

/-- A read of `size` bytes at an offset (R12): any other size or alignment returns zero; the upper half of DEV_TBASE is the latched
one (R28). -/
def State.readHost (s : State) (off size : Nat) : Word :=
  if off % size ≠ 0 then 0
  else if size = 8 then s.readReg off
  else if size = 4 then
    if off = R.DEV_TBASE + 4 then (if s.hostDown then 0 else BitVec.ofNat 64 s.tbaseLatch)
    else BitVec.ofNat 64 (bits (s.readReg (regBase off)).toNat (8 * (off % 8)) 32)
  else 0

/-- A 4-byte read of DEV_TBASE[31:0] latches the upper half, which the next such read of [63:32] returns (R28); without Memory Space
Enable it completes as Unsupported Request (R343). -/
def execDevTbaseLowRead (ep : Nat) (s : State) : Host.Outcome State Fault Refusal :=
  .next (
    let e := if s.bifurcated then ep % 2 else 0
    if s.hostDown then s
    else if !(s.ep e).open_ then (s.send (.unsupported e)).aer e .unsupportedRequest
    else ({ s with tbaseLatch := bits s.tbase.toNat 32 32 }).send (.completion e (leBytes 4 s.tbase.toNat) false))

/-! ## Writes -/

/-- DEV_LOCK is written (R462): a 1 sets LOCK; once set, writes are ignored. -/
def State.writeLock (s : State) (off size : Nat) (value : Word) : State :=
  s.gate off size value (fun s =>
    if bit (writtenValue off size value &&& writtenMask off size) 0 && off % 8 == 0 then s.setFlag F.DEV_LOCK_LOCK true else s)

/-- DEV_LOCK.LOCK is written as 1 (R462). -/
def execDevLockSet (size : Nat) (value : Word) (s : State) : Host.Outcome State Fault Refusal :=
  .next (s.writeLock R.DEV_LOCK size (value ||| 1))

/-- A served write of a register without a command: RWL fields ignored and logged while DEV_LOCK is set (R13, R462). -/
def State.plainWrite (s : State) (off size : Nat) (value : Word) : State :=
  let s1 := s.storeReg off size value
  if s.lockedWrite off size then s1.regNotice 3 off value else s1

/-- DEV_BOOT_CTL.RETRY is written (R415, R462). -/
def State.writeBootCtl (s : State) (off size : Nat) (value : Word) : State :=
  if s.flag F.DEV_POLICY_RETRY_DIS && bit (writtenMask off size) 0 then s.regNotice 3 off value else s.storeReg off size value

/-- PWR_PF.THRESH_PM is written: TRIP_MV follows (R424). -/
def State.writePwrPf (s : State) (off size : Nat) (value : Word) : State :=
  let s1 := s.storeReg off size value
  s1.setF F.PWR_PF_TRIP_MV (max (s1.f F.PWR_PF_THRESH_PM * s1.f F.PWR_PF_VBOOT_MV / 1000) 4200)

/-- Only the lower half of a register carries its command: a 4-byte write of the upper half is discarded (R12). -/
def State.lowHalf (s : State) (off size : Nat) (value : Word) (k : State → State) : State :=
  if size = 4 ∧ off % 8 = 4 then s.gate off size value (fun s => s.regNotice 2 off value) else k s

/-- What a write of an array's control registers changes at once: PAUSE of rebuild (R211), the thresholds of collection (R139). -/
def State.syncCtl (s : State) (a b : Nat) : State :=
  if b = R.ARR_RB_CTL a then s.syncMembers a else if b = R.ARR_GC_CTL a then (s.syncArray a).syncSpace a else s

/-- Where a write to BAR0 goes, by its offset: the operation of the register's row, or a plain write. -/
def State.writeAt (s : State) (ep off size : Nat) (value : Word) : State :=
  let b := regBase off
  let plain (s : State) : State := s.gate off size value (fun s => s.plainWrite off size value)
  if ¬ (size = 4 ∨ size = 8) ∨ off % size ≠ 0 then s.gate off size value id
  else match blockOf off with
    | .global =>
      if b = R.DEV_MODE then s.writeMode off size value
      else if b = R.DEV_LOCK then s.writeLock off size value
      else if b = R.DEV_FW then s.writeFw off size value
      else if b = R.DEV_BOOT_CTL then s.gate off size value (fun s => s.writeBootCtl off size value)
      else plain s
    | .rings =>
      let r := (b - 0x10000) / 0x40 % 1024
      if b = R.SQ_CTL r then s.gate off size value (fun s => s.writeSqCtl r off size value)
      else if b = R.CQ_CTL r then s.gate off size value (fun s => s.writeCqCtl r off size value)
      else plain s
    | .doorbells =>
      let r := (b - 0x100000) / 16
      if b % 16 = 0 then s.doorbell false ep r size value (fun s => s.sqDoorbell r value.toNat)
      else s.doorbell true ep r size value (fun s => s.cqDoorbell r value.toNat)
    | .windows =>
      if b < 0x50000 then
        let w := (b - 0x40000) / 16
        if b % 16 = 0 then s.gate off size value (fun s => s.writeWin0 w off size value)
        else s.gate off size value (fun s => s.writeWin1 w off size value)
      else plain s
    | .mapCache =>
      if b = R.MC_CTL then s.gate off size value (fun s => s.writeMcCtl off size value)
      else if b = R.MC_MAINT_CMD then s.lowHalf off size value (fun s => s.writeMaint size value)
      else if b = R.MC_WAYLOCK ∧ off % 8 = 0 then
        s.gate off size value (fun s => s.writeWaylock (bits (writtenValue off size value) 0 16) off value)
      else plain s
    | .shuttle =>
      let n := (b - 0xA0000) / 0x100
      let o := b % 0x100
      if b = R.SHT_STAT then
        s.gate off size value (fun s => if bit (writtenValue off size value) 0 && off % 8 == 0 then s.allstopClear else s)
      else if 0xA2000 ≤ b then plain s
      else if o < 0x28 then s.gate off size value (fun s => s.writeShadow n off size value)
      else if o = 0x28 then s.command off size value false (fun v s => if bit v 0 then s.shtGo n else s)
      else if o = 0x30 then s.gate off size value (fun s => s.writeShtStat n off size value)
      else plain s
    | .arrays =>
      if b = R.PRK_CMD then s.writePrkCmd off size value
      else if R.PRK_STAGE 0 ≤ b ∧ b ≤ R.PRK_STAGE 63 then
        s.gate off size value (fun s => if s.prk.run.isSome then s.regNotice 3 off value else s.storeReg off size value)
      else match arrayOf b with
        | some a => s.gate off size value (fun s => (s.plainWrite off size value).syncCtl a b)
        | none => plain s
    | .bobbin =>
      let p := (b - 0x200000) / 0x1000
      let h := (b % 0x1000 - 0x100) / 0x40
      if 0x220000 ≤ b then plain s
      else if b = R.BP_CTL p then s.writeBpCtl p off size value
      else if b = R.BP_HOP_CTL p h ∧ h < 4 then s.writeHopCtl p h off size value
      else if b = R.BP_HOP_CMD p h ∧ h < 4 then s.lowHalf off size value (fun s => s.writeHopCmd p h size value)
      else plain s
    | .fed =>
      let a := (b - 0x480100) / 8
      if R.FED_SPAN 0 ≤ b ∧ b ≤ R.FED_SPAN 15 then
        s.gate off size value (fun s => if s.arrExists a then s.regNotice 3 off value else s.storeReg off size value)
      else plain s
    | .power =>
      if b = R.PWR_PF then s.gate off size value (fun s => s.writePwrPf off size value)
      else if b = R.HU_CTL then s.writeHuCtl off size value
      else plain s
    | .health =>
      if b = R.HLTH_CTL then s.gate off size value (fun s => s.writeHlthCtl off size value)
      else plain s
    | .clusters =>
      let c := (b - 0x600000) / 0x40000
      if b = R.SE_CLK c then s.writeClk c off size value else plain s
    | _ => plain s

/-- A write to BAR0 through an endpoint (R12, R343): a poisoned one is discarded, and none is taken without Memory Space Enable
(R333). -/
def execRegisterWrite (ep off size : Nat) (value : Word) (poisoned : Bool) (s : State) : Host.Outcome State Fault Refusal :=
  .next (
    let e := if s.bifurcated then ep % 2 else 0
    if s.hostDown then s
    else if poisoned then (s.poisonSeen e).regNotice 5 off value
    else if !(s.ep e).open_ then s.aer e .unsupportedRequest .nonFatal
    else s.writeAt e (off % 2 ^ 26) size value)

end Sys2Proof.Machine
end

