-- ==== Sys2Proof/Machine/Dump.lean ====
section
/-! DEFINITION. Fatal errors and the fatal dump (R83, R451 to R454): what enters Halted, the dump's sections and header, and its way
to the vault. -/

namespace Sys2Proof.Machine

/-! ## Fatal conditions (R451) -/

/-- An uncorrectable error in a structure without a second copy; `src` is the SRC code of its place (R451, R442). -/
def execUncorrectableStructureError (src : Nat) (s : State) : Host.Outcome State Fault Refusal :=
  .next (if !s.hw.powered || s.mode.cur == .dormant then s else s.halt 7 2 0 false 0 0 src 0)

/-- Firmware finds an inconsistency and gives its code (R451). -/
def execFirmwareInconsistency (core detail : Nat) (s : State) : Host.Outcome State Fault Refusal :=
  .next (if !s.hw.powered || s.mode.cur == .dormant then s else s.halt 7 8 0 false 0 0 (core % 4) detail)

/-! ## Sections (R453) -/

/-- Every register of the map. -/
def allRegs : List Nat :=
  regRows.flatMap (fun r => (List.range r.n1).flatMap (fun i => (List.range r.n2).map (fun j => r.base + r.s1 * i + r.s2 * j)))

/-- Every register of a present island with its value, as the snapshot holds them. -/
def State.snapshotNow (s : State) : List (Nat × Word) :=
  (allRegs.filter (fun o => (arrayOf o).isSome || !s.absentAt o)).map (fun o => (o, s.readReg o))

/-- The bytes of section `kind` (R453). The layout of each but the first is the model's (log entry 44): the logs slot by slot; of each
thread SE_THR, registers, predicates and PC; of each entry ring, index and its eight words; firmware's state one free word. -/
def State.section_ (s : State) (kind : Nat) : List Byte :=
  match kind with
  | 1 => ((s.dump.snapshot).getD []).flatMap (fun e => leBytes 8 e.1 ++ leBytes 8 e.2.toNat)
  | 2 => (List.range (min 4096 s.elog.next)).flatMap (fun i =>
      match Tbl.get noRec s.elog.slots i with
      | some r => r.bytes
      | none => leBytes 64 0)
  | 3 => s.clusters.flatMap (fun c => (List.range 256).flatMap (fun i => (Tbl.get noFault s.faults (c * 256 + i)).bytes))
  | 4 => s.aon.recs.flatMap AonRec.bytes
  | 5 => (List.range 4096).flatMap (fun i =>
      match Tbl.get noLedger s.boot.ledger i with
      | some r => r.bytes
      | none => leBytes 32 0)
  | 6 => s.boot.mlog.flatMap (fun e => (List.range 16).flatMap (fun w => leBytes 8 (e.word w)))
  | 7 => s.clusters.flatMap (fun c => (List.range 128).flatMap (fun i =>
      let t := s.thr (128 * c + i)
      leBytes 8 (128 * c + i) ++ leBytes 8 (s.seThr (128 * c + i)) ++
        (List.range 32).flatMap (fun r => leBytes 8 (t.reg r).toNat) ++ leBytes 8 t.preds ++ leBytes 8 t.pc))
  | 8 => s.subRings.flatMap (fun r => r.2.fetched.flatMap (fun e =>
      leBytes 8 r.1 ++ leBytes 8 e.index ++ (List.range 8).flatMap (fun k => leBytes 8 (e.words.getD k 0).toNat)))
  | _ => leBytes 8 s.freshVal.toNat

/-- Sections placed one after the other from an offset, each at the next 4 KiB boundary: kind, offset, bytes. -/
def placeSections (at_ : Nat) : List (Nat × List Byte) → List (Nat × Nat × List Byte)
  | [] => []
  | x :: xs => (x.1, at_, x.2) :: placeSections (at_ + ceilDiv x.2.length 4096 * 4096) xs

/-- A directory entry (R453). -/
def dirEntry (x : Nat × Nat × List Byte) : List Byte :=
  leBytes 2 x.1 ++ leBytes 2 1 ++ leBytes 4 (crc32c x.2.2) ++ leBytes 4 (x.2.1 / 4096) ++ leBytes 4 x.2.2.length

/-- The 4 KiB header (R453). -/
def State.dumpHeader (s : State) (part : Bool) (secs : List (Nat × Nat × List Byte)) (len : Nat) : List Byte :=
  let slot (n : Nat) : List Byte := digestBytes (Tbl.get measReset s.boot.slots n)
  let id := s.pairId.getD (0, 0)
  let b := leBytes 4 0x504D5544 ++ leBytes 1 1 ++ leBytes 1 part.toNat ++ leBytes 2 secs.length ++ leBytes 8 s.dump.dseq ++
    leBytes 8 s.dump.tdetect.toNat ++ leBytes 8 (s.reg R.DEV_HALT_CAUSE).toNat ++ leBytes 8 (s.reg R.DEV_HALT_DETAIL).toNat ++
    leBytes 1 s.mode.cause ++ leBytes 1 s.dump.prevMode.code ++ leBytes 2 0 ++ leBytes 4 s.boot.bootNo ++
    leBytes 8 s.hw.variant.cap0 ++ leBytes 8 (s.reg R.DEV_CAP1).toNat ++ leBytes 8 id.1 ++ leBytes 8 id.2 ++
    leBytes 8 s.hw.serial ++ slot 1 ++ slot 2 ++ leBytes 4 len ++ leBytes 68 0 ++
    padTo 1024 0 (secs.flatMap dirEntry) ++ leBytes 2812 0
  b ++ leBytes 4 (crc32c b)

/-- The register snapshot that hardware captures (R452), with what it took. -/
def State.snapped (s : State) : State :=
  if s.dump.snapshot.isSome then s else { s with dump := { s.dump with snapshot := some s.snapshotNow } }

/-- The dump of the present Halted (R452, R453): sections 1 to 6 in the header area, the body sections `body` from 16 MiB on. -/
def State.formDump (s : State) (part : Bool) (body : List Nat) : Dump :=
  let head := [1, 2, 3, 4, 5, 6].map (fun k => (k, s.section_ k))
  let rest := ([7, 8, 9].filter body.contains).map (fun k => (k, s.section_ k))
  let secs := placeSections 4096 head ++ placeSections 0x1000000 rest
  let len := secs.foldl (fun m x => max m (x.2.1 + x.2.2.length)) 0x1000000
  let bytes := secs.foldl (fun (m : Mem) x => m.writeBytes x.2.1 x.2.2) ([] : Mem)
  { dseq := s.dump.dseq, partialDump := part, len, mem := bytes.writeBytes 0 (s.dumpHeader part secs len) }

/-- The dump stands in DRAM, its header written last: STATE 2 (R452). A snapshot not yet taken is taken first: every header is written
with section 1. -/
def State.dumpDone (s : State) (part : Bool) (body : List Nat) : State :=
  let s := s.snapped
  let d := s.formDump part body
  let lo := s.dumpBase / 64
  let hi := (s.dumpBase + d.len + 63) / 64
  let s1 : State := { s with
    dram := s.dram.place s.dumpBase d, poison := s.poison.filter (fun e => !(decide (lo ≤ e.1) && decide (e.1 < hi)))
    dump := { s.dump with inDram := some d } }
  ((s1.setF F.HLTH_DMP_STAT_STATE 2).setFlag F.HLTH_DMP_STAT_PARTIAL part).bumpFree

/-- The dump is being captured: STATE 1. -/
def State.capturing (s : State) : Bool :=
  s.mode.cur == .halted && s.f F.HLTH_DMP_STAT_STATE == 1 && s.power.flush.isNone && s.hw.powered

/-- The watchdog of a management core fires (R451). While a dump is captured its header is written with PARTIAL, with the body sections
`body` that are complete. -/
def execWatchdogExpiry (core : Nat) (body : List Nat) (s : State) : Host.Outcome State Fault Refusal :=
  .next (
    if !s.hw.powered || s.mode.cur == .dormant then s
    else
      let s1 := s.halt 7 7 0 false 0 0 (core % 4) 0
      if s.capturing then s1.dumpDone true body else s1)

/-- The register snapshot has been captured (R452). -/
def execRegisterSnapshotCaptured (s : State) : Host.Outcome State Fault Refusal :=
  .next (if s.capturing && s.dump.snapshot.isNone then
      s.snapped else s)

/-- The dump is complete with every section (R452). -/
def execDumpInDramComplete (s : State) : Host.Outcome State Fault Refusal :=
  .next (if s.capturing && s.dump.snapshot.isSome then s.dumpDone false [7, 8, 9] else s)

/-- One second has passed since detection: the header is written with PARTIAL, with the body sections complete so far (R452). -/
def execDumpCaptureTimeout (body : List Nat) (s : State) : Host.Outcome State Fault Refusal :=
  .next (if s.capturing && decide (100000000 ≤ (s.tbase - s.dump.tdetect).toNat) then s.dumpDone true body else s)

/-- The vault image of the entry into Halted commits, or ends having written nothing while an earlier image is not consumed (R83, R433,
R452); a conventional reset that waited for it follows. -/
def execHaltVaultImageCommit (s : State) : Host.Outcome State Fault Refusal :=
  .next (
    if s.mode.cur != .halted || !s.dump.imageRunning || s.power.flush.isSome || !s.hw.powered then s
    else
      let d := { s.dump with imageRunning := false, imageEnded := true }
      let p := if !s.imageDue then s.power else { s.power with image := some s.imageNow, erased := false }
      let s1 : State := { s with dump := d, power := p }
      if s.power.resetWaits then s1.convReset 0 s1.hw.pins else s1)

/-- The dump is in the vault as well: STATE 3 (R452, R454). -/
def execDumpVaultWriteComplete (s : State) : Host.Outcome State Fault Refusal :=
  .next (
    match s.dump.inDram with
    | some d =>
      if s.mode.cur == .halted && s.dump.imageEnded && s.f F.HLTH_DMP_STAT_STATE == 2 && s.power.flush.isNone && s.hw.powered then
        (s.saveDump d).setF F.HLTH_DMP_STAT_STATE 3
      else s
    | none => s)

end Sys2Proof.Machine
end

