-- ==== Sys2Proof/Machine/Federation.lean ====
section
/-! DEFINITION. The federation (R402 to R411): HELLO and election, its links, time marks, the parts of spanning calls that other
devices send, and SIGNAL OWNER (R260). -/

namespace Sys2Proof.Machine

/-! ## SIGNAL OWNER (R260) -/

/-- SIGNAL OWNER, IMM mode 2: as CALL, on the cluster that owns band gA[28:8] of array gA[3:0]; where another device owns it, the
call travels there, behind the sender's earlier STORE COMMITs (R8, R21, R260, R264, R411). -/
def execSignalOwner (th : Nat) (s : State) : Host.Outcome State Fault Refusal :=
  .next (s.issue th (fun i => i.op == 0x59 && i.mode == 2) (fun i s =>
    let t := s.thr th
    let g := (t.reg i.a).toNat
    let a := bits g 0 4
    let b := bits g 8 21
    let m := ((s.spanMembers a)[b % s.spanCount a]?).getD s.ownMember
    if m = s.ownMember then s.signalCall th i (s.bandCluster a b)
    else if t.run i.h = [] then s.faultAt th 0x0405
    else match s.fedUnit m with
      | none => s.async th i .done 0x0504 [] [i.h]
      | some d =>
        if s.commitBefore th t.nextId (fun _ => true) then
          s.async th i (.callHeld d a b (i.im 20 12) (s.callWords th i.h)) 0 [] [i.h]
        else (s.async th i (.remote d) 0 [] [i.h]).fedAsk d th t.nextId (.start a b (i.im 20 12) (s.callWords th i.h))))

/-! ## Parts that other devices send (R260, R410, R411) -/

/-- The federation's requests run here: power, no Flush, no Halted. -/
def State.fedServes (s : State) (dev : Nat) : Bool := s.fedUp dev && s.threadsRun

/-- The cluster on which a part runs (R411): the owner of the band that holds its grain, else the lowest-numbered cluster. -/
def State.partCluster (s : State) (a blk : Nat) : Nat :=
  let e := (s.mapGet a (blk / s.gblk a)).toNat
  if meValid (e % 2 ^ 48) then s.bandCluster a (pgaBand (mePga e)) else (s.clusters.head?).getD 0

/-- Start a message's work on a device-work thread; none where no thread is free. -/
def State.fedStart (s : State) (m : FedMsg) : Option State :=
  match m.body with
  | .part p w1 blk count fua words =>
    match s.freeThread (s.partCluster (bits w1.toNat 0 4) blk) true with
    | none => none
    | some th =>
      let g : List Word := [w1, BitVec.ofNat 64 blk, BitVec.ofNat 64 (count + 2 ^ 32 * fua.toNat)]
      let s1 := s.startThread th p g 0 (BitVec.ofNat 64 (th + 2 ^ 63)) 31
      let t := s1.thr th
      some (s1.setThr th { t with length := 0, book := { t.book with origin := some (m.dev, m.id), words } })
  | .start a b p words =>
    let c := s.bandCluster a b
    if !s.clusterAvail c then some (s.send (.fed { m with body := .startDone 0x0407 }))
    else if !ptValid (s.ptab c p) then some (s.send (.fed { m with body := .startDone 0x0406 }))
    else match s.startWork c p words none with
      | (s1, some th) =>
        let t := s1.thr th
        some (s1.setThr th { t with book := { t.book with origin := some (m.dev, m.id) } })
      | (_, none) => none
  | _ => some s

/-- Messages that wait for a thread start in the order they came (R260). -/
def State.fedDrain (s : State) : State :=
  (List.range s.fed.queue.length).foldl (fun s _ =>
    match s.fed.queue with
    | [] => s
    | m :: ms =>
      match (s.setFed { s.fed with queue := ms }).fedStart m with
      | some s1 => s1
      | none => s) s

/-- The instruction that waits for an answer of `dev`, if it still does. -/
def State.fedWaiter (s : State) (dev id : Nat) : Option (Nat × AsyncOp) :=
  match s.fed.waits.find id with
  | none => none
  | some (th, o) => ((s.thr th).async? o).bind (fun x => if x.wait = .remote dev then some (th, x) else none)

/-- An answer ends the instruction that waits for it with an outcome; the blocks that came go to their places of the run, and
`count` is what the instruction counted. -/
def State.fedAnswer (s : State) (dev id outcome count : Nat) (words : List Info) : State :=
  match s.fedWaiter dev id with
  | none => s
  | some (th, o) =>
    let s1 := s.setFed { s.fed with waits := s.fed.waits.erase id }
    let s2 := match o.xfer with
      | some f => (s1.putInfos th f.handle f.first words).setThr th
          (((s1.putInfos th f.handle f.first words).thr th).mapAsync o.id (fun x => { x with xfer := some { f with assisted := count } }))
      | none => s1
    s2.asyncDone th o.id outcome

/-- The array that ARRAY_CREATE's question was about, as this call would create it: GRAIN, PIFMT, PITYPE, GRAINS (R410). -/
def State.spanStatus (s : State) (dev id mask : Nat) (present : Option (Nat × Nat × Nat × Nat)) : Nat :=
  match s.fedWaiter dev id with
  | none => 0
  | some (th, _) =>
    let a := s.argArray th
    let c := s.createArgs th
    let own := (c.1, c.2.1, c.2.2.1, c.2.2.2.1)
    if mask ≠ s.f (F.FED_SPAN_MASK a) then 0x0325
    else match present with
      | some x => if x = own then 0 else 0x0325
      | none => 0

/-- A message of a spanning call arrives on the link from device `m.dev` (R408, R410, R411). -/
def execFedCallPart (m : FedMsg) (s : State) : Host.Outcome State Fault Refusal :=
  .next (
    if !s.fedUp m.dev then s
    else match m.body with
      | .partDone status result words => s.fedAnswer m.dev m.id status result words
      | .startDone status => s.fedAnswer m.dev m.id status 0 []
      | .span a =>
        let present := if s.arrExists (a % 16) then
            some (s.f (F.ARR_GEOM_GRAIN (a % 16)), (s.arr (a % 16)).pifmt, (s.arr (a % 16)).pitype, s.f (F.ARR_GEOM_GRAINS (a % 16)))
          else none
        s.send (.fed { m with body := .spanIs (s.f (F.FED_SPAN_MASK (a % 16))) present })
      | .spanIs mask present => s.fedAnswer m.dev m.id (s.spanStatus m.dev m.id mask present) 0 []
      | .report bytes => s.setFed { s.fed with reports := s.fed.reports.insert m.dev (s.tbase, bytes) }
      | _ => if s.fedServes m.dev then (s.setFed { s.fed with queue := s.fed.queue ++ [m] }).fedDrain else s)

/-! ## HELLO and election (R407, R409) -/

/-- The view (R407): this DEVID, those heard, and those in their views. -/
def State.viewNow (s : State) : Nat :=
  s.fed.peers.foldl (fun v e => v ||| 2 ^ (e.1 % 8) ||| (e.2.view % 256)) (2 ^ (s.hw.straps.devid % 8))

/-- The view may have changed: it must then be stable for 10 ms anew, and a member that has elected elects again (R407, R409). -/
def State.syncView (s : State) (relect : Bool) : State :=
  let v := s.viewNow
  let changed := v != s.f F.FED_STAT_VIEW
  let s1 := s.setF F.FED_STAT_VIEW v
  let again := (changed || relect) && decide (0 < s.f F.FED_STAT_EPOCH)
  let s2 := s1.setFed { s1.fed with
    seen := s1.fed.seen ||| v, stable := if changed || relect then s1.tbase else s1.fed.stable, electing := s1.fed.electing || again }
  if changed then s2.sayHello else s2

/-- A device is lost: every part that waits for it ends with 0x0504, its own requests are dropped (R411), and the view holds what is
heard directly until the other members' next HELLO (R409; log entry 47). -/
def State.dropDevice (s : State) (dev : Nat) : State :=
  let s1 := s.fed.waits.foldl (fun (s : State) e =>
    match s.fedWaiter dev e.1 with
    | some (th, o) => s.asyncDone th o.id 0x0504
    | none => s) s
  s1.setFed { s1.fed with
    waits := s1.fed.waits.filter (fun e => (s.fedWaiter dev e.1).isNone), queue := s1.fed.queue.filter (fun m => m.dev != dev)
    peers := (s1.fed.peers.erase dev).map (fun (e : Nat × FedHello) => (e.1, { e.2 with view := 2 ^ (e.1 % 8) })), reports := s1.fed.reports.erase dev }

/-- FED_HELLO arrives on a link (R407, R409). A member with this device's own DEVID is a conflict: DUP, logged, and this device is
a federation of one. -/
def execFedHello (link : Nat) (h : FedHello) (s : State) : Host.Outcome State Fault Refusal :=
  .next (
    if !s.member || !bit (s.f F.FED_LINK_UP) link || decide (8 ≤ link) || s.flag F.FED_STAT_DUP then s
    else if h.dev = s.hw.straps.devid then
      let s1 := ((s.setFlag F.FED_STAT_DUP true).setF F.FED_STAT_VIEW (2 ^ (s.hw.straps.devid % 8))).logOpen clsNotice 8 0xFFFF h.dev
      ((List.range 8).foldl (fun (s : State) d => s.dropDevice d) s1).setFed { ((List.range 8).foldl (fun (s : State) d =>
        s.dropDevice d) s1).fed with electing := false, peers := [] }
    else (s.setFed { s.fed with peers := s.fed.peers.insert (h.dev % 8) h }).syncView false)

/-- FED_SYNC is high (`high`), or 2 s have passed since this device released it: the member begins to elect (R407). -/
def execElectionStart (high : Bool) (s : State) : Host.Outcome State Fault Refusal :=
  .next (
    match s.fed.released with
    | none => s
    | some t =>
      if !s.member || s.flag F.FED_STAT_DUP || s.fed.electing || decide (0 < s.f F.FED_STAT_EPOCH) ||
          !(high || decide (200000000 ≤ (s.tbase - t).toNat)) then s
      else
        let s1 := s.setFed { s.fed with electing := true, stable := s.tbase }
        (s1.syncView false).sayHello)

/-- The view has been stable for 10 ms: its lowest DEVID coordinates (R407). SPLIT shows that a DEVID once seen is not heard (R409;
log entry 47). -/
def execElectionDecide (s : State) : Host.Outcome State Fault Refusal :=
  .next (
    if !s.member || s.flag F.FED_STAT_DUP || !s.fed.electing || decide ((s.tbase - s.fed.stable).toNat < 1000000) then s
    else
      let v := s.f F.FED_STAT_VIEW
      let s1 := (s.setF F.FED_STAT_COORD ((setBits v 8).head?.getD s.hw.straps.devid)).incF F.FED_STAT_EPOCH
      let s2 := (s1.setFlag F.FED_STAT_SPLIT (s.fed.seen &&& v != s.fed.seen)).setFlag F.FED_STAT_EVT true
      (s2.setFed { s2.fed with electing := false }).raiseEvent 9)

/-! ## Links (R403, R409) -/

/-- Both lanes of the link to a device may be in use (R403): they lie on Bride port 1, outside the pair link. -/
def State.wideOk (s : State) (dev : Nat) : Bool :=
  s.brideAvail 1 && !(s.paired && s.hw.straps.plink) && decide (s.hw.straps.devid / 4 ≠ dev / 4)

/-- A federation link goes up or down, or its lanes change (R403, R409). -/
def execFedLinkChange (dev : Nat) (up wide : Bool) (s : State) : Host.Outcome State Fault Refusal :=
  .next (
    let ok := decide (dev < 8) && dev != s.hw.straps.devid && s.brideAvail (2 + dev / 4)
    if !s.member || !ok || s.mode.cur == .dormant then s
    else
      let was := bit (s.f F.FED_LINK_UP) dev
      let s1 := (s.setF F.FED_LINK_UP (putBit (s.f F.FED_LINK_UP) dev up)).setF F.FED_LINK_WIDE
        (putBit (s.f F.FED_LINK_WIDE) dev (up && wide && s.wideOk dev))
      if was = up then s1
      else
        let s2 := if up then s1.send (.fedHello dev s1.helloNow) else s1.dropDevice dev
        if s2.flag F.FED_STAT_DUP then s2 else s2.syncView true)

/-! ## Time marks (R405) -/

/-- The coordinator drives its pulse on FED_SYNC each second (R405). -/
def execTimeMark (s : State) : Host.Outcome State Fault Refusal :=
  .next (
    if !s.member || s.flag F.FED_STAT_DUP || s.fed.electing || decide (s.f F.FED_STAT_EPOCH = 0) || s.f F.FED_STAT_COORD != s.hw.straps.devid ||
        decide ((s.tbase - s.fed.lastMark).toNat < 100000000) then s
    else (s.setFed { s.fed with lastMark := s.tbase }).send .timeMark)

/-- The falling edge of FED_SYNC: TBASE is latched and exchanged. `theirs` is the coordinator's TBASE at the edge, `long` a low level
of more than 100 µs, a member that starts: no time mark (R405). -/
def execTimeMarkEdge (theirs : Word) (long : Bool) (s : State) : Host.Outcome State Fault Refusal :=
  .next (
    if !s.member || s.flag F.FED_STAT_DUP || long then s
    else
      let s1 := s.setFed { s.fed with latch := s.tbase }
      let s2 := (setBits (s1.f F.FED_LINK_UP) 8).foldl (fun (s : State) d => s.send (.fedLatch d s.tbase)) s1
      let own := s2.f F.FED_STAT_COORD == s2.hw.straps.devid
      s2.setReg R.FED_TOFF (if own then 0 else theirs - s.tbase))

end Sys2Proof.Machine
end

