-- ==== Sys2Proof/Machine/PiIns.lean ====
section
/-! DEFINITION. The protection information instructions of Quinuip: PIGEN, PICHK and PIXLATE (R256). -/

namespace Sys2Proof.Machine

/-- The operands gC of the three instructions: format of array gC[3:0], first skein gC[15:8], blocks gC[23:16] + 1. -/
def State.piFmt (s : State) (t : Thread) (i : IWord) : Nat := (s.arr (bits (t.reg i.c).toNat 0 4)).pifmt
/-- First skein. -/
def piFirst (t : Thread) (i : IWord) : Nat := bits (t.reg i.c).toNat 8 8
/-- Number of blocks. -/
def piCount (t : Thread) (i : IWord) : Nat := bits (t.reg i.c).toNat 16 8 + 1

/-- The blocks lie in the run; else fault 0x0405 (R244). -/
def piFits (t : Thread) (i : IWord) : Bool := decide (piFirst t i + piCount t i ≤ (t.run i.h).length)

/-- Apply `f` to each block by its number, then write gD: the spec does not state what, a free value (log entry 2). -/
def State.piMap (s : State) (th : Nat) (i : IWord) (f : Nat → Info → Info) : State :=
  let t := s.thr th
  if !piFits t i then s.faultAt th 0x0405
  else ((s.putInfos th i.h (piFirst t i) ((List.range (piCount t i)).map (fun n =>
    f n (s.runInfo th i.h (piFirst t i + n))))).wr th i.d s.freshVal).bumpFree

/-- PIGEN writes the protection information of consecutive blocks (R256). -/
def execPigen (th : Nat) (s : State) : Host.Outcome State Fault Refusal :=
  .next (s.issue th (fun i => i.op == 0x48) (fun i s =>
    s.piMap th i (fun n x => x.gen (s.piFmt (s.thr th) i) (bits ((s.thr th).reg i.b).toNat 0 16)
      (((s.thr th).reg i.a).toNat + n))))

/-- PICHK checks consecutive blocks and reports the first failing one (R186, R187, R256); where none fails, gD above its
status is open (log entry 2). -/
def execPichk (th : Nat) (s : State) : Host.Outcome State Fault Refusal :=
  .next (s.issue th (fun i => i.op == 0x49) (fun i s =>
    let t := s.thr th
    let a := bits (t.reg i.c).toNat 0 4
    let b := (t.reg i.b).toNat
    let st (n : Nat) : Nat := (s.runInfo th i.h (piFirst t i + n)).check (s.piFmt t i) (s.arr a).pitype (i.im 0 8)
      (bits b 0 16) (bits b 16 16) ((t.reg i.a).toNat + n)
    if !piFits t i then s.faultAt th 0x0405
    else match (List.range (piCount t i)).find? (fun n => st n != 0) with
      | none => (s.wr th i.d (s.freshVal &&& 0xFFFFFFFFFFFF0000)).bumpFree
      | some n =>
        let c := if i.ib 12 && egressStatus (st n) != 0 then egressStatus (st n) else st n
        s.wr th i.d (BitVec.ofNat 64 (c + 2 ^ 16 * n))))

/-- PIXLATE: POISON forms the signature of R189, INTERNAL writes internal protection information (R185, R256). -/
def execPixlate (th : Nat) (s : State) : Host.Outcome State Fault Refusal :=
  .next (s.issue th (fun i => i.op == 0x4A) (fun i s =>
    s.piMap th i (fun n x => if i.im 13 2 = 0 then x.poison (s.piFmt (s.thr th) i)
      else x.gen 0 0 (((s.thr th).reg i.a).toNat + n))))

end Sys2Proof.Machine
end

