-- ==== Sys2Proof/Machine/Spdm.lean ====
section
/-! DEFINITION. Trust and management answers: SPDM over DOE and MCTP (R419), DOE (R329), MCTP control (R420). -/

namespace Sys2Proof.Machine

/-! ## SPDM (R419) -/

/-- An SPDM request is answered over its transport: 0 and 1 the DOE mailbox of an endpoint, others MCTP. DOE needs the endpoint's
configuration space. -/
def State.spdm (s : State) (tr : Nat) (f : State → SpdmAnswer) : State :=
  if tr < 2 then
    if s.hostDown || (s.ep tr).flrBusy || (tr == 1 && !s.bifurcated) then s else { s with doe := s.doe.insert tr (f s) }
  else if s.hw.powered then s.send (.spdm (f s)) else s

/-- GET_VERSION (R419): 1.2 alone. -/
def execGetVersion (tr : Nat) (s : State) : Host.Outcome State Fault Refusal := .next (s.spdm tr (fun _ => .version 0x12))

/-- GET_CAPABILITIES (R419): CERT_CAP, CHAL_CAP, MEAS_CAP 2; no MEAS_FRESH_CAP, no session. -/
def execGetCapabilities (tr : Nat) (s : State) : Host.Outcome State Fault Refusal :=
  .next (s.spdm tr (fun _ => .capabilities true true 2 false false))

/-- NEGOTIATE_ALGORITHMS (R419): of each kind the supported algorithm, where the requester offers it. -/
def execNegotiateAlgorithms (tr : Nat) (sig hash measHash spec : Bool) (s : State) : Host.Outcome State Fault Refusal :=
  .next (s.spdm tr (fun _ => .algorithms sig hash measHash spec))

/-- GET_DIGESTS (R419): slot 0. -/
def execGetDigests (tr : Nat) (s : State) : Host.Outcome State Fault Refusal :=
  .next (s.spdm tr (fun _ => .digests [(0, Config.sha384 Config.certificateChain)]))

/-- GET_CERTIFICATE (R419): a portion of slot 0's chain. Another slot, or an offset beyond the chain, is answered with an ERROR whose
code is a free value (log entry 2). -/
def execGetCertificate (tr slot offset length : Nat) (s : State) : Host.Outcome State Fault Refusal :=
  let c := Config.certificateChain
  .next (if slot = 0 ∧ offset < c.length then
      s.spdm tr (fun _ => .certificate ((c.drop offset).take length) (c.length - offset - min length (c.length - offset)))
    else (s.spdm tr (fun s => .error (s.freshVal.toNat % 256))).bumpFree)

/-- The type of a measurement block (R419). -/
def blockType (n : Nat) : Nat :=
  if n = 1 then 0 else if n = 5 then 2 else if n = 6 then 3 else 1

/-- Measurement block `n`, 1 to 7: slot n − 1 as a digest. -/
def State.measBlock (s : State) (n : Nat) : Nat × Nat × BitVec 384 := (n, blockType n, Tbl.get measReset s.boot.slots (n - 1))

/-- The bytes of measurement blocks that a signature and a summary cover (log entry 46). -/
def blockBytes (l : List (Nat × Nat × BitVec 384)) : List Byte :=
  l.flatMap (fun b => leBytes 1 b.1 ++ leBytes 1 b.2.1 ++ digestBytes b.2.2)

/-- All seven measurement blocks. -/
def State.measBlocks (s : State) : List (Nat × Nat × BitVec 384) := [1, 2, 3, 4, 5, 6, 7].map s.measBlock

/-- CHALLENGE (R419): slot 0, with a summary of the measurements where asked for (`summary` 0 none, 0xFF all; of another code it is a
hash of open content), signed by the measurement root. -/
def execChallenge (tr slot summary : Nat) (nonce : List Byte) (s : State) : Host.Outcome State Fault Refusal :=
  .next (if slot = 0 then
      (s.spdm tr (fun s =>
        let chain := Config.sha384 Config.certificateChain
        let sum := if summary = 0 then none
          else if summary = 0xFF then some (Config.sha384 (blockBytes s.measBlocks))
          else some (Config.sha384 (leBytes 8 s.freshVal.toNat))
        .challengeAuth chain sum (Config.signature (nonce ++ digestBytes chain ++ digestBytes (sum.getD 0))))).bumpFree
    else (s.spdm tr (fun s => .error (s.freshVal.toNat % 256))).bumpFree)

/-- GET_MEASUREMENTS (R419): operation 0x00 the number of blocks, 0xFF all of them, else one; signed where asked for. Indices 8 and
above are answered with an ERROR whose code is a free value (log entry 2). -/
def execGetMeasurements (tr op : Nat) (signed_ : Bool) (nonce : List Byte) (s : State) : Host.Outcome State Fault Refusal :=
  let reply (n : Nat) (l : List (Nat × Nat × BitVec 384)) : SpdmAnswer :=
    .measurements n l (if signed_ then some (Config.signature (nonce ++ leBytes 1 n ++ blockBytes l)) else none)
  .next (
    if op = 0 then s.spdm tr (fun _ => reply 7 [])
    else if op = 0xFF then s.spdm tr (fun s => reply 7 s.measBlocks)
    else if op ≤ 7 then s.spdm tr (fun s => reply 1 [s.measBlock op])
    else (s.spdm tr (fun s => .error (s.freshVal.toNat % 256))).bumpFree)

/-- RESPOND_IF_READY (R419): every request is answered at once, so none waits; the ERROR's code is a free value (log entry 2). -/
def execRespondIfReady (tr : Nat) (s : State) : Host.Outcome State Fault Refusal :=
  .next ((s.spdm tr (fun s => .error (s.freshVal.toNat % 256))).bumpFree)

/-- Any other SPDM request (R419): ERROR UnsupportedRequest. -/
def execSpdmUnsupportedRequest (tr : Nat) (s : State) : Host.Outcome State Fault Refusal :=
  .next (s.spdm tr (fun _ => .unsupportedRequest))

/-- A DOE abort ends the transfer in progress (R329). -/
def execDoeAbort (ep : Nat) (s : State) : Host.Outcome State Fault Refusal :=
  .next (if s.hostDown || (s.ep ep).flrBusy then s else { s with doe := s.doe.erase ep })

/-! ## MCTP control (R420) -/

/-- An endpoint ID never set. -/
def eidReset (_ : Nat) : Nat := 0

/-- An MCTP control command arrives on a binding: 0 SMBus, 1 I3C, 2 and 3 PCIe messages of an endpoint. -/
def State.mctp (s : State) (binding : Nat) (k : State → State) : State :=
  if !s.hw.powered || decide (4 ≤ binding) || (decide (2 ≤ binding) && s.hostDown) || (binding == 3 && !s.bifurcated) then s else k s

/-- Set Endpoint ID (R420). IDs 0 and 255 are refused as MCTP 1.3 does; operations other than set and force have an open answer
(log entry 45). -/
def execSetEndpointId (binding op eid : Nat) (s : State) : Host.Outcome State Fault Refusal :=
  .next (s.mctp binding (fun s =>
    if 2 ≤ op then (s.send (.mctp binding 1 (s.freshVal.toNat % 256) [])).bumpFree
    else if eid % 256 = 0 ∨ eid % 256 = 255 then s.send (.mctp binding 1 2 [])
    else ({ s with eids := Tbl.set eidReset s.eids binding (eid % 256) }).send
      (.mctp binding 1 0 (leBytes 1 0 ++ leBytes 1 eid ++ leBytes 1 0))))

/-- Get Endpoint ID (R420): a simple endpoint; the medium's byte is a free value (log entry 45). -/
def execGetEndpointId (binding : Nat) (s : State) : Host.Outcome State Fault Refusal :=
  .next (s.mctp binding (fun s =>
    (s.send (.mctp binding 2 0 (leBytes 1 (Tbl.get eidReset s.eids binding) ++ leBytes 1 0 ++ leBytes 1 s.freshVal.toNat))).bumpFree))

/-- Get Endpoint UUID (R420). -/
def execGetEndpointUuid (binding : Nat) (s : State) : Host.Outcome State Fault Refusal :=
  .next (s.mctp binding (fun s => s.send (.mctp binding 3 0 (leBytes 16 Config.endpointUuid.toNat))))

/-- Get MCTP Version Support (R420): 1.3 for the base specification and control messages; of the other supported types the version is a
free value, of an unsupported type the completion code 0x80 (log entry 45). -/
def execGetMctpVersionSupport (binding typ : Nat) (s : State) : Host.Outcome State Fault Refusal :=
  .next (s.mctp binding (fun s =>
    if typ = 0xFF ∨ typ = 0 then s.send (.mctp binding 4 0 (leBytes 1 1 ++ beBytes 4 0xF1F3FF00))
    else if typ = 5 ∨ typ = 0x7E then (s.send (.mctp binding 4 0 (leBytes 1 1 ++ leBytes 4 s.freshVal.toNat))).bumpFree
    else s.send (.mctp binding 4 0x80 [])))

/-- Get Message Type Support (R420): 0x00, 0x05, 0x7E. -/
def execGetMessageTypeSupport (binding : Nat) (s : State) : Host.Outcome State Fault Refusal :=
  .next (s.mctp binding (fun s => s.send (.mctp binding 5 0 (leBytes 1 3 ++ leBytes 1 0 ++ leBytes 1 5 ++ leBytes 1 0x7E))))

/-- Get Vendor Defined Message Support (R420): one set, of Exyol Systems' PCI vendor ID, whose number the spec does not give (log entry
45). -/
def execGetVendorDefinedMessageSupport (binding selector : Nat) (s : State) : Host.Outcome State Fault Refusal :=
  .next (s.mctp binding (fun s =>
    if selector = 0 then
      (s.send (.mctp binding 6 0 (leBytes 1 0xFF ++ leBytes 1 0 ++ beBytes 2 (Config.boardValue 9).toNat ++ leBytes 2 s.freshVal.toNat))).bumpFree
    else s.send (.mctp binding 6 2 [])))

/-- Any other MCTP control command (R420): an error completion, 0x05 in MCTP 1.3 (log entry 45). -/
def execMctpUnsupportedCommand (binding cmd : Nat) (s : State) : Host.Outcome State Fault Refusal :=
  .next (s.mctp binding (fun s => s.send (.mctp binding cmd 5 [])))

end Sys2Proof.Machine
end

