-- ==== Sys2Proof/Machine/Witness.lean ====
section
/-! DEFINITION. A unit in Witness mode arbitrates up to four pairs (R388 to R392). -/

namespace Sys2Proof.Machine

/-- A pair not in use. -/
def witPairReset (_ : Nat) : WitPair :=
  { id := (0, 0), hello0 := false, hello1 := false, prefer0 := false, prefer1 := false, lastHolder := none, health0 := none,
    health1 := none, leaseAt := none, lapsed := none, granting := none }

/-- Pair `q` as the witness keeps it. -/
def State.wpair (s : State) (q : Nat) : WitPair := Tbl.get witPairReset s.pair.pairs q

/-- Replace pair `q`. -/
def State.setWpair (s : State) (q : Nat) (x : WitPair) : State :=
  { s with pair := { s.pair with pairs := Tbl.set witPairReset s.pair.pairs q x } }

/-- The unit arbitrates. -/
def State.witnessing (s : State) : Bool := decide (s.mode.cur = .witness) && s.hw.powered

/-- A pair in use. -/
def State.pairUsed (s : State) (q : Nat) : Bool := s.f (F.WIT_PAIR_HOLDER q) != 3

/-- The STALE mark of a unit. -/
def State.witStale (s : State) (q u : Nat) : Bool := if u = 0 then s.flag (F.WIT_PAIR_STALE0 q) else s.flag (F.WIT_PAIR_STALE1 q)

/-- Set the STALE mark of a unit. -/
def State.setStale (s : State) (q u : Nat) (b : Bool) : State :=
  if u = 0 then s.setFlag (F.WIT_PAIR_STALE0 q) b else s.setFlag (F.WIT_PAIR_STALE1 q) b

/-- The unit has sent HELLO. -/
def WitPair.hello (x : WitPair) (u : Nat) : Bool := if u = 0 then x.hello0 else x.hello1

/-- The last HEALTH of a unit. -/
def WitPair.health (x : WitPair) (u : Nat) : Option (Nat × Word) := if u = 0 then x.health0 else x.health1

/-- The last HEALTH of a unit is no more than 3 s old. -/
def State.healthFresh (s : State) (q u : Nat) : Bool :=
  match (s.wpair q).health u with
  | some (_, t) => decide ((s.tbase - t).toNat ≤ 300000000)
  | none => false

/-- A unit is eligible (R390): HELLO sent, not STALE, READY within 3 s, not the one whose lease lapsed. -/
def State.eligible (s : State) (q u : Nat) : Bool :=
  let x := s.wpair q
  x.hello u && !s.witStale q u && s.healthFresh q u && ((x.health u).map (fun h => h.1)) == some 0 && x.lapsed != some u

/-- Answer a unit of pair `q`, repeating its sequence number. -/
def State.answer (s : State) (q u wcode claim seq : Nat) (body : List Byte) : State :=
  s.send (.wit { wcode, pair := q, unit := u, claim, seq, body })

/-- Grant the next claim to a unit, mark the other STALE (R390). -/
def State.grant (s : State) (q u : Nat) : State :=
  let c := nextClaim (s.f (F.WIT_PAIR_CLAIM q))
  let s1 := ((s.setF (F.WIT_PAIR_CLAIM q) c).setF (F.WIT_PAIR_HOLDER q) u).setStale q (1 - u) true
  (s1.setWpair q { s1.wpair q with
    lastHolder := some u, leaseAt := some s.tbase, lapsed := none, granting := some (u, s.tbase) }).answer q u 5 c 0 []

/-- No unit holds the claim (R390, R392). -/
def State.noHolder (s : State) (q : Nat) : State := s.setF (F.WIT_PAIR_HOLDER q) 2

/-- A pair without a holder is granted to its last holder if that is not STALE, else, neither being STALE, to the PREFER unit
(R390; log entry 29). -/
def State.grantFree (s : State) (q : Nat) : State :=
  let x := s.wpair q
  if s.f (F.WIT_PAIR_HOLDER q) ≠ 2 then s
  else
    let fit (u : Nat) : Bool := x.hello u && !s.witStale q u && x.lapsed != some u
    match x.lastHolder with
    | some u => if fit u then s.grant q u else if s.eligible q (1 - u) then s.grant q (1 - u) else s
    | none =>
      if s.witStale q 0 || s.witStale q 1 then s
      else if x.prefer0 && fit 0 then s.grant q 0 else if x.prefer1 && fit 1 then s.grant q 1 else s

/-- The pair of a message by its number, if it is in use. -/
def State.pairOf (s : State) (m : WitMsg) : Option Nat := if m.pair < 4 ∧ s.pairUsed m.pair ∧ m.unit < 2 then some m.pair else none

/-- A message of a unit of a known pair. -/
def State.onPair (s : State) (m : WitMsg) (f : Nat → State) : State :=
  if !s.witnessing then s
  else match s.pairOf m with
    | some q => f q
    | none => s

/-- HELLO (R389, R390): the unit is recorded and answered; a witness without a claim for the pair takes the highest reported. -/
def execHello (m : WitMsg) (s : State) : Host.Outcome State Fault Refusal :=
  .next (
    if !s.witnessing || decide (2 ≤ m.unit) then s
    else
      let id := (leNat (m.body.take 8), leNat ((m.body.drop 8).take 8))
      let fl := leNat ((m.body.drop 16).take 1)
      match (List.range 4).find? (fun q => s.pairUsed q && (s.wpair q).id == id) |>.or
          ((List.range 4).find? (fun q => !s.pairUsed q)) with
      | none => s
      | some q =>
        let new := !s.pairUsed q
        let x := if new then { witPairReset 0 with id } else s.wpair q
        let y := if m.unit = 0 then { x with hello0 := true, prefer0 := bit fl 1 } else { x with hello1 := true, prefer1 := bit fl 1 }
        let z0 := if bit fl 3 && y.lastHolder.isNone then { y with lastHolder := some m.unit } else y
        let z := if z0.lapsed = some m.unit then { z0 with lapsed := none } else z0
        let s1 := (if new then (s.setF (F.WIT_PAIR_HOLDER q) 2).setF (F.WIT_PAIR_CLAIM q) 0 else s).setWpair q z
        let s2 := if claimAbove m.claim (s1.f (F.WIT_PAIR_CLAIM q)) then s1.setF (F.WIT_PAIR_CLAIM q) m.claim else s1
        let s3 := if bit fl 0 then s2.setStale q m.unit true else s2
        let holds := s3.f (F.WIT_PAIR_HOLDER q) == m.unit
        (s3.answer q m.unit 2 (s3.f (F.WIT_PAIR_CLAIM q)) m.seq [BitVec.ofNat 8 (q + 16 * holds.toNat)]).grantFree q)

/-- LEASE_REQ (R390, R392): the holder's lease restarts; any other unit is denied. -/
def execLeaseReq (m : WitMsg) (s : State) : Host.Outcome State Fault Refusal :=
  .next (s.onPair m (fun q =>
    let c := s.f (F.WIT_PAIR_CLAIM q)
    if s.f (F.WIT_PAIR_HOLDER q) = m.unit && !s.witStale q m.unit && (s.wpair q).lapsed != some m.unit then
      (s.setWpair q { s.wpair q with leaseAt := some s.tbase }).answer q m.unit 4 c m.seq []
    else s.answer q m.unit 0xC c m.seq []))

/-- HEALTH (R390). -/
def execHealth (m : WitMsg) (s : State) : Host.Outcome State Fault Refusal :=
  .next (s.onPair m (fun q =>
    let h := some ((leNat (m.body.take 1)), s.tbase)
    let x := s.wpair q
    (s.setWpair q (if m.unit = 0 then { x with health0 := h } else { x with health1 := h })).grantFree q))

/-- PEER_LOST: the witness marks the sender's peer STALE and answers (R387). -/
def execPeerLost (m : WitMsg) (s : State) : Host.Outcome State Fault Refusal :=
  .next (s.onPair m (fun q =>
    if s.f (F.WIT_PAIR_HOLDER q) = m.unit then
      (s.setStale q (1 - m.unit) true).answer q m.unit 8 (s.f (F.WIT_PAIR_CLAIM q)) m.seq []
    else s))

/-- IN_SYNC: STALE of the sender's peer clears (R398). -/
def execInSync (m : WitMsg) (s : State) : Host.Outcome State Fault Refusal :=
  .next (s.onPair m (fun q =>
    if s.f (F.WIT_PAIR_HOLDER q) = m.unit then
      (s.setStale q (1 - m.unit) false).answer q m.unit 0xA (s.f (F.WIT_PAIR_CLAIM q)) m.seq []
    else s))

/-- HANDOVER: the next claim goes to the peer, if it is eligible (R390, R396). -/
def execHandover (m : WitMsg) (s : State) : Host.Outcome State Fault Refusal :=
  .next (s.onPair m (fun q =>
    if s.f (F.WIT_PAIR_HOLDER q) = m.unit then
      if s.eligible q (1 - m.unit) then s.grant q (1 - m.unit) else s.noHolder q
    else s))

/-- GRANT_ACK ends the repetition (R392). -/
def execGrantAck (m : WitMsg) (s : State) : Host.Outcome State Fault Refusal :=
  .next (s.onPair m (fun q =>
    match (s.wpair q).granting with
    | some (u, _) =>
      if u = m.unit ∧ m.claim = s.f (F.WIT_PAIR_CLAIM q) then s.setWpair q { s.wpair q with granting := none } else s
    | none => s))

/-- A lease lapses 15 ms after its last LEASE_REQ (R390): the claim goes to the peer if it is eligible. -/
def execWitnessLeaseLapse (q : Nat) (s : State) : Host.Outcome State Fault Refusal :=
  .next (
    match (s.wpair q).leaseAt with
    | some t =>
      let u := s.f (F.WIT_PAIR_HOLDER q)
      if s.witnessing && decide (q < 4 ∧ u < 2 ∧ 1500000 ≤ (s.tbase - t).toNat) && (s.wpair q).granting.isNone then
        let s1 := s.setWpair q { s.wpair q with leaseAt := none, lapsed := some u }
        if s1.eligible q (1 - u) then s1.grant q (1 - u) else s1.noHolder q
      else s
    | none => s)

/-- Every 1 ms an unacknowledged grant is sent again; it stops once the unit's last HEALTH is more than 3 s old, and the pair then
has no holder (R392). -/
def execGrantRepeat (q : Nat) (s : State) : Host.Outcome State Fault Refusal :=
  .next (
    match (s.wpair q).granting with
    | some (u, t) =>
      if !s.witnessing || decide (4 ≤ q) || decide ((s.tbase - t).toNat < 100000) then s
      else if ((s.wpair q).health u).isSome && !s.healthFresh q u then
        (s.setWpair q { s.wpair q with granting := none, leaseAt := none }).noHolder q
      else (s.setWpair q { s.wpair q with granting := some (u, s.tbase) }).answer q u 5 (s.f (F.WIT_PAIR_CLAIM q)) 0 []
    | none => s)

/-- A message with a bad CRC, a reserved WCODE or a nonzero reserved byte is discarded and counted (R388). -/
def execBadWitnessMessage (s : State) : Host.Outcome State Fault Refusal :=
  .next (if s.linkOff then s else s.satF F.WIT_STAT_BAD)

end Sys2Proof.Machine
end

