-- ==== Sys2Proof/Machine/Dispatch.lean ====
section
/-! DEFINITION. What each command does: one arm for each constructor. -/

namespace Sys2Proof.Machine

open Sys2Proof

/-- A command's effect on everything but the queue. -/
def exec (i : Instr) (s : State) : Host.Outcome State Fault Refusal :=
  match i with
  | .powerOn pins aonLost held => Sys2Proof.Machine.execPowerOn pins aonLost held s
  | .perstAssert => Sys2Proof.Machine.execPerstAssert s
  | .perstDeassert pins => Sys2Proof.Machine.execPerstDeassert pins s
  | .perst1Reset => Sys2Proof.Machine.execPerst1Reset s
  | .hotReset ep => Sys2Proof.Machine.execHotReset ep s
  | .functionLevelReset ep => Sys2Proof.Machine.execFunctionLevelReset ep s
  | .flrComplete ep => Sys2Proof.Machine.execFlrComplete ep s
  | .powerFailDetection src => Sys2Proof.Machine.execPowerFailDetection src s
  | .flushCommit vend => Sys2Proof.Machine.execFlushCommit vend s
  | .internalReset => Sys2Proof.Machine.execInternalReset s
  | .bankRundown => Sys2Proof.Machine.execBankRundown s
  | .bootStepEnd x => Sys2Proof.Machine.execBootStepEnd x s
  | .bootStepTimeout unit => Sys2Proof.Machine.execBootStepTimeout unit s
  | .modeReqStandby size value => Sys2Proof.Machine.execModeReqStandby size value s
  | .modeReqActive size value => Sys2Proof.Machine.execModeReqActive size value s
  | .modeReqMaintenance size value => Sys2Proof.Machine.execModeReqMaintenance size value s
  | .modeReqDormant size value => Sys2Proof.Machine.execModeReqDormant size value s
  | .modeReqWitness size value => Sys2Proof.Machine.execModeReqWitness size value s
  | .modeReqUnlisted k size value => Sys2Proof.Machine.execModeReqUnlisted k size value s
  | .drainComplete => Sys2Proof.Machine.execDrainComplete s
  | .mapLoadComplete => Sys2Proof.Machine.execMapLoadComplete s
  | .dormantExitComplete => Sys2Proof.Machine.execDormantExitComplete s
  | .uncorrectableStructureError src => Sys2Proof.Machine.execUncorrectableStructureError src s
  | .watchdogExpiry core body => Sys2Proof.Machine.execWatchdogExpiry core body s
  | .firmwareInconsistency core detail => Sys2Proof.Machine.execFirmwareInconsistency core detail s
  | .registerSnapshotCaptured => Sys2Proof.Machine.execRegisterSnapshotCaptured s
  | .haltVaultImageCommit => Sys2Proof.Machine.execHaltVaultImageCommit s
  | .dumpInDramComplete => Sys2Proof.Machine.execDumpInDramComplete s
  | .dumpCaptureTimeout body => Sys2Proof.Machine.execDumpCaptureTimeout body s
  | .dumpVaultWriteComplete => Sys2Proof.Machine.execDumpVaultWriteComplete s
  | .seClkWrite c size value => Sys2Proof.Machine.execSeClkWrite c size value s
  | .clockStepComplete c => Sys2Proof.Machine.execClockStepComplete c s
  | .devTbaseLowRead ep => Sys2Proof.Machine.execDevTbaseLowRead ep s
  | .registerWrite ep off size value poisoned => Sys2Proof.Machine.execRegisterWrite ep off size value poisoned s
  | .devLockSet size value => Sys2Proof.Machine.execDevLockSet size value s
  | .prkCmdLoad size value => Sys2Proof.Machine.execPrkCmdLoad size value s
  | .prkCmdBind size value => Sys2Proof.Machine.execPrkCmdBind size value s
  | .prkCmdArm size value => Sys2Proof.Machine.execPrkCmdArm size value s
  | .prkCmdDrop size value => Sys2Proof.Machine.execPrkCmdDrop size value s
  | .prkCmdReserved size value => Sys2Proof.Machine.execPrkCmdReserved size value s
  | .prkCommandComplete => Sys2Proof.Machine.execPrkCommandComplete s
  | .armCommit => Sys2Proof.Machine.execArmCommit s
  | .retirementSwitchover a => Sys2Proof.Machine.execRetirementSwitchover a s
  | .retirementCommit a => Sys2Proof.Machine.execRetirementCommit a s
  | .grainAgeExpiry a g fill => Sys2Proof.Machine.execGrainAgeExpiry a g fill s
  | .bankWaitTimeout th => Sys2Proof.Machine.execBankWaitTimeout th s
  | .storeCommitResume th => Sys2Proof.Machine.execStoreCommitResume th s
  | .stripeOpenResume th => Sys2Proof.Machine.execStripeOpenResume th s
  | .couchingReplication => Sys2Proof.Machine.execCouchingReplication s
  | .copyRecordAck sled rseq => Sys2Proof.Machine.execCopyRecordAck sled rseq s
  | .resyncRegion found lost => Sys2Proof.Machine.execResyncRegion found lost s
  | .checkpointEpochTimer => Sys2Proof.Machine.execCheckpointEpochTimer s
  | .checkpointEpochCommit => Sys2Proof.Machine.execCheckpointEpochCommit s
  | .gcVictimSelect a c units lost => Sys2Proof.Machine.execGcVictimSelect a c units lost s
  | .bandEraseStart a b => Sys2Proof.Machine.execBandEraseStart a b s
  | .mcClean size value => Sys2Proof.Machine.execMcClean size value s
  | .mcInval size value => Sys2Proof.Machine.execMcInval size value s
  | .mcClinv size value => Sys2Proof.Machine.execMcClinv size value s
  | .mcPreload size value => Sys2Proof.Machine.execMcPreload size value s
  | .mcLock size value => Sys2Proof.Machine.execMcLock size value s
  | .mcMaintComplete => Sys2Proof.Machine.execMcMaintComplete s
  | .preloadHoldExpiry => Sys2Proof.Machine.execPreloadHoldExpiry s
  | .mcWaylockWrite size value => Sys2Proof.Machine.execMcWaylockWrite size value s
  | .mcEnable size value => Sys2Proof.Machine.execMcEnable size value s
  | .mcDisable size value => Sys2Proof.Machine.execMcDisable size value s
  | .mcDrainComplete => Sys2Proof.Machine.execMcDrainComplete s
  | .mcWritebackAck set => Sys2Proof.Machine.execMcWritebackAck set s
  | .mcEccError way set uncorrectable => Sys2Proof.Machine.execMcEccError way set uncorrectable s
  | .linkLossDeclare n => Sys2Proof.Machine.execLinkLossDeclare n s
  | .memberReadTimeout p tag => Sys2Proof.Machine.execMemberReadTimeout p tag s
  | .commandTimeout p tag => Sys2Proof.Machine.execCommandTimeout p tag s
  | .notReadyRetry p => Sys2Proof.Machine.execNotReadyRetry p s
  | .rebuildStripe a c units lost => Sys2Proof.Machine.execRebuildStripe a c units lost s
  | .lostUnitScan a pga vseq => Sys2Proof.Machine.execLostUnitScan a pga vseq s
  | .rateInterval => Sys2Proof.Machine.execRateInterval s
  | .reshapeRelocateBand a c units lost => Sys2Proof.Machine.execReshapeRelocateBand a c units lost s
  | .scrubStripe a bad units lost => Sys2Proof.Machine.execScrubStripe a bad units lost s
  | .threadDispatch r => Sys2Proof.Machine.execThreadDispatch r s
  | .add th => Sys2Proof.Machine.execAdd th s
  | .addi th => Sys2Proof.Machine.execAddi th s
  | .sub th => Sys2Proof.Machine.execSub th s
  | .and th => Sys2Proof.Machine.execAnd th s
  | .andi th => Sys2Proof.Machine.execAndi th s
  | .or th => Sys2Proof.Machine.execOr th s
  | .ori th => Sys2Proof.Machine.execOri th s
  | .xor th => Sys2Proof.Machine.execXor th s
  | .xori th => Sys2Proof.Machine.execXori th s
  | .shl th => Sys2Proof.Machine.execShl th s
  | .shli th => Sys2Proof.Machine.execShli th s
  | .shr th => Sys2Proof.Machine.execShr th s
  | .shri th => Sys2Proof.Machine.execShri th s
  | .sar th => Sys2Proof.Machine.execSar th s
  | .sari th => Sys2Proof.Machine.execSari th s
  | .mul th => Sys2Proof.Machine.execMul th s
  | .mulhu th => Sys2Proof.Machine.execMulhu th s
  | .divu th => Sys2Proof.Machine.execDivu th s
  | .remu th => Sys2Proof.Machine.execRemu th s
  | .minu th => Sys2Proof.Machine.execMinu th s
  | .maxu th => Sys2Proof.Machine.execMaxu th s
  | .movhi th => Sys2Proof.Machine.execMovhi th s
  | .bfx th => Sys2Proof.Machine.execBfx th s
  | .bfi th => Sys2Proof.Machine.execBfi th s
  | .clz th => Sys2Proof.Machine.execClz th s
  | .popc th => Sys2Proof.Machine.execPopc th s
  | .ldk th => Sys2Proof.Machine.execLdk th s
  | .stk th => Sys2Proof.Machine.execStk th s
  | .cmp th => Sys2Proof.Machine.execCmp th s
  | .cmpi th => Sys2Proof.Machine.execCmpi th s
  | .plog th => Sys2Proof.Machine.execPlog th s
  | .br th => Sys2Proof.Machine.execBr th s
  | .jal th => Sys2Proof.Machine.execJal th s
  | .jr th => Sys2Proof.Machine.execJr th s
  | .skalloc th => Sys2Proof.Machine.execSkalloc th s
  | .skallocResume th => Sys2Proof.Machine.execSkallocResume th s
  | .skfree th => Sys2Proof.Machine.execSkfree th s
  | .skzero th => Sys2Proof.Machine.execSkzero th s
  | .fetch th => Sys2Proof.Machine.execFetch th s
  | .storeStage th => Sys2Proof.Machine.execStoreStage th s
  | .storeCommit th => Sys2Proof.Machine.execStoreCommit th s
  | .emit th => Sys2Proof.Machine.execEmit th s
  | .gfmac th => Sys2Proof.Machine.execGfmac th s
  | .syndBind th => Sys2Proof.Machine.execSyndBind th s
  | .syndAdd th => Sys2Proof.Machine.execSyndAdd th s
  | .syndWait th => Sys2Proof.Machine.execSyndWait th s
  | .syndUnbind th => Sys2Proof.Machine.execSyndUnbind th s
  | .solve th => Sys2Proof.Machine.execSolve th s
  | .pigen th => Sys2Proof.Machine.execPigen th s
  | .pichk th => Sys2Proof.Machine.execPichk th s
  | .pixlate th => Sys2Proof.Machine.execPixlate th s
  | .maplu th => Sys2Proof.Machine.execMaplu th s
  | .mapup th => Sys2Proof.Machine.execMapup th s
  | .maplock th => Sys2Proof.Machine.execMaplock th s
  | .maplockGrant th => Sys2Proof.Machine.execMaplockGrant th s
  | .stripeOpen th => Sys2Proof.Machine.execStripeOpen th s
  | .stripeIpnext th => Sys2Proof.Machine.execStripeIpnext th s
  | .stripeIpset th => Sys2Proof.Machine.execStripeIpset th s
  | .stripeClosing th => Sys2Proof.Machine.execStripeClosing th s
  | .stripeClose th => Sys2Proof.Machine.execStripeClose th s
  | .stripeAbandon th => Sys2Proof.Machine.execStripeAbandon th s
  | .waitev th => Sys2Proof.Machine.execWaitev th s
  | .waitevLimitExpiry th => Sys2Proof.Machine.execWaitevLimitExpiry th s
  | .signalSend th => Sys2Proof.Machine.execSignalSend th s
  | .signalCall th => Sys2Proof.Machine.execSignalCall th s
  | .signalOwner th => Sys2Proof.Machine.execSignalOwner th s
  | .signalRecv th => Sys2Proof.Machine.execSignalRecv th s
  | .timerWait th => Sys2Proof.Machine.execTimerWait th s
  | .timerRead th => Sys2Proof.Machine.execTimerRead th s
  | .post th => Sys2Proof.Machine.execPost th s
  | .postStallResume q => Sys2Proof.Machine.execPostStallResume q s
  | .batch th => Sys2Proof.Machine.execBatch th s
  | .trap th => Sys2Proof.Machine.execTrap th s
  | .halt th => Sys2Proof.Machine.execHalt th s
  | .nop th => Sys2Proof.Machine.execNop th s
  | .asyncInstructionComplete th id => Sys2Proof.Machine.execAsyncInstructionComplete th id s
  | .waitLimitExpiry th => Sys2Proof.Machine.execWaitLimitExpiry th s
  | .read th => Sys2Proof.Machine.execRead th s
  | .write th => Sys2Proof.Machine.execWrite th s
  | .flush th => Sys2Proof.Machine.execFlush th s
  | .discard th => Sys2Proof.Machine.execDiscard th s
  | .verify th => Sys2Proof.Machine.execVerify th s
  | .pin th => Sys2Proof.Machine.execPin th s
  | .scrubStart th => Sys2Proof.Machine.execScrubStart th s
  | .scrubStop th => Sys2Proof.Machine.execScrubStop th s
  | .scrubQuery th => Sys2Proof.Machine.execScrubQuery th s
  | .config th => Sys2Proof.Machine.execConfig th s
  | .arrayCreate th => Sys2Proof.Machine.execArrayCreate th s
  | .arrayDelete th => Sys2Proof.Machine.execArrayDelete th s
  | .arrayResize th => Sys2Proof.Machine.execArrayResize th s
  | .memberFail th => Sys2Proof.Machine.execMemberFail th s
  | .logClear th => Sys2Proof.Machine.execLogClear th s
  | .prkLoad th => Sys2Proof.Machine.execPrkLoad th s
  | .prkBind th => Sys2Proof.Machine.execPrkBind th s
  | .prkArm th => Sys2Proof.Machine.execPrkArm th s
  | .prkDrop th => Sys2Proof.Machine.execPrkDrop th s
  | .progLoad th => Sys2Proof.Machine.execProgLoad th s
  | .progUnload th => Sys2Proof.Machine.execProgUnload th s
  | .sqDoorbell e r size value => Sys2Proof.Machine.execSqDoorbell e r size value s
  | .cqDoorbell e q size value => Sys2Proof.Machine.execCqDoorbell e q size value s
  | .entryFetch => Sys2Proof.Machine.execEntryFetch s
  | .entryFetchComplete r res => Sys2Proof.Machine.execEntryFetchComplete r res s
  | .callEntry r => Sys2Proof.Machine.execCallEntry r s
  | .inlineEntry r => Sys2Proof.Machine.execInlineEntry r s
  | .nopEntry r => Sys2Proof.Machine.execNopEntry r s
  | .fenceEntry r => Sys2Proof.Machine.execFenceEntry r s
  | .coalesceTimer q => Sys2Proof.Machine.execCoalesceTimer q s
  | .sqEnable r value => Sys2Proof.Machine.execSqEnable r value s
  | .sqDisable r value => Sys2Proof.Machine.execSqDisable r value s
  | .cqEnable q value => Sys2Proof.Machine.execCqEnable q value s
  | .cqDisable q value => Sys2Proof.Machine.execCqDisable q value s
  | .shuttleGo n size value => Sys2Proof.Machine.execShuttleGo n size value s
  | .shuttleComplete n => Sys2Proof.Machine.execShuttleComplete n s
  | .shuttleBusError n pos addr => Sys2Proof.Machine.execShuttleBusError n pos addr s
  | .shuttleWindowHalt n => Sys2Proof.Machine.execShuttleWindowHalt n s
  | .allstopClear size value => Sys2Proof.Machine.execAllstopClear size value s
  | .channelErrClear n size value => Sys2Proof.Machine.execChannelErrClear n size value s
  | .bar2Write ep off reqid bytes poisoned => Sys2Proof.Machine.execBar2Write ep off reqid bytes poisoned s
  | .bar2Read ep off reqid len => Sys2Proof.Machine.execBar2Read ep off reqid len s
  | .windowWord0Write w size value => Sys2Proof.Machine.execWindowWord0Write w size value s
  | .windowWord1Write w size value => Sys2Proof.Machine.execWindowWord1Write w size value s
  | .hostCompletion ep t res => Sys2Proof.Machine.execHostCompletion ep t res s
  | .completionTimeout ep t => Sys2Proof.Machine.execCompletionTimeout ep t s
  | .unexpectedCompletion ep t => Sys2Proof.Machine.execUnexpectedCompletion ep t s
  | .tagReservationExpiry ep t => Sys2Proof.Machine.execTagReservationExpiry ep t s
  | .atsInvalidateRequest ep itag page count => Sys2Proof.Machine.execAtsInvalidateRequest ep itag page count s
  | .msixTableWrite ep off size value poisoned control => Sys2Proof.Machine.execMsixTableWrite ep off size value poisoned control s
  | .dStateChange ep pmcsr => Sys2Proof.Machine.execDStateChange ep pmcsr s
  | .pmeTurnOff ep => Sys2Proof.Machine.execPmeTurnOff ep s
  | .busMasterEnable ep c => Sys2Proof.Machine.execBusMasterEnable ep c s
  | .aspmL1Entry ep => Sys2Proof.Machine.execAspmL1Entry ep s
  | .getVersion tr => Sys2Proof.Machine.execGetVersion tr s
  | .getCapabilities tr => Sys2Proof.Machine.execGetCapabilities tr s
  | .negotiateAlgorithms tr sig hash measHash spec => Sys2Proof.Machine.execNegotiateAlgorithms tr sig hash measHash spec s
  | .getDigests tr => Sys2Proof.Machine.execGetDigests tr s
  | .getCertificate tr slot offset length => Sys2Proof.Machine.execGetCertificate tr slot offset length s
  | .challenge tr slot summary nonce => Sys2Proof.Machine.execChallenge tr slot summary nonce s
  | .getMeasurements tr op signed_ nonce => Sys2Proof.Machine.execGetMeasurements tr op signed_ nonce s
  | .respondIfReady tr => Sys2Proof.Machine.execRespondIfReady tr s
  | .spdmUnsupportedRequest tr => Sys2Proof.Machine.execSpdmUnsupportedRequest tr s
  | .doeAbort ep => Sys2Proof.Machine.execDoeAbort ep s
  | .setEndpointId binding op eid => Sys2Proof.Machine.execSetEndpointId binding op eid s
  | .getEndpointId binding => Sys2Proof.Machine.execGetEndpointId binding s
  | .getEndpointUuid binding => Sys2Proof.Machine.execGetEndpointUuid binding s
  | .getMctpVersionSupport binding typ => Sys2Proof.Machine.execGetMctpVersionSupport binding typ s
  | .getMessageTypeSupport binding => Sys2Proof.Machine.execGetMessageTypeSupport binding s
  | .getVendorDefinedMessageSupport binding selector => Sys2Proof.Machine.execGetVendorDefinedMessageSupport binding selector s
  | .mctpUnsupportedCommand binding cmd => Sys2Proof.Machine.execMctpUnsupportedCommand binding cmd s
  | .hlthGet scope offset => Sys2Proof.Machine.execHlthGet scope offset s
  | .dumpGet src len offset => Sys2Proof.Machine.execDumpGet src len offset s
  | .frameReceive link f => Sys2Proof.Machine.execFrameReceive link f s
  | .bobbinLinkDown link hop signal => Sys2Proof.Machine.execBobbinLinkDown link hop signal s
  | .linkTrained link hop ack ctrl bulk serial => Sys2Proof.Machine.execLinkTrained link hop ack ctrl bulk serial s
  | .rsp p tag hop status body hcrcOk => Sys2Proof.Machine.execRsp p tag hop status body hcrcOk s
  | .rdata p tag hop seg d hcrcOk => Sys2Proof.Machine.execRdata p tag hop seg d hcrcOk s
  | .alert p hop body hcrcOk => Sys2Proof.Machine.execAlert p hop body hcrcOk s
  | .credit link ctrl bulk hcrcOk => Sys2Proof.Machine.execCredit link ctrl bulk hcrcOk s
  | .enumerateHop p h => Sys2Proof.Machine.execEnumerateHop p h s
  | .setTimeTimer => Sys2Proof.Machine.execSetTimeTimer s
  | .initStatusPoll p h => Sys2Proof.Machine.execInitStatusPoll p h s
  | .sledInitTimeout p h => Sys2Proof.Machine.execSledInitTimeout p h s
  | .enrol p h => Sys2Proof.Machine.execEnrol p h s
  | .disenrol p h => Sys2Proof.Machine.execDisenrol p h s
  | .retrain p => Sys2Proof.Machine.execRetrain p s
  | .portEnWrite p size value => Sys2Proof.Machine.execPortEnWrite p size value s
  | .pwroff p h size value => Sys2Proof.Machine.execPwroff p h size value s
  | .bayPoll inputs => Sys2Proof.Machine.execBayPoll inputs s
  | .bayPowerOn p h => Sys2Proof.Machine.execBayPowerOn p h s
  | .sledTrainTimeout p h => Sys2Proof.Machine.execSledTrainTimeout p h s
  | .sledPowerRetry p h => Sys2Proof.Machine.execSledPowerRetry p h s
  | .mirror seq item => Sys2Proof.Machine.execMirror seq item s
  | .confirm seq => Sys2Proof.Machine.execConfirm seq s
  | .sync phase permille items => Sys2Proof.Machine.execSync phase permille items s
  | .syncComplete => Sys2Proof.Machine.execSyncComplete s
  | .renew answer => Sys2Proof.Machine.execRenew answer s
  | .pairHealth r => Sys2Proof.Machine.execPairHealth r s
  | .failbackRequest => Sys2Proof.Machine.execFailbackRequest s
  | .handoverDrainTimeout => Sys2Proof.Machine.execHandoverDrainTimeout s
  | .peerTimeout => Sys2Proof.Machine.execPeerTimeout s
  | .leaseRenewTimer => Sys2Proof.Machine.execLeaseRenewTimer s
  | .leaseExpiry => Sys2Proof.Machine.execLeaseExpiry s
  | .postWindowExpiry => Sys2Proof.Machine.execPostWindowExpiry s
  | .rideThroughStart => Sys2Proof.Machine.execRideThroughStart s
  | .gapEnd tablesOk => Sys2Proof.Machine.execGapEnd tablesOk s
  | .helloAck pairNo holds => Sys2Proof.Machine.execHelloAck pairNo holds s
  | .leaseAck seq => Sys2Proof.Machine.execLeaseAck seq s
  | .claimGrant claim ago => Sys2Proof.Machine.execClaimGrant claim ago s
  | .leaseDeny claim => Sys2Proof.Machine.execLeaseDeny claim s
  | .peerLostAck => Sys2Proof.Machine.execPeerLostAck s
  | .inSyncAck => Sys2Proof.Machine.execInSyncAck s
  | .hello m => Sys2Proof.Machine.execHello m s
  | .leaseReq m => Sys2Proof.Machine.execLeaseReq m s
  | .health m => Sys2Proof.Machine.execHealth m s
  | .peerLost m => Sys2Proof.Machine.execPeerLost m s
  | .inSync m => Sys2Proof.Machine.execInSync m s
  | .handover m => Sys2Proof.Machine.execHandover m s
  | .grantAck m => Sys2Proof.Machine.execGrantAck m s
  | .witnessLeaseLapse q => Sys2Proof.Machine.execWitnessLeaseLapse q s
  | .grantRepeat q => Sys2Proof.Machine.execGrantRepeat q s
  | .healthReportTimer => Sys2Proof.Machine.execHealthReportTimer s
  | .standbySelfTest test pass => Sys2Proof.Machine.execStandbySelfTest test pass s
  | .selfTestRerun test pass => Sys2Proof.Machine.execSelfTestRerun test pass s
  | .fedHello link h => Sys2Proof.Machine.execFedHello link h s
  | .electionStart high => Sys2Proof.Machine.execElectionStart high s
  | .electionDecide => Sys2Proof.Machine.execElectionDecide s
  | .fedLinkChange dev up wide => Sys2Proof.Machine.execFedLinkChange dev up wide s
  | .timeMark => Sys2Proof.Machine.execTimeMark s
  | .timeMarkEdge theirs long => Sys2Proof.Machine.execTimeMarkEdge theirs long s
  | .fedCallPart m => Sys2Proof.Machine.execFedCallPart m s
  | .fwWrite size value => Sys2Proof.Machine.execFwWrite size value s
  | .fwSelect size value => Sys2Proof.Machine.execFwSelect size value s
  | .fwWriteComplete ok => Sys2Proof.Machine.execFwWriteComplete ok s
  | .huTestRequest size value => Sys2Proof.Machine.execHuTestRequest size value s
  | .capTestTimer => Sys2Proof.Machine.execCapTestTimer s
  | .capTestStart => Sys2Proof.Machine.execCapTestStart s
  | .capTestComplete c => Sys2Proof.Machine.execCapTestComplete c s
  | .vchgWrite size value => Sys2Proof.Machine.execVchgWrite size value s
  | .bankReachesVchg => Sys2Proof.Machine.execBankReachesVchg s
  | .chargerFault present => Sys2Proof.Machine.execChargerFault present s
  | .vaultImageConsumed => Sys2Proof.Machine.execVaultImageConsumed s
  | .vaultEraseSufficient => Sys2Proof.Machine.execVaultEraseSufficient s
  | .sensorPoll temps vin iin vbank pfail => Sys2Proof.Machine.execSensorPoll temps vin iin vbank pfail s
  | .throttleStepTimer => Sys2Proof.Machine.execThrottleStepTimer s
  | .thermalTrip src => Sys2Proof.Machine.execThermalTrip src s
  | .thermalPowerRemoval src => Sys2Proof.Machine.execThermalPowerRemoval src s
  | .healthReportForm => Sys2Proof.Machine.execHealthReportForm s
  | .healthRecordSave => Sys2Proof.Machine.execHealthRecordSave s
  | .hlthFreeze size value => Sys2Proof.Machine.execHlthFreeze size value s
  | .correctedErrorLog src unit addr hit => Sys2Proof.Machine.execCorrectedErrorLog src unit addr hit s
  | .reservedOpcode th => Sys2Proof.Machine.execReservedOpcode th s
  | .controlIslandResetRelease => Sys2Proof.Machine.execControlIslandResetRelease s
  | .peerHealthStale => Sys2Proof.Machine.execPeerHealthStale s
  | .atsEnableClear ep value => Sys2Proof.Machine.execAtsEnableClear ep value s
  | .badWitnessMessage => Sys2Proof.Machine.execBadWitnessMessage s

end Sys2Proof.Machine
end

