-- ==== Sys2Proof/Machine/Tick.lean ====
section
/-! DEFINITION. What the passing of one tick does when no command waits (R28; log entry 1). -/

namespace Sys2Proof.Machine

/-- One tick of 10 ns (R28): TBASE counts, modulo 2^64, and parts of spanning calls that wait for a thread start where one is free
(R411), the range engine of the Map Cache visits its next lines (R161), reads of the device's own that have their words go on, and the
arrays' registers follow. DESIGN CHOICE: the step takes a tick when the queue of commands is empty (log entry 1). -/
def State.tick (s : State) : State := (({ s with tbase := s.tbase + 1 }).maintTick).fedDrain.runReads.settleArrays

end Sys2Proof.Machine
end

