-- ==== Sys2Proof/Safety.lean ====
section
/-! DEFINITION. The terms in which the claims about the machine are made: when a thread issues an instruction, what memory in
canonical form is, and which parts of the state no command changes. -/

namespace Sys2Proof.Machine

/-- Instruction `want` of thread `th` issues and takes effect: the thread can issue it (R262, R263, R265), it has budget (R267), the
word is legal (R241), its predicate holds (R240), and the thread has its permissions (R266). -/
def State.issues (s : State) (th : Nat) (want : IWord → Bool) : Prop :=
  s.canIssue th = true ∧ want (iword (s.curWord th)) = true ∧ (s.thr th).budget ≠ 0 ∧ (iword (s.curWord th)).legal = true ∧
    execPred (iword (s.curWord th)).pe (iword (s.curWord th)).pn (iword (s.curWord th)).ps (s.thr th).preds = true ∧
    (iword (s.curWord th)).perm &&& (s.thr th).perm = (iword (s.curWord th)).perm

/-- The state with the PC of thread `th` past its instruction and one unit of its budget used (R239, R267). -/
def State.issued (s : State) (th : Nat) : State :=
  s.setThr th { s.thr th with budget := (s.thr th).budget - 1, pc := ((s.thr th).pc + 1) % 65536 }

/-- The instruction word at a thread's PC, taken apart. -/
def State.ins (s : State) (th : Nat) : IWord := iword (s.curWord th)

/-- A write of `size` bytes at `off` reaches its register: the host link works, the mode is not Halted, size and alignment are those of
R12, and the register is served in the mode (R35, R457, R458). -/
def State.takesWrite (s : State) (off size : Nat) : Bool :=
  !s.hostDown && s.mode.cur != .halted && (size == 4 || size == 8) && off % size == 0 && s.served off

/-- As State.takesWrite, for the register of a command: a 4-byte write goes to the lower half (R12). -/
def State.takesCmd (s : State) (off size : Nat) : Bool := s.takesWrite off size && (size == 8 || off % 8 == 0)

/-- The ring of a thread's call has permission X (R266, R276). -/
def State.perm16 (s : State) (th : Nat) : Bool := (s.thr th).perm &&& 16 == 16

/-- Every memory of the device, and the register file, is in its canonical form: keys strictly rising, nothing listed that an unlisted
key would read as; so is a dump that stands in DRAM. -/
def State.wf (s : State) : Prop :=
  Mem.wf s.dram ∧ Mem.wf s.vault ∧ Tbl.Wf resetVal s.bar0 ∧ ∀ d, s.dump.inDram = some d → Mem.wf d.mem

/-- What no command changes: the variant, the fitted DRAM and the serial number (R2, R132, R381), and the queue of the commands that
wait. -/
def State.fixed (s : State) : Variant × Nat × Nat × List Instr :=
  (s.hw.variant, s.hw.dramGib, s.hw.serial, s.pending)

end Sys2Proof.Machine
end

