-- ==== Sys2Proof/Certificates/Slice0/Obligations.lean ====
section
/-! DEFINITION. The statements for the provers: what each command does where the spec lets it have its own effect, the shared rules, and
what every step keeps. -/

open Sys2Proof Sys2Proof.Machine

/-! ## The step and the reset -/

/-- The step runs the command at the front of the queue on the state with the queue's rest; with no command waiting a tick passes, which
is the model's choice (log entry 1). -/
def Obligations.StepRunsFrontCommand : Prop :=
  (∀ (c : Instr) (s : State), step { s with pending := c :: s.pending } = exec c s) ∧
    (∀ s : State, s.pending = [] → step s = .next s.tick)

/-- What a conventional reset at power-on leaves by the spec: the mode is Boot with CAUSE 0 (R33, R38), every register of BAR0 but
HOOP_SIZE, which the device configuration gives, has the reset value of its fields (R457 and the register tables), TBASE is 0 (R28), no
thread runs, the rings hold nothing, the Map Cache and the hoop are empty, and step 0x00 of Boot runs (R413). The variant, the fitted
DRAM, the straps and the size of the hoop are the model's choice (log entry 5). -/
def Obligations.ResetState : Prop :=
  State.reset.mode.cur = .boot ∧ State.reset.mode.busy = false ∧ State.reset.mode.cause = 0 ∧
    (∀ off, off ≠ R.HOOP_SIZE → State.reset.reg off = resetVal off) ∧ State.reset.tbase = 0 ∧
    (∀ th, (State.reset.thr th).running = false) ∧ State.reset.subRings = [] ∧
    State.reset.mc.lines = [] ∧ State.reset.hoop.versions = [] ∧ State.reset.boot.running = some (0, 0) ∧ State.reset.pending = []

/-! ## Quinuip: registers (R236, R247) -/

/-- A register instruction of R247: its command, its opcode, its result from the thread's registers and the instruction's fields. -/
structure Sys2Proof.AluRow where
  cmd : Nat → Instr
  op : Nat
  f : Thread → IWord → Word

/-- The register instructions of R247 with one result, as its table gives them. -/
def Sys2Proof.aluRows : List AluRow := [
  ⟨.add, 0x01, fun t i => t.reg i.a + t.reg i.b⟩,
  ⟨.addi, 0x02, fun t i => t.reg i.a + (BitVec.ofNat 32 i.imm).signExtend 64⟩,
  ⟨.sub, 0x03, fun t i => t.reg i.a - t.reg i.b⟩,
  ⟨.and, 0x04, fun t i => t.reg i.a &&& t.reg i.b⟩,
  ⟨.andi, 0x05, fun t i => t.reg i.a &&& BitVec.ofNat 64 i.imm⟩,
  ⟨.or, 0x06, fun t i => t.reg i.a ||| t.reg i.b⟩,
  ⟨.ori, 0x07, fun t i => t.reg i.a ||| BitVec.ofNat 64 i.imm⟩,
  ⟨.xor, 0x08, fun t i => t.reg i.a ^^^ t.reg i.b⟩,
  ⟨.xori, 0x09, fun t i => t.reg i.a ^^^ BitVec.ofNat 64 i.imm⟩,
  ⟨.shl, 0x0A, fun t i => t.reg i.a <<< ((t.reg i.b).toNat % 64)⟩,
  ⟨.shli, 0x0B, fun t i => t.reg i.a <<< (i.imm % 64)⟩,
  ⟨.shr, 0x0C, fun t i => t.reg i.a >>> ((t.reg i.b).toNat % 64)⟩,
  ⟨.shri, 0x0D, fun t i => t.reg i.a >>> (i.imm % 64)⟩,
  ⟨.sar, 0x0E, fun t i => (t.reg i.a).sshiftRight ((t.reg i.b).toNat % 64)⟩,
  ⟨.sari, 0x0F, fun t i => (t.reg i.a).sshiftRight (i.imm % 64)⟩,
  ⟨.mul, 0x10, fun t i => t.reg i.a * t.reg i.b⟩,
  ⟨.mulhu, 0x11, fun t i => BitVec.ofNat 64 ((t.reg i.a).toNat * (t.reg i.b).toNat / 2 ^ 64)⟩,
  ⟨.divu, 0x12, fun t i => if t.reg i.b = 0 then BitVec.allOnes 64 else t.reg i.a / t.reg i.b⟩,
  ⟨.remu, 0x13, fun t i => if t.reg i.b = 0 then t.reg i.a else t.reg i.a % t.reg i.b⟩,
  ⟨.minu, 0x14, fun t i => if (t.reg i.a).toNat ≤ (t.reg i.b).toNat then t.reg i.a else t.reg i.b⟩,
  ⟨.maxu, 0x15, fun t i => if (t.reg i.a).toNat ≤ (t.reg i.b).toNat then t.reg i.b else t.reg i.a⟩,
  ⟨.movhi, 0x16, fun t i => BitVec.ofNat 64 (i.imm * 2 ^ 32 + (t.reg i.a).toNat % 2 ^ 32)⟩,
  ⟨.popc, 0x1A, fun t i => BitVec.ofNat 64 ((List.range 64).filter (fun k => (t.reg i.a).getLsbD k)).length⟩]

/-- R247: each of these instructions writes the result its row of the table gives to gD; nothing else of the device changes but the
thread's PC and budget. -/
def Obligations.RegisterInstructionResults : Prop :=
  ∀ r ∈ aluRows, ∀ (th : Nat) (s : State), s.issues th (fun i => i.op == r.op) →
    exec (r.cmd th) s = .next ((s.issued th).setThr th (((s.issued th).thr th).setReg (s.ins th).d (r.f (s.thr th) (s.ins th))))

/-- R247, CLZ: gD takes the number of leading zeros of gA: the count n ≤ 64 for which gA lies below 2^(64 − n) and, for n < 64, not below
2^(63 − n). -/
def Sys2Proof.Claims.LeadingZeroCount : Prop :=
  ∀ (th : Nat) (s : State) (n : Nat), s.issues th (fun i => i.op == 0x19) → n ≤ 64 →
    ((s.thr th).reg (s.ins th).a).toNat < 2 ^ (64 - n) → (n < 64 → 2 ^ (63 - n) ≤ ((s.thr th).reg (s.ins th).a).toNat) →
    exec (.clz th) s = .next ((s.issued th).setThr th (((s.issued th).thr th).setReg (s.ins th).d (BitVec.ofNat 64 n)))

/-- R247, BFX, BFI and NOP: a field within 64 bits is taken out of gA, or gA's low bits are put into the field of gD and its other bits
stay; a field past bit 63 ends the thread with fault 0x0406; NOP only advances. -/
def Sys2Proof.Claims.BitFieldInstructions : Prop :=
  ∀ (th : Nat) (s : State),
    let i := s.ins th
    let pos := i.imm % 64
    let len := i.imm / 2 ^ 8 % 64 + 1
    let a := ((s.thr th).reg i.a).toNat
    let d := ((s.thr th).reg i.d).toNat
    (s.issues th (fun i => i.op == 0x17) → pos + len ≤ 64 →
      exec (.bfx th) s = .next ((s.issued th).setThr th (((s.issued th).thr th).setReg i.d (BitVec.ofNat 64 (a / 2 ^ pos % 2 ^ len))))) ∧
    (s.issues th (fun i => i.op == 0x18) → pos + len ≤ 64 →
      ∃ v : Word, exec (.bfi th) s = .next ((s.issued th).setThr th (((s.issued th).thr th).setReg i.d v)) ∧
        ∀ k < 64, v.getLsbD k = if pos ≤ k ∧ k < pos + len then a.testBit (k - pos) else d.testBit k) ∧
    (s.issues th (fun i => i.op == 0x17) → 64 < pos + len → exec (.bfx th) s = .next ((s.issued th).faultAt th 0x0406)) ∧
    (s.issues th (fun i => i.op == 0x18) → 64 < pos + len → exec (.bfi th) s = .next ((s.issued th).faultAt th 0x0406)) ∧
    (s.issues th (fun i => i.op == 0x6A) → exec (.nop th) s = .next (s.issued th))

/-- Together: Claims.LeadingZeroCount and Claims.BitFieldInstructions (R247). -/
def Obligations.FieldInstructions : Prop := Claims.LeadingZeroCount ∧ Claims.BitFieldInstructions

/-- R236: g0 reads as zero and discards writes; a register written reads the value written, and every other register reads as before. -/
def Sys2Proof.Claims.RegisterZero : Prop :=
  ∀ (t : Thread) (n k : Nat) (v : Word),
    t.reg 0 = 0 ∧ (t.setReg 0 v) = t ∧ (t.setReg n v).reg k = if k = n ∧ n ≠ 0 then v else t.reg k

/-- A thread replaced is the thread read back; no other thread, and nothing else of the device, changes with it. -/
def Sys2Proof.Claims.ThreadFrame : Prop :=
  ∀ (s : State) (th k : Nat) (t : Thread),
    (s.setThr th t).thr k = (if k = th then t else s.thr k) ∧
      { s.setThr th t with threads := s.threads } = s

/-- Together: Claims.RegisterZero and Claims.ThreadFrame (R236). -/
def Obligations.ThreadRegisters : Prop := Claims.RegisterZero ∧ Claims.ThreadFrame

/-- An instruction that a thread issues synchronously: its command and opcode. -/
def Sys2Proof.syncRows : List ((Nat → Instr) × Nat) := [
  (.add, 0x01), (.addi, 0x02), (.sub, 0x03), (.and, 0x04), (.andi, 0x05), (.or, 0x06), (.ori, 0x07), (.xor, 0x08), (.xori, 0x09),
  (.shl, 0x0A), (.shli, 0x0B), (.shr, 0x0C), (.shri, 0x0D), (.sar, 0x0E), (.sari, 0x0F), (.mul, 0x10), (.mulhu, 0x11), (.divu, 0x12),
  (.remu, 0x13), (.minu, 0x14), (.maxu, 0x15), (.movhi, 0x16), (.bfx, 0x17), (.bfi, 0x18), (.clz, 0x19), (.popc, 0x1A), (.ldk, 0x1B),
  (.stk, 0x1C), (.cmp, 0x20), (.cmpi, 0x21), (.plog, 0x22), (.br, 0x28), (.jal, 0x29), (.jr, 0x2A), (.skalloc, 0x30), (.skfree, 0x31),
  (.skzero, 0x32), (.gfmac, 0x40), (.pigen, 0x48), (.pichk, 0x49), (.pixlate, 0x4A), (.maplock, 0x52), (.waitev, 0x58), (.batch, 0x61),
  (.trap, 0x68), (.halt, 0x69), (.nop, 0x6A)]

/-- The rules of issuing: with no budget left the thread faults with 0x0403 (R267); a reserved code or an unused field set, with 0x0401
(R241); an instruction whose predicate does not hold only advances and uses budget (R240); one that needs a permission the thread lacks
faults with 0x0402 (R266). An illegal word named as such ends its thread likewise. A thread that cannot issue stays as it is. The order of
the four checks is the model's (log entry 16). -/
def Obligations.IssueRules : Prop :=
  ∀ r ∈ syncRows, ∀ (th : Nat) (s : State),
    let i := s.ins th
    let t := s.thr th
    (s.canIssue th = false → exec (r.1 th) s = .next s) ∧
    (s.canIssue th = true → i.op = r.2 → t.budget = 0 → exec (r.1 th) s = .next (s.threadFault th 0x0403 0 t.pc (s.curWord th))) ∧
    (s.canIssue th = true → i.op = r.2 → t.budget ≠ 0 → i.legal = false →
      exec (r.1 th) s = .next (s.threadFault th 0x0401 0 t.pc (s.curWord th)) ∧
        exec (.reservedOpcode th) s = .next (s.threadFault th 0x0401 0 t.pc (s.curWord th))) ∧
    (s.canIssue th = true → i.op = r.2 → t.budget ≠ 0 → i.legal = true → execPred i.pe i.pn i.ps t.preds = false →
      exec (r.1 th) s = .next (s.issued th)) ∧
    (s.canIssue th = true → i.op = r.2 → t.budget ≠ 0 → i.legal = true → execPred i.pe i.pn i.ps t.preds = true →
      i.perm &&& t.perm ≠ i.perm → exec (r.1 th) s = .next (s.threadFault th 0x0402 0 t.pc (s.curWord th)))

/-! ## Quinuip: predicates and branches (R248) -/

/-- The condition codes of R248. -/
def Sys2Proof.condition (c : Nat) (x y : Word) : Bool :=
  if c = 0 then x == y else if c = 1 then x != y else if c = 2 then x.ult y else if c = 3 then !x.ult y
  else if c = 4 then x.slt y else !x.slt y

/-- R248: CMP and CMPI set predicate D to the condition of gA and the second operand, PLOG to its truth table's bit; the other predicates
stay, and nothing else changes but PC and budget. -/
def Sys2Proof.Claims.PredicateInstructions : Prop :=
  ∀ (th : Nat) (s : State),
    let i := s.ins th
    let t := s.thr th
    let put (b : Bool) : State := (s.issued th).setThr th { (s.issued th).thr th with preds := putBit t.preds i.d b }
    (s.issues th (fun i => i.op == 0x20) → exec (.cmp th) s = .next (put (condition i.c (t.reg i.a) (t.reg i.b)))) ∧
    (s.issues th (fun i => i.op == 0x21) →
      exec (.cmpi th) s = .next (put (condition i.c (t.reg i.a) ((BitVec.ofNat 32 i.imm).signExtend 64)))) ∧
    (s.issues th (fun i => i.op == 0x22) →
      exec (.plog th) s = .next (put (bit i.imm (2 * (bit t.preds (i.a % 4)).toNat + (bit t.preds (i.b % 4)).toNat))))

/-- R248: BR, JAL and JR continue at their target, which must lie in the program's extent, else the thread ends with fault 0x0406; JAL
first writes the address after itself to gD. BR and JAL count from the instruction itself (log entry 19). -/
def Sys2Proof.Claims.BranchInstructions : Prop :=
  ∀ (th : Nat) (s : State),
    let i := s.ins th
    let t := s.thr th
    let rel : Int := (t.pc : Int) + ((BitVec.ofNat 32 i.imm).signExtend 64).toInt
    let inside (x : Int) : Prop := (t.base : Int) ≤ x ∧ x < (t.base : Int) + (t.length : Int)
    let linked : State := (s.issued th).setThr th (((s.issued th).thr th).setReg i.d (BitVec.ofNat 64 ((t.pc + 1) % 65536)))
    t.pc < 65536 →
      ((s.issues th (fun i => i.op == 0x28) → inside rel →
        exec (.br th) s = .next ((s.issued th).setThr th { (s.issued th).thr th with pc := rel.toNat })) ∧
      (s.issues th (fun i => i.op == 0x28) → ¬ inside rel → exec (.br th) s = .next ((s.issued th).faultAt th 0x0406)) ∧
      (s.issues th (fun i => i.op == 0x29) → inside rel →
        exec (.jal th) s = .next (linked.setThr th { linked.thr th with pc := rel.toNat })) ∧
      (s.issues th (fun i => i.op == 0x29) → ¬ inside rel → exec (.jal th) s = .next (linked.faultAt th 0x0406)) ∧
      (s.issues th (fun i => i.op == 0x2A) → inside ((t.reg i.a).toNat : Int) →
        exec (.jr th) s = .next ((s.issued th).setThr th { (s.issued th).thr th with pc := (t.reg i.a).toNat })) ∧
      (s.issues th (fun i => i.op == 0x2A) → ¬ inside ((t.reg i.a).toNat : Int) →
        exec (.jr th) s = .next ((s.issued th).faultAt th 0x0406)))

/-- Together: Claims.PredicateInstructions and Claims.BranchInstructions (R248). -/
def Obligations.PredicatesAndBranches : Prop := Claims.PredicateInstructions ∧ Claims.BranchInstructions

/-! ## Quinuip: runs of skeins (R243, R244, R247) -/

/-- R244: SKALLOC gives its handle a run of gA free skeins, waits while too few are free, or with NOWAIT clears its predicate; a run
freed serves the one that waits; SKFREE frees a run. -/
def Obligations.SkeinAllocation : Prop :=
  ∀ (th : Nat) (s : State),
    let i := s.ins th
    let t := s.thr th
    let n := (t.reg i.a).toNat
    let free := s.freeSkeins (thCluster th)
    (s.issues th (fun i => i.op == 0x30) → t.run i.h = [] → 0 < n → n ≤ 256 → n ≤ free.length →
      exec (.skalloc th) s = .next (((s.issued th).markSkeins (thCluster th) (free.take n) true).setThr th
        (((s.issued th).thr th).setRun i.h (free.take n)))) ∧
    (s.issues th (fun i => i.op == 0x30) → t.run i.h = [] → n ≤ 256 → free.length < n → i.ib 12 = false →
      exec (.skalloc th) s = .next ((s.issued th).setThr th
        { (s.issued th).thr th with wait := .skalloc i.h n, waitSince := s.tbase.toNat })) ∧
    (s.issues th (fun i => i.op == 0x30) → t.run i.h = [] → n ≤ 256 → free.length < n → i.ib 12 = true →
      exec (.skalloc th) s = .next ((s.issued th).setThr th
        { (s.issued th).thr th with preds := putBit t.preds (i.imm / 2 ^ 13 % 4) false })) ∧
    (s.issues th (fun i => i.op == 0x30) → t.run i.h ≠ [] → exec (.skalloc th) s = .next ((s.issued th).faultAt th 0x0405)) ∧
    (∀ h k, t.wait = .skalloc h k → s.threadsRun = true → k ≤ free.length →
      exec (.skallocResume th) s = .next ((s.markSkeins (thCluster th) (free.take k) true).setThr th
        ({ t with wait := .none }.setRun h (free.take k)))) ∧
    (s.issues th (fun i => i.op == 0x31) → t.run i.h ≠ [] →
      exec (.skfree th) s = .next (((s.issued th).markSkeins (thCluster th) (t.run i.h) false).setThr th
        (((s.issued th).thr th).setRun i.h []))) ∧
    (s.issues th (fun i => i.op == 0x31) → t.run i.h = [] → exec (.skfree th) s = .next ((s.issued th).faultAt th 0x0405))

/-- R243, R244, R247: LDK and STK move 8 bytes between a register and a run's data, or its sidecars; SKZERO zeroes a run; GFMAC on
registers multiplies byte by byte in GF(2^8) and adds. An empty handle or an offset beyond the run ends the thread with 0x0405, a
misaligned one with 0x0406. -/
def Sys2Proof.Claims.SkeinAccess : Prop :=
  ∀ (th : Nat) (s : State),
    let i := s.ins th
    let t := s.thr th
    let off := (t.reg i.a + BitVec.ofNat 64 (i.imm / 2 ^ 16 % 2 ^ 16)).toNat
    let room := (if i.ib 12 then 32 else 4096) * (t.run i.h).length
    let wr (v : Word) : State := (s.issued th).setThr th (((s.issued th).thr th).setReg i.d v)
    (s.issues th (fun i => i.op == 0x1B) → t.run i.h ≠ [] → off % 8 = 0 → off + 8 ≤ room →
      exec (.ldk th) s = .next (wr (if i.ib 12 then s.sideWord th i.h off else s.runWord th i.h off))) ∧
    (s.issues th (fun i => i.op == 0x1C) → t.run i.h ≠ [] → off % 8 = 0 → off + 8 ≤ room →
      exec (.stk th) s = .next (if i.ib 12 then (s.issued th).setSideWord th i.h off (t.reg i.b)
        else (s.issued th).setRunWord th i.h off (t.reg i.b))) ∧
    (s.issues th (fun i => i.op == 0x1B) → t.run i.h ≠ [] → off % 8 ≠ 0 → exec (.ldk th) s = .next ((s.issued th).faultAt th 0x0406)) ∧
    (s.issues th (fun i => i.op == 0x1C) → t.run i.h ≠ [] → off % 8 ≠ 0 → exec (.stk th) s = .next ((s.issued th).faultAt th 0x0406)) ∧
    (s.issues th (fun i => i.op == 0x1B) → (t.run i.h = [] ∨ off % 8 = 0 ∧ room < off + 8) →
      exec (.ldk th) s = .next ((s.issued th).faultAt th 0x0405)) ∧
    (s.issues th (fun i => i.op == 0x1C) → (t.run i.h = [] ∨ off % 8 = 0 ∧ room < off + 8) →
      exec (.stk th) s = .next ((s.issued th).faultAt th 0x0405)) ∧
    (s.issues th (fun i => i.op == 0x32) → t.run i.h ≠ [] →
      exec (.skzero th) s = .next ((s.issued th).putInfos th i.h 0 ((t.run i.h).map (fun _ => infoReset 0)))) ∧
    (s.issues th (fun i => i.op == 0x32) → t.run i.h = [] → exec (.skzero th) s = .next ((s.issued th).faultAt th 0x0405)) ∧
    (s.issues th (fun i => i.op == 0x40) → i.ib 3 = false →
      ∃ v : Word, exec (.gfmac th) s = .next (wr v) ∧ ∀ k < 8, bits v.toNat (8 * k) 8 =
        bits (t.reg i.d).toNat (8 * k) 8 ^^^ gfMul (bits (t.reg i.a).toNat (8 * k) 8) (bits (t.reg i.b).toNat (8 * k) 8)) ∧
    (s.issues th (fun i => i.op == 0x40) → i.ib 3 = true → t.run i.h ≠ [] → (t.run i.h).length = (t.run (i.im 16 4)).length →
      exec (.gfmac th) s = .next (((s.issued th).putInfos th i.h 0 ((List.zip (s.runInfos th i.h) (s.runInfos th (i.im 16 4))).map
        (fun p => p.1.addScaled (bits (t.reg i.b).toNat 0 8) p.2))).async th i .done 0 [i.h] [i.im 16 4])) ∧
    (s.issues th (fun i => i.op == 0x40) → i.ib 3 = true → (t.run i.h = [] ∨ (t.run i.h).length ≠ (t.run (i.im 16 4)).length) →
      exec (.gfmac th) s = .next ((s.issued th).faultAt th 0x0405))

/-- R243: eight bytes written to a run's data are the bytes read back at that offset; the run's sidecars, and the bytes of the run's
information word outside those eight, read as before. -/
def Sys2Proof.Claims.SkeinReadAfterWrite : Prop :=
  ∀ (s : State) (th h off : Nat) (w : Word), off % 8 = 0 →
    (s.setRunWord th h off w).runWord th h off = w ∧
      (∀ k, (s.setRunWord th h off w).sideWord th h k = s.sideWord th h k) ∧
      ∀ b, b < 4096 → (b < off % 4096 ∨ off % 4096 + 8 ≤ b) →
        ((s.setRunWord th h off w).runInfo th h (off / 4096)).data.read b = (s.runInfo th h (off / 4096)).data.read b

/-- Together: Claims.SkeinAccess and Claims.SkeinReadAfterWrite (R243, R244, R247). -/
def Obligations.SkeinWords : Prop := Claims.SkeinAccess ∧ Claims.SkeinReadAfterWrite

/-- R256: PIGEN and PIXLATE rewrite the blocks gC names in place, one after the other; PICHK reports the first failing block with its
status; blocks beyond the run end the thread with fault 0x0405. What PIGEN and PIXLATE write to gD, and what PICHK writes there where no
block fails above its status 0, the spec does not state: a free value (log entry 2). -/
def Sys2Proof.Claims.ProtectionInstructions : Prop :=
  ∀ (th : Nat) (s : State),
    let i := s.ins th
    let t := s.thr th
    let c := (t.reg i.c).toNat
    let n := c / 2 ^ 16 % 2 ^ 8 + 1
    let first := c / 2 ^ 8 % 2 ^ 8
    let fmt := (s.arr (c % 16)).pifmt
    let fits := first + n ≤ (t.run i.h).length
    let blk (k : Nat) : Info := s.runInfo th i.h (first + k)
    let put (f : Nat → Info → Info) : State := (s.issued th).putInfos th i.h first ((List.range n).map (fun k => f k (blk k)))
    let done (x : State) (v : Word) : State := x.setThr th ((x.thr th).setReg i.d v)
    let b := (t.reg i.b).toNat
    let st (k : Nat) : Nat := (blk k).check fmt (s.arr (c % 16)).pitype (i.imm % 256) (b % 2 ^ 16) (b / 2 ^ 16 % 2 ^ 16) ((t.reg i.a).toNat + k)
    (s.issues th (fun i => i.op == 0x48) → fits →
      exec (.pigen th) s = .next (done (put (fun k x => x.gen fmt (b % 2 ^ 16) ((t.reg i.a).toNat + k))) s.freshVal).bumpFree) ∧
    (s.issues th (fun i => i.op == 0x4A) → fits → i.im 13 2 = 0 →
      exec (.pixlate th) s = .next (done (put (fun _ x => x.poison fmt)) s.freshVal).bumpFree) ∧
    (s.issues th (fun i => i.op == 0x4A) → fits → i.im 13 2 = 1 →
      exec (.pixlate th) s = .next (done (put (fun k x => x.gen 0 0 ((t.reg i.a).toNat + k))) s.freshVal).bumpFree) ∧
    (s.issues th (fun i => i.op == 0x49) → fits → (∀ k < n, st k = 0) →
      ∃ v : Word, exec (.pichk th) s = .next (done (s.issued th) v).bumpFree ∧ v.toNat % 2 ^ 16 = 0) ∧
    (∀ k, s.issues th (fun i => i.op == 0x49) → fits → k < n → st k ≠ 0 → (∀ j < k, st j = 0) →
      exec (.pichk th) s = .next (done (s.issued th) (BitVec.ofNat 64
        ((if i.ib 12 && egressStatus (st k) != 0 then egressStatus (st k) else st k) + 2 ^ 16 * k)))) ∧
    (s.issues th (fun i => i.op == 0x48) → ¬ fits → exec (.pigen th) s = .next ((s.issued th).faultAt th 0x0405)) ∧
    (s.issues th (fun i => i.op == 0x49) → ¬ fits → exec (.pichk th) s = .next ((s.issued th).faultAt th 0x0405)) ∧
    (s.issues th (fun i => i.op == 0x4A) → ¬ fits → exec (.pixlate th) s = .next ((s.issued th).faultAt th 0x0405))

/-! ## Quinuip: parity (R254, R255) -/

/-- R254: BIND binds handles IMM[11:8] onward, which must hold runs of the strip's length, as the parity columns of couching entry gC and
zeroes them unless KEEP is 1; ADD adds a run as a column's contribution, its blocks with a wrong guard poisoned (R187); WAIT completes when all contributions are absorbed; UNBIND
releases the context. -/
def Sys2Proof.Claims.SyndromeInstructions : Prop :=
  ∀ (th : Nat) (s : State),
    let i := s.ins th
    let t := s.thr th
    let e := (t.reg i.c).toNat
    let img := s.entryImg e
    let hs := (List.range (pkP img)).map (fun k => i.h + k)
    (s.issues th (fun i => i.op == 0x41 && i.mode == 0) → t.ctx = none → e < couchingSize → (s.centry e).state ≠ 0 →
      (pkLayout img = 3 → s.hw.variant.net = true) → (∀ h ∈ hs, h < 16 ∧ (t.run h).length = pkZ img / 4096) →
      ∃ s1 : State, s1 = (s.issued th).setThr th
          { (s.issued th).thr th with ctx := some { entry := e, handles := hs, pendingAdds := 0 } } ∧
        exec (.syndBind th) s = .next ((if i.ib 6 then s1
          else hs.foldl (fun x h => x.putInfos th h 0 ((t.run h).map (fun _ => infoReset 0))) s1).async th i .done 0 (if i.ib 6 then [] else hs) [])) ∧
    (s.issues th (fun i => i.op == 0x41 && i.mode == 0) → t.ctx ≠ none → exec (.syndBind th) s = .next ((s.issued th).faultAt th 0x0406)) ∧
    (∀ c d, s.issues th (fun i => i.op == 0x41 && i.mode == 1) → t.ctx = some c → c.entry = e →
      pkRole img (t.reg i.b).toNat = .data d → (t.reg i.b).toNat < pkW img → (t.run i.h).length = pkZ img / 4096 →
      ∃ fmt, fmt = (s.arr (s.centry e).array).pifmt ∧
        exec (.syndAdd th) s = .next ((((s.issued th).contributeAll th (s.centry e).array img fmt (t.reg i.b).toNat
          (s.runInfos th i.h)).putInfos th i.h 0 ((s.runInfos th i.h).map (Info.sealed fmt))).async th i .contribution 0 c.handles [i.h])) ∧
    (s.issues th (fun i => i.op == 0x41 && i.mode == 1) → t.ctx = none → exec (.syndAdd th) s = .next ((s.issued th).faultAt th 0x0406)) ∧
    (s.issues th (fun i => i.op == 0x41 && i.mode == 2) → t.ctx ≠ none →
      exec (.syndWait th) s = .next ((s.issued th).async th i .absorb 0 [] [])) ∧
    (s.issues th (fun i => i.op == 0x41 && i.mode == 2) → t.ctx = none → exec (.syndWait th) s = .next ((s.issued th).faultAt th 0x0406)) ∧
    (s.issues th (fun i => i.op == 0x41 && i.mode == 3) →
      exec (.syndUnbind th) s = .next (((s.issued th).setThr th { (s.issued th).thr th with ctx := none }).async th i .done 0 [] []))

/-- R56, R57, R255: SOLVE of one unknown data index from the syndrome of column P restores it into the first output run: each word is the
bound run's word times the coefficient that solves the row for that index. An index list out of order, or one no row applies to, gives
the outcome 0x0406 and changes no run. -/
def Sys2Proof.Claims.SolveInstruction : Prop :=
  ∀ (th : Nat) (s : State) (c : ParityCtx),
    let i := s.ins th
    let t := s.thr th
    let img := s.entryImg c.entry
    let ga := (t.reg i.a).toNat
    let u := bits ga 0 8
    s.issues th (fun i => i.op == 0x42) → t.ctx = some c →
      ((∀ p, ga / 2 ^ 24 % 4 = 1 → u < pkD img → (t.reg i.b).toNat = 1 → ctxRun img c u 0 = some p → i.h < 16 →
        (t.run i.h).length = pkZ img / 4096 →
        ∃ l : List Info, exec (.solve th) s = .next (((s.issued th).putInfos th i.h 0 l).async th i .done 0 [i.h] []) ∧
          l = (List.range (pkZ img / 4096)).map (fun k => combine 1 0 0 (s.runInfo th p k) (infoReset 0) (infoReset 0))) ∧
      (ga / 2 ^ 24 % 4 = 0 → exec (.solve th) s = .next ((s.issued th).async th i .done 0x0406 [] [])))

/-- Together: Claims.ProtectionInstructions and Claims.SyndromeInstructions and Claims.SolveInstruction (R256, R254, R187, R56, R57, R255). -/
def Obligations.ParityInstructions : Prop := Claims.ProtectionInstructions ∧ Claims.SyndromeInstructions ∧ Claims.SolveInstruction

/-! ## Quinuip: the map and stripes (R257, R258) -/

/-- R257: MAPLU of a grain reads its entry through the Map Cache; MAPLOCK acquires a free grain's lock or waits, a thread holding at most
four, releases one with IMM[0] = 0, and a waiting thread is granted a lock that is free; MAPLU LOCATE gives the media address and the offset
of a PGA's unit; MAPUP changes the entry and stays outstanding until the delta is durable. -/
def Obligations.MapInstructions : Prop :=
  ∀ (th : Nat) (s : State),
    let i := s.ins th
    let t := s.thr th
    let a := (t.reg i.b).toNat % 16
    let g := (t.reg i.a).toNat % 2 ^ 40
    (∀ s1 low, s.issues th (fun i => i.op == 0x50) → i.im 0 2 = 0 → s.mapIssueStall th = false →
      (s.issued th).checkedEntry a g = (s1, some low) →
      exec (.maplu th) s = .next (s1.setThr th ((s1.thr th).setReg i.d (mapWord low g a)))) ∧
    (s.issues th (fun i => i.op == 0x52) → i.ib 0 = true → (s.issued th).lockHolder a g = none → t.locks.length < 4 →
      exec (.maplock th) s = .next ((s.issued th).setThr th { (s.issued th).thr th with locks := t.locks ++ [(a, g)] })) ∧
    (∀ h, s.issues th (fun i => i.op == 0x52) → i.ib 0 = true → (s.issued th).lockHolder a g = some h → h ≠ th → t.locks.length < 4 →
      exec (.maplock th) s = .next ((s.issued th).setThr th
        { (s.issued th).thr th with wait := .maplock a g, waitSince := s.tbase.toNat })) ∧
    (s.issues th (fun i => i.op == 0x50) → i.im 0 2 = 1 → i.d ≤ 30 → (s.band a (pgaBand g)).state ≠ .free →
      ∃ img l, img = s.prickingOf a (s.band a (pgaBand g)).generation ∧ l = pgaLocate img (pgaUnit g) ∧
        exec (.maplu th) s = .next (((s.issued th).wr th i.d
          (BitVec.ofNat 64 (mediaAddr a (pgaBand g) l.1 (pkColOf img l.2.1)))).wr th (i.d + 1) (BitVec.ofNat 64 l.2.2))) ∧
    (s.issues th (fun i => i.op == 0x52) → i.ib 0 = false →
      exec (.maplock th) s = .next ((s.issued th).setThr th
        { (s.issued th).thr th with locks := t.locks.filter (fun x => x != (a, g)) })) ∧
    (∀ x y, t.wait = .maplock x y → s.threadsRun = true → s.lockHolder x y = none →
      exec (.maplockGrant th) s = .next (s.setThr th { t with wait := .none, locks := t.locks ++ [(x, y)] })) ∧
    (s.issues th (fun i => i.op == 0x51) → s.deltaFits = true → s.mapIssueStall th = false →
      ∃ s1 w, s1 = (s.issued th).mapup a g (i.im 3 2) (t.reg i.d).toNat ((t.reg i.c).toNat % 2 ^ 48) ∧
        exec (.mapup th) s = .next (s1.setThr th ((s1.thr th).addAsync i.ctr none w 0 [] [] s.tbase.toNat)) ∧
        (s1.durableAt s1.pair.mirSeq = true → w = .done))

/-- R90, R98, R107, R258: the modes of STRIPE on an entry the thread opened and whose state admits them: IPNEXT takes an interim slot, or
stays outstanding until there is one, IPSET makes IPNEXT the interim place, CLOSING takes an entry with every column acknowledged to
state 2, CLOSE closes its stripe, ABANDON abandons it; each completes with its outcome. On an entry that is not the thread's the thread
ends with fault 0x0406. -/
def Sys2Proof.Claims.StripeInstructions : Prop :=
  (∀ (th : Nat) (s : State),
    let i := s.ins th
    let t := s.thr th
    let e := (t.reg i.a).toNat
    let x := s.centry e
    let own : Prop := e ∈ t.entries ∧ (x.state = 0 ∨ x.owner = th)
    (s.stripeBehind th = false → own →
      (s.issues th (fun i => i.op == 0x53 && i.mode == 1) → t.asyncs = [] →
        ∃ (s1 : State) (o : AsyncOp), s1 = (s.issued th).async th i (.ipnext e) 0 [] [] ∧ o.id = t.nextId ∧ o.wait = .ipnext e ∧
          exec (.stripeIpnext th) s = .next (s1.tryIpnext th o)) ∧
      (s.issues th (fun i => i.op == 0x53 && i.mode == 2) → x.state = 1 → x.ipnext ≠ 0xFFFFFFFF →
        ∃ s1 : State, exec (.stripeIpset th) s = .next ((s1.setCentry e { x with
          iploc := x.ipnext, ipcover := (t.reg i.b).toNat % 2 ^ 32, ipv := true, ipnext := 0xFFFFFFFF }).stripeDone th i 0) ∧
          { s1 with hoop := (s.issued th).hoop } = s.issued th ∧ { s1.hoop with jobs := s.hoop.jobs } = s.hoop) ∧
      (s.issues th (fun i => i.op == 0x53 && i.mode == 3) → x.state = 1 → (s.issued th).allAcked e = true →
        exec (.stripeClosing th) s = .next (((s.issued th).setCentry e { x with state := 2 }).stripeDone th i 0)) ∧
      (s.issues th (fun i => i.op == 0x53 && i.mode == 4) → x.state = 2 →
        ∃ s1 : State, s1 = (s.issued th).closeStripe e ∧ exec (.stripeClose th) s = .next ((s1.setThr th { s1.thr th with
          entries := (s1.thr th).entries.filter (fun x => x != e) }).stripeDone th i 0))) ∧
    (own → s.issues th (fun i => i.op == 0x53 && i.mode == 5) →
      (x.state = 1 ∨ x.state = 2 → ∃ s1 : State, s1 = (s.issued th).abandonEntry e false ∧
        exec (.stripeAbandon th) s = .next ((s1.setThr th { s1.thr th with dropped := (s1.thr th).dropped ++ [e] }).stripeDone th i 0)) ∧
      (x.state = 3 → exec (.stripeAbandon th) s = .next ((s.issued th).stripeDone th i 0))) ∧
    (¬ own → ∀ p ∈ [((.stripeIpnext : Nat → Instr), 1), (.stripeIpset, 2), (.stripeClosing, 3), (.stripeClose, 4),
        (.stripeAbandon, 5)], s.issues th (fun i => i.op == 0x53 && i.mode == p.2) → (p.2 = 5 ∨ s.stripeBehind th = false) →
      exec (p.1 th) s = .next ((s.issued th).faultAt th 0x0406))) ∧
  (∀ (th e slot : Nat) (s s1 s2 : State) (o : AsyncOp), o.wait = .ipnext e → (s.centry e).state = 1 →
    s.interimSlot (s.centry e).array (thCluster th) (s.centry e).generation = (s1, some slot) →
    s2 = s1.setCentry e { s1.centry e with ipnext := slot, ipacked := 0 } →
    s.tryIpnext th o = s2.setThr th ((s2.thr th).mapAsync o.id (fun y =>
      { y with wait := if s2.durableAt s2.pair.mirSeq then .done else .durable s2.pair.mirSeq
               outcome := if o.dreg = some 0 then 0 else slot })))

/-- R90 steps 2 and 3, R258: STRIPE OPEN of column 0 of a stripe in a band that is open tries it at once: where an entry and the place are
free, the stripe opens, its outcome the entry's index, and the thread's instruction then waits only for the mirrored change to be durable. A
media address with a reserved bit set ends the thread with fault 0x0406; one that waits opens when STRIPE_OPEN_RESUME finds room. That a
place where the thread's cluster may not open a stripe ends it with 0x0406 is the model's choice (log entry 77). -/
def Sys2Proof.Claims.StripeOpening : Prop :=
  (∀ (th : Nat) (s : State), s.issues th (fun i => i.op == 0x53 && i.mode == 0) →
    mediaParts ((s.thr th).reg (s.ins th).a).toNat = none → exec (.stripeOpen th) s = .next ((s.issued th).faultAt th 0x0406)) ∧
  (∀ (th : Nat) (s : State) (a b st : Nat) (img : List Byte),
    let i := s.ins th
    let t := s.thr th
    s.issues th (fun i => i.op == 0x53 && i.mode == 0) → mediaParts (t.reg i.a).toNat = some (a, b, st, 0) →
    s.arrExists a = true → s.armed a = some img → b < s.f (F.ARR_BAND_LIMIT a) → (s.band a b).state = .open_ → st < s.bandStripes a b →
    t.asyncs = [] →
    ∃ (s1 : State) (o : AsyncOp), exec (.stripeOpen th) s = .next (s1.tryOpen th o) ∧
      s1 = (s.issued th).async th i (.stripeOpen (t.reg i.a).toNat (t.reg i.b).toNat (i.im 6 2)) 0 [] [] ∧ o.id = t.nextId ∧
      o.wait = .stripeOpen (t.reg i.a).toNat (t.reg i.b).toNat (i.im 6 2)) ∧
  (∀ (th : Nat) (s r : State) (o : AsyncOp) (ma g src : Nat) (x : Option Nat), o.wait = .stripeOpen ma g src →
    s.openStripe th (bits ma 0 4) (bits ma 8 21) (bits ma 32 24) src = (r, x) →
    (∀ e, x = some e → s.tryOpen th o = r.setThr th ((r.thr th).mapAsync o.id (fun x =>
      { x with wait := if r.durableAt r.pair.mirSeq then .done else .durable r.pair.mirSeq
               outcome := if x.dreg = some 0 then 0 else e }))) ∧
    (x = none → r.misplaced (thCluster th) (r.stripeKind (bits ma 0 4) (thCluster th) src) (bits ma 0 4) (bits ma 8 21) (bits ma 32 24)
        = true → s.tryOpen th o = r.setThr th ((r.thr th).mapAsync o.id (fun x =>
      { x with wait := .done, outcome := if x.dreg = some 0 then 0 else 0x0406 })))) ∧
  (∀ (th : Nat) (s : State) (o : AsyncOp), s.threadsRun = true →
    (s.thr th).asyncs.find? (fun o => match o.wait with | .stripeOpen .. => true | .ipnext _ => true | _ => false) = some o →
    exec (.stripeOpenResume th) s = .next ((s.tryOpen th o).tryIpnext th o))

/-- Together: Claims.StripeInstructions and Claims.StripeOpening (R90, R98, R107, R258). -/
def Obligations.StripeRules : Prop := Claims.StripeInstructions ∧ Claims.StripeOpening

/-! ## Quinuip: movement (R249 to R252) -/

/-- R243, R245, R249, R251: FETCH from DRAM copies its bytes into the run's data from the first skein on; STORE to DRAM writes them back;
STORE to HOOP with STAGE adds the run's blocks to the thread's staging area, FETCH from HOOP copies blocks that are there, unless an
earlier STORE COMMIT of them still waits (R264); each completes with outcome 0. Addresses and lengths out of
alignment or beyond the fitted DRAM end the thread with 0x0406, an empty handle or a run too short with 0x0405. -/
def Sys2Proof.Claims.DramMovement : Prop :=
  ∀ (th : Nat) (s : State),
    let i := s.ins th
    let t := s.thr th
    let a := (t.reg i.a).toNat
    let len := (t.reg i.b).toNat
    let arr := (t.reg i.c).toNat % 16
    let room := 4096 * i.first + len ≤ 4096 * (t.run i.h).length
    let f (n arr : Nat) : Xfer := i.xfer t n arr
    (s.issues th (fun i => i.op == 0x38) → i.mode = 4 → t.run i.h ≠ [] → a % 8 = 0 → len % 8 = 0 → a + len ≤ s.dramBytes → room →
      (∀ k, s.dramPoisoned (a + 4096 * k) (min 4096 (len - 4096 * k)) = false) →
      exec (.fetch th) s = .next (((s.issued th).dramToRun th i.h a (4096 * i.first) (len / 8)).moveOp th i .done 0 [i.h] []
        (f (ceilDiv len 4096) 0))) ∧
    (s.issues th (fun i => i.op == 0x38) → i.mode = 4 → t.run i.h ≠ [] → (a % 8 ≠ 0 ∨ len % 8 ≠ 0 ∨ s.dramBytes < a + len) →
      exec (.fetch th) s = .next ((s.issued th).faultAt th 0x0406)) ∧
    (s.issues th (fun i => i.op == 0x38) → i.mode = 4 → t.run i.h = [] → exec (.fetch th) s = .next ((s.issued th).faultAt th 0x0405)) ∧
    (s.issues th (fun i => i.op == 0x39 && !(i.mode == 3 && i.im 6 2 == 1)) → i.mode = 4 → t.run i.h ≠ [] → a % 8 = 0 → len % 8 = 0 →
      a + len ≤ s.dramBytes → room →
      exec (.storeStage th) s = .next (((s.issued th).dramWrite a ((List.range (len / 8)).flatMap (fun k =>
        leBytes 8 (s.runWord th i.h (4096 * i.first + 8 * k)).toNat))).moveOp th i .done 0 [] [i.h] (f (ceilDiv len 4096) 0))) ∧
    (s.issues th (fun i => i.op == 0x39 && !(i.mode == 3 && i.im 6 2 == 1)) → i.mode = 3 → t.run i.h ≠ [] → len % 4096 = 0 →
      i.first + len / 4096 ≤ (t.run i.h).length → t.staged.length + len / 4096 ≤ 1024 →
      exec (.storeStage th) s = .next (((s.issued th).setThr th { (s.issued th).thr th with
        staged := t.staged ++ (List.range (len / 4096)).map (fun k =>
          ({ array := arr, block := a + k, info := (s.runInfo th i.h (i.first + k)).remark (s.arr arr).pifmt } : Staged)) }).moveOp th i .done 0 [] [i.h]
        (f (len / 4096) arr))) ∧
    (s.issues th (fun i => i.op == 0x38) → i.mode = 3 → t.run i.h ≠ [] → len % 4096 = 0 → i.first + len / 4096 ≤ (t.run i.h).length →
      s.behindCommit th t.nextId arr a (len / 4096) = false → (∀ k < len / 4096, (s.hoopBlock arr (a + k)).isSome = true) →
      exec (.fetch th) s = .next (((s.issued th).putInfos th i.h i.first ((List.range (len / 4096)).map (fun k =>
        (s.hoopBlock arr (a + k)).getD (infoReset 0)))).moveOp th i .done 0 [i.h] [] (f (len / 4096) arr)))

/-- R249, R251, R340: FETCH from a host space starts one host read of its length for the instruction; STORE to one sends the run's blocks,
each where it belongs. A length of 0 completes with outcome 0; an endpoint that is not ready gives 0x0104. -/
def Sys2Proof.Claims.HostMovement : Prop :=
  ∀ (th : Nat) (s : State),
    let i := s.ins th
    let t := s.thr th
    let a := (t.reg i.a).toNat
    let len := (t.reg i.b).toNat
    let arr := (t.reg i.c).toNat % 16
    let unit := hostBlock (s.arr arr).pifmt (i.ib 12) (i.ib 13)
    i.mode = 0 → s.tagStall th 1 = false → s.tagStall th (t.run i.h).length = false → (s.issued th).hostFault th i = 0 →
      ((s.issues th (fun i => i.op == 0x38) → len ≠ 0 → (s.issued th).hostOutcome th i false = 0 →
        exec (.fetch th) s = .next (((s.issued th).moveOp th i (.host []) 0 [i.h] [] (i.xfer t (len / max 1 unit) arr)).hostRead
          (s.thEp th) (.thread th t.nextId) a len false).1) ∧
      (s.issues th (fun i => i.op == 0x38) → len = 0 →
        exec (.fetch th) s = .next ((s.issued th).moveOp th i .done 0 [i.h] [] (i.xfer t (0 / max 1 unit) arr))) ∧
      (s.issues th (fun i => i.op == 0x38) → len ≠ 0 → s.hostReady (s.thEp th) = false →
        exec (.fetch th) s = .next ((s.issued th).moveOp th i .done 0x0104 [i.h] [] (i.xfer t (len / max 1 unit) arr))) ∧
      (s.issues th (fun i => i.op == 0x39 && !(i.mode == 3 && i.im 6 2 == 1)) → len ≠ 0 → s.hostReady (s.thEp th) = false →
        exec (.storeStage th) s = .next ((s.issued th).moveOp th i .done 0x0104 [] [i.h] (i.xfer t (len / max 1 unit) arr))) ∧
      (s.issues th (fun i => i.op == 0x39 && !(i.mode == 3 && i.im 6 2 == 1)) → len = unit → len ≠ 0 →
        (s.issued th).hostOutcome th i true = 0 →
        ∃ s1 s2 : State, s1 = (s.issued th).moveOp th i (.host []) 0 [] [i.h] (i.xfer t (len / max 1 unit) arr) ∧
          s2 = s1.hostWrite (s.thEp th) (.thread th t.nextId) a false
            ((s.runInfo th i.h i.first).marked (s.arr arr).pifmt && !i.ib 13)
            ((s.runInfo th i.h i.first).hostBytes (s.arr arr).pifmt (i.ib 12) (i.ib 13)) ∧
          exec (.storeStage th) s = .next (if s2.hostTags.any (fun e => e.2.reader == .thread th t.nextId) then s2
            else s2.asyncDone th t.nextId 0)))

/-- Bytes written to DRAM read back, every other byte of DRAM and the whole vault read as before, and the 64-byte lines written whole lose
the poison code (R344). -/
def Sys2Proof.Claims.DramWriteFrame : Prop :=
  ∀ (s : State) (a : Nat) (bs : List Byte),
    (∀ k (h : k < bs.length), (s.dramWrite a bs).dram.read (a + k) = bs[k]) ∧
      (∀ b, b < a ∨ a + bs.length ≤ b → (s.dramWrite a bs).dram.read b = s.dram.read b) ∧
      { s.dramWrite a bs with dram := s.dram, poison := s.poison } = s ∧
      (∀ l, a ≤ 64 * l → 64 * l + 64 ≤ a + bs.length → Tbl.get poisonReset (s.dramWrite a bs).poison l = false) ∧
      (∀ l, (64 * l + 64 ≤ a ∨ a + bs.length ≤ 64 * l) →
        Tbl.get poisonReset (s.dramWrite a bs).poison l = Tbl.get poisonReset s.poison l)

/-- Together: Claims.DramMovement and Claims.HostMovement and Claims.DramWriteFrame (R243, R245, R249, R251, R264, R340, R344). -/
def Obligations.Movement : Prop := Claims.DramMovement ∧ Claims.HostMovement ∧ Claims.DramWriteFrame

/-- R84, R86, R251: STORE with COMMIT takes every staged block out of the staging area. With nothing staged it completes with outcome 0;
blocks that may not be written at all complete it with the status of the first reason and none is stored; else it waits for every
condition of R84 and then enters the hoop, also later (STORE_COMMIT_RESUME). A bank unhealthy for the whole HOOP_BANK_WAIT.TIMEOUT ends it
with 0x0601, and nothing of it is stored. -/
def Sys2Proof.Claims.HoopCommit : Prop :=
  (∀ (th : Nat) (s : State), s.issues th (fun i => i.op == 0x39 && i.mode == 3 && i.im 6 2 == 1) →
    let t := s.thr th
    let s0 := (s.issued th).setThr th { (s.issued th).thr th with staged := [] }
    (t.staged = [] → exec (.storeCommit th) s = .next (s0.async th (s.ins th) .done 0 [] [])) ∧
    (t.staged ≠ [] → (s.issued th).commitStatus t.staged ≠ 0 →
      exec (.storeCommit th) s = .next (s0.async th (s.ins th) .done ((s.issued th).commitStatus t.staged) [] [])) ∧
    (t.staged ≠ [] → (s.issued th).commitStatus t.staged = 0 → ∀ o : AsyncOp,
      let s1 := s0.mirrorBlocks t.staged
      let s2 := (s1.async th (s.ins th) (.commit t.staged s1.pair.mirSeq) 0 [] []).beginBankWait th
      (s2.thr th).async? t.nextId = some o → exec (.storeCommit th) s = .next (s2.tryCommit th o).drive)) ∧
  (∀ (th : Nat) (s : State) (o : AsyncOp), s.threadsRun = true →
    (s.thr th).asyncs.find? (fun o => match o.wait with | .commit .. => true | _ => false) = some o →
    exec (.storeCommitResume th) s = .next (s.tryCommit th o).drive) ∧
  (∀ (th : Nat) (s : State) (o : AsyncOp) (w : BankWait),
    (s.thr th).asyncs.find? (fun o => match o.wait with | .commit .. => true | _ => false) = some o →
    s.hoop.bankWaits.find? (fun w => w.th == th) = some w → s.f F.HOOP_BANK_WAIT_TIMEOUT ≤ (w.pause s.tbase).sum →
    exec (.bankWaitTimeout th) s = .next (((s.endBankWait th).dropMirrored o).asyncDone th o.id 0x0601))

/-- R90 step 4, R252: EMIT of a run to a column of an open couching entry first makes the column's ISSUED bit durable; on an unmirrored
device the PROGRAM is then sent at once. An entry that is not OPEN completes it with 0x0305; an entry number beyond the table ends the thread
with 0x0406. -/
def Sys2Proof.Claims.EmitInstruction : Prop :=
  ∀ (th : Nat) (s : State),
    let i := s.ins th
    let t := s.thr th
    let e := (t.reg i.c).toNat
    let col := (t.reg i.b).toNat
    let x := s.centry e
    let img := s.bandImg x.array x.band
    (s.issues th (fun i => i.op == 0x3A) → e < couchingSize → x.state = 1 → col < pkW img → i.ib 3 = true → i.ib 4 = false → i.ib 5 = false →
      t.run i.h ≠ [] → (t.run i.h).length = pkZ img / 4096 →
      ((s.issued th).setCentry e { x with issued := putBit x.issued col true }).durableAt
        ((s.issued th).setCentry e { x with issued := putBit x.issued col true }).pair.mirSeq = true →
      exec (.emit th) s = .next ((((s.issued th).setCentry e { x with issued := putBit x.issued col true }).async th i (.emit e col) 0 []
        [i.h]).sendProgram th t.nextId e col false 0 (s.runInfos th i.h))) ∧
    (s.issues th (fun i => i.op == 0x3A) → e < couchingSize → x.state ≠ 1 → i.ib 3 = false → i.ib 4 = false →
      exec (.emit th) s = .next ((s.issued th).async th i .done 0x0305 [] [])) ∧
    (s.issues th (fun i => i.op == 0x3A) → couchingSize ≤ e → exec (.emit th) s = .next ((s.issued th).faultAt th 0x0406))

/-- Together: Claims.HoopCommit and Claims.EmitInstruction (R84, R86, R251, R90, R252). -/
def Obligations.CommitAndEmit : Prop := Claims.HoopCommit ∧ Claims.EmitInstruction

/-! ## Quinuip: events, signals, time (R259 to R262) -/

/-- R259: WAITEV whose condition holds ends at once: gD takes the zero counters of the mask, the mailbox bit, the limit bit and the sticky
outcome, which is cleared; else the thread waits, with the limit gA counted from now; at the limit it ends with bit 10 set. -/
def Sys2Proof.Claims.WaitevInstruction : Prop :=
  ∀ (th : Nat) (s : State),
    let i := s.ins th
    let t := s.thr th
    let waits : Thread :=
      { (s.issued th).thr th with
        wait := .waitev i.d (i.imm % 256) (i.ib 8) (i.ib 10) (t.reg i.a).toNat, waitSince := s.tbase.toNat }
    let result (t : Thread) (mask : Nat) (limit : Bool) : Word := BitVec.ofNat 64 (t.zeroCounters mask +
      (if t.mailbox = [] then 0 else 2 ^ 8) + (if limit then 2 ^ 10 else 0) + 2 ^ 16 * t.sticky)
    (s.issues th (fun i => i.op == 0x58) → t.eventHolds (i.imm % 256) (i.ib 8) (i.ib 10) = true →
      exec (.waitev th) s = .next ((s.issued th).setThr th
        ({ waits with wait := .none, sticky := 0 }.setReg i.d (result t (i.imm % 256) false)))) ∧
    (s.issues th (fun i => i.op == 0x58) → t.eventHolds (i.imm % 256) (i.ib 8) (i.ib 10) = false →
      exec (.waitev th) s = .next ((s.issued th).setThr th waits)) ∧
    (∀ d mask mbox any limit, t.wait = .waitev d mask mbox any limit → s.threadsRun = true → 0 < limit →
      t.waitSince + limit ≤ s.tbase.toNat →
      exec (.waitevLimitExpiry th) s = .next (s.setThr th ({ t with wait := .none, sticky := 0 }.setReg d (result t mask true))))

/-- R236, R260: SIGNAL SEND puts gB into the mailbox of a running thread with room, which may end that thread's wait, and completes; it
waits while the mailbox is full, and behind an earlier STORE COMMIT of its thread (R264). A word for a thread that does not run is dropped (log entry 19). RECV takes the oldest word and sets its
predicate, or clears it and gives 0. -/
def Sys2Proof.Claims.SignalMailboxes : Prop :=
  ∀ (th : Nat) (s : State),
    let i := s.ins th
    let t := s.thr th
    let target := bits (t.reg i.a).toNat 0 10
    let first : Prop := s.commitBefore th t.nextId (fun _ => true) = false
    (first → s.issues th (fun i => i.op == 0x59 && i.mode == 0) → target ≠ th → (s.thr target).running = true →
      (s.thr target).mailbox.length < 4 →
      exec (.signalSend th) s = .next (((s.issued th).async th i .done 0 [] []).deliver target (t.reg i.b))) ∧
    (first → s.issues th (fun i => i.op == 0x59 && i.mode == 0) → target ≠ th → (s.thr target).running = true →
      4 ≤ (s.thr target).mailbox.length → t.pc < 65536 →
      exec (.signalSend th) s = .next ((s.issued th).async th i (.mailbox target (t.reg i.b) t.pc) 0 [] [])) ∧
    (first → s.issues th (fun i => i.op == 0x59 && i.mode == 0) → target ≠ th → (s.thr target).running = false →
      exec (.signalSend th) s = .next ((s.issued th).async th i .done 0 [] [])) ∧
    (¬ first → s.issues th (fun i => i.op == 0x59 && i.mode == 0) → t.pc < 65536 →
      exec (.signalSend th) s = .next ((s.issued th).async th i (.sendHeld target (t.reg i.b) t.pc) 0 [] [])) ∧
    (∀ w ws, s.issues th (fun i => i.op == 0x59 && i.mode == 3) → t.mailbox = w :: ws →
      exec (.signalRecv th) s = .next ((((s.issued th).setThr th { (s.issued th).thr th with mailbox := ws }).wr th i.d w).wp th
        (i.im 12 2) true)) ∧
    (s.issues th (fun i => i.op == 0x59 && i.mode == 3) → t.mailbox = [] →
      exec (.signalRecv th) s = .next (((s.issued th).wr th i.d 0).wp th (i.im 12 2) false)) ∧
    (∀ (x : Nat) (w : Word), (s.thr x).wait = .none → s.deliver x w = s.setThr x { s.thr x with mailbox := (s.thr x).mailbox ++ [w] })

/-- R237, R238, R260: SIGNAL CALL on an available cluster with a valid pattern starts it on a free device-work thread with the run's first
seven words in g1 to g7, 0 in g8 and the thread's identity in g9; with none free, or behind an earlier STORE COMMIT (R264), it stays queued; an absent cluster completes it with
0x0407, a pattern that is not valid with 0x0406, and an empty handle faults. SIGNAL OWNER does so on the cluster that owns the band. -/
def Sys2Proof.Claims.SignalCalls : Prop :=
  ∀ (th : Nat) (s : State),
    let i := s.ins th
    let t := s.thr th
    let c := (t.reg i.a).toNat % 8
    let p := i.im 20 12
    (s.issues th (fun i => i.op == 0x59 && i.mode == 1) →
      (t.run i.h = [] → exec (.signalCall th) s = .next ((s.issued th).faultAt th 0x0405)) ∧
      (t.run i.h ≠ [] → s.clusterAvail c = false →
        exec (.signalCall th) s = .next ((s.issued th).async th i .done 0x0407 [] [i.h])) ∧
      (t.run i.h ≠ [] → s.clusterAvail c = true → ptValid (s.ptab c p) = false →
        exec (.signalCall th) s = .next ((s.issued th).async th i .done 0x0406 [] [i.h])) ∧
      (∀ n s1, t.run i.h ≠ [] → s.clusterAvail c = true → ptValid (s.ptab c p) = true → s.commitBefore th t.nextId (fun _ => true) = false →
        s1 = (s.issued th).async th i (.queued c p (s.callWords th i.h)) 0 [] [i.h] → s1.freeThread c true = some n →
        ∃ s2 : State, s2 = (s1.startThread n p (s.callWords th i.h) 0 (BitVec.ofNat 64 (n + 2 ^ 63)) 31) ∧
          ∃ s3 : State, s3 = s2.setThr n
              { s2.thr n with starter := some (th, t.nextId), work := workKey p (s.callWords th i.h) } ∧
            exec (.signalCall th) s = .next (s3.setThr th ((s3.thr th).mapAsync t.nextId (fun o => { o with wait := .started n })))) ∧
      (∀ s1, t.run i.h ≠ [] → s.clusterAvail c = true → ptValid (s.ptab c p) = true →
        s1 = (s.issued th).async th i (.queued c p (s.callWords th i.h)) 0 [] [i.h] → (s1.freeThread c true = none ∨ s.commitBefore th t.nextId (fun _ => true) = true) →
        exec (.signalCall th) s = .next s1)) ∧
    (∀ (a b : Nat), s.issues th (fun i => i.op == 0x59 && i.mode == 2) → a = (t.reg i.a).toNat % 16 →
      b = (t.reg i.a).toNat / 2 ^ 8 % 2 ^ 21 → ((s.spanMembers a)[b % s.spanCount a]?).getD s.ownMember = s.ownMember →
      exec (.signalOwner th) s = .next ((s.issued th).signalCall th i (s.bandCluster a b)))

/-- Together: Claims.SignalMailboxes and Claims.SignalCalls (R236, R260, R264, R237, R238). -/
def Obligations.Signals : Prop := Claims.SignalMailboxes ∧ Claims.SignalCalls

/-- R261, R262: TIMER with IMM[3] = 0 stays outstanding for gA ticks from now; with IMM[3] = 1 gD takes TBASE. An instruction whose event
has come completes: its counter falls by one and its outcome goes to its register, or, with D = g0, a nonzero status to the sticky
outcome if that is 0. -/
def Sys2Proof.Claims.TimerAndCompletion : Prop :=
  (∀ (th : Nat) (s : State), s.issues th (fun i => i.op == 0x5A && !i.ib 3) →
    exec (.timerWait th) s = .next ((s.issued th).setThr th (((s.issued th).thr th).addAsync ((s.ins th).imm % 8) none
      (.timer (s.tbase.toNat + ((s.thr th).reg (s.ins th).a).toNat)) 0 [] [] s.tbase.toNat))) ∧
  (∀ (th : Nat) (s : State), s.issues th (fun i => i.op == 0x5A && i.ib 3) →
    exec (.timerRead th) s = .next ((s.issued th).wr th (s.ins th).d s.tbase)) ∧
  (∀ (th id : Nat) (s : State) (o : AsyncOp), (s.thr th).async? id = some o → s.threadsRun = true →
    (o.wait = .done ∨ o.wait = .contribution ∨ (∃ u, o.wait = .timer u ∧ u ≤ s.tbase.toNat) ∨
      (∃ q, o.wait = .durable q ∧ s.durableAt q = true) ∨
      (o.wait = .absorb ∧ ∀ x ∈ (s.thr th).asyncs, x.id < o.id → x.wait ≠ .contribution)) → (s.thr th).wait = .none →
    exec (.asyncInstructionComplete th id) s = .next (s.setThr th ((s.thr th).retire o))) ∧
  (∀ (t : Thread) (o : AsyncOp), (t.retire o).counter o.counter = t.counter o.counter - 1 ∧
    (∀ d, o.dreg = some d → d ≠ 0 → (t.retire o).reg d = BitVec.ofNat 64 o.outcome) ∧
    (o.dreg = some 0 → t.sticky = 0 → (t.retire o).sticky = o.outcome % 65536) ∧
    (o.dreg = some 0 → t.sticky ≠ 0 → (t.retire o).sticky = t.sticky))

/-- R244, R257, R260, R269: a SKALLOC or a MAPLOCK that has waited SE_WAITLIM ticks of its cluster ends its thread with fault 0x0408. -/
def Sys2Proof.Claims.WaitLimit : Prop :=
  ∀ (th : Nat) (s : State), s.threadsRun = true → (s.thr th).running = true →
    (s.thr th).waitSince + s.f (F.SE_WAITLIM_LIMIT (thCluster th)) ≤ s.tbase.toNat →
    ((∃ h n, (s.thr th).wait = .skalloc h n) ∨ (∃ a g, (s.thr th).wait = .maplock a g)) →
    exec (.waitLimitExpiry th) s = .next (s.faultAt th 0x0408)

/-- Together: Claims.WaitevInstruction and Claims.WaitLimit (R259, R244, R257, R260, R269). -/
def Obligations.WaitsAndLimits : Prop := Claims.WaitevInstruction ∧ Claims.WaitLimit

/-! ## Quinuip: completion and control (R261, R268) -/

/-- R261: POST hands the calls' status and result to their rings once no earlier host STORE is outstanding; TRAP ends the thread with fault
0x0404 and its code; HALT ends a thread with nothing outstanding, with fault 0x0409 where it holds a call, and waits for its asynchronous
instructions else; BATCH clears its predicate where the ring holds no further entry. -/
def Sys2Proof.Claims.CompletionInstructions : Prop :=
  ∀ (th : Nat) (s : State),
    let i := s.ins th
    let t := s.thr th
    (s.issues th (fun i => i.op == 0x60) → t.storesOut = false → s.postBarred th = false → t.calls ≠ [] →
      exec (.post th) s = .next ((s.issued th).postCalls th ((t.reg i.a).toNat % 2 ^ 16) ((t.reg i.b).toNat % 2 ^ 32))) ∧
    (s.issues th (fun i => i.op == 0x68) → exec (.trap th) s = .next ((s.issued th).faultAt th 0x0404 (i.imm % 256))) ∧
    (s.issues th (fun i => i.op == 0x69) → t.asyncs = [] → t.calls = [] → exec (.halt th) s = .next ((s.issued th).endThread th)) ∧
    (s.issues th (fun i => i.op == 0x69) → t.asyncs = [] → t.calls ≠ [] →
      exec (.halt th) s = .next ((s.issued th).faultAt th 0x0409)) ∧
    (s.issues th (fun i => i.op == 0x69) → t.asyncs ≠ [] →
      exec (.halt th) s = .next ((s.issued th).setThr th { (s.issued th).thr th with wait := .halt, waitSince := s.tbase.toNat })) ∧
    (∀ c e es, s.issues th (fun i => i.op == 0x61) → i.d ≤ 25 → t.calls.getLast? = some c → (s.sub c.ring).fetched = e :: es →
      e.num = c.num + 1 → bits (e.words.getD 0 0).toNat 0 4 = 1 ∨ bits (e.words.getD 0 0).toNat 0 4 = 2 → bits (e.words.getD 0 0).toNat 32 16 = t.pattern →
      (s.issued th).sameBatch c.ring c e.num = true →
      ∃ s1 s2 : State, s1 = (s.issued th).setSub c.ring { s.sub c.ring with fetched := es } ∧
        s2 = s1.setThr th { s1.thr th with calls := t.calls ++
          [{ ring := c.ring, index := e.index, num := e.num, pattern := t.pattern, words := e.words, batch := c.batch + 1 }] } ∧
        exec (.batch th) s = .next (((List.range 7).foldl (fun s k => s.wr th (i.d + k) (e.words.getD (k + 1) 0)) s2).wp th (i.im 0 2) true)) ∧
    (∀ c, s.issues th (fun i => i.op == 0x61) → i.d ≤ 25 → t.calls.getLast? = some c → (s.sub c.ring).fetched = [] →
      exec (.batch th) s = .next ((s.issued th).wp th (i.im 0 2) false)) ∧
    (∀ q x xs, (s.cpl q).stalled = x :: xs → s.holdFits q x.calls.length = true → s.callsRun = true →
      ∃ s1 : State, s1 = ((s.setCpl q { s.cpl q with stalled := xs }).completeCalls x.calls x.status x.result).holdingFreed q ∧
        exec (.postStallResume q) s = .next (if (s1.thr x.th).wait = .post then s1.setThr x.th { s1.thr x.th with wait := .none } else s1))

/-- Together: Claims.TimerAndCompletion and Claims.CompletionInstructions (R261, R262). -/
def Obligations.CompletionAndTimer : Prop := Claims.TimerAndCompletion ∧ Claims.CompletionInstructions

/-- R268: a fault of a call thread abandons the stripes it left open, logs a record with the status, the trap code, the thread, its pattern,
the PC and the instruction word in its cluster's fault log, posts the status for every call it holds, and ends the thread, all once its
outstanding instructions have completed; the fault log counts it and names it newest. -/
def Obligations.ThreadFaults : Prop :=
  ∀ (s : State) (th status trap pc : Nat) (w : Word),
    (thDevWork th = false → (s.thr th).asyncs = [] → s.threadFault th status trap pc w =
      ((((s.abandonOwned th).logFault th status trap pc w).postOrStall 1024 (s.thr th).calls status 0).1).endThread th) ∧
    ((s.thr th).asyncs ≠ [] → s.threadFault th status trap pc w =
      s.setThr th { s.thr th with wait := .faulting status trap pc w }) ∧
    (let c := thCluster th
     let n := s.f (F.SE_FLT_STAT_COUNT c)
     let d : Nat → FaultRec := fun _ => { w0 := 0, w1 := 0, w2 := 0, w3 := 0 }
     let r := Tbl.get d (s.logFault th status trap pc w).faults (c * 256 + n % 256)
     r.w0 = s.tbase ∧ r.w3 = w ∧ (s.logFault th status trap pc w).f (F.SE_FLT_STAT_COUNT c) = (n + 1) % 2 ^ 32 ∧
       (s.logFault th status trap pc w).f (F.SE_FLT_STAT_NEWEST c) = n % 256 ∧ (s.logFault th status trap pc w).threads = s.threads)

/-! ## Registers -/

/-- R13, R14: storing a field changes no other bit of its register and no other register; the field reads back modulo its width. Setting
a register stores its value and nothing else. -/
def Sys2Proof.Claims.RegisterFieldFrame : Prop :=
  (∀ (s : State) (x : Field) (v : Nat), x.lo + x.width ≤ 64 →
    (s.setF x v).f x = v % 2 ^ x.width ∧
    (∀ y : Field, y.off = x.off → (y.lo + y.width ≤ x.lo ∨ x.lo + x.width ≤ y.lo) → (s.setF x v).f y = s.f y) ∧
    (∀ off, off ≠ x.off → (s.setF x v).reg off = s.reg off) ∧
    { s.setF x v with bar0 := s.bar0 } = s) ∧
  (∀ (s : State) (off : Nat) (w : Word), (s.setReg off w).reg off = w ∧ (∀ o, o ≠ off → (s.setReg off w).reg o = s.reg o))

/-- Registers whose writes carry no command: those of BAR0 that only hold what is written, one of each kind in every block that has any. -/
def Sys2Proof.plainRegs : List Nat :=
  [R.DEV_POLICY, R.DEV_LEDGER_SEL, R.DEV_MEAS_SEL, R.MC_MAINT_BASE, R.MC_MAINT_LEN, R.HOOP_DIRTY_LIMIT, R.HOOP_AGE, R.HOOP_BANK_WAIT,
    R.CLOG_SYNC, R.DRB_SEL, R.SHT_RETRY, R.ARR_MTMO, R.ARR_LSL_SEL, R.PAIR_TMO, R.WIT_CFG, R.TEMP_SEL, R.HLTH_THR, R.HLTH_SEL,
    R.ELOG_SEL] ++
  (List.range 1024).flatMap (fun r => [R.SQ_BASE r, R.SQ_HR0_BASE r, R.SQ_HR0_LIMIT r, R.SQ_HR1_BASE r, R.SQ_HR1_LIMIT r, R.CQ_BASE r]) ++
  (List.range 16).flatMap (fun a => [R.ARR_MBR_SEL a, R.ARR_RS_CTL a]) ++
  (List.range 8).flatMap (fun c => [R.SE_WAITLIM c, R.SE_FLT_SEL c])

/-- R12, R13, R35, R343, R458: a register write that the mode, its size or its alignment excludes is discarded and logged as a notice; nothing else
of the write happens. In Flush nothing reaches the device. An accepted write of a register without a command leaves, by access type, the
value of R13: writable bits take it, write-1-to-clear bits clear, the others keep theirs; one that covers RWL bits while DEV_LOCK is set is
logged besides (R462). A write without Memory Space Enable is an Unsupported Request (R343); a poisoned one is discarded. -/
def Sys2Proof.Claims.RegisterWriteGate : Prop :=
  (∀ (s : State) (off size : Nat) (value : Word) (k : State → State),
    (s.takesWrite off size = true → s.gate off size value k = k s) ∧
    (s.hostDown = true → s.gate off size value k = s) ∧
    (s.hostDown = false → s.takesWrite off size = false → s.gate off size value k = s.regNotice 1 off value ∨
      s.gate off size value k = s.regNotice 2 off value) ∧
    (s.hostDown = false → s.mode.cur = .halted → s.gate off size value k = s.regNotice 1 off value)) ∧
  (∀ (s : State) (ep off size : Nat) (value : Word), (s.ep (if s.bifurcated then ep % 2 else 0)).open_ = true →
    blockOf off = .pair ∨ off / 8 * 8 ∈ plainRegs → s.takesWrite off size = true →
    ∃ s1 : State, s1 = s.setReg (off / 8 * 8) (BitVec.ofNat 64 (s.stored off size value)) ∧
      (s.lockedWrite off size = false → exec (.registerWrite ep off size value false) s = .next s1) ∧
      (s.lockedWrite off size = true → exec (.registerWrite ep off size value false) s = .next (s1.regNotice 3 off value))) ∧
  (∀ (s : State) (ep off size : Nat) (value : Word), s.hostDown = false → (s.ep (if s.bifurcated then ep % 2 else 0)).open_ = false →
    exec (.registerWrite ep off size value false) s =
      .next (s.aer (if s.bifurcated then ep % 2 else 0) .unsupportedRequest .nonFatal)) ∧
  (∀ (s : State) (ep off size : Nat) (value : Word), s.hostDown = false →
    exec (.registerWrite ep off size value true) s = .next ((s.poisonSeen (if s.bifurcated then ep % 2 else 0)).regNotice 5 off value))

/-- Together: Claims.RegisterFieldFrame and Claims.RegisterWriteGate (R13, R14, R12, R35, R343, R458, R462). -/
def Obligations.RegisterWrites : Prop := Claims.RegisterFieldFrame ∧ Claims.RegisterWriteGate

/-- R28: a 4-byte read of DEV_TBASE[31:0] latches the upper half for the next read of it, and returns the lower one; without Memory Space Enable it is an Unsupported Request (R343). R462: a 1 written to
DEV_LOCK.LOCK sets it. -/
def Obligations.TbaseLatchAndLock : Prop :=
  (∀ (s : State) (ep e : Nat), s.hostDown = false → e = (if s.bifurcated then ep % 2 else 0) →
    ((s.ep e).open_ = true → ∃ t : State, exec (.devTbaseLowRead ep) s = .next t ∧
      t = ({ s with tbaseLatch := bits s.tbase.toNat 32 32 }).send (.completion e (leBytes 4 s.tbase.toNat) false) ∧
      t.readHost (R.DEV_TBASE + 4) 4 = BitVec.ofNat 64 (s.tbase.toNat / 2 ^ 32)) ∧
    ((s.ep e).open_ = false → exec (.devTbaseLowRead ep) s = .next ((s.send (.unsupported e)).aer e .unsupportedRequest))) ∧
  (∀ (s : State) (size : Nat) (value : Word), s.takesWrite R.DEV_LOCK size = true →
    exec (.devLockSet size value) s = .next (s.setFlag F.DEV_LOCK_LOCK true) ∧ (s.setFlag F.DEV_LOCK_LOCK true).locked = true)

/-! ## The rings -/

/-- R291, R296, R297, R298: a doorbell that the ring takes sets the ring's host index if the value passes the check of R297; else the
device halts with MCODE 5 (a submission ring) or 6 (a completion ring); in Dormant it is recorded. A completion ring that got
room takes held records. -/
def Sys2Proof.Claims.DoorbellResults : Prop :=
  ∀ (s : State) (r e : Nat) (value : Word), r < 1024 → s.hostDown = false → s.mode.cur ≠ .halted → s.ringEp r = e → (s.ep e).open_ = true →
    (s.mode.cur ≠ .dormant →
      (s.flag (F.SQ_CTL_EN r) = true →
        (value.toNat < 2 * s.sqSize r → ringSub (s.sqSize r) value.toNat (s.sqTail r) ≤
            s.sqSize r - ringSub (s.sqSize r) (s.sqTail r) (s.sqHead r) →
          exec (.sqDoorbell e r 8 value) s = .next (s.setF (F.SQ_IDX_HOSTIDX r) value.toNat)) ∧
        (2 * s.sqSize r ≤ value.toNat → exec (.sqDoorbell e r 8 value) s = .next (s.ringHalt 5 false r value.toNat))) ∧
      (s.flag (F.CQ_CTL_EN r) = true → s.flag (F.CQ_CTL_INPLACE r) = false →
        (value.toNat < 2 * s.cqSize r → ringSub (s.cqSize r) value.toNat (s.cqHead r) ≤ ringSub (s.cqSize r) (s.cqTail r) (s.cqHead r) →
          exec (.cqDoorbell e r 8 value) s = .next ((s.setF (F.CQ_IDX_HOSTIDX r) value.toNat).holdingFreed r)) ∧
        (2 * s.cqSize r ≤ value.toNat → exec (.cqDoorbell e r 8 value) s = .next (s.ringHalt 6 true r value.toNat)))) ∧
    (s.mode.cur = .dormant →
      exec (.sqDoorbell e r 8 value) s = .next { s with recorder := s.recorder.insert (2 * r) value } ∧
      exec (.cqDoorbell e r 8 value) s = .next { s with recorder := s.recorder.insert (2 * r + 1) value })

/-- R299 to R301: fetch takes up to eight entries of the next ring, in round-robin order, that offers any; an entry's data that is well
formed joins the fetched ones in ring order; a malformed entry or a failed read halts the device with the MCODE of its condition. -/
def Sys2Proof.Claims.EntryFetchResults : Prop :=
  (∀ (s : State) (r : Nat), s.fetchOpen = true →
    ((List.range 1024).map (fun k => (s.fetchLast + 1 + k) % 1024)).find? (fun r => decide (0 < s.fetchable r)) = some r →
    exec .entryFetch s = .next { s.fetchMany r (s.fetchable r) with fetchLast := r }) ∧
  (∀ (s : State) (r i : Nat) (is : List Nat) (e : Nat × HostTag) (bs : List Byte), (s.sub r).reads = i :: is →
    s.hostTags.find? (fun e => e.2.reader == .fetchRing r i && e.2.timedOut.isNone && e.2.xlat.isNone) = some e →
    let s0 : State := { s with hostTags := s.hostTags.erase e.1 }
    let ws := entryWords bs
    (s.entryFault r ws = 0 → exec (.entryFetchComplete r (.data bs [])) s =
      .next ((s0.setSub r { s0.sub r with early := (s.sub r).early ++ [{ index := i, num := 0, words := ws }] }).takeEarly r 64)) ∧
    (s.entryFault r ws ≠ 0 → exec (.entryFetchComplete r (.data bs [])) s = .next (s0.ringHalt (s.entryFault r ws) false r i)) ∧
    (exec (.entryFetchComplete r .unsupported) s = .next ((s0.satF F.HE_XERR_URCA).ringHalt 7 false r i)))

/-- Together: Claims.DoorbellResults and Claims.EntryFetchResults (R291, R296, R297, R298, R299, R301). -/
def Obligations.DoorbellsAndFetch : Prop := Claims.DoorbellResults ∧ Claims.EntryFetchResults

/-- R238, R293, R294: the next fetched CALL or INLINE entry of a ring starts on the lowest free call thread of the ring's cluster, whose
g1 to g7 take the entry's words 1 to 7 (1 to 5 on an in-place ring), g8 word 0, g9 the thread, ring and index; an index unloaded meanwhile
completes with 0x0406 once a record has room. -/
def Sys2Proof.Claims.CallDispatch : Prop :=
  ∀ (s : State) (r : Nat) (e : Entry), (s.sub r).fetched.head? = some e → s.callsRun = true →
    let s1 := s.setSub r { s.sub r with fetched := (s.sub r).fetched.drop 1 }
    let p := bits (argWord e.words 0) 32 16
    let c := s.f (F.SQ_CTL_CLUSTER r)
    (ptValid (s.ptab c p) = false → s.holdRoom (s.cqOf r) 1 = true →
      (e.kind = 1 → exec (.callEntry r) s = .next (s1.completeEntry r e.num 0x0406 0)) ∧
      (e.kind = 2 → exec (.inlineEntry r) s = .next (s1.completeEntry r e.num 0x0406 0)) ∧
      (e.kind = 1 ∨ e.kind = 2 → exec (.threadDispatch r) s = .next (s1.completeEntry r e.num 0x0406 0))) ∧
    (ptValid (s.ptab c p) = true → ∀ th, s.freeThread c false = some th →
      (e.kind = 1 → exec (.callEntry r) s = .next (s1.startCall r th e)) ∧
      (e.kind = 2 → exec (.inlineEntry r) s = .next (s1.startCall r th e)) ∧
      (e.kind = 1 ∨ e.kind = 2 → exec (.threadDispatch r) s = .next (s1.startCall r th e)) ∧
      ((s1.startCall r th e).thr th).calls = [{ ring := r, index := e.index, num := e.num, pattern := p, words := e.words, batch := 0 }])

/-- R293: a fetched NOP entry completes with status 0 whatever stands before it; a FENCE at the front completes once no earlier entry is in
flight, and waits else; both where calls run and a record has room. R308: COAL_T after the first record that asks for it, the ring's vector
is sent and the count starts anew. -/
def Sys2Proof.Claims.NopFenceCoalesce : Prop :=
  (∀ (s : State) (r : Nat) (e : Entry), (s.sub r).fetched.find? (fun e => e.kind == 0) = some e → s.callsRun = true →
    s.holdRoom (s.cqOf r) 1 = true →
    let x : SubRing := { s.sub r with fetched := (s.sub r).fetched.filter (fun x => x.num != e.num) }
    exec (.nopEntry r) s = .next ((s.setSub r x).completeEntry r e.num 0 0)) ∧
  (∀ (s : State) (r : Nat) (e : Entry), (s.sub r).fetched.head? = some e → e.kind = 3 → s.callsRun = true →
    s.holdRoom (s.cqOf r) 1 = true →
    (s.f (F.SQ_STAT_INFLIGHT r) = (s.sub r).fetched.length + (s.sub r).reads.length →
      exec (.fenceEntry r) s = .next (((s.setSub r { s.sub r with fetched := (s.sub r).fetched.drop 1 }).fenceSync
        r).completeEntry r e.num 0 0)) ∧
    (s.f (F.SQ_STAT_INFLIGHT r) ≠ (s.sub r).fetched.length + (s.sub r).reads.length →
      exec (.fenceEntry r) s = .next s)) ∧
  (∀ (s : State) (q : Nat) (t : Word), (s.cpl q).coalSince = some t → 1000 * max 1 (s.f (F.CQ_CTL_COAL_T q)) ≤ (s.tbase - t).toNat →
    exec (.coalesceTimer q) s = .next (s.cqVector q) ∧ (s.flag (F.CQ_CTL_IV_EN q) = false →
      s.cqVector q = s.setCpl q { s.cpl q with coalN := 0, coalSince := none }))

/-- Together: Claims.CallDispatch and Claims.NopFenceCoalesce (R238, R293, R294, R308). -/
def Obligations.DispatchAndFences : Prop := Claims.CallDispatch ∧ Claims.NopFenceCoalesce

/-- R310, R311: a ring enabled under the conditions of R310 has both indices at its size; a disabled submission ring drains, and is out of
service once nothing is in flight; a completion ring with bound rings or held records refuses its disable with SEQERR. -/
def Obligations.RingEnableDisable : Prop :=
  ∀ (s : State) (r : Nat) (value : Word), r < 1024 →
    (s.takesWrite (R.SQ_CTL r) 8 = true →
      (s.flag (F.SQ_CTL_EN r) = false → s.flag (F.SQ_STAT_DRAINING r) = false →
        ∀ s1, s1 = s.storeCtl (R.SQ_CTL r) 8 (withEn value true) id → s1.flag (F.CQ_CTL_EN (s1.cqOf r)) = true →
        s1.clusterAvail (s1.f (F.SQ_CTL_CLUSTER r)) = true →
        exec (.sqEnable r value) s = .next (s1.enableSq r) ∧ (s1.enableSq r).flag (F.SQ_CTL_EN r) = true ∧
          (s1.enableSq r).sqHead r = s1.sqSize r ∧ (s1.enableSq r).sqTail r = s1.sqSize r) ∧
      (s.flag (F.SQ_CTL_EN r) = true → s.ctlDiffers (R.SQ_CTL r) 8 (withEn value false) = false →
        exec (.sqDisable r value) s = .next (s.disableSq r))) ∧
    (s.takesWrite (R.CQ_CTL r) 8 = true →
      (s.flag (F.CQ_CTL_EN r) = false → ∃ t : State, exec (.cqEnable r value) s = .next t ∧ t.flag (F.CQ_CTL_EN r) = true ∧
        t.cqTail r = t.cqSize r ∧ t.cqHead r = t.cqSize r ∧ (t.cpl r).holding = []) ∧
      (s.flag (F.CQ_CTL_EN r) = true → s.ctlDiffers (R.CQ_CTL r) 8 (withEn value false) = false →
        (s.f (F.CQ_STAT_BOUND r) = 0 → s.f (F.CQ_STAT_HOLD r) = 0 →
          exec (.cqDisable r value) s = .next (s.setFlag (F.CQ_CTL_EN r) false)) ∧
        (0 < s.f (F.CQ_STAT_BOUND r) → exec (.cqDisable r value) s =
          .next (s.refuseEn (F.CQ_STAT_SEQERR r) (R.CQ_CTL r) (withEn value false)))))


/-! ## Shuttle DMA -/

/-- R315, R316: a GO whose descriptor passes every check starts on an idle channel (ACTIVE, position 0, the shadow's CFG shown), asking
for host data where its first unit needs any, or is queued behind the active one; one that fails is refused with SEQERR, its ECODE and a notice, and moves nothing. -/
def Sys2Proof.Claims.ShuttleGoResults : Prop :=
  ∀ (s : State) (n size : Nat) (value : Word), n < 32 → s.takesCmd (R.SHT_CH_GO n) size = true → value.toNat % 2 = 1 →
    let d := s.shtShadow n
    (s.shtCheck n d = 0 → s.f (F.SHT_CH_STAT_STATE n) = 0 →
      ∃ t : State, exec (.shuttleGo n size value) s = .next (t.shtNext n d) ∧ t.f (F.SHT_CH_STAT_STATE n) = 1 ∧
        t.reg (R.SHT_CH_POS n) = 0 ∧ t.reg (R.SHT_CH_ACTCFG n) = BitVec.ofNat 64 d.cfg ∧
        t.chan n = { active := some d, queued := none, retries := 0, data := none, diff := none } ∧
        { t with bar0 := s.bar0, sht := s.sht } = s) ∧
    (s.shtUnitBad d (s.f (F.SHT_CH_POS_POS n)) = false → s.shtNeeds n d = none → s.shtNext n d = s) ∧
    (s.shtCheck n d = 0 → s.f (F.SHT_CH_STAT_STATE n) = 1 → exec (.shuttleGo n size value) s =
      .next ((s.setFlag (F.SHT_CH_STAT_QUEUED n) true).setChan n { s.chan n with queued := some d })) ∧
    (∀ e, s.shtCheck n d = e → e ≠ 0 → exec (.shuttleGo n size value) s =
      .next (((s.setFlag (F.SHT_CH_STAT_SEQERR n) true).setF (F.SHT_CH_STAT_ECODE n) e).regNotice 3 (R.SHT_CH_GO n) 1 e))

/-- R313, R318: a FILL of one unit writes its pattern to DRAM and completes: DONE, the count, IDLE; every other byte of DRAM reads as
before. R319, R320: outside Active and Standby a bus error with no retry left, or on an access that cannot be made, halts the channel with ECODE 8
and its address, RETRIES at its most; in Active it stops every active channel. R321: a channel whose next unit lies outside valid windows halts with ECODE 7. -/
def Sys2Proof.Claims.ShuttleEnds : Prop :=
  (∀ (s : State) (n : Nat) (d : ShtDesc), n < 32 → (s.chan n).active = some d → (s.chan n).queued = none → d.op = 2 → d.ds = 2 → d.len = 4096 →
    d.irq = false → (s.chan n).diff = none → s.f (F.SHT_CH_POS_POS n) = 0 → s.shtUnitBad d 0 = false → s.hostTags = [] →
    ∃ t : State, exec (.shuttleComplete n) s = .next t ∧ t.f (F.SHT_CH_STAT_STATE n) = 0 ∧ t.flag (F.SHT_CH_STAT_DONE n) = true ∧
      (t.chan n).active = none ∧ t.dram = (s.dramWrite d.dst ((List.range 512).flatMap (fun _ => leBytes 8 d.pat.toNat))).dram) ∧
  (∀ (s : State) (n pos addr : Nat) (d : ShtDesc), n < 32 → (s.chan n).active = some d → d.hostReads = true →
    (s.mode.cur = .maintenance → s.f F.SHT_RETRY_COUNT ≤ (s.chan n).retries ∨ (s.shtDenied n d).isSome = true → exec (.shuttleBusError n pos addr) s =
      .next ((((s.shtEnd n 2 8).setReg (R.SHT_CH_EADDR n) (BitVec.ofNat 64 addr)).setF (F.SHT_CH_STAT_RETRIES n)
        (s.f F.SHT_RETRY_COUNT)).shtEvent)) ∧
    (s.mode.cur = .maintenance → (s.chan n).retries < s.f F.SHT_RETRY_COUNT → s.shtDenied n d = none → ∃ t : State,
      exec (.shuttleBusError n pos addr) s = .next t ∧ (t.chan n).active = some d ∧ (t.chan n).retries = (s.chan n).retries + 1) ∧
    (s.mode.cur = .active → exec (.shuttleBusError n pos addr) s = .next (s.shtAllStop n addr) ∧
      (s.shtAllStop n addr).flag F.SHT_STAT_ALLSTOP = true)) ∧
  (∀ (s : State) (n : Nat) (d : ShtDesc), n < 32 → (s.chan n).active = some d → s.shtUnitBad d 0 = true →
    0 < d.len → s.f (F.SHT_CH_POS_POS n) = 0 → exec (.shuttleWindowHalt n) s = .next ((s.shtEnd n 2 7).shtEvent))

/-- Together: Claims.ShuttleGoResults and Claims.ShuttleEnds (R315, R316, R313, R318, R319, R320, R321). -/
def Obligations.ShuttleCommands : Prop := Claims.ShuttleGoResults ∧ Claims.ShuttleEnds

/-- R323: a HALTED channel returns to IDLE when 1 is written to its ERR bit; STOPPED channels return to IDLE when 1 is written to
SHT_STAT.ALLSTOP; clearing ALLSTOP does not change a HALTED channel. -/
def Obligations.ShuttleReturnToIdle : Prop :=
  (∀ (s : State) (n size : Nat) (value : Word), n < 32 → s.takesWrite (R.SHT_CH_STAT n) size = true → bit value.toNat 5 = true →
    s.f (F.SHT_CH_STAT_STATE n) = 2 →
    ∃ t : State, exec (.channelErrClear n size value) s = .next t ∧ t.f (F.SHT_CH_STAT_STATE n) = 0) ∧
  (∀ (s : State) (size : Nat) (value : Word), s.takesWrite R.SHT_STAT size = true → bit value.toNat 0 = true →
    ∃ t : State, exec (.allstopClear size value) s = .next t ∧ t.flag F.SHT_STAT_ALLSTOP = false ∧
      ∀ n, n < 32 → t.f (F.SHT_CH_STAT_STATE n) = (if s.f (F.SHT_CH_STAT_STATE n) = 3 then 0 else s.f (F.SHT_CH_STAT_STATE n)) ∧
        (s.f (F.SHT_CH_STAT_STATE n) = 2 → t.reg (R.SHT_CH_STAT n) = s.reg (R.SHT_CH_STAT n) ∧ t.chan n = s.chan n))

/-! ## The Map Cache -/

/-- R159 to R162: an accepted maintenance command starts (BUSY, OP, position), or is refused with ERR and an ECODE; while one is busy
every further one is refused with ECODE 1. R161: the command visits its lines as ticks pass, and the rest at the event that
completes it; then BUSY clears. -/
def Sys2Proof.Claims.MaintenanceCommands : Prop :=
  (∀ (s : State) (size op : Nat) (value : Word) (c : Nat → Word → Instr),
    ((op = 1 ∧ c = .mcClean) ∨ (op = 2 ∧ c = .mcInval) ∨ (op = 3 ∧ c = .mcClinv) ∨ (op = 4 ∧ c = .mcPreload) ∨ (op = 5 ∧ c = .mcLock)) →
    s.takesCmd R.MC_MAINT_CMD size = true →
    let v := writtenValue R.MC_MAINT_CMD size (withOp value op)
    let r : MaintRun := { op, all := bit v 3, array := s.f F.MC_MAINT_BASE_ARRAY, first := s.f F.MC_MAINT_BASE_GRAIN,
                          len := s.f F.MC_MAINT_LEN_LEN, ways := bits v 16 16, pos := 0 }
    (s.flag F.MC_MAINT_STAT_BUSY = true → exec (c size value) s = .next (s.mcRefuse 1 R.MC_MAINT_CMD (withOp value op))) ∧
    (∀ e, s.maintCheck v = e → e ≠ 0 → exec (c size value) s = .next (s.mcRefuse e R.MC_MAINT_CMD (withOp value op))) ∧
    (s.maintCheck v = 0 → (r.all = true ∨ r.len ≠ 0) → s.mcState = 1 →
      ∃ t : State, exec (c size value) s = .next t ∧ t.mc.run = some r ∧ t.flag F.MC_MAINT_STAT_BUSY = true ∧
        t.f F.MC_MAINT_STAT_OP = op ∧ t.mc.lines = s.mc.lines)) ∧
  (∀ (s : State) (r : MaintRun), s.mc.run = some r → s.mcRuns = true →
    s.maintTick = (let v := s.maintVisit r (maintRate r.op)
        if v.2.2 then v.1.maintClose v.2.1 true else (v.1.maintShow v.2.1).setMaintRun (some v.2.1)) ∧
      exec .mcMaintComplete s = .next (s.maintEnd r) ∧ (s.maintEnd r).mc.run = none ∧
      (r.op = 2 → r.all = true → s.mcState = 0 →
        (s.maintEnd r).flag F.MC_CTL_INVDONE = true ∧ (s.maintEnd r).flag F.MC_MAINT_STAT_BUSY = false ∧
        ∀ set way, (s.maintEnd r).line set way = s.line set way ∨ ((s.maintEnd r).line set way).valid = false))

/-- R164: the hold of preloaded ways ends 10 ms after the preload. R165, R166: a write to MC_WAYLOCK sets only the bits of ways held or
locked, with ECODE 6 if it asked for others; bits that it clears clear; a write that names a disabled way, or would leave more than 8 ways locked
or held, is refused with ECODE 7. -/
def Sys2Proof.Claims.WayLocks : Prop :=
  (∀ s : State, 1000000 ≤ (s.tbase - s.mc.preSince).toNat → exec .preloadHoldExpiry s =
    .next (s.setF F.MC_WAYPRE_PRE (s.f F.MC_WAYPRE_PRE &&& s.f F.MC_WAYLOCK_LOCK))) ∧
  (∀ (s : State) (size : Nat) (value : Word), s.takesWrite R.MC_WAYLOCK size = true →
    let new := value.toNat % 65536
    let old := s.f F.MC_WAYLOCK_LOCK
    let pre := s.f F.MC_WAYPRE_PRE
    let ok := new &&& (old ||| pre)
    let left := (pre - (pre &&& old)) ||| ok
    ((new &&& s.f F.MC_WAYDIS_DIS) = 0 → wayCount left ≤ 8 →
      ∃ t : State, exec (.mcWaylockWrite size value) s = .next t ∧ t.f F.MC_WAYLOCK_LOCK = ok ∧ t.f F.MC_WAYPRE_PRE = left ∧ t.mc = s.mc ∧
        (ok ≠ new → t.flag F.MC_MAINT_STAT_ERR = true ∧ t.f F.MC_MAINT_STAT_ECODE = 6)) ∧
    ((new &&& s.f F.MC_WAYDIS_DIS) ≠ 0 ∨ 8 < wayCount left →
      exec (.mcWaylockWrite size value) s = .next (s.mcRefuse 7 R.MC_WAYLOCK value)))

/-- R167 to R169: the cache is enabled only after an INVAL with ALL has completed and without FAULT, else SEQERR is set; disabling it
drains it, and the drain ends Off with every line gone and no lock or hold. R157: an acknowledged write-back leaves its line clean and
makes the fill that waited, in the same way unless that was locked, held or disabled meanwhile. -/
def Sys2Proof.Claims.MapCacheEnableDrain : Prop :=
  (∀ (s : State) (size : Nat) (value : Word), s.takesCmd R.MC_CTL size = true →
    (bit value.toNat 1 = false → s.mcState = 0 → s.flag F.MC_CTL_INVDONE = true → s.flag F.MC_CTL_FAULT = false →
      exec (.mcEnable size value) s = .next ((s.setFlag F.MC_CTL_EN true).setF F.MC_CTL_STATE 1)) ∧
    (bit value.toNat 1 = false → s.mcState = 0 → s.flag F.MC_CTL_INVDONE = false →
      exec (.mcEnable size value) s = .next ((s.setFlag F.MC_CTL_SEQERR true).regNotice 3 R.MC_CTL (value ||| 1))) ∧
    (bit value.toNat 1 = false → s.mcState = 1 → exec (.mcDisable size value) s = .next s.beginDrain ∧ s.beginDrain.mcState = 2)) ∧
  (∀ s : State, s.mcState = 2 → s.mc.run = none → s.mcRuns = true →
    exec .mcDrainComplete s = .next s.endDrain ∧ s.endDrain.mc.lines = [] ∧ s.endDrain.mcState = 0 ∧
      s.endDrain.f F.MC_WAYLOCK_LOCK = 0 ∧ s.endDrain.f F.MC_WAYPRE_PRE = 0 ∧ s.endDrain.flag F.MC_MAINT_STAT_BUSY = false) ∧
  (∀ (s : State) (set : Nat), ∀ x, s.mc.waits.find? (fun x => x.set == set) = some x →
    exec (.mcWritebackAck set) s = .next (s.ackWriteBack x) ∧
      (s.mcState = 1 → x.way < 16 → (s.cleanLine (x.set * 16 + x.way)).wayOf x.set x.tag = none → s.wayLocked x.way = false →
        s.wayHeld x.way = false → s.wayDisabled x.way = false →
        ((s.ackWriteBack x).line set x.way).tag = x.tag ∧ ((s.ackWriteBack x).line set x.way).valid = true ∧
          ((s.ackWriteBack x).line set x.way).dirty = false))

/-- Together: Claims.WayLocks and Claims.MapCacheEnableDrain (R164, R165, R166, R167, R169, R157). -/
def Obligations.MapCacheModes : Prop := Claims.WayLocks ∧ Claims.MapCacheEnableDrain

/-- R171, R172: an uncorrectable error disables the way, with LASTWAY and the counts kept, and the map-cache event; the fifth way that
fails sets FAULT and drains the cache instead. A corrected error is counted and logged, and nothing else unless it is the sixteenth. -/
def Sys2Proof.Claims.MapCacheErrors : Prop :=
  ∀ (s : State) (w set : Nat), w < 16 →
    let s0 := s.setF F.MC_ECC_LASTWAY w
    exec (.mcEccError w set true) s =
      .next (((s0.satF F.MC_ECC_UNCORR).logDeferred 4 w 0 set).wayFails w (some (set * 16 + w)) clsDeferred) ∧
    (∀ (bad : Option Nat) (cls : Nat), s.wayDisabled w = false → s.f F.MC_WAYDIS_COUNT < 4 → (s.wayFails w bad cls).wayDisabled w = true ∧
      (s.wayFails w bad cls).wayLocked w = false) ∧
    (∀ (bad : Option Nat) (cls : Nat), s.wayDisabled w = false → 4 ≤ s.f F.MC_WAYDIS_COUNT →
      (s.wayFails w bad cls).flag F.MC_CTL_FAULT = true ∧ (s.mcState = 1 → (s.wayFails w bad cls).mcState = 2)) ∧
    ((Tbl.get eccReset s.mc.ecc w).count = 0 → exec (.mcEccError w set false) s =
      .next (({ s0 with mc := { s.mc with ecc := Tbl.set eccReset s.mc.ecc w { count := 1, start := s.tbase } } }.satF
        F.MC_ECC_CORR).logCorrected 4 w set))

/-- Together: Claims.MaintenanceCommands and Claims.MapCacheErrors (R159, R162, R161, R171, R172). -/
def Obligations.MapCacheMaintenance : Prop := Claims.MaintenanceCommands ∧ Claims.MapCacheErrors

/-! ## The hoop -/

/-- R88, R93: the oldest loose version of a grain, aged or required, is filled and enters its gathering stripe, once the blocks that only
its mapped location holds have been read. R103, R126: each CLOG_SYNC period replication sends what changed and starts a
new period; a copy sled's acknowledgement advances CLOG_RSEQ. R107: resynchronisation visits one region at a time. -/
def Obligations.HoopBackground : Prop :=
  (∀ (s : State) (a g : Nat) (v : Version), s.looseVersion a g = some v → s.destages = true → s.bobbinIdle = false →
    (s.coverDue a g v.seq = true ∨ s.flag F.HU_STAT_HEALTHY = false ∨ s.f F.HOOP_AGE_AGE ≤ (s.tbase - v.since).toNat) →
    (s.unread v = [] → exec (.grainAgeExpiry a g ()) s = .next (s.enterFilled v [])) ∧
    (s.unread v ≠ [] → exec (.grainAgeExpiry a g ()) s = .next (s.readFill v (s.unread v)).runReads)) ∧
  (∀ (s : State) (v w : Version) (fill : List (Nat × Info)), s.coverDue v.array v.grain v.seq = false →
    s.flag F.HU_STAT_HEALTHY = true →
    s.fillVersion v fill (fun b => zeroBlock (s.arr v.array).pifmt 0 (v.grain * s.gblk v.array + b)) = some w →
    s.enterFilled v fill = (s.placeVersion w).drive) ∧
  (∀ s : State, s.copies ≠ [] → s.bobbinIdle = false → s.f F.CLOG_SYNC_PERIOD ≤ (s.tbase - s.hoop.repl.lastSync).toNat →
    s.hoop.repl.dirtyPages = 0 → s.hoop.repl.lostDirty = false → s.dlog.deltas.filter (fun d => decide (s.hoop.repl.deltaSent ≤ d.pos)) = [] →
    exec .couchingReplication s = .next (s.setRepl { s.hoop.repl with lastSync := s.tbase, deltaSent := s.dlog.next })) ∧
  (∀ s : State, s.copies ≠ [] → s.bobbinIdle = false → s.f F.CLOG_SYNC_PERIOD ≤ (s.tbase - s.hoop.repl.lastSync).toNat →
    ∃ t : State, exec .couchingReplication s = .next t ∧ t.hoop.repl.dirtyPages = 0 ∧ t.hoop.repl.lastSync = s.tbase ∧
      t.hoop.repl.lostDirty = false) ∧
  (∀ (s : State) (n rseq : Nat), n ∈ s.copies → rseq ≤ s.hoop.repl.nextRseq → s.bobbinIdle = false →
    exec (.copyRecordAck n rseq) s = .next (s.setRepl { s.hoop.repl with
      acks := Tbl.set markReset s.hoop.repl.acks n (max (s.ackedBy n) rseq) }).syncCopies.syncAll.drive) ∧
  (∀ (s : State) (x : Resync) (r : Nat) (rest : List Nat), s.hoop.resync = some x → x.left = r :: rest →
    s.backgroundRuns = true → s.bobbinIdle = false → s.holdsClaim = true →
    let here := s.hoop.entries.filter (fun e => e.2.state != 0 && s.regionOf e.2.array e.2.band == r)
    let s0 : State := { s with hoop := { s.hoop with resync := some { x with begun := true } } }
    (x.begun = false → exec (.resyncRegion () ()) s =
      .next (((here.map (fun e => e.1)).foldl (fun (s : State) e => s.resyncEntry e) s0).checkBands r).runReads.regionStep) ∧
    (x.begun = true → s.devReads = [] → here = [] →
      exec (.resyncRegion () ()) s = .next ((s.setRegion r false).resyncNext rest x.total).drive))


/-! ## The host endpoints -/

/-- R330 to R335, R344: a BAR2 write that its window serves takes effect in DRAM; a read returns the bytes, marked where a line holds the
poison code; what no window serves is counted, recorded, logged and reported, and a read gets Unsupported Request. Memory that a served
write did not cover reads as before. -/
def Sys2Proof.Claims.WindowAccess : Prop :=
  ∀ (s : State) (ep off reqid a : Nat) (bytes : List Byte), s.hostDown = false → (s.ep ep).open_ = true →
    (s.mode.cur ≠ .halted → s.translate ep off reqid bytes.length true = some a →
      exec (.bar2Write ep off reqid bytes false) s = .next (s.dramWrite a bytes)) ∧
    (s.mode.cur ≠ .halted → s.translate ep off reqid bytes.length true = none →
      exec (.bar2Write ep off reqid bytes false) s = .next (s.refuseWrite ep off reqid)) ∧
    (∀ len, s.translate ep off reqid len false = some a → exec (.bar2Read ep off reqid len) s =
      .next (s.send (.completion ep (s.dram.readBytes a len) (s.dramPoisoned a len)))) ∧
    (∀ len, s.translate ep off reqid len false = none → exec (.bar2Read ep off reqid len) s =
      .next (((((s.satF F.HE_WIN_STAT_RUR).winLast ep off reqid true).notice 1 0xFFFF 5 off 0).send (.unsupported ep)).aer ep
        .unsupportedRequest))

/-- R331, R333: a window serves an access only when its entry is valid and allows the direction, the endpoint and the requester, the
access lies within its pages, and the mode is neither Dormant nor Boot; the DRAM address is then the target page's plus the offset in the
window. -/
def Sys2Proof.Claims.WindowTranslation : Prop :=
  ∀ (s : State) (ep w x reqid len : Nat) (write : Bool), w < 4096 → x < 2 ^ 24 →
    let a := s.f (F.WIN_W1_TARGET w) * 4096 + x
    (s.translate ep (w * 2 ^ 24 + x) reqid len write = some a ∨ s.translate ep (w * 2 ^ 24 + x) reqid len write = none) ∧
    (s.translate ep (w * 2 ^ 24 + x) reqid len write = some a →
      s.flag (F.WIN_W0_VALID w) = true ∧ (write = true → s.flag (F.WIN_W0_WR w) = true) ∧
      (write = false → s.flag (F.WIN_W0_RD w) = true) ∧ (s.f (F.WIN_W0_EP w) = 0 ∨ s.f (F.WIN_W0_EP w) = ep + 1) ∧
      (s.flag (F.WIN_W0_IDCHK w) = true → s.f (F.WIN_W0_REQID w) = reqid) ∧ x + len ≤ (s.f (F.WIN_W1_PAGES w) + 1) * 4096 ∧
      s.mode.cur ≠ .dormant ∧ s.mode.cur ≠ .boot)

/-- R332: word 0 makes an entry valid only over a target in the buffer region, or in the dump region without WR; else VALID stays 0 and
SEQERR is set. Word 1 of a valid entry does not change. -/
def Sys2Proof.Claims.WindowEntryWrites : Prop :=
  ∀ (s : State) (w size : Nat) (value : Word), w < 4096 →
    (s.takesWrite (R.WIN_W0 w) size = true → ∀ s1, s1 = s.storeReg (R.WIN_W0 w) size value →
      (s1.flag (F.WIN_W0_VALID w) = false ∨ s1.windowOk w (s1.flag (F.WIN_W0_WR w)) = true →
        exec (.windowWord0Write w size value) s = .next s1) ∧
      (s1.flag (F.WIN_W0_VALID w) = true → s1.windowOk w (s1.flag (F.WIN_W0_WR w)) = false →
        ∃ t : State, exec (.windowWord0Write w size value) s = .next t ∧ t.flag (F.WIN_W0_VALID w) = false ∧
          t.flag F.HE_WIN_STAT_SEQERR = true)) ∧
    (s.takesWrite (R.WIN_W1 w) size = true →
      (s.flag (F.WIN_W0_VALID w) = false → exec (.windowWord1Write w size value) s = .next (s.storeReg (R.WIN_W1 w) size value)) ∧
      (s.flag (F.WIN_W0_VALID w) = true → ∃ t : State, exec (.windowWord1Write w size value) s = .next t ∧
        t.reg (R.WIN_W1 w) = s.reg (R.WIN_W1 w) ∧ t.flag F.HE_WIN_STAT_SEQERR = true))

/-- Together: Claims.WindowAccess and Claims.WindowTranslation and Claims.WindowEntryWrites (R330, R335, R344, R331, R333, R332). -/
def Obligations.Windows : Prop := Claims.WindowAccess ∧ Claims.WindowTranslation ∧ Claims.WindowEntryWrites

/-- R340, R341: a completion frees its tag and gives its data to the reader; a thread's FETCH ends with 0, or with 0x0101 where the answer is
no data. At the timeout the tag stays reserved and the reader's access ends with 0x0102; a completion that comes later is discarded,
counted and reported; one further timeout later the tag is free. What waited for a tag then asks again. -/
def Sys2Proof.Claims.HostRequestEnds : Prop :=
  ∀ (s : State) (ep t : Nat) (h : HostTag) (th id : Nat), s.hostTags.find (tagKey ep t) = some h → h.reader = .thread th id →
    h.beforeFlr = false → h.xlat = none →
    let k := tagKey ep t
    (h.timedOut = none → s.hostDown = false → exec (.hostCompletion ep t .abort) s =
      .next ((((s.freeTag k).satF F.HE_XERR_URCA).asyncDone th id 0x0101).shtRetryAsk.recRetry)) ∧
    (∀ (bs : List Byte) (o : AsyncOp) (f : Xfer), h.timedOut = none → s.hostDown = false →
      ((s.freeTag k).thr th).async? id = some o → o.xfer = some f → exec (.hostCompletion ep t (.data bs [])) s =
        .next ((((s.freeTag k).putHostBlocks th f bs []).asyncDone th id 0).shtRetryAsk.recRetry)) ∧
    (h.timedOut = none → (s.ep ep).cto ≤ (s.tbase - h.issued).toNat → exec (.completionTimeout ep t) s =
      .next ((((({ s with hostTags := s.hostTags.insert k { h with timedOut := some s.tbase } } : State).settleInvals).satF
        F.HE_XERR_CTO).aer ep .completionTimeout).asyncDone th id 0x0102)) ∧
    (∀ t0, h.timedOut = some t0 → s.hostDown = false → exec (.unexpectedCompletion ep t) s =
      .next (((s.freeTag k).incF F.HE_LATE_UNEXP).aer ep .unexpectedCompletion) ∧
      exec (.hostCompletion ep t .abort) s = .next (((s.freeTag k).incF F.HE_LATE_UNEXP).aer ep .unexpectedCompletion)) ∧
    (∀ t0, h.timedOut = some t0 → (s.ep ep).cto ≤ (s.tbase - t0).toNat →
      exec (.tagReservationExpiry ep t) s = .next ((s.freeTag k).shtRetryAsk.recRetry))

/-- R345, R346: an Invalidate Request with no request in its range is answered at once and its translations are gone; clearing ATS Enable
empties the cache. R347: a written table entry takes effect outside Dormant and Boot (log entry 92), and what is pending then leaves. R348 to R350, R353: D-states, PME_Turn_Off, Bus
Master Enable, and the request for L1. -/
def Sys2Proof.Claims.EndpointControls : Prop :=
  ∀ (s : State) (ep : Nat), s.cfgOpen ep = true →
    (∀ itag page count, s.invals = [] → s.hostTags = [] → ∃ t : State, exec (.atsInvalidateRequest ep itag page count) s = .next t ∧
      t.invals = [] ∧ t.out = s.out ++ [.invalidated ep itag] ∧
      t.ats = s.ats.filter (fun y => !(y.ep == ep && decide (page ≤ y.page ∧ y.page < page + count)))) ∧
    (s.bifurcated = false → exec (.atsEnableClear ep false) s = .next { s.setEp ep { s.ep ep with atsEnable := false } with ats := [] }) ∧
    exec (.atsEnableClear ep true) s = .next (s.setEp ep { s.ep ep with atsEnable := true }) ∧
    (∀ v value, v < 2048 → (s.ep ep).open_ = true → s.mode.cur ≠ .dormant → s.mode.cur ≠ .boot →
      let x : MsixEntry := (Tbl.get msixReset (s.ep ep).table v).write 8 (value % 2 ^ 32)
      let y : Endpoint := { s.ep ep with table := Tbl.set msixReset (s.ep ep).table v x }
      x.data = value % 2 ^ 32 ∧
        exec (.msixTableWrite ep (16 * v + 8) 4 (BitVec.ofNat 64 value) false none) s = .next ((s.setEp ep y).msixRelease ep)) ∧
    (∀ c, exec (.msixTableWrite ep 0 4 0 false (some c)) s =
      .next ((s.setEp ep { s.ep ep with msixEnable := c.1, msixFunctionMask := c.2 }).msixRelease ep)) ∧
    ((s.ep ep).dstate = .d0 → exec (.dStateChange ep 0x103) s =
      .next (s.setEp ep { s.ep ep with pmeEnable := true, dstate := .d3hot })) ∧
    ((s.ep ep).dstate = .d3hot → (∀ q, (s.cpl q).holding = []) → ∃ t : State, exec (.dStateChange ep 0) s = .next t ∧
      (t.ep ep).dstate = .d0 ∧ t.hw.wake = false) ∧
    exec (.pmeTurnOff ep) s = .next ((s.setEp ep { s.ep ep with l2Ready := true }).send (.pmeToAck ep)) ∧
    (∀ (c : ConfigBits) (x : Endpoint), x = { s.ep ep with
        memSpace := c.memSpace, busMaster := c.busMaster, l1Enable := c.l1Enable, ltrEnable := c.ltrEnable, pmeEnable := c.pmeEnable, cto := c.cto } →
      ((s.ep ep).busMaster = true → exec (.busMasterEnable ep c) s = .next (s.setEp ep x).ltrSync) ∧
      ((s.ep ep).busMaster = false → c.busMaster = true →
        exec (.busMasterEnable ep c) s = .next ((s.setEp ep x).hostReleased ep).ltrSync)) ∧
    ((s.ep ep).l1Enable = true → s.hostTags = [] → exec (.aspmL1Entry ep) s = .next (s.send (.l1Request ep)))

/-- R351, R352: hot reset, PERST1# and a function level reset reset the endpoint, the last with configuration requests held off until it
completes; the rings, channels and vectors of the endpoint are idle after it, its calls have ended, and memory is as before. -/
def Sys2Proof.Claims.EndpointResets : Prop :=
  (∀ (s : State) (ep : Nat), s.hostDown = false →
    let e := if s.bifurcated then ep % 2 else 0
    exec (.hotReset ep) s = .next (s.resetEndpoint e false) ∧ exec (.functionLevelReset ep) s = .next (s.resetEndpoint e true) ∧
    (s.bifurcated = true → exec .perst1Reset s = .next (s.resetEndpoint 1 false))) ∧
  (∀ (s : State) (ep : Nat), exec (.flrComplete ep) s = .next (s.setEp ep { s.ep ep with flrBusy := false })) ∧
  (∀ (s : State) (e : Nat) (busy : Bool), e < 2 → (e = 1 → s.bifurcated = true) →
    let t := s.resetEndpoint e busy
    (t.ep e).flrBusy = busy ∧ (t.ep e).busMaster = false ∧ (t.ep e).msixEnable = false ∧ (t.ep e).dstate = .d0 ∧ t.dram = s.dram ∧
      t.mode.cur = s.mode.cur ∧ ∀ r, s.ringEp r = e → t.sub r = subRingReset r)

/-- Together: Claims.HostRequestEnds and Claims.EndpointControls and Claims.EndpointResets (R340, R341, R345, R346, R347, R348, R350, R353,
R351, R352). -/
def Obligations.EndpointCommands : Prop := Claims.HostRequestEnds ∧ Claims.EndpointControls ∧ Claims.EndpointResets

/-! ## Device modes -/

/-- R37: a request by a table row of the modes. The mode already current is met at once, whatever else; Standby to Maintenance and Active to
Maintenance drain; Active to Standby on an unpaired device drains; Dormant to Standby and Standby to Active begin without a drain;
while a transition runs, or where no row allows it, the request is refused with REQ_ERR and a notice. -/
def Sys2Proof.Claims.ModeRequests : Prop :=
  ∀ (s : State) (size : Nat) (value : Word), s.takesCmd R.DEV_MODE size = true → bit value.toNat 15 = false →
    (s.mode.busy = true → ∀ c ∈ [Instr.modeReqStandby, .modeReqActive, .modeReqMaintenance, .modeReqDormant, .modeReqWitness],
      ∃ t : State, exec (c size value) s = .next t ∧ t.mode = { s.mode with reqErr := true }) ∧
    (∀ k, ∃ t : State, exec (.modeReqUnlisted k size value) s = .next t ∧ t.mode = { s.mode with reqErr := true }) ∧
    (s.mode.busy = false →
      (s.mode.cur = .standby → exec (.modeReqStandby size value) s = .next s) ∧
      (s.mode.cur = .active → exec (.modeReqActive size value) s = .next s) ∧
      (s.mode.cur = .maintenance → exec (.modeReqMaintenance size value) s = .next s) ∧
      (s.mode.cur = .dormant → exec (.modeReqDormant size value) s = .next s ∧
        exec (.modeReqStandby size value) s = .next (s.beginMove .standby 2 false)) ∧
      (s.mode.cur = .standby ∨ s.mode.cur = .active → exec (.modeReqMaintenance size value) s = .next (s.beginMove .maintenance 2 true)) ∧
      (s.mode.cur = .active ∨ s.mode.cur = .maintenance → s.paired = false →
        exec (.modeReqStandby size value) s = .next (s.beginMove .standby 2 true)) ∧
      (s.mode.cur = .standby ∨ s.mode.cur = .maintenance → s.paired = false →
        exec (.modeReqActive size value) s = .next (s.beginMove .active 2 false)) ∧
      (s.mode.cur = .standby → s.dormantOk = true → exec (.modeReqDormant size value) s = .next (s.beginMove .dormant 2 true)) ∧
      (s.mode.cur = .standby → s.anyArray = false → exec (.modeReqWitness size value) s = .next (s.beginMove .witness 2 true)) ∧
      (s.mode.cur = .active → ∃ t : State, exec (.modeReqDormant size value) s = .next t ∧ t.mode = { s.mode with reqErr := true }))

/-- R33, R38, R42: once fetch has stopped and every call has completed the new mode is entered: CUR and TGT name it and BUSY clears; on
entry into Dormant and Witness the sleds are powered off (R35, R437). A drain
toward Dormant whose condition no longer holds is abandoned with REQ_ERR. (Where judgement of the sleds starts with the new mode and one
reports a fatal state, its failure is declared in the same step, which the entry alone does not say.) R298, R437: leaving Dormant, CUR becomes 2 and the recorded doorbells
are replayed. -/
def Sys2Proof.Claims.ModeTransitions : Prop :=
  (∀ (s : State), s.mode.busy = true → s.mode.draining = true → s.drained = true → s.linkOff = false → s.mode.cur ≠ .halted →
    (s.mode.tgt = .maintenance → exec .drainComplete s = .next (s.enterMode .maintenance)) ∧
    (s.mode.tgt = .standby → s.paired = false → exec .drainComplete s = .next (s.enterMode .standby)) ∧
    (s.mode.tgt = .witness → s.anyArray = false → exec .drainComplete s = .next (s.sledsOff.enterMode .witness).sledsGone) ∧
    (s.mode.tgt = .dormant → s.dormantOk = true → exec .drainComplete s = .next (s.sledsOff.enterMode .dormant).sledsGone) ∧
    (s.mode.tgt = .dormant → s.dormantOk = false → exec .drainComplete s = .next { s with mode :=
      { s.mode with busy := false, tgt := s.mode.cur, draining := false, reqErr := true } })) ∧
  (∀ (s : State) (m : Mode), (judgedMode m = false ∨ judgedMode s.mode.cur = true ∨ ∀ p h, (s.hop p h).fatal = false) →
    (s.enterMode m).mode.cur = m ∧ (s.enterMode m).mode.tgt = m ∧ (s.enterMode m).mode.busy = false ∧
    (s.enterMode m).dram = s.dram ∧ (s.enterMode m).threads = s.threads) ∧
  (∀ s : State, s.mode.busy = true → s.mode.cur = .dormant → s.mode.tgt = .standby → s.hw.powered = true →
    exec .dormantExitComplete s = .next ((s.enterMode .standby).queueBays.replayDoorbells)) ∧
  (∀ s : State, s.recorder = [] → s.replayDoorbells = s)

/-- Together: Claims.ModeRequests and Claims.ModeTransitions (R37, R33, R38, R42, R35, R437, R298). -/
def Obligations.Modes : Prop := Claims.ModeRequests ∧ Claims.ModeTransitions

/-- R29, R30: SE_CLK takes its target (0 is stored as 1); each step moves the clock 200 MHz toward the lower of target and cap. -/
def Obligations.ClusterClocks : Prop :=
  (∀ (s : State) (c size : Nat) (value : Word), c < 8 → s.takesWrite (R.SE_CLK c) size = true →
    ∀ s1, s1 = s.storeReg (R.SE_CLK c) size value →
      (s1.f (F.SE_CLK_TARGET c) ≠ 0 → exec (.seClkWrite c size value) s = .next (s1.clockSync c)) ∧
      (s1.f (F.SE_CLK_TARGET c) = 0 → exec (.seClkWrite c size value) s = .next ((s1.setF (F.SE_CLK_TARGET c) 1).clockSync c))) ∧
  (∀ (s : State) (c : Nat), c < 8 → s.threadsRun = true → s.clusterAvail c = true →
    let cur := s.f (F.SE_CLK_CUR c)
    let eff := min (s.f (F.SE_CLK_TARGET c)) (s.f (F.SE_CLK_CAP c))
    (cur < eff → exec (.clockStepComplete c) s = .next ((s.setF (F.SE_CLK_CUR c) (cur + 1)).clockSync c)) ∧
    (eff < cur → exec (.clockStepComplete c) s = .next ((s.setF (F.SE_CLK_CUR c) (cur - 1)).clockSync c)) ∧
    (cur = eff → exec (.clockStepComplete c) s = .next s))


/-! ## Power, hold-up and thermal -/

/-- R38 to R41, R424, R425: power-fail detection starts a Flush from every mode with dirty data; in Dormant and Witness the event goes to
the always-on log and power is lost; in Halted the Flush runs and CUR stays 6; while a Flush runs a further detection does nothing. The
commit makes the image durable, with the hoop, the delta log, the lost-grain tables and the error log in it; a bank run down before it leaves
no image, no erased area and the failed result. -/
def Sys2Proof.Claims.FlushSequence : Prop :=
  ∀ (s : State) (src : Nat), s.hw.powered = true →
    (s.power.flush = none →
      (s.mode.cur = .active ∨ s.mode.cur = .standby ∨ s.mode.cur = .maintenance ∨ s.mode.cur = .boot →
        exec (.powerFailDetection src) s = .next (s.enterFlush (src % 2)) ∧ (s.enterFlush (src % 2)).mode.cur = .flush ∧
          (s.enterFlush (src % 2)).power.flush.isSome = true) ∧
      (s.mode.cur = .dormant ∨ s.mode.cur = .witness → ∃ t : State, exec (.powerFailDetection src) s = .next t ∧ t.hw.powered = false ∧
        t.power.flush = none ∧ t.aon.recs.length = min 256 (s.aon.recs.length + 1)) ∧
      (s.mode.cur = .halted → ∃ t : State, exec (.powerFailDetection src) s = .next t ∧ t.mode.cur = .halted ∧ t.power.flush.isSome = true)) ∧
    (∀ f, s.power.flush = some f → exec (.powerFailDetection src) s = .next s) ∧
    (∀ f vend, s.power.flush = some f → f.ended = false → f.writes = true → ∃ t : State, exec (.flushCommit vend) s = .next t ∧
      t.power.image = some { hoop := s.hoop, dlog := s.dlog, lost := s.lost, elog := s.elog } ∧ t.power.erased = false ∧ t.power.flush = some { f with ended := true }) ∧
    (∀ f vend, s.power.flush = some f → f.ended = false → f.writes = false → ∃ t : State, exec (.flushCommit vend) s = .next t ∧
      t.power.image = s.power.image ∧ t.f F.PWR_LOG_RESULT = 3) ∧
    (∀ f, s.power.flush = some f → f.ended = false → f.writes = true → ∃ t : State, exec .bankRundown s = .next t ∧ t.hw.powered = false ∧
      t.f F.PWR_LOG_RESULT = 2 ∧ t.power.image = none ∧ t.power.erased = false)

/-- R429 to R432: a test that is asked for becomes pending, starts with the bank at its charge voltage, and gives the measured capacitance and
the time of the test, from which MAX_MIB is recomputed; the bank's arrival at VCHG, a charger fault and a write of VCHG recompute what depends on them. -/
def Sys2Proof.Claims.BankTests : Prop :=
  ∀ s : State, s.hw.powered = true →
    (∀ value : Word, s.takesWrite R.HU_CTL 8 = true → s.flag F.HU_STAT_TESTING = false → s.power.testPending = false →
      ∀ s1, s1 = s.storeReg R.HU_CTL 8 (BitVec.ofNat 64 (putBit value.toNat 32 true)) → s1.f F.HU_CTL_VCHG_DV = s.f F.HU_CTL_VCHG_DV →
        exec (.huTestRequest 8 value) s = .next { s1 with power := { s1.power with testPending := true } }) ∧
    (∀ value : Word, s.takesWrite R.HU_CTL 8 = true → bit value.toNat 32 = false → ∀ s1, s1 = s.storeReg R.HU_CTL 8 value →
      s.f F.HU_CTL_VCHG_DV < s1.f F.HU_CTL_VCHG_DV → s.power.tested = true →
        exec (.vchgWrite 8 value) s = .next ({ s1 with power := { s1.power with lowering := false } } : State).syncBank) ∧
    (8640000000000 ≤ (s.tbase - s.power.lastTest).toNat → s.flag F.HU_STAT_TESTING = false → s.power.testPending = false →
      exec .capTestTimer s = .next { s with power := { s.power with testPending := true } }) ∧
    (s.power.testPending = true → s.f F.HU_CTL_VCHG_DV ≤ s.f F.HU_STAT_VBANK_DV → s.power.lowering = false → s.power.flush = none →
      exec .capTestStart s = .next (({ s with power := { s.power with testPending := false } } : State).setFlag F.HU_STAT_TESTING true)) ∧
    (∀ c, s.flag F.HU_STAT_TESTING = true → s.mode.cur ≠ .boot → ∃ t : State,
      exec (.capTestComplete c) s = .next (t.recompute (min t.power.vchg (t.f F.HU_CTL_VCHG_DV))) ∧
      t.flag F.HU_STAT_TESTING = false ∧ t.power.tested = true ∧ t.power.lastTest = s.tbase ∧
      t.f F.HU_CAP_C_DMF = min c 65535 ∧ t.f F.HU_CAP_PREV_DMF = s.f F.HU_CAP_C_DMF) ∧
    (s.power.flush = none → s.power.tested = false → s.power.lowering = false → exec .bankReachesVchg s = .next ((({ s with
      power := { s.power with lowering := false } } : State).setF F.HU_STAT_VBANK_DV (s.f F.HU_CTL_VCHG_DV)).syncBank)) ∧
    (∀ b, exec (.chargerFault b) s = .next ({ s with power := { s.power with chargerFault := b } } : State).syncBank)

/-- R429: the bank is healthy exactly when none of the six conditions stands; HU_STAT shows it and the first that does. -/
def Sys2Proof.Claims.BankHealth : Prop :=
  ∀ s : State,
    (s.notReady = 0 ↔ 15 * s.power.vchg ≤ 16 * s.f F.HU_STAT_VBANK_DV ∧ s.power.tested = true ∧ 64 ≤ s.f F.HOOP_DIRTY_LIMIT_MAX_MIB ∧
      s.power.chargerFault = false ∧ s.power.erased = true ∧ s.power.waiting = none) ∧
    (s.destages = false → s.syncBank.flag F.HU_STAT_HEALTHY = decide (s.notReady = 0) ∧ s.syncBank.f F.HU_STAT_NOTREADY = s.notReady)

/-- R433: a restored image is consumed once the bank could save what it restored; the vault then needs erasing; once enough is erased the
bank may be healthy again. -/
def Sys2Proof.Claims.VaultImage : Prop :=
  ∀ s : State, s.hw.powered = true → s.power.flush = none →
    (∀ dirty, s.power.waiting = some dirty → (s.notReady = 0 ∨ 5 ≤ s.notReady) → ceilDiv dirty 256 ≤ s.f F.HOOP_DIRTY_LIMIT_MAX_MIB →
      exec .vaultImageConsumed s =
        .next ({ s with power := { s.power with waiting := none, image := none, erased := false } } : State).syncBank) ∧
    (∀ dirty, s.power.waiting = some dirty → s.f F.HOOP_DIRTY_LIMIT_MAX_MIB < ceilDiv dirty 256 → exec .vaultImageConsumed s = .next s) ∧
    (s.power.image = none → s.power.waiting = none →
      exec .vaultEraseSufficient s = .next ({ s with power := { s.power with erased := true } } : State).syncBank)

/-- Together: Claims.FlushSequence and Claims.VaultImage (R38, R41, R424, R425, R433). -/
def Obligations.FlushAndVault : Prop := Claims.FlushSequence ∧ Claims.VaultImage

/-- R438: a poll stores VIN, the input current, the bank's voltage and the readings of the sensors that are there, and the bank, the case
and the throttle follow them. R439: the throttle level by temperature with its hysteresis, and
the steps of CAP. R440: a junction at 110 °C for 1 ms enters Halted naming the sensor; at 115 °C power is removed and the always-on log
holds the event. -/
def Sys2Proof.Claims.ThermalRules : Prop :=
  (∀ (l : Nat) (t : Int), l ≤ 3 → throttleLevel l t =
    if 105 ≤ t then 3 else if 100 ≤ t then max 2 (if l = 3 then 3 else 2) else if 95 ≤ t then (if 2 ≤ l then 2 else 1)
    else if 90 ≤ t then min l 1 else 0) ∧
  (∀ (s : State) (temps : List Nat) (vin iin vbank : Nat) (pfail : Bool), s.hw.powered = true →
    ∃ t : State, exec (.sensorPoll temps vin iin vbank pfail) s = .next t.pollActs ∧ t.f F.PWR_VIN_VIN_MV = vin % 2 ^ 16 ∧
      t.f F.PWR_VIN_IIN_10MA = iin % 2 ^ F.PWR_VIN_IIN_10MA.width ∧ t.f F.HU_STAT_VBANK_DV = vbank % 2 ^ F.HU_STAT_VBANK_DV.width ∧
      (∀ i < 28, s.sensorAbsent i = false → (t.sensor i).cur = temps.getD i 0x80 % 256) ∧ t.tbase = s.tbase) ∧
  (∀ s : State, s.threadsRun = true → 10000000 ≤ (s.tbase - s.thermal.lastStep).toNat →
    let s1 : State := { s with thermal := { s.thermal with lastStep := s.tbase } }
    let t := signed 8 (s.f F.TEMP_STAT_JMAX_C)
    (s.f F.TEMP_STAT_LEVEL = 1 → 95 ≤ t → exec .throttleStepTimer s = .next (s1.setCaps (fun c => if 3 < c then c - 1 else c))) ∧
    (s.f F.TEMP_STAT_LEVEL ≤ 1 → t < 90 → exec .throttleStepTimer s = .next (s1.setCaps (fun c => min 7 (c + 1)))) ∧
    (2 ≤ s.f F.TEMP_STAT_LEVEL → exec .throttleStepTimer s = .next s1)) ∧
  (∀ (s : State) (i : Nat) (t : Word), (s.sensor i).hotSince = some t → i < 22 → 100000 ≤ (s.tbase - t).toNat → s.hw.powered = true →
    exec (.thermalTrip i) s = .next (s.halt 7 3 0 false 0 0 i 0)) ∧
  (∀ (s : State) (i : Nat), i < 22 → s.hw.powered = true → s.power.flush = none →
    exec (.thermalPowerRemoval i) s = .next (s.logAon 0x0D i).powerLost)

/-- Together: Claims.BankTests and Claims.BankHealth and Claims.ThermalRules (R429, R432, R438, R439, R440). -/
def Obligations.BankAndThermal : Prop := Claims.BankTests ∧ Claims.BankHealth ∧ Claims.ThermalRules

/-! ## Resets and Boot -/

/-- R38, R348, R351, R435, R486: power on, the deassertion of PERST0# and the internal reset after a Flush are conventional resets, with
their CAUSE; the control island's release starts step 0x00 of Boot. After a conventional reset the mode is Boot, no ring, thread or line of
the Map Cache holds anything, and TBASE goes on. -/
def Sys2Proof.Claims.ConventionalResets : Prop :=
  (∀ (s : State) (pins : Straps) (held : Bool), s.hw.powered = false → ∃ t : State, exec (.powerOn pins true held) s = .next t ∧
    t.mode.cur = .boot ∧ t.tbase = 0 ∧ t.aon.recs = [] ∧ t.dram = [] ∧ t.hw.powered = true) ∧
  (∀ (s : State) (pins : Straps) (held : Bool), s.hw.powered = false → ∃ t : State, exec (.powerOn pins false held) s = .next t ∧
    t.mode.cur = .boot ∧ t.tbase = s.tbase ∧ t.aon.recs = s.aon.recs) ∧
  (∀ (s : State) (pins : Straps), s.hw.perst0 = true → s.power.flush = none → s.d3cold = false → s.mode.cur ≠ .halted →
    exec (.perstDeassert pins) s = .next (({ s with hw := { s.hw with perst0 := false, pins } } : State).convReset 0 pins)) ∧
  (∀ (s : State), s.d3cold = false → s.power.flush = none → s.hw.powered = true → exec .perstAssert s =
    .next ((((({ s with hw := { s.hw with perst0 := true } } : State).endCalls 0).endCalls 1).silenceThreads 0).silenceThreads 1)) ∧
  (∀ (s : State) (f : FlushRun), s.power.flush = some f → f.ended = true → s.hw.powered = true →
    exec .internalReset s = .next (s.convReset 0x0B s.hw.pins)) ∧
  (∀ s : State, s.hw.ctlReset = true → s.hw.powered = true →
    exec .controlIslandResetRelease s = .next (({ s with hw := { s.hw with ctlReset := false } } : State).startStep 0)) ∧
  (∀ (s : State) (cause : Nat) (pins : Straps),
    let t := s.convReset cause pins
    t.mode.cur = .boot ∧ t.mode.cause = cause ∧ t.hw.straps = pins ∧ t.threads = [] ∧ t.subRings = [] ∧ t.mc = mapCacheReset ∧
      t.tbase = s.tbase ∧ t.elog = s.elog ∧ t.boot.bootNo = s.boot.bootNo + 1 ∧ t.hoop = s.hoop ∧
      (s.power.dramKept = true → t.dram = s.dram))

/-- R413 to R416: a passed boot step leaves its ledger record and starts the next; a failed one, or one beyond its limit, ends in Halted
with CAUSE 0x07. R38: with the maps loaded a request for Active completes. What a step measures is measured also where it
fails (R417). -/
def Sys2Proof.Claims.BootSteps : Prop :=
  (∀ (s : State) (x : BootEnd) (st : Nat) (t : Word), s.boot.running = some (st, t) → s.mode.cur ≠ .halted → s.mode.cur ≠ .flush →
    s.hw.powered = true →
    (x.pass = false → exec (.bootStepEnd x) s = .next ((((s.measureStep st x.digests).ledger st 3 x.unit).releaseSync st).bootHalt 4 7 st)) ∧
    (x.pass = true → (st = 2 ∨ st = 3) → x.digests = [] → s.mode.cur = .boot → ∃ u : State, exec (.bootStepEnd x) s = .next u ∧
      u.boot.running = some (st + 1, s.tbase) ∧ u.mode = s.mode ∧
      Tbl.get noLedger u.boot.ledger (s.boot.ledgerNext % 4096) =
        some { bootNo := s.boot.bootNo, step := st, event := 2, alt := Tbl.get markReset s.boot.alts st, unit := 0xFF, tbase := s.tbase,
               detail := s.freshVal.toNat % 2 ^ 32 } ∧ u.f F.DEV_BOOT_STAT_LASTSTEP = st + 1) ∧
    (stepLimit st < (s.tbase - t).toNat →
      exec (.bootStepTimeout 0xFF) s = .next ((s.releaseSync st).bootHalt 4 7 st)) ∧
    ((s.tbase - t).toNat ≤ stepLimit st → exec (.bootStepTimeout 0xFF) s = .next s)) ∧
  (∀ s : State, s.mode.busy = true → s.mode.tgt = .active → s.mode.draining = false → s.pair.gap = false → s.mode.cur ≠ .halted →
    s.mode.cur ≠ .flush → ∀ t, t = s.beginLoad.runReads →
    (t.power.mapLoaded = true → exec .mapLoadComplete s = .next (t.enterMode .active)) ∧
    (t.power.mapLoaded = false → exec .mapLoadComplete s = .next t)) ∧
  (∀ s : State, s.power.mapLoaded = true → s.devReads = [] → s.readJobs = [] → s.beginLoad.runReads = s)


/-- Together: Claims.ConventionalResets and Claims.BootSteps (R38, R348, R351, R435, R486, R413, R416, R417). -/
def Obligations.ResetAndBoot : Prop := Claims.ConventionalResets ∧ Claims.BootSteps

/-! ## Pairing -/

/-- R385, R187: a standby stores the next mirrored item in order and confirms it; one whose guard fails is asked for again, up to three
times, and then the link counts as failed; one out of order is not stored. The active learns of what is stored, and each unit's items count on. -/
def Sys2Proof.Claims.MirrorProtocol : Prop :=
  (∀ (s : State) (seq : Nat) (i : MirrorItem), s.mirrorOpen = true →
    (seq = s.pair.rxSeq + 1 → s.mirrorGood i = true → ∃ t : State, exec (.mirror seq i) s = .next t ∧
      t.pair.rxSeq = seq ∧ t.pair.resends = 0 ∧ t.out.getLast? = some (.confirm seq)) ∧
    (seq = s.pair.rxSeq + 1 → s.mirrorGood i = false → s.pair.resends < 3 → ∃ t : State, exec (.mirror seq i) s = .next t ∧
      t.pair.rxSeq = s.pair.rxSeq ∧ t.pair.resends = s.pair.resends + 1 ∧ t.out = s.out ++ [.resend seq] ∧ t.hoop = s.hoop) ∧
    (seq = s.pair.rxSeq + 1 → s.mirrorGood i = false → 3 ≤ s.pair.resends → ∃ t : State, exec (.mirror seq i) s = .next t ∧
      t.pair.rxSeq = s.pair.rxSeq ∧ t.hoop = s.hoop ∧ t.flag F.PAIR_STAT_PEER_UP = false) ∧
    (seq ≠ s.pair.rxSeq + 1 → exec (.mirror seq i) s = .next s.pairFrame)) ∧
  (∀ (s : State) (seq : Nat), s.linkRuns = true → s.pair.live = true → s.pair.confSeq < seq → seq ≤ s.pair.mirSeq →
    exec (.confirm seq) s =
      .next ((({ s.pairFrame with pair := { s.pairFrame.pair with confSeq := seq } }).syncDurable).releaseEmits.settleWorks)) ∧
  (∀ (s : State) (i : MirrorItem), s.pair.live = true → (s.mirror i).pair.mirSeq = s.pair.mirSeq + 1 ∧
    (s.mirror i).out = s.out ++ [.mirror (s.pair.mirSeq + 1) i])

/-- R398: SYNC data is stored by a standby not in sync and shown in PAIR_SYNC, and what a phase replaces is empty before its first data come
(log entry 80); the active reports its end to the witness; IN_SYNC_ACK sets INSYNC and clears STALE, at the standby too, which hears of it
by a word of phase 4 (log entry 94). R389: HELLO_ACK gives the pair number, and a unit without the claim is the standby. -/
def Sys2Proof.Claims.SyncProtocol : Prop :=
  (∀ (s : State) (phase pm : Nat), s.mirrorOpen = true → s.flag F.PAIR_STAT_INSYNC = false → 1 ≤ phase → phase ≤ 3 →
    (s.f F.PAIR_SYNC_PHASE = phase → phase ≠ 3 → exec (.sync phase pm []) s =
      .next (((s.pairFrame.setF F.PAIR_SYNC_PHASE phase).setF F.PAIR_SYNC_PERMILLE (min 1000 pm)).setF F.CLOG_STAT_SRC 2)) ∧
    (s.f F.PAIR_SYNC_PHASE ≠ phase → ∃ t : State, exec (.sync phase pm []) s = .next t ∧ t.f F.PAIR_SYNC_PHASE = phase ∧
      (phase = 1 → t.prk.slots = [] ∧ t.arrays = [] ∧ t.bands = []) ∧ (phase = 2 → t.map = []) ∧
      (phase = 3 → t.hoop.versions = [] ∧ t.pair.staged = [] ∧ t.power.mapLoaded = true))) ∧
  (∀ (s : State) (pm : Nat), s.mirrorOpen = true → s.f F.PAIR_SYNC_PHASE = 3 →
    exec (.sync 4 pm []) s = .next s.pairFrame.inSyncNow) ∧
  (∀ s : State, s.inSyncNow.flag F.PAIR_STAT_INSYNC = true ∧ s.inSyncNow.flag F.PAIR_STAT_STALE = false ∧
    s.inSyncNow.flag F.PAIR_STAT_PEER_LOST = false ∧ s.inSyncNow.f F.PAIR_SYNC_PHASE = 4) ∧
  (∀ s : State, s.linkRuns = true → s.role = 1 → s.pair.live = true → s.flag F.PAIR_STAT_INSYNC = false →
    exec .syncComplete s = .next (((s.setF F.PAIR_SYNC_PHASE 3).setF F.PAIR_SYNC_PERMILLE 1000).sendWit 9 [])) ∧
  (∀ s : State, s.paired = true → s.linkOff = false →
    (s.role = 2 → exec .inSyncAck s = .next s.fromWitness.inSyncNow) ∧
    (s.role = 1 → s.pair.live = true → exec .inSyncAck s = .next ((s.fromWitness.inSyncNow.setMirroring true).send (.sync 4 [])))) ∧
  (∀ (s : State) (n : Nat), s.paired = true → s.linkOff = false → (s.role = 2 ∨ s.role = 5) → ∃ t : State,
    exec (.helloAck n false) s = .next t ∧ t.role = 2 ∧ t.pair.pairNo = n % 4)

/-- Together: Claims.MirrorProtocol and Claims.SyncProtocol (R385, R187, R398, R389). -/
def Obligations.MirrorAndSync : Prop := Claims.MirrorProtocol ∧ Claims.SyncProtocol

/-- R391 to R393: every 5 ms the active renews its lease with the witness and the peer; the answer to a request makes the lease count from the
sending of that request; 14 ms without renewal, or a denial of its claim, ends the lease; 3 ms later the unit is a STALE standby. A
standby without a witness answer for 15 ms rides through and answers RENEW. -/
def Obligations.LeaseRules : Prop :=
  (∀ s : State, s.linkRuns = true → s.mode.cur ≠ .halted → (s.role = 1 ∨ s.role = 3) →
    (∀ e, s.pair.reqSent.head? = some e → 500000 ≤ (s.tbase - e.2).toNat) →
    ∃ t : State, exec .leaseRenewTimer s = .next t ∧ t.pair.renewSent = some s.tbase ∧
      t.pair.reqSent.head? = some (t.pair.msgSeq, s.tbase) ∧ t.out.getLast? = some (.renew false)) ∧
  (∀ (s : State) (seq : Nat) (u : Word), s.paired = true → s.linkOff = false → (s.role = 1 ∨ s.role = 3) →
    s.pair.reqSent.find? (fun e => e.1 == seq) = some (seq, u) →
    (∀ l, s.pair.lease = some l → (s.tbase - u).toNat ≤ (s.tbase - l).toNat) →
    ∃ t : State, exec (.leaseAck seq) s = .next t ∧ t.pair.lease = some u) ∧
  (∀ (s : State) (u : Word), s.linkRuns = true → s.role = 1 → s.pair.renewSent = some u →
    ∃ t : State, exec (.renew true) s = .next t ∧ t.pair.lease = some u ∧ t.pair.renewSent = none) ∧
  (∀ s : State, s.linkRuns = true → s.role = 2 → s.pair.riding = true →
    exec (.renew false) s = .next (({ s.pairFrame with pair := { s.pairFrame.pair with lastRenew := some s.tbase } }).send (.renew true))) ∧
  (∀ (s : State) (u : Word), s.role = 1 → s.pair.leaseLost = none → s.pair.lease = some u → 1400000 ≤ (s.tbase - u).toNat →
    exec .leaseExpiry s = .next s.loseLease) ∧
  (∀ (s : State) (claim : Nat), s.paired = true → s.linkOff = false → (s.role = 1 ∨ s.role = 3) → s.pair.leaseLost = none →
    exec (.leaseDeny claim) s = .next s.fromWitness.loseLease) ∧
  (∀ (s : State) (u : Word), s.pair.leaseLost = some u → 300000 ≤ (s.tbase - u).toNat → s.mode.cur ≠ .halted → s.linkOff = false →
    exec .postWindowExpiry s =
      .next (({ s.withhold with mode := { s.withhold.mode with cause := 4 } } : State).becomeStale).sendHello) ∧
  (∀ s : State, s.linkRuns = true → s.role = 2 → s.pair.riding = false → 1500000 ≤ (s.tbase - s.pair.lastWit).toNat →
    ∃ t : State, exec .rideThroughStart s = .next t ∧ t.pair.riding = true ∧ t.flag F.PAIR_STAT_WIT_UP = false)

/-- R392, R394, R395: a standby takes a grant of a higher claim (not within 15 ms of a RENEW it answered): its role is 3, the gap runs, and
the move to Active begins; the end of the gap makes it active with CUR 3, a failed check of the tables halts it. R387, R401: a report other than
READY, silence for PEER_TMO and a report older than 3 s each make the peer lost; after PEER_LOST_ACK the device acknowledges alone. -/
def Obligations.SwitchOver : Prop :=
  (∀ (s : State) (claim ago : Nat), s.paired = true → s.linkOff = false → s.role = 2 → s.mode.cur = .standby → s.mode.busy = false →
    claimAbove claim s.pair.claim = true → claim ≠ s.pair.claim →
    (s.grantBarred = false → s.pair.failbackAsked = none → ∃ t : State, exec (.claimGrant claim ago) s = .next t ∧ t.role = 3 ∧
      t.pair.gap = true ∧ t.pair.gapStart = s.tbase - BitVec.ofNat 64 ago ∧ t.mode.busy = true ∧ t.mode.tgt = .active ∧ t.mode.cause = 3) ∧
    (s.grantBarred = true → exec (.claimGrant claim ago) s = .next s.fromWitness)) ∧
  (∀ s : State, s.pair.gap = true → s.mode.cur = .standby →
    (s.power.mapLoaded = true → ∃ t : State, exec (.gapEnd true) s = .next t ∧ t.pair.gap = false) ∧
    (s.power.mapLoaded = false → exec (.gapEnd true) s = .next s.beginLoad)) ∧
  (∀ s : State, s.pair.gap = true → s.mode.cur = .standby → exec (.gapEnd false) s = .next (s.halt 7 6 0 false 0 0 0xFF 0)) ∧
  (∀ (s : State) (r : PairReport), s.linkRuns = true → s.role = 1 → s.power.tested = false → s.pair.live = true →
    let s1 : State := { s.pairFrame with
      pair := { s.pairFrame.pair with peerReport := some (r, s.tbase) }
      power := { s.power with peerBank := some r.bankMf } }
    r.state = 0 → exec (.pairHealth r) s = .next s1) ∧
  (∀ s : State, s.linkRuns = true → s.flag F.PAIR_STAT_PEER_UP = true → s.f F.PAIR_TMO_PEER_TMO ≤ (s.tbase - s.pair.lastFrame).toNat →
    exec .peerTimeout s = .next s.declarePeerLost) ∧
  (∀ (s : State) (r : PairReport) (u : Word), s.linkRuns = true → s.pair.peerReport = some (r, u) → 300000000 < (s.tbase - u).toNat →
    exec .peerHealthStale s = .next s.declarePeerLost) ∧
  (∀ s : State, s.paired = true → s.linkOff = false → s.role = 1 → s.pair.lostPending = true → ∃ t : State,
    exec .peerLostAck s = .next t ∧ t.pair.mirroring = false ∧ t.flag F.PAIR_STAT_PEER_LOST = true ∧ t.flag F.PAIR_STAT_INSYNC = false)

/-- R399 to R401: an active with FAILBACK_EN starts the handover a PREFER standby asks for; 2 ms later running calls end and HANDOVER is sent;
each second a unit reports to the witness; a standby's failed self-test stands until a rerun passes, and makes it FAULTED if the rerun fails. -/
def Sys2Proof.Claims.HandoverAndTests : Prop :=
  (∀ s : State, s.linkRuns = true → s.role = 1 → s.flag F.PAIR_CTL_FAILBACK_EN = true → s.mode.busy = false → s.pair.leaseLost = none →
    s.peerReady = true → s.flag F.PAIR_STAT_INSYNC = true → s.mode.cur = .active → ∃ t : State, exec .failbackRequest s = .next t ∧
      t.pair.intakeClosed = true ∧ t.pair.handover = some s.tbase ∧ t.mode.busy = true ∧ t.mode.tgt = .standby ∧ t.mode.cause = 4) ∧
  (∀ (s : State) (u : Word), s.pair.handover = some u → s.linkRuns = true → s.mode.cur ≠ .halted → 200000 ≤ (s.tbase - u).toNat →
    exec .handoverDrainTimeout s = .next s.withhold.finishHandover) ∧
  (∀ s : State, s.linkRuns = true → s.mode.cur ≠ .halted → 100000000 ≤ (s.tbase - s.pair.lastReport).toNat → s.role = 1 →
    s.flag F.PAIR_STAT_WIT_UP = true → exec .healthReportTimer s = .next (({ s with pair := { s.pair with lastReport := s.tbase } }).sendWit 6 s.pairReport.bytes)) ∧
  (∀ (s : State) (test : Nat), s.linkRuns = true → s.role = 2 → test < 5 →
    (∃ t : State, exec (.standbySelfTest test false) s = .next t ∧ bit t.pair.standing test = true ∧ t.pair.rerunFailed = s.pair.rerunFailed) ∧
    (bit s.pair.standing test = true → (∃ t : State, exec (.selfTestRerun test true) s = .next t ∧ bit t.pair.standing test = false) ∧
      (∃ t : State, exec (.selfTestRerun test false) s = .next t ∧ bit t.pair.rerunFailed test = true ∧
        ((∀ k, k < 5 → k ≠ test → bit s.pair.standing k = true → bit s.pair.rerunFailed k = true) → s.mode.cur ≠ .maintenance →
          t.pairReport.state = 3))))

/-- R388 to R392, R396, R398: the witness. A lease is renewed only for the holder of the claim that is neither STALE nor lapsed; a lapsed lease, a
handover and a HELLO give the next claim to an eligible unit, mark the other STALE and repeat the grant until it is acknowledged; a
message that is not valid is counted. -/
def Sys2Proof.Claims.WitnessRules : Prop :=
  (∀ (s : State) (m : WitMsg), s.witnessing = true → m.pair < 4 → s.pairUsed m.pair = true → m.unit < 2 →
    let q := m.pair
    let c := s.f (F.WIT_PAIR_CLAIM q)
    let holder := s.f (F.WIT_PAIR_HOLDER q)
    (holder = m.unit → s.witStale q m.unit = false → (s.wpair q).lapsed ≠ some m.unit →
      exec (.leaseReq m) s = .next ((s.setWpair q { s.wpair q with leaseAt := some s.tbase }).answer q m.unit 4 c m.seq [])) ∧
    (holder ≠ m.unit → exec (.leaseReq m) s = .next (s.answer q m.unit 0xC c m.seq [])) ∧
    (holder = m.unit → exec (.peerLost m) s = .next ((s.setStale q (1 - m.unit) true).answer q m.unit 8 c m.seq [])) ∧
    (holder = m.unit → exec (.inSync m) s = .next ((s.setStale q (1 - m.unit) false).answer q m.unit 0xA c m.seq [])) ∧
    (holder = m.unit → s.eligible q (1 - m.unit) = true → exec (.handover m) s = .next (s.grant q (1 - m.unit))) ∧
    (holder = m.unit → s.eligible q (1 - m.unit) = false → exec (.handover m) s = .next (s.noHolder q)) ∧
    (holder ≠ 2 → m.unit = 0 → exec (.health m) s =
      .next (s.setWpair q { s.wpair q with health0 := some (leNat (m.body.take 1), s.tbase) })) ∧
    (∀ u t, (s.wpair q).granting = some (u, t) → u = m.unit → m.claim = c →
      exec (.grantAck m) s = .next (s.setWpair q { s.wpair q with granting := none }))) ∧
  (∀ (s : State) (m : WitMsg) (q : Nat), s.witnessing = true → m.unit < 2 → q < 4 →
    (List.range 4).find? (fun q => s.pairUsed q && (s.wpair q).id == (leNat (m.body.take 8), leNat ((m.body.drop 8).take 8))) = some q →
    s.f (F.WIT_PAIR_HOLDER q) < 2 → claimAbove m.claim (s.f (F.WIT_PAIR_CLAIM q)) = false →
    ∃ t : State, exec (.hello m) s = .next t ∧ (t.wpair q).hello m.unit = true ∧ t.f (F.WIT_PAIR_CLAIM q) = s.f (F.WIT_PAIR_CLAIM q)) ∧
  (∀ (s : State) (q : Nat) (t : Word), s.witnessing = true → q < 4 → (s.wpair q).leaseAt = some t → (s.wpair q).granting = none →
    s.f (F.WIT_PAIR_HOLDER q) < 2 → 1500000 ≤ (s.tbase - t).toNat →
    ∀ u s1, u = s.f (F.WIT_PAIR_HOLDER q) → s1 = s.setWpair q { s.wpair q with leaseAt := none, lapsed := some u } →
      exec (.witnessLeaseLapse q) s = .next (if s1.eligible q (1 - u) then s1.grant q (1 - u) else s1.noHolder q)) ∧
  (∀ (s : State) (q u : Nat), q < 4 → u < 2 → (s.grant q u).f (F.WIT_PAIR_HOLDER q) = u ∧ (s.grant q u).witStale q (1 - u) = true ∧
    ((s.grant q u).wpair q).granting = some (u, s.tbase)) ∧
  (∀ (s : State) (q u : Nat) (t : Word), s.witnessing = true → q < 4 → (s.wpair q).granting = some (u, t) → 100000 ≤ (s.tbase - t).toNat →
    s.healthFresh q u = true → exec (.grantRepeat q) s = .next ((s.setWpair q { s.wpair q with granting := some (u, s.tbase) }).answer q u 5
      (s.f (F.WIT_PAIR_CLAIM q)) 0 [])) ∧
  (∀ s : State, s.linkOff = false → exec .badWitnessMessage s = .next (s.satF F.WIT_STAT_BAD))


/-- Together: Claims.HandoverAndTests and Claims.WitnessRules (R399, R401, R388, R392, R396, R398). -/
def Obligations.HandoverAndWitness : Prop := Claims.HandoverAndTests ∧ Claims.WitnessRules

/-! ## Links and sleds -/

/-- R355, R356: a good frame in sequence is taken and its number kept; one that cannot be corrected, or is out of sequence, is NAKed; both as
far as the receiver goes. R360: returned credit adds to its class. R357, R384: a link that retrains is down; a trained one is up. -/
def Sys2Proof.Claims.LinkFrames : Prop :=
  (∀ (s : State) (p : Nat) (f : Frame), p < 32 → s.linkServed p = true → (s.port p).up = true →
    (f.good = false → exec (.frameReceive p f) s = .next ((s.satF (F.BP_FEC_UNCORR p)).setPort p { s.port p with nak := true })) ∧
    (f.good = true → f.corrected = false → f.idle = false → f.fseq % 256 = ((s.port p).rxSeq + 1) % 256 → f.nak = false →
      ∃ t : State, exec (.frameReceive p f) s = .next t ∧ (t.port p).rxSeq = f.fseq % 256 ∧ (t.port p).nak = false) ∧
    (f.good = true → f.corrected = false → f.idle = false → f.fseq % 256 ≠ ((s.port p).rxSeq + 1) % 256 → f.nak = false →
      ∃ t : State, exec (.frameReceive p f) s = .next t ∧ (t.port p).rxSeq = (s.port p).rxSeq ∧ (t.port p).nak = true)) ∧
  (∀ (s : State) (p ctrl bulk : Nat), s.linkServed p = true → (s.port p).up = true → exec (.credit p ctrl bulk true) s =
    .next ((s.setPort p { s.port p with
      ctrlCr := (s.port p).ctrlCr + ctrl % 2 ^ 16, bulkCr := (s.port p).bulkCr + bulk % 2 ^ 16 }).pump p)) ∧
  (∀ (s : State) (p : Nat), p < 32 → s.linkServed p = true → (s.port p).up = true → 8 ≤ (s.port p).replays →
    exec (.bobbinLinkDown p 0 false) s = .next (s.retrain p) ∧ ((s.retrain p).port p).up = false) ∧
  (∀ (s : State) (p ack ctrl bulk serial : Nat), p < 32 → s.linkServed p = true → (s.hop p 0).stage = .training →
    s.flag (F.BP_HOP_STAT_PWR p 0) = true → s.flag (F.BP_CTL_EN p) = true →
    exec (.linkTrained p 0 ack ctrl bulk serial) s = .next (s.linkTrained p 0 ack ctrl bulk serial) ∧
      ((s.linkTrained p 0 ack ctrl bulk serial).port p).up = true ∧ (s.linkTrained p 0 ack ctrl bulk serial).f (F.BP_LINK_STATE p) = 2) ∧
  (∀ (s : State) (p : Nat), p < 32 → s.takesWrite (R.BP_CTL p) 4 = true → s.flag (F.BP_CTL_EN p) = true →
    ∀ s1, s1 = s.storeReg (R.BP_CTL p) 4 (2 + (s.reg (R.BP_CTL p) &&& 1)) → s1.flag (F.BP_CTL_EN p) = true →
      exec (.retrain p) s = .next (s1.retrain p)) ∧
  (∀ (s : State) (p size : Nat) (value : Word), p < 32 → s.takesWrite (R.BP_CTL p) size = true → bit (writtenValue (R.BP_CTL p) size value) 1 = false →
    ∀ s1, s1 = s.storeReg (R.BP_CTL p) size value → s.flag (F.BP_CTL_EN p) = true →
      (s1.flag (F.BP_CTL_EN p) = false → exec (.portEnWrite p size value) s = .next (s1.portOff p 7)) ∧
      (s1.flag (F.BP_CTL_EN p) = true → exec (.portEnWrite p size value) s = .next s1))

/-- R360: a port sends in the order of each class and never beyond its credit: the slots of the packets that left, and nothing else, are
taken from the class's credit, and each leaves once. -/
def Sys2Proof.Claims.CreditConserved : Prop :=
  ∀ (s : State) (p : Nat),
    let x := s.port p
    let y := (s.pump p).port p
    ∃ c b : List TxPkt, x.ctrlQ = c ++ y.ctrlQ ∧ x.bulkQ = b ++ y.bulkQ ∧ y.ctrlCr + (c.map (fun k => k.slots)).sum = x.ctrlCr ∧
      y.bulkCr + (b.map (fun k => k.slots)).sum = x.bulkCr ∧ (s.pump p).out.length = s.out.length + c.length + b.length

/-- Together: Claims.LinkFrames and Claims.CreditConserved (R355, R356, R360, R357, R384). -/
def Obligations.LinksAndCredits : Prop := Claims.LinkFrames ∧ Claims.CreditConserved

/-- R359, R361 to R363, R199: a response or data of no command, or under a bad header CRC, is a protocol error; a late response frees its tag and
is counted; a response of a live command frees its tag and settles what the command was for; an alert is a status block. R360: the slots of
each packet received are returned as credit. -/
def Sys2Proof.Claims.SledAnswers : Prop :=
  ∀ (s : State) (p tag hop : Nat), p < 32 → tag < 512 → hop < 4 → s.bobbinIdle = false → (s.port p).up = true →
    (∀ status body, exec (.rsp p tag hop status body false) s = .next ((s.returnCredit p (slotsOf body.length) 0).protoError p 0x20)) ∧
    (∀ status body, s.sledCmds.find (sledKey p tag) = none →
      exec (.rsp p tag hop status body true) s = .next ((s.returnCredit p (slotsOf body.length) 0).protoError p 0x20)) ∧
    (∀ status body c, s.sledCmds.find (sledKey p tag) = some c → c.hop ≠ hop →
      exec (.rsp p tag hop status body true) s = .next ((s.returnCredit p (slotsOf body.length) 0).protoError p 0x20)) ∧
    (∀ status body c t0, s.sledCmds.find (sledKey p tag) = some c → c.hop = hop → c.timedOut = some t0 →
      exec (.rsp p tag hop status body true) s =
        .next (((s.returnCredit p (slotsOf body.length) 0).satF F.ARR_LATE_LATE).endSled p tag)) ∧
    (∀ status body c, s.sledCmds.find (sledKey p tag) = some c → c.hop = hop → c.timedOut = none →
      exec (.rsp p tag hop status body true) s = .next ((((((s.returnCredit p (slotsOf body.length) 0).endSled p tag).settleRsp p c
        (status % 256) body).retryWaiting p)).runReads)) ∧
    (∀ seg bs, s.sledCmds.find (sledKey p tag) = none →
      exec (.rdata p tag hop seg (.log bs) true) s = .next ((s.returnCredit p 0 (slotsOf bs.length)).protoError p 0x21)) ∧
    (∀ seg raw, s.sledCmds.find (sledKey p tag) = none →
      exec (.rdata p tag hop seg (.codeword raw) true) s = .next ((s.returnCredit p 0 73).protoError p 0x21)) ∧
    (∀ seg c j col n blk pg level cw raw, s.sledCmds.find (sledKey p tag) = some c → c.hop = hop → c.timedOut = none →
      c.purpose = .read j col → c.kind = .read n blk pg level cw →
      exec (.rdata p tag hop seg (.codeword raw) true) s = .next (((s.returnCredit p 0 73).columnData j col level seg raw).runReads)) ∧
    (∀ body, exec (.alert p hop body true) s = .next (((s.returnCredit p (slotsOf body.length) 0).statusBlock p hop body).runReads)) ∧
    (∀ body, exec (.alert p hop body false) s = .next ((s.returnCredit p (slotsOf body.length) 0).protoError p 0x30))

/-- R196, R198, R367: a READ beyond its limit is served otherwise, its tag reserved and the timeout counted; another command beyond its limit
reserves its tag and is repeated once; commands answered NOT_READY go out again; 200 ms without its link a sled is declared failed. -/
def Sys2Proof.Claims.SledTimeLimits : Prop :=
  (∀ (s : State) (p tag : Nat) (c : SledCmd) (j col n : Nat), p < 32 → tag < 512 → s.sledCmds.find (sledKey p tag) = some c →
    c.purpose = .read j col → c.sled = some n → c.timedOut = none → s.cmdLimit c ≤ (s.tbase - c.issued).toNat →
    exec (.memberReadTimeout p tag) s =
      .next ((((s.reserveTag (sledKey p tag) c).readEnded c j col).countTimeout n c.underLoss).runReads)) ∧
  (∀ (s : State) (p tag : Nat) (c : SledCmd), p < 32 → tag < 512 → s.sledCmds.find (sledKey p tag) = some c → c.purpose = .none →
    c.timedOut = none → c.sled = none → s.cmdLimit c ≤ (s.tbase - c.issued).toNat →
    (c.again = false → exec (.commandTimeout p tag) s = .next (((s.reserveTag (sledKey p tag) c).reissue p c).runReads)) ∧
    (c.again = true → exec (.commandTimeout p tag) s = .next (((s.reserveTag (sledKey p tag) c).notAnswering p c).runReads))) ∧
  (∀ (s : State) (p : Nat) (c : SledCmd) (t : Word), p < 32 → s.bobbinIdle = false → (s.port p).waiting = [c] → c.heldSince = some t →
    1000000 ≤ (s.tbase - t).toNat → ∃ s1 : State, s1.port p = { s.port p with waiting := [] } ∧ { s1 with ports := s.ports } = s ∧
      exec (.notReadyRetry p) s = .next (s1.issueSled p { c with heldSince := none })) ∧
  (∀ (s : State) (n : Nat) (t : Word), (s.sled n).lostSince = some t → 20000000 ≤ (s.tbase - t).toNat →
    exec (.linkLossDeclare n) s = .next ((s.declareFailed n 1).runReads))

/-- Together: Claims.SledAnswers and Claims.SledTimeLimits (R359, R361, R363, R199, R360, R196, R198, R367). -/
def Obligations.Sleds : Prop := Claims.SledAnswers ∧ Claims.SledTimeLimits

/-- R369, R374, R445: a trained hop is identified; SET_TIME goes round every 60 s; STATUS is read every 10 ms while the sled initializes, which may
take 30 s; ENROL takes the lowest free number and DISENROL frees it, each refused where R374 does not allow it. -/
def Sys2Proof.Claims.SledEnrolment : Prop :=
  ∀ (s : State) (p h : Nat), p < 32 → h < 4 →
    let x := s.hop p h
    (s.bobbinIdle = false → x.stage = .trained →
      exec (.enumerateHop p h) s = .next ((s.setHop p h { x with stage := .identify }).hopSend p h 1 .identify)) ∧
    (s.bobbinIdle = false → s.liveHops = [] → 6000000000 ≤ (s.tbase - s.bobbin.lastSetTime).toNat →
      exec .setTimeTimer s = .next { s with bobbin := { s.bobbin with lastSetTime := s.tbase } }) ∧
    (s.bobbinIdle = false → x.stage = .status → 1000000 ≤ (s.tbase - x.lastPoll).toNat →
      exec (.initStatusPoll p h) s = .next ((s.setHop p h { x with lastPoll := s.tbase }).hopSend p h 3 .status)) ∧
    (∀ t, x.initSince = some t → x.stage = .status → 3000000000 ≤ (s.tbase - t).toNat →
      exec (.sledInitTimeout p h) s = .next ((s.powerOff p h 7).logOpen clsNotice 6 p h)) ∧
    (s.takesCmd (R.BP_HOP_CMD p h) 8 = true →
      (∀ n, s.f (F.BP_HOP_STAT_STATE p h) = 4 → s.holdsClaim = true → x.enrol = none → s.bobbinIdle = false → s.freeNumber = some n →
        exec (.enrol p h) s = .next ((s.setHop p h { x with enrol := some { number := n, step := 2, wear := [], bad := [] } }).sendHop p h
          (.log 1 0 (s.enrolRecord n)) (.config 1))) ∧
      (s.f (F.BP_HOP_STAT_STATE p h) ≠ 4 → exec (.enrol p h) s = .next (s.hopRefuse p h 1)) ∧
      (∀ n, s.sledAt p h = some n → s.slotNames n = true → exec (.disenrol p h) s = .next (s.hopRefuse p h 2)) ∧
      (∀ n, s.sledAt p h = some n → s.slotNames n = false → s.holdsClaim = true → ∃ t : State, exec (.disenrol p h) s = .next t ∧
        t.f (F.BP_HOP_STAT_STATE p h) = 4 ∧ t.f (F.BP_HOP_STAT_NUMBER p h) = 0xFFFF)) ∧
    (∀ n, s.freeNumber = some n → (s.sled n).enrolled = false ∧ s.slotNames n = false ∧ ∀ m, m < n → (s.sled m).enrolled = true ∨
      s.slotNames m = true ∨ s.bobbin.hops.any (fun e => e.2.enrol.any (fun r => r.number == m)) = true)

/-- R376 to R379: the Bay bus is polled every 10 ms; the first queued bay is powered while the stagger admits it; a sled that does not train in
350 ms is powered off, and once more tried 1 s later; PWROFF of a sled that must stay is refused. -/
def Sys2Proof.Claims.BayRules : Prop :=
  (∀ (s : State) (inputs : List (Option Nat)), s.bayRuns = true → 1000000 ≤ (s.tbase - s.bobbin.lastPoll).toNat →
    exec (.bayPoll inputs) s = .next (((List.range 32).foldl (fun (s : State) e => s.pollExpander e (inputs.getD e none))
      { s with bobbin := { s.bobbin with lastPoll := s.tbase } }).settleMissing)) ∧
  (∀ s : State, s.sledPower = true → s.bayQueued 0 0 = true → s.powering < s.f F.BAY_CTL_PWR_CONCURRENT →
    exec (.bayPowerOn 0 0) s = .next (s.powerBay 0 0)) ∧
  (∀ (s : State) (p h : Nat), p < 32 → h < 4 → (s.powerBay p h).flag (F.BP_HOP_STAT_PWR p h) = true ∧
    (s.powerBay p h).f (F.BP_HOP_STAT_STATE p h) = 2 ∧ ((s.powerBay p h).hop p h).poweredAt = some s.tbase) ∧
  (∀ (s : State) (p h : Nat) (t : Word), p < 32 → h < 4 → (s.hop p h).poweredAt = some t → (s.hop p h).stage = .training →
    (s.hop p h).ident = none → 35000000 ≤ (s.tbase - t).toNat →
    ((s.hop p h).retried = true → exec (.sledTrainTimeout p h) s = .next ((s.powerOff p h 7).logOpen clsNotice 6 p h)) ∧
    ((s.hop p h).retried = false → exec (.sledTrainTimeout p h) s = .next ((s.powerOff p h 7).setHop p h
      { (s.powerOff p h 7).hop p h with offSince := some s.tbase }))) ∧
  (∀ (s : State) (p h : Nat) (t : Word), p < 32 → h < 4 → (s.hop p h).offSince = some t → s.sledPower = true → 100000000 ≤ (s.tbase - t).toNat →
    s.flag (F.BP_HOP_STAT_PRESENT p h) = true → s.flag (F.BP_HOP_CTL_PWROFF p h) = false → s.flag (F.BP_CTL_EN p) = true →
    s.powering < s.f F.BAY_CTL_PWR_CONCURRENT →
    exec (.sledPowerRetry p h) s = .next ((s.setHop p h { s.hop p h with retried := true }).powerBay p h)) ∧
  (∀ (s : State) (p h size : Nat) (value : Word), p < 32 → h < 4 → s.takesWrite (R.BP_HOP_CTL p h) size = true →
    s.flag (F.BP_HOP_CTL_PWROFF p h) = false → ∀ s1, s1 = s.storeReg (R.BP_HOP_CTL p h) size value → s1.flag (F.BP_HOP_CTL_PWROFF p h) = true →
    (∀ n, s.sledAt p h = some n → s.doNotRemove n = true → exec (.pwroff p h size value) s =
      .next ((s1.setFlag (F.BP_HOP_CTL_PWROFF p h) false).hopRefuse p h value.toNat)) ∧
    (s.sledAt p h = none → s1.flag (F.BP_HOP_STAT_PRESENT p h) = true →
      exec (.pwroff p h size value) s = .next (s1.powerOff p h 7)))


/-- Together: Claims.SledEnrolment and Claims.BayRules (R369, R374, R445, R376, R379). -/
def Obligations.SledsAndBays : Prop := Claims.SledEnrolment ∧ Claims.BayRules

/-! ## The Pattern Book: block calls -/

/-- R266, R274 to R276, R278: every call begins with its permissions and then its checks in the order of the chapter: a missing permission
faults the thread, the first check that fails ends the call with its status and result 0, and with all passed it goes on, with nothing but
its own progress changed. -/
def Sys2Proof.Claims.BookCallChecks : Prop :=
  ∀ (s : State) (th : Nat), (s.book th).stage = 0 →
    let perm := (s.thr th).perm
    let go := s.setBook th { s.book th with stage := 1 }
    let rd := firstStatus (s.dataStatus :: s.blockChecks th 65536 true)
    let vf := firstStatus (s.dataStatus :: s.blockChecks th 65536 false)
    let wr := firstStatus (s.dataStatus :: s.blockChecks th 65536 (s.book th).origin.isNone ++ [s.writeBarred (s.argArray th)])
    let dc := firstStatus (s.dataStatus :: s.blockChecks th (2 ^ 32 - 1) false)
    (s.bookReady th 0x001 = true →
      (perm &&& 3 ≠ 3 → exec (.read th) s = .next (s.bookFault th)) ∧
      (perm &&& 3 = 3 → rd ≠ 0 → exec (.read th) s = .next (s.bookPost th rd 0)) ∧
      (perm &&& 3 = 3 → rd = 0 → exec (.read th) s = .next go)) ∧
    (s.bookReady th 0x005 = true →
      (perm &&& 2 = 2 → vf ≠ 0 → exec (.verify th) s = .next (s.bookPost th vf 0)) ∧
      (perm &&& 2 = 2 → vf = 0 → exec (.verify th) s = .next go)) ∧
    (s.bookReady th 0x002 = true →
      (perm &&& 3 ≠ 3 → exec (.write th) s = .next (s.bookFault th)) ∧
      (perm &&& 3 = 3 → wr ≠ 0 → exec (.write th) s = .next (s.bookPost th wr 0)) ∧
      (perm &&& 3 = 3 → wr = 0 → exec (.write th) s = .next go)) ∧
    (s.bookReady th 0x004 = true →
      (perm &&& 10 = 10 → dc ≠ 0 → exec (.discard th) s = .next (s.bookPost th dc 0)) ∧
      (perm &&& 10 = 10 → dc = 0 → exec (.discard th) s = .next go)) ∧
    (s.bookReady th 0x003 = true → perm &&& 2 = 2 → s.dataStatus = 0 → s.rangeStatus (s.argArray th) 0 0 = 0 →
      s.spanMembers (s.argArray th) = [] → exec (.flush th) s = .next (s.setThr th { s.thr th with
        covers := s.hoop.nextSeq - 1, book := { (s.thr th).book with stage := 1 } }))

/-- R97, R146, R191, R192, R280, R281: a READ of an unspanned array reads the run's blocks, each from the hoop where it holds it; a WRITE whose
blocks pass their checks commits them together; a FLUSH ends once nothing that it covers is before step 6; a DISCARD ends once its deltas are
durable, and discards a grain by its sequence number, never a pinned one. -/
def Sys2Proof.Claims.BookCallEffects : Prop :=
  ∀ (s : State) (th : Nat),
    let b := s.book th
    let a := s.argArray th
    (∀ n, (s.bookReady th 0x001 = true ∨ s.bookReady th 0x005 = true) → b.stage = 1 → s.spanMembers a = [] → n = min 256 (s.argCount th - b.pos) →
      n ≠ 0 → s.rangeStatus a (s.argBlock th + b.pos) n = 0 →
      (s.bookReady th 0x001 = true → exec (.read th) s = .next ((s.bookRun th n 2).readPiece th (0, n))) ∧
      (s.bookReady th 0x005 = true → exec (.verify th) s = .next ((s.bookRun th n 2).readPiece th (0, n)))) ∧
    (s.bookReady th 0x001 = true → b.stage = 1 → s.argCount th ≤ b.pos → exec (.read th) s = .next (s.readEnd th)) ∧
    (s.bookReady th 0x002 = true → b.stage = 1 → s.argCount th ≤ b.pos → s.argFua th = false → exec (.write th) s = .next (s.writeEnd th)) ∧
    (∀ l infos, s.bookReady th 0x002 = true → b.stage = 2 → b.origin = none → b.outs = [] → b.stop = none → s.spanMembers a = [] →
      (∀ k, k < b.n → s.ingress th k = 0) → (∀ k, k < b.n → s.ownsGrain a ((s.argBlock th + b.pos + k) / s.gblk a) = true) → b.n ≠ 0 →
      infos = (List.range b.n).map (fun k => s.ingressInfo th k) →
      l = (List.range b.n).map (fun k =>
        ({ array := a, block := s.argBlock th + b.pos + k, info := infos.getD k (infoReset 0) } : Staged)) →
      s.commitStatus l = 0 →
      ∀ s3 s4 : State, s3 = (s.setBook th { b with stage := 3, parts := [], outs := [] }).mirrorBlocks l →
        s4 = ((s3.bookAsync th (.commit l s3.pair.mirSeq) none).notePart th (s3.thr th).nextId 0 0).beginBankWait th →
        ∀ o, (s4.thr th).async? (s3.thr th).nextId = some o → exec (.write th) s = .next (s4.tryCommit th o).drive) ∧
    (s.bookReady th 0x003 = true → b.stage = 1 → s.rangeStatus a 0 0 = 0 → s.uncovered th = [] →
      exec (.flush th) s = .next ((s.mergeParts th).bookPost th ((s.mergeParts th).book th).status 0)) ∧
    (s.bookReady th 0x003 = true → b.stage = 1 → s.rangeStatus a 0 0 = 0 → s.uncovered th ≠ [] →
      exec (.flush th) s = .next (s.forceCovered th)) ∧
    (s.bookReady th 0x004 = true → b.stage = 1 → s.arrExists a = true → exec (.discard th) s = .next (s.discardRange th)) ∧
    (s.bookReady th 0x004 = true → b.stage = 2 → s.durableAt b.n = true → exec (.discard th) s = .next ((s.mergeParts th).bookPost th
      ((s.mergeParts th).book th).status (min (2 ^ 32 - 1) ((s.mergeParts th).book th).result))) ∧
    (∀ g, mePinned ((s.mapGet a g).toNat % 2 ^ 48) = true → s.discardGrain a g = s)

/-- Together: Claims.BookCallChecks and Claims.BookCallEffects (R266, R274, R276, R278, R97, R146, R191, R192, R280, R281). -/
def Obligations.PatternBookCalls : Prop := Claims.BookCallChecks ∧ Claims.BookCallEffects

/-! ## The Pattern Book: administration -/

/-- R282 to R284: PIN ends once its changes are durable; SCRUB starts, stops and reports; CONFIG stores the hoop's size for the next reset;
MEMBER_FAIL declares the sled failed with cause 5; LOG_CLEAR empties the lost-stripe log; ARRAY_RESIZE sets GRAINS. R276: a call thread hands
such a call to a device-work thread of its cluster, which then runs, and waits while none is free. -/
def Sys2Proof.Claims.AdminCalls : Prop :=
  ∀ (s : State) (th : Nat),
    let b := s.book th
    let a := s.argArray th
    let x := s.perm16 th
    let op := bits (s.arg th 1) 8 2
    let scrubOk := x = true ∧ s.adminStatus 0x008 = 0 ∧ s.arrExists a = true ∧ s.liveArray a = 0 ∧ b.stage ≠ bookLast
    (s.bookReady th 0x006 = true → b.stage = 2 → s.durableAt b.n = true →
      exec (.pin th) s = .next (s.bookPost th 0 (min (2 ^ 32 - 1) b.result))) ∧
    (s.bookReady th 0x006 = true → b.stage = 1 → s.arrExists a = true → exec (.pin th) s =
      .next (s.pinRange th a (bit (s.arg th 1) 8) b.pos ((s.wholeRange th).2 - b.pos))) ∧
    (∀ (w : Nat) (body : State → State), thDevWork th = false → s.freeThread (thCluster th) true = some w → ∃ u : State,
      s.handOver th body = body u ∧ (u.thr w).running = true ∧ (u.book th).helper = some w ∧ u.arrays = s.arrays ∧ u.bar0 = s.bar0) ∧
    (∀ body : State → State, (thDevWork th = true → s.handOver th body = body s) ∧
      (thDevWork th = false → s.freeThread (thCluster th) true = none → s.handOver th body = s)) ∧
    (s.bookReady th 0x008 = true → scrubOk → op = 0 → (s.arr a).scrubRun = false → (s.arr a).scrubDone = false →
      exec (.scrubStart th) s = .next (s.handOver th (fun s => (s.setArr a { s.arr a with scrubRun := true }).bookPost th 0
        ((s.setArr a { s.arr a with scrubRun := true }).scrubResult a)))) ∧
    (s.bookReady th 0x008 = true → scrubOk → op = 1 →
      exec (.scrubStop th) s = .next (s.handOver th (fun s => (s.setArr a { s.arr a with scrubRun := false }).bookPost th 0
        ((s.setArr a { s.arr a with scrubRun := false }).scrubResult a)))) ∧
    (s.bookReady th 0x008 = true → scrubOk → op = 2 →
      exec (.scrubQuery th) s = .next (s.handOver th (fun s => s.bookPost th 0 (s.scrubResult a)))) ∧
    (∀ v, s.bookReady th 0x010 = true → b.stage ≠ bookLast → x = true → s.adminStatus 0x010 = 0 → v = bits (s.arg th 1) 0 7 → 0 < v → v ≤ 64 →
      s.dramNeed v 0 ≤ s.dramBytes →
      exec (.config th) s =
        .next (s.handOver th (fun s => ({ s with boot := { s.boot with hoopGib := v } } : State).bookPost th 0 v))) ∧
    (∀ n, s.bookReady th 0x014 = true → b.stage ≠ bookLast → x = true → s.adminStatus 0x014 = 0 → n = bits (s.arg th 1) 0 16 →
      (s.sled n).enrolled = true → exec (.memberFail th) s =
        .next (s.handOver th (fun s => (s.declareFailed n 5).bookPost th 0 0))) ∧
    (s.bookReady th 0x015 = true → b.stage ≠ bookLast → x = true → s.adminStatus 0x015 = 0 → exec (.logClear th) s = .next
      (s.handOver th (fun s => ((({ s with lost := { s.lost with stripes := [] } } : State).setFlag F.ARR_LSL_STAT_OVF false).syncLost).bookPost
        th 0 s.lost.stripes.length))) ∧
    (∀ new, s.bookReady th 0x013 = true → b.stage = 1 → s.arrExists a = true → new = bits (s.arg th 2) 0 40 → s.f (F.ARR_GEOM_GRAINS a) ≤ new →
      exec (.arrayResize th) s =
        .next ((((s.setF (F.ARR_GEOM_GRAINS a) new).syncArray a).mirrorRegs s a).bookPost th 0 (new % 2 ^ 32)))

/-- R68, R272, R284 to R288: the pricking calls use the engine, when it is idle, with the ring's argument and end as it ended, and PRK_STAT records
a check that fails; ARRAY_CREATE begins the ARM of its pricking once every check has passed, ARRAY_DELETE ends once the markers are written; PROG_LOAD writes the master entry last, and
PROG_UNLOAD frees the index of a host-loaded program. -/
def Sys2Proof.Claims.EngineAndProgramCalls : Prop :=
  ∀ (s : State) (th : Nat),
    let b := s.book th
    let a := s.argArray th
    let slot := bits (s.arg th 1) 0 5
    (s.bookReady th 0x018 = true → b.stage = 2 → s.imageStatus th ≠ 0 → exec (.prkLoad th) s =
      .next (s.engineFails th (s.imageStatus th) (s.slot slot).state.code)) ∧
    (s.bookReady th 0x018 = true → b.stage = 2 → s.imageStatus th = 0 → exec (.prkLoad th) s =
      .next (s.askEngine th .load slot (s.imageBytes th 512))) ∧
    (∀ code result, b.ended = some (code, result) →
      (s.bookReady th 0x018 = true → b.stage = 9 → exec (.prkLoad th) s = .next (s.bookPost th code result)) ∧
      (s.bookReady th 0x019 = true → b.stage = 9 → exec (.prkBind th) s = .next (s.bookPost th code result)) ∧
      (s.bookReady th 0x01A = true → b.stage = 9 → exec (.prkArm th) s = .next (s.bookPost th code result)) ∧
      (s.bookReady th 0x01B = true → b.stage = 9 → exec (.prkDrop th) s = .next (s.bookPost th code result)) ∧
      (s.bookReady th 0x011 = true → b.stage = 9 → exec (.arrayCreate th) s = .next (s.bookPost th code result))) ∧
    (b.stage = 0 → s.perm16 th = true → s.prk.run = none →
      (s.bookReady th 0x019 = true → s.adminStatus 0x019 = 0 →
        exec (.prkBind th) s = .next (s.handOver th (fun s => s.askEngine th .bind slot []))) ∧
      (s.bookReady th 0x01A = true → s.adminStatus 0x01A = 0 →
        exec (.prkArm th) s = .next (s.handOver th (fun s => s.askEngine th .arm slot []))) ∧
      (s.bookReady th 0x01B = true → s.adminStatus 0x01B = 0 →
        exec (.prkDrop th) s = .next (s.handOver th (fun s => s.askEngine th .drop slot []))) ∧
      (s.bookReady th 0x01A = true → s.adminStatus 0x01A ≠ 0 →
        exec (.prkArm th) s = .next ((s.prkRecord 3 slot (s.adminStatus 0x01A)).bookPost th (s.adminStatus 0x01A) 0))) ∧
    (∀ img, s.bookReady th 0x011 = true → b.stage = 2 → img = s.imageBytes th 512 → s.imageStatus th = 0 → s.adminStatus 0x011 = 0 →
      s.arrExists a = false → s.createCheck th img = 0 → exec (.arrayCreate th) s = .next (s.createBegin th img)) ∧
    (s.bookReady th 0x012 = true → b.stage = 1 → s.arrExists a = true →
      s.prk.markerWaits.filter (fun m => m.1 == 32 + a && (s.sled m.2).usable) = [] → exec (.arrayDelete th) s = .next (s.deleteEnd th a)) ∧
    (∀ bs, s.bookReady th 0x020 = true → b.stage = 1 → bs = s.imageBytes th (bits (s.arg th 2) 0 32) → s.imageStatus th = 0 →
      s.progCheck th bs = 0 → exec (.progLoad th) s = .next (s.progInstall th bs)) ∧
    (s.bookReady th 0x020 = true → b.stage = 3 → ∀ e, e = BitVec.ofNat 64 (s.ptab (s.clusters.headD 0) b.n) → ∃ t : State,
      exec (.progLoad th) s = .next t ∧ t.masterEntry b.n = e.toNat) ∧
    (∀ p, s.bookReady th 0x021 = true → b.stage = 2 → p = bits (s.arg th 1) 0 12 →
      ((bookMask p).isSome = false →
        exec (.progUnload th) s = .next (((s.putCopies p (fun _ => 0)).retireExtents p none).bookPost th 0 0)) ∧
      ((bookMask p).isSome = true →
        exec (.progUnload th) s = .next ((s.putCopies p (fun _ => bookEntry.toNat + 2 ^ 61)).toStage th 3)))

/-- Together: Claims.AdminCalls and Claims.EngineAndProgramCalls (R282, R284, R276, R68, R272, R288). -/
def Obligations.AdministrativeCalls : Prop := Claims.AdminCalls ∧ Claims.EngineAndProgramCalls

/-! ## Prickings -/

/-- R64 to R66, R72: a pricking command begins on an idle engine in a slot state that allows it, else PRK_STAT records why not; while one runs a
further one is refused with a notice. R65: LOAD, BIND and DROP that pass their checks leave the slot LOADED, BOUND and EMPTY; a check that
fails leaves the slot as it was. -/
def Sys2Proof.Claims.PrickingCommands : Prop :=
  (∀ (s : State) (size : Nat) (value : Word) (c : Nat → Word → Instr) (op : PrkOp),
    ((op = .load ∧ c = .prkCmdLoad) ∨ (op = .bind ∧ c = .prkCmdBind) ∨ (op = .arm ∧ c = .prkCmdArm) ∨ (op = .drop ∧ c = .prkCmdDrop)) →
    s.takesCmd R.PRK_CMD size = true →
    (s.prk.run = none → exec (c size value) s = .next (s.prkBegin op (bits value.toNat 8 5) s.stageImage none)) ∧
    (s.prk.run.isSome = true → ∃ t : State, exec (c size value) s = .next t ∧ t.prk = s.prk)) ∧
  (∀ (s : State) (size : Nat) (value : Word), s.takesCmd R.PRK_CMD size = true → s.prk.run = none → s.holdsClaim = true →
    5 ≤ value.toNat % 16 → exec (.prkCmdReserved size value) s =
      .next (s.prkRecord (value.toNat % 16) (bits value.toNat 8 5) 0x0317)) ∧
  (∀ (s : State) (op : PrkOp) (slot : Nat) (image : List Byte) (th : Option Nat),
    (s.prkRefusal op slot ≠ 0 → s.prkBegin op slot image th =
      (s.prkRecord op.code slot (s.prkRefusal op slot)).tellCall th (s.prkRefusal op slot) (s.slot slot).state.code) ∧
    (op.allowed (s.slot slot).state = false → s.holdsClaim = true → s.prkRefusal op slot = 0x0317) ∧
    (op = .arm → s.prkRefusal op slot = 0 → s.bindCheck (s.slot slot).image true ≠ 0 → s.prkBegin op slot image th =
      (s.prkRecord 3 slot (s.bindCheck (s.slot slot).image true)).tellCall th (s.bindCheck (s.slot slot).image true)
        (s.slot slot).state.code)) ∧
  (∀ (s : State) (r : PrkRun), s.prk.run = some r → s.prkRuns = true → r.ready = true → r.done = none → s.durableAt s.pair.mirSeq = true → s.pair.live = false →
    (r.op = .load → pkLoadCheck s.hw.variant.net true r.image = 0 →
      exec .prkCommandComplete s = .next ((s.setSlot r.slot { state := .loaded, image := r.image }).prkEnd r 0)) ∧
    (r.op = .load → pkLoadCheck s.hw.variant.net true r.image ≠ 0 →
      exec .prkCommandComplete s = .next (s.prkEnd r (pkLoadCheck s.hw.variant.net true r.image))) ∧
    (r.op = .bind → s.bindCheck (s.slot r.slot).image false = 0 → exec .prkCommandComplete s =
      .next ((s.setSlot r.slot { state := .bound, image := (s.slot r.slot).image }).prkEnd r 0)) ∧
    (r.op = .drop → exec .prkCommandComplete s = .next ((s.setSlot r.slot (slotReset 0)).prkEnd r 0)))

/-- R65, R76, R61: an ARM commits once every member has taken its copy: the slot is ARMED and the generation mark is the pricking's; a member lost
before ends it with 0x0314 and the slot as it was. R232, R495: the switch-over writes the markers, and the commit of the retirement leaves
the slot EMPTY and the reshape over. -/
def Sys2Proof.Claims.ArmAndRetire : Prop :=
  (∀ (s : State) (r : PrkRun), s.prk.run = some r → s.prkRuns = true → r.op = .arm → r.ready = true → r.done = none → s.holdsClaim = true → r.create = none →
    (r.failed = true → exec .armCommit s = .next (s.prkDone r 0x0314)) ∧
    (r.failed = false → (∀ n ∈ pkMembers r.image, (s.sled n).usable = true) → r.waits = [] →
      exec .armCommit s = .next ((s.armSlot r.slot r.image).drive.prkDone r 0))) ∧
  (∀ (s : State) (slot : Nat) (img : List Byte), slot < 32 → s.slotIn (pkArray img) .armed = none →
    ((s.armSlot slot img).slot slot).state = .armed ∧ ((s.armSlot slot img).slot slot).image = img ∧
      (s.armSlot slot img).genMark (pkArray img) = pkGen img) ∧
  (∀ (s : State) (a r : Nat), s.slotIn a .retiring = some r → s.arrExists a = true → s.genInUse a (pkGen (s.slot r).image) = false →
    s.holdsClaim = true → s.bobbinIdle = false → judgedMode s.mode.cur = true → s.prk.switching.any (fun x => x.1 == r) = false →
    (s.released r).any (fun n => s.copies.contains n) = false → s.copyJoining = false → ∃ t : State,
      exec (.retirementSwitchover a) s = .next t ∧ t.prk.switching = s.prk.switching ++ [(r, s.released r)]) ∧
  (∀ (s : State) (a r : Nat) (sw : Nat × List Nat), s.slotIn a .retiring = some r → r < 32 → s.prk.switching.find? (fun x => x.1 == r) = some sw →
    s.prk.markerWaits.any (fun m => m.1 == r && (s.sled m.2).usable) = false → s.linkOff = false → s.mode.cur ≠ .halted → s.holdsClaim = true →
    ∃ t : State, exec (.retirementCommit a) s = .next t ∧ (t.slot r).state = .empty)

/-- Together: Claims.PrickingCommands and Claims.ArmAndRetire (R64, R66, R72, R65, R76, R61, R232, R495). -/
def Obligations.Prickings : Prop := Claims.PrickingCommands ∧ Claims.ArmAndRetire

/-! ## Relocation -/

/-- R128: an epoch starts at half a buffer of deltas, or 60 s after the last with deltas appended; its commit installs the new directory and
releases the deltas before its start, and an epoch asked for meanwhile follows. R150, R151: a band whose gate holds is ERASING, and once that is
durable its blocks are erased. R210, R230: every 10 ms the shares start at 0 and the rates written take effect. -/
def Sys2Proof.Claims.CheckpointAndErase : Prop :=
  (∀ s : State, s.dlog.epochRun = false → s.bobbinIdle = false → s.destages = true → s.holdsClaim = true →
    (deltaRoom / 2 ≤ s.dlog.next - s.dlog.committed ∨ (s.dlog.appended = true ∧ 6000000000 ≤ (s.tbase - s.dlog.lastEpoch).toNat)) →
    exec .checkpointEpochTimer s = .next (s.startEpoch []) ∧ (s.startEpoch []).dlog.lastEpoch = s.tbase ∧
      (s.startEpoch []).dlog.epochStart = s.dlog.next) ∧
  (∀ s : State, s.dlog.written = true → s.linkOff = false → s.bobbinIdle = false → ∃ u : State,
    exec .checkpointEpochCommit s = .next (if s.dlog.again then u.settleWorks.startEpoch [] else u.settleWorks) ∧
    u.dlog.epochRun = false ∧ u.dlog.committed = s.dlog.epochStart ∧ u.dlog.dir = s.dlog.merged ∧
    u.dlog.deltas = s.dlog.deltas.filter (fun d => decide (s.dlog.epochStart ≤ d.pos))) ∧
  (∀ (s : State) (a b : Nat), s.relocates a = true →
    (s.eraseGate a b = false → (s.band a b).state ≠ .erasing → exec (.bandEraseStart a b) s = .next s) ∧
    (s.eraseGate a b = true → ∃ t : State, exec (.bandEraseStart a b) s = .next t ∧
      ((t.band a b).state = .erasing ∨ (t.band a b).state = .free)) ∧
    ((s.band a b).state = .erasing → s.erasingDurable a b = true → s.erasesOut a b = false →
      exec (.bandEraseStart a b) s = .next (s.issueErases a b))) ∧
  (∀ s : State, s.hw.powered = true → 1000000 ≤ (s.tbase - s.bobbin.lastRate).toNat → ∃ t : State, exec .rateInterval s = .next t ∧
    t.bobbin.lastRate = s.tbase ∧ ((∀ p, p < 32 → (s.port p).waiting = []) →
      (∀ n, (t.sled n).allUsed = 0 ∧ (t.sled n).shareUsed = 0 ∧ (t.sled n).reshapeUsed = 0) ∧
      (∀ a, a < 16 → s.arrExists a = true → (t.arr a).rbRate = (s.reg (R.ARR_RB_CTL a)).toNat ∧
        (t.arr a).rsRate = (s.reg (R.ARR_RS_CTL a)).toNat)))

/-- R139 to R143, R207 to R215, R228 to R231, R283: garbage collection reads the next stripe of its victim, or of the victim of R140 while
ARR_GC.RUN is set; rebuild reads the first stripe of its pass; a lost-unit scan takes its unit off the list; reshape and scrub read their next
stripe, and scrub with nothing left is done. What a relocation has read of a grain that the map names there joins a copy, each good word as it
is (R141); a grain that the map names elsewhere and did not discard here is garbage. -/
def Sys2Proof.Claims.RelocationCommands : Prop :=
  (∀ (s : State) (a c : Nat), s.relocates a = true → s.clusterAvail c = true →
    (s.flag (F.ARR_GC_RUN a) = false → exec (.gcVictimSelect a c () ()) s = .next (((s.padCopies a 1).setVictim a c noVictim).syncSpace a)) ∧
    (s.flag (F.ARR_GC_RUN a) = true → s.gcReading a c = false →
      (s.victimOf a c = noVictim →
        (∀ b, ((s.setVictim a c noVictim).syncSpace a).chooseVictim a c = some b → exec (.gcVictimSelect a c () ()) s =
          .next (((((s.setVictim a c noVictim).syncSpace a).setVictim a c b).nextGc a c b 0).runReads)) ∧
        (((s.setVictim a c noVictim).syncSpace a).chooseVictim a c = none → exec (.gcVictimSelect a c () ()) s =
          .next (((s.setVictim a c noVictim).syncSpace a).padCopies a 1))) ∧
      (∀ v, s.victimOf a c = v → v ≠ noVictim → (s.band a v).reading = false → (s.stripeToMove a v 0).isSome = true →
        exec (.gcVictimSelect a c () ()) s = .next ((s.nextGc a c v 0).runReads)))) ∧
  (∀ (s : State) (a c : Nat),
    ((s.relocates a = false ∨ s.rebuildWhy a ≠ 0) → exec (.rebuildStripe a c () ()) s = .next (s.syncMembers a)) ∧
    (s.relocates a = true → s.rebuildWhy a = 0 → s.clusterAvail c = true →
      s.devReads.any (fun e => e.2.array == a && e.2.goal == .rebuild c) = false →
      (∀ b st, s.passFirst a ((s.passWork a c).filter (fun x => !s.beingRead a x.1 x.2 && !s.scanPending a x.1 x.2)) = some (b, st) →
        exec (.rebuildStripe a c () ()) s =
          .next (((s.beginRead { array := a, band := b, stripe := st, source := 2 }).readStripe (.rebuild c) a b st).runReads)) ∧
      (s.passFirst a ((s.passWork a c).filter (fun x => !s.beingRead a x.1 x.2 && !s.scanPending a x.1 x.2)) = none →
        exec (.rebuildStripe a c () ()) s = .next ((s.padCopies a 2).settleWorks)))) ∧
  (∀ (s : State) (a pga : Nat), s.unitScanned a pga = true → s.scanDue a pga = true → s.linkOff = false →
    s.mode.cur ≠ .halted → ∃ t : State, exec (.lostUnitScan a pga ()) s = .next t ∧
      t.lost.scans = s.lost.scans.filter (fun u => !(u.array == a && u.pga == pga))) ∧
  (∀ (s : State) (a c : Nat), s.relocates a = true → (s.retiring a).isSome = true → s.clusterAvail c = true →
    (s.reshapeWhy a ≠ 0 → exec (.reshapeRelocateBand a c () ()) s = .next (s.syncReshape a)) ∧
    (s.reshapeWhy a = 0 → s.devReads.any (fun e => e.2.array == a && e.2.goal == .reshape c) = false →
      (s.reshapeNext a c = none → exec (.reshapeRelocateBand a c () ()) s =
        .next ((((s.padCopies a 3).closeRetiring a c).settleWorks).syncReshape a)) ∧
      (∀ b, s.reshapeNext a c = some b → exec (.reshapeRelocateBand a c () ()) s =
        .next (((s.nextReshape a c b 0).runReads).syncReshape a)))) ∧
  (∀ (s : State) (a : Nat), s.relocates a = true → (s.arr a).scrubRun = true →
    s.devReads.any (fun e => e.2.array == a && e.2.goal == .scrub) = false →
    (s.scrubNext a = none → exec (.scrubStripe a () () ()) s = .next (s.setArr a { s.arr a with scrubRun := false, scrubDone := true })) ∧
    (∀ b st, s.scrubNext a = some (b, st) → exec (.scrubStripe a () () ()) s =
      .next (((s.setArr a { s.arr a with scrubBand := b, scrubStripe := st + 1 }).readStripe .scrub a b st).runReads))) ∧
  (∀ (s : State) (a source g pga : Nat) (words : List (Option WordRead)),
    (∀ k, k < s.gblk a / 16 → s.unitScanned a (pga + k) = false) →
    let e := (s.mapGet a g).toNat % 2 ^ 48
    let key := (a * 8 + s.gatherCluster g) * 4 + source
    (meValid e = true → mePga e = pga → ∃ x : CopyGrain,
      Tbl.get (fun _ => []) (s.copyGrain a source g pga words).hoop.copyGather key =
        Tbl.get (fun _ => []) s.hoop.copyGather key ++ [x] ∧ x.grain = g ∧ x.src = pga ∧ x.words.length = words.length ∧
      ∀ (i step : Nat) (w : Info), words[i]? = some (some (WordRead.good step w)) → x.words[i]? = some w) ∧
    (mePga e ≠ pga → s.copyGrain a source g pga words = s))

/-- Together: Claims.CheckpointAndErase and Claims.RelocationCommands (R128, R150, R151, R210, R230, R139, R143, R207, R215, R228, R231,
R283, R140, R141). -/
def Obligations.CheckpointsAndRelocation : Prop := Claims.CheckpointAndErase ∧ Claims.RelocationCommands

/-! ## Federation and firmware -/

/-- R405, R407, R409: a HELLO with this DEVID sets DUP and leaves a federation of one; a HELLO of another device enters its sender and its
view. A member begins to elect when FED_SYNC is high or 2 s after it released it; once its view is stable for 10 ms it takes the lowest DEVID
of the view, and EPOCH rises by one. A link that goes down takes the waiting parts of its device with it (R411). The coordinator's mark
latches TBASE, and FED_TOFF holds the difference; a long low level is no mark. -/
def Sys2Proof.Claims.FederationCommands : Prop :=
  (∀ (s : State) (link : Nat) (h : FedHello), s.member = true → bit (s.f F.FED_LINK_UP) link = true → link < 8 →
    s.flag F.FED_STAT_DUP = false →
    (h.dev = s.hw.straps.devid → ∃ t : State, exec (.fedHello link h) s = .next t ∧ t.flag F.FED_STAT_DUP = true ∧
      t.f F.FED_STAT_VIEW = 2 ^ (s.hw.straps.devid % 8) ∧ t.fed.peers = [] ∧ t.fed.electing = false ∧
      (s.mode.cur ≠ .dormant → t.elog.next = s.elog.next + 1)) ∧
    (h.dev ≠ s.hw.straps.devid → ∃ t : State, exec (.fedHello link h) s = .next t ∧ bit (t.f F.FED_STAT_VIEW) (h.dev % 8) = true ∧
      (∀ d, d < 8 → bit h.view d = true → bit (t.f F.FED_STAT_VIEW) d = true) ∧
      (t.f F.FED_STAT_VIEW ≠ s.f F.FED_STAT_VIEW → 0 < s.f F.FED_STAT_EPOCH → t.fed.electing = true ∧ t.fed.stable = s.tbase))) ∧
  (∀ (s : State) (high : Bool) (u : Word), s.fed.released = some u → s.member = true → s.flag F.FED_STAT_DUP = false →
    s.fed.electing = false → s.f F.FED_STAT_EPOCH = 0 → (high = true ∨ 200000000 ≤ (s.tbase - u).toNat) →
    ∃ t : State, exec (.electionStart high) s = .next t ∧ t.fed.electing = true ∧ t.fed.stable = s.tbase ∧ t.f F.FED_STAT_EPOCH = 0) ∧
  (∀ s : State, s.member = true → s.flag F.FED_STAT_DUP = false → s.fed.electing = true → 1000000 ≤ (s.tbase - s.fed.stable).toNat →
    s.f F.FED_STAT_VIEW ≠ 0 → ∃ t : State, exec .electionDecide s = .next t ∧
      bit (s.f F.FED_STAT_VIEW) (t.f F.FED_STAT_COORD) = true ∧ (∀ d, d < t.f F.FED_STAT_COORD → bit (s.f F.FED_STAT_VIEW) d = false) ∧
      t.f F.FED_STAT_EPOCH = (s.f F.FED_STAT_EPOCH + 1) % 2 ^ 32 ∧ t.flag F.FED_STAT_EVT = true ∧ t.fed.electing = false) ∧
  (∀ (s : State) (dev : Nat) (up wide : Bool), s.member = true → dev < 8 → dev ≠ s.hw.straps.devid → s.brideAvail (2 + dev / 4) = true →
    s.mode.cur ≠ .dormant → ∃ t : State, exec (.fedLinkChange dev up wide) s = .next t ∧ bit (t.f F.FED_LINK_UP) dev = up ∧
      (∀ d, d < 8 → d ≠ dev → bit (t.f F.FED_LINK_UP) d = bit (s.f F.FED_LINK_UP) d) ∧
      (bit (s.f F.FED_LINK_UP) dev = true → up = false → ∀ id, t.fedWaiter dev id = none)) ∧
  (∀ s : State, s.member = true → s.flag F.FED_STAT_DUP = false → s.fed.electing = false → s.f F.FED_STAT_EPOCH ≠ 0 → s.f F.FED_STAT_COORD = s.hw.straps.devid →
    100000000 ≤ (s.tbase - s.fed.lastMark).toNat → ∃ t : State, exec .timeMark s = .next t ∧ t.fed.lastMark = s.tbase ∧
      t.out = s.out ++ [.timeMark]) ∧
  (∀ (s : State) (theirs : Word), s.member = true → s.flag F.FED_STAT_DUP = false → ∃ t : State,
    exec (.timeMarkEdge theirs false) s = .next t ∧ t.fed.latch = s.tbase ∧
    t.reg R.FED_TOFF = (if s.f F.FED_STAT_COORD = s.hw.straps.devid then 0 else theirs - s.tbase)) ∧
  (∀ (s : State) (theirs : Word), exec (.timeMarkEdge theirs true) s = .next s)

/-- R408, R410, R411: the answer of another device ends the instruction that waits for it with the status it carries; a question about an array
is answered with its span mask; a report is held for the coordinator; a request waits its turn for a thread. Without a link nothing happens. -/
def Sys2Proof.Claims.SpanningParts : Prop :=
  (∀ (s : State) (dev id status th : Nat) (o : AsyncOp), s.fedUp dev = true →
    s.fedWaiter dev id = some (th, o) → o.xfer = none →
    ∃ t : State, exec (.fedCallPart { dev, id, body := .startDone status }) s = .next t ∧ t.fedWaiter dev id = none ∧
      (t.thr th).async? o.id = some { o with wait := .done, outcome := status }) ∧
  (∀ (s : State) (dev id a : Nat), s.fedUp dev = true → s.arrExists (a % 16) = false →
    exec (.fedCallPart { dev, id, body := .span a }) s =
      .next (s.send (.fed { dev, id, body := .spanIs (s.f (F.FED_SPAN_MASK (a % 16))) none }))) ∧
  (∀ (s : State) (dev id : Nat) (bytes : List Byte), s.fedUp dev = true →
    ∃ t : State, exec (.fedCallPart { dev, id, body := .report bytes }) s = .next t ∧ t.fed.reports.find dev = some (s.tbase, bytes)) ∧
  (∀ (s : State) (dev id a b p : Nat) (words : List Word), s.fedUp dev = true → s.threadsRun = true → s.fed.queue = [] →
    s.clusterAvail (s.bandCluster a b) = true → ptValid (s.ptab (s.bandCluster a b) p) = true →
    s.freeThread (s.bandCluster a b) true = none → ∃ t : State,
      exec (.fedCallPart { dev, id, body := .start a b p words }) s = .next t ∧ t.threads = s.threads) ∧
  (∀ (s : State) (m : FedMsg), s.fedUp m.dev = false → exec (.fedCallPart m) s = .next s)

/-- Together: Claims.FederationCommands and Claims.SpanningParts (R405, R407, R409, R411, R408, R410). -/
def Obligations.Federation : Prop := Claims.FederationCommands ∧ Claims.SpanningParts

/-- R416, R418: WRITE in Maintenance, while no WRITE runs and with an image within the buffer area, takes effect and shows BUSY; otherwise ERR is
set and nothing starts. The completed image goes to the place that is not running, a failed directory CRC sets ERR, and SELECT sets PREF to the
image last written. -/
def Obligations.FirmwareUpdate : Prop :=
  (∀ (s : State) (value : Word), s.takesCmd R.DEV_FW 8 = true → bit value.toNat 4 = false →
    let v := putBits value.toNat 0 2 1
    let ok := s.flag F.DEV_POLICY_FW_WRITE_DIS = false ∧ s.mode.cur = .maintenance ∧ s.flag F.DEV_FW_BUSY = false ∧
      s.fwRange (bits v 24 28) (bits v 5 13) = true
    (ok → ∃ t : State, exec (.fwWrite 8 value) s = .next t ∧ t.flag F.DEV_FW_BUSY = true ∧
      t.boot.fwRun = some (bits v 24 28, bits v 5 13) ∧ t.boot.imageA = s.boot.imageA ∧ t.boot.imageB = s.boot.imageB) ∧
    (¬ ok → ∃ t : State, exec (.fwWrite 8 value) s = .next t ∧ t.flag F.DEV_FW_ERR = true ∧ t.boot = s.boot ∧
      (s.mode.cur ≠ .dormant → t.elog.next = s.elog.next + 1))) ∧
  (∀ (s : State) (value : Word) (b : Bool), s.takesCmd R.DEV_FW 8 = true → bit value.toNat 4 = false → s.boot.written = some b →
    s.flag F.DEV_FW_BUSY = false → ∃ t : State, exec (.fwSelect 8 value) s = .next t ∧ t.flag F.DEV_FW_PREF = b ∧ t.boot.pref = b) ∧
  (∀ (s : State) (addr len : Nat), s.boot.fwRun = some (addr, len) → s.linkOff = false → s.mode.cur ≠ .halted →
    (∃ t : State, exec (.fwWriteComplete false) s = .next t ∧ t.flag F.DEV_FW_ERR = true ∧ t.flag F.DEV_FW_BUSY = false ∧
      t.boot.imageA = s.boot.imageA ∧ t.boot.imageB = s.boot.imageB) ∧
    (∃ t : State, exec (.fwWriteComplete true) s = .next t ∧ t.flag F.DEV_FW_BUSY = false ∧
      t.boot.written = some (!s.flag F.DEV_BOOT_STAT_IMAGE) ∧
      (s.flag F.DEV_BOOT_STAT_IMAGE = true → t.boot.imageA = s.dram.readBytes (addr * 4096) (len * 4096) ∧ t.boot.imageB = s.boot.imageB) ∧
      (s.flag F.DEV_BOOT_STAT_IMAGE = false → t.boot.imageB = s.dram.readBytes (addr * 4096) (len * 4096) ∧ t.boot.imageA = s.boot.imageA)))

/-! ## Trust and management -/

/-- An SPDM request over `tr` can be answered: of a DOE mailbox the endpoint is there, of MCTP there is power. -/
def Sys2Proof.Claims.hears (s : State) (tr : Nat) : Prop :=
  if tr < 2 then s.hostDown = false ∧ (s.ep tr).flrBusy = false ∧ (tr = 1 → s.bifurcated = true) else s.hw.powered = true

/-- A request over `tr` was answered with `a`, and but for the answer and the count of free values nothing changed. -/
def Sys2Proof.Claims.answers (s t : State) (tr : Nat) (a : SpdmAnswer) : Prop :=
  (if tr < 2 then t.doe.find tr = some a ∧ t.out = s.out else t.out = s.out ++ [.spdm a] ∧ t.doe = s.doe) ∧
    ({ t with doe := s.doe, out := s.out, free := s.free } : State) = s

/-- R419: an SPDM 1.2 responder; what each supported request answers, and UnsupportedRequest to any other. A certificate portion ends within the
chain of slot 0, operation 0xFF returns the seven measurement blocks in order, and a signature is the measurement root's. -/
def Sys2Proof.Claims.SpdmAnswers : Prop :=
  ∀ (s : State) (tr : Nat), Claims.hears s tr →
    (∃ t, exec (.getVersion tr) s = .next t ∧ Claims.answers s t tr (.version 0x12)) ∧
    (∃ t, exec (.getCapabilities tr) s = .next t ∧ Claims.answers s t tr (.capabilities true true 2 false false)) ∧
    (∀ a b c d, ∃ t, exec (.negotiateAlgorithms tr a b c d) s = .next t ∧ Claims.answers s t tr (.algorithms a b c d)) ∧
    (∃ t, exec (.getDigests tr) s = .next t ∧ Claims.answers s t tr (.digests [(0, Config.sha384 Config.certificateChain)])) ∧
    (∀ offset length, offset < Config.certificateChain.length → ∃ t p r, exec (.getCertificate tr 0 offset length) s = .next t ∧
      Claims.answers s t tr (.certificate p r) ∧ Config.certificateChain = Config.certificateChain.take offset ++ p ++
        Config.certificateChain.drop (offset + p.length) ∧ r + p.length + offset = Config.certificateChain.length) ∧
    (∀ slot offset length, slot ≠ 0 → ∃ t code, exec (.getCertificate tr slot offset length) s = .next t ∧
      Claims.answers s t tr (.error code)) ∧
    (∀ nonce, ∃ t, exec (.challenge tr 0 0 nonce) s = .next t ∧ Claims.answers s t tr
      (.challengeAuth (Config.sha384 Config.certificateChain) none
        (Config.signature (nonce ++ digestBytes (Config.sha384 Config.certificateChain) ++ digestBytes 0)))) ∧
    (∀ nonce sig, ∃ t g, exec (.getMeasurements tr 0 sig nonce) s = .next t ∧ Claims.answers s t tr (.measurements 7 [] g) ∧
      g.isSome = sig) ∧
    (∀ nonce sig, ∃ t l g, exec (.getMeasurements tr 0xFF sig nonce) s = .next t ∧ Claims.answers s t tr (.measurements 7 l g) ∧
      l.length = 7 ∧ ∀ n, n < 7 → l[n]? = some (n + 1, [0, 1, 1, 1, 2, 3, 1].getD n 0, Tbl.get measReset s.boot.slots n)) ∧
    (∀ nonce sig n, 1 ≤ n → n ≤ 7 → ∃ t d g, exec (.getMeasurements tr n sig nonce) s = .next t ∧
      Claims.answers s t tr (.measurements 1 [(n, d, Tbl.get measReset s.boot.slots (n - 1))] g)) ∧
    (∃ t code, exec (.respondIfReady tr) s = .next t ∧ Claims.answers s t tr (.error code)) ∧
    (∃ t, exec (.spdmUnsupportedRequest tr) s = .next t ∧ Claims.answers s t tr .unsupportedRequest) ∧
    (tr < 2 → ∃ t, exec (.doeAbort tr) s = .next t ∧ t.doe.find tr = none ∧ ∀ k, k ≠ tr → t.doe.find k = s.doe.find k)

/-- An MCTP control command over a binding can be answered. -/
def Sys2Proof.Claims.mctpHears (s : State) (b : Nat) : Prop :=
  s.hw.powered = true ∧ b < 4 ∧ (2 ≤ b → s.hostDown = false) ∧ (b = 3 → s.bifurcated = true)

/-- R420: each supported MCTP control command is answered once, and every other with an error completion. The endpoint ID that is set is the one
that is then read; the types are 0x00, 0x05 and 0x7E. The completion codes and the versions are those of MCTP 1.3 (log entry 45). -/
def Sys2Proof.Claims.MctpControl : Prop :=
  ∀ (s : State) (b : Nat), Claims.mctpHears s b →
    (∀ op eid, op < 2 → 0 < eid → eid < 255 → ∃ t bs, exec (.setEndpointId b op eid) s = .next t ∧
      t.out = s.out ++ [.mctp b 1 0 bs] ∧ ∃ u rest, exec (.getEndpointId b) t = .next u ∧
        u.out = t.out ++ [.mctp b 2 0 (leBytes 1 eid ++ rest)] ∧ u.eids = t.eids) ∧
    (∀ op eid, op < 2 → (eid = 0 ∨ eid = 255) → exec (.setEndpointId b op eid) s = .next (s.send (.mctp b 1 2 []))) ∧
    (∃ t, exec (.getEndpointUuid b) s = .next t ∧ t.out = s.out ++ [.mctp b 3 0 (leBytes 16 Config.endpointUuid.toNat)] ∧
      t.eids = s.eids) ∧
    (∃ t, exec (.getMctpVersionSupport b 0xFF) s = .next t ∧ t.out = s.out ++ [.mctp b 4 0 [1, 0xF1, 0xF3, 0xFF, 0x00]]) ∧
    (∃ t, exec (.getMessageTypeSupport b) s = .next t ∧ t.out = s.out ++ [.mctp b 5 0 [3, 0x00, 0x05, 0x7E]]) ∧
    (∃ t bs, exec (.getVendorDefinedMessageSupport b 0) s = .next t ∧ t.out = s.out ++ [.mctp b 6 0 (0xFF :: 0 :: bs)]) ∧
    (∀ cmd, ∃ t, exec (.mctpUnsupportedCommand b cmd) s = .next t ∧ t.out = s.out ++ [.mctp b cmd 5 []] ∧ t.eids = s.eids)

/-- Together: Claims.SpdmAnswers and Claims.MctpControl (R419, R420). -/
def Obligations.TrustAnswers : Prop := Claims.SpdmAnswers ∧ Claims.MctpControl

/-! ## Health and the fatal dump -/

/-- R443, R445 to R450: a second after the last report a new one is formed, 320 bytes and 128 for each enrolled sled, and it is the readable one
unless FREEZE holds the old; clearing FREEZE shows the newest. A corrected error is logged at most once per unit in 60 s and counted else.
HLTH_GET gives what stands at the offset or says that it lies beyond. -/
def Obligations.HealthCommands : Prop :=
  (∀ s : State, s.reports = true → s.hw.powered = true → 100000000 ≤ (s.tbase - s.health.formedAt).toNat →
    ∃ t : State, exec .healthReportForm s = .next t ∧ t.health.seq = s.health.seq + 1 ∧ t.health.formedAt = s.tbase ∧
      t.health.newest.length = 320 + 128 * s.enrolledSleds.length ∧ t.health.newest.take 5 = [0x48, 0x4C, 0x54, 0x48, 0x01] ∧
      t.health.readable = (if s.flag F.HLTH_CTL_FREEZE then s.health.readable else t.health.newest)) ∧
  (∀ s : State, s.hw.powered = true → s.mode.cur = .active → 6000000000 ≤ (s.tbase - s.health.savedAt).toNat →
    ∃ t : State, exec .healthRecordSave s = .next t ∧ t.health.savedAt = s.tbase ∧ t.health.savedCe = s.health.dramCe ∧
      t.health.savedUe = s.health.dramUe ∧ t.health.savedSleds = s.health.sleds) ∧
  (∀ (s : State) (value : Word), s.takesWrite R.HLTH_CTL 8 = true → ∃ t : State, exec (.hlthFreeze 8 value) s = .next t ∧
    t.flag F.HLTH_CTL_FREEZE = bit value.toNat 0 ∧ t.health.newest = s.health.newest ∧
    t.health.readable = (if bit value.toNat 0 then s.health.readable else s.health.newest)) ∧
  (∀ (s : State) (src unit addr : Nat), s.hw.powered = true → src < 16 → unit < 65536 →
    let u := Tbl.get (fun _ => ({ count := 0, lastLog := none } : CorrUnit)) s.corrected (src * 65536 + unit)
    (∀ x, u.lastLog = some x → (s.tbase - x).toNat < 6000000000 → ∃ t : State,
      exec (.correctedErrorLog src unit addr none) s = .next t ∧ t.elog = s.elog ∧
      Tbl.get (fun _ => ({ count := 0, lastLog := none } : CorrUnit)) t.corrected (src * 65536 + unit) =
        { count := u.count + 1, lastLog := some x }) ∧
    (s.mode.cur ≠ .dormant → (u.lastLog = none ∨ ∃ x, u.lastLog = some x ∧ 6000000000 ≤ (s.tbase - x).toNat) → ∃ t : State,
      exec (.correctedErrorLog src unit addr none) s = .next t ∧ t.elog.next = s.elog.next + 1 ∧
      Tbl.get noRec t.elog.slots (s.elog.next % 4096) = some
        { tbase := s.tbase, cls := 1, src, unit, code := s.freshVal.toNat % 65536, addr, detail := BitVec.ofNat 256 (u.count + 1), seq := s.elog.next + 1 })) ∧
  (∀ (s : State) (offset : Nat), s.hw.powered = true →
    (s.health.newest.length ≤ offset → ∃ t : State, exec (.hlthGet 0 offset) s = .next t ∧
      t.out = s.out ++ [.management 0x21 ([1, 0, 0, 0] ++ leBytes 4 s.health.newest.length)]) ∧
    (offset < s.health.newest.length → ∃ t : State, exec (.hlthGet 0 offset) s = .next t ∧ t.out = s.out ++
      [.management 0x21 ([0, 0, 0, 0] ++ leBytes 4 s.health.newest.length ++ (s.health.newest.drop offset).take 1024)])) ∧
  (∀ (s : State) (offset : Nat), s.hw.powered = true → s.coordinates = false → ∃ t : State, exec (.hlthGet 1 offset) s = .next t ∧
    t.out = s.out ++ [.management 0x21 [3, 0, 0, 0, 0, 0, 0, 0]]) ∧
  (∀ (s : State) (src len offset : Nat), s.hw.powered = true → src ≤ 2 → 1 ≤ len → len ≤ 1024 → ∃ t : State,
    exec (.dumpGet src len offset) s = .next t ∧ (s.dumpOf src = none →
      t.out = s.out ++ [.management 0x23 ([1, 0, 0, 0, 0, 0, 0, 0] ++ leBytes 8 offset)]))

/-- R451, R452, R442: each fatal condition outside Halted enters Halted with its CAUSE, KIND, UNIT and DETAIL, forms a CLASS 4 record and begins a
dump with the next DSEQ; a later one is logged and changes neither the cause nor the mode. -/
def Sys2Proof.Claims.FatalConditions : Prop :=
  (∀ (s : State) (c : Instr) (kind unit detail : Nat), s.hw.powered = true → s.mode.cur ≠ .dormant →
    ((c = .uncorrectableStructureError unit ∧ unit < 13 ∧ kind = 2 ∧ detail = 0) ∨
      (c = .firmwareInconsistency unit detail ∧ unit < 4 ∧ kind = 8) ∨ (c = .watchdogExpiry unit [] ∧ unit < 4 ∧ kind = 7 ∧ detail = 0)) →
    (s.mode.cur ≠ .halted → s.mode.cur ≠ .flush → ∃ t : State, exec c s = .next t ∧ t.mode.cur = .halted ∧ t.mode.cause = 7 ∧
      t.mode.prev = s.mode.cur ∧ t.f F.DEV_HALT_CAUSE_KIND = kind ∧ t.f F.DEV_HALT_CAUSE_UNIT = unit ∧
      t.f F.DEV_HALT_DETAIL_DETAIL = detail % 2 ^ 32 ∧ t.f F.HLTH_DMP_STAT_STATE = 1 ∧ t.dump.dseq = s.dump.dseq + 1 ∧
      t.dump.tdetect = s.tbase) ∧
    (s.mode.cur = .halted → s.capturing = false → ∃ t : State, exec c s = .next t ∧ t.mode = s.mode ∧
      t.reg R.DEV_HALT_CAUSE = s.reg R.DEV_HALT_CAUSE ∧ t.elog.next = s.elog.next + 1)) ∧
  (∀ (s : State) (core : Nat) (body : List Nat), s.capturing = true → ∃ t : State, exec (.watchdogExpiry core body) s = .next t ∧
    t.f F.HLTH_DMP_STAT_STATE = 2 ∧ t.flag F.HLTH_DMP_STAT_PARTIAL = true)

/-- R452 to R454: the dump's way. The snapshot holds every register of a present island with its value; the dump that is complete stands in DRAM
behind a header with MAGIC, FMT, PARTIAL clear and its DSEQ; after 1 s it is written with PARTIAL; once the vault image has ended it goes to
slot DSEQ mod 2 of the vault. -/
def Sys2Proof.Claims.DumpSequence : Prop :=
  (∀ s : State, s.capturing = true → s.dump.snapshot = none → ∃ (t : State) (l : List (Nat × Word)),
    exec .registerSnapshotCaptured s = .next t ∧ t.dump.snapshot = some l ∧ (∀ e ∈ l, e.2 = s.readReg e.1) ∧
    (R.DEV_MODE, s.readReg R.DEV_MODE) ∈ l ∧ t.bar0 = s.bar0 ∧ t.dram = s.dram) ∧
  (∀ s : State, s.capturing = true → s.dump.snapshot.isSome = true → ∃ (t : State) (d : Dump), exec .dumpInDramComplete s = .next t ∧
    t.f F.HLTH_DMP_STAT_STATE = 2 ∧ t.flag F.HLTH_DMP_STAT_PARTIAL = false ∧ t.dump.inDram = some d ∧ d.dseq = s.dump.dseq ∧
    d.mem.readBytes 0 6 = [0x44, 0x55, 0x4D, 0x50, 0x01, 0x00] ∧ d.mem.readBytes 8 8 = leBytes 8 s.dump.dseq) ∧
  (∀ (s : State) (body : List Nat), s.capturing = true → 100000000 ≤ (s.tbase - s.dump.tdetect).toNat → ∃ t : State,
    exec (.dumpCaptureTimeout body) s = .next t ∧ t.f F.HLTH_DMP_STAT_STATE = 2 ∧ t.flag F.HLTH_DMP_STAT_PARTIAL = true) ∧
  (∀ s : State, s.mode.cur = .halted → s.dump.imageRunning = true → s.power.flush = none → s.hw.powered = true →
    s.power.resetWaits = false → ∃ t : State, exec .haltVaultImageCommit s = .next t ∧ t.dump.imageEnded = true ∧
      t.dump.imageRunning = false ∧ (s.imageDue = true → t.power.image = some s.imageNow) ∧ (s.imageDue = false → t.power = s.power)) ∧
  (∀ (s : State) (d : Dump), s.dump.inDram = some d → s.mode.cur = .halted → s.dump.imageEnded = true → s.f F.HLTH_DMP_STAT_STATE = 2 →
    s.power.flush = none → s.hw.powered = true → ∃ t : State, exec .dumpVaultWriteComplete s = .next t ∧
      t.f F.HLTH_DMP_STAT_STATE = 3 ∧ t.dumpSlot d.dseq = some d ∧ t.flag F.HLTH_DMP_VADDR_VALID = true ∧
      t.dumpSlot (d.dseq + 1) = s.dumpSlot (d.dseq + 1))


/-- Together: Claims.FatalConditions and Claims.DumpSequence (R451, R452, R442, R454). -/
def Obligations.FatalErrorsAndDumps : Prop := Claims.FatalConditions ∧ Claims.DumpSequence

/-! ## Shared rules -/

/-- One bit of a CRC with polynomial 0x1EDC6F41, most significant bit first. -/
def Sys2Proof.Claims.crcBit (c : BitVec 32) (b : Bool) : BitVec 32 :=
  (c <<< 1) ^^^ (if c.msb != b then 0x1EDC6F41 else 0)

/-- The CRC that R59's parameters describe, read bit by bit: input and output reflected, initial value and final exclusive-or all ones. -/
def Sys2Proof.Claims.crcOf (l : List Byte) : BitVec 32 :=
  ((l.flatMap (fun b => (List.range 8).map b.getLsbD)).foldl Claims.crcBit (BitVec.allOnes 32)).reverse ^^^ BitVec.allOnes 32

/-- R59: the model's CRC is the CRC-32C of these parameters, for every message, and that of "123456789" is 0xE306_9283. -/
def Obligations.CrcParameters : Prop :=
  (∀ l : List Byte, crc32c l = (Claims.crcOf l).toNat) ∧
    crc32c [0x31, 0x32, 0x33, 0x34, 0x35, 0x36, 0x37, 0x38, 0x39] = 0xE3069283

/-- R473: with every unit of the variant available, DEV_CAP0 and DEV_CAP1 read as the table gives them; R460: DEV_ID. -/
def Obligations.IdentityRegisters : Prop :=
  ∀ s : State, s.hostDown = false → s.f F.DEV_CAP1_BP_AVAIL = 2 ^ s.hw.variant.ports - 1 →
    s.f F.DEV_CAP1_CL_AVAIL = 2 ^ s.hw.variant.clusters - 1 → s.f F.DEV_CAP1_BR_AVAIL = 2 ^ s.hw.variant.brides - 1 →
    (s.hw.variant = .sto9600 → s.readReg R.DEV_CAP0 = 0x0000001007482006 ∧ s.readReg R.DEV_CAP1 = 0x00000FFFFFFFFFFF ∧
      s.readReg R.DEV_ID = 0x19600) ∧
    (s.hw.variant = .sto9400 → s.readReg R.DEV_CAP0 = 0x0000000805241004 ∧ s.readReg R.DEV_CAP1 = 0x0000030F0000FFFF ∧
      s.readReg R.DEV_ID = 0x19400) ∧
    (s.hw.variant = .sto9200 → s.readReg R.DEV_CAP0 = 0x0000000400020802 ∧ s.readReg R.DEV_CAP1 = 0x00000003000000FF ∧
      s.readReg R.DEV_ID = 0x19200)

/-- R8: the available clusters in ascending index order, and the owner of a band: the cluster at position (band modulo their number). It
depends on CL_AVAIL alone. -/
def Obligations.BandOwnership : Prop :=
  (∀ s : State, s.clusters.Pairwise (· < ·) ∧ ∀ c, c ∈ s.clusters ↔ s.clusterAvail c = true) ∧
  (∀ (s : State) (b : Nat), s.clusters ≠ [] → s.clusters[b % s.clusters.length]? = some (s.bandOwner b)) ∧
  (∀ (s t : State) (b : Nat), s.f F.DEV_CAP1_CL_AVAIL = t.f F.DEV_CAP1_CL_AVAIL → s.bandOwner b = t.bandOwner b)

/-- R442, R443: outside Dormant (R472; log entry 97) a record goes to the next slot in turn with the next SEQ, no other slot changes, and ELOG_STAT follows. A record of CLASS 2 to 5
leaves EVT set, and raises the error-log event only where EVT was 0. A record is 64 bytes and ends in the CRC of the others. -/
def Obligations.ErrorLogRecords : Prop :=
  (∀ (s : State) (cls src unit code addr : Nat) (detail : BitVec 256), s.mode.cur ≠ .dormant →
    let t := s.logRec cls src unit code addr detail
    t.elog.next = s.elog.next + 1 ∧ t.f F.ELOG_STAT_COUNT = min 4096 (s.elog.next + 1) ∧
      t.f F.ELOG_STAT_NEWSEQ = (s.elog.next + 1) % 2 ^ 32 ∧
      Tbl.get noRec t.elog.slots (s.elog.next % 4096) =
        some { tbase := s.tbase, cls, src, unit, code, addr, detail, seq := s.elog.next + 1 } ∧
      (∀ k, k ≠ s.elog.next % 4096 → Tbl.get noRec t.elog.slots k = Tbl.get noRec s.elog.slots k) ∧
      (2 ≤ cls → t.flag F.ELOG_STAT_EVT = true) ∧
      (2 ≤ cls → s.flag F.ELOG_STAT_EVT = false → bit (t.reg R.DEV_EVT).toNat 1 = true) ∧
      (cls < 2 ∨ s.flag F.ELOG_STAT_EVT = true → t.out = s.out ∧ t.reg R.DEV_EVT = s.reg R.DEV_EVT ∧
        t.flag F.ELOG_STAT_EVT = s.flag F.ELOG_STAT_EVT)) ∧
  (∀ r : LogRec, r.bytes.length = 64 ∧ r.bytes.drop 60 = leBytes 4 (crc32c (r.bytes.take 60)))

/-! ## What every step keeps -/

/-- Every command answers a next state, in every state (log entry 1): the spec stops none. -/
def Obligations.EveryCommandAnswers : Prop := ∀ (c : Instr) (s : State), ∃ t : State, exec c s = .next t

/-- The memories and the register file keep their canonical form at every step, so that equal contents are equal data. -/
def Obligations.MemoryCanonical : Prop := ∀ s t : State, s.wf → step s = .next t → t.wf

/-- After reset they are in canonical form. -/
def Obligations.ResetCanonical : Prop := State.reset.wf

/-- R2, R4, R28, R381: no step changes the variant, the fitted DRAM or the serial number; a step takes the front command and no other off the
queue; TBASE counts at a tick, stays at a command, and starts anew only where power is applied after the always-on supply was lost. -/
def Obligations.FixedPartAndTimebase : Prop :=
  ∀ s t : State, step s = .next t →
    t.hw.variant = s.hw.variant ∧ t.hw.dramGib = s.hw.dramGib ∧ t.hw.serial = s.hw.serial ∧ t.pending = s.pending.tail ∧
    ((s.pending = [] ∧ t.tbase = s.tbase + 1) ∨ (s.pending ≠ [] ∧ t.tbase = s.tbase) ∨
      ((∃ pins held, s.pending.head? = some (.powerOn pins true held)) ∧ t.tbase = 0))

/-- R41: Halted is left only by conventional reset, whatever command runs; a power failure in Halted runs the flush sequence while CUR stays 6; a
function level reset changes neither the mode nor the flush. -/
def Obligations.HaltedIsLeftOnlyByReset : Prop :=
  (∀ s t : State, s.mode.cur = .halted → step s = .next t → t.mode.cur = .halted ∨
    ∃ (u : State) (cause : Nat) (pins : Straps), t = u.convReset cause pins) ∧
  (∀ (s : State) (src : Nat), s.mode.cur = .halted → s.hw.powered = true → s.power.flush = none → ∃ (t : State) (f : FlushRun),
    exec (.powerFailDetection src) s = .next t ∧ t.mode.cur = .halted ∧ t.power.flush = some f ∧ f.start = s.tbase ∧ f.ended = false) ∧
  (∀ (s : State) (ep : Nat), (∃ t : State, exec (.functionLevelReset ep) s = .next t ∧ t.mode.cur = s.mode.cur ∧ t.mode.busy = s.mode.busy ∧
      t.mode.tgt = s.mode.tgt ∧ t.power.flush = s.power.flush) ∧
    ∃ t : State, exec (.flrComplete ep) s = .next t ∧ t.mode = s.mode ∧ t.power.flush = s.power.flush)
end

