-- ==== Sys2Proof/Laws/Tables.lean ====
section
/-! SUPPORT. Tables and memories: what a read gives after a write, and that every operation keeps the canonical form. -/

namespace Sys2Proof.Machine

/-! ## Reads after writes -/

/-- Reading after a key is removed. -/
theorem Tbl.get_erase {α : Type} (d : Nat → α) (t : Tbl α) (k j : Nat) :
    Tbl.get d (t.erase k) j = if j = k then d k else Tbl.get d t j := by
  induction t with
  | nil => simp only [Tbl.erase, List.filter_nil, Tbl.get]; split <;> simp_all
  | cons e t ih =>
    simp only [Tbl.erase, List.filter] at ih ⊢
    by_cases h : e.1 = k
    · simp only [h, bne_self_eq_false, ih, Tbl.get]
      split
      · rfl
      · rw [if_neg]; omega
    · have hb : (e.1 != k) = true := by simp [h]
      simp only [hb, Tbl.get]
      split
      · rw [if_neg]; omega
      · exact ih

/-- Reading after an insertion at an unlisted key. -/
theorem Tbl.get_put {α : Type} (d : Nat → α) (t : Tbl α) (k j : Nat) (v : α) (hn : ∀ e ∈ t, e.1 ≠ k) :
    Tbl.get d (Tbl.put k v t) j = if j = k then v else Tbl.get d t j := by
  induction t with
  | nil => simp only [Tbl.put, Tbl.get]; split <;> (split <;> first | rfl | omega)
  | cons e t ih =>
    have h0 := hn e (by simp)
    have ih := ih (fun e he => hn e (by simp [he]))
    simp only [Tbl.put]
    by_cases hj : j = k
    · subst hj
      rw [if_pos rfl] at ih ⊢
      split
      · simp [Tbl.get]
      · simp only [Tbl.get, if_neg h0]; exact ih
    · rw [if_neg hj] at ih ⊢
      have hk : ¬ k = j := fun h => hj h.symm
      split
      · simp only [Tbl.get, if_neg hk]
      · simp only [Tbl.get]; rw [ih]

/-- Reading after an entry is written: the value written at its key, the old value everywhere else. -/
theorem Tbl.get_set {α : Type} [DecidableEq α] (d : Nat → α) (t : Tbl α) (k j : Nat) (v : α) :
    Tbl.get d (Tbl.set d t k v) j = if j = k then v else Tbl.get d t j := by
  unfold Tbl.set
  split
  · rw [Tbl.get_erase]; split <;> simp_all
  · rw [Tbl.get_put, Tbl.get_erase]
    · split <;> simp_all
    · intro e he
      simp only [Tbl.erase, List.mem_filter, bne_iff_ne] at he
      exact he.2

/-- A byte written is the byte read back; every other byte reads as before. -/
theorem Mem.read_write (m : Mem) (a b : Nat) (v : Byte) : (m.write a v).read b = if b = a then v else m.read b :=
  Tbl.get_set zeroByte m a b v

/-- Bytes below or above those written read as before. -/
theorem Mem.read_writeBytes_out (bs : List Byte) (m : Mem) (a b : Nat) (h : b < a ∨ a + bs.length ≤ b) :
    (m.writeBytes a bs).read b = m.read b := by
  induction bs generalizing m a with
  | nil => rfl
  | cons x bs ih =>
    simp only [List.length_cons] at h
    rw [Mem.writeBytes, ih _ _ (by omega), Mem.read_write, if_neg (by omega)]

/-- A byte written as one of several reads back. -/
theorem Mem.read_writeBytes_in (bs : List Byte) (m : Mem) (a k : Nat) (h : k < bs.length) :
    (m.writeBytes a bs).read (a + k) = bs[k] := by
  induction bs generalizing m a k with
  | nil => simp at h
  | cons x bs ih =>
    cases k with
    | zero => simp [Mem.writeBytes, Mem.read_writeBytes_out, Mem.read_write]
    | succ k =>
      have := ih (m.write a x) (a + 1) k (by simpa using h)
      simp only [Mem.writeBytes, List.getElem_cons_succ]
      rw [← this]; congr 1; omega

/-! ## The canonical form -/

/-- Removing a key keeps the canonical form. -/
theorem Tbl.wf_erase {α : Type} {d : Nat → α} {t : Tbl α} (h : Tbl.Wf d t) (k : Nat) : Tbl.Wf d (t.erase k) :=
  ⟨h.1.filter _, fun e he => h.2 e ((List.mem_filter.mp he).1)⟩

/-- Any selection of entries keeps the canonical form. -/
theorem Tbl.wf_filter {α : Type} {d : Nat → α} {t : Tbl α} (h : Tbl.Wf d t) (p : Nat × α → Bool) : Tbl.Wf d (t.filter p) :=
  ⟨h.1.filter _, fun e he => h.2 e ((List.mem_filter.mp he).1)⟩

/-- Keys of an insertion. -/
theorem Tbl.mem_put {α : Type} {k : Nat} {v : α} {t : Tbl α} {e : Nat × α} : e ∈ Tbl.put k v t ↔ e = (k, v) ∨ e ∈ t := by
  induction t with
  | nil => simp [Tbl.put]
  | cons x t ih =>
    simp only [Tbl.put]
    split
    · simp
    · simp only [List.mem_cons, ih]
      constructor
      · rintro (h | h | h) <;> simp [h]
      · rintro (h | h | h) <;> simp [h]

/-- Inserting an entry that is not the default at an unlisted key keeps the canonical form. -/
theorem Tbl.wf_put {α : Type} {d : Nat → α} {t : Tbl α} (h : Tbl.Wf d t) {k : Nat} {v : α} (hv : v ≠ d k)
    (hn : ∀ e ∈ t, e.1 ≠ k) : Tbl.Wf d (Tbl.put k v t) := by
  refine ⟨?_, ?_⟩
  · have hp := h.1
    clear h
    induction t with
    | nil => simp [Tbl.put]
    | cons x t ih =>
      rw [List.pairwise_cons] at hp
      have h0 := hn x (by simp)
      simp only [Tbl.put]
      split
      · rename_i hk
        rw [List.pairwise_cons]
        refine ⟨?_, List.pairwise_cons.mpr hp⟩
        intro e he
        rcases List.mem_cons.mp he with rfl | he
        · exact hk
        · exact Nat.lt_trans hk (hp.1 e he)
      · rw [List.pairwise_cons]
        refine ⟨?_, ih (fun e he => hn e (by simp [he])) hp.2⟩
        intro e he
        rcases Tbl.mem_put.mp he with rfl | he
        · show x.1 < k
          omega
        · exact hp.1 e he
  · intro e he
    rcases Tbl.mem_put.mp he with rfl | he
    · exact hv
    · exact h.2 e he

/-- Writing an entry keeps the canonical form. -/
theorem Tbl.wf_set {α : Type} [DecidableEq α] {d : Nat → α} {t : Tbl α} (h : Tbl.Wf d t) (k : Nat) (v : α) :
    Tbl.Wf d (Tbl.set d t k v) := by
  unfold Tbl.set
  split
  · exact Tbl.wf_erase h k
  · refine Tbl.wf_put (Tbl.wf_erase h k) (by assumption) ?_
    intro e he
    simp only [Tbl.erase, List.mem_filter, bne_iff_ne] at he
    exact he.2

/-- The empty table is canonical. -/
theorem Tbl.wf_nil {α : Type} (d : Nat → α) : Tbl.Wf d ([] : Tbl α) := ⟨List.Pairwise.nil, by simp⟩

/-- Writing a byte keeps the canonical form. -/
theorem Mem.wf_write {m : Mem} (h : m.wf) (a : Nat) (b : Byte) : (m.write a b).wf := Tbl.wf_set h a b

/-- Writing bytes keeps the canonical form. -/
theorem Mem.wf_writeBytes (bs : List Byte) {m : Mem} (h : m.wf) (a : Nat) : (m.writeBytes a bs).wf := by
  induction bs generalizing m a with
  | nil => exact h
  | cons x bs ih => exact ih (Mem.wf_write h a x) (a + 1)

/-- Writing a word keeps the canonical form. -/
theorem Mem.wf_writeWord {m : Mem} (h : m.wf) (a : Nat) (w : Word) : (m.writeWord a w).wf := Mem.wf_writeBytes _ h a

/-! ## Numbers and bytes -/

/-- Bits of a number with a field replaced. -/
theorem testBit_putBits (v lo w x k : Nat) :
    (putBits v lo w x).testBit k = if lo ≤ k ∧ k < lo + w then x.testBit (k - lo) else v.testBit k := by
  unfold putBits
  rw [Nat.add_assoc, Nat.pow_add, Nat.mul_assoc, ← Nat.mul_add, Nat.add_comm,
    Nat.testBit_two_pow_mul_add _ (Nat.mod_lt _ (Nat.two_pow_pos _))]
  by_cases h1 : k < lo
  · rw [if_pos h1, if_neg (by omega), Nat.testBit_mod_two_pow]; simp [h1]
  · rw [if_neg h1, Nat.add_comm, Nat.testBit_two_pow_mul_add _ (Nat.mod_lt _ (Nat.two_pow_pos _))]
    by_cases h2 : k - lo < w
    · rw [if_pos h2, if_pos (by omega), Nat.testBit_mod_two_pow]; simp [h2]
    · rw [if_neg h2, if_neg (by omega), ← Nat.pow_add, Nat.testBit_div_two_pow]; congr 1; omega

/-- The number of bytes asked for. -/
@[simp] theorem length_leBytes (n v : Nat) : (leBytes n v).length = n := by
  induction n generalizing v with
  | zero => rfl
  | succ n ih => simp [leBytes, ih]

/-- The number of bytes read. -/
@[simp] theorem length_readBytes (m : Mem) (a n : Nat) : (m.readBytes a n).length = n := by
  induction n generalizing a with
  | zero => rfl
  | succ n ih => simp [Mem.readBytes, ih]

end Sys2Proof.Machine
end

