-- ==== Sys2Proof/Laws/State.lean ====
section
/-! SUPPORT. What each plain update of the state leaves: one lemma per field per update, true by definition, and what a register, a field
and a table entry read after it. -/

namespace Sys2Proof.Machine

/-! ## State.setReg -/

@[simp] theorem setReg_hw (s : State) (off : Nat) (w : Word) : (s.setReg off w).hw = s.hw := rfl
@[simp] theorem setReg_tbase (s : State) (off : Nat) (w : Word) : (s.setReg off w).tbase = s.tbase := rfl
@[simp] theorem setReg_mode (s : State) (off : Nat) (w : Word) : (s.setReg off w).mode = s.mode := rfl
@[simp] theorem setReg_elog (s : State) (off : Nat) (w : Word) : (s.setReg off w).elog = s.elog := rfl
@[simp] theorem setReg_aon (s : State) (off : Nat) (w : Word) : (s.setReg off w).aon = s.aon := rfl
@[simp] theorem setReg_corrected (s : State) (off : Nat) (w : Word) : (s.setReg off w).corrected = s.corrected := rfl
@[simp] theorem setReg_health (s : State) (off : Nat) (w : Word) : (s.setReg off w).health = s.health := rfl
@[simp] theorem setReg_dump (s : State) (off : Nat) (w : Word) : (s.setReg off w).dump = s.dump := rfl
@[simp] theorem setReg_ep0 (s : State) (off : Nat) (w : Word) : (s.setReg off w).ep0 = s.ep0 := rfl
@[simp] theorem setReg_ep1 (s : State) (off : Nat) (w : Word) : (s.setReg off w).ep1 = s.ep1 := rfl
@[simp] theorem setReg_subRings (s : State) (off : Nat) (w : Word) : (s.setReg off w).subRings = s.subRings := rfl
@[simp] theorem setReg_cplRings (s : State) (off : Nat) (w : Word) : (s.setReg off w).cplRings = s.cplRings := rfl
@[simp] theorem setReg_pair (s : State) (off : Nat) (w : Word) : (s.setReg off w).pair = s.pair := rfl
@[simp] theorem setReg_threads (s : State) (off : Nat) (w : Word) : (s.setReg off w).threads = s.threads := rfl
@[simp] theorem setReg_skeins (s : State) (off : Nat) (w : Word) : (s.setReg off w).skeins = s.skeins := rfl
@[simp] theorem setReg_skeinUsed (s : State) (off : Nat) (w : Word) : (s.setReg off w).skeinUsed = s.skeinUsed := rfl
@[simp] theorem setReg_pmem (s : State) (off : Nat) (w : Word) : (s.setReg off w).pmem = s.pmem := rfl
@[simp] theorem setReg_master (s : State) (off : Nat) (w : Word) : (s.setReg off w).master = s.master := rfl
@[simp] theorem setReg_extents (s : State) (off : Nat) (w : Word) : (s.setReg off w).extents = s.extents := rfl
@[simp] theorem setReg_maskCleared (s : State) (off : Nat) (w : Word) : (s.setReg off w).maskCleared = s.maskCleared := rfl
@[simp] theorem setReg_faults (s : State) (off : Nat) (w : Word) : (s.setReg off w).faults = s.faults := rfl
@[simp] theorem setReg_workFaults (s : State) (off : Nat) (w : Word) : (s.setReg off w).workFaults = s.workFaults := rfl
@[simp] theorem setReg_prk (s : State) (off : Nat) (w : Word) : (s.setReg off w).prk = s.prk := rfl
@[simp] theorem setReg_arrays (s : State) (off : Nat) (w : Word) : (s.setReg off w).arrays = s.arrays := rfl
@[simp] theorem setReg_bands (s : State) (off : Nat) (w : Word) : (s.setReg off w).bands = s.bands := rfl
@[simp] theorem setReg_ewords (s : State) (off : Nat) (w : Word) : (s.setReg off w).ewords = s.ewords := rfl
@[simp] theorem setReg_sleds (s : State) (off : Nat) (w : Word) : (s.setReg off w).sleds = s.sleds := rfl
@[simp] theorem setReg_hoop (s : State) (off : Nat) (w : Word) : (s.setReg off w).hoop = s.hoop := rfl
@[simp] theorem setReg_lost (s : State) (off : Nat) (w : Word) : (s.setReg off w).lost = s.lost := rfl
@[simp] theorem setReg_map (s : State) (off : Nat) (w : Word) : (s.setReg off w).map = s.map := rfl
@[simp] theorem setReg_dlog (s : State) (off : Nat) (w : Word) : (s.setReg off w).dlog = s.dlog := rfl
@[simp] theorem setReg_mc (s : State) (off : Nat) (w : Word) : (s.setReg off w).mc = s.mc := rfl
@[simp] theorem setReg_dram (s : State) (off : Nat) (w : Word) : (s.setReg off w).dram = s.dram := rfl
@[simp] theorem setReg_poison (s : State) (off : Nat) (w : Word) : (s.setReg off w).poison = s.poison := rfl
@[simp] theorem setReg_hostTags (s : State) (off : Nat) (w : Word) : (s.setReg off w).hostTags = s.hostTags := rfl
@[simp] theorem setReg_ats (s : State) (off : Nat) (w : Word) : (s.setReg off w).ats = s.ats := rfl
@[simp] theorem setReg_invals (s : State) (off : Nat) (w : Word) : (s.setReg off w).invals = s.invals := rfl
@[simp] theorem setReg_vault (s : State) (off : Nat) (w : Word) : (s.setReg off w).vault = s.vault := rfl
@[simp] theorem setReg_sht (s : State) (off : Nat) (w : Word) : (s.setReg off w).sht = s.sht := rfl
@[simp] theorem setReg_sledCmds (s : State) (off : Nat) (w : Word) : (s.setReg off w).sledCmds = s.sledCmds := rfl
@[simp] theorem setReg_ports (s : State) (off : Nat) (w : Word) : (s.setReg off w).ports = s.ports := rfl
@[simp] theorem setReg_readJobs (s : State) (off : Nat) (w : Word) : (s.setReg off w).readJobs = s.readJobs := rfl
@[simp] theorem setReg_devReads (s : State) (off : Nat) (w : Word) : (s.setReg off w).devReads = s.devReads := rfl
@[simp] theorem setReg_bobbin (s : State) (off : Nat) (w : Word) : (s.setReg off w).bobbin = s.bobbin := rfl
@[simp] theorem setReg_recorder (s : State) (off : Nat) (w : Word) : (s.setReg off w).recorder = s.recorder := rfl
@[simp] theorem setReg_power (s : State) (off : Nat) (w : Word) : (s.setReg off w).power = s.power := rfl
@[simp] theorem setReg_thermal (s : State) (off : Nat) (w : Word) : (s.setReg off w).thermal = s.thermal := rfl
@[simp] theorem setReg_boot (s : State) (off : Nat) (w : Word) : (s.setReg off w).boot = s.boot := rfl
@[simp] theorem setReg_fed (s : State) (off : Nat) (w : Word) : (s.setReg off w).fed = s.fed := rfl
@[simp] theorem setReg_doe (s : State) (off : Nat) (w : Word) : (s.setReg off w).doe = s.doe := rfl
@[simp] theorem setReg_eids (s : State) (off : Nat) (w : Word) : (s.setReg off w).eids = s.eids := rfl
@[simp] theorem setReg_tbaseLatch (s : State) (off : Nat) (w : Word) : (s.setReg off w).tbaseLatch = s.tbaseLatch := rfl
@[simp] theorem setReg_fetchLast (s : State) (off : Nat) (w : Word) : (s.setReg off w).fetchLast = s.fetchLast := rfl
@[simp] theorem setReg_out (s : State) (off : Nat) (w : Word) : (s.setReg off w).out = s.out := rfl
@[simp] theorem setReg_free (s : State) (off : Nat) (w : Word) : (s.setReg off w).free = s.free := rfl
@[simp] theorem setReg_pending (s : State) (off : Nat) (w : Word) : (s.setReg off w).pending = s.pending := rfl
@[simp] theorem setReg_thr (s : State) (off : Nat) (w : Word) (k : Nat) : (s.setReg off w).thr k = s.thr k := rfl
@[simp] theorem setReg_sub (s : State) (off : Nat) (w : Word) (k : Nat) : (s.setReg off w).sub k = s.sub k := rfl
@[simp] theorem setReg_cpl (s : State) (off : Nat) (w : Word) (k : Nat) : (s.setReg off w).cpl k = s.cpl k := rfl
@[simp] theorem setReg_linkOff (s : State) (off : Nat) (w : Word) : (s.setReg off w).linkOff = s.linkOff := rfl

/-! ## State.setF -/

@[simp] theorem setF_hw (s : State) (x : Field) (v : Nat) : (s.setF x v).hw = s.hw := rfl
@[simp] theorem setF_tbase (s : State) (x : Field) (v : Nat) : (s.setF x v).tbase = s.tbase := rfl
@[simp] theorem setF_mode (s : State) (x : Field) (v : Nat) : (s.setF x v).mode = s.mode := rfl
@[simp] theorem setF_elog (s : State) (x : Field) (v : Nat) : (s.setF x v).elog = s.elog := rfl
@[simp] theorem setF_aon (s : State) (x : Field) (v : Nat) : (s.setF x v).aon = s.aon := rfl
@[simp] theorem setF_corrected (s : State) (x : Field) (v : Nat) : (s.setF x v).corrected = s.corrected := rfl
@[simp] theorem setF_health (s : State) (x : Field) (v : Nat) : (s.setF x v).health = s.health := rfl
@[simp] theorem setF_dump (s : State) (x : Field) (v : Nat) : (s.setF x v).dump = s.dump := rfl
@[simp] theorem setF_ep0 (s : State) (x : Field) (v : Nat) : (s.setF x v).ep0 = s.ep0 := rfl
@[simp] theorem setF_ep1 (s : State) (x : Field) (v : Nat) : (s.setF x v).ep1 = s.ep1 := rfl
@[simp] theorem setF_subRings (s : State) (x : Field) (v : Nat) : (s.setF x v).subRings = s.subRings := rfl
@[simp] theorem setF_cplRings (s : State) (x : Field) (v : Nat) : (s.setF x v).cplRings = s.cplRings := rfl
@[simp] theorem setF_pair (s : State) (x : Field) (v : Nat) : (s.setF x v).pair = s.pair := rfl
@[simp] theorem setF_threads (s : State) (x : Field) (v : Nat) : (s.setF x v).threads = s.threads := rfl
@[simp] theorem setF_skeins (s : State) (x : Field) (v : Nat) : (s.setF x v).skeins = s.skeins := rfl
@[simp] theorem setF_skeinUsed (s : State) (x : Field) (v : Nat) : (s.setF x v).skeinUsed = s.skeinUsed := rfl
@[simp] theorem setF_pmem (s : State) (x : Field) (v : Nat) : (s.setF x v).pmem = s.pmem := rfl
@[simp] theorem setF_master (s : State) (x : Field) (v : Nat) : (s.setF x v).master = s.master := rfl
@[simp] theorem setF_extents (s : State) (x : Field) (v : Nat) : (s.setF x v).extents = s.extents := rfl
@[simp] theorem setF_maskCleared (s : State) (x : Field) (v : Nat) : (s.setF x v).maskCleared = s.maskCleared := rfl
@[simp] theorem setF_faults (s : State) (x : Field) (v : Nat) : (s.setF x v).faults = s.faults := rfl
@[simp] theorem setF_workFaults (s : State) (x : Field) (v : Nat) : (s.setF x v).workFaults = s.workFaults := rfl
@[simp] theorem setF_prk (s : State) (x : Field) (v : Nat) : (s.setF x v).prk = s.prk := rfl
@[simp] theorem setF_arrays (s : State) (x : Field) (v : Nat) : (s.setF x v).arrays = s.arrays := rfl
@[simp] theorem setF_bands (s : State) (x : Field) (v : Nat) : (s.setF x v).bands = s.bands := rfl
@[simp] theorem setF_ewords (s : State) (x : Field) (v : Nat) : (s.setF x v).ewords = s.ewords := rfl
@[simp] theorem setF_sleds (s : State) (x : Field) (v : Nat) : (s.setF x v).sleds = s.sleds := rfl
@[simp] theorem setF_hoop (s : State) (x : Field) (v : Nat) : (s.setF x v).hoop = s.hoop := rfl
@[simp] theorem setF_lost (s : State) (x : Field) (v : Nat) : (s.setF x v).lost = s.lost := rfl
@[simp] theorem setF_map (s : State) (x : Field) (v : Nat) : (s.setF x v).map = s.map := rfl
@[simp] theorem setF_dlog (s : State) (x : Field) (v : Nat) : (s.setF x v).dlog = s.dlog := rfl
@[simp] theorem setF_mc (s : State) (x : Field) (v : Nat) : (s.setF x v).mc = s.mc := rfl
@[simp] theorem setF_dram (s : State) (x : Field) (v : Nat) : (s.setF x v).dram = s.dram := rfl
@[simp] theorem setF_poison (s : State) (x : Field) (v : Nat) : (s.setF x v).poison = s.poison := rfl
@[simp] theorem setF_hostTags (s : State) (x : Field) (v : Nat) : (s.setF x v).hostTags = s.hostTags := rfl
@[simp] theorem setF_ats (s : State) (x : Field) (v : Nat) : (s.setF x v).ats = s.ats := rfl
@[simp] theorem setF_invals (s : State) (x : Field) (v : Nat) : (s.setF x v).invals = s.invals := rfl
@[simp] theorem setF_vault (s : State) (x : Field) (v : Nat) : (s.setF x v).vault = s.vault := rfl
@[simp] theorem setF_sht (s : State) (x : Field) (v : Nat) : (s.setF x v).sht = s.sht := rfl
@[simp] theorem setF_sledCmds (s : State) (x : Field) (v : Nat) : (s.setF x v).sledCmds = s.sledCmds := rfl
@[simp] theorem setF_ports (s : State) (x : Field) (v : Nat) : (s.setF x v).ports = s.ports := rfl
@[simp] theorem setF_readJobs (s : State) (x : Field) (v : Nat) : (s.setF x v).readJobs = s.readJobs := rfl
@[simp] theorem setF_devReads (s : State) (x : Field) (v : Nat) : (s.setF x v).devReads = s.devReads := rfl
@[simp] theorem setF_bobbin (s : State) (x : Field) (v : Nat) : (s.setF x v).bobbin = s.bobbin := rfl
@[simp] theorem setF_recorder (s : State) (x : Field) (v : Nat) : (s.setF x v).recorder = s.recorder := rfl
@[simp] theorem setF_power (s : State) (x : Field) (v : Nat) : (s.setF x v).power = s.power := rfl
@[simp] theorem setF_thermal (s : State) (x : Field) (v : Nat) : (s.setF x v).thermal = s.thermal := rfl
@[simp] theorem setF_boot (s : State) (x : Field) (v : Nat) : (s.setF x v).boot = s.boot := rfl
@[simp] theorem setF_fed (s : State) (x : Field) (v : Nat) : (s.setF x v).fed = s.fed := rfl
@[simp] theorem setF_doe (s : State) (x : Field) (v : Nat) : (s.setF x v).doe = s.doe := rfl
@[simp] theorem setF_eids (s : State) (x : Field) (v : Nat) : (s.setF x v).eids = s.eids := rfl
@[simp] theorem setF_tbaseLatch (s : State) (x : Field) (v : Nat) : (s.setF x v).tbaseLatch = s.tbaseLatch := rfl
@[simp] theorem setF_fetchLast (s : State) (x : Field) (v : Nat) : (s.setF x v).fetchLast = s.fetchLast := rfl
@[simp] theorem setF_out (s : State) (x : Field) (v : Nat) : (s.setF x v).out = s.out := rfl
@[simp] theorem setF_free (s : State) (x : Field) (v : Nat) : (s.setF x v).free = s.free := rfl
@[simp] theorem setF_pending (s : State) (x : Field) (v : Nat) : (s.setF x v).pending = s.pending := rfl
@[simp] theorem setF_thr (s : State) (x : Field) (v : Nat) (k : Nat) : (s.setF x v).thr k = s.thr k := rfl
@[simp] theorem setF_sub (s : State) (x : Field) (v : Nat) (k : Nat) : (s.setF x v).sub k = s.sub k := rfl
@[simp] theorem setF_cpl (s : State) (x : Field) (v : Nat) (k : Nat) : (s.setF x v).cpl k = s.cpl k := rfl
@[simp] theorem setF_linkOff (s : State) (x : Field) (v : Nat) : (s.setF x v).linkOff = s.linkOff := rfl

/-! ## State.setFlag -/

@[simp] theorem setFlag_hw (s : State) (x : Field) (b : Bool) : (s.setFlag x b).hw = s.hw := rfl
@[simp] theorem setFlag_tbase (s : State) (x : Field) (b : Bool) : (s.setFlag x b).tbase = s.tbase := rfl
@[simp] theorem setFlag_mode (s : State) (x : Field) (b : Bool) : (s.setFlag x b).mode = s.mode := rfl
@[simp] theorem setFlag_elog (s : State) (x : Field) (b : Bool) : (s.setFlag x b).elog = s.elog := rfl
@[simp] theorem setFlag_aon (s : State) (x : Field) (b : Bool) : (s.setFlag x b).aon = s.aon := rfl
@[simp] theorem setFlag_corrected (s : State) (x : Field) (b : Bool) : (s.setFlag x b).corrected = s.corrected := rfl
@[simp] theorem setFlag_health (s : State) (x : Field) (b : Bool) : (s.setFlag x b).health = s.health := rfl
@[simp] theorem setFlag_dump (s : State) (x : Field) (b : Bool) : (s.setFlag x b).dump = s.dump := rfl
@[simp] theorem setFlag_ep0 (s : State) (x : Field) (b : Bool) : (s.setFlag x b).ep0 = s.ep0 := rfl
@[simp] theorem setFlag_ep1 (s : State) (x : Field) (b : Bool) : (s.setFlag x b).ep1 = s.ep1 := rfl
@[simp] theorem setFlag_subRings (s : State) (x : Field) (b : Bool) : (s.setFlag x b).subRings = s.subRings := rfl
@[simp] theorem setFlag_cplRings (s : State) (x : Field) (b : Bool) : (s.setFlag x b).cplRings = s.cplRings := rfl
@[simp] theorem setFlag_pair (s : State) (x : Field) (b : Bool) : (s.setFlag x b).pair = s.pair := rfl
@[simp] theorem setFlag_threads (s : State) (x : Field) (b : Bool) : (s.setFlag x b).threads = s.threads := rfl
@[simp] theorem setFlag_skeins (s : State) (x : Field) (b : Bool) : (s.setFlag x b).skeins = s.skeins := rfl
@[simp] theorem setFlag_skeinUsed (s : State) (x : Field) (b : Bool) : (s.setFlag x b).skeinUsed = s.skeinUsed := rfl
@[simp] theorem setFlag_pmem (s : State) (x : Field) (b : Bool) : (s.setFlag x b).pmem = s.pmem := rfl
@[simp] theorem setFlag_master (s : State) (x : Field) (b : Bool) : (s.setFlag x b).master = s.master := rfl
@[simp] theorem setFlag_extents (s : State) (x : Field) (b : Bool) : (s.setFlag x b).extents = s.extents := rfl
@[simp] theorem setFlag_maskCleared (s : State) (x : Field) (b : Bool) : (s.setFlag x b).maskCleared = s.maskCleared := rfl
@[simp] theorem setFlag_faults (s : State) (x : Field) (b : Bool) : (s.setFlag x b).faults = s.faults := rfl
@[simp] theorem setFlag_workFaults (s : State) (x : Field) (b : Bool) : (s.setFlag x b).workFaults = s.workFaults := rfl
@[simp] theorem setFlag_prk (s : State) (x : Field) (b : Bool) : (s.setFlag x b).prk = s.prk := rfl
@[simp] theorem setFlag_arrays (s : State) (x : Field) (b : Bool) : (s.setFlag x b).arrays = s.arrays := rfl
@[simp] theorem setFlag_bands (s : State) (x : Field) (b : Bool) : (s.setFlag x b).bands = s.bands := rfl
@[simp] theorem setFlag_ewords (s : State) (x : Field) (b : Bool) : (s.setFlag x b).ewords = s.ewords := rfl
@[simp] theorem setFlag_sleds (s : State) (x : Field) (b : Bool) : (s.setFlag x b).sleds = s.sleds := rfl
@[simp] theorem setFlag_hoop (s : State) (x : Field) (b : Bool) : (s.setFlag x b).hoop = s.hoop := rfl
@[simp] theorem setFlag_lost (s : State) (x : Field) (b : Bool) : (s.setFlag x b).lost = s.lost := rfl
@[simp] theorem setFlag_map (s : State) (x : Field) (b : Bool) : (s.setFlag x b).map = s.map := rfl
@[simp] theorem setFlag_dlog (s : State) (x : Field) (b : Bool) : (s.setFlag x b).dlog = s.dlog := rfl
@[simp] theorem setFlag_mc (s : State) (x : Field) (b : Bool) : (s.setFlag x b).mc = s.mc := rfl
@[simp] theorem setFlag_dram (s : State) (x : Field) (b : Bool) : (s.setFlag x b).dram = s.dram := rfl
@[simp] theorem setFlag_poison (s : State) (x : Field) (b : Bool) : (s.setFlag x b).poison = s.poison := rfl
@[simp] theorem setFlag_hostTags (s : State) (x : Field) (b : Bool) : (s.setFlag x b).hostTags = s.hostTags := rfl
@[simp] theorem setFlag_ats (s : State) (x : Field) (b : Bool) : (s.setFlag x b).ats = s.ats := rfl
@[simp] theorem setFlag_invals (s : State) (x : Field) (b : Bool) : (s.setFlag x b).invals = s.invals := rfl
@[simp] theorem setFlag_vault (s : State) (x : Field) (b : Bool) : (s.setFlag x b).vault = s.vault := rfl
@[simp] theorem setFlag_sht (s : State) (x : Field) (b : Bool) : (s.setFlag x b).sht = s.sht := rfl
@[simp] theorem setFlag_sledCmds (s : State) (x : Field) (b : Bool) : (s.setFlag x b).sledCmds = s.sledCmds := rfl
@[simp] theorem setFlag_ports (s : State) (x : Field) (b : Bool) : (s.setFlag x b).ports = s.ports := rfl
@[simp] theorem setFlag_readJobs (s : State) (x : Field) (b : Bool) : (s.setFlag x b).readJobs = s.readJobs := rfl
@[simp] theorem setFlag_devReads (s : State) (x : Field) (b : Bool) : (s.setFlag x b).devReads = s.devReads := rfl
@[simp] theorem setFlag_bobbin (s : State) (x : Field) (b : Bool) : (s.setFlag x b).bobbin = s.bobbin := rfl
@[simp] theorem setFlag_recorder (s : State) (x : Field) (b : Bool) : (s.setFlag x b).recorder = s.recorder := rfl
@[simp] theorem setFlag_power (s : State) (x : Field) (b : Bool) : (s.setFlag x b).power = s.power := rfl
@[simp] theorem setFlag_thermal (s : State) (x : Field) (b : Bool) : (s.setFlag x b).thermal = s.thermal := rfl
@[simp] theorem setFlag_boot (s : State) (x : Field) (b : Bool) : (s.setFlag x b).boot = s.boot := rfl
@[simp] theorem setFlag_fed (s : State) (x : Field) (b : Bool) : (s.setFlag x b).fed = s.fed := rfl
@[simp] theorem setFlag_doe (s : State) (x : Field) (b : Bool) : (s.setFlag x b).doe = s.doe := rfl
@[simp] theorem setFlag_eids (s : State) (x : Field) (b : Bool) : (s.setFlag x b).eids = s.eids := rfl
@[simp] theorem setFlag_tbaseLatch (s : State) (x : Field) (b : Bool) : (s.setFlag x b).tbaseLatch = s.tbaseLatch := rfl
@[simp] theorem setFlag_fetchLast (s : State) (x : Field) (b : Bool) : (s.setFlag x b).fetchLast = s.fetchLast := rfl
@[simp] theorem setFlag_out (s : State) (x : Field) (b : Bool) : (s.setFlag x b).out = s.out := rfl
@[simp] theorem setFlag_free (s : State) (x : Field) (b : Bool) : (s.setFlag x b).free = s.free := rfl
@[simp] theorem setFlag_pending (s : State) (x : Field) (b : Bool) : (s.setFlag x b).pending = s.pending := rfl
@[simp] theorem setFlag_thr (s : State) (x : Field) (b : Bool) (k : Nat) : (s.setFlag x b).thr k = s.thr k := rfl
@[simp] theorem setFlag_sub (s : State) (x : Field) (b : Bool) (k : Nat) : (s.setFlag x b).sub k = s.sub k := rfl
@[simp] theorem setFlag_cpl (s : State) (x : Field) (b : Bool) (k : Nat) : (s.setFlag x b).cpl k = s.cpl k := rfl
@[simp] theorem setFlag_linkOff (s : State) (x : Field) (b : Bool) : (s.setFlag x b).linkOff = s.linkOff := rfl

/-! ## State.incF -/

@[simp] theorem incF_hw (s : State) (x : Field) (n : Nat) : (s.incF x n).hw = s.hw := rfl
@[simp] theorem incF_tbase (s : State) (x : Field) (n : Nat) : (s.incF x n).tbase = s.tbase := rfl
@[simp] theorem incF_mode (s : State) (x : Field) (n : Nat) : (s.incF x n).mode = s.mode := rfl
@[simp] theorem incF_elog (s : State) (x : Field) (n : Nat) : (s.incF x n).elog = s.elog := rfl
@[simp] theorem incF_aon (s : State) (x : Field) (n : Nat) : (s.incF x n).aon = s.aon := rfl
@[simp] theorem incF_corrected (s : State) (x : Field) (n : Nat) : (s.incF x n).corrected = s.corrected := rfl
@[simp] theorem incF_health (s : State) (x : Field) (n : Nat) : (s.incF x n).health = s.health := rfl
@[simp] theorem incF_dump (s : State) (x : Field) (n : Nat) : (s.incF x n).dump = s.dump := rfl
@[simp] theorem incF_ep0 (s : State) (x : Field) (n : Nat) : (s.incF x n).ep0 = s.ep0 := rfl
@[simp] theorem incF_ep1 (s : State) (x : Field) (n : Nat) : (s.incF x n).ep1 = s.ep1 := rfl
@[simp] theorem incF_subRings (s : State) (x : Field) (n : Nat) : (s.incF x n).subRings = s.subRings := rfl
@[simp] theorem incF_cplRings (s : State) (x : Field) (n : Nat) : (s.incF x n).cplRings = s.cplRings := rfl
@[simp] theorem incF_pair (s : State) (x : Field) (n : Nat) : (s.incF x n).pair = s.pair := rfl
@[simp] theorem incF_threads (s : State) (x : Field) (n : Nat) : (s.incF x n).threads = s.threads := rfl
@[simp] theorem incF_skeins (s : State) (x : Field) (n : Nat) : (s.incF x n).skeins = s.skeins := rfl
@[simp] theorem incF_skeinUsed (s : State) (x : Field) (n : Nat) : (s.incF x n).skeinUsed = s.skeinUsed := rfl
@[simp] theorem incF_pmem (s : State) (x : Field) (n : Nat) : (s.incF x n).pmem = s.pmem := rfl
@[simp] theorem incF_master (s : State) (x : Field) (n : Nat) : (s.incF x n).master = s.master := rfl
@[simp] theorem incF_extents (s : State) (x : Field) (n : Nat) : (s.incF x n).extents = s.extents := rfl
@[simp] theorem incF_maskCleared (s : State) (x : Field) (n : Nat) : (s.incF x n).maskCleared = s.maskCleared := rfl
@[simp] theorem incF_faults (s : State) (x : Field) (n : Nat) : (s.incF x n).faults = s.faults := rfl
@[simp] theorem incF_workFaults (s : State) (x : Field) (n : Nat) : (s.incF x n).workFaults = s.workFaults := rfl
@[simp] theorem incF_prk (s : State) (x : Field) (n : Nat) : (s.incF x n).prk = s.prk := rfl
@[simp] theorem incF_arrays (s : State) (x : Field) (n : Nat) : (s.incF x n).arrays = s.arrays := rfl
@[simp] theorem incF_bands (s : State) (x : Field) (n : Nat) : (s.incF x n).bands = s.bands := rfl
@[simp] theorem incF_ewords (s : State) (x : Field) (n : Nat) : (s.incF x n).ewords = s.ewords := rfl
@[simp] theorem incF_sleds (s : State) (x : Field) (n : Nat) : (s.incF x n).sleds = s.sleds := rfl
@[simp] theorem incF_hoop (s : State) (x : Field) (n : Nat) : (s.incF x n).hoop = s.hoop := rfl
@[simp] theorem incF_lost (s : State) (x : Field) (n : Nat) : (s.incF x n).lost = s.lost := rfl
@[simp] theorem incF_map (s : State) (x : Field) (n : Nat) : (s.incF x n).map = s.map := rfl
@[simp] theorem incF_dlog (s : State) (x : Field) (n : Nat) : (s.incF x n).dlog = s.dlog := rfl
@[simp] theorem incF_mc (s : State) (x : Field) (n : Nat) : (s.incF x n).mc = s.mc := rfl
@[simp] theorem incF_dram (s : State) (x : Field) (n : Nat) : (s.incF x n).dram = s.dram := rfl
@[simp] theorem incF_poison (s : State) (x : Field) (n : Nat) : (s.incF x n).poison = s.poison := rfl
@[simp] theorem incF_hostTags (s : State) (x : Field) (n : Nat) : (s.incF x n).hostTags = s.hostTags := rfl
@[simp] theorem incF_ats (s : State) (x : Field) (n : Nat) : (s.incF x n).ats = s.ats := rfl
@[simp] theorem incF_invals (s : State) (x : Field) (n : Nat) : (s.incF x n).invals = s.invals := rfl
@[simp] theorem incF_vault (s : State) (x : Field) (n : Nat) : (s.incF x n).vault = s.vault := rfl
@[simp] theorem incF_sht (s : State) (x : Field) (n : Nat) : (s.incF x n).sht = s.sht := rfl
@[simp] theorem incF_sledCmds (s : State) (x : Field) (n : Nat) : (s.incF x n).sledCmds = s.sledCmds := rfl
@[simp] theorem incF_ports (s : State) (x : Field) (n : Nat) : (s.incF x n).ports = s.ports := rfl
@[simp] theorem incF_readJobs (s : State) (x : Field) (n : Nat) : (s.incF x n).readJobs = s.readJobs := rfl
@[simp] theorem incF_devReads (s : State) (x : Field) (n : Nat) : (s.incF x n).devReads = s.devReads := rfl
@[simp] theorem incF_bobbin (s : State) (x : Field) (n : Nat) : (s.incF x n).bobbin = s.bobbin := rfl
@[simp] theorem incF_recorder (s : State) (x : Field) (n : Nat) : (s.incF x n).recorder = s.recorder := rfl
@[simp] theorem incF_power (s : State) (x : Field) (n : Nat) : (s.incF x n).power = s.power := rfl
@[simp] theorem incF_thermal (s : State) (x : Field) (n : Nat) : (s.incF x n).thermal = s.thermal := rfl
@[simp] theorem incF_boot (s : State) (x : Field) (n : Nat) : (s.incF x n).boot = s.boot := rfl
@[simp] theorem incF_fed (s : State) (x : Field) (n : Nat) : (s.incF x n).fed = s.fed := rfl
@[simp] theorem incF_doe (s : State) (x : Field) (n : Nat) : (s.incF x n).doe = s.doe := rfl
@[simp] theorem incF_eids (s : State) (x : Field) (n : Nat) : (s.incF x n).eids = s.eids := rfl
@[simp] theorem incF_tbaseLatch (s : State) (x : Field) (n : Nat) : (s.incF x n).tbaseLatch = s.tbaseLatch := rfl
@[simp] theorem incF_fetchLast (s : State) (x : Field) (n : Nat) : (s.incF x n).fetchLast = s.fetchLast := rfl
@[simp] theorem incF_out (s : State) (x : Field) (n : Nat) : (s.incF x n).out = s.out := rfl
@[simp] theorem incF_free (s : State) (x : Field) (n : Nat) : (s.incF x n).free = s.free := rfl
@[simp] theorem incF_pending (s : State) (x : Field) (n : Nat) : (s.incF x n).pending = s.pending := rfl
@[simp] theorem incF_thr (s : State) (x : Field) (n : Nat) (k : Nat) : (s.incF x n).thr k = s.thr k := rfl
@[simp] theorem incF_sub (s : State) (x : Field) (n : Nat) (k : Nat) : (s.incF x n).sub k = s.sub k := rfl
@[simp] theorem incF_cpl (s : State) (x : Field) (n : Nat) (k : Nat) : (s.incF x n).cpl k = s.cpl k := rfl
@[simp] theorem incF_linkOff (s : State) (x : Field) (n : Nat) : (s.incF x n).linkOff = s.linkOff := rfl

/-! ## State.satF -/

@[simp] theorem satF_hw (s : State) (x : Field) (n : Nat) : (s.satF x n).hw = s.hw := rfl
@[simp] theorem satF_tbase (s : State) (x : Field) (n : Nat) : (s.satF x n).tbase = s.tbase := rfl
@[simp] theorem satF_mode (s : State) (x : Field) (n : Nat) : (s.satF x n).mode = s.mode := rfl
@[simp] theorem satF_elog (s : State) (x : Field) (n : Nat) : (s.satF x n).elog = s.elog := rfl
@[simp] theorem satF_aon (s : State) (x : Field) (n : Nat) : (s.satF x n).aon = s.aon := rfl
@[simp] theorem satF_corrected (s : State) (x : Field) (n : Nat) : (s.satF x n).corrected = s.corrected := rfl
@[simp] theorem satF_health (s : State) (x : Field) (n : Nat) : (s.satF x n).health = s.health := rfl
@[simp] theorem satF_dump (s : State) (x : Field) (n : Nat) : (s.satF x n).dump = s.dump := rfl
@[simp] theorem satF_ep0 (s : State) (x : Field) (n : Nat) : (s.satF x n).ep0 = s.ep0 := rfl
@[simp] theorem satF_ep1 (s : State) (x : Field) (n : Nat) : (s.satF x n).ep1 = s.ep1 := rfl
@[simp] theorem satF_subRings (s : State) (x : Field) (n : Nat) : (s.satF x n).subRings = s.subRings := rfl
@[simp] theorem satF_cplRings (s : State) (x : Field) (n : Nat) : (s.satF x n).cplRings = s.cplRings := rfl
@[simp] theorem satF_pair (s : State) (x : Field) (n : Nat) : (s.satF x n).pair = s.pair := rfl
@[simp] theorem satF_threads (s : State) (x : Field) (n : Nat) : (s.satF x n).threads = s.threads := rfl
@[simp] theorem satF_skeins (s : State) (x : Field) (n : Nat) : (s.satF x n).skeins = s.skeins := rfl
@[simp] theorem satF_skeinUsed (s : State) (x : Field) (n : Nat) : (s.satF x n).skeinUsed = s.skeinUsed := rfl
@[simp] theorem satF_pmem (s : State) (x : Field) (n : Nat) : (s.satF x n).pmem = s.pmem := rfl
@[simp] theorem satF_master (s : State) (x : Field) (n : Nat) : (s.satF x n).master = s.master := rfl
@[simp] theorem satF_extents (s : State) (x : Field) (n : Nat) : (s.satF x n).extents = s.extents := rfl
@[simp] theorem satF_maskCleared (s : State) (x : Field) (n : Nat) : (s.satF x n).maskCleared = s.maskCleared := rfl
@[simp] theorem satF_faults (s : State) (x : Field) (n : Nat) : (s.satF x n).faults = s.faults := rfl
@[simp] theorem satF_workFaults (s : State) (x : Field) (n : Nat) : (s.satF x n).workFaults = s.workFaults := rfl
@[simp] theorem satF_prk (s : State) (x : Field) (n : Nat) : (s.satF x n).prk = s.prk := rfl
@[simp] theorem satF_arrays (s : State) (x : Field) (n : Nat) : (s.satF x n).arrays = s.arrays := rfl
@[simp] theorem satF_bands (s : State) (x : Field) (n : Nat) : (s.satF x n).bands = s.bands := rfl
@[simp] theorem satF_ewords (s : State) (x : Field) (n : Nat) : (s.satF x n).ewords = s.ewords := rfl
@[simp] theorem satF_sleds (s : State) (x : Field) (n : Nat) : (s.satF x n).sleds = s.sleds := rfl
@[simp] theorem satF_hoop (s : State) (x : Field) (n : Nat) : (s.satF x n).hoop = s.hoop := rfl
@[simp] theorem satF_lost (s : State) (x : Field) (n : Nat) : (s.satF x n).lost = s.lost := rfl
@[simp] theorem satF_map (s : State) (x : Field) (n : Nat) : (s.satF x n).map = s.map := rfl
@[simp] theorem satF_dlog (s : State) (x : Field) (n : Nat) : (s.satF x n).dlog = s.dlog := rfl
@[simp] theorem satF_mc (s : State) (x : Field) (n : Nat) : (s.satF x n).mc = s.mc := rfl
@[simp] theorem satF_dram (s : State) (x : Field) (n : Nat) : (s.satF x n).dram = s.dram := rfl
@[simp] theorem satF_poison (s : State) (x : Field) (n : Nat) : (s.satF x n).poison = s.poison := rfl
@[simp] theorem satF_hostTags (s : State) (x : Field) (n : Nat) : (s.satF x n).hostTags = s.hostTags := rfl
@[simp] theorem satF_ats (s : State) (x : Field) (n : Nat) : (s.satF x n).ats = s.ats := rfl
@[simp] theorem satF_invals (s : State) (x : Field) (n : Nat) : (s.satF x n).invals = s.invals := rfl
@[simp] theorem satF_vault (s : State) (x : Field) (n : Nat) : (s.satF x n).vault = s.vault := rfl
@[simp] theorem satF_sht (s : State) (x : Field) (n : Nat) : (s.satF x n).sht = s.sht := rfl
@[simp] theorem satF_sledCmds (s : State) (x : Field) (n : Nat) : (s.satF x n).sledCmds = s.sledCmds := rfl
@[simp] theorem satF_ports (s : State) (x : Field) (n : Nat) : (s.satF x n).ports = s.ports := rfl
@[simp] theorem satF_readJobs (s : State) (x : Field) (n : Nat) : (s.satF x n).readJobs = s.readJobs := rfl
@[simp] theorem satF_devReads (s : State) (x : Field) (n : Nat) : (s.satF x n).devReads = s.devReads := rfl
@[simp] theorem satF_bobbin (s : State) (x : Field) (n : Nat) : (s.satF x n).bobbin = s.bobbin := rfl
@[simp] theorem satF_recorder (s : State) (x : Field) (n : Nat) : (s.satF x n).recorder = s.recorder := rfl
@[simp] theorem satF_power (s : State) (x : Field) (n : Nat) : (s.satF x n).power = s.power := rfl
@[simp] theorem satF_thermal (s : State) (x : Field) (n : Nat) : (s.satF x n).thermal = s.thermal := rfl
@[simp] theorem satF_boot (s : State) (x : Field) (n : Nat) : (s.satF x n).boot = s.boot := rfl
@[simp] theorem satF_fed (s : State) (x : Field) (n : Nat) : (s.satF x n).fed = s.fed := rfl
@[simp] theorem satF_doe (s : State) (x : Field) (n : Nat) : (s.satF x n).doe = s.doe := rfl
@[simp] theorem satF_eids (s : State) (x : Field) (n : Nat) : (s.satF x n).eids = s.eids := rfl
@[simp] theorem satF_tbaseLatch (s : State) (x : Field) (n : Nat) : (s.satF x n).tbaseLatch = s.tbaseLatch := rfl
@[simp] theorem satF_fetchLast (s : State) (x : Field) (n : Nat) : (s.satF x n).fetchLast = s.fetchLast := rfl
@[simp] theorem satF_out (s : State) (x : Field) (n : Nat) : (s.satF x n).out = s.out := rfl
@[simp] theorem satF_free (s : State) (x : Field) (n : Nat) : (s.satF x n).free = s.free := rfl
@[simp] theorem satF_pending (s : State) (x : Field) (n : Nat) : (s.satF x n).pending = s.pending := rfl
@[simp] theorem satF_thr (s : State) (x : Field) (n : Nat) (k : Nat) : (s.satF x n).thr k = s.thr k := rfl
@[simp] theorem satF_sub (s : State) (x : Field) (n : Nat) (k : Nat) : (s.satF x n).sub k = s.sub k := rfl
@[simp] theorem satF_cpl (s : State) (x : Field) (n : Nat) (k : Nat) : (s.satF x n).cpl k = s.cpl k := rfl
@[simp] theorem satF_linkOff (s : State) (x : Field) (n : Nat) : (s.satF x n).linkOff = s.linkOff := rfl

/-! ## State.storeReg -/

@[simp] theorem storeReg_hw (s : State) (off size : Nat) (v : Word) : (s.storeReg off size v).hw = s.hw := rfl
@[simp] theorem storeReg_tbase (s : State) (off size : Nat) (v : Word) : (s.storeReg off size v).tbase = s.tbase := rfl
@[simp] theorem storeReg_mode (s : State) (off size : Nat) (v : Word) : (s.storeReg off size v).mode = s.mode := rfl
@[simp] theorem storeReg_elog (s : State) (off size : Nat) (v : Word) : (s.storeReg off size v).elog = s.elog := rfl
@[simp] theorem storeReg_aon (s : State) (off size : Nat) (v : Word) : (s.storeReg off size v).aon = s.aon := rfl
@[simp] theorem storeReg_corrected (s : State) (off size : Nat) (v : Word) : (s.storeReg off size v).corrected = s.corrected := rfl
@[simp] theorem storeReg_health (s : State) (off size : Nat) (v : Word) : (s.storeReg off size v).health = s.health := rfl
@[simp] theorem storeReg_dump (s : State) (off size : Nat) (v : Word) : (s.storeReg off size v).dump = s.dump := rfl
@[simp] theorem storeReg_ep0 (s : State) (off size : Nat) (v : Word) : (s.storeReg off size v).ep0 = s.ep0 := rfl
@[simp] theorem storeReg_ep1 (s : State) (off size : Nat) (v : Word) : (s.storeReg off size v).ep1 = s.ep1 := rfl
@[simp] theorem storeReg_subRings (s : State) (off size : Nat) (v : Word) : (s.storeReg off size v).subRings = s.subRings := rfl
@[simp] theorem storeReg_cplRings (s : State) (off size : Nat) (v : Word) : (s.storeReg off size v).cplRings = s.cplRings := rfl
@[simp] theorem storeReg_pair (s : State) (off size : Nat) (v : Word) : (s.storeReg off size v).pair = s.pair := rfl
@[simp] theorem storeReg_threads (s : State) (off size : Nat) (v : Word) : (s.storeReg off size v).threads = s.threads := rfl
@[simp] theorem storeReg_skeins (s : State) (off size : Nat) (v : Word) : (s.storeReg off size v).skeins = s.skeins := rfl
@[simp] theorem storeReg_skeinUsed (s : State) (off size : Nat) (v : Word) : (s.storeReg off size v).skeinUsed = s.skeinUsed := rfl
@[simp] theorem storeReg_pmem (s : State) (off size : Nat) (v : Word) : (s.storeReg off size v).pmem = s.pmem := rfl
@[simp] theorem storeReg_master (s : State) (off size : Nat) (v : Word) : (s.storeReg off size v).master = s.master := rfl
@[simp] theorem storeReg_extents (s : State) (off size : Nat) (v : Word) : (s.storeReg off size v).extents = s.extents := rfl
@[simp] theorem storeReg_maskCleared (s : State) (off size : Nat) (v : Word) : (s.storeReg off size v).maskCleared = s.maskCleared := rfl
@[simp] theorem storeReg_faults (s : State) (off size : Nat) (v : Word) : (s.storeReg off size v).faults = s.faults := rfl
@[simp] theorem storeReg_workFaults (s : State) (off size : Nat) (v : Word) : (s.storeReg off size v).workFaults = s.workFaults := rfl
@[simp] theorem storeReg_prk (s : State) (off size : Nat) (v : Word) : (s.storeReg off size v).prk = s.prk := rfl
@[simp] theorem storeReg_arrays (s : State) (off size : Nat) (v : Word) : (s.storeReg off size v).arrays = s.arrays := rfl
@[simp] theorem storeReg_bands (s : State) (off size : Nat) (v : Word) : (s.storeReg off size v).bands = s.bands := rfl
@[simp] theorem storeReg_ewords (s : State) (off size : Nat) (v : Word) : (s.storeReg off size v).ewords = s.ewords := rfl
@[simp] theorem storeReg_sleds (s : State) (off size : Nat) (v : Word) : (s.storeReg off size v).sleds = s.sleds := rfl
@[simp] theorem storeReg_hoop (s : State) (off size : Nat) (v : Word) : (s.storeReg off size v).hoop = s.hoop := rfl
@[simp] theorem storeReg_lost (s : State) (off size : Nat) (v : Word) : (s.storeReg off size v).lost = s.lost := rfl
@[simp] theorem storeReg_map (s : State) (off size : Nat) (v : Word) : (s.storeReg off size v).map = s.map := rfl
@[simp] theorem storeReg_dlog (s : State) (off size : Nat) (v : Word) : (s.storeReg off size v).dlog = s.dlog := rfl
@[simp] theorem storeReg_mc (s : State) (off size : Nat) (v : Word) : (s.storeReg off size v).mc = s.mc := rfl
@[simp] theorem storeReg_dram (s : State) (off size : Nat) (v : Word) : (s.storeReg off size v).dram = s.dram := rfl
@[simp] theorem storeReg_poison (s : State) (off size : Nat) (v : Word) : (s.storeReg off size v).poison = s.poison := rfl
@[simp] theorem storeReg_hostTags (s : State) (off size : Nat) (v : Word) : (s.storeReg off size v).hostTags = s.hostTags := rfl
@[simp] theorem storeReg_ats (s : State) (off size : Nat) (v : Word) : (s.storeReg off size v).ats = s.ats := rfl
@[simp] theorem storeReg_invals (s : State) (off size : Nat) (v : Word) : (s.storeReg off size v).invals = s.invals := rfl
@[simp] theorem storeReg_vault (s : State) (off size : Nat) (v : Word) : (s.storeReg off size v).vault = s.vault := rfl
@[simp] theorem storeReg_sht (s : State) (off size : Nat) (v : Word) : (s.storeReg off size v).sht = s.sht := rfl
@[simp] theorem storeReg_sledCmds (s : State) (off size : Nat) (v : Word) : (s.storeReg off size v).sledCmds = s.sledCmds := rfl
@[simp] theorem storeReg_ports (s : State) (off size : Nat) (v : Word) : (s.storeReg off size v).ports = s.ports := rfl
@[simp] theorem storeReg_readJobs (s : State) (off size : Nat) (v : Word) : (s.storeReg off size v).readJobs = s.readJobs := rfl
@[simp] theorem storeReg_devReads (s : State) (off size : Nat) (v : Word) : (s.storeReg off size v).devReads = s.devReads := rfl
@[simp] theorem storeReg_bobbin (s : State) (off size : Nat) (v : Word) : (s.storeReg off size v).bobbin = s.bobbin := rfl
@[simp] theorem storeReg_recorder (s : State) (off size : Nat) (v : Word) : (s.storeReg off size v).recorder = s.recorder := rfl
@[simp] theorem storeReg_power (s : State) (off size : Nat) (v : Word) : (s.storeReg off size v).power = s.power := rfl
@[simp] theorem storeReg_thermal (s : State) (off size : Nat) (v : Word) : (s.storeReg off size v).thermal = s.thermal := rfl
@[simp] theorem storeReg_boot (s : State) (off size : Nat) (v : Word) : (s.storeReg off size v).boot = s.boot := rfl
@[simp] theorem storeReg_fed (s : State) (off size : Nat) (v : Word) : (s.storeReg off size v).fed = s.fed := rfl
@[simp] theorem storeReg_doe (s : State) (off size : Nat) (v : Word) : (s.storeReg off size v).doe = s.doe := rfl
@[simp] theorem storeReg_eids (s : State) (off size : Nat) (v : Word) : (s.storeReg off size v).eids = s.eids := rfl
@[simp] theorem storeReg_tbaseLatch (s : State) (off size : Nat) (v : Word) : (s.storeReg off size v).tbaseLatch = s.tbaseLatch := rfl
@[simp] theorem storeReg_fetchLast (s : State) (off size : Nat) (v : Word) : (s.storeReg off size v).fetchLast = s.fetchLast := rfl
@[simp] theorem storeReg_out (s : State) (off size : Nat) (v : Word) : (s.storeReg off size v).out = s.out := rfl
@[simp] theorem storeReg_free (s : State) (off size : Nat) (v : Word) : (s.storeReg off size v).free = s.free := rfl
@[simp] theorem storeReg_pending (s : State) (off size : Nat) (v : Word) : (s.storeReg off size v).pending = s.pending := rfl
@[simp] theorem storeReg_thr (s : State) (off size : Nat) (v : Word) (k : Nat) : (s.storeReg off size v).thr k = s.thr k := rfl
@[simp] theorem storeReg_sub (s : State) (off size : Nat) (v : Word) (k : Nat) : (s.storeReg off size v).sub k = s.sub k := rfl
@[simp] theorem storeReg_cpl (s : State) (off size : Nat) (v : Word) (k : Nat) : (s.storeReg off size v).cpl k = s.cpl k := rfl
@[simp] theorem storeReg_linkOff (s : State) (off size : Nat) (v : Word) : (s.storeReg off size v).linkOff = s.linkOff := rfl

/-! ## State.send -/

@[simp] theorem send_hw (s : State) (m : OutMsg) : (s.send m).hw = s.hw := rfl
@[simp] theorem send_tbase (s : State) (m : OutMsg) : (s.send m).tbase = s.tbase := rfl
@[simp] theorem send_mode (s : State) (m : OutMsg) : (s.send m).mode = s.mode := rfl
@[simp] theorem send_bar0 (s : State) (m : OutMsg) : (s.send m).bar0 = s.bar0 := rfl
@[simp] theorem send_elog (s : State) (m : OutMsg) : (s.send m).elog = s.elog := rfl
@[simp] theorem send_aon (s : State) (m : OutMsg) : (s.send m).aon = s.aon := rfl
@[simp] theorem send_corrected (s : State) (m : OutMsg) : (s.send m).corrected = s.corrected := rfl
@[simp] theorem send_health (s : State) (m : OutMsg) : (s.send m).health = s.health := rfl
@[simp] theorem send_dump (s : State) (m : OutMsg) : (s.send m).dump = s.dump := rfl
@[simp] theorem send_ep0 (s : State) (m : OutMsg) : (s.send m).ep0 = s.ep0 := rfl
@[simp] theorem send_ep1 (s : State) (m : OutMsg) : (s.send m).ep1 = s.ep1 := rfl
@[simp] theorem send_subRings (s : State) (m : OutMsg) : (s.send m).subRings = s.subRings := rfl
@[simp] theorem send_cplRings (s : State) (m : OutMsg) : (s.send m).cplRings = s.cplRings := rfl
@[simp] theorem send_pair (s : State) (m : OutMsg) : (s.send m).pair = s.pair := rfl
@[simp] theorem send_threads (s : State) (m : OutMsg) : (s.send m).threads = s.threads := rfl
@[simp] theorem send_skeins (s : State) (m : OutMsg) : (s.send m).skeins = s.skeins := rfl
@[simp] theorem send_skeinUsed (s : State) (m : OutMsg) : (s.send m).skeinUsed = s.skeinUsed := rfl
@[simp] theorem send_pmem (s : State) (m : OutMsg) : (s.send m).pmem = s.pmem := rfl
@[simp] theorem send_master (s : State) (m : OutMsg) : (s.send m).master = s.master := rfl
@[simp] theorem send_extents (s : State) (m : OutMsg) : (s.send m).extents = s.extents := rfl
@[simp] theorem send_maskCleared (s : State) (m : OutMsg) : (s.send m).maskCleared = s.maskCleared := rfl
@[simp] theorem send_faults (s : State) (m : OutMsg) : (s.send m).faults = s.faults := rfl
@[simp] theorem send_workFaults (s : State) (m : OutMsg) : (s.send m).workFaults = s.workFaults := rfl
@[simp] theorem send_prk (s : State) (m : OutMsg) : (s.send m).prk = s.prk := rfl
@[simp] theorem send_arrays (s : State) (m : OutMsg) : (s.send m).arrays = s.arrays := rfl
@[simp] theorem send_bands (s : State) (m : OutMsg) : (s.send m).bands = s.bands := rfl
@[simp] theorem send_ewords (s : State) (m : OutMsg) : (s.send m).ewords = s.ewords := rfl
@[simp] theorem send_sleds (s : State) (m : OutMsg) : (s.send m).sleds = s.sleds := rfl
@[simp] theorem send_hoop (s : State) (m : OutMsg) : (s.send m).hoop = s.hoop := rfl
@[simp] theorem send_lost (s : State) (m : OutMsg) : (s.send m).lost = s.lost := rfl
@[simp] theorem send_map (s : State) (m : OutMsg) : (s.send m).map = s.map := rfl
@[simp] theorem send_dlog (s : State) (m : OutMsg) : (s.send m).dlog = s.dlog := rfl
@[simp] theorem send_mc (s : State) (m : OutMsg) : (s.send m).mc = s.mc := rfl
@[simp] theorem send_dram (s : State) (m : OutMsg) : (s.send m).dram = s.dram := rfl
@[simp] theorem send_poison (s : State) (m : OutMsg) : (s.send m).poison = s.poison := rfl
@[simp] theorem send_hostTags (s : State) (m : OutMsg) : (s.send m).hostTags = s.hostTags := rfl
@[simp] theorem send_ats (s : State) (m : OutMsg) : (s.send m).ats = s.ats := rfl
@[simp] theorem send_invals (s : State) (m : OutMsg) : (s.send m).invals = s.invals := rfl
@[simp] theorem send_vault (s : State) (m : OutMsg) : (s.send m).vault = s.vault := rfl
@[simp] theorem send_sht (s : State) (m : OutMsg) : (s.send m).sht = s.sht := rfl
@[simp] theorem send_sledCmds (s : State) (m : OutMsg) : (s.send m).sledCmds = s.sledCmds := rfl
@[simp] theorem send_ports (s : State) (m : OutMsg) : (s.send m).ports = s.ports := rfl
@[simp] theorem send_readJobs (s : State) (m : OutMsg) : (s.send m).readJobs = s.readJobs := rfl
@[simp] theorem send_devReads (s : State) (m : OutMsg) : (s.send m).devReads = s.devReads := rfl
@[simp] theorem send_bobbin (s : State) (m : OutMsg) : (s.send m).bobbin = s.bobbin := rfl
@[simp] theorem send_recorder (s : State) (m : OutMsg) : (s.send m).recorder = s.recorder := rfl
@[simp] theorem send_power (s : State) (m : OutMsg) : (s.send m).power = s.power := rfl
@[simp] theorem send_thermal (s : State) (m : OutMsg) : (s.send m).thermal = s.thermal := rfl
@[simp] theorem send_boot (s : State) (m : OutMsg) : (s.send m).boot = s.boot := rfl
@[simp] theorem send_fed (s : State) (m : OutMsg) : (s.send m).fed = s.fed := rfl
@[simp] theorem send_doe (s : State) (m : OutMsg) : (s.send m).doe = s.doe := rfl
@[simp] theorem send_eids (s : State) (m : OutMsg) : (s.send m).eids = s.eids := rfl
@[simp] theorem send_tbaseLatch (s : State) (m : OutMsg) : (s.send m).tbaseLatch = s.tbaseLatch := rfl
@[simp] theorem send_fetchLast (s : State) (m : OutMsg) : (s.send m).fetchLast = s.fetchLast := rfl
@[simp] theorem send_free (s : State) (m : OutMsg) : (s.send m).free = s.free := rfl
@[simp] theorem send_pending (s : State) (m : OutMsg) : (s.send m).pending = s.pending := rfl
@[simp] theorem send_reg (s : State) (m : OutMsg) (k : Nat) : (s.send m).reg k = s.reg k := rfl
@[simp] theorem send_f (s : State) (m : OutMsg) (y : Field) : (s.send m).f y = s.f y := rfl
@[simp] theorem send_flag (s : State) (m : OutMsg) (y : Field) : (s.send m).flag y = s.flag y := rfl
@[simp] theorem send_thr (s : State) (m : OutMsg) (k : Nat) : (s.send m).thr k = s.thr k := rfl
@[simp] theorem send_sub (s : State) (m : OutMsg) (k : Nat) : (s.send m).sub k = s.sub k := rfl
@[simp] theorem send_cpl (s : State) (m : OutMsg) (k : Nat) : (s.send m).cpl k = s.cpl k := rfl
@[simp] theorem send_linkOff (s : State) (m : OutMsg) : (s.send m).linkOff = s.linkOff := rfl

/-! ## State.bumpFree -/

@[simp] theorem bumpFree_hw (s : State) : (s.bumpFree).hw = s.hw := rfl
@[simp] theorem bumpFree_tbase (s : State) : (s.bumpFree).tbase = s.tbase := rfl
@[simp] theorem bumpFree_mode (s : State) : (s.bumpFree).mode = s.mode := rfl
@[simp] theorem bumpFree_bar0 (s : State) : (s.bumpFree).bar0 = s.bar0 := rfl
@[simp] theorem bumpFree_elog (s : State) : (s.bumpFree).elog = s.elog := rfl
@[simp] theorem bumpFree_aon (s : State) : (s.bumpFree).aon = s.aon := rfl
@[simp] theorem bumpFree_corrected (s : State) : (s.bumpFree).corrected = s.corrected := rfl
@[simp] theorem bumpFree_health (s : State) : (s.bumpFree).health = s.health := rfl
@[simp] theorem bumpFree_dump (s : State) : (s.bumpFree).dump = s.dump := rfl
@[simp] theorem bumpFree_ep0 (s : State) : (s.bumpFree).ep0 = s.ep0 := rfl
@[simp] theorem bumpFree_ep1 (s : State) : (s.bumpFree).ep1 = s.ep1 := rfl
@[simp] theorem bumpFree_subRings (s : State) : (s.bumpFree).subRings = s.subRings := rfl
@[simp] theorem bumpFree_cplRings (s : State) : (s.bumpFree).cplRings = s.cplRings := rfl
@[simp] theorem bumpFree_pair (s : State) : (s.bumpFree).pair = s.pair := rfl
@[simp] theorem bumpFree_threads (s : State) : (s.bumpFree).threads = s.threads := rfl
@[simp] theorem bumpFree_skeins (s : State) : (s.bumpFree).skeins = s.skeins := rfl
@[simp] theorem bumpFree_skeinUsed (s : State) : (s.bumpFree).skeinUsed = s.skeinUsed := rfl
@[simp] theorem bumpFree_pmem (s : State) : (s.bumpFree).pmem = s.pmem := rfl
@[simp] theorem bumpFree_master (s : State) : (s.bumpFree).master = s.master := rfl
@[simp] theorem bumpFree_extents (s : State) : (s.bumpFree).extents = s.extents := rfl
@[simp] theorem bumpFree_maskCleared (s : State) : (s.bumpFree).maskCleared = s.maskCleared := rfl
@[simp] theorem bumpFree_faults (s : State) : (s.bumpFree).faults = s.faults := rfl
@[simp] theorem bumpFree_workFaults (s : State) : (s.bumpFree).workFaults = s.workFaults := rfl
@[simp] theorem bumpFree_prk (s : State) : (s.bumpFree).prk = s.prk := rfl
@[simp] theorem bumpFree_arrays (s : State) : (s.bumpFree).arrays = s.arrays := rfl
@[simp] theorem bumpFree_bands (s : State) : (s.bumpFree).bands = s.bands := rfl
@[simp] theorem bumpFree_ewords (s : State) : (s.bumpFree).ewords = s.ewords := rfl
@[simp] theorem bumpFree_sleds (s : State) : (s.bumpFree).sleds = s.sleds := rfl
@[simp] theorem bumpFree_hoop (s : State) : (s.bumpFree).hoop = s.hoop := rfl
@[simp] theorem bumpFree_lost (s : State) : (s.bumpFree).lost = s.lost := rfl
@[simp] theorem bumpFree_map (s : State) : (s.bumpFree).map = s.map := rfl
@[simp] theorem bumpFree_dlog (s : State) : (s.bumpFree).dlog = s.dlog := rfl
@[simp] theorem bumpFree_mc (s : State) : (s.bumpFree).mc = s.mc := rfl
@[simp] theorem bumpFree_dram (s : State) : (s.bumpFree).dram = s.dram := rfl
@[simp] theorem bumpFree_poison (s : State) : (s.bumpFree).poison = s.poison := rfl
@[simp] theorem bumpFree_hostTags (s : State) : (s.bumpFree).hostTags = s.hostTags := rfl
@[simp] theorem bumpFree_ats (s : State) : (s.bumpFree).ats = s.ats := rfl
@[simp] theorem bumpFree_invals (s : State) : (s.bumpFree).invals = s.invals := rfl
@[simp] theorem bumpFree_vault (s : State) : (s.bumpFree).vault = s.vault := rfl
@[simp] theorem bumpFree_sht (s : State) : (s.bumpFree).sht = s.sht := rfl
@[simp] theorem bumpFree_sledCmds (s : State) : (s.bumpFree).sledCmds = s.sledCmds := rfl
@[simp] theorem bumpFree_ports (s : State) : (s.bumpFree).ports = s.ports := rfl
@[simp] theorem bumpFree_readJobs (s : State) : (s.bumpFree).readJobs = s.readJobs := rfl
@[simp] theorem bumpFree_devReads (s : State) : (s.bumpFree).devReads = s.devReads := rfl
@[simp] theorem bumpFree_bobbin (s : State) : (s.bumpFree).bobbin = s.bobbin := rfl
@[simp] theorem bumpFree_recorder (s : State) : (s.bumpFree).recorder = s.recorder := rfl
@[simp] theorem bumpFree_power (s : State) : (s.bumpFree).power = s.power := rfl
@[simp] theorem bumpFree_thermal (s : State) : (s.bumpFree).thermal = s.thermal := rfl
@[simp] theorem bumpFree_boot (s : State) : (s.bumpFree).boot = s.boot := rfl
@[simp] theorem bumpFree_fed (s : State) : (s.bumpFree).fed = s.fed := rfl
@[simp] theorem bumpFree_doe (s : State) : (s.bumpFree).doe = s.doe := rfl
@[simp] theorem bumpFree_eids (s : State) : (s.bumpFree).eids = s.eids := rfl
@[simp] theorem bumpFree_tbaseLatch (s : State) : (s.bumpFree).tbaseLatch = s.tbaseLatch := rfl
@[simp] theorem bumpFree_fetchLast (s : State) : (s.bumpFree).fetchLast = s.fetchLast := rfl
@[simp] theorem bumpFree_out (s : State) : (s.bumpFree).out = s.out := rfl
@[simp] theorem bumpFree_pending (s : State) : (s.bumpFree).pending = s.pending := rfl
@[simp] theorem bumpFree_reg (s : State) (k : Nat) : (s.bumpFree).reg k = s.reg k := rfl
@[simp] theorem bumpFree_f (s : State) (y : Field) : (s.bumpFree).f y = s.f y := rfl
@[simp] theorem bumpFree_flag (s : State) (y : Field) : (s.bumpFree).flag y = s.flag y := rfl
@[simp] theorem bumpFree_thr (s : State) (k : Nat) : (s.bumpFree).thr k = s.thr k := rfl
@[simp] theorem bumpFree_sub (s : State) (k : Nat) : (s.bumpFree).sub k = s.sub k := rfl
@[simp] theorem bumpFree_cpl (s : State) (k : Nat) : (s.bumpFree).cpl k = s.cpl k := rfl
@[simp] theorem bumpFree_linkOff (s : State) : (s.bumpFree).linkOff = s.linkOff := rfl

/-! ## State.setThr -/

@[simp] theorem setThr_hw (s : State) (th : Nat) (t : Thread) : (s.setThr th t).hw = s.hw := rfl
@[simp] theorem setThr_tbase (s : State) (th : Nat) (t : Thread) : (s.setThr th t).tbase = s.tbase := rfl
@[simp] theorem setThr_mode (s : State) (th : Nat) (t : Thread) : (s.setThr th t).mode = s.mode := rfl
@[simp] theorem setThr_bar0 (s : State) (th : Nat) (t : Thread) : (s.setThr th t).bar0 = s.bar0 := rfl
@[simp] theorem setThr_elog (s : State) (th : Nat) (t : Thread) : (s.setThr th t).elog = s.elog := rfl
@[simp] theorem setThr_aon (s : State) (th : Nat) (t : Thread) : (s.setThr th t).aon = s.aon := rfl
@[simp] theorem setThr_corrected (s : State) (th : Nat) (t : Thread) : (s.setThr th t).corrected = s.corrected := rfl
@[simp] theorem setThr_health (s : State) (th : Nat) (t : Thread) : (s.setThr th t).health = s.health := rfl
@[simp] theorem setThr_dump (s : State) (th : Nat) (t : Thread) : (s.setThr th t).dump = s.dump := rfl
@[simp] theorem setThr_ep0 (s : State) (th : Nat) (t : Thread) : (s.setThr th t).ep0 = s.ep0 := rfl
@[simp] theorem setThr_ep1 (s : State) (th : Nat) (t : Thread) : (s.setThr th t).ep1 = s.ep1 := rfl
@[simp] theorem setThr_subRings (s : State) (th : Nat) (t : Thread) : (s.setThr th t).subRings = s.subRings := rfl
@[simp] theorem setThr_cplRings (s : State) (th : Nat) (t : Thread) : (s.setThr th t).cplRings = s.cplRings := rfl
@[simp] theorem setThr_pair (s : State) (th : Nat) (t : Thread) : (s.setThr th t).pair = s.pair := rfl
@[simp] theorem setThr_skeins (s : State) (th : Nat) (t : Thread) : (s.setThr th t).skeins = s.skeins := rfl
@[simp] theorem setThr_skeinUsed (s : State) (th : Nat) (t : Thread) : (s.setThr th t).skeinUsed = s.skeinUsed := rfl
@[simp] theorem setThr_pmem (s : State) (th : Nat) (t : Thread) : (s.setThr th t).pmem = s.pmem := rfl
@[simp] theorem setThr_master (s : State) (th : Nat) (t : Thread) : (s.setThr th t).master = s.master := rfl
@[simp] theorem setThr_extents (s : State) (th : Nat) (t : Thread) : (s.setThr th t).extents = s.extents := rfl
@[simp] theorem setThr_maskCleared (s : State) (th : Nat) (t : Thread) : (s.setThr th t).maskCleared = s.maskCleared := rfl
@[simp] theorem setThr_faults (s : State) (th : Nat) (t : Thread) : (s.setThr th t).faults = s.faults := rfl
@[simp] theorem setThr_workFaults (s : State) (th : Nat) (t : Thread) : (s.setThr th t).workFaults = s.workFaults := rfl
@[simp] theorem setThr_prk (s : State) (th : Nat) (t : Thread) : (s.setThr th t).prk = s.prk := rfl
@[simp] theorem setThr_arrays (s : State) (th : Nat) (t : Thread) : (s.setThr th t).arrays = s.arrays := rfl
@[simp] theorem setThr_bands (s : State) (th : Nat) (t : Thread) : (s.setThr th t).bands = s.bands := rfl
@[simp] theorem setThr_ewords (s : State) (th : Nat) (t : Thread) : (s.setThr th t).ewords = s.ewords := rfl
@[simp] theorem setThr_sleds (s : State) (th : Nat) (t : Thread) : (s.setThr th t).sleds = s.sleds := rfl
@[simp] theorem setThr_hoop (s : State) (th : Nat) (t : Thread) : (s.setThr th t).hoop = s.hoop := rfl
@[simp] theorem setThr_lost (s : State) (th : Nat) (t : Thread) : (s.setThr th t).lost = s.lost := rfl
@[simp] theorem setThr_map (s : State) (th : Nat) (t : Thread) : (s.setThr th t).map = s.map := rfl
@[simp] theorem setThr_dlog (s : State) (th : Nat) (t : Thread) : (s.setThr th t).dlog = s.dlog := rfl
@[simp] theorem setThr_mc (s : State) (th : Nat) (t : Thread) : (s.setThr th t).mc = s.mc := rfl
@[simp] theorem setThr_dram (s : State) (th : Nat) (t : Thread) : (s.setThr th t).dram = s.dram := rfl
@[simp] theorem setThr_poison (s : State) (th : Nat) (t : Thread) : (s.setThr th t).poison = s.poison := rfl
@[simp] theorem setThr_hostTags (s : State) (th : Nat) (t : Thread) : (s.setThr th t).hostTags = s.hostTags := rfl
@[simp] theorem setThr_ats (s : State) (th : Nat) (t : Thread) : (s.setThr th t).ats = s.ats := rfl
@[simp] theorem setThr_invals (s : State) (th : Nat) (t : Thread) : (s.setThr th t).invals = s.invals := rfl
@[simp] theorem setThr_vault (s : State) (th : Nat) (t : Thread) : (s.setThr th t).vault = s.vault := rfl
@[simp] theorem setThr_sht (s : State) (th : Nat) (t : Thread) : (s.setThr th t).sht = s.sht := rfl
@[simp] theorem setThr_sledCmds (s : State) (th : Nat) (t : Thread) : (s.setThr th t).sledCmds = s.sledCmds := rfl
@[simp] theorem setThr_ports (s : State) (th : Nat) (t : Thread) : (s.setThr th t).ports = s.ports := rfl
@[simp] theorem setThr_readJobs (s : State) (th : Nat) (t : Thread) : (s.setThr th t).readJobs = s.readJobs := rfl
@[simp] theorem setThr_devReads (s : State) (th : Nat) (t : Thread) : (s.setThr th t).devReads = s.devReads := rfl
@[simp] theorem setThr_bobbin (s : State) (th : Nat) (t : Thread) : (s.setThr th t).bobbin = s.bobbin := rfl
@[simp] theorem setThr_recorder (s : State) (th : Nat) (t : Thread) : (s.setThr th t).recorder = s.recorder := rfl
@[simp] theorem setThr_power (s : State) (th : Nat) (t : Thread) : (s.setThr th t).power = s.power := rfl
@[simp] theorem setThr_thermal (s : State) (th : Nat) (t : Thread) : (s.setThr th t).thermal = s.thermal := rfl
@[simp] theorem setThr_boot (s : State) (th : Nat) (t : Thread) : (s.setThr th t).boot = s.boot := rfl
@[simp] theorem setThr_fed (s : State) (th : Nat) (t : Thread) : (s.setThr th t).fed = s.fed := rfl
@[simp] theorem setThr_doe (s : State) (th : Nat) (t : Thread) : (s.setThr th t).doe = s.doe := rfl
@[simp] theorem setThr_eids (s : State) (th : Nat) (t : Thread) : (s.setThr th t).eids = s.eids := rfl
@[simp] theorem setThr_tbaseLatch (s : State) (th : Nat) (t : Thread) : (s.setThr th t).tbaseLatch = s.tbaseLatch := rfl
@[simp] theorem setThr_fetchLast (s : State) (th : Nat) (t : Thread) : (s.setThr th t).fetchLast = s.fetchLast := rfl
@[simp] theorem setThr_out (s : State) (th : Nat) (t : Thread) : (s.setThr th t).out = s.out := rfl
@[simp] theorem setThr_free (s : State) (th : Nat) (t : Thread) : (s.setThr th t).free = s.free := rfl
@[simp] theorem setThr_pending (s : State) (th : Nat) (t : Thread) : (s.setThr th t).pending = s.pending := rfl
@[simp] theorem setThr_reg (s : State) (th : Nat) (t : Thread) (k : Nat) : (s.setThr th t).reg k = s.reg k := rfl
@[simp] theorem setThr_f (s : State) (th : Nat) (t : Thread) (y : Field) : (s.setThr th t).f y = s.f y := rfl
@[simp] theorem setThr_flag (s : State) (th : Nat) (t : Thread) (y : Field) : (s.setThr th t).flag y = s.flag y := rfl
@[simp] theorem setThr_sub (s : State) (th : Nat) (t : Thread) (k : Nat) : (s.setThr th t).sub k = s.sub k := rfl
@[simp] theorem setThr_cpl (s : State) (th : Nat) (t : Thread) (k : Nat) : (s.setThr th t).cpl k = s.cpl k := rfl
@[simp] theorem setThr_linkOff (s : State) (th : Nat) (t : Thread) : (s.setThr th t).linkOff = s.linkOff := rfl

/-! ## State.setSub -/

@[simp] theorem setSub_hw (s : State) (r : Nat) (x : SubRing) : (s.setSub r x).hw = s.hw := rfl
@[simp] theorem setSub_tbase (s : State) (r : Nat) (x : SubRing) : (s.setSub r x).tbase = s.tbase := rfl
@[simp] theorem setSub_mode (s : State) (r : Nat) (x : SubRing) : (s.setSub r x).mode = s.mode := rfl
@[simp] theorem setSub_bar0 (s : State) (r : Nat) (x : SubRing) : (s.setSub r x).bar0 = s.bar0 := rfl
@[simp] theorem setSub_elog (s : State) (r : Nat) (x : SubRing) : (s.setSub r x).elog = s.elog := rfl
@[simp] theorem setSub_aon (s : State) (r : Nat) (x : SubRing) : (s.setSub r x).aon = s.aon := rfl
@[simp] theorem setSub_corrected (s : State) (r : Nat) (x : SubRing) : (s.setSub r x).corrected = s.corrected := rfl
@[simp] theorem setSub_health (s : State) (r : Nat) (x : SubRing) : (s.setSub r x).health = s.health := rfl
@[simp] theorem setSub_dump (s : State) (r : Nat) (x : SubRing) : (s.setSub r x).dump = s.dump := rfl
@[simp] theorem setSub_ep0 (s : State) (r : Nat) (x : SubRing) : (s.setSub r x).ep0 = s.ep0 := rfl
@[simp] theorem setSub_ep1 (s : State) (r : Nat) (x : SubRing) : (s.setSub r x).ep1 = s.ep1 := rfl
@[simp] theorem setSub_cplRings (s : State) (r : Nat) (x : SubRing) : (s.setSub r x).cplRings = s.cplRings := rfl
@[simp] theorem setSub_pair (s : State) (r : Nat) (x : SubRing) : (s.setSub r x).pair = s.pair := rfl
@[simp] theorem setSub_threads (s : State) (r : Nat) (x : SubRing) : (s.setSub r x).threads = s.threads := rfl
@[simp] theorem setSub_skeins (s : State) (r : Nat) (x : SubRing) : (s.setSub r x).skeins = s.skeins := rfl
@[simp] theorem setSub_skeinUsed (s : State) (r : Nat) (x : SubRing) : (s.setSub r x).skeinUsed = s.skeinUsed := rfl
@[simp] theorem setSub_pmem (s : State) (r : Nat) (x : SubRing) : (s.setSub r x).pmem = s.pmem := rfl
@[simp] theorem setSub_master (s : State) (r : Nat) (x : SubRing) : (s.setSub r x).master = s.master := rfl
@[simp] theorem setSub_extents (s : State) (r : Nat) (x : SubRing) : (s.setSub r x).extents = s.extents := rfl
@[simp] theorem setSub_maskCleared (s : State) (r : Nat) (x : SubRing) : (s.setSub r x).maskCleared = s.maskCleared := rfl
@[simp] theorem setSub_faults (s : State) (r : Nat) (x : SubRing) : (s.setSub r x).faults = s.faults := rfl
@[simp] theorem setSub_workFaults (s : State) (r : Nat) (x : SubRing) : (s.setSub r x).workFaults = s.workFaults := rfl
@[simp] theorem setSub_prk (s : State) (r : Nat) (x : SubRing) : (s.setSub r x).prk = s.prk := rfl
@[simp] theorem setSub_arrays (s : State) (r : Nat) (x : SubRing) : (s.setSub r x).arrays = s.arrays := rfl
@[simp] theorem setSub_bands (s : State) (r : Nat) (x : SubRing) : (s.setSub r x).bands = s.bands := rfl
@[simp] theorem setSub_ewords (s : State) (r : Nat) (x : SubRing) : (s.setSub r x).ewords = s.ewords := rfl
@[simp] theorem setSub_sleds (s : State) (r : Nat) (x : SubRing) : (s.setSub r x).sleds = s.sleds := rfl
@[simp] theorem setSub_hoop (s : State) (r : Nat) (x : SubRing) : (s.setSub r x).hoop = s.hoop := rfl
@[simp] theorem setSub_lost (s : State) (r : Nat) (x : SubRing) : (s.setSub r x).lost = s.lost := rfl
@[simp] theorem setSub_map (s : State) (r : Nat) (x : SubRing) : (s.setSub r x).map = s.map := rfl
@[simp] theorem setSub_dlog (s : State) (r : Nat) (x : SubRing) : (s.setSub r x).dlog = s.dlog := rfl
@[simp] theorem setSub_mc (s : State) (r : Nat) (x : SubRing) : (s.setSub r x).mc = s.mc := rfl
@[simp] theorem setSub_dram (s : State) (r : Nat) (x : SubRing) : (s.setSub r x).dram = s.dram := rfl
@[simp] theorem setSub_poison (s : State) (r : Nat) (x : SubRing) : (s.setSub r x).poison = s.poison := rfl
@[simp] theorem setSub_hostTags (s : State) (r : Nat) (x : SubRing) : (s.setSub r x).hostTags = s.hostTags := rfl
@[simp] theorem setSub_ats (s : State) (r : Nat) (x : SubRing) : (s.setSub r x).ats = s.ats := rfl
@[simp] theorem setSub_invals (s : State) (r : Nat) (x : SubRing) : (s.setSub r x).invals = s.invals := rfl
@[simp] theorem setSub_vault (s : State) (r : Nat) (x : SubRing) : (s.setSub r x).vault = s.vault := rfl
@[simp] theorem setSub_sht (s : State) (r : Nat) (x : SubRing) : (s.setSub r x).sht = s.sht := rfl
@[simp] theorem setSub_sledCmds (s : State) (r : Nat) (x : SubRing) : (s.setSub r x).sledCmds = s.sledCmds := rfl
@[simp] theorem setSub_ports (s : State) (r : Nat) (x : SubRing) : (s.setSub r x).ports = s.ports := rfl
@[simp] theorem setSub_readJobs (s : State) (r : Nat) (x : SubRing) : (s.setSub r x).readJobs = s.readJobs := rfl
@[simp] theorem setSub_devReads (s : State) (r : Nat) (x : SubRing) : (s.setSub r x).devReads = s.devReads := rfl
@[simp] theorem setSub_bobbin (s : State) (r : Nat) (x : SubRing) : (s.setSub r x).bobbin = s.bobbin := rfl
@[simp] theorem setSub_recorder (s : State) (r : Nat) (x : SubRing) : (s.setSub r x).recorder = s.recorder := rfl
@[simp] theorem setSub_power (s : State) (r : Nat) (x : SubRing) : (s.setSub r x).power = s.power := rfl
@[simp] theorem setSub_thermal (s : State) (r : Nat) (x : SubRing) : (s.setSub r x).thermal = s.thermal := rfl
@[simp] theorem setSub_boot (s : State) (r : Nat) (x : SubRing) : (s.setSub r x).boot = s.boot := rfl
@[simp] theorem setSub_fed (s : State) (r : Nat) (x : SubRing) : (s.setSub r x).fed = s.fed := rfl
@[simp] theorem setSub_doe (s : State) (r : Nat) (x : SubRing) : (s.setSub r x).doe = s.doe := rfl
@[simp] theorem setSub_eids (s : State) (r : Nat) (x : SubRing) : (s.setSub r x).eids = s.eids := rfl
@[simp] theorem setSub_tbaseLatch (s : State) (r : Nat) (x : SubRing) : (s.setSub r x).tbaseLatch = s.tbaseLatch := rfl
@[simp] theorem setSub_fetchLast (s : State) (r : Nat) (x : SubRing) : (s.setSub r x).fetchLast = s.fetchLast := rfl
@[simp] theorem setSub_out (s : State) (r : Nat) (x : SubRing) : (s.setSub r x).out = s.out := rfl
@[simp] theorem setSub_free (s : State) (r : Nat) (x : SubRing) : (s.setSub r x).free = s.free := rfl
@[simp] theorem setSub_pending (s : State) (r : Nat) (x : SubRing) : (s.setSub r x).pending = s.pending := rfl
@[simp] theorem setSub_reg (s : State) (r : Nat) (x : SubRing) (k : Nat) : (s.setSub r x).reg k = s.reg k := rfl
@[simp] theorem setSub_f (s : State) (r : Nat) (x : SubRing) (y : Field) : (s.setSub r x).f y = s.f y := rfl
@[simp] theorem setSub_flag (s : State) (r : Nat) (x : SubRing) (y : Field) : (s.setSub r x).flag y = s.flag y := rfl
@[simp] theorem setSub_thr (s : State) (r : Nat) (x : SubRing) (k : Nat) : (s.setSub r x).thr k = s.thr k := rfl
@[simp] theorem setSub_cpl (s : State) (r : Nat) (x : SubRing) (k : Nat) : (s.setSub r x).cpl k = s.cpl k := rfl
@[simp] theorem setSub_linkOff (s : State) (r : Nat) (x : SubRing) : (s.setSub r x).linkOff = s.linkOff := rfl

/-! ## State.setCpl -/

@[simp] theorem setCpl_hw (s : State) (q : Nat) (x : CplRing) : (s.setCpl q x).hw = s.hw := rfl
@[simp] theorem setCpl_tbase (s : State) (q : Nat) (x : CplRing) : (s.setCpl q x).tbase = s.tbase := rfl
@[simp] theorem setCpl_mode (s : State) (q : Nat) (x : CplRing) : (s.setCpl q x).mode = s.mode := rfl
@[simp] theorem setCpl_bar0 (s : State) (q : Nat) (x : CplRing) : (s.setCpl q x).bar0 = s.bar0 := rfl
@[simp] theorem setCpl_elog (s : State) (q : Nat) (x : CplRing) : (s.setCpl q x).elog = s.elog := rfl
@[simp] theorem setCpl_aon (s : State) (q : Nat) (x : CplRing) : (s.setCpl q x).aon = s.aon := rfl
@[simp] theorem setCpl_corrected (s : State) (q : Nat) (x : CplRing) : (s.setCpl q x).corrected = s.corrected := rfl
@[simp] theorem setCpl_health (s : State) (q : Nat) (x : CplRing) : (s.setCpl q x).health = s.health := rfl
@[simp] theorem setCpl_dump (s : State) (q : Nat) (x : CplRing) : (s.setCpl q x).dump = s.dump := rfl
@[simp] theorem setCpl_ep0 (s : State) (q : Nat) (x : CplRing) : (s.setCpl q x).ep0 = s.ep0 := rfl
@[simp] theorem setCpl_ep1 (s : State) (q : Nat) (x : CplRing) : (s.setCpl q x).ep1 = s.ep1 := rfl
@[simp] theorem setCpl_subRings (s : State) (q : Nat) (x : CplRing) : (s.setCpl q x).subRings = s.subRings := rfl
@[simp] theorem setCpl_pair (s : State) (q : Nat) (x : CplRing) : (s.setCpl q x).pair = s.pair := rfl
@[simp] theorem setCpl_threads (s : State) (q : Nat) (x : CplRing) : (s.setCpl q x).threads = s.threads := rfl
@[simp] theorem setCpl_skeins (s : State) (q : Nat) (x : CplRing) : (s.setCpl q x).skeins = s.skeins := rfl
@[simp] theorem setCpl_skeinUsed (s : State) (q : Nat) (x : CplRing) : (s.setCpl q x).skeinUsed = s.skeinUsed := rfl
@[simp] theorem setCpl_pmem (s : State) (q : Nat) (x : CplRing) : (s.setCpl q x).pmem = s.pmem := rfl
@[simp] theorem setCpl_master (s : State) (q : Nat) (x : CplRing) : (s.setCpl q x).master = s.master := rfl
@[simp] theorem setCpl_extents (s : State) (q : Nat) (x : CplRing) : (s.setCpl q x).extents = s.extents := rfl
@[simp] theorem setCpl_maskCleared (s : State) (q : Nat) (x : CplRing) : (s.setCpl q x).maskCleared = s.maskCleared := rfl
@[simp] theorem setCpl_faults (s : State) (q : Nat) (x : CplRing) : (s.setCpl q x).faults = s.faults := rfl
@[simp] theorem setCpl_workFaults (s : State) (q : Nat) (x : CplRing) : (s.setCpl q x).workFaults = s.workFaults := rfl
@[simp] theorem setCpl_prk (s : State) (q : Nat) (x : CplRing) : (s.setCpl q x).prk = s.prk := rfl
@[simp] theorem setCpl_arrays (s : State) (q : Nat) (x : CplRing) : (s.setCpl q x).arrays = s.arrays := rfl
@[simp] theorem setCpl_bands (s : State) (q : Nat) (x : CplRing) : (s.setCpl q x).bands = s.bands := rfl
@[simp] theorem setCpl_ewords (s : State) (q : Nat) (x : CplRing) : (s.setCpl q x).ewords = s.ewords := rfl
@[simp] theorem setCpl_sleds (s : State) (q : Nat) (x : CplRing) : (s.setCpl q x).sleds = s.sleds := rfl
@[simp] theorem setCpl_hoop (s : State) (q : Nat) (x : CplRing) : (s.setCpl q x).hoop = s.hoop := rfl
@[simp] theorem setCpl_lost (s : State) (q : Nat) (x : CplRing) : (s.setCpl q x).lost = s.lost := rfl
@[simp] theorem setCpl_map (s : State) (q : Nat) (x : CplRing) : (s.setCpl q x).map = s.map := rfl
@[simp] theorem setCpl_dlog (s : State) (q : Nat) (x : CplRing) : (s.setCpl q x).dlog = s.dlog := rfl
@[simp] theorem setCpl_mc (s : State) (q : Nat) (x : CplRing) : (s.setCpl q x).mc = s.mc := rfl
@[simp] theorem setCpl_dram (s : State) (q : Nat) (x : CplRing) : (s.setCpl q x).dram = s.dram := rfl
@[simp] theorem setCpl_poison (s : State) (q : Nat) (x : CplRing) : (s.setCpl q x).poison = s.poison := rfl
@[simp] theorem setCpl_hostTags (s : State) (q : Nat) (x : CplRing) : (s.setCpl q x).hostTags = s.hostTags := rfl
@[simp] theorem setCpl_ats (s : State) (q : Nat) (x : CplRing) : (s.setCpl q x).ats = s.ats := rfl
@[simp] theorem setCpl_invals (s : State) (q : Nat) (x : CplRing) : (s.setCpl q x).invals = s.invals := rfl
@[simp] theorem setCpl_vault (s : State) (q : Nat) (x : CplRing) : (s.setCpl q x).vault = s.vault := rfl
@[simp] theorem setCpl_sht (s : State) (q : Nat) (x : CplRing) : (s.setCpl q x).sht = s.sht := rfl
@[simp] theorem setCpl_sledCmds (s : State) (q : Nat) (x : CplRing) : (s.setCpl q x).sledCmds = s.sledCmds := rfl
@[simp] theorem setCpl_ports (s : State) (q : Nat) (x : CplRing) : (s.setCpl q x).ports = s.ports := rfl
@[simp] theorem setCpl_readJobs (s : State) (q : Nat) (x : CplRing) : (s.setCpl q x).readJobs = s.readJobs := rfl
@[simp] theorem setCpl_devReads (s : State) (q : Nat) (x : CplRing) : (s.setCpl q x).devReads = s.devReads := rfl
@[simp] theorem setCpl_bobbin (s : State) (q : Nat) (x : CplRing) : (s.setCpl q x).bobbin = s.bobbin := rfl
@[simp] theorem setCpl_recorder (s : State) (q : Nat) (x : CplRing) : (s.setCpl q x).recorder = s.recorder := rfl
@[simp] theorem setCpl_power (s : State) (q : Nat) (x : CplRing) : (s.setCpl q x).power = s.power := rfl
@[simp] theorem setCpl_thermal (s : State) (q : Nat) (x : CplRing) : (s.setCpl q x).thermal = s.thermal := rfl
@[simp] theorem setCpl_boot (s : State) (q : Nat) (x : CplRing) : (s.setCpl q x).boot = s.boot := rfl
@[simp] theorem setCpl_fed (s : State) (q : Nat) (x : CplRing) : (s.setCpl q x).fed = s.fed := rfl
@[simp] theorem setCpl_doe (s : State) (q : Nat) (x : CplRing) : (s.setCpl q x).doe = s.doe := rfl
@[simp] theorem setCpl_eids (s : State) (q : Nat) (x : CplRing) : (s.setCpl q x).eids = s.eids := rfl
@[simp] theorem setCpl_tbaseLatch (s : State) (q : Nat) (x : CplRing) : (s.setCpl q x).tbaseLatch = s.tbaseLatch := rfl
@[simp] theorem setCpl_fetchLast (s : State) (q : Nat) (x : CplRing) : (s.setCpl q x).fetchLast = s.fetchLast := rfl
@[simp] theorem setCpl_out (s : State) (q : Nat) (x : CplRing) : (s.setCpl q x).out = s.out := rfl
@[simp] theorem setCpl_free (s : State) (q : Nat) (x : CplRing) : (s.setCpl q x).free = s.free := rfl
@[simp] theorem setCpl_pending (s : State) (q : Nat) (x : CplRing) : (s.setCpl q x).pending = s.pending := rfl
@[simp] theorem setCpl_reg (s : State) (q : Nat) (x : CplRing) (k : Nat) : (s.setCpl q x).reg k = s.reg k := rfl
@[simp] theorem setCpl_f (s : State) (q : Nat) (x : CplRing) (y : Field) : (s.setCpl q x).f y = s.f y := rfl
@[simp] theorem setCpl_flag (s : State) (q : Nat) (x : CplRing) (y : Field) : (s.setCpl q x).flag y = s.flag y := rfl
@[simp] theorem setCpl_thr (s : State) (q : Nat) (x : CplRing) (k : Nat) : (s.setCpl q x).thr k = s.thr k := rfl
@[simp] theorem setCpl_sub (s : State) (q : Nat) (x : CplRing) (k : Nat) : (s.setCpl q x).sub k = s.sub k := rfl
@[simp] theorem setCpl_linkOff (s : State) (q : Nat) (x : CplRing) : (s.setCpl q x).linkOff = s.linkOff := rfl

/-! ## State.setPort -/

@[simp] theorem setPort_hw (s : State) (p : Nat) (x : Port) : (s.setPort p x).hw = s.hw := rfl
@[simp] theorem setPort_tbase (s : State) (p : Nat) (x : Port) : (s.setPort p x).tbase = s.tbase := rfl
@[simp] theorem setPort_mode (s : State) (p : Nat) (x : Port) : (s.setPort p x).mode = s.mode := rfl
@[simp] theorem setPort_bar0 (s : State) (p : Nat) (x : Port) : (s.setPort p x).bar0 = s.bar0 := rfl
@[simp] theorem setPort_elog (s : State) (p : Nat) (x : Port) : (s.setPort p x).elog = s.elog := rfl
@[simp] theorem setPort_aon (s : State) (p : Nat) (x : Port) : (s.setPort p x).aon = s.aon := rfl
@[simp] theorem setPort_corrected (s : State) (p : Nat) (x : Port) : (s.setPort p x).corrected = s.corrected := rfl
@[simp] theorem setPort_health (s : State) (p : Nat) (x : Port) : (s.setPort p x).health = s.health := rfl
@[simp] theorem setPort_dump (s : State) (p : Nat) (x : Port) : (s.setPort p x).dump = s.dump := rfl
@[simp] theorem setPort_ep0 (s : State) (p : Nat) (x : Port) : (s.setPort p x).ep0 = s.ep0 := rfl
@[simp] theorem setPort_ep1 (s : State) (p : Nat) (x : Port) : (s.setPort p x).ep1 = s.ep1 := rfl
@[simp] theorem setPort_subRings (s : State) (p : Nat) (x : Port) : (s.setPort p x).subRings = s.subRings := rfl
@[simp] theorem setPort_cplRings (s : State) (p : Nat) (x : Port) : (s.setPort p x).cplRings = s.cplRings := rfl
@[simp] theorem setPort_pair (s : State) (p : Nat) (x : Port) : (s.setPort p x).pair = s.pair := rfl
@[simp] theorem setPort_threads (s : State) (p : Nat) (x : Port) : (s.setPort p x).threads = s.threads := rfl
@[simp] theorem setPort_skeins (s : State) (p : Nat) (x : Port) : (s.setPort p x).skeins = s.skeins := rfl
@[simp] theorem setPort_skeinUsed (s : State) (p : Nat) (x : Port) : (s.setPort p x).skeinUsed = s.skeinUsed := rfl
@[simp] theorem setPort_pmem (s : State) (p : Nat) (x : Port) : (s.setPort p x).pmem = s.pmem := rfl
@[simp] theorem setPort_master (s : State) (p : Nat) (x : Port) : (s.setPort p x).master = s.master := rfl
@[simp] theorem setPort_extents (s : State) (p : Nat) (x : Port) : (s.setPort p x).extents = s.extents := rfl
@[simp] theorem setPort_maskCleared (s : State) (p : Nat) (x : Port) : (s.setPort p x).maskCleared = s.maskCleared := rfl
@[simp] theorem setPort_faults (s : State) (p : Nat) (x : Port) : (s.setPort p x).faults = s.faults := rfl
@[simp] theorem setPort_workFaults (s : State) (p : Nat) (x : Port) : (s.setPort p x).workFaults = s.workFaults := rfl
@[simp] theorem setPort_prk (s : State) (p : Nat) (x : Port) : (s.setPort p x).prk = s.prk := rfl
@[simp] theorem setPort_arrays (s : State) (p : Nat) (x : Port) : (s.setPort p x).arrays = s.arrays := rfl
@[simp] theorem setPort_bands (s : State) (p : Nat) (x : Port) : (s.setPort p x).bands = s.bands := rfl
@[simp] theorem setPort_ewords (s : State) (p : Nat) (x : Port) : (s.setPort p x).ewords = s.ewords := rfl
@[simp] theorem setPort_sleds (s : State) (p : Nat) (x : Port) : (s.setPort p x).sleds = s.sleds := rfl
@[simp] theorem setPort_hoop (s : State) (p : Nat) (x : Port) : (s.setPort p x).hoop = s.hoop := rfl
@[simp] theorem setPort_lost (s : State) (p : Nat) (x : Port) : (s.setPort p x).lost = s.lost := rfl
@[simp] theorem setPort_map (s : State) (p : Nat) (x : Port) : (s.setPort p x).map = s.map := rfl
@[simp] theorem setPort_dlog (s : State) (p : Nat) (x : Port) : (s.setPort p x).dlog = s.dlog := rfl
@[simp] theorem setPort_mc (s : State) (p : Nat) (x : Port) : (s.setPort p x).mc = s.mc := rfl
@[simp] theorem setPort_dram (s : State) (p : Nat) (x : Port) : (s.setPort p x).dram = s.dram := rfl
@[simp] theorem setPort_poison (s : State) (p : Nat) (x : Port) : (s.setPort p x).poison = s.poison := rfl
@[simp] theorem setPort_hostTags (s : State) (p : Nat) (x : Port) : (s.setPort p x).hostTags = s.hostTags := rfl
@[simp] theorem setPort_ats (s : State) (p : Nat) (x : Port) : (s.setPort p x).ats = s.ats := rfl
@[simp] theorem setPort_invals (s : State) (p : Nat) (x : Port) : (s.setPort p x).invals = s.invals := rfl
@[simp] theorem setPort_vault (s : State) (p : Nat) (x : Port) : (s.setPort p x).vault = s.vault := rfl
@[simp] theorem setPort_sht (s : State) (p : Nat) (x : Port) : (s.setPort p x).sht = s.sht := rfl
@[simp] theorem setPort_sledCmds (s : State) (p : Nat) (x : Port) : (s.setPort p x).sledCmds = s.sledCmds := rfl
@[simp] theorem setPort_readJobs (s : State) (p : Nat) (x : Port) : (s.setPort p x).readJobs = s.readJobs := rfl
@[simp] theorem setPort_devReads (s : State) (p : Nat) (x : Port) : (s.setPort p x).devReads = s.devReads := rfl
@[simp] theorem setPort_bobbin (s : State) (p : Nat) (x : Port) : (s.setPort p x).bobbin = s.bobbin := rfl
@[simp] theorem setPort_recorder (s : State) (p : Nat) (x : Port) : (s.setPort p x).recorder = s.recorder := rfl
@[simp] theorem setPort_power (s : State) (p : Nat) (x : Port) : (s.setPort p x).power = s.power := rfl
@[simp] theorem setPort_thermal (s : State) (p : Nat) (x : Port) : (s.setPort p x).thermal = s.thermal := rfl
@[simp] theorem setPort_boot (s : State) (p : Nat) (x : Port) : (s.setPort p x).boot = s.boot := rfl
@[simp] theorem setPort_fed (s : State) (p : Nat) (x : Port) : (s.setPort p x).fed = s.fed := rfl
@[simp] theorem setPort_doe (s : State) (p : Nat) (x : Port) : (s.setPort p x).doe = s.doe := rfl
@[simp] theorem setPort_eids (s : State) (p : Nat) (x : Port) : (s.setPort p x).eids = s.eids := rfl
@[simp] theorem setPort_tbaseLatch (s : State) (p : Nat) (x : Port) : (s.setPort p x).tbaseLatch = s.tbaseLatch := rfl
@[simp] theorem setPort_fetchLast (s : State) (p : Nat) (x : Port) : (s.setPort p x).fetchLast = s.fetchLast := rfl
@[simp] theorem setPort_out (s : State) (p : Nat) (x : Port) : (s.setPort p x).out = s.out := rfl
@[simp] theorem setPort_free (s : State) (p : Nat) (x : Port) : (s.setPort p x).free = s.free := rfl
@[simp] theorem setPort_pending (s : State) (p : Nat) (x : Port) : (s.setPort p x).pending = s.pending := rfl
@[simp] theorem setPort_reg (s : State) (p : Nat) (x : Port) (k : Nat) : (s.setPort p x).reg k = s.reg k := rfl
@[simp] theorem setPort_f (s : State) (p : Nat) (x : Port) (y : Field) : (s.setPort p x).f y = s.f y := rfl
@[simp] theorem setPort_flag (s : State) (p : Nat) (x : Port) (y : Field) : (s.setPort p x).flag y = s.flag y := rfl
@[simp] theorem setPort_thr (s : State) (p : Nat) (x : Port) (k : Nat) : (s.setPort p x).thr k = s.thr k := rfl
@[simp] theorem setPort_sub (s : State) (p : Nat) (x : Port) (k : Nat) : (s.setPort p x).sub k = s.sub k := rfl
@[simp] theorem setPort_cpl (s : State) (p : Nat) (x : Port) (k : Nat) : (s.setPort p x).cpl k = s.cpl k := rfl
@[simp] theorem setPort_linkOff (s : State) (p : Nat) (x : Port) : (s.setPort p x).linkOff = s.linkOff := rfl

/-! ## State.setHop -/

@[simp] theorem setHop_hw (s : State) (p h : Nat) (x : Hop) : (s.setHop p h x).hw = s.hw := rfl
@[simp] theorem setHop_tbase (s : State) (p h : Nat) (x : Hop) : (s.setHop p h x).tbase = s.tbase := rfl
@[simp] theorem setHop_mode (s : State) (p h : Nat) (x : Hop) : (s.setHop p h x).mode = s.mode := rfl
@[simp] theorem setHop_bar0 (s : State) (p h : Nat) (x : Hop) : (s.setHop p h x).bar0 = s.bar0 := rfl
@[simp] theorem setHop_elog (s : State) (p h : Nat) (x : Hop) : (s.setHop p h x).elog = s.elog := rfl
@[simp] theorem setHop_aon (s : State) (p h : Nat) (x : Hop) : (s.setHop p h x).aon = s.aon := rfl
@[simp] theorem setHop_corrected (s : State) (p h : Nat) (x : Hop) : (s.setHop p h x).corrected = s.corrected := rfl
@[simp] theorem setHop_health (s : State) (p h : Nat) (x : Hop) : (s.setHop p h x).health = s.health := rfl
@[simp] theorem setHop_dump (s : State) (p h : Nat) (x : Hop) : (s.setHop p h x).dump = s.dump := rfl
@[simp] theorem setHop_ep0 (s : State) (p h : Nat) (x : Hop) : (s.setHop p h x).ep0 = s.ep0 := rfl
@[simp] theorem setHop_ep1 (s : State) (p h : Nat) (x : Hop) : (s.setHop p h x).ep1 = s.ep1 := rfl
@[simp] theorem setHop_subRings (s : State) (p h : Nat) (x : Hop) : (s.setHop p h x).subRings = s.subRings := rfl
@[simp] theorem setHop_cplRings (s : State) (p h : Nat) (x : Hop) : (s.setHop p h x).cplRings = s.cplRings := rfl
@[simp] theorem setHop_pair (s : State) (p h : Nat) (x : Hop) : (s.setHop p h x).pair = s.pair := rfl
@[simp] theorem setHop_threads (s : State) (p h : Nat) (x : Hop) : (s.setHop p h x).threads = s.threads := rfl
@[simp] theorem setHop_skeins (s : State) (p h : Nat) (x : Hop) : (s.setHop p h x).skeins = s.skeins := rfl
@[simp] theorem setHop_skeinUsed (s : State) (p h : Nat) (x : Hop) : (s.setHop p h x).skeinUsed = s.skeinUsed := rfl
@[simp] theorem setHop_pmem (s : State) (p h : Nat) (x : Hop) : (s.setHop p h x).pmem = s.pmem := rfl
@[simp] theorem setHop_master (s : State) (p h : Nat) (x : Hop) : (s.setHop p h x).master = s.master := rfl
@[simp] theorem setHop_extents (s : State) (p h : Nat) (x : Hop) : (s.setHop p h x).extents = s.extents := rfl
@[simp] theorem setHop_maskCleared (s : State) (p h : Nat) (x : Hop) : (s.setHop p h x).maskCleared = s.maskCleared := rfl
@[simp] theorem setHop_faults (s : State) (p h : Nat) (x : Hop) : (s.setHop p h x).faults = s.faults := rfl
@[simp] theorem setHop_workFaults (s : State) (p h : Nat) (x : Hop) : (s.setHop p h x).workFaults = s.workFaults := rfl
@[simp] theorem setHop_prk (s : State) (p h : Nat) (x : Hop) : (s.setHop p h x).prk = s.prk := rfl
@[simp] theorem setHop_arrays (s : State) (p h : Nat) (x : Hop) : (s.setHop p h x).arrays = s.arrays := rfl
@[simp] theorem setHop_bands (s : State) (p h : Nat) (x : Hop) : (s.setHop p h x).bands = s.bands := rfl
@[simp] theorem setHop_ewords (s : State) (p h : Nat) (x : Hop) : (s.setHop p h x).ewords = s.ewords := rfl
@[simp] theorem setHop_sleds (s : State) (p h : Nat) (x : Hop) : (s.setHop p h x).sleds = s.sleds := rfl
@[simp] theorem setHop_hoop (s : State) (p h : Nat) (x : Hop) : (s.setHop p h x).hoop = s.hoop := rfl
@[simp] theorem setHop_lost (s : State) (p h : Nat) (x : Hop) : (s.setHop p h x).lost = s.lost := rfl
@[simp] theorem setHop_map (s : State) (p h : Nat) (x : Hop) : (s.setHop p h x).map = s.map := rfl
@[simp] theorem setHop_dlog (s : State) (p h : Nat) (x : Hop) : (s.setHop p h x).dlog = s.dlog := rfl
@[simp] theorem setHop_mc (s : State) (p h : Nat) (x : Hop) : (s.setHop p h x).mc = s.mc := rfl
@[simp] theorem setHop_dram (s : State) (p h : Nat) (x : Hop) : (s.setHop p h x).dram = s.dram := rfl
@[simp] theorem setHop_poison (s : State) (p h : Nat) (x : Hop) : (s.setHop p h x).poison = s.poison := rfl
@[simp] theorem setHop_hostTags (s : State) (p h : Nat) (x : Hop) : (s.setHop p h x).hostTags = s.hostTags := rfl
@[simp] theorem setHop_ats (s : State) (p h : Nat) (x : Hop) : (s.setHop p h x).ats = s.ats := rfl
@[simp] theorem setHop_invals (s : State) (p h : Nat) (x : Hop) : (s.setHop p h x).invals = s.invals := rfl
@[simp] theorem setHop_vault (s : State) (p h : Nat) (x : Hop) : (s.setHop p h x).vault = s.vault := rfl
@[simp] theorem setHop_sht (s : State) (p h : Nat) (x : Hop) : (s.setHop p h x).sht = s.sht := rfl
@[simp] theorem setHop_sledCmds (s : State) (p h : Nat) (x : Hop) : (s.setHop p h x).sledCmds = s.sledCmds := rfl
@[simp] theorem setHop_ports (s : State) (p h : Nat) (x : Hop) : (s.setHop p h x).ports = s.ports := rfl
@[simp] theorem setHop_readJobs (s : State) (p h : Nat) (x : Hop) : (s.setHop p h x).readJobs = s.readJobs := rfl
@[simp] theorem setHop_devReads (s : State) (p h : Nat) (x : Hop) : (s.setHop p h x).devReads = s.devReads := rfl
@[simp] theorem setHop_recorder (s : State) (p h : Nat) (x : Hop) : (s.setHop p h x).recorder = s.recorder := rfl
@[simp] theorem setHop_power (s : State) (p h : Nat) (x : Hop) : (s.setHop p h x).power = s.power := rfl
@[simp] theorem setHop_thermal (s : State) (p h : Nat) (x : Hop) : (s.setHop p h x).thermal = s.thermal := rfl
@[simp] theorem setHop_boot (s : State) (p h : Nat) (x : Hop) : (s.setHop p h x).boot = s.boot := rfl
@[simp] theorem setHop_fed (s : State) (p h : Nat) (x : Hop) : (s.setHop p h x).fed = s.fed := rfl
@[simp] theorem setHop_doe (s : State) (p h : Nat) (x : Hop) : (s.setHop p h x).doe = s.doe := rfl
@[simp] theorem setHop_eids (s : State) (p h : Nat) (x : Hop) : (s.setHop p h x).eids = s.eids := rfl
@[simp] theorem setHop_tbaseLatch (s : State) (p h : Nat) (x : Hop) : (s.setHop p h x).tbaseLatch = s.tbaseLatch := rfl
@[simp] theorem setHop_fetchLast (s : State) (p h : Nat) (x : Hop) : (s.setHop p h x).fetchLast = s.fetchLast := rfl
@[simp] theorem setHop_out (s : State) (p h : Nat) (x : Hop) : (s.setHop p h x).out = s.out := rfl
@[simp] theorem setHop_free (s : State) (p h : Nat) (x : Hop) : (s.setHop p h x).free = s.free := rfl
@[simp] theorem setHop_pending (s : State) (p h : Nat) (x : Hop) : (s.setHop p h x).pending = s.pending := rfl
@[simp] theorem setHop_reg (s : State) (p h : Nat) (x : Hop) (k : Nat) : (s.setHop p h x).reg k = s.reg k := rfl
@[simp] theorem setHop_f (s : State) (p h : Nat) (x : Hop) (y : Field) : (s.setHop p h x).f y = s.f y := rfl
@[simp] theorem setHop_flag (s : State) (p h : Nat) (x : Hop) (y : Field) : (s.setHop p h x).flag y = s.flag y := rfl
@[simp] theorem setHop_thr (s : State) (p h : Nat) (x : Hop) (k : Nat) : (s.setHop p h x).thr k = s.thr k := rfl
@[simp] theorem setHop_sub (s : State) (p h : Nat) (x : Hop) (k : Nat) : (s.setHop p h x).sub k = s.sub k := rfl
@[simp] theorem setHop_cpl (s : State) (p h : Nat) (x : Hop) (k : Nat) : (s.setHop p h x).cpl k = s.cpl k := rfl
@[simp] theorem setHop_linkOff (s : State) (p h : Nat) (x : Hop) : (s.setHop p h x).linkOff = s.linkOff := rfl

/-! ## State.setChan -/

@[simp] theorem setChan_hw (s : State) (n : Nat) (x : ShtChan) : (s.setChan n x).hw = s.hw := rfl
@[simp] theorem setChan_tbase (s : State) (n : Nat) (x : ShtChan) : (s.setChan n x).tbase = s.tbase := rfl
@[simp] theorem setChan_mode (s : State) (n : Nat) (x : ShtChan) : (s.setChan n x).mode = s.mode := rfl
@[simp] theorem setChan_bar0 (s : State) (n : Nat) (x : ShtChan) : (s.setChan n x).bar0 = s.bar0 := rfl
@[simp] theorem setChan_elog (s : State) (n : Nat) (x : ShtChan) : (s.setChan n x).elog = s.elog := rfl
@[simp] theorem setChan_aon (s : State) (n : Nat) (x : ShtChan) : (s.setChan n x).aon = s.aon := rfl
@[simp] theorem setChan_corrected (s : State) (n : Nat) (x : ShtChan) : (s.setChan n x).corrected = s.corrected := rfl
@[simp] theorem setChan_health (s : State) (n : Nat) (x : ShtChan) : (s.setChan n x).health = s.health := rfl
@[simp] theorem setChan_dump (s : State) (n : Nat) (x : ShtChan) : (s.setChan n x).dump = s.dump := rfl
@[simp] theorem setChan_ep0 (s : State) (n : Nat) (x : ShtChan) : (s.setChan n x).ep0 = s.ep0 := rfl
@[simp] theorem setChan_ep1 (s : State) (n : Nat) (x : ShtChan) : (s.setChan n x).ep1 = s.ep1 := rfl
@[simp] theorem setChan_subRings (s : State) (n : Nat) (x : ShtChan) : (s.setChan n x).subRings = s.subRings := rfl
@[simp] theorem setChan_cplRings (s : State) (n : Nat) (x : ShtChan) : (s.setChan n x).cplRings = s.cplRings := rfl
@[simp] theorem setChan_pair (s : State) (n : Nat) (x : ShtChan) : (s.setChan n x).pair = s.pair := rfl
@[simp] theorem setChan_threads (s : State) (n : Nat) (x : ShtChan) : (s.setChan n x).threads = s.threads := rfl
@[simp] theorem setChan_skeins (s : State) (n : Nat) (x : ShtChan) : (s.setChan n x).skeins = s.skeins := rfl
@[simp] theorem setChan_skeinUsed (s : State) (n : Nat) (x : ShtChan) : (s.setChan n x).skeinUsed = s.skeinUsed := rfl
@[simp] theorem setChan_pmem (s : State) (n : Nat) (x : ShtChan) : (s.setChan n x).pmem = s.pmem := rfl
@[simp] theorem setChan_master (s : State) (n : Nat) (x : ShtChan) : (s.setChan n x).master = s.master := rfl
@[simp] theorem setChan_extents (s : State) (n : Nat) (x : ShtChan) : (s.setChan n x).extents = s.extents := rfl
@[simp] theorem setChan_maskCleared (s : State) (n : Nat) (x : ShtChan) : (s.setChan n x).maskCleared = s.maskCleared := rfl
@[simp] theorem setChan_faults (s : State) (n : Nat) (x : ShtChan) : (s.setChan n x).faults = s.faults := rfl
@[simp] theorem setChan_workFaults (s : State) (n : Nat) (x : ShtChan) : (s.setChan n x).workFaults = s.workFaults := rfl
@[simp] theorem setChan_prk (s : State) (n : Nat) (x : ShtChan) : (s.setChan n x).prk = s.prk := rfl
@[simp] theorem setChan_arrays (s : State) (n : Nat) (x : ShtChan) : (s.setChan n x).arrays = s.arrays := rfl
@[simp] theorem setChan_bands (s : State) (n : Nat) (x : ShtChan) : (s.setChan n x).bands = s.bands := rfl
@[simp] theorem setChan_ewords (s : State) (n : Nat) (x : ShtChan) : (s.setChan n x).ewords = s.ewords := rfl
@[simp] theorem setChan_sleds (s : State) (n : Nat) (x : ShtChan) : (s.setChan n x).sleds = s.sleds := rfl
@[simp] theorem setChan_hoop (s : State) (n : Nat) (x : ShtChan) : (s.setChan n x).hoop = s.hoop := rfl
@[simp] theorem setChan_lost (s : State) (n : Nat) (x : ShtChan) : (s.setChan n x).lost = s.lost := rfl
@[simp] theorem setChan_map (s : State) (n : Nat) (x : ShtChan) : (s.setChan n x).map = s.map := rfl
@[simp] theorem setChan_dlog (s : State) (n : Nat) (x : ShtChan) : (s.setChan n x).dlog = s.dlog := rfl
@[simp] theorem setChan_mc (s : State) (n : Nat) (x : ShtChan) : (s.setChan n x).mc = s.mc := rfl
@[simp] theorem setChan_dram (s : State) (n : Nat) (x : ShtChan) : (s.setChan n x).dram = s.dram := rfl
@[simp] theorem setChan_poison (s : State) (n : Nat) (x : ShtChan) : (s.setChan n x).poison = s.poison := rfl
@[simp] theorem setChan_hostTags (s : State) (n : Nat) (x : ShtChan) : (s.setChan n x).hostTags = s.hostTags := rfl
@[simp] theorem setChan_ats (s : State) (n : Nat) (x : ShtChan) : (s.setChan n x).ats = s.ats := rfl
@[simp] theorem setChan_invals (s : State) (n : Nat) (x : ShtChan) : (s.setChan n x).invals = s.invals := rfl
@[simp] theorem setChan_vault (s : State) (n : Nat) (x : ShtChan) : (s.setChan n x).vault = s.vault := rfl
@[simp] theorem setChan_sledCmds (s : State) (n : Nat) (x : ShtChan) : (s.setChan n x).sledCmds = s.sledCmds := rfl
@[simp] theorem setChan_ports (s : State) (n : Nat) (x : ShtChan) : (s.setChan n x).ports = s.ports := rfl
@[simp] theorem setChan_readJobs (s : State) (n : Nat) (x : ShtChan) : (s.setChan n x).readJobs = s.readJobs := rfl
@[simp] theorem setChan_devReads (s : State) (n : Nat) (x : ShtChan) : (s.setChan n x).devReads = s.devReads := rfl
@[simp] theorem setChan_bobbin (s : State) (n : Nat) (x : ShtChan) : (s.setChan n x).bobbin = s.bobbin := rfl
@[simp] theorem setChan_recorder (s : State) (n : Nat) (x : ShtChan) : (s.setChan n x).recorder = s.recorder := rfl
@[simp] theorem setChan_power (s : State) (n : Nat) (x : ShtChan) : (s.setChan n x).power = s.power := rfl
@[simp] theorem setChan_thermal (s : State) (n : Nat) (x : ShtChan) : (s.setChan n x).thermal = s.thermal := rfl
@[simp] theorem setChan_boot (s : State) (n : Nat) (x : ShtChan) : (s.setChan n x).boot = s.boot := rfl
@[simp] theorem setChan_fed (s : State) (n : Nat) (x : ShtChan) : (s.setChan n x).fed = s.fed := rfl
@[simp] theorem setChan_doe (s : State) (n : Nat) (x : ShtChan) : (s.setChan n x).doe = s.doe := rfl
@[simp] theorem setChan_eids (s : State) (n : Nat) (x : ShtChan) : (s.setChan n x).eids = s.eids := rfl
@[simp] theorem setChan_tbaseLatch (s : State) (n : Nat) (x : ShtChan) : (s.setChan n x).tbaseLatch = s.tbaseLatch := rfl
@[simp] theorem setChan_fetchLast (s : State) (n : Nat) (x : ShtChan) : (s.setChan n x).fetchLast = s.fetchLast := rfl
@[simp] theorem setChan_out (s : State) (n : Nat) (x : ShtChan) : (s.setChan n x).out = s.out := rfl
@[simp] theorem setChan_free (s : State) (n : Nat) (x : ShtChan) : (s.setChan n x).free = s.free := rfl
@[simp] theorem setChan_pending (s : State) (n : Nat) (x : ShtChan) : (s.setChan n x).pending = s.pending := rfl
@[simp] theorem setChan_reg (s : State) (n : Nat) (x : ShtChan) (k : Nat) : (s.setChan n x).reg k = s.reg k := rfl
@[simp] theorem setChan_f (s : State) (n : Nat) (x : ShtChan) (y : Field) : (s.setChan n x).f y = s.f y := rfl
@[simp] theorem setChan_flag (s : State) (n : Nat) (x : ShtChan) (y : Field) : (s.setChan n x).flag y = s.flag y := rfl
@[simp] theorem setChan_thr (s : State) (n : Nat) (x : ShtChan) (k : Nat) : (s.setChan n x).thr k = s.thr k := rfl
@[simp] theorem setChan_sub (s : State) (n : Nat) (x : ShtChan) (k : Nat) : (s.setChan n x).sub k = s.sub k := rfl
@[simp] theorem setChan_cpl (s : State) (n : Nat) (x : ShtChan) (k : Nat) : (s.setChan n x).cpl k = s.cpl k := rfl
@[simp] theorem setChan_linkOff (s : State) (n : Nat) (x : ShtChan) : (s.setChan n x).linkOff = s.linkOff := rfl

/-! ## State.setLine -/

@[simp] theorem setLine_hw (s : State) (set way : Nat) (l : CacheLine) : (s.setLine set way l).hw = s.hw := rfl
@[simp] theorem setLine_tbase (s : State) (set way : Nat) (l : CacheLine) : (s.setLine set way l).tbase = s.tbase := rfl
@[simp] theorem setLine_mode (s : State) (set way : Nat) (l : CacheLine) : (s.setLine set way l).mode = s.mode := rfl
@[simp] theorem setLine_bar0 (s : State) (set way : Nat) (l : CacheLine) : (s.setLine set way l).bar0 = s.bar0 := rfl
@[simp] theorem setLine_elog (s : State) (set way : Nat) (l : CacheLine) : (s.setLine set way l).elog = s.elog := rfl
@[simp] theorem setLine_aon (s : State) (set way : Nat) (l : CacheLine) : (s.setLine set way l).aon = s.aon := rfl
@[simp] theorem setLine_corrected (s : State) (set way : Nat) (l : CacheLine) : (s.setLine set way l).corrected = s.corrected := rfl
@[simp] theorem setLine_health (s : State) (set way : Nat) (l : CacheLine) : (s.setLine set way l).health = s.health := rfl
@[simp] theorem setLine_dump (s : State) (set way : Nat) (l : CacheLine) : (s.setLine set way l).dump = s.dump := rfl
@[simp] theorem setLine_ep0 (s : State) (set way : Nat) (l : CacheLine) : (s.setLine set way l).ep0 = s.ep0 := rfl
@[simp] theorem setLine_ep1 (s : State) (set way : Nat) (l : CacheLine) : (s.setLine set way l).ep1 = s.ep1 := rfl
@[simp] theorem setLine_subRings (s : State) (set way : Nat) (l : CacheLine) : (s.setLine set way l).subRings = s.subRings := rfl
@[simp] theorem setLine_cplRings (s : State) (set way : Nat) (l : CacheLine) : (s.setLine set way l).cplRings = s.cplRings := rfl
@[simp] theorem setLine_pair (s : State) (set way : Nat) (l : CacheLine) : (s.setLine set way l).pair = s.pair := rfl
@[simp] theorem setLine_threads (s : State) (set way : Nat) (l : CacheLine) : (s.setLine set way l).threads = s.threads := rfl
@[simp] theorem setLine_skeins (s : State) (set way : Nat) (l : CacheLine) : (s.setLine set way l).skeins = s.skeins := rfl
@[simp] theorem setLine_skeinUsed (s : State) (set way : Nat) (l : CacheLine) : (s.setLine set way l).skeinUsed = s.skeinUsed := rfl
@[simp] theorem setLine_pmem (s : State) (set way : Nat) (l : CacheLine) : (s.setLine set way l).pmem = s.pmem := rfl
@[simp] theorem setLine_master (s : State) (set way : Nat) (l : CacheLine) : (s.setLine set way l).master = s.master := rfl
@[simp] theorem setLine_extents (s : State) (set way : Nat) (l : CacheLine) : (s.setLine set way l).extents = s.extents := rfl
@[simp] theorem setLine_maskCleared (s : State) (set way : Nat) (l : CacheLine) : (s.setLine set way l).maskCleared = s.maskCleared := rfl
@[simp] theorem setLine_faults (s : State) (set way : Nat) (l : CacheLine) : (s.setLine set way l).faults = s.faults := rfl
@[simp] theorem setLine_workFaults (s : State) (set way : Nat) (l : CacheLine) : (s.setLine set way l).workFaults = s.workFaults := rfl
@[simp] theorem setLine_prk (s : State) (set way : Nat) (l : CacheLine) : (s.setLine set way l).prk = s.prk := rfl
@[simp] theorem setLine_arrays (s : State) (set way : Nat) (l : CacheLine) : (s.setLine set way l).arrays = s.arrays := rfl
@[simp] theorem setLine_bands (s : State) (set way : Nat) (l : CacheLine) : (s.setLine set way l).bands = s.bands := rfl
@[simp] theorem setLine_ewords (s : State) (set way : Nat) (l : CacheLine) : (s.setLine set way l).ewords = s.ewords := rfl
@[simp] theorem setLine_sleds (s : State) (set way : Nat) (l : CacheLine) : (s.setLine set way l).sleds = s.sleds := rfl
@[simp] theorem setLine_hoop (s : State) (set way : Nat) (l : CacheLine) : (s.setLine set way l).hoop = s.hoop := rfl
@[simp] theorem setLine_lost (s : State) (set way : Nat) (l : CacheLine) : (s.setLine set way l).lost = s.lost := rfl
@[simp] theorem setLine_map (s : State) (set way : Nat) (l : CacheLine) : (s.setLine set way l).map = s.map := rfl
@[simp] theorem setLine_dlog (s : State) (set way : Nat) (l : CacheLine) : (s.setLine set way l).dlog = s.dlog := rfl
@[simp] theorem setLine_dram (s : State) (set way : Nat) (l : CacheLine) : (s.setLine set way l).dram = s.dram := rfl
@[simp] theorem setLine_poison (s : State) (set way : Nat) (l : CacheLine) : (s.setLine set way l).poison = s.poison := rfl
@[simp] theorem setLine_hostTags (s : State) (set way : Nat) (l : CacheLine) : (s.setLine set way l).hostTags = s.hostTags := rfl
@[simp] theorem setLine_ats (s : State) (set way : Nat) (l : CacheLine) : (s.setLine set way l).ats = s.ats := rfl
@[simp] theorem setLine_invals (s : State) (set way : Nat) (l : CacheLine) : (s.setLine set way l).invals = s.invals := rfl
@[simp] theorem setLine_vault (s : State) (set way : Nat) (l : CacheLine) : (s.setLine set way l).vault = s.vault := rfl
@[simp] theorem setLine_sht (s : State) (set way : Nat) (l : CacheLine) : (s.setLine set way l).sht = s.sht := rfl
@[simp] theorem setLine_sledCmds (s : State) (set way : Nat) (l : CacheLine) : (s.setLine set way l).sledCmds = s.sledCmds := rfl
@[simp] theorem setLine_ports (s : State) (set way : Nat) (l : CacheLine) : (s.setLine set way l).ports = s.ports := rfl
@[simp] theorem setLine_readJobs (s : State) (set way : Nat) (l : CacheLine) : (s.setLine set way l).readJobs = s.readJobs := rfl
@[simp] theorem setLine_devReads (s : State) (set way : Nat) (l : CacheLine) : (s.setLine set way l).devReads = s.devReads := rfl
@[simp] theorem setLine_bobbin (s : State) (set way : Nat) (l : CacheLine) : (s.setLine set way l).bobbin = s.bobbin := rfl
@[simp] theorem setLine_recorder (s : State) (set way : Nat) (l : CacheLine) : (s.setLine set way l).recorder = s.recorder := rfl
@[simp] theorem setLine_power (s : State) (set way : Nat) (l : CacheLine) : (s.setLine set way l).power = s.power := rfl
@[simp] theorem setLine_thermal (s : State) (set way : Nat) (l : CacheLine) : (s.setLine set way l).thermal = s.thermal := rfl
@[simp] theorem setLine_boot (s : State) (set way : Nat) (l : CacheLine) : (s.setLine set way l).boot = s.boot := rfl
@[simp] theorem setLine_fed (s : State) (set way : Nat) (l : CacheLine) : (s.setLine set way l).fed = s.fed := rfl
@[simp] theorem setLine_doe (s : State) (set way : Nat) (l : CacheLine) : (s.setLine set way l).doe = s.doe := rfl
@[simp] theorem setLine_eids (s : State) (set way : Nat) (l : CacheLine) : (s.setLine set way l).eids = s.eids := rfl
@[simp] theorem setLine_tbaseLatch (s : State) (set way : Nat) (l : CacheLine) : (s.setLine set way l).tbaseLatch = s.tbaseLatch := rfl
@[simp] theorem setLine_fetchLast (s : State) (set way : Nat) (l : CacheLine) : (s.setLine set way l).fetchLast = s.fetchLast := rfl
@[simp] theorem setLine_out (s : State) (set way : Nat) (l : CacheLine) : (s.setLine set way l).out = s.out := rfl
@[simp] theorem setLine_free (s : State) (set way : Nat) (l : CacheLine) : (s.setLine set way l).free = s.free := rfl
@[simp] theorem setLine_pending (s : State) (set way : Nat) (l : CacheLine) : (s.setLine set way l).pending = s.pending := rfl
@[simp] theorem setLine_reg (s : State) (set way : Nat) (l : CacheLine) (k : Nat) : (s.setLine set way l).reg k = s.reg k := rfl
@[simp] theorem setLine_f (s : State) (set way : Nat) (l : CacheLine) (y : Field) : (s.setLine set way l).f y = s.f y := rfl
@[simp] theorem setLine_flag (s : State) (set way : Nat) (l : CacheLine) (y : Field) : (s.setLine set way l).flag y = s.flag y := rfl
@[simp] theorem setLine_thr (s : State) (set way : Nat) (l : CacheLine) (k : Nat) : (s.setLine set way l).thr k = s.thr k := rfl
@[simp] theorem setLine_sub (s : State) (set way : Nat) (l : CacheLine) (k : Nat) : (s.setLine set way l).sub k = s.sub k := rfl
@[simp] theorem setLine_cpl (s : State) (set way : Nat) (l : CacheLine) (k : Nat) : (s.setLine set way l).cpl k = s.cpl k := rfl
@[simp] theorem setLine_linkOff (s : State) (set way : Nat) (l : CacheLine) : (s.setLine set way l).linkOff = s.linkOff := rfl

/-! ## State.setBand -/

@[simp] theorem setBand_hw (s : State) (a b : Nat) (x : Band) : (s.setBand a b x).hw = s.hw := rfl
@[simp] theorem setBand_tbase (s : State) (a b : Nat) (x : Band) : (s.setBand a b x).tbase = s.tbase := rfl
@[simp] theorem setBand_mode (s : State) (a b : Nat) (x : Band) : (s.setBand a b x).mode = s.mode := rfl
@[simp] theorem setBand_bar0 (s : State) (a b : Nat) (x : Band) : (s.setBand a b x).bar0 = s.bar0 := rfl
@[simp] theorem setBand_elog (s : State) (a b : Nat) (x : Band) : (s.setBand a b x).elog = s.elog := rfl
@[simp] theorem setBand_aon (s : State) (a b : Nat) (x : Band) : (s.setBand a b x).aon = s.aon := rfl
@[simp] theorem setBand_corrected (s : State) (a b : Nat) (x : Band) : (s.setBand a b x).corrected = s.corrected := rfl
@[simp] theorem setBand_health (s : State) (a b : Nat) (x : Band) : (s.setBand a b x).health = s.health := rfl
@[simp] theorem setBand_dump (s : State) (a b : Nat) (x : Band) : (s.setBand a b x).dump = s.dump := rfl
@[simp] theorem setBand_ep0 (s : State) (a b : Nat) (x : Band) : (s.setBand a b x).ep0 = s.ep0 := rfl
@[simp] theorem setBand_ep1 (s : State) (a b : Nat) (x : Band) : (s.setBand a b x).ep1 = s.ep1 := rfl
@[simp] theorem setBand_subRings (s : State) (a b : Nat) (x : Band) : (s.setBand a b x).subRings = s.subRings := rfl
@[simp] theorem setBand_cplRings (s : State) (a b : Nat) (x : Band) : (s.setBand a b x).cplRings = s.cplRings := rfl
@[simp] theorem setBand_pair (s : State) (a b : Nat) (x : Band) : (s.setBand a b x).pair = s.pair := rfl
@[simp] theorem setBand_threads (s : State) (a b : Nat) (x : Band) : (s.setBand a b x).threads = s.threads := rfl
@[simp] theorem setBand_skeins (s : State) (a b : Nat) (x : Band) : (s.setBand a b x).skeins = s.skeins := rfl
@[simp] theorem setBand_skeinUsed (s : State) (a b : Nat) (x : Band) : (s.setBand a b x).skeinUsed = s.skeinUsed := rfl
@[simp] theorem setBand_pmem (s : State) (a b : Nat) (x : Band) : (s.setBand a b x).pmem = s.pmem := rfl
@[simp] theorem setBand_master (s : State) (a b : Nat) (x : Band) : (s.setBand a b x).master = s.master := rfl
@[simp] theorem setBand_extents (s : State) (a b : Nat) (x : Band) : (s.setBand a b x).extents = s.extents := rfl
@[simp] theorem setBand_maskCleared (s : State) (a b : Nat) (x : Band) : (s.setBand a b x).maskCleared = s.maskCleared := rfl
@[simp] theorem setBand_faults (s : State) (a b : Nat) (x : Band) : (s.setBand a b x).faults = s.faults := rfl
@[simp] theorem setBand_workFaults (s : State) (a b : Nat) (x : Band) : (s.setBand a b x).workFaults = s.workFaults := rfl
@[simp] theorem setBand_prk (s : State) (a b : Nat) (x : Band) : (s.setBand a b x).prk = s.prk := rfl
@[simp] theorem setBand_arrays (s : State) (a b : Nat) (x : Band) : (s.setBand a b x).arrays = s.arrays := rfl
@[simp] theorem setBand_ewords (s : State) (a b : Nat) (x : Band) : (s.setBand a b x).ewords = s.ewords := rfl
@[simp] theorem setBand_sleds (s : State) (a b : Nat) (x : Band) : (s.setBand a b x).sleds = s.sleds := rfl
@[simp] theorem setBand_hoop (s : State) (a b : Nat) (x : Band) : (s.setBand a b x).hoop = s.hoop := rfl
@[simp] theorem setBand_lost (s : State) (a b : Nat) (x : Band) : (s.setBand a b x).lost = s.lost := rfl
@[simp] theorem setBand_map (s : State) (a b : Nat) (x : Band) : (s.setBand a b x).map = s.map := rfl
@[simp] theorem setBand_dlog (s : State) (a b : Nat) (x : Band) : (s.setBand a b x).dlog = s.dlog := rfl
@[simp] theorem setBand_mc (s : State) (a b : Nat) (x : Band) : (s.setBand a b x).mc = s.mc := rfl
@[simp] theorem setBand_dram (s : State) (a b : Nat) (x : Band) : (s.setBand a b x).dram = s.dram := rfl
@[simp] theorem setBand_poison (s : State) (a b : Nat) (x : Band) : (s.setBand a b x).poison = s.poison := rfl
@[simp] theorem setBand_hostTags (s : State) (a b : Nat) (x : Band) : (s.setBand a b x).hostTags = s.hostTags := rfl
@[simp] theorem setBand_ats (s : State) (a b : Nat) (x : Band) : (s.setBand a b x).ats = s.ats := rfl
@[simp] theorem setBand_invals (s : State) (a b : Nat) (x : Band) : (s.setBand a b x).invals = s.invals := rfl
@[simp] theorem setBand_vault (s : State) (a b : Nat) (x : Band) : (s.setBand a b x).vault = s.vault := rfl
@[simp] theorem setBand_sht (s : State) (a b : Nat) (x : Band) : (s.setBand a b x).sht = s.sht := rfl
@[simp] theorem setBand_sledCmds (s : State) (a b : Nat) (x : Band) : (s.setBand a b x).sledCmds = s.sledCmds := rfl
@[simp] theorem setBand_ports (s : State) (a b : Nat) (x : Band) : (s.setBand a b x).ports = s.ports := rfl
@[simp] theorem setBand_readJobs (s : State) (a b : Nat) (x : Band) : (s.setBand a b x).readJobs = s.readJobs := rfl
@[simp] theorem setBand_devReads (s : State) (a b : Nat) (x : Band) : (s.setBand a b x).devReads = s.devReads := rfl
@[simp] theorem setBand_bobbin (s : State) (a b : Nat) (x : Band) : (s.setBand a b x).bobbin = s.bobbin := rfl
@[simp] theorem setBand_recorder (s : State) (a b : Nat) (x : Band) : (s.setBand a b x).recorder = s.recorder := rfl
@[simp] theorem setBand_power (s : State) (a b : Nat) (x : Band) : (s.setBand a b x).power = s.power := rfl
@[simp] theorem setBand_thermal (s : State) (a b : Nat) (x : Band) : (s.setBand a b x).thermal = s.thermal := rfl
@[simp] theorem setBand_boot (s : State) (a b : Nat) (x : Band) : (s.setBand a b x).boot = s.boot := rfl
@[simp] theorem setBand_fed (s : State) (a b : Nat) (x : Band) : (s.setBand a b x).fed = s.fed := rfl
@[simp] theorem setBand_doe (s : State) (a b : Nat) (x : Band) : (s.setBand a b x).doe = s.doe := rfl
@[simp] theorem setBand_eids (s : State) (a b : Nat) (x : Band) : (s.setBand a b x).eids = s.eids := rfl
@[simp] theorem setBand_tbaseLatch (s : State) (a b : Nat) (x : Band) : (s.setBand a b x).tbaseLatch = s.tbaseLatch := rfl
@[simp] theorem setBand_fetchLast (s : State) (a b : Nat) (x : Band) : (s.setBand a b x).fetchLast = s.fetchLast := rfl
@[simp] theorem setBand_out (s : State) (a b : Nat) (x : Band) : (s.setBand a b x).out = s.out := rfl
@[simp] theorem setBand_free (s : State) (a b : Nat) (x : Band) : (s.setBand a b x).free = s.free := rfl
@[simp] theorem setBand_pending (s : State) (a b : Nat) (x : Band) : (s.setBand a b x).pending = s.pending := rfl
@[simp] theorem setBand_reg (s : State) (a b : Nat) (x : Band) (k : Nat) : (s.setBand a b x).reg k = s.reg k := rfl
@[simp] theorem setBand_f (s : State) (a b : Nat) (x : Band) (y : Field) : (s.setBand a b x).f y = s.f y := rfl
@[simp] theorem setBand_flag (s : State) (a b : Nat) (x : Band) (y : Field) : (s.setBand a b x).flag y = s.flag y := rfl
@[simp] theorem setBand_thr (s : State) (a b : Nat) (x : Band) (k : Nat) : (s.setBand a b x).thr k = s.thr k := rfl
@[simp] theorem setBand_sub (s : State) (a b : Nat) (x : Band) (k : Nat) : (s.setBand a b x).sub k = s.sub k := rfl
@[simp] theorem setBand_cpl (s : State) (a b : Nat) (x : Band) (k : Nat) : (s.setBand a b x).cpl k = s.cpl k := rfl
@[simp] theorem setBand_linkOff (s : State) (a b : Nat) (x : Band) : (s.setBand a b x).linkOff = s.linkOff := rfl

/-! ## State.setSled -/

@[simp] theorem setSled_hw (s : State) (n : Nat) (x : Sled) : (s.setSled n x).hw = s.hw := rfl
@[simp] theorem setSled_tbase (s : State) (n : Nat) (x : Sled) : (s.setSled n x).tbase = s.tbase := rfl
@[simp] theorem setSled_mode (s : State) (n : Nat) (x : Sled) : (s.setSled n x).mode = s.mode := rfl
@[simp] theorem setSled_bar0 (s : State) (n : Nat) (x : Sled) : (s.setSled n x).bar0 = s.bar0 := rfl
@[simp] theorem setSled_elog (s : State) (n : Nat) (x : Sled) : (s.setSled n x).elog = s.elog := rfl
@[simp] theorem setSled_aon (s : State) (n : Nat) (x : Sled) : (s.setSled n x).aon = s.aon := rfl
@[simp] theorem setSled_corrected (s : State) (n : Nat) (x : Sled) : (s.setSled n x).corrected = s.corrected := rfl
@[simp] theorem setSled_health (s : State) (n : Nat) (x : Sled) : (s.setSled n x).health = s.health := rfl
@[simp] theorem setSled_dump (s : State) (n : Nat) (x : Sled) : (s.setSled n x).dump = s.dump := rfl
@[simp] theorem setSled_ep0 (s : State) (n : Nat) (x : Sled) : (s.setSled n x).ep0 = s.ep0 := rfl
@[simp] theorem setSled_ep1 (s : State) (n : Nat) (x : Sled) : (s.setSled n x).ep1 = s.ep1 := rfl
@[simp] theorem setSled_subRings (s : State) (n : Nat) (x : Sled) : (s.setSled n x).subRings = s.subRings := rfl
@[simp] theorem setSled_cplRings (s : State) (n : Nat) (x : Sled) : (s.setSled n x).cplRings = s.cplRings := rfl
@[simp] theorem setSled_pair (s : State) (n : Nat) (x : Sled) : (s.setSled n x).pair = s.pair := rfl
@[simp] theorem setSled_threads (s : State) (n : Nat) (x : Sled) : (s.setSled n x).threads = s.threads := rfl
@[simp] theorem setSled_skeins (s : State) (n : Nat) (x : Sled) : (s.setSled n x).skeins = s.skeins := rfl
@[simp] theorem setSled_skeinUsed (s : State) (n : Nat) (x : Sled) : (s.setSled n x).skeinUsed = s.skeinUsed := rfl
@[simp] theorem setSled_pmem (s : State) (n : Nat) (x : Sled) : (s.setSled n x).pmem = s.pmem := rfl
@[simp] theorem setSled_master (s : State) (n : Nat) (x : Sled) : (s.setSled n x).master = s.master := rfl
@[simp] theorem setSled_extents (s : State) (n : Nat) (x : Sled) : (s.setSled n x).extents = s.extents := rfl
@[simp] theorem setSled_maskCleared (s : State) (n : Nat) (x : Sled) : (s.setSled n x).maskCleared = s.maskCleared := rfl
@[simp] theorem setSled_faults (s : State) (n : Nat) (x : Sled) : (s.setSled n x).faults = s.faults := rfl
@[simp] theorem setSled_workFaults (s : State) (n : Nat) (x : Sled) : (s.setSled n x).workFaults = s.workFaults := rfl
@[simp] theorem setSled_prk (s : State) (n : Nat) (x : Sled) : (s.setSled n x).prk = s.prk := rfl
@[simp] theorem setSled_arrays (s : State) (n : Nat) (x : Sled) : (s.setSled n x).arrays = s.arrays := rfl
@[simp] theorem setSled_bands (s : State) (n : Nat) (x : Sled) : (s.setSled n x).bands = s.bands := rfl
@[simp] theorem setSled_ewords (s : State) (n : Nat) (x : Sled) : (s.setSled n x).ewords = s.ewords := rfl
@[simp] theorem setSled_hoop (s : State) (n : Nat) (x : Sled) : (s.setSled n x).hoop = s.hoop := rfl
@[simp] theorem setSled_lost (s : State) (n : Nat) (x : Sled) : (s.setSled n x).lost = s.lost := rfl
@[simp] theorem setSled_map (s : State) (n : Nat) (x : Sled) : (s.setSled n x).map = s.map := rfl
@[simp] theorem setSled_dlog (s : State) (n : Nat) (x : Sled) : (s.setSled n x).dlog = s.dlog := rfl
@[simp] theorem setSled_mc (s : State) (n : Nat) (x : Sled) : (s.setSled n x).mc = s.mc := rfl
@[simp] theorem setSled_dram (s : State) (n : Nat) (x : Sled) : (s.setSled n x).dram = s.dram := rfl
@[simp] theorem setSled_poison (s : State) (n : Nat) (x : Sled) : (s.setSled n x).poison = s.poison := rfl
@[simp] theorem setSled_hostTags (s : State) (n : Nat) (x : Sled) : (s.setSled n x).hostTags = s.hostTags := rfl
@[simp] theorem setSled_ats (s : State) (n : Nat) (x : Sled) : (s.setSled n x).ats = s.ats := rfl
@[simp] theorem setSled_invals (s : State) (n : Nat) (x : Sled) : (s.setSled n x).invals = s.invals := rfl
@[simp] theorem setSled_vault (s : State) (n : Nat) (x : Sled) : (s.setSled n x).vault = s.vault := rfl
@[simp] theorem setSled_sht (s : State) (n : Nat) (x : Sled) : (s.setSled n x).sht = s.sht := rfl
@[simp] theorem setSled_sledCmds (s : State) (n : Nat) (x : Sled) : (s.setSled n x).sledCmds = s.sledCmds := rfl
@[simp] theorem setSled_ports (s : State) (n : Nat) (x : Sled) : (s.setSled n x).ports = s.ports := rfl
@[simp] theorem setSled_readJobs (s : State) (n : Nat) (x : Sled) : (s.setSled n x).readJobs = s.readJobs := rfl
@[simp] theorem setSled_devReads (s : State) (n : Nat) (x : Sled) : (s.setSled n x).devReads = s.devReads := rfl
@[simp] theorem setSled_bobbin (s : State) (n : Nat) (x : Sled) : (s.setSled n x).bobbin = s.bobbin := rfl
@[simp] theorem setSled_recorder (s : State) (n : Nat) (x : Sled) : (s.setSled n x).recorder = s.recorder := rfl
@[simp] theorem setSled_power (s : State) (n : Nat) (x : Sled) : (s.setSled n x).power = s.power := rfl
@[simp] theorem setSled_thermal (s : State) (n : Nat) (x : Sled) : (s.setSled n x).thermal = s.thermal := rfl
@[simp] theorem setSled_boot (s : State) (n : Nat) (x : Sled) : (s.setSled n x).boot = s.boot := rfl
@[simp] theorem setSled_fed (s : State) (n : Nat) (x : Sled) : (s.setSled n x).fed = s.fed := rfl
@[simp] theorem setSled_doe (s : State) (n : Nat) (x : Sled) : (s.setSled n x).doe = s.doe := rfl
@[simp] theorem setSled_eids (s : State) (n : Nat) (x : Sled) : (s.setSled n x).eids = s.eids := rfl
@[simp] theorem setSled_tbaseLatch (s : State) (n : Nat) (x : Sled) : (s.setSled n x).tbaseLatch = s.tbaseLatch := rfl
@[simp] theorem setSled_fetchLast (s : State) (n : Nat) (x : Sled) : (s.setSled n x).fetchLast = s.fetchLast := rfl
@[simp] theorem setSled_out (s : State) (n : Nat) (x : Sled) : (s.setSled n x).out = s.out := rfl
@[simp] theorem setSled_free (s : State) (n : Nat) (x : Sled) : (s.setSled n x).free = s.free := rfl
@[simp] theorem setSled_pending (s : State) (n : Nat) (x : Sled) : (s.setSled n x).pending = s.pending := rfl
@[simp] theorem setSled_reg (s : State) (n : Nat) (x : Sled) (k : Nat) : (s.setSled n x).reg k = s.reg k := rfl
@[simp] theorem setSled_f (s : State) (n : Nat) (x : Sled) (y : Field) : (s.setSled n x).f y = s.f y := rfl
@[simp] theorem setSled_flag (s : State) (n : Nat) (x : Sled) (y : Field) : (s.setSled n x).flag y = s.flag y := rfl
@[simp] theorem setSled_thr (s : State) (n : Nat) (x : Sled) (k : Nat) : (s.setSled n x).thr k = s.thr k := rfl
@[simp] theorem setSled_sub (s : State) (n : Nat) (x : Sled) (k : Nat) : (s.setSled n x).sub k = s.sub k := rfl
@[simp] theorem setSled_cpl (s : State) (n : Nat) (x : Sled) (k : Nat) : (s.setSled n x).cpl k = s.cpl k := rfl
@[simp] theorem setSled_linkOff (s : State) (n : Nat) (x : Sled) : (s.setSled n x).linkOff = s.linkOff := rfl

/-! ## State.setWpair -/

@[simp] theorem setWpair_hw (s : State) (q : Nat) (x : WitPair) : (s.setWpair q x).hw = s.hw := rfl
@[simp] theorem setWpair_tbase (s : State) (q : Nat) (x : WitPair) : (s.setWpair q x).tbase = s.tbase := rfl
@[simp] theorem setWpair_mode (s : State) (q : Nat) (x : WitPair) : (s.setWpair q x).mode = s.mode := rfl
@[simp] theorem setWpair_bar0 (s : State) (q : Nat) (x : WitPair) : (s.setWpair q x).bar0 = s.bar0 := rfl
@[simp] theorem setWpair_elog (s : State) (q : Nat) (x : WitPair) : (s.setWpair q x).elog = s.elog := rfl
@[simp] theorem setWpair_aon (s : State) (q : Nat) (x : WitPair) : (s.setWpair q x).aon = s.aon := rfl
@[simp] theorem setWpair_corrected (s : State) (q : Nat) (x : WitPair) : (s.setWpair q x).corrected = s.corrected := rfl
@[simp] theorem setWpair_health (s : State) (q : Nat) (x : WitPair) : (s.setWpair q x).health = s.health := rfl
@[simp] theorem setWpair_dump (s : State) (q : Nat) (x : WitPair) : (s.setWpair q x).dump = s.dump := rfl
@[simp] theorem setWpair_ep0 (s : State) (q : Nat) (x : WitPair) : (s.setWpair q x).ep0 = s.ep0 := rfl
@[simp] theorem setWpair_ep1 (s : State) (q : Nat) (x : WitPair) : (s.setWpair q x).ep1 = s.ep1 := rfl
@[simp] theorem setWpair_subRings (s : State) (q : Nat) (x : WitPair) : (s.setWpair q x).subRings = s.subRings := rfl
@[simp] theorem setWpair_cplRings (s : State) (q : Nat) (x : WitPair) : (s.setWpair q x).cplRings = s.cplRings := rfl
@[simp] theorem setWpair_threads (s : State) (q : Nat) (x : WitPair) : (s.setWpair q x).threads = s.threads := rfl
@[simp] theorem setWpair_skeins (s : State) (q : Nat) (x : WitPair) : (s.setWpair q x).skeins = s.skeins := rfl
@[simp] theorem setWpair_skeinUsed (s : State) (q : Nat) (x : WitPair) : (s.setWpair q x).skeinUsed = s.skeinUsed := rfl
@[simp] theorem setWpair_pmem (s : State) (q : Nat) (x : WitPair) : (s.setWpair q x).pmem = s.pmem := rfl
@[simp] theorem setWpair_master (s : State) (q : Nat) (x : WitPair) : (s.setWpair q x).master = s.master := rfl
@[simp] theorem setWpair_extents (s : State) (q : Nat) (x : WitPair) : (s.setWpair q x).extents = s.extents := rfl
@[simp] theorem setWpair_maskCleared (s : State) (q : Nat) (x : WitPair) : (s.setWpair q x).maskCleared = s.maskCleared := rfl
@[simp] theorem setWpair_faults (s : State) (q : Nat) (x : WitPair) : (s.setWpair q x).faults = s.faults := rfl
@[simp] theorem setWpair_workFaults (s : State) (q : Nat) (x : WitPair) : (s.setWpair q x).workFaults = s.workFaults := rfl
@[simp] theorem setWpair_prk (s : State) (q : Nat) (x : WitPair) : (s.setWpair q x).prk = s.prk := rfl
@[simp] theorem setWpair_arrays (s : State) (q : Nat) (x : WitPair) : (s.setWpair q x).arrays = s.arrays := rfl
@[simp] theorem setWpair_bands (s : State) (q : Nat) (x : WitPair) : (s.setWpair q x).bands = s.bands := rfl
@[simp] theorem setWpair_ewords (s : State) (q : Nat) (x : WitPair) : (s.setWpair q x).ewords = s.ewords := rfl
@[simp] theorem setWpair_sleds (s : State) (q : Nat) (x : WitPair) : (s.setWpair q x).sleds = s.sleds := rfl
@[simp] theorem setWpair_hoop (s : State) (q : Nat) (x : WitPair) : (s.setWpair q x).hoop = s.hoop := rfl
@[simp] theorem setWpair_lost (s : State) (q : Nat) (x : WitPair) : (s.setWpair q x).lost = s.lost := rfl
@[simp] theorem setWpair_map (s : State) (q : Nat) (x : WitPair) : (s.setWpair q x).map = s.map := rfl
@[simp] theorem setWpair_dlog (s : State) (q : Nat) (x : WitPair) : (s.setWpair q x).dlog = s.dlog := rfl
@[simp] theorem setWpair_mc (s : State) (q : Nat) (x : WitPair) : (s.setWpair q x).mc = s.mc := rfl
@[simp] theorem setWpair_dram (s : State) (q : Nat) (x : WitPair) : (s.setWpair q x).dram = s.dram := rfl
@[simp] theorem setWpair_poison (s : State) (q : Nat) (x : WitPair) : (s.setWpair q x).poison = s.poison := rfl
@[simp] theorem setWpair_hostTags (s : State) (q : Nat) (x : WitPair) : (s.setWpair q x).hostTags = s.hostTags := rfl
@[simp] theorem setWpair_ats (s : State) (q : Nat) (x : WitPair) : (s.setWpair q x).ats = s.ats := rfl
@[simp] theorem setWpair_invals (s : State) (q : Nat) (x : WitPair) : (s.setWpair q x).invals = s.invals := rfl
@[simp] theorem setWpair_vault (s : State) (q : Nat) (x : WitPair) : (s.setWpair q x).vault = s.vault := rfl
@[simp] theorem setWpair_sht (s : State) (q : Nat) (x : WitPair) : (s.setWpair q x).sht = s.sht := rfl
@[simp] theorem setWpair_sledCmds (s : State) (q : Nat) (x : WitPair) : (s.setWpair q x).sledCmds = s.sledCmds := rfl
@[simp] theorem setWpair_ports (s : State) (q : Nat) (x : WitPair) : (s.setWpair q x).ports = s.ports := rfl
@[simp] theorem setWpair_readJobs (s : State) (q : Nat) (x : WitPair) : (s.setWpair q x).readJobs = s.readJobs := rfl
@[simp] theorem setWpair_devReads (s : State) (q : Nat) (x : WitPair) : (s.setWpair q x).devReads = s.devReads := rfl
@[simp] theorem setWpair_bobbin (s : State) (q : Nat) (x : WitPair) : (s.setWpair q x).bobbin = s.bobbin := rfl
@[simp] theorem setWpair_recorder (s : State) (q : Nat) (x : WitPair) : (s.setWpair q x).recorder = s.recorder := rfl
@[simp] theorem setWpair_power (s : State) (q : Nat) (x : WitPair) : (s.setWpair q x).power = s.power := rfl
@[simp] theorem setWpair_thermal (s : State) (q : Nat) (x : WitPair) : (s.setWpair q x).thermal = s.thermal := rfl
@[simp] theorem setWpair_boot (s : State) (q : Nat) (x : WitPair) : (s.setWpair q x).boot = s.boot := rfl
@[simp] theorem setWpair_fed (s : State) (q : Nat) (x : WitPair) : (s.setWpair q x).fed = s.fed := rfl
@[simp] theorem setWpair_doe (s : State) (q : Nat) (x : WitPair) : (s.setWpair q x).doe = s.doe := rfl
@[simp] theorem setWpair_eids (s : State) (q : Nat) (x : WitPair) : (s.setWpair q x).eids = s.eids := rfl
@[simp] theorem setWpair_tbaseLatch (s : State) (q : Nat) (x : WitPair) : (s.setWpair q x).tbaseLatch = s.tbaseLatch := rfl
@[simp] theorem setWpair_fetchLast (s : State) (q : Nat) (x : WitPair) : (s.setWpair q x).fetchLast = s.fetchLast := rfl
@[simp] theorem setWpair_out (s : State) (q : Nat) (x : WitPair) : (s.setWpair q x).out = s.out := rfl
@[simp] theorem setWpair_free (s : State) (q : Nat) (x : WitPair) : (s.setWpair q x).free = s.free := rfl
@[simp] theorem setWpair_pending (s : State) (q : Nat) (x : WitPair) : (s.setWpair q x).pending = s.pending := rfl
@[simp] theorem setWpair_reg (s : State) (q : Nat) (x : WitPair) (k : Nat) : (s.setWpair q x).reg k = s.reg k := rfl
@[simp] theorem setWpair_f (s : State) (q : Nat) (x : WitPair) (y : Field) : (s.setWpair q x).f y = s.f y := rfl
@[simp] theorem setWpair_flag (s : State) (q : Nat) (x : WitPair) (y : Field) : (s.setWpair q x).flag y = s.flag y := rfl
@[simp] theorem setWpair_thr (s : State) (q : Nat) (x : WitPair) (k : Nat) : (s.setWpair q x).thr k = s.thr k := rfl
@[simp] theorem setWpair_sub (s : State) (q : Nat) (x : WitPair) (k : Nat) : (s.setWpair q x).sub k = s.sub k := rfl
@[simp] theorem setWpair_cpl (s : State) (q : Nat) (x : WitPair) (k : Nat) : (s.setWpair q x).cpl k = s.cpl k := rfl
@[simp] theorem setWpair_linkOff (s : State) (q : Nat) (x : WitPair) : (s.setWpair q x).linkOff = s.linkOff := rfl

/-! ## State.setFed -/

@[simp] theorem setFed_hw (s : State) (x : FedState) : (s.setFed x).hw = s.hw := rfl
@[simp] theorem setFed_tbase (s : State) (x : FedState) : (s.setFed x).tbase = s.tbase := rfl
@[simp] theorem setFed_mode (s : State) (x : FedState) : (s.setFed x).mode = s.mode := rfl
@[simp] theorem setFed_bar0 (s : State) (x : FedState) : (s.setFed x).bar0 = s.bar0 := rfl
@[simp] theorem setFed_elog (s : State) (x : FedState) : (s.setFed x).elog = s.elog := rfl
@[simp] theorem setFed_aon (s : State) (x : FedState) : (s.setFed x).aon = s.aon := rfl
@[simp] theorem setFed_corrected (s : State) (x : FedState) : (s.setFed x).corrected = s.corrected := rfl
@[simp] theorem setFed_health (s : State) (x : FedState) : (s.setFed x).health = s.health := rfl
@[simp] theorem setFed_dump (s : State) (x : FedState) : (s.setFed x).dump = s.dump := rfl
@[simp] theorem setFed_ep0 (s : State) (x : FedState) : (s.setFed x).ep0 = s.ep0 := rfl
@[simp] theorem setFed_ep1 (s : State) (x : FedState) : (s.setFed x).ep1 = s.ep1 := rfl
@[simp] theorem setFed_subRings (s : State) (x : FedState) : (s.setFed x).subRings = s.subRings := rfl
@[simp] theorem setFed_cplRings (s : State) (x : FedState) : (s.setFed x).cplRings = s.cplRings := rfl
@[simp] theorem setFed_pair (s : State) (x : FedState) : (s.setFed x).pair = s.pair := rfl
@[simp] theorem setFed_threads (s : State) (x : FedState) : (s.setFed x).threads = s.threads := rfl
@[simp] theorem setFed_skeins (s : State) (x : FedState) : (s.setFed x).skeins = s.skeins := rfl
@[simp] theorem setFed_skeinUsed (s : State) (x : FedState) : (s.setFed x).skeinUsed = s.skeinUsed := rfl
@[simp] theorem setFed_pmem (s : State) (x : FedState) : (s.setFed x).pmem = s.pmem := rfl
@[simp] theorem setFed_master (s : State) (x : FedState) : (s.setFed x).master = s.master := rfl
@[simp] theorem setFed_extents (s : State) (x : FedState) : (s.setFed x).extents = s.extents := rfl
@[simp] theorem setFed_maskCleared (s : State) (x : FedState) : (s.setFed x).maskCleared = s.maskCleared := rfl
@[simp] theorem setFed_faults (s : State) (x : FedState) : (s.setFed x).faults = s.faults := rfl
@[simp] theorem setFed_workFaults (s : State) (x : FedState) : (s.setFed x).workFaults = s.workFaults := rfl
@[simp] theorem setFed_prk (s : State) (x : FedState) : (s.setFed x).prk = s.prk := rfl
@[simp] theorem setFed_arrays (s : State) (x : FedState) : (s.setFed x).arrays = s.arrays := rfl
@[simp] theorem setFed_bands (s : State) (x : FedState) : (s.setFed x).bands = s.bands := rfl
@[simp] theorem setFed_ewords (s : State) (x : FedState) : (s.setFed x).ewords = s.ewords := rfl
@[simp] theorem setFed_sleds (s : State) (x : FedState) : (s.setFed x).sleds = s.sleds := rfl
@[simp] theorem setFed_hoop (s : State) (x : FedState) : (s.setFed x).hoop = s.hoop := rfl
@[simp] theorem setFed_lost (s : State) (x : FedState) : (s.setFed x).lost = s.lost := rfl
@[simp] theorem setFed_map (s : State) (x : FedState) : (s.setFed x).map = s.map := rfl
@[simp] theorem setFed_dlog (s : State) (x : FedState) : (s.setFed x).dlog = s.dlog := rfl
@[simp] theorem setFed_mc (s : State) (x : FedState) : (s.setFed x).mc = s.mc := rfl
@[simp] theorem setFed_dram (s : State) (x : FedState) : (s.setFed x).dram = s.dram := rfl
@[simp] theorem setFed_poison (s : State) (x : FedState) : (s.setFed x).poison = s.poison := rfl
@[simp] theorem setFed_hostTags (s : State) (x : FedState) : (s.setFed x).hostTags = s.hostTags := rfl
@[simp] theorem setFed_ats (s : State) (x : FedState) : (s.setFed x).ats = s.ats := rfl
@[simp] theorem setFed_invals (s : State) (x : FedState) : (s.setFed x).invals = s.invals := rfl
@[simp] theorem setFed_vault (s : State) (x : FedState) : (s.setFed x).vault = s.vault := rfl
@[simp] theorem setFed_sht (s : State) (x : FedState) : (s.setFed x).sht = s.sht := rfl
@[simp] theorem setFed_sledCmds (s : State) (x : FedState) : (s.setFed x).sledCmds = s.sledCmds := rfl
@[simp] theorem setFed_ports (s : State) (x : FedState) : (s.setFed x).ports = s.ports := rfl
@[simp] theorem setFed_readJobs (s : State) (x : FedState) : (s.setFed x).readJobs = s.readJobs := rfl
@[simp] theorem setFed_devReads (s : State) (x : FedState) : (s.setFed x).devReads = s.devReads := rfl
@[simp] theorem setFed_bobbin (s : State) (x : FedState) : (s.setFed x).bobbin = s.bobbin := rfl
@[simp] theorem setFed_recorder (s : State) (x : FedState) : (s.setFed x).recorder = s.recorder := rfl
@[simp] theorem setFed_power (s : State) (x : FedState) : (s.setFed x).power = s.power := rfl
@[simp] theorem setFed_thermal (s : State) (x : FedState) : (s.setFed x).thermal = s.thermal := rfl
@[simp] theorem setFed_boot (s : State) (x : FedState) : (s.setFed x).boot = s.boot := rfl
@[simp] theorem setFed_doe (s : State) (x : FedState) : (s.setFed x).doe = s.doe := rfl
@[simp] theorem setFed_eids (s : State) (x : FedState) : (s.setFed x).eids = s.eids := rfl
@[simp] theorem setFed_tbaseLatch (s : State) (x : FedState) : (s.setFed x).tbaseLatch = s.tbaseLatch := rfl
@[simp] theorem setFed_fetchLast (s : State) (x : FedState) : (s.setFed x).fetchLast = s.fetchLast := rfl
@[simp] theorem setFed_out (s : State) (x : FedState) : (s.setFed x).out = s.out := rfl
@[simp] theorem setFed_free (s : State) (x : FedState) : (s.setFed x).free = s.free := rfl
@[simp] theorem setFed_pending (s : State) (x : FedState) : (s.setFed x).pending = s.pending := rfl
@[simp] theorem setFed_reg (s : State) (x : FedState) (k : Nat) : (s.setFed x).reg k = s.reg k := rfl
@[simp] theorem setFed_f (s : State) (x : FedState) (y : Field) : (s.setFed x).f y = s.f y := rfl
@[simp] theorem setFed_flag (s : State) (x : FedState) (y : Field) : (s.setFed x).flag y = s.flag y := rfl
@[simp] theorem setFed_thr (s : State) (x : FedState) (k : Nat) : (s.setFed x).thr k = s.thr k := rfl
@[simp] theorem setFed_sub (s : State) (x : FedState) (k : Nat) : (s.setFed x).sub k = s.sub k := rfl
@[simp] theorem setFed_cpl (s : State) (x : FedState) (k : Nat) : (s.setFed x).cpl k = s.cpl k := rfl
@[simp] theorem setFed_linkOff (s : State) (x : FedState) : (s.setFed x).linkOff = s.linkOff := rfl

/-! ## What reads back -/

/-- A register stored reads back, and every other reads as before. -/
theorem reg_setReg_eq (s : State) (off k : Nat) (w : Word) : (s.setReg off w).reg k = if k = off then w else s.reg k := by
  simp only [State.reg, State.setReg, Tbl.get_set]

/-- Storing a field changes its own register only. -/
theorem reg_setF_ne (s : State) (x : Field) (v k : Nat) (h : k ≠ x.off) : (s.setF x v).reg k = s.reg k := by
  simp only [State.setF, reg_setReg_eq, if_neg h]

/-- A field of another register reads as before. -/
theorem f_setF_off (s : State) (x y : Field) (v : Nat) (h : y.off ≠ x.off) : (s.setF x v).f y = s.f y := by
  simp only [State.f, reg_setF_ne s x v y.off h]

/-- A field within its register reads back what was stored, modulo its width. -/
theorem f_setF_same (s : State) (x : Field) (v : Nat) (h : x.lo + x.width ≤ 64) : (s.setF x v).f x = v % 2 ^ x.width := by
  simp only [State.f, State.setF, reg_setReg_eq, if_true]
  refine Nat.eq_of_testBit_eq fun k => ?_
  simp only [bits, Nat.testBit_mod_two_pow, Nat.testBit_div_two_pow, BitVec.toNat_ofNat, testBit_putBits]
  by_cases hk : k < x.width
  · have h1 : x.lo ≤ k + x.lo ∧ k + x.lo < x.lo + x.width := by omega
    have h2 : k + x.lo < 64 := by omega
    simp [hk, h1, h2]
  · simp [hk]

/-- A field of the same register that does not overlap reads as before. -/
theorem f_setF_apart (s : State) (x y : Field) (v : Nat) (ho : y.off = x.off) (hy : y.lo + y.width ≤ 64)
    (h : y.lo + y.width ≤ x.lo ∨ x.lo + x.width ≤ y.lo) : (s.setF x v).f y = s.f y := by
  simp only [State.f, State.setF, reg_setReg_eq, ho, if_true]
  refine Nat.eq_of_testBit_eq fun k => ?_
  simp only [bits, Nat.testBit_mod_two_pow, Nat.testBit_div_two_pow, BitVec.toNat_ofNat, testBit_putBits]
  by_cases hk : k < y.width
  · have h2 : k + y.lo < 64 := by omega
    have h1 : ¬ (x.lo ≤ k + y.lo ∧ k + y.lo < x.lo + x.width) := by omega
    simp [hk, h1, h2]
  · simp [hk]

/-- A submission ring replaced reads back; every other stays. -/
theorem sub_setSub (s : State) (r k : Nat) (x : SubRing) : (s.setSub r x).sub k = if k = r then x else s.sub k := by
  simp only [State.sub, State.setSub, Tbl.get_set]

/-- As sub_setSub, for a completion ring. -/
theorem cpl_setCpl (s : State) (q k : Nat) (x : CplRing) : (s.setCpl q x).cpl k = if k = q then x else s.cpl k := by
  simp only [State.cpl, State.setCpl, Tbl.get_set]

/-- As sub_setSub, for a port. -/
theorem port_setPort (s : State) (p k : Nat) (x : Port) : (s.setPort p x).port k = if k = p then x else s.port k := by
  simp only [State.port, State.setPort, Tbl.get_set]

/-- As sub_setSub, for a Shuttle channel. -/
theorem chan_setChan (s : State) (n k : Nat) (x : ShtChan) : (s.setChan n x).chan k = if k = n then x else s.chan k := by
  simp only [State.chan, State.setChan, Tbl.get_set]

/-- As sub_setSub, for a sled. -/
theorem sled_setSled (s : State) (n k : Nat) (x : Sled) : (s.setSled n x).sled k = if k = n then x else s.sled k := by
  simp only [State.sled, State.setSled, Tbl.get_set]

end Sys2Proof.Machine
end

