-- ==== Sys2Proof/Laws/Threads.lean ====
section
/-! SUPPORT. Threads: what reads back after a thread is replaced, and the issue of an instruction in one equation. -/

namespace Sys2Proof.Machine

/-- A thread replaced reads back; every other thread stays. -/
@[simp] theorem thr_setThr (s : State) (th k : Nat) (t : Thread) :
    (s.setThr th t).thr k = if k = th then t else s.thr k := by
  simp only [State.setThr, State.thr, Tbl.get_set]

/-- A thread that has just issued: PC and budget alone differ. -/
@[simp] theorem thr_issued (s : State) (th : Nat) : (s.issued th).thr th =
    { s.thr th with budget := (s.thr th).budget - 1, pc := ((s.thr th).pc + 1) % 65536 } := by
  simp only [State.issued, thr_setThr, if_true]

/-- An instruction that issues and takes effect runs its own effect on the state with PC and budget advanced. -/
theorem issue_eq {s : State} {th : Nat} {want : IWord → Bool} {body : IWord → State → State} (h : s.issues th want) :
    s.issue th want body = body (s.ins th) (s.issued th) := by
  obtain ⟨h1, h2, h3, h4, h5, h6⟩ := h
  simp only [State.issue, h1, h2, h3, h4, h5, h6]
  simp [State.ins, State.issued]

/-- Nothing happens to a thread that cannot issue. -/
theorem issue_not {s : State} {th : Nat} {want : IWord → Bool} {body : IWord → State → State} (h : s.canIssue th = false) :
    s.issue th want body = s := by
  simp [State.issue, h]

/-- A register written reads back; g0 reads zero. -/
theorem reg_setReg (t : Thread) (n k : Nat) (v : Word) :
    (t.setReg n v).reg k = if k = n ∧ n ≠ 0 then v else t.reg k := by
  unfold Thread.setReg Thread.reg
  by_cases hn : n = 0
  · simp [hn]
  · simp only [hn, if_false]
    by_cases hk : k = 0
    · simp [hk]; omega
    · simp [hk, Tbl.get_set, hn]

end Sys2Proof.Machine
end

