-- ==== Sys2Proof/WellFormed.lean ====
section
/-! DEFINITION. Which commands are well formed: every operand lies in the range that the spec gives it. The meanings are total and take
ill-formed commands too; nothing that is proved of a command assumes that it is well formed, unless it says so. -/

namespace Sys2Proof

open Sys2Proof.Machine

/-- An access to a register takes at least one byte and at most a TLP's payload. -/
def sizeOk (size : Nat) : Bool := decide (0 < size ∧ size ≤ 4096)

/-- Straps: DEVID has three bits (R479). -/
def Machine.Straps.ok (x : Straps) : Bool := decide (x.devid < 8)

/-- A witness message: its fields fit their places (R388). -/
def Machine.WitMsg.ok (m : WitMsg) : Bool := decide (m.wcode < 256 ∧ m.pair < 256 ∧ m.unit < 2 ∧ m.claim < 2 ^ 32 ∧ m.seq < 2 ^ 16 ∧ m.body.length ≤ 64)

/-- A message of a spanning call: its device is one of eight (R402). -/
def Machine.FedMsg.ok (m : FedMsg) : Bool := decide (m.dev < 8)

/-- A FED_HELLO: device, mode and view fit their places (R407). -/
def Machine.FedHello.ok (h : FedHello) : Bool := decide (h.dev < 8 ∧ h.mode < 8 ∧ h.view < 256)

/-- An information word has 4,096 data bytes (R173). -/
def Machine.Info.ok (x : Info) : Bool := x.data.all (fun e => decide (e.1 < 4096))

/-- What the active mirrors of a block or a grain fits its information words (R173, R384). -/
def Machine.MirrorItem.ok (m : MirrorItem) : Bool :=
  match m with
  | .block _ _ _ i => i.ok
  | .version v => v.blocks.all (fun e => e.2.ok)
  | _ => true

/-- A raw codeword has 4,640 bytes, listed once each; a log's packet no more (R173, R361). -/
def Machine.ReadData.ok (d : ReadData) : Bool :=
  match d with
  | .codeword raw => decide raw.wf && raw.all (fun e => decide (e.1 < 4640))
  | .log bytes => decide (bytes.length ≤ 4640)

/-- A frame's sequence numbers have eight bits (R355). -/
def Machine.Frame.ok (f : Frame) : Bool := decide (f.fseq < 256 ∧ f.ackseq < 256)

/-- A peer's health report: its state is a code of eight bits (R401). -/
def Machine.PairReport.ok (r : PairReport) : Bool := decide (r.state < 256)

/-- What ends a Boot step: VIN in mV has 16 bits (R424), a unit eight (R414). -/
def Machine.BootEnd.ok (x : BootEnd) : Bool := decide (x.vboot < 2 ^ 16 ∧ x.unit < 256)

/-- The command's operands lie in their ranges. -/
def Instr.wellFormed : Instr → Bool
  | .powerOn pins _ _ => pins.ok
  | .perstAssert => true
  | .perstDeassert pins => pins.ok
  | .perst1Reset => true
  | .hotReset ep => decide (ep < 2)
  | .functionLevelReset ep => decide (ep < 2)
  | .flrComplete ep => decide (ep < 2)
  | .powerFailDetection src => decide (src < 2)
  | .flushCommit vend => decide (vend < 1024)
  | .internalReset => true
  | .bankRundown => true
  | .bootStepEnd x => x.ok
  | .bootStepTimeout unit => decide (unit < 256)
  | .modeReqStandby size _ => sizeOk size
  | .modeReqActive size _ => sizeOk size
  | .modeReqMaintenance size _ => sizeOk size
  | .modeReqDormant size _ => sizeOk size
  | .modeReqWitness size _ => sizeOk size
  | .modeReqUnlisted k size _ => sizeOk size && decide (k < 3)
  | .drainComplete => true
  | .mapLoadComplete => true
  | .dormantExitComplete => true
  | .uncorrectableStructureError src => decide (src < 256)
  | .watchdogExpiry core _ => decide (core < 4)
  | .firmwareInconsistency core detail => decide (core < 4 ∧ detail < 2 ^ 32)
  | .registerSnapshotCaptured => true
  | .haltVaultImageCommit => true
  | .dumpInDramComplete => true
  | .dumpCaptureTimeout _ => true
  | .dumpVaultWriteComplete => true
  | .seClkWrite c size _ => sizeOk size && decide (c < 8)
  | .clockStepComplete c => decide (c < 8)
  | .devTbaseLowRead ep => decide (ep < 2)
  | .registerWrite ep off size _ _ => sizeOk size && decide (ep < 2 ∧ off < 2 ^ 26)
  | .devLockSet size _ => sizeOk size
  | .prkCmdLoad size _ => sizeOk size
  | .prkCmdBind size _ => sizeOk size
  | .prkCmdArm size _ => sizeOk size
  | .prkCmdDrop size _ => sizeOk size
  | .prkCmdReserved size _ => sizeOk size
  | .prkCommandComplete => true
  | .armCommit => true
  | .retirementSwitchover a => decide (a < 16)
  | .retirementCommit a => decide (a < 16)
  | .grainAgeExpiry a g _ => decide (a < 16 ∧ g < 2 ^ 40)
  | .bankWaitTimeout th => decide (th < 1024)
  | .storeCommitResume th => decide (th < 1024)
  | .stripeOpenResume th => decide (th < 1024)
  | .couchingReplication => true
  | .copyRecordAck sled rseq => decide (sled < 2 ^ 16 ∧ rseq < 2 ^ 64)
  | .resyncRegion _ _ => true
  | .checkpointEpochTimer => true
  | .checkpointEpochCommit => true
  | .gcVictimSelect a c _ _ => decide (a < 16 ∧ c < 8)
  | .bandEraseStart a b => decide (a < 16 ∧ b < 2 ^ 21)
  | .mcClean size _ => sizeOk size
  | .mcInval size _ => sizeOk size
  | .mcClinv size _ => sizeOk size
  | .mcPreload size _ => sizeOk size
  | .mcLock size _ => sizeOk size
  | .mcMaintComplete => true
  | .preloadHoldExpiry => true
  | .mcWaylockWrite size _ => sizeOk size
  | .mcEnable size _ => sizeOk size
  | .mcDisable size _ => sizeOk size
  | .mcDrainComplete => true
  | .mcWritebackAck set => decide (set < 2 ^ 14)
  | .mcEccError way set _ => decide (way < 16 ∧ set < 2 ^ 14)
  | .linkLossDeclare n => decide (n < 2 ^ 16)
  | .memberReadTimeout p tag => decide (p < 32 ∧ tag < 512)
  | .commandTimeout p tag => decide (p < 32 ∧ tag < 512)
  | .notReadyRetry p => decide (p < 32)
  | .rebuildStripe a c _ _ => decide (a < 16 ∧ c < 8)
  | .lostUnitScan a pga _ => decide (a < 16 ∧ pga < 2 ^ 48)
  | .rateInterval => true
  | .reshapeRelocateBand a c _ _ => decide (a < 16 ∧ c < 8)
  | .scrubStripe a _ _ _ => decide (a < 16)
  | .threadDispatch r => decide (r < 1024)
  | .add th => decide (th < 1024)
  | .addi th => decide (th < 1024)
  | .sub th => decide (th < 1024)
  | .and th => decide (th < 1024)
  | .andi th => decide (th < 1024)
  | .or th => decide (th < 1024)
  | .ori th => decide (th < 1024)
  | .xor th => decide (th < 1024)
  | .xori th => decide (th < 1024)
  | .shl th => decide (th < 1024)
  | .shli th => decide (th < 1024)
  | .shr th => decide (th < 1024)
  | .shri th => decide (th < 1024)
  | .sar th => decide (th < 1024)
  | .sari th => decide (th < 1024)
  | .mul th => decide (th < 1024)
  | .mulhu th => decide (th < 1024)
  | .divu th => decide (th < 1024)
  | .remu th => decide (th < 1024)
  | .minu th => decide (th < 1024)
  | .maxu th => decide (th < 1024)
  | .movhi th => decide (th < 1024)
  | .bfx th => decide (th < 1024)
  | .bfi th => decide (th < 1024)
  | .clz th => decide (th < 1024)
  | .popc th => decide (th < 1024)
  | .ldk th => decide (th < 1024)
  | .stk th => decide (th < 1024)
  | .cmp th => decide (th < 1024)
  | .cmpi th => decide (th < 1024)
  | .plog th => decide (th < 1024)
  | .br th => decide (th < 1024)
  | .jal th => decide (th < 1024)
  | .jr th => decide (th < 1024)
  | .skalloc th => decide (th < 1024)
  | .skallocResume th => decide (th < 1024)
  | .skfree th => decide (th < 1024)
  | .skzero th => decide (th < 1024)
  | .fetch th => decide (th < 1024)
  | .storeStage th => decide (th < 1024)
  | .storeCommit th => decide (th < 1024)
  | .emit th => decide (th < 1024)
  | .gfmac th => decide (th < 1024)
  | .syndBind th => decide (th < 1024)
  | .syndAdd th => decide (th < 1024)
  | .syndWait th => decide (th < 1024)
  | .syndUnbind th => decide (th < 1024)
  | .solve th => decide (th < 1024)
  | .pigen th => decide (th < 1024)
  | .pichk th => decide (th < 1024)
  | .pixlate th => decide (th < 1024)
  | .maplu th => decide (th < 1024)
  | .mapup th => decide (th < 1024)
  | .maplock th => decide (th < 1024)
  | .maplockGrant th => decide (th < 1024)
  | .stripeOpen th => decide (th < 1024)
  | .stripeIpnext th => decide (th < 1024)
  | .stripeIpset th => decide (th < 1024)
  | .stripeClosing th => decide (th < 1024)
  | .stripeClose th => decide (th < 1024)
  | .stripeAbandon th => decide (th < 1024)
  | .waitev th => decide (th < 1024)
  | .waitevLimitExpiry th => decide (th < 1024)
  | .signalSend th => decide (th < 1024)
  | .signalCall th => decide (th < 1024)
  | .signalOwner th => decide (th < 1024)
  | .signalRecv th => decide (th < 1024)
  | .timerWait th => decide (th < 1024)
  | .timerRead th => decide (th < 1024)
  | .post th => decide (th < 1024)
  | .postStallResume q => decide (q < 1024)
  | .batch th => decide (th < 1024)
  | .trap th => decide (th < 1024)
  | .halt th => decide (th < 1024)
  | .nop th => decide (th < 1024)
  | .asyncInstructionComplete th id => decide (th < 1024 ∧ id < 2 ^ 32)
  | .waitLimitExpiry th => decide (th < 1024)
  | .read th => decide (th < 1024)
  | .write th => decide (th < 1024)
  | .flush th => decide (th < 1024)
  | .discard th => decide (th < 1024)
  | .verify th => decide (th < 1024)
  | .pin th => decide (th < 1024)
  | .scrubStart th => decide (th < 1024)
  | .scrubStop th => decide (th < 1024)
  | .scrubQuery th => decide (th < 1024)
  | .config th => decide (th < 1024)
  | .arrayCreate th => decide (th < 1024)
  | .arrayDelete th => decide (th < 1024)
  | .arrayResize th => decide (th < 1024)
  | .memberFail th => decide (th < 1024)
  | .logClear th => decide (th < 1024)
  | .prkLoad th => decide (th < 1024)
  | .prkBind th => decide (th < 1024)
  | .prkArm th => decide (th < 1024)
  | .prkDrop th => decide (th < 1024)
  | .progLoad th => decide (th < 1024)
  | .progUnload th => decide (th < 1024)
  | .sqDoorbell e r size _ => sizeOk size && decide (e < 2 ∧ r < 1024)
  | .cqDoorbell e q size _ => sizeOk size && decide (e < 2 ∧ q < 1024)
  | .entryFetch => true
  | .entryFetchComplete r _ => decide (r < 1024)
  | .callEntry r => decide (r < 1024)
  | .inlineEntry r => decide (r < 1024)
  | .nopEntry r => decide (r < 1024)
  | .fenceEntry r => decide (r < 1024)
  | .coalesceTimer q => decide (q < 1024)
  | .sqEnable r _ => decide (r < 1024)
  | .sqDisable r _ => decide (r < 1024)
  | .cqEnable q _ => decide (q < 1024)
  | .cqDisable q _ => decide (q < 1024)
  | .shuttleGo n size _ => sizeOk size && decide (n < 32)
  | .shuttleComplete n => decide (n < 32)
  | .shuttleBusError n pos addr => decide (n < 32 ∧ pos < 2 ^ 37 ∧ addr < 2 ^ 64)
  | .shuttleWindowHalt n => decide (n < 32)
  | .allstopClear size _ => sizeOk size
  | .channelErrClear n size _ => sizeOk size && decide (n < 32)
  | .bar2Write ep off reqid bytes _ => decide (ep < 2 ∧ off < 2 ^ 36 ∧ reqid < 2 ^ 16 ∧ bytes.length ≤ 4096)
  | .bar2Read ep off reqid len => decide (ep < 2 ∧ off < 2 ^ 36 ∧ reqid < 2 ^ 16 ∧ len < 4097)
  | .windowWord0Write w size _ => sizeOk size && decide (w < 4096)
  | .windowWord1Write w size _ => sizeOk size && decide (w < 4096)
  | .hostCompletion ep t _ => decide (ep < 2 ∧ t < 1024)
  | .completionTimeout ep t => decide (ep < 2 ∧ t < 1024)
  | .unexpectedCompletion ep t => decide (ep < 2 ∧ t < 1024)
  | .tagReservationExpiry ep t => decide (ep < 2 ∧ t < 1024)
  | .atsInvalidateRequest ep itag page count => decide (ep < 2 ∧ itag < 32 ∧ page < 2 ^ 52 ∧ count < 2 ^ 52)
  | .msixTableWrite ep off size _ _ _ => sizeOk size && decide (ep < 2 ∧ off < 2 ^ 16)
  | .dStateChange ep pmcsr => decide (ep < 2 ∧ pmcsr < 2 ^ 16)
  | .pmeTurnOff ep => decide (ep < 2)
  | .busMasterEnable ep _ => decide (ep < 2)
  | .aspmL1Entry ep => decide (ep < 2)
  | .getVersion tr => decide (tr < 3)
  | .getCapabilities tr => decide (tr < 3)
  | .negotiateAlgorithms tr _ _ _ _ => decide (tr < 3)
  | .getDigests tr => decide (tr < 3)
  | .getCertificate tr slot offset length => decide (tr < 3 ∧ slot < 256 ∧ offset < 2 ^ 32 ∧ length < 2 ^ 16)
  | .challenge tr slot summary nonce => decide (tr < 3 ∧ slot < 256 ∧ summary < 256 ∧ nonce.length = 32)
  | .getMeasurements tr op _ nonce => decide (tr < 3 ∧ op < 256 ∧ nonce.length = 32)
  | .respondIfReady tr => decide (tr < 3)
  | .spdmUnsupportedRequest tr => decide (tr < 3)
  | .doeAbort ep => decide (ep < 2)
  | .setEndpointId binding op eid => decide (binding < 4 ∧ op < 256 ∧ eid < 256)
  | .getEndpointId binding => decide (binding < 4)
  | .getEndpointUuid binding => decide (binding < 4)
  | .getMctpVersionSupport binding typ => decide (binding < 4 ∧ typ < 256)
  | .getMessageTypeSupport binding => decide (binding < 4)
  | .getVendorDefinedMessageSupport binding selector => decide (binding < 4 ∧ selector < 256)
  | .mctpUnsupportedCommand binding cmd => decide (binding < 4 ∧ cmd < 256)
  | .hlthGet scope offset => decide (scope < 256 ∧ offset < 2 ^ 32)
  | .dumpGet src len offset => decide (src < 256 ∧ len < 2 ^ 16 ∧ offset < 2 ^ 64)
  | .frameReceive link f => f.ok && decide (link < 36)
  | .bobbinLinkDown link hop _ => decide (link < 36 ∧ hop < 4)
  | .linkTrained link hop ack ctrl bulk serial => decide (link < 36 ∧ hop < 4 ∧ ack < 256 ∧ ctrl < 2 ^ 16 ∧ bulk < 2 ^ 16 ∧ serial < 2 ^ 64)
  | .rsp p tag hop status _ _ => decide (p < 32 ∧ tag < 512 ∧ hop < 4 ∧ status < 256)
  | .rdata p tag hop seg d _ => d.ok && decide (p < 32 ∧ tag < 512 ∧ hop < 4 ∧ seg < 256)
  | .alert p hop _ _ => decide (p < 32 ∧ hop < 4)
  | .credit link ctrl bulk _ => decide (link < 36 ∧ ctrl < 2 ^ 16 ∧ bulk < 2 ^ 16)
  | .enumerateHop p h => decide (p < 32 ∧ h < 4)
  | .setTimeTimer => true
  | .initStatusPoll p h => decide (p < 32 ∧ h < 4)
  | .sledInitTimeout p h => decide (p < 32 ∧ h < 4)
  | .enrol p h => decide (p < 32 ∧ h < 4)
  | .disenrol p h => decide (p < 32 ∧ h < 4)
  | .retrain p => decide (p < 32)
  | .portEnWrite p size _ => sizeOk size && decide (p < 32)
  | .pwroff p h size _ => sizeOk size && decide (p < 32 ∧ h < 4)
  | .bayPoll inputs => decide (inputs.length = 32)
  | .bayPowerOn p h => decide (p < 32 ∧ h < 4)
  | .sledTrainTimeout p h => decide (p < 32 ∧ h < 4)
  | .sledPowerRetry p h => decide (p < 32 ∧ h < 4)
  | .mirror seq m => m.ok && decide (seq < 2 ^ 64)
  | .confirm seq => decide (seq < 2 ^ 64)
  | .sync phase permille _ => decide (phase < 8 ∧ permille < 1024)
  | .syncComplete => true
  | .renew _ => true
  | .pairHealth r => r.ok
  | .failbackRequest => true
  | .handoverDrainTimeout => true
  | .peerTimeout => true
  | .leaseRenewTimer => true
  | .leaseExpiry => true
  | .postWindowExpiry => true
  | .rideThroughStart => true
  | .gapEnd _ => true
  | .helloAck pairNo _ => decide (pairNo < 256)
  | .leaseAck seq => decide (seq < 2 ^ 64)
  | .claimGrant claim ago => decide (claim < 2 ^ 32 ∧ ago < 2 ^ 64)
  | .leaseDeny claim => decide (claim < 2 ^ 32)
  | .peerLostAck => true
  | .inSyncAck => true
  | .hello m => m.ok
  | .leaseReq m => m.ok
  | .health m => m.ok
  | .peerLost m => m.ok
  | .inSync m => m.ok
  | .handover m => m.ok
  | .grantAck m => m.ok
  | .witnessLeaseLapse q => decide (q < 4)
  | .grantRepeat q => decide (q < 4)
  | .healthReportTimer => true
  | .standbySelfTest test _ => decide (test < 5)
  | .selfTestRerun test _ => decide (test < 5)
  | .fedHello link h => h.ok && decide (link < 8)
  | .electionStart _ => true
  | .electionDecide => true
  | .fedLinkChange dev _ _ => decide (dev < 8)
  | .timeMark => true
  | .timeMarkEdge _ _ => true
  | .fedCallPart m => m.ok
  | .fwWrite size _ => sizeOk size
  | .fwSelect size _ => sizeOk size
  | .fwWriteComplete _ => true
  | .huTestRequest size _ => sizeOk size
  | .capTestTimer => true
  | .capTestStart => true
  | .capTestComplete c => decide (c < 2 ^ 16)
  | .vchgWrite size _ => sizeOk size
  | .bankReachesVchg => true
  | .chargerFault _ => true
  | .vaultImageConsumed => true
  | .vaultEraseSufficient => true
  | .sensorPoll temps vin iin vbank _ => decide (temps.length ≤ 28 ∧ vin < 2 ^ 16 ∧ iin < 2 ^ 16 ∧ vbank < 1024)
  | .throttleStepTimer => true
  | .thermalTrip i => decide (i < 28)
  | .thermalPowerRemoval i => decide (i < 28)
  | .healthReportForm => true
  | .healthRecordSave => true
  | .hlthFreeze size _ => sizeOk size
  | .correctedErrorLog src unit addr _ => decide (src < 256 ∧ unit < 2 ^ 16 ∧ addr < 2 ^ 64)
  | .reservedOpcode th => decide (th < 1024)
  | .controlIslandResetRelease => true
  | .peerHealthStale => true
  | .atsEnableClear ep _ => decide (ep < 2)
  | .badWitnessMessage => true

end Sys2Proof
end

