-- ==== Sys2Proof/Tests/Slice0.lean ====
section
/-! SUPPORT. Small checks of the model: ill-formed commands, single steps against values of the spec, and, for the statements that have
hypotheses, concrete states and operands that meet them. -/

namespace Sys2Proof.Tests

open Sys2Proof.Machine

set_option Elab.async false

/-! ## Ill-formed commands -/

/-- An information word with a byte beyond its 4,096 (R173). -/
def badInfo : Info := { infoReset 0 with data := [(4096, 1)] }

/-- A peer's report with a state beyond its eight bits. -/
def badReport : PairReport := { state := 256, failed := 0, bankMf := 0, temp := 0, syncPm := 0, confSeq := 0, ce := 0, ue := 0 }

/-- A Boot step's end with a unit beyond its eight bits. -/
def badEnd : BootEnd :=
  { pass := true, unit := 256, vboot := 0, digests := [], imageOk := true, dramOk := true, badSlots := [], records := [], entries := []
    openBands := [], newest := 0 }

/-- WellFormed refuses commands with one number, size or list just outside its range. -/
theorem test_ill_formed_1 : ([
  .hotReset 2, .powerFailDetection 2, .flushCommit 1024, .bootStepTimeout 256, .modeReqStandby 0 0, .modeReqStandby 4097 0,
  .modeReqUnlisted 3 8 0, .uncorrectableStructureError 256, .watchdogExpiry 4 [], .firmwareInconsistency 0 (2 ^ 32),
  .seClkWrite 8 8 0, .registerWrite 0 (2 ^ 26) 8 0 false, .retirementSwitchover 16, .grainAgeExpiry 0 (2 ^ 40) (),
  .bankWaitTimeout 1024, .copyRecordAck (2 ^ 16) 0, .copyRecordAck 0 (2 ^ 64), .bandEraseStart 0 (2 ^ 21),
  .mcWritebackAck (2 ^ 14), .mcEccError 16 0 false, .linkLossDeclare (2 ^ 16), .memberReadTimeout 32 0, .memberReadTimeout 0 512,
  .lostUnitScan 0 (2 ^ 48) (), .threadDispatch 1024, .postStallResume 1024, .asyncInstructionComplete 0 (2 ^ 32),
  .sqDoorbell 2 0 8 0, .shuttleGo 32 8 0, .shuttleBusError 0 (2 ^ 37) 0, .shuttleBusError 0 0 (2 ^ 64),
  .bar2Write 0 (2 ^ 36) 0 [] false, .bar2Write 0 0 (2 ^ 16) [] false, .bar2Write 0 0 0 (List.replicate 4097 0) false,
  .bar2Read 0 0 0 4097, .windowWord0Write 4096 8 0, .completionTimeout 0 1024, .atsInvalidateRequest 0 32 0 0,
  .atsInvalidateRequest 0 0 (2 ^ 52) 0, .atsInvalidateRequest 0 0 0 (2 ^ 52), .msixTableWrite 0 (2 ^ 16) 8 0 false none,
  .dStateChange 0 (2 ^ 16)] : List Instr).all (fun c => !c.wellFormed) = true := by decide +kernel

/-- WellFormed refuses more of them. -/
theorem test_ill_formed_2 : ([
  .getVersion 3, .getCertificate 0 256 0 0, .getCertificate 0 0 (2 ^ 32) 0, .getCertificate 0 0 0 (2 ^ 16),
  .challenge 0 0 256 (List.replicate 32 0), .challenge 0 0 0 [], .getMeasurements 0 256 false (List.replicate 32 0),
  .getMeasurements 0 0 false [], .setEndpointId 4 0 0, .setEndpointId 0 0 256, .getMctpVersionSupport 0 256,
  .getVendorDefinedMessageSupport 0 256, .mctpUnsupportedCommand 0 256, .hlthGet 256 0, .dumpGet 0 (2 ^ 16) 0,
  .dumpGet 0 0 (2 ^ 64), .bobbinLinkDown 36 0 false, .bobbinLinkDown 0 4 false, .linkTrained 0 0 256 0 0 0,
  .linkTrained 0 0 0 (2 ^ 16) 0 0, .linkTrained 0 0 0 0 (2 ^ 16) 0, .linkTrained 0 0 0 0 0 (2 ^ 64), .rsp 0 0 0 256 [] false,
  .enumerateHop 0 4, .bayPoll [], .confirm (2 ^ 64), .sync 8 0 [], .sync 0 1024 [], .helloAck 256 false, .claimGrant (2 ^ 32) 0,
  .claimGrant 0 (2 ^ 64), .witnessLeaseLapse 4, .standbySelfTest 5 false, .fedLinkChange 8 false false, .capTestComplete (2 ^ 16),
  .sensorPoll (List.replicate 29 0) 0 0 0 false, .sensorPoll [] (2 ^ 16) 0 0 false, .sensorPoll [] 0 (2 ^ 16) 0 false,
  .sensorPoll [] 0 0 1024 false, .thermalTrip 28, .correctedErrorLog 0 (2 ^ 16) 0 none] : List Instr).all (fun c => !c.wellFormed) = true := by decide +kernel

/-- WellFormed refuses commands whose structured operand does not fit its places. -/
theorem test_ill_formed_3 : ([
  .powerOn { strapsLow with devid := 8 } true false, .perstDeassert { strapsLow with devid := 8 }, .bootStepEnd badEnd,
  .entryFetchComplete 1024 .abort, .hostCompletion 2 0 .abort, .hostCompletion 0 1024 .unsupported,
  .frameReceive 36 ⟨false, 0, 0, false, true, false⟩, .frameReceive 0 ⟨false, 256, 0, false, true, false⟩,
  .rdata 32 0 0 0 (.log []) true, .rdata 0 512 0 0 (.log []) true, .rdata 0 0 4 0 (.log []) true, .rdata 0 0 0 256 (.log []) true,
  .rdata 0 0 0 0 (.codeword [(4640, 1)]) true, .mirror 0 (.block 0 0 0 badInfo), .rebuildStripe 16 0 () (), .gcVictimSelect 0 8 () (),
  .mirror (2 ^ 64) (.region 0 true), .pairHealth badReport, .hello ⟨256, 0, 0, 0, 0, []⟩, .leaseReq ⟨0, 256, 0, 0, 0, []⟩,
  .health ⟨0, 0, 2, 0, 0, []⟩, .peerLost ⟨0, 0, 0, 2 ^ 32, 0, []⟩, .inSync ⟨0, 0, 0, 0, 2 ^ 16, []⟩,
  .handover ⟨0, 0, 0, 0, 0, List.replicate 65 0⟩, .grantAck ⟨256, 0, 0, 0, 0, []⟩, .fedHello 8 ⟨0, none, 0, 0⟩, .fedHello 0 ⟨8, none, 0, 0⟩,
  .fedHello 0 ⟨0, none, 8, 0⟩, .fedHello 0 ⟨0, none, 0, 256⟩, .fedCallPart ⟨8, 0, .startDone 0⟩] : List Instr).all (fun c => !c.wellFormed) = true := by decide +kernel


/-- At the ends of the ranges commands are well formed. -/
theorem test_well_formed : ([.add 1023, .modeReqStandby 8 0, .registerWrite 1 (2 ^ 26 - 1) 4 0 false, .confirm (2 ^ 64 - 1),
    .bayPoll (List.replicate 32 none), .fedHello 7 ⟨7, none, 7, 255⟩] : List Instr).all Instr.wellFormed = true := by decide +kernel

/-! ## States for the checks -/

/-- An STO-9600 in Active with every unit available. -/
def active : State :=
  { State.reset with
    mode := { State.reset.mode with cur := .active, tgt := .active }, bar0 := [(R.DEV_CAP1, 0x00000FFFFFFFFFFF), (R.HOOP_SIZE, 64)]
    boot := { State.reset.boot with running := none } }

/-- A thread in the middle of a pattern of two words, with every permission; g1 = 5, g2 = 3, g3 = 8; h1 names skeins 4 and 5. -/
def thread : Thread :=
  { threadReset 0 with
    running := true, length := 2, budget := 4, perm := 31, regs := [(1, 5), (2, 3), (3, 8)], handles := [(1, [4, 5])] }

/-- Thread 0 stands at an instruction word. -/
def withWord (w : Nat) (t : Thread := thread) : State :=
  { active with threads := [(0, t)], pmem := [(0, BitVec.ofNat 64 w)] }

/-- An instruction word without predicate. -/
def word (op d a b c imm : Nat) : Nat := IWord.encode ⟨op, false, false, 0, d, a, b, c, imm⟩

/-- `withWord` on a word made of its fields. -/
def withIns (op d a b c imm : Nat) (t : Thread := thread) : State := withWord (word op d a b c imm) t

/-- Instruction `want` of thread 0 issues and takes effect, as a truth value. -/
def iss (s : State) (want : IWord → Bool) : Bool :=
  s.canIssue 0 && want (iword (s.curWord 0)) && (s.thr 0).budget != 0 && (iword (s.curWord 0)).legal &&
    execPred (iword (s.curWord 0)).pe (iword (s.curWord 0)).pn (iword (s.curWord 0)).ps (s.thr 0).preds &&
    (iword (s.curWord 0)).perm &&& (s.thr 0).perm == (iword (s.curWord 0)).perm

/-- It says what State.issues says. -/
theorem iss_issues (s : State) (want : IWord → Bool) : iss s want = true ↔ s.issues 0 want := by
  simp only [iss, State.issues, Bool.and_eq_true, bne_iff_ne, beq_iff_eq, ne_eq, and_assoc]

/-! ## Commands and register instructions -/

/-- A command at the front of the queue runs, and the rest stays. -/
theorem test_step_front : (match step { active with pending := [.flrComplete 0, .nop 0] } with
    | .next t => decide (t.pending = [.nop 0])
    | _ => false) = true := by decide +kernel

/-- With nothing queued a tick passes. -/
theorem test_step_idle : (match step active with | .next t => t.tbase == 1 | _ => false) = true := by decide +kernel

/-- 5 − 3 = 2 (R247). -/
theorem test_sub : (match exec (.sub 0) (withIns 0x03 4 1 2 0 0) with
    | .next t => (t.thr 0).reg 4 == 2 && (t.thr 0).pc == 1
    | _ => false) = true := by decide +kernel

/-- A write to g0 is discarded (R236). -/
theorem test_add_g0 : (match exec (.add 0) (withIns 0x01 0 1 2 0 0) with
    | .next t => (t.thr 0).reg 0 == 0 && (t.thr 0).budget == 3
    | _ => false) = true := by decide +kernel

/-- DIVU by zero gives all ones, REMU the dividend (R247). -/
theorem test_div_zero : (match exec (.divu 0) (withIns 0x12 4 1 9 0 0), exec (.remu 0) (withIns 0x13 4 1 9 0 0) with
    | .next t, .next u => (t.thr 0).reg 4 == BitVec.allOnes 64 && (u.thr 0).reg 4 == 5
    | _, _ => false) = true := by decide +kernel

/-- Witness for RegisterInstructionResults. -/
theorem test_wit_RegisterInstructionResults :
    ∀ r ∈ aluRows, iss (withIns r.op 0 0 0 0 0) (fun i => i.op == r.op) = true := by and_intros <;> decide +kernel

/-- Witness for LeadingZeroCount: g1 = 5 has 61 leading zeros; g0 has 64. -/
theorem test_wit_LeadingZeroCount :
    let s := withIns 0x19 4 1 0 0 0
    (iss s (fun i => i.op == 0x19) = true ∧ 61 ≤ 64 ∧ ((s.thr 0).reg (s.ins 0).a).toNat < 2 ^ (64 - 61) ∧
      (61 < 64 → 2 ^ (63 - 61) ≤ ((s.thr 0).reg (s.ins 0).a).toNat)) ∧
    let s := withIns 0x19 4 0 0 0 0
    iss s (fun i => i.op == 0x19) = true ∧ ((s.thr 0).reg (s.ins 0).a).toNat < 2 ^ (64 - 64) := by and_intros <;> decide +kernel

/-- Witnesses for BitFieldInstructions: a field up to bit 63, and one past it. -/
theorem test_wit_BitFieldInstructions : ∀ op ∈ [0x17, 0x18],
    let s := withIns op 4 1 0 0 (60 + 256 * 3)
    let u := withIns op 4 1 0 0 (60 + 256 * 4)
    iss s (fun i => i.op == op) = true ∧ (s.ins 0).imm % 64 + ((s.ins 0).imm / 2 ^ 8 % 64 + 1) = 64 ∧
    iss u (fun i => i.op == op) = true ∧ 64 < (u.ins 0).imm % 64 + ((u.ins 0).imm / 2 ^ 8 % 64 + 1) ∧
    iss (withIns 0x6A 0 0 0 0 0) (fun i => i.op == 0x6A) = true := by and_intros <;> decide +kernel

/-- Witnesses for IssueRules, of every row: cannot issue, no budget, an unused field set, predicate not held (p1 is 0). -/
theorem test_wit_IssueRules : ∀ r ∈ syncRows,
    active.canIssue 0 = false ∧
    (let s := withIns r.2 0 0 0 0 0 { thread with budget := 0 }
     s.canIssue 0 = true ∧ (s.ins 0).op = r.2 ∧ (s.thr 0).budget = 0) ∧
    (let s := withWord (IWord.encode ⟨r.2, true, false, 1, 0, 0, 0, 0, 0⟩)
     s.canIssue 0 = true ∧ (s.ins 0).op = r.2 ∧ (s.thr 0).budget ≠ 0 ∧ (s.ins 0).legal = true ∧
       execPred (s.ins 0).pe (s.ins 0).pn (s.ins 0).ps (s.thr 0).preds = false) := by decide +kernel

/-- Witnesses for IssueRules: NOP with IMM set is illegal, and MAPLOCK without permission M faults. -/
theorem test_wit_IssueRules_faults :
    (let s := withIns 0x6A 0 0 0 0 1
     s.canIssue 0 = true ∧ (s.ins 0).op = 0x6A ∧ (s.thr 0).budget ≠ 0 ∧ (s.ins 0).legal = false) ∧
    (let s := withIns 0x52 0 1 2 0 1 { thread with perm := 0 }
     s.canIssue 0 = true ∧ (s.ins 0).op = 0x52 ∧ (s.thr 0).budget ≠ 0 ∧ (s.ins 0).legal = true ∧
       execPred (s.ins 0).pe (s.ins 0).pn (s.ins 0).ps (s.thr 0).preds = true ∧ (s.ins 0).perm &&& (s.thr 0).perm ≠ (s.ins 0).perm) := by
  decide +kernel

/-- Witnesses for PredicateInstructions. -/
theorem test_wit_PredicateInstructions : ∀ op ∈ [0x20, 0x21, 0x22],
    iss (withIns op 1 1 2 (if op = 0x22 then 0 else 5) 0) (fun i => i.op == op) = true ∨
      iss (withIns op 1 1 0 5 0) (fun i => i.op == op) = true := by and_intros <;> decide +kernel

/-- Witnesses for BranchInstructions: inside the extent of two words, and outside it. -/
theorem test_wit_BranchInstructions : ∀ op ∈ [0x28, 0x29],
    (∀ k ∈ [0, 1], let s := withIns op 0 0 0 0 k
     iss s (fun i => i.op == op) = true ∧ (s.thr 0).pc < 65536 ∧
       ((s.thr 0).base : Int) ≤ (s.thr 0).pc + ((BitVec.ofNat 32 (s.ins 0).imm).signExtend 64).toInt ∧
       ((s.thr 0).pc : Int) + ((BitVec.ofNat 32 (s.ins 0).imm).signExtend 64).toInt < (s.thr 0).base + (s.thr 0).length) ∧
    (∀ k ∈ [2, 0xFFFFFFFF], let s := withIns op 0 0 0 0 k
     iss s (fun i => i.op == op) = true ∧
       ¬ (((s.thr 0).base : Int) ≤ (s.thr 0).pc + ((BitVec.ofNat 32 (s.ins 0).imm).signExtend 64).toInt ∧
       ((s.thr 0).pc : Int) + ((BitVec.ofNat 32 (s.ins 0).imm).signExtend 64).toInt < (s.thr 0).base + (s.thr 0).length)) ∧
    iss (withIns 0x2A 0 0 0 0 0) (fun i => i.op == 0x2A) = true ∧ ((thread.reg 0).toNat < 2) ∧
    iss (withIns 0x2A 0 1 0 0 0) (fun i => i.op == 0x2A) = true ∧ 2 ≤ (thread.reg 1).toNat := by and_intros <;> decide +kernel

/-- The header of a small pricking: Plait over three members, width 3, one parity strip of 4 KiB, KSTRIPS 12, generation 1, array 0. -/
def img : List Byte :=
  leBytes 4 0x474B5250 ++ [1, 1, 3, 3, 1, 0, 0, 12, 1, 0] ++ leBytes 2 12 ++ leBytes 4 1 ++ leBytes 12 0 ++ [0, 1, 2] ++ List.replicate 125 0xFF ++
    leBytes 6 0x300020001 ++ List.replicate 90 0

/-- A couching entry of stripe 0 of band 0 of array 0, OPEN. -/
def entry : CEntry := { centryReset 0 with state := 1, generation := 1, acked := 7 }

/-- An open band of array 0. -/
def openBand : Band := { bandReset 0 with state := .open_, generation := 1, blocks := [9, 9, 9] }

/-- Array 0 exists with its pricking ARMED, bands 0 (open) and 8 (open, interim), and couching entry 0. -/
def withArray (s : State) : State :=
  (({ s with
      prk := { s.prk with slots := [(0, { state := .armed, image := img })] }
      sleds := [(1, { sledReset 0 with enrolled := true, reachable := true, blocks := 16, bpc := 3 }),
                (2, { sledReset 0 with enrolled := true, reachable := true, blocks := 16, bpc := 3 }),
                (3, { sledReset 0 with enrolled := true, reachable := true, blocks := 16, bpc := 3 })]
      bands := [(0, openBand), (8, { openBand with kind := .interim })]
      hoop := { s.hoop with entries := [(0, entry)] } } : State).setFlag (F.ARR_STATE_EXISTS 0) true).setF (F.ARR_BAND_LIMIT 0) 16

/-! ## Runs, parity, map, stripes -/

/-- A SKALLOC of five skeins takes the lowest free ones (R244; log entry 15). -/
theorem test_skalloc : (match exec (.skalloc 0) (withIns 0x30 0 1 0 0 0x200) with
    | .next t => (t.thr 0).run 2 == [0, 1, 2, 3, 4]
    | _ => false) = true := by decide +kernel

/-- Witnesses for SkeinAllocation. -/
theorem test_wit_SkeinAllocation :
    (let s := withIns 0x30 0 1 0 0 0x200
     iss s (fun i => i.op == 0x30) = true ∧ (s.thr 0).run (s.ins 0).h = [] ∧ 0 < ((s.thr 0).reg (s.ins 0).a).toNat ∧
       ((s.thr 0).reg (s.ins 0).a).toNat ≤ 256 ∧ ((s.thr 0).reg (s.ins 0).a).toNat ≤ (s.freeSkeins 0).length) ∧
    (∀ k ∈ [0x200, 0x3200], let s := withIns 0x30 0 1 0 0 k
     iss s (fun i => i.op == 0x30) = true ∧ (s.thr 0).run (s.ins 0).h = [] ∧ ((s.thr 0).reg (s.ins 0).a).toNat ≤ 256 ∧
       0 < ((s.thr 0).reg (s.ins 0).a).toNat ∧ (s.ins 0).ib 12 = (k == 0x3200)) ∧
    (let s := withIns 0x30 0 1 0 0 0x100
     iss s (fun i => i.op == 0x30) = true ∧ (s.thr 0).run (s.ins 0).h ≠ []) ∧
    (let s := withIns 0 0 0 0 0 0 { thread with wait := .skalloc 2 3 }
     (s.thr 0).wait = .skalloc 2 3 ∧ s.threadsRun = true ∧ 3 ≤ (s.freeSkeins 0).length) ∧
    (let s := withIns 0x31 0 0 0 0 0x100
     iss s (fun i => i.op == 0x31) = true ∧ (s.thr 0).run (s.ins 0).h ≠ []) ∧
    (let s := withIns 0x31 0 0 0 0 0x200
     iss s (fun i => i.op == 0x31) = true ∧ (s.thr 0).run (s.ins 0).h = []) := by and_intros <;> decide +kernel

/-- Every entry of a table of used skeins reads so. -/
theorem used_get (n j k : Nat) (h1 : j ≤ k) (h2 : k < j + n) :
    Tbl.get usedReset ((List.range' j n).map (fun i => (i, true))) k = true := by
  induction n generalizing j with
  | zero => omega
  | succ n ih =>
    simp only [List.range'_succ, List.map_cons, Tbl.get]
    split
    · rfl
    · exact ih (j + 1) (by omega) (by omega)

/-- Where every skein of the cluster is in use, fewer are free than a SKALLOC asks for (SkeinAllocation, the two clauses of too few). -/
theorem test_wit_SkeinAllocation_full (s : State) (h : s.skeinUsed = (List.range' 0 1024).map (fun i => (i, true))) :
    (s.freeSkeins 0).length = 0 := by
  simp only [State.freeSkeins, h, List.length_eq_zero_iff, List.filter_eq_nil_iff, List.mem_range]
  intro k hk
  rw [Nat.zero_mul, Nat.zero_add, used_get 1024 0 k (by omega) (by omega)]; simp

/-- The offset of an LDK or STK, and the bytes its run has. -/
def offRoom (s : State) : Nat × Nat :=
  ((((s.thr 0).reg (s.ins 0).a) + BitVec.ofNat 64 ((s.ins 0).imm / 2 ^ 16 % 2 ^ 16)).toNat,
    (if (s.ins 0).ib 12 then 32 else 4096) * ((s.thr 0).run (s.ins 0).h).length)

/-- Witnesses for SkeinAccess: the last word of a run's data and of its sidecars, a misaligned offset, the first beyond, an empty handle. -/
theorem test_wit_SkeinAccess :
    (∀ op ∈ [0x1B, 0x1C],
      (∀ k ∈ [8184 * 2 ^ 16 + 0x100, 56 * 2 ^ 16 + 0x1100], let s := withIns op 0 0 0 0 k
        iss s (fun i => i.op == op) = true ∧ (s.thr 0).run (s.ins 0).h ≠ [] ∧ (offRoom s).1 % 8 = 0 ∧ (offRoom s).1 + 8 = (offRoom s).2) ∧
      (let s := withIns op 0 0 0 0 (4 * 2 ^ 16 + 0x100)
       iss s (fun i => i.op == op) = true ∧ (s.thr 0).run (s.ins 0).h ≠ [] ∧ (offRoom s).1 % 8 ≠ 0) ∧
      (let s := withIns op 0 0 0 0 (8192 * 2 ^ 16 + 0x100)
       iss s (fun i => i.op == op) = true ∧ (offRoom s).1 % 8 = 0 ∧ (offRoom s).2 < (offRoom s).1 + 8) ∧
      (let s := withIns op 0 0 0 0 0x200
       iss s (fun i => i.op == op) = true ∧ (s.thr 0).run (s.ins 0).h = [])) ∧
    (let s := withIns 0x32 0 0 0 0 0x100
     iss s (fun i => i.op == 0x32) = true ∧ (s.thr 0).run (s.ins 0).h ≠ []) ∧
    (let s := withIns 0x32 0 0 0 0 0x200
     iss s (fun i => i.op == 0x32) = true ∧ (s.thr 0).run (s.ins 0).h = []) ∧
    (let s := withIns 0x40 4 1 2 0 0
     iss s (fun i => i.op == 0x40) = true ∧ (s.ins 0).ib 3 = false) ∧
    (let s := withIns 0x40 4 0 2 0 (0x10000 + 0x108)
     iss s (fun i => i.op == 0x40) = true ∧ (s.ins 0).ib 3 = true ∧ (s.thr 0).run (s.ins 0).h ≠ [] ∧
       ((s.thr 0).run (s.ins 0).h).length = ((s.thr 0).run ((s.ins 0).im 16 4)).length) ∧
    (let s := withIns 0x40 4 0 2 0 (0x20000 + 0x108)
     iss s (fun i => i.op == 0x40) = true ∧ (s.ins 0).ib 3 = true ∧
       ((s.thr 0).run (s.ins 0).h).length ≠ ((s.thr 0).run ((s.ins 0).im 16 4)).length) := by and_intros <;> decide +kernel

/-- A thread whose g3 asks for the two blocks of handle 1 (first block 0, count 2), and for one block more than it has. -/
def piThread (g3 : Nat) : Thread := { thread with regs := [(1, 5), (2, 3), (3, BitVec.ofNat 64 g3)] }

/-- Witnesses for ProtectionInstructions: the last block that fits, and one beyond. -/
theorem test_wit_ProtectionInstructions :
    (∀ w ∈ [(0x48, 0x100, 1, 2), (0x49, 0x100, 1, 2), (0x4A, 0x100, 0, 0), (0x4A, 0x2100, 1, 0)],
      let s := withIns w.1 4 w.2.2.1 w.2.2.2 3 w.2.1 (piThread 0x10000)
      iss s (fun i => i.op == w.1) = true ∧ ((s.thr 0).reg (s.ins 0).c).toNat / 2 ^ 8 % 2 ^ 8 +
        (((s.thr 0).reg (s.ins 0).c).toNat / 2 ^ 16 % 2 ^ 8 + 1) = ((s.thr 0).run (s.ins 0).h).length ∧
        (s.ins 0).im 13 2 = w.2.1 / 0x2000) ∧
    (∀ op ∈ [0x48, 0x49, 0x4A],
      let s := withIns op 4 0 0 3 0x100 (piThread 0x10100)
      iss s (fun i => i.op == op) = true ∧ ¬ ((s.thr 0).reg (s.ins 0).c).toNat / 2 ^ 8 % 2 ^ 8 +
        (((s.thr 0).reg (s.ins 0).c).toNat / 2 ^ 16 % 2 ^ 8 + 1) ≤ ((s.thr 0).run (s.ins 0).h).length) ∧
    (let s0 := withIns 0x49 4 1 2 3 0x100 (piThread 0x10000)
     let m : Info := { infoReset 0 with mta := BitVec.ofNat 128 (2 ^ 45) }
     let s : State := { s0 with skeins := [(4, m), (5, m)] }
     iss s (fun i => i.op == 0x49) = true ∧ ∀ k < 2, (s.runInfo 0 1 k).check 0 0 0 0 0 (5 + k) = 0) := by
  and_intros <;> decide +kernel

/-- Of two zero blocks with different guards one fails its check, so that PICHK reports a block (the failing clause of
ProtectionInstructions). -/
theorem test_wit_ProtectionInstructions_fail : ∃ x : Info, x.check 1 0 0 0 0 0 ≠ 0 := by
  have h (x : Info) (h1 : x.poisonBit = false) (h2 : (piApp 1 x.pi == 0xFFFE) = false) (h3 : x.guardOk 1 = false) :
      x.check 1 0 0 0 0 0 ≠ 0 := by
    simp [Info.check, Info.marked, Info.signed, h1, h2, h3]
  by_cases h0 : (Info.mk [] 0 0).guardOk 1 = true
  · refine ⟨⟨[], 1, 0⟩, h _ (by decide) (by decide +kernel) ?_⟩
    simp only [Info.guardOk] at h0 ⊢
    rw [← eq_of_beq h0]; decide +kernel
  · exact ⟨⟨[], 0, 0⟩, h _ (by decide) (by decide +kernel) (by simpa using h0)⟩

/-- Witnesses for SyndromeInstructions. -/
theorem test_wit_SyndromeInstructions :
    (let s := withArray (withIns 0x41 4 0 0 0 0x100 { thread with handles := [(1, [4])] })
     iss s (fun i => i.op == 0x41 && i.mode == 0) = true ∧ (s.thr 0).ctx = none ∧ ((s.thr 0).reg (s.ins 0).c).toNat < couchingSize ∧
       (s.centry 0).state ≠ 0 ∧ pkLayout (s.entryImg 0) ≠ 3 ∧
       ∀ h ∈ (List.range (pkP (s.entryImg 0))).map (fun k => (s.ins 0).h + k), h < 16 ∧ ((s.thr 0).run h).length = pkZ (s.entryImg 0) / 4096) ∧
    (let ctx : ParityCtx := { entry := 0, handles := [1], pendingAdds := 0 }
     let s := withArray (withIns 0x41 4 0 1 0 (8 + 0x100) { thread with handles := [(1, [4])], regs := [(1, 1)], ctx := some ctx })
     iss s (fun i => i.op == 0x41 && i.mode == 1) = true ∧ (s.thr 0).ctx = some ctx ∧ ctx.entry = ((s.thr 0).reg (s.ins 0).c).toNat ∧
       pkRole (s.entryImg 0) ((s.thr 0).reg (s.ins 0).b).toNat = .data 1 ∧ ((s.thr 0).reg (s.ins 0).b).toNat < pkW (s.entryImg 0) ∧
       ((s.thr 0).run (s.ins 0).h).length = pkZ (s.entryImg 0) / 4096) ∧
    (let t : Thread := { thread with ctx := some { entry := 0, handles := [1], pendingAdds := 0 } }
     iss (withIns 0x41 4 0 0 0 0x100 t) (fun i => i.op == 0x41 && i.mode == 0) = true ∧
     iss (withIns 0x41 4 0 0 0 16 t) (fun i => i.op == 0x41 && i.mode == 2) = true ∧ t.ctx ≠ none) ∧
    (iss (withIns 0x41 4 0 0 0 (8 + 0x100)) (fun i => i.op == 0x41 && i.mode == 1) = true ∧
     iss (withIns 0x41 4 0 0 0 16) (fun i => i.op == 0x41 && i.mode == 2) = true ∧
     iss (withIns 0x41 4 0 0 0 24) (fun i => i.op == 0x41 && i.mode == 3) = true ∧ thread.ctx = none) := by
  and_intros <;> decide +kernel

/-- Witnesses for SolveInstruction: index 1 from the syndrome of P, and a count of 0. -/
theorem test_wit_SolveInstruction :
    (let ctx : ParityCtx := { entry := 0, handles := [1], pendingAdds := 0 }
     let t : Thread := { thread with handles := [(1, [4]), (2, [5])], regs := [(1, 0x1000001), (2, 1), (3, 0x0000001)], ctx := some ctx }
     let s := withArray (withIns 0x42 4 1 2 0 0x200 t)
     iss s (fun i => i.op == 0x42) = true ∧ (s.thr 0).ctx = some ctx ∧ ((s.thr 0).reg (s.ins 0).a).toNat / 2 ^ 24 % 4 = 1 ∧
       bits ((s.thr 0).reg (s.ins 0).a).toNat 0 8 < pkD (s.entryImg 0) ∧ ((s.thr 0).reg (s.ins 0).b).toNat = 1 ∧
       ctxRun (s.entryImg 0) ctx 1 0 = some 1 ∧ (s.ins 0).h < 16 ∧ ((s.thr 0).run (s.ins 0).h).length = pkZ (s.entryImg 0) / 4096 ∧
     (let u := withArray (withIns 0x42 4 3 2 0 0x200 t)
      iss u (fun i => i.op == 0x42) = true ∧ ((u.thr 0).reg (u.ins 0).a).toNat / 2 ^ 24 % 4 = 0)) := by
  and_intros <;> decide +kernel

/-- Witnesses for MapInstructions. -/
theorem test_wit_MapInstructions :
    (let s := withArray (withIns 0x50 4 1 2 0 0)
     iss s (fun i => i.op == 0x50) = true ∧ (s.ins 0).im 0 2 = 0 ∧ s.mapIssueStall 0 = false ∧
       ((s.issued 0).mapGet 3 5 = 0 ∨ ((s.issued 0).checkedEntry 3 5).2 ≠ none)) ∧
    (let s := withIns 0x52 0 1 2 0 1
     iss s (fun i => i.op == 0x52) = true ∧ (s.ins 0).ib 0 = true ∧ (s.issued 0).lockHolder 3 5 = none ∧ (s.thr 0).locks.length < 4) ∧
    (let s0 := withIns 0x52 0 1 2 0 1
     let s : State := { s0 with threads := s0.threads ++ [(7, { thread with locks := [(3, 5)] })] }
     iss s (fun i => i.op == 0x52) = true ∧ (s.issued 0).lockHolder 3 5 = some 7) ∧
    (let s := withArray (withIns 0x50 30 0 0 0 1)
     iss s (fun i => i.op == 0x50) = true ∧ (s.ins 0).im 0 2 = 1 ∧ (s.ins 0).d ≤ 30 ∧ (s.band 0 0).state ≠ .free) ∧
    (let s := withIns 0x52 0 1 2 0 0
     iss s (fun i => i.op == 0x52) = true ∧ (s.ins 0).ib 0 = false) ∧
    (let s := withIns 0 0 0 0 0 0 { thread with wait := .maplock 3 5 }
     (s.thr 0).wait = .maplock 3 5 ∧ s.threadsRun = true ∧ s.lockHolder 3 5 = none) ∧
    (let s := withArray (withIns 0x51 4 1 2 3 0)
     iss s (fun i => i.op == 0x51) = true ∧ s.deltaFits = true ∧ s.mapIssueStall 0 = false) := by and_intros <;> decide +kernel

/-- A map entry that passes its check is found (the first clause of MapInstructions): the entry of a grain never written. -/
theorem test_wit_MapInstructions_entry : ((withArray (withIns 0x50 4 1 2 0 0)).checkedEntry 3 5).2 ≠ none := by decide +kernel

/-- Witnesses for StripeInstructions: couching entry 0 is the thread's, in the state each mode needs. -/
theorem test_wit_StripeInstructions :
    (∀ m ∈ [(1, 1), (2, 1), (3, 1), (4, 2), (5, 1), (5, 2), (5, 3)],
      let s0 := withArray (withIns 0x53 4 0 0 0 (8 * m.1) { thread with entries := [0] })
      let s : State := { s0 with hoop := { s0.hoop with entries := [(0, { entry with state := m.2, ipnext := 2048, owner := 0 })] } }
      iss s (fun i => i.op == 0x53 && i.mode == m.1) = true ∧ s.stripeBehind 0 = false ∧ (s.thr 0).asyncs = [] ∧
        ((s.thr 0).reg (s.ins 0).a).toNat ∈ (s.thr 0).entries ∧ (s.centry 0).owner = 0 ∧ (s.centry 0).state = m.2 ∧
        (s.centry 0).ipnext ≠ 0xFFFFFFFF ∧ (s.issued 0).allAcked 0 = true) ∧
    (∀ m ∈ [1, 2, 3, 4, 5], let s := withIns 0x53 4 0 0 0 (8 * m)
      iss s (fun i => i.op == 0x53 && i.mode == m) = true ∧ s.stripeBehind 0 = false ∧
        ((s.thr 0).reg (s.ins 0).a).toNat ∉ (s.thr 0).entries) ∧
    (let s := withArray active
     (s.centry 0).state = 1 ∧ (s.interimSlot (s.centry 0).array (thCluster 0) (s.centry 0).generation).2 ≠ none) := by
  and_intros <;> decide +kernel

/-- Witnesses for StripeOpening: a media address with a reserved bit, the next stripe of band 0 and the one after it, and the
openings of an entry. -/
theorem test_wit_StripeOpening :
    (let s := withIns 0x53 4 1 0 0 0 { thread with regs := [(1, 0x10)] }
     iss s (fun i => i.op == 0x53 && i.mode == 0) = true ∧ mediaParts ((s.thr 0).reg (s.ins 0).a).toNat = none) ∧
    (let s := withArray (withIns 0x53 4 1 0 0 0 { thread with regs := [(1, 0x100000000)] })
     iss s (fun i => i.op == 0x53 && i.mode == 0) = true ∧ mediaParts ((s.thr 0).reg (s.ins 0).a).toNat = some (0, 0, 1, 0) ∧
       s.arrExists 0 = true ∧ s.armed 0 = some img ∧ 0 < s.f (F.ARR_BAND_LIMIT 0) ∧ (s.band 0 0).state = .open_ ∧
       1 < s.bandStripes 0 0 ∧ (s.thr 0).asyncs = []) ∧
    ((withArray active).openStripe 0 0 0 0 0).2 ≠ none ∧
    (let r := (withArray active).openStripe 0 0 0 1 0
     r.2 = none ∧ r.1.misplaced (thCluster 0) (r.1.stripeKind 0 (thCluster 0) 0) 0 0 1 = true) ∧
    (∀ w ∈ [AsyncWait.stripeOpen 0 0 0, .ipnext 0], let o : AsyncOp := ⟨0, 0, none, w, 0, [], [], 0, none⟩
     let s := withIns 0 0 0 0 0 0 { thread with asyncs := [o] }
     s.threadsRun = true ∧
       (s.thr 0).asyncs.find? (fun o => match o.wait with | .stripeOpen .. => true | .ipnext _ => true | _ => false) = some o) := by
  and_intros <;> decide +kernel

/-! ## Movement, commit, EMIT -/

/-- Handle 1 names skeins 4 and 5; g1 and g2 as given; g3 = 0. -/
def mover (a len : Nat) : Thread := { thread with regs := [(1, BitVec.ofNat 64 a), (2, BitVec.ofNat 64 len)] }

/-- FETCH from DRAM brings what lies there (R249). -/
theorem test_fetch_dram : (match exec (.fetch 0) { withIns 0x38 4 1 2 0 (8 * 4 + 0x100) (mover 64 8) with dram := [(64, 7), (71, 1)] } with
    | .next t => t.runWord 0 1 0 == 0x0100000000000007
    | _ => false) = true := by decide +kernel

/-- Witnesses for DramMovement: the last bytes of DRAM into the last of the run; one byte beyond; misaligned; an empty handle; blocks
staged and fetched from the hoop. -/
theorem test_wit_DramMovement :
    (∀ op ∈ [0x38, 0x39], let s := withIns op 4 1 2 0 (8 * 4 + 0x100) (mover (active.dramBytes - 8192) 8192)
     iss s (fun i => i.op == op) = true ∧ (s.ins 0).mode = 4 ∧ (s.thr 0).run (s.ins 0).h ≠ [] ∧
       ((s.thr 0).reg 1).toNat + ((s.thr 0).reg 2).toNat = s.dramBytes ∧
       4096 * (s.ins 0).first + ((s.thr 0).reg 2).toNat = 4096 * ((s.thr 0).run (s.ins 0).h).length) ∧
    (let s := withIns 0x38 4 1 2 0 (8 * 4 + 0x100) (mover (active.dramBytes - 8184) 8192)
     iss s (fun i => i.op == 0x38) = true ∧ s.dramBytes < ((s.thr 0).reg 1).toNat + ((s.thr 0).reg 2).toNat) ∧
    (let s := withIns 0x38 4 1 2 0 (8 * 4 + 0x200) (mover 0 8)
     iss s (fun i => i.op == 0x38) = true ∧ (s.thr 0).run (s.ins 0).h = []) ∧
    (let s := withIns 0x39 4 1 2 3 (8 * 3 + 0x100) (mover 0 8192)
     iss s (fun i => i.op == 0x39 && !(i.mode == 3 && i.im 6 2 == 1)) = true ∧ (s.ins 0).mode = 3 ∧
       (s.ins 0).first + 8192 / 4096 ≤ ((s.thr 0).run (s.ins 0).h).length ∧ (s.thr 0).staged.length + 8192 / 4096 ≤ 1024) ∧
    (let s0 := withIns 0x38 4 1 2 3 (8 * 3 + 0x100) (mover 0 4096)
     let v : Version := { array := 0, grain := 0, seq := 1, blocks := [(0, infoReset 0)], dirty := [], since := 0, gathered := false, entry := none, step6 := false }
     let s : State := { s0 with hoop := { s0.hoop with versions := [v] } }
     iss s (fun i => i.op == 0x38) = true ∧ (s.ins 0).mode = 3 ∧ s.behindCommit 0 (s.thr 0).nextId 0 0 1 = false ∧ ∀ k < 4096 / 4096, (s.hoopBlock 0 (0 + k)).isSome = true) := by
  and_intros <;> decide +kernel

/-- The line at an address holds no poison code in a DRAM that was never written (the first clause of DramMovement). -/
theorem test_wit_DramMovement_clean (a n : Nat) : State.dramPoisoned (withIns 0x38 4 1 2 0 0x120 (mover 0 8)) a n = false := by
  simp [State.dramPoisoned, withIns, withWord, active, State.reset, Tbl.get, poisonReset]

/-- The mover on a ring that may access every host address; its endpoint is ready. -/
def hosted (op imm len : Nat) (ready : Bool) : State :=
  let s := withIns op 4 1 2 0 (imm + 0x100) (mover 0x1000 len)
  ({ s with ep0 := { s.ep0 with busMaster := ready } }).setFlag (F.SQ_CTL_ANYHOST 0) true

/-- Witnesses for HostMovement. -/
theorem test_wit_HostMovement :
    (∀ x ∈ [(0x38, 4096, true), (0x38, 0, true), (0x38, 4096, false), (0x39, 4096, false), (0x39, 4096, true)],
      let s := hosted x.1 0 x.2.1 x.2.2
      (s.ins 0).mode = 0 ∧ s.tagStall 0 1 = false ∧ s.tagStall 0 ((s.thr 0).run (s.ins 0).h).length = false ∧
        (s.issued 0).hostFault 0 (s.ins 0) = 0 ∧ iss s (fun i => i.op == x.1 && !(i.mode == 3 && i.im 6 2 == 1)) = true ∧
        ((s.issued 0).hostOutcome 0 (s.ins 0) (x.1 == 0x39) = if x.2.2 then 0 else 0x0104) ∧ s.hostReady (s.thEp 0) = x.2.2 ∧
        hostBlock (s.arr 0).pifmt ((s.ins 0).ib 12) ((s.ins 0).ib 13) = 4096) := by decide +kernel

/-- A staged block of array 0. -/
def stagedOne : Staged := { array := 0, block := 0, info := infoReset 0 }

/-- A STORE COMMIT that waits, of a thread. -/
def commitOp : AsyncOp := ⟨0, 0, none, .commit [stagedOne] 0, 0, [], [], 0, none⟩

/-- Witnesses for HoopCommit: nothing staged, a block of an array that is not there, one that may be written, and the two events. -/
theorem test_wit_HoopCommit :
    (let s := withIns 0x39 4 0 0 0 (64 + 24)
     iss s (fun i => i.op == 0x39 && i.mode == 3 && i.im 6 2 == 1) = true ∧ (s.thr 0).staged = []) ∧
    (let s := withIns 0x39 4 0 0 0 (64 + 24) { thread with staged := [stagedOne] }
     iss s (fun i => i.op == 0x39 && i.mode == 3 && i.im 6 2 == 1) = true ∧ (s.thr 0).staged ≠ [] ∧
       (s.issued 0).commitStatus (s.thr 0).staged ≠ 0) ∧
    (let s := (withArray (withIns 0x39 4 0 0 0 (64 + 24) { thread with staged := [stagedOne] })).setF (F.ARR_GEOM_GRAINS 0) 4
     iss s (fun i => i.op == 0x39 && i.mode == 3 && i.im 6 2 == 1) = true ∧ (s.issued 0).commitStatus (s.thr 0).staged = 0) ∧
    (let s0 := withIns 0 0 0 0 0 0 { thread with asyncs := [commitOp] }
     let s : State := { s0 with hoop := { s0.hoop with bankWaits := [{ th := 0, sum := 2 ^ 32, since := none }] } }
     s.threadsRun = true ∧ (s.thr 0).asyncs.find? (fun o => match o.wait with | .commit .. => true | _ => false) = some commitOp ∧
       s.hoop.bankWaits.find? (fun w => w.th == 0) = some { th := 0, sum := 2 ^ 32, since := none } ∧
       s.f F.HOOP_BANK_WAIT_TIMEOUT ≤ (BankWait.pause { th := 0, sum := 2 ^ 32, since := none } s.tbase).sum) := by
  and_intros <;> decide +kernel

/-- Witnesses for EmitInstruction: the last column of an open entry, an entry that is not open, and the first beyond the table. -/
theorem test_wit_EmitInstruction :
    (let s := withArray (withIns 0x3A 4 0 2 3 (8 + 0x100) { thread with regs := [(2, 2)], handles := [(1, [4])] })
     iss s (fun i => i.op == 0x3A) = true ∧ ((s.thr 0).reg (s.ins 0).c).toNat = 0 ∧ (s.centry 0).state = 1 ∧
       ((s.thr 0).reg (s.ins 0).b).toNat < pkW (s.bandImg 0 0) ∧ (s.ins 0).ib 3 = true ∧ (s.ins 0).ib 4 = false ∧ (s.ins 0).ib 5 = false ∧
       ((s.thr 0).run (s.ins 0).h).length = pkZ (s.bandImg 0 0) / 4096 ∧ (s.thr 0).run (s.ins 0).h ≠ [] ∧
       ((s.issued 0).setCentry 0 { s.centry 0 with issued := putBit (s.centry 0).issued 2 true }).durableAt
         ((s.issued 0).setCentry 0 { s.centry 0 with issued := putBit (s.centry 0).issued 2 true }).pair.mirSeq = true) ∧
    (let s := withIns 0x3A 4 1 2 3 0 { thread with regs := [(1, 0), (3, 8183)] }
     iss s (fun i => i.op == 0x3A) = true ∧ ((s.thr 0).reg (s.ins 0).c).toNat < couchingSize ∧ (s.centry 8183).state ≠ 1) ∧
    (let s := withIns 0x3A 4 1 2 3 0 { thread with regs := [(1, 0), (3, 8184)] }
     iss s (fun i => i.op == 0x3A) = true ∧ couchingSize ≤ ((s.thr 0).reg (s.ins 0).c).toNat) := by and_intros <;> decide +kernel

/-! ## Waits, signals, completion -/

/-- Witnesses for WaitevInstruction: a condition that holds, one that does not, and a limit reached in this tick. -/
theorem test_wit_WaitevInstruction :
    (let s := withIns 0x58 4 1 0 0 1
     iss s (fun i => i.op == 0x58) = true ∧ (s.thr 0).eventHolds ((s.ins 0).imm % 256) ((s.ins 0).ib 8) ((s.ins 0).ib 10) = true) ∧
    (let s := withIns 0x58 4 1 0 0 0x500
     iss s (fun i => i.op == 0x58) = true ∧ (s.thr 0).eventHolds ((s.ins 0).imm % 256) ((s.ins 0).ib 8) ((s.ins 0).ib 10) = false) ∧
    (let s : State := { withIns 0 0 0 0 0 0 { thread with wait := .waitev 4 0 true true 9, waitSince := 1 } with tbase := 10 }
     (s.thr 0).wait = .waitev 4 0 true true 9 ∧ s.threadsRun = true ∧ (s.thr 0).waitSince + 9 ≤ s.tbase.toNat) := by
  and_intros <;> decide +kernel

/-- Thread 5, running or not, with a number of words in its mailbox. -/
def with5 (s : State) (run : Bool) (n : Nat) : State :=
  { s with threads := s.threads ++ [(5, { thread with running := run, mailbox := List.replicate n 1 })] }

/-- Witnesses for SignalMailboxes: room for the last word, no room, a thread that does not run; a word to take, and none. -/
theorem test_wit_SignalMailboxes :
    (∀ x ∈ [(true, 3), (true, 4), (false, 0)], let s := with5 (withIns 0x59 4 1 2 0 0) x.1 x.2
     iss s (fun i => i.op == 0x59 && i.mode == 0) = true ∧ bits ((s.thr 0).reg (s.ins 0).a).toNat 0 10 = 5 ∧
       (s.thr 5).running = x.1 ∧ (s.thr 5).mailbox.length = x.2 ∧ (s.thr 0).pc < 65536 ∧ (s.thr 5).wait = .none ∧
       s.commitBefore 0 (s.thr 0).nextId (fun _ => true) = false) ∧
    (let s := withIns 0x59 4 1 2 0 0 { thread with asyncs := [commitOp], nextId := 1 }
     iss s (fun i => i.op == 0x59 && i.mode == 0) = true ∧ (s.thr 0).pc < 65536 ∧
       s.commitBefore 0 (s.thr 0).nextId (fun _ => true) = true) ∧
    (∀ l ∈ [[], [(9 : Word)]], let s := withIns 0x59 4 0 0 0 24 { thread with mailbox := l }
     iss s (fun i => i.op == 0x59 && i.mode == 3) = true ∧ (s.thr 0).mailbox = l) := by and_intros <;> decide +kernel

/-- Witnesses for SignalCalls: an empty handle, an absent cluster, a pattern that is not valid, a valid one with a free device-work thread
and with none, and the owner's form. -/
theorem test_wit_SignalCalls :
    (let s := withIns 0x59 4 1 0 0 (8 + 0x200)
     iss s (fun i => i.op == 0x59 && i.mode == 1) = true ∧ (s.thr 0).run (s.ins 0).h = []) ∧
    (let s := (withIns 0x59 4 1 0 0 (8 + 0x100)).setF F.DEV_CAP1_CL_AVAIL 1
     iss s (fun i => i.op == 0x59 && i.mode == 1) = true ∧ (s.thr 0).run (s.ins 0).h ≠ [] ∧ s.clusterAvail 5 = false) ∧
    (let s := withIns 0x59 4 0 0 0 (8 + 0x100)
     iss s (fun i => i.op == 0x59 && i.mode == 1) = true ∧ s.clusterAvail 0 = true ∧ ptValid (s.ptab 0 0) = false) ∧
    (let s := (withIns 0x59 4 0 0 0 (8 + 0x100)).setReg (R.SE_PTAB 0 0) (BitVec.ofNat 64 (2 ^ 63))
     iss s (fun i => i.op == 0x59 && i.mode == 1) = true ∧ ptValid (s.ptab 0 0) = true ∧
       s.commitBefore 0 (s.thr 0).nextId (fun _ => true) = false ∧
       ((s.issued 0).async 0 (s.ins 0) (.queued 0 0 (s.callWords 0 1)) 0 [] [1]).freeThread 0 true = some 12) ∧
    (let s0 := (withIns 0x59 4 0 0 0 (8 + 0x100)).setReg (R.SE_PTAB 0 0) (BitVec.ofNat 64 (2 ^ 63))
     let s : State := { s0 with threads := s0.threads ++ ((List.range 128).filter thDevWork).map (fun k => (k, thread)) }
     iss s (fun i => i.op == 0x59 && i.mode == 1) = true ∧
       ((s.issued 0).async 0 (s.ins 0) (.queued 0 0 (s.callWords 0 1)) 0 [] [1]).freeThread 0 true = none) ∧
    (let s := withIns 0x59 4 1 0 0 (16 + 0x100)
     iss s (fun i => i.op == 0x59 && i.mode == 2) = true ∧ ((s.spanMembers 5)[0 % s.spanCount 5]?).getD s.ownMember = s.ownMember) := by
  and_intros <;> decide +kernel

/-- Witnesses for TimerAndCompletion: both forms of TIMER, and an instruction of each kind whose event has come. -/
theorem test_wit_TimerAndCompletion :
    iss (withIns 0x5A 0 1 0 0 0) (fun i => i.op == 0x5A && !i.ib 3) = true ∧
    iss (withIns 0x5A 4 0 0 0 8) (fun i => i.op == 0x5A && i.ib 3) = true ∧
    (∀ w ∈ [AsyncWait.done, .contribution, .timer 0, .durable 0, .absorb], let o : AsyncOp := ⟨3, 0, some 4, w, 1, [], [], 0, none⟩
     let s := withIns 0 0 0 0 0 0 { thread with asyncs := [o] }
     (s.thr 0).async? 3 = some o ∧ s.threadsRun = true ∧ (s.thr 0).wait = .none ∧ s.durableAt 0 = true ∧ 0 ≤ s.tbase.toNat) := by
  and_intros <;> decide +kernel

/-- Witnesses for WaitLimit. -/
theorem test_wit_WaitLimit : ∀ w ∈ [Wait.skalloc 2 3, .maplock 0 5],
    let s : State := { withIns 0 0 0 0 0 0 { thread with wait := w } with tbase := BitVec.ofNat 64 (2 ^ 40) }
    s.threadsRun = true ∧ (s.thr 0).running = true ∧ (s.thr 0).wait = w ∧
      (s.thr 0).waitSince + s.f (F.SE_WAITLIM_LIMIT (thCluster 0)) ≤ s.tbase.toNat := by decide +kernel

/-- A call of entry 0 of ring 0, in place, pattern 0. -/
def call0 : Call := { ring := 0, index := 0, num := 0, pattern := 0, words := [], batch := 0 }

/-- Witnesses for CompletionInstructions. -/
theorem test_wit_CompletionInstructions :
    (let s := withIns 0x60 0 1 2 0 0 { thread with calls := [call0] }
     iss s (fun i => i.op == 0x60) = true ∧ (s.thr 0).storesOut = false ∧ s.postBarred 0 = false ∧ (s.thr 0).calls ≠ []) ∧
    iss (withIns 0x68 0 0 0 0 255) (fun i => i.op == 0x68) = true ∧
    (∀ l ∈ [[], [call0]], let s := withIns 0x69 0 0 0 0 0 { thread with calls := l }
     iss s (fun i => i.op == 0x69) = true ∧ (s.thr 0).asyncs = [] ∧ (s.thr 0).calls = l) ∧
    (let s := withIns 0x69 0 0 0 0 0 { thread with asyncs := [commitOp] }
     iss s (fun i => i.op == 0x69) = true ∧ (s.thr 0).asyncs ≠ []) ∧
    (let e : Entry := { index := 1, num := 1, words := [1] }
     let s0 := (withIns 0x61 25 0 0 0 0 { thread with calls := [call0] }).setFlag (F.CQ_CTL_INPLACE 0) true
     let s : State := (({ s0 with subRings := [(0, { count := 2, reads := [], early := [], fetched := [e], batches := [] })] } : State)).setF
       (F.SQ_CTL_SIZE_LOG2 0) 4
     iss s (fun i => i.op == 0x61) = true ∧ (s.ins 0).d ≤ 25 ∧ (s.thr 0).calls.getLast? = some call0 ∧ (s.sub 0).fetched = [e] ∧
       e.num = call0.num + 1 ∧ bits (e.words.getD 0 0).toNat 0 4 = 1 ∧
       bits (e.words.getD 0 0).toNat 32 16 = (s.thr 0).pattern ∧ (s.issued 0).sameBatch 0 call0 1 = true) ∧
    (let s := withIns 0x61 25 0 0 0 0 { thread with calls := [call0] }
     iss s (fun i => i.op == 0x61) = true ∧ (s.thr 0).calls.getLast? = some call0 ∧ (s.sub 0).fetched = []) ∧
    (let x : Stalled := ⟨0, 0, [call0], 0, 0⟩
     let s : State := { active with cplRings := [(0, { holding := [], stalled := [x], coalN := 0, coalSince := none })] }
     (s.cpl 0).stalled = [x] ∧ s.holdFits 0 x.calls.length = true ∧ s.callsRun = true) := by
  and_intros <;> decide +kernel

/-- Witnesses for ThreadFaults: thread 0 is a call thread, with and without an instruction outstanding. -/
theorem test_wit_ThreadFaults : thDevWork 0 = false ∧ thDevWork 11 = false ∧ thread.asyncs = [] ∧
    ({ thread with asyncs := [commitOp] } : Thread).asyncs ≠ [] := by decide


/-! ## Registers and rings -/

/-- The host endpoint is open and may send. -/
def hostUp : State := { active with ep0 := { active.ep0 with memSpace := true, busMaster := true } }

/-- A device in another mode. -/
def inMode (m : Mode) (s : State) : State := { s with mode := { s.mode with cur := m, tgt := m } }

/-- A write of a read-only field is not stored: DEV_ID (R13). -/
theorem test_write_ro : (match exec (.registerWrite 0 R.DEV_ID 8 0 false) hostUp with
    | .next t => t.reg R.DEV_ID == hostUp.reg R.DEV_ID
    | _ => false) = true := by decide +kernel

/-- Witnesses for RegisterFieldFrame and RegisterWriteGate: a field that ends at bit 63, one beside it; a write taken, one of 2 bytes, one
at the edge of what Dormant serves, one in Halted. -/
theorem test_wit_RegisterWrites :
    (let x : Field := ⟨R.PAIR_TMO, 32, 32⟩
     let y : Field := ⟨R.PAIR_TMO, 0, 32⟩
     x.lo + x.width = 64 ∧ y.off = x.off ∧ y.lo + y.width = x.lo) ∧
    hostUp.takesWrite R.PAIR_TMO 8 = true ∧ hostUp.takesWrite R.PAIR_TMO 2 = false ∧ hostUp.hostDown = false ∧
    (inMode .dormant hostUp).takesWrite 0xFFF8 8 = false ∧ (inMode .dormant hostUp).takesWrite 0x10000 8 = false ∧
    (inMode .halted hostUp).mode.cur = .halted ∧ (inMode .halted hostUp).hostDown = false ∧ (inMode .flush hostUp).hostDown = true ∧
    (hostUp.ep (if hostUp.bifurcated then 0 % 2 else 0)).open_ = true ∧ blockOf R.PAIR_TMO = .pair ∧
    hostUp.lockedWrite R.PAIR_TMO 8 = false ∧ active.hostDown = false ∧ (active.ep 0).open_ = false ∧
    (R.DEV_POLICY / 8 * 8 ∈ plainRegs ∧ (hostUp.setFlag F.DEV_LOCK_LOCK true).takesWrite R.DEV_POLICY 4 = true ∧
      (hostUp.setFlag F.DEV_LOCK_LOCK true).lockedWrite R.DEV_POLICY 4 = true) := by
  and_intros <;> decide +kernel

/-- Witnesses for TbaseLatchAndLock. -/
theorem test_wit_TbaseLatchAndLock : hostUp.hostDown = false ∧ (hostUp.ep 0).open_ = true ∧
    active.hostDown = false ∧ (active.ep 0).open_ = false ∧ hostUp.takesWrite R.DEV_LOCK 4 = true ∧
    hostUp.takesWrite R.DEV_LOCK 8 = true := by decide +kernel

/-- Submission ring 5 and completion ring 5 in service at S = 16, HEAD = TAIL = 16. -/
def ringUp (inplace : Bool) : State :=
  (((((((({ hostUp with fetchLast := 4 } : State).setF (F.SQ_CTL_SIZE_LOG2 5) 4).setF (F.SQ_IDX_DEVIDX 5) 16).setF (F.SQ_IDX_HOSTIDX 5)
    16).setF (F.CQ_CTL_SIZE_LOG2 5) 4).setF (F.CQ_IDX_DEVIDX 5) 16).setF (F.CQ_IDX_HOSTIDX 5) 12).setFlag (F.SQ_CTL_EN 5) true).setFlag
      (F.CQ_CTL_EN 5) true |>.setFlag (F.CQ_CTL_INPLACE 5) inplace

/-- A doorbell one beyond the indices halts the device with MCODE 5 (R297). -/
theorem test_doorbell_beyond : (match exec (.sqDoorbell 0 5 8 32) (ringUp false) with
    | .next t => t.mode.cur == .halted
    | _ => false) = true := by decide +kernel

/-- Witnesses for DoorbellResults: the last TAIL that 16 entries allow, and the first that does not exist; the completion side; recorded. -/
theorem test_wit_DoorbellResults :
    (let s := ringUp false
     5 < 1024 ∧ s.hostDown = false ∧ s.mode.cur = .active ∧ s.ringEp 5 = 0 ∧ (s.ep 0).open_ = true ∧ s.flag (F.SQ_CTL_EN 5) = true ∧ 0 < 2 * s.sqSize 5 ∧
       ringSub (s.sqSize 5) 0 (s.sqTail 5) = s.sqSize 5 - ringSub (s.sqSize 5) (s.sqTail 5) (s.sqHead 5) ∧ 2 * s.sqSize 5 = 32 ∧
       s.flag (F.CQ_CTL_EN 5) = true ∧ s.flag (F.CQ_CTL_INPLACE 5) = false ∧
       ringSub (s.cqSize 5) 16 (s.cqHead 5) = ringSub (s.cqSize 5) (s.cqTail 5) (s.cqHead 5) ∧ 2 * s.cqSize 5 = 32) ∧
    ∀ m ∈ [Mode.dormant, .boot], (inMode m (ringUp false)).hostDown = false ∧ (inMode m (ringUp false)).ringEp 5 = 0 := by
  and_intros <;> decide +kernel

/-- The eight words of a NOP entry as bytes, and of one of reserved kind 4. -/
def nopBytes (kind : Nat) : List Byte := BitVec.ofNat 8 kind :: List.replicate 63 0

/-- A host read that waits: entry 16 of ring 5. -/
def fetching : State :=
  let h : HostTag := ⟨0, .fetchRing 5 16, 64, 0, none, none, false, []⟩
  { ringUp false with hostTags := [(0, h)], subRings := [(5, { count := 1, reads := [16], early := [], fetched := [], batches := [] })] }

/-- Witnesses for EntryFetchResults: ring 5 is the next that offers one entry; a NOP entry, one of reserved kind, a read that ends. -/
theorem test_wit_EntryFetchResults :
    (let s := (ringUp false).setF (F.SQ_IDX_HOSTIDX 5) 17
     s.fetchOpen = true ∧
       ((List.range 1024).map (fun k => (s.fetchLast + 1 + k) % 1024)).find? (fun r => decide (0 < s.fetchable r)) = some 5) ∧
    (fetching.sub 5).reads = [16] ∧
    (fetching.hostTags.find? (fun e => e.2.reader == .fetchRing 5 16 && e.2.timedOut.isNone && e.2.xlat.isNone)).isSome = true ∧
    (let s0 : State := { fetching with hostTags := fetching.hostTags.erase 0 }
     s0.entryFault 5 (entryWords (nopBytes 0)) = 0 ∧ s0.entryFault 5 (entryWords (nopBytes 4)) ≠ 0) := by
  and_intros <;> decide +kernel

/-- An entry of a kind, of index 16, for pattern 0. -/
def entryOf (kind : Nat) : Entry := { index := 16, num := 0, words := [BitVec.ofNat 64 kind] }

/-- Entries of ring 5 fetched; pattern 0 loaded or not. -/
def fetchedOn (l : List Entry) (loaded : Bool) : State :=
  let s : State := ((ringUp false).setF (F.SQ_STAT_INFLIGHT 5) l.length)
  let t : State := { s with subRings := [(5, { count := l.length, reads := [], early := [], fetched := l, batches := [] })] }
  if loaded then t.setReg (R.SE_PTAB 0 0) (BitVec.ofNat 64 (2 ^ 63)) else t

/-- Witnesses for CallDispatch. -/
theorem test_wit_CallDispatch : ∀ k ∈ [1, 2], ∀ l ∈ [false, true],
    let s := fetchedOn [entryOf k] l
    (s.sub 5).fetched.head? = some (entryOf k) ∧ s.callsRun = true ∧ (entryOf k).kind = k ∧ s.holdRoom (s.cqOf 5) 1 = true ∧
      ptValid (s.ptab (s.f (F.SQ_CTL_CLUSTER 5)) (bits (argWord (entryOf k).words 0) 32 16)) = l ∧
      s.freeThread (s.f (F.SQ_CTL_CLUSTER 5)) false = some 0 := by decide +kernel

/-- Witnesses for NopFenceCoalesce: a NOP behind a fence, a fence with nothing in flight before it and with a call, the timer. -/
theorem test_wit_NopFenceCoalesce :
    (let s := fetchedOn [entryOf 3, entryOf 0] true
     (s.sub 5).fetched.find? (fun e => e.kind == 0) = some (entryOf 0) ∧ (s.sub 5).fetched.head? = some (entryOf 3) ∧ s.callsRun = true ∧ s.holdRoom (s.cqOf 5) 1 = true ∧
       (entryOf 3).kind = 3 ∧ s.f (F.SQ_STAT_INFLIGHT 5) = (s.sub 5).fetched.length + (s.sub 5).reads.length ∧
       (let u := s.setF (F.SQ_STAT_INFLIGHT 5) 3
        u.f (F.SQ_STAT_INFLIGHT 5) ≠ (u.sub 5).fetched.length + (u.sub 5).reads.length)) ∧
    (let s : State := { active with tbase := 1000, cplRings := [(5, { holding := [], stalled := [], coalN := 1, coalSince := some 0 })] }
     (s.cpl 5).coalSince = some 0 ∧ s.flag (F.CQ_CTL_IV_EN 5) = false ∧ 1000 * max 1 (s.f (F.CQ_CTL_COAL_T 5)) ≤ (s.tbase - 0).toNat) := by and_intros <;> decide +kernel

/-- Witnesses for RingEnableDisable: the last ring, ready to be enabled, in service, and bound. -/
theorem test_wit_RingEnableDisable :
    (let s := hostUp.setFlag (F.CQ_CTL_EN 0) true
     let s1 := s.storeCtl (R.SQ_CTL 1023) 8 (withEn 0 true) id
     s.takesWrite (R.SQ_CTL 1023) 8 = true ∧ s.flag (F.SQ_CTL_EN 1023) = false ∧ s.flag (F.SQ_STAT_DRAINING 1023) = false ∧
       s1.flag (F.CQ_CTL_EN (s1.cqOf 1023)) = true ∧ s1.clusterAvail (s1.f (F.SQ_CTL_CLUSTER 1023)) = true) ∧
    (let s := hostUp.setReg (R.SQ_CTL 1023) 9
     s.flag (F.SQ_CTL_EN 1023) = true ∧ s.ctlDiffers (R.SQ_CTL 1023) 8 (withEn 8 false) = false) ∧
    hostUp.takesWrite (R.CQ_CTL 1023) 8 = true ∧ hostUp.flag (F.CQ_CTL_EN 1023) = false ∧
    (∀ n ∈ [0, 1], let s := (hostUp.setReg (R.CQ_CTL 1023) 0x100010009).setF (F.CQ_STAT_BOUND 1023) n
     s.takesWrite (R.CQ_CTL 1023) 8 = true ∧ s.flag (F.CQ_CTL_EN 1023) = true ∧
       s.ctlDiffers (R.CQ_CTL 1023) 8 (withEn 0x100010009 false) = false ∧ s.f (F.CQ_STAT_BOUND 1023) = n ∧
       s.f (F.CQ_STAT_HOLD 1023) = 0) := by and_intros <;> decide +kernel

/-! ## Shuttle DMA, the Map Cache, the hoop -/

/-- A page of a range lies in no window when it lies beyond the last place that a window can reach. -/
theorem inWindows_far (s : State) (a len : Nat) (h : 2 ^ 41 ≤ a) : s.inWindows a len = false := by
  have e : ∀ w ∈ s.windowPages, ¬ (w.1 ≤ a / 4096 ∧ a / 4096 < w.1 + w.2) := by
    intro w hw
    simp only [State.windowPages, List.mem_filterMap, List.mem_range] at hw
    obtain ⟨k, -, hk⟩ := hw
    split at hk
    · cases hk
      have h1 : s.f (F.WIN_W1_TARGET k) < 2 ^ 28 := Nat.mod_lt _ (Nat.two_pow_pos _)
      have h2 : s.f (F.WIN_W1_PAGES k) < 2 ^ 12 := Nat.mod_lt _ (Nat.two_pow_pos _)
      simp only; omega
    · cases hk
  simp only [State.inWindows, List.all_eq_false, pagesOf, List.mem_map, List.mem_range]
  refine ⟨a / 4096, ⟨0, by omega, by omega⟩, ?_⟩
  simp only [List.any_eq_true, decide_eq_true_eq, not_exists, not_and]
  exact fun w hw h1 h2 => e w hw ⟨h1, h2⟩

/-- A range in the target of window 0 lies in the windows. -/
theorem inWindows_first (s : State) (a len : Nat) (h : s.flag (F.WIN_W0_VALID 0) = true)
    (hp : ∀ p ∈ pagesOf a len, s.f (F.WIN_W1_TARGET 0) ≤ p ∧ p < s.f (F.WIN_W1_TARGET 0) + (s.f (F.WIN_W1_PAGES 0) + 1)) :
    s.inWindows a len = true := by
  simp only [State.inWindows, List.all_eq_true, List.any_eq_true]
  intro p hp'
  refine ⟨(s.f (F.WIN_W1_TARGET 0), s.f (F.WIN_W1_PAGES 0) + 1), ?_, by simpa using hp p hp'⟩
  simp only [State.windowPages, List.mem_filterMap, List.mem_range]
  exact ⟨0, by decide, by simp [h]⟩

/-- Window 0 over the first 16 pages of DRAM. -/
def windowed (s : State) : State :=
  ((s.setFlag (F.WIN_W0_VALID 0) true).setF (F.WIN_W1_PAGES 0) 15).setFlag (F.WIN_W0_WR 0) true

/-- A FILL to DRAM, or to the host. -/
def fillDesc (dst len : Nat) : ShtDesc := { src := 0, dst, len, cfg := 0x202, pat := 5 }

/-- A FILL to the host. -/
def hostFill (dst len : Nat) : ShtDesc := { src := 0, dst, len, cfg := 2, pat := 5 }

/-- The registers of channel 31 hold a descriptor. -/
def shadowed (s : State) (d : ShtDesc) : State :=
  (((s.setReg (R.SHT_CH_DST 31) (BitVec.ofNat 64 d.dst)).setReg (R.SHT_CH_LEN 31) (BitVec.ofNat 64 d.len)).setReg (R.SHT_CH_CFG 31)
    (BitVec.ofNat 64 d.cfg)).setReg (R.SHT_CH_PAT 31) d.pat

/-- A GO whose length is no multiple of 8 is refused with ECODE 4 (R315). -/
theorem test_go_misaligned : (match exec (.shuttleGo 31 8 1) (shadowed hostUp (hostFill 0 4)) with
    | .next t => t.f (F.SHT_CH_STAT_ECODE 31) == 4 && t.f (F.SHT_CH_STAT_STATE 31) == 0
    | _ => false) = true := by decide +kernel

/-- Witnesses for ShuttleGoResults (inWindows_first says that its local unit is good): one unit, one behind an active one, one whose length is no multiple of 8. -/
theorem test_wit_ShuttleGoResults :
    (∀ st ∈ [0, 1], let s := (shadowed hostUp (hostFill 0xF000 4096)).setF (F.SHT_CH_STAT_STATE 31) st
     31 < 32 ∧ s.takesCmd (R.SHT_CH_GO 31) 8 = true ∧ s.shtShadow 31 = hostFill 0xF000 4096 ∧ s.shtCheck 31 (s.shtShadow 31) = 0 ∧
       s.f (F.SHT_CH_STAT_STATE 31) = st ∧ (s.shtShadow 31).reads = false ∧ (s.shtShadow 31).op ≠ 3) ∧
    (let d := fillDesc 0xF000 4096
     let s := windowed hostUp
     d.reads = false ∧ d.ds = 2 ∧ s.flag (F.WIN_W0_VALID 0) = true ∧ s.f (F.SHT_CH_POS_POS 31) = 0 ∧
       (∀ p ∈ pagesOf 0xF000 4096, s.f (F.WIN_W1_TARGET 0) ≤ p ∧ p < s.f (F.WIN_W1_TARGET 0) + (s.f (F.WIN_W1_PAGES 0) + 1)) ∧
       s.shtNeeds 31 d = none) ∧
    (let s := shadowed hostUp (hostFill 0 4)
     s.takesCmd (R.SHT_CH_GO 31) 8 = true ∧ s.shtCheck 31 (s.shtShadow 31) = 4) := by and_intros <;> decide +kernel

/-- Channel 31 runs a descriptor. -/
def running (s : State) (d : ShtDesc) : State :=
  { (s.setF (F.SHT_CH_STAT_STATE 31) 1) with sht := [(31, { active := some d, queued := none, retries := 0, data := none, diff := none })] }

/-- Witnesses for ShuttleEnds (inWindows_first and inWindows_far say which unit is bad). -/
theorem test_wit_ShuttleEnds :
    (let d := fillDesc 0xF000 4096
     let s := running (windowed hostUp) d
     (s.chan 31).active = some d ∧ (s.chan 31).queued = none ∧ d.op = 2 ∧ d.ds = 2 ∧ d.irq = false ∧ (s.chan 31).diff = none ∧ d.reads = false ∧ s.f (F.SHT_CH_POS_POS 31) = 0 ∧
       s.flag (F.WIN_W0_VALID 0) = true ∧ (∀ p ∈ pagesOf 0xF000 4096, s.f (F.WIN_W1_TARGET 0) ≤ p ∧
         p < s.f (F.WIN_W1_TARGET 0) + (s.f (F.WIN_W1_PAGES 0) + 1)) ∧ s.hostTags = []) ∧
    (let d : ShtDesc := { src := 0, dst := 0, len := 4096, cfg := 0x201, pat := 0 }
     (∀ m ∈ [Mode.maintenance, .active], let s := inMode m (running hostUp d)
      (s.chan 31).active = some d ∧ d.hostReads = true ∧ s.mode.cur = m ∧ s.shtDenied 31 d = none ∧
        (s.chan 31).retries < s.f F.SHT_RETRY_COUNT) ∧
     ((inMode .maintenance (running active d)).shtDenied 31 d).isSome = true ∧
     (let s := (inMode .maintenance (running hostUp d)).setF F.SHT_RETRY_COUNT 0
      s.f F.SHT_RETRY_COUNT ≤ (s.chan 31).retries ∧ s.mode.cur = .maintenance)) ∧
    (let d := fillDesc (2 ^ 41) 8
     let s := running hostUp d
     (s.chan 31).active = some d ∧ d.ds = 2 ∧ 0 < d.len ∧ s.f (F.SHT_CH_POS_POS 31) = 0) := by
  and_intros <;> decide +kernel

/-- Witnesses for ShuttleReturnToIdle. -/
theorem test_wit_ShuttleReturnToIdle :
    (let s := hostUp.setF (F.SHT_CH_STAT_STATE 31) 2
     s.takesWrite (R.SHT_CH_STAT 31) 8 = true ∧ bit (0x20 : Word).toNat 5 = true ∧ s.f (F.SHT_CH_STAT_STATE 31) = 2) ∧
    (let s := hostUp.setF (F.SHT_CH_STAT_STATE 31) 3
     s.takesWrite R.SHT_STAT 4 = true ∧ bit (1 : Word).toNat 0 = true ∧ s.f (F.SHT_CH_STAT_STATE 31) = 3) := by
  and_intros <;> decide +kernel

/-- The Map Cache in a state, its range at MC_MAINT_BASE and MC_MAINT_LEN. -/
def mcIn (st len : Nat) : State :=
  ((withArray hostUp).setF F.MC_CTL_STATE st).setF F.MC_MAINT_LEN_LEN len

/-- Witnesses for MaintenanceCommands: each command where it is accepted, refused, and refused while one is busy. -/
theorem test_wit_MaintenanceCommands :
    (∀ op ∈ [1, 3, 4, 5], let s := mcIn 1 1
      s.takesCmd R.MC_MAINT_CMD 8 = true ∧ s.mcState = 1 ∧
        s.maintCheck (writtenValue R.MC_MAINT_CMD 8 (withOp 0xFF0000 op)) = 0 ∧ s.f F.MC_MAINT_LEN_LEN ≠ 0) ∧
    (let s := mcIn 1 1
     s.maintCheck (writtenValue R.MC_MAINT_CMD 8 (withOp 0xFF0000 2)) ≠ 0) ∧
    (let s := (mcIn 1 1).setFlag F.MC_MAINT_STAT_BUSY true
     s.takesCmd R.MC_MAINT_CMD 4 = true ∧ s.flag F.MC_MAINT_STAT_BUSY = true) ∧
    (let r : MaintRun := { op := 2, all := true, array := 0, first := 0, len := 0, ways := 0, pos := 0 }
     let s0 := mcIn 0 0
     let s : State := { s0 with mc := { s0.mc with run := some r } }
     s.mc.run = some r ∧ s.mcRuns = true ∧ r.op = 2 ∧ r.all = true ∧ s.mcState = 0) := by and_intros <;> decide +kernel

/-- Witnesses for WayLocks: 10 ms after the preload; eight ways held, of which one is asked for; a way not held. -/
theorem test_wit_WayLocks :
    (let s : State := { hostUp with tbase := 1000000 }
     1000000 ≤ (s.tbase - s.mc.preSince).toNat) ∧
    (let s := hostUp.setF F.MC_WAYPRE_PRE 0xFF
     ∀ n ∈ [0x80, 0xFF], s.takesWrite R.MC_WAYLOCK 8 = true ∧ ((BitVec.ofNat 64 n).toNat % 65536 &&& s.f F.MC_WAYDIS_DIS) = 0 ∧
       wayCount ((s.f F.MC_WAYPRE_PRE - (s.f F.MC_WAYPRE_PRE &&& s.f F.MC_WAYLOCK_LOCK)) |||
         ((BitVec.ofNat 64 n).toNat % 65536 &&& (s.f F.MC_WAYLOCK_LOCK ||| s.f F.MC_WAYPRE_PRE))) = 8) ∧
    (let v : Word := 0x100
     v.toNat % 65536 &&& (hostUp.f F.MC_WAYLOCK_LOCK ||| hostUp.f F.MC_WAYPRE_PRE) ≠ v.toNat % 65536) ∧
    ((0x100 : Word).toNat % 65536 &&& (hostUp.setF F.MC_WAYDIS_DIS 0x100).f F.MC_WAYDIS_DIS ≠ 0) ∧
    8 < wayCount ((hostUp.setF F.MC_WAYPRE_PRE 0x1FF).f F.MC_WAYPRE_PRE) := by decide +kernel

/-- Witnesses for MapCacheEnableDrain. -/
theorem test_wit_MapCacheEnableDrain :
    (∀ v ∈ [true, false], let s := (mcIn 0 0).setFlag F.MC_CTL_INVDONE v
     s.takesCmd R.MC_CTL 8 = true ∧ bit (0 : Word).toNat 1 = false ∧ s.mcState = 0 ∧ s.flag F.MC_CTL_INVDONE = v ∧
       s.flag F.MC_CTL_FAULT = false) ∧
    (mcIn 1 0).mcState = 1 ∧ ((mcIn 2 0).mcState = 2 ∧ (mcIn 2 0).mc.run = none ∧ (mcIn 2 0).mcRuns = true) ∧
    (let x : WriteBack := { set := 8191, way := 15, tag := 3 }
     let s0 := mcIn 1 0
     let s : State := { s0 with mc := { s0.mc with waits := [x] } }
     s.mc.waits.find? (fun x => x.set == 8191) = some x ∧ s.mcState = 1 ∧ x.way < 16 ∧
       (s.cleanLine (x.set * 16 + x.way)).wayOf x.set x.tag = none ∧ s.wayLocked x.way = false ∧ s.wayHeld x.way = false ∧
       s.wayDisabled x.way = false) := by and_intros <;> decide +kernel

/-- Witnesses for MapCacheErrors: the last way, with four and with fewer disabled before it. -/
theorem test_wit_MapCacheErrors : ∀ n ∈ [3, 4], let s := (mcIn 1 0).setF F.MC_WAYDIS_COUNT n
    15 < 16 ∧ s.wayDisabled 15 = false ∧ s.f F.MC_WAYDIS_COUNT = n ∧ s.mcState = 1 ∧ (Tbl.get eccReset s.mc.ecc 15).count = 0 := by
  decide +kernel

/-- A version of grain 3 of array 0, loose, dirty since TBASE 0. -/
def loose : Version :=
  { array := 0, grain := 3, seq := 1, blocks := [], dirty := [], since := 0, gathered := false, entry := none, step6 := false }

/-- Witnesses for HoopBackground. -/
theorem test_wit_HoopBackground :
    (let s0 := (withArray hostUp).setFlag F.HU_STAT_HEALTHY true
     let s : State := { s0 with tbase := BitVec.ofNat 64 (s0.f F.HOOP_AGE_AGE), hoop := { s0.hoop with versions := [loose] } }
     s.looseVersion 0 3 = some loose ∧ s.destages = true ∧ s.bobbinIdle = false ∧ s.unread loose = [] ∧ s.coverDue 0 3 loose.seq = false ∧ s.flag F.HU_STAT_HEALTHY = true ∧
       s.f F.HOOP_AGE_AGE ≤ (s.tbase - loose.since).toNat ∧
       (s.fillVersion loose [] (fun b => zeroBlock (s.arr 0).pifmt 0 (3 * s.gblk 0 + b))).isSome = true ∧
       ({ s with map := [(3, BitVec.ofNat 64 (meMake (3 * 2 ^ 19) true false false false))] } : State).unread loose ≠ []) ∧
    (let s0 := (withArray hostUp).setF F.CLOG_REPL_SLED0 1
     let s : State := { s0 with tbase := BitVec.ofNat 64 (s0.f F.CLOG_SYNC_PERIOD) }
     s.copies ≠ [] ∧ 1 ∈ s.copies ∧ s.bobbinIdle = false ∧ s.f F.CLOG_SYNC_PERIOD ≤ (s.tbase - s.hoop.repl.lastSync).toNat ∧
       s.hoop.repl.dirtyPages = 0 ∧ s.hoop.repl.lostDirty = false ∧
       s.dlog.deltas.filter (fun d => decide (s.hoop.repl.deltaSent ≤ d.pos)) = [] ∧ 0 ≤ s.hoop.repl.nextRseq) ∧
    (∀ b ∈ [false, true], let x : Resync := { left := [5, 6], total := 2, begun := b }
     let s : State := { hostUp with hoop := { hostUp.hoop with resync := some x } }
     s.hoop.resync = some x ∧ s.backgroundRuns = true ∧ s.bobbinIdle = false ∧ s.holdsClaim = true ∧ s.devReads = [] ∧
       s.hoop.entries.filter (fun e => e.2.state != 0 && s.regionOf e.2.array e.2.band == 5) = []) := by
  and_intros <;> decide +kernel

/-! ## The host endpoints, modes, clocks -/

/-- Window 0 over 16 pages of the buffer region, for both directions, valid or not. -/
def bufWindow (valid : Bool) : State :=
  (((windowed hostUp).setFlag (F.WIN_W0_RD 0) true).setF (F.WIN_W1_TARGET 0) (hostUp.bufBase / 4096)).setFlag (F.WIN_W0_VALID 0) valid

/-- A write through BAR2 lands in DRAM at its window's target (R330, R331). -/
theorem test_bar2_write : (match exec (.bar2Write 0 0xFFFF 0 [7] false) (bufWindow true) with
    | .next t => t.dram == [((bufWindow true).bufBase + 0xFFFF, 7)]
    | _ => false) = true := by decide +kernel

/-- Witnesses for WindowAccess and WindowTranslation: the last byte of a window, and the first beyond it. -/
theorem test_wit_WindowAccess : let s := bufWindow true
    s.hostDown = false ∧ (s.ep 0).open_ = true ∧ s.mode.cur ≠ .halted ∧ 0 < 4096 ∧ 0xFFFF < 2 ^ 24 ∧
      (∀ wr ∈ [true, false], s.translate 0 0xFFFF 0 1 wr = some (s.bufBase + 0xFFFF) ∧ s.translate 0 0x10000 0 1 wr = none) := by
  decide +kernel

/-- Witnesses for WindowEntryWrites: made valid over the buffer region, cleared, made valid over page 0, and word 1 in both states. -/
theorem test_wit_WindowEntryWrites :
    (let s := bufWindow false
     let s1 := s.storeReg (R.WIN_W0 0) 8 7
     s.takesWrite (R.WIN_W0 0) 8 = true ∧ s1.flag (F.WIN_W0_VALID 0) = true ∧ s1.windowOk 0 (s1.flag (F.WIN_W0_WR 0)) = true ∧
       (s.storeReg (R.WIN_W0 0) 8 6).flag (F.WIN_W0_VALID 0) = false ∧ s.takesWrite (R.WIN_W1 0) 8 = true ∧
       s.flag (F.WIN_W0_VALID 0) = false ∧ (bufWindow true).flag (F.WIN_W0_VALID 0) = true ∧
       (bufWindow true).takesWrite (R.WIN_W1 0) 8 = true) ∧
    (let s1 := hostUp.storeReg (R.WIN_W0 4095) 8 5
     hostUp.takesWrite (R.WIN_W0 4095) 8 = true ∧ s1.flag (F.WIN_W0_VALID 4095) = true ∧
       s1.windowOk 4095 (s1.flag (F.WIN_W0_WR 4095)) = false) := by and_intros <;> decide +kernel

/-- Tag 3 of endpoint 0 serves instruction 9 of thread 0. -/
def tagged (t : Option Word) (tb : Nat) : State :=
  let h : HostTag := ⟨0, .thread 0 9, 64, 0, none, t, false, []⟩
  let f : Xfer := { space := 0, handle := 1, first := 0, count := 1, addr := 0, array := 0, piint := false, side := false, assist := false, left := 1, step := 0, unrec := 0, status := 0, assisted := 0 }
  let o : AsyncOp := ⟨9, 0, some 4, .host [tagKey 0 3], 0, [1], [], 0, some f⟩
  { hostUp with tbase := BitVec.ofNat 64 tb, hostTags := [(tagKey 0 3, h)], threads := [(0, { thread with asyncs := [o] })] }

/-- Witnesses for HostRequestEnds: outstanding, at its timeout, timed out, one further timeout later. -/
theorem test_wit_HostRequestEnds : ∀ x ∈ [(false, 0), (false, 4000000), (true, 4000000)],
    let s := tagged (if x.1 then some 0 else none) x.2
    (∃ h ∈ s.hostTags.find (tagKey 0 3), h.reader = .thread 0 9 ∧ h.beforeFlr = false ∧ h.xlat = none ∧
      h.timedOut = (if x.1 then some 0 else none) ∧ (x.2 = 4000000 → (s.ep 0).cto ≤ (s.tbase - 0).toNat)) ∧ s.hostDown = false ∧
      ∃ o ∈ ((s.freeTag (tagKey 0 3)).thr 0).async? 9, o.xfer.isSome = true := by decide +kernel

/-- Witnesses for EndpointControls: a module with nothing outstanding, the last vector, D0 and D3hot, and both Bus Master states. -/
theorem test_wit_EndpointControls :
    (hostUp.cfgOpen 0 = true ∧ hostUp.invals = [] ∧ hostUp.hostTags = [] ∧ hostUp.bifurcated = false ∧ (hostUp.ep 0).open_ = true ∧
      (hostUp.ep 0).dstate = .d0 ∧ hostUp.cplRings = [] ∧ (hostUp.ep 0).busMaster = true) ∧ 2047 < 2048 ∧
    active.cfgOpen 0 = true ∧ (active.ep 0).busMaster = false ∧
    (let s : State := { hostUp with ep0 := { hostUp.ep0 with dstate := .d3hot, l1Enable := true } }
     s.cfgOpen 0 = true ∧ (s.ep 0).dstate = .d3hot ∧ (s.ep 0).l1Enable = true ∧ s.hostTags = []) := by and_intros <;> decide +kernel

/-- Witnesses for EndpointResets: one endpoint, and two. -/
theorem test_wit_EndpointResets : hostUp.hostDown = false ∧ hostUp.bifurcated = false ∧
    (let s : State := { hostUp with hw := { hostUp.hw with straps := { strapsLow with hbif := true } } }
     s.hostDown = false ∧ s.bifurcated = true) := by decide +kernel

/-- A mode, with a transition that runs or none. -/
def moving (cur tgt : Mode) (busy draining : Bool) : State :=
  { hostUp with mode := { hostUp.mode with cur, tgt, busy, draining } }

/-- A request for a mode that no row allows sets REQ_ERR: Active to Dormant (R37). -/
theorem test_active_dormant : (match exec (.modeReqDormant 8 0) (moving .active .active false false) with
    | .next t => t.mode.reqErr && t.mode.cur == .active && !t.mode.busy
    | _ => false) = true := by decide +kernel

/-- Witnesses for ModeRequests. -/
theorem test_wit_ModeRequests :
    (∀ m ∈ [Mode.active, .standby, .maintenance, .dormant], let s := moving m m false false
      s.takesCmd R.DEV_MODE 8 = true ∧ bit (0 : Word).toNat 15 = false ∧ s.mode.busy = false ∧ s.mode.cur = m ∧ s.paired = false) ∧
    (let s := moving .active .maintenance true true
     s.takesCmd R.DEV_MODE 4 = true ∧ s.mode.busy = true) ∧
    (moving .standby .standby false false).anyArray = false ∧
    ({ moving .standby .standby false false with map := [] } : State).dormantOk = true := by and_intros <;> decide +kernel

/-- Witnesses for ModeTransitions: a drain that has ended, by its target, and the exit from Dormant. -/
theorem test_wit_ModeTransitions :
    (∀ m ∈ [Mode.maintenance, .standby, .witness], let s := moving .active m true true
      s.mode.busy = true ∧ s.mode.draining = true ∧ s.drained = true ∧ s.linkOff = false ∧ s.mode.cur ≠ .halted ∧ s.mode.tgt = m ∧
        s.paired = false ∧ s.anyArray = false) ∧
    (let s : State := { moving .standby .dormant true true with hoop := { hostUp.hoop with versions := [{ loose with dirty := [0] }] } }
     s.drained = true ∧ s.mode.tgt = .dormant ∧ s.dormantOk = false) ∧
    (let s := moving .standby .dormant true true
     s.drained = true ∧ s.mode.tgt = .dormant ∧ s.dormantOk = true) ∧
    (let s := moving .dormant .standby true false
     s.mode.busy = true ∧ s.mode.cur = .dormant ∧ s.mode.tgt = .standby ∧ s.hw.powered = true ∧ s.recorder = []) ∧
    (judgedMode (moving .active .standby true true).mode.cur = true ∧ judgedMode .dormant = false) := by
  and_intros <;> decide +kernel

/-- Witnesses for ClusterClocks: the last cluster, above, below and at its target. -/
theorem test_wit_ClusterClocks :
    (∀ v ∈ [0, 1], hostUp.takesWrite (R.SE_CLK 7) 8 = true ∧
      ((hostUp.storeReg (R.SE_CLK 7) 8 (BitVec.ofNat 64 v)).f (F.SE_CLK_TARGET 7) = 0 ↔ v = 0)) ∧
    (∀ c ∈ [1, 2, 3], let s := ((hostUp.setF (F.SE_CLK_TARGET 7) 2).setF (F.SE_CLK_CAP 7) 7).setF (F.SE_CLK_CUR 7) c
      s.threadsRun = true ∧ s.clusterAvail 7 = true ∧ s.f (F.SE_CLK_CUR 7) = c ∧
        min (s.f (F.SE_CLK_TARGET 7)) (s.f (F.SE_CLK_CAP 7)) = 2) := by and_intros <;> decide +kernel

/-! ## Power, thermal, resets, Boot -/

/-- A Flush that runs. -/
def flushRun (writes ended : Bool) : FlushRun := { start := 0, writes, ended }

/-- A device with a Flush in some state, or none. -/
def flushing (m : Mode) (f : Option FlushRun) : State :=
  let s := inMode m hostUp
  { s with power := { s.power with flush := f } }

/-- A commit of an image leaves RESULT 1 (R425). -/
theorem test_flush_commit : (match exec (.flushCommit 300) (flushing .flush (some (flushRun true false))) with
    | .next t => t.f F.PWR_LOG_RESULT == 1 && t.power.image.isSome && !t.power.erased
    | _ => false) = true := by decide +kernel

/-- Witnesses for FlushSequence: no Flush in each mode, and a Flush that writes, one that writes nothing. -/
theorem test_wit_FlushSequence :
    (∀ m ∈ [Mode.active, .standby, .maintenance, .boot, .dormant, .witness, .halted],
      (flushing m none).hw.powered = true ∧ (flushing m none).power.flush = none ∧ (flushing m none).mode.cur = m) ∧
    (∀ w ∈ [true, false], (flushing .flush (some (flushRun w false))).power.flush = some (flushRun w false) ∧
      (flushRun w false).ended = false ∧ (flushRun w false).writes = w) := by and_intros <;> decide +kernel

/-- Witnesses for BankTests. -/
theorem test_wit_BankTests :
    (let s : State := { hostUp with power := { hostUp.power with testPending := false, tested := true } }
     let v := BitVec.ofNat 64 (s.reg R.HU_CTL).toNat
     s.hw.powered = true ∧ s.takesWrite R.HU_CTL 8 = true ∧ s.flag F.HU_STAT_TESTING = false ∧ s.power.testPending = false ∧
       (s.storeReg R.HU_CTL 8 (BitVec.ofNat 64 (putBit v.toNat 32 true))).f F.HU_CTL_VCHG_DV = s.f F.HU_CTL_VCHG_DV ∧
       bit (0x1F401E1 : Word).toNat 32 = false ∧ s.f F.HU_CTL_VCHG_DV < (s.storeReg R.HU_CTL 8 0x1F401E1).f F.HU_CTL_VCHG_DV ∧
       s.power.tested = true) ∧
    (let s0 : State := { hostUp with tbase := 8640000000000 }
     let s : State := { s0 with power := { s0.power with testPending := false } }
     8640000000000 ≤ (s.tbase - s.power.lastTest).toNat ∧ s.flag F.HU_STAT_TESTING = false ∧ s.power.testPending = false) ∧
    (let s := hostUp.setF F.HU_STAT_VBANK_DV 0x1E0
     s.power.testPending = true ∧ s.f F.HU_CTL_VCHG_DV = s.f F.HU_STAT_VBANK_DV ∧ s.power.lowering = false ∧ s.power.flush = none ∧
       s.power.tested = false) ∧
    (let s := hostUp.setFlag F.HU_STAT_TESTING true
     s.flag F.HU_STAT_TESTING = true ∧ s.mode.cur ≠ .boot) := by and_intros <;> decide +kernel

/-- A bank at its charge voltage, tested, over an erased image area, is healthy; one not tested is not (BankHealth). -/
theorem test_wit_BankHealth : ∀ b ∈ [true, false],
    let s0 := inMode .standby ((hostUp.setF F.HU_STAT_VBANK_DV 0x1E0).setF F.HOOP_DIRTY_LIMIT_MAX_MIB 64)
    let s : State := { s0 with power := { s0.power with tested := b, erased := true } }
    (s.notReady = 0 ↔ b = true) ∧ 15 * s.power.vchg ≤ 16 * s.f F.HU_STAT_VBANK_DV := by decide +kernel

/-- Witnesses for VaultImage: as many MiB as MAX_MIB allows, one block more, and none waiting. -/
theorem test_wit_VaultImage :
    (∀ d ∈ [16384, 16385], let s0 := hostUp.setF F.HOOP_DIRTY_LIMIT_MAX_MIB 64
      let s : State := { s0 with power := { s0.power with waiting := some d, tested := true, vchg := 0 } }
      s.hw.powered = true ∧ s.power.flush = none ∧ s.power.waiting = some d ∧ 5 ≤ s.notReady ∧
        (d = 16384 → ceilDiv d 256 = s.f F.HOOP_DIRTY_LIMIT_MAX_MIB) ∧ (d = 16385 → s.f F.HOOP_DIRTY_LIMIT_MAX_MIB < ceilDiv d 256)) ∧
    (hostUp.power.image = none ∧ hostUp.power.waiting = none) := by and_intros <;> decide +kernel

/-- Witnesses for ThermalRules: 95 °C at level 1, 89 °C at level 0, level 2, and the last junction sensor at 110 °C for 1 ms. -/
theorem test_wit_ThermalRules :
    (∀ x ∈ [(1, 95), (0, 89), (2, 100)],
      let s : State := { ((hostUp.setF F.TEMP_STAT_LEVEL x.1).setF F.TEMP_STAT_JMAX_C x.2) with tbase := 10000000 }
      s.threadsRun = true ∧ 10000000 ≤ (s.tbase - s.thermal.lastStep).toNat ∧ s.f F.TEMP_STAT_LEVEL = x.1 ∧
        signed 8 (s.f F.TEMP_STAT_JMAX_C) = x.2) ∧
    (let x : Sensor := { cur := 110, max := 110, min := 20, hotSince := some 0 }
     let s : State := { hostUp with tbase := 100000, thermal := { hostUp.thermal with sensors := [(21, x)] } }
     (s.sensor 21).hotSince = some 0 ∧ 21 < 22 ∧ 100000 ≤ (s.tbase - 0).toNat ∧ s.hw.powered = true ∧ s.power.flush = none) := by
  and_intros <;> decide +kernel

/-- Witnesses for ConventionalResets. -/
theorem test_wit_ConventionalResets :
    (let s : State := { hostUp with hw := { hostUp.hw with powered := false } }
     s.hw.powered = false) ∧
    (let s : State := { hostUp with hw := { hostUp.hw with perst0 := true, ctlReset := true } }
     s.hw.perst0 = true ∧ s.power.flush = none ∧ s.d3cold = false ∧ s.mode.cur ≠ .halted ∧ s.hw.ctlReset = true ∧ s.hw.powered = true) ∧
    hostUp.d3cold = false ∧ ({ hostUp.power with dramKept := true } : PowerState).dramKept = true ∧
    (let s := flushing .flush (some (flushRun true true))
     s.power.flush = some (flushRun true true) ∧ (flushRun true true).ended = true ∧ s.hw.powered = true) := by
  and_intros <;> decide +kernel

/-- A boot step that runs since TBASE 0. -/
def booting (st tb : Nat) : State :=
  let s := inMode .boot hostUp
  { s with tbase := BitVec.ofNat 64 tb, boot := { s.boot with running := some (st, 0) } }

/-- Witnesses for BootSteps: a step at its limit and beyond it; the maps loaded. -/
theorem test_wit_BootSteps :
    (∀ st ∈ [2, 3], (booting st (stepLimit st)).boot.running = some (st, 0) ∧ (booting st (stepLimit st)).mode.cur = .boot ∧
      ((booting st (stepLimit st)).tbase - 0).toNat ≤ stepLimit st ∧
      stepLimit st < ((booting st (stepLimit st + 1)).tbase - 0).toNat ∧ (booting st 0).hw.powered = true) ∧
    (let s := moving .standby .active true false
     s.mode.busy = true ∧ s.mode.tgt = .active ∧ s.mode.draining = false ∧ s.pair.gap = false ∧ s.mode.cur = .standby ∧
       s.beginLoad.runReads.power.mapLoaded = true) ∧
    (let s : State := { moving .standby .active true false with power := { hostUp.power with loading := some [] } }
     s.pair.gap = false ∧ s.beginLoad.runReads.power.mapLoaded = false) ∧
    (({ hostUp.power with mapLoaded := true } : PowerState).mapLoaded = true ∧ hostUp.devReads = [] ∧ hostUp.readJobs = []) := by
  and_intros <;> decide +kernel

/-! ## Pairing -/

/-- A paired unit in a role of R382. -/
def pairedAs (role : Nat) (p : PairState) : State :=
  let s : State := { hostUp with hw := { hostUp.hw with straps := { strapsLow with pairEn := true } }, pair := p }
  (if role = 2 then inMode .standby s else s).setF F.PAIR_STAT_ROLE role

/-- A confirm item of one register (R384). -/
def item : MirrorItem := .reg 0 0

/-- Two blocks whose guards differ from what they hold fail: of the PIs 0 and 1 at most one is the guard of a block (R187). -/
theorem guard_differs : ∃ x : Info, x.guardOk 1 = false := by
  by_cases h0 : (Info.mk [] 0 0).guardOk 1 = true
  · refine ⟨⟨[], 1, 0⟩, ?_⟩
    simp only [Info.guardOk] at h0 ⊢
    rw [← eq_of_beq h0]; decide +kernel
  · exact ⟨⟨[], 0, 0⟩, by simpa using h0⟩

/-- A standby stores the next item and confirms it (R385). -/
theorem test_mirror_confirm : (match exec (.mirror 1 item) (pairedAs 2 pairReset) with
    | .next t => t.pair.rxSeq == 1 && t.out == [.confirm 1]
    | _ => false) = true := by decide +kernel

/-- Witnesses for MirrorProtocol: a standby that takes item 1; an active with two items sent (guard_differs gives a block that fails). -/
theorem test_wit_MirrorProtocol :
    ((pairedAs 2 pairReset).mirrorOpen = true ∧ (pairedAs 2 pairReset).pair.rxSeq = 0 ∧ (pairedAs 2 pairReset).pair.resends < 3 ∧
      3 ≤ (pairedAs 2 { pairReset with resends := 3 }).pair.resends ∧ (pairedAs 2 { pairReset with resends := 3 }).mirrorOpen = true ∧
      (pairedAs 2 pairReset).mirrorGood item = true) ∧
    (let s := pairedAs 1 { pairReset with live := true, mirSeq := 2, confSeq := 1 }
     s.linkRuns = true ∧ s.pair.live = true ∧ s.pair.confSeq < 2 ∧ 2 ≤ s.pair.mirSeq) := by and_intros <;> decide +kernel

/-- Witnesses for SyncProtocol. -/
theorem test_wit_SyncProtocol :
    ((pairedAs 2 pairReset).mirrorOpen = true ∧ (pairedAs 2 pairReset).flag F.PAIR_STAT_INSYNC = false ∧ (pairedAs 2 pairReset).paired = true ∧
      (pairedAs 2 pairReset).linkOff = false ∧ (pairedAs 2 pairReset).role = 2 ∧ (pairedAs 2 pairReset).f F.PAIR_SYNC_PHASE = 0) ∧
    (∀ k ∈ [2, 3], ((pairedAs 2 pairReset).setF F.PAIR_SYNC_PHASE k).f F.PAIR_SYNC_PHASE = k ∧
      ((pairedAs 2 pairReset).setF F.PAIR_SYNC_PHASE k).mirrorOpen = true ∧
      ((pairedAs 2 pairReset).setF F.PAIR_SYNC_PHASE k).flag F.PAIR_STAT_INSYNC = false) ∧
    (pairedAs 5 pairReset).paired = true ∧ (pairedAs 5 pairReset).role = 5 ∧ (pairedAs 5 pairReset).linkOff = false ∧
    (let s := pairedAs 1 { pairReset with live := true }
     s.linkRuns = true ∧ s.role = 1 ∧ s.pair.live = true ∧ s.flag F.PAIR_STAT_INSYNC = false) := by and_intros <;> decide +kernel

/-- Witnesses for LeaseRules: an active with its lease and a renewal asked for, at each limit; a standby, riding through and not. -/
theorem test_wit_LeaseRules :
    (let s := pairedAs 1 pairReset
     s.linkRuns = true ∧ s.mode.cur ≠ .halted ∧ s.role = 1 ∧ s.pair.reqSent.head? = none ∧ s.pair.leaseLost = none ∧ s.linkOff = false) ∧
    (let s := pairedAs 1 { pairReset with reqSent := [(7, 0), (5, 0)], renewSent := some 0, lease := some 0 }
     let u : State := { s with tbase := 1400000 }
     s.paired = true ∧ s.linkOff = false ∧ s.role = 1 ∧ s.linkRuns = true ∧
       s.pair.reqSent.find? (fun e => e.1 == 7) = some (7, 0) ∧ 500000 ≤ (u.tbase - 0).toNat ∧ s.pair.renewSent = some 0 ∧
       s.pair.lease = some 0 ∧ 1400000 ≤ (u.tbase - 0).toNat) ∧
    (claimAbove 0x80000000 1 = true ∧ claimAbove 0x80000001 1 = false ∧ claimAbove 1 0xFFFFFFFF = true) ∧
    (let s : State := { pairedAs 1 { pairReset with leaseLost := some 0 } with tbase := 300000 }
     s.pair.leaseLost = some 0 ∧ 300000 ≤ (s.tbase - 0).toNat ∧ s.mode.cur ≠ .halted ∧ s.linkOff = false) ∧
    (∀ r ∈ [true, false], let s : State := { pairedAs 2 { pairReset with riding := r } with tbase := 1500000 }
      s.linkRuns = true ∧ s.role = 2 ∧ s.pair.riding = r ∧ 1500000 ≤ (s.tbase - s.pair.lastWit).toNat) := by and_intros <;> decide +kernel

/-- A report of a READY unit. -/
def ready : PairReport := { state := 0, failed := 0, bankMf := 100, temp := 40, syncPm := 1000, confSeq := 0, ce := 0, ue := 0 }

/-- Witnesses for SwitchOver: a grant taken and one within 15 ms of a RENEW; the gap; the peer at its limits. -/
theorem test_wit_SwitchOver :
    (∀ r ∈ [false, true], let s := pairedAs 2 { pairReset with lastRenew := if r then some 0 else none }
      s.paired = true ∧ s.linkOff = false ∧ s.role = 2 ∧ s.mode.cur = .standby ∧ s.mode.busy = false ∧ claimAbove 2 s.pair.claim = true ∧
        s.grantBarred = r ∧ s.pair.failbackAsked = none ∧ 2 ≠ s.pair.claim) ∧
    (∀ b ∈ [true, false], let s : State := { pairedAs 2 { pairReset with gap := true } with power := { hostUp.power with mapLoaded := b } }
      s.pair.gap = true ∧ s.mode.cur = .standby ∧ s.power.mapLoaded = b) ∧
    (let s := pairedAs 1 { pairReset with live := true, lostPending := true }
     s.linkRuns = true ∧ s.role = 1 ∧ s.power.tested = false ∧ s.pair.live = true ∧ ready.state = 0 ∧ s.pair.lostPending = true) ∧
    (let s0 := (pairedAs 1 { pairReset with peerReport := some (ready, 0) }).setFlag F.PAIR_STAT_PEER_UP true
     let s : State := { s0 with tbase := 300000001 }
     s.linkRuns = true ∧ s.flag F.PAIR_STAT_PEER_UP = true ∧ s.f F.PAIR_TMO_PEER_TMO ≤ (s.tbase - s.pair.lastFrame).toNat ∧
       300000000 < (s.tbase - 0).toNat) := by and_intros <;> decide +kernel

/-- Witnesses for HandoverAndTests. -/
theorem test_wit_HandoverAndTests :
    (let s0 := (pairedAs 1 { pairReset with peerReport := some (ready, 0) }).setFlag F.PAIR_CTL_FAILBACK_EN true
     let s := s0.setFlag F.PAIR_STAT_INSYNC true
     s.linkRuns = true ∧ s.role = 1 ∧ s.flag F.PAIR_CTL_FAILBACK_EN = true ∧ s.mode.busy = false ∧ s.pair.leaseLost = none ∧
       s.peerReady = true ∧ s.flag F.PAIR_STAT_INSYNC = true ∧ s.mode.cur = .active) ∧
    (let s : State := { pairedAs 1 { pairReset with handover := some 0 } with tbase := 100000000 }
     let u := s.setFlag F.PAIR_STAT_WIT_UP true
     u.linkRuns = true ∧ u.flag F.PAIR_STAT_WIT_UP = true ∧ u.role = 1 ∧ 100000000 ≤ (u.tbase - u.pair.lastReport).toNat ∧
       u.mode.cur ≠ .halted ∧ s.pair.handover = some 0 ∧ s.linkRuns = true ∧ 200000 ≤ (s.tbase - 0).toNat ∧ s.mode.cur ≠ .halted ∧
       100000000 ≤ (s.tbase - s.pair.lastReport).toNat ∧ s.role = 1) ∧
    (let s := pairedAs 2 { pairReset with standing := 16 }
     s.linkRuns = true ∧ s.role = 2 ∧ 4 < 5 ∧ bit s.pair.standing 4 = true ∧ s.mode.cur ≠ .maintenance ∧
       (∀ k, k < 5 → k ≠ 4 → bit s.pair.standing k = true → bit s.pair.rerunFailed k = true)) := by and_intros <;> decide +kernel

/-- A pair of the witness. -/
def witPair : WitPair :=
  { id := (1, 2), hello0 := true, hello1 := true, prefer0 := false, prefer1 := false, lastHolder := none, health0 := some (0, 0)
    health1 := some (0, 0), leaseAt := some 0, lapsed := none, granting := none }

/-- A witness with pair 3 in use, its holder as given. -/
def witnessing (holder : Nat) (x : WitPair) (tb : Nat) : State :=
  let s := inMode .witness { hostUp with pair := { pairReset with pairs := [(3, x)] }, tbase := BitVec.ofNat 64 tb }
  s.setF (F.WIT_PAIR_HOLDER 3) holder

/-- A message of unit 0 of pair 3. -/
def wmsg : WitMsg := { wcode := 2, pair := 3, unit := 0, claim := 0, seq := 9, body := leBytes 8 1 ++ leBytes 8 2 }

/-- Witnesses for WitnessRules. -/
theorem test_wit_WitnessRules :
    (∀ h ∈ [0, 1], let s := witnessing h witPair 0
      s.witnessing = true ∧ wmsg.pair < 4 ∧ s.pairUsed 3 = true ∧ s.f (F.WIT_PAIR_HOLDER 3) = h ∧ s.witStale 3 0 = false ∧
        (s.wpair 3).lapsed ≠ some wmsg.unit ∧ wmsg.unit = 0 ∧ s.eligible 3 1 = true) ∧
    (let s := witnessing 0 { witPair with hello1 := false } 0
     s.eligible 3 1 = false ∧ s.f (F.WIT_PAIR_HOLDER 3) = 0) ∧
    (let s := witnessing 0 { witPair with granting := some (0, 0) } 100000
     (s.wpair 3).granting = some (0, 0) ∧ wmsg.claim = s.f (F.WIT_PAIR_CLAIM 3) ∧ 100000 ≤ (s.tbase - 0).toNat ∧
       s.healthFresh 3 0 = true) ∧
    (let s := witnessing 0 witPair 1500000
     (List.range 4).find? (fun q => s.pairUsed q &&
       (s.wpair q).id == (leNat (wmsg.body.take 8), leNat ((wmsg.body.drop 8).take 8))) = some 3 ∧
       claimAbove wmsg.claim (s.f (F.WIT_PAIR_CLAIM 3)) = false ∧ (s.wpair 3).leaseAt = some 0 ∧ (s.wpair 3).granting = none ∧
       1500000 ≤ (s.tbase - 0).toNat) := by and_intros <;> decide +kernel

/-! ## Links, sleds, bays -/

/-- Bobbin port 31 trained. -/
def linked (x : Port) (s : State) : State := { s with ports := [(31, x)] }

/-- A port that works, with some credit. -/
def goodPort : Port := { portReset 0 with up := true, ctrlCr := 8, bulkCr := 8 }

/-- A packet of two slots. -/
def packet : TxPkt := { slots := 2, msg := .confirm 0 }

/-- A frame in sequence after number 255. -/
def frame (n : Nat) (good : Bool) : Frame := { idle := false, fseq := n, ackseq := 255, nak := false, good, corrected := false }

/-- A frame out of sequence is NAKed, and its number is not kept (R356). -/
theorem test_frame_nak : (match exec (.frameReceive 31 (frame 3 true)) (linked goodPort hostUp) with
    | .next t => (t.port 31).nak && (t.port 31).rxSeq == 255
    | _ => false) = true := by decide +kernel

/-- Witnesses for LinkFrames: good and bad frames, eight replays, a link that trains, EN. -/
theorem test_wit_LinkFrames :
    (let s := linked goodPort hostUp
     31 < 32 ∧ s.linkServed 31 = true ∧ (s.port 31).up = true ∧ (frame 0 true).fseq % 256 = ((s.port 31).rxSeq + 1) % 256 ∧
       (frame 3 true).fseq % 256 ≠ ((s.port 31).rxSeq + 1) % 256) ∧
    (linked { goodPort with replays := 8 } hostUp).port 31 = { goodPort with replays := 8 } ∧
    (let s0 := (hostUp.setFlag (F.BP_HOP_STAT_PWR 31 0) true).setFlag (F.BP_CTL_EN 31) true
     let s := s0.setHop 31 0 { hopReset 0 with stage := .training }
     s.linkServed 31 = true ∧ (s.hop 31 0).stage = .training ∧ s.flag (F.BP_HOP_STAT_PWR 31 0) = true ∧ s.flag (F.BP_CTL_EN 31) = true ∧
       s.takesWrite (R.BP_CTL 31) 4 = true ∧
       (s.storeReg (R.BP_CTL 31) 4 (2 + (s.reg (R.BP_CTL 31) &&& 1))).flag (F.BP_CTL_EN 31) = true ∧
       bit (writtenValue (R.BP_CTL 31) 8 0) 1 = false ∧ (s.storeReg (R.BP_CTL 31) 8 0).flag (F.BP_CTL_EN 31) = false ∧
       bit (writtenValue (R.BP_CTL 31) 8 1) 1 = false ∧ (s.storeReg (R.BP_CTL 31) 8 1).flag (F.BP_CTL_EN 31) = true) := by
  and_intros <;> decide +kernel

/-- A command of port 31. -/
def command (k : SledKind) (p : Purpose) (n : Option Nat) (timed : Option Word) : SledCmd :=
  { hop := 3, sled := n, kind := k, array := 0, scope := false, claim := 0, issued := 0, timedOut := timed, again := false, purpose := p, share := .other, underLoss := false, heldSince := none }

/-- Command 511 of port 31 outstanding. -/
def commanded (c : SledCmd) (tb : Nat) : State :=
  { linked goodPort hostUp with sledCmds := [(sledKey 31 511, c)], tbase := BitVec.ofNat 64 tb }

/-- Witnesses for SledAnswers: no command, one of another hop, a live one, a late one, a READ. -/
theorem test_wit_SledAnswers :
    (let s := linked goodPort hostUp
     31 < 32 ∧ 511 < 512 ∧ 3 < 4 ∧ s.bobbinIdle = false ∧ (s.port 31).up = true ∧ s.sledCmds.find (sledKey 31 511) = none) ∧
    (∀ t ∈ [false, true], ∀ k ∈ [(SledKind.status, Purpose.none), (.read 0 0 0 8 1, .read 0 0)],
      (commanded (command k.1 k.2 none (if t then some 0 else none)) 0).sledCmds.find (sledKey 31 511) =
        some (command k.1 k.2 none (if t then some 0 else none)) ∧
        (command k.1 k.2 none none).hop = 3 ∧ (command k.1 k.2 none none).hop ≠ 2) := by
  and_intros <;> decide +kernel

/-- Witnesses for SledTimeLimits: each limit reached. -/
theorem test_wit_SledTimeLimits :
    (let c := command (.read 0 0 0 0 1) (.read 0 0) (some 5) none
     let s := commanded c 1000000000
     s.sledCmds.find (sledKey 31 511) = some c ∧ s.cmdLimit c ≤ (s.tbase - c.issued).toNat) ∧
    (∀ a ∈ [true, false], let c := { command .status .none none none with again := a }
      let s := commanded c 1000000
      s.sledCmds.find (sledKey 31 511) = some c ∧ s.cmdLimit c = (s.tbase - c.issued).toNat ∧ c.again = a) ∧
    (let c := { command .status .none none none with heldSince := some 0 }
     let s : State := { linked { goodPort with waiting := [c] } hostUp with tbase := 1000000 }
     s.bobbinIdle = false ∧ (s.port 31).waiting = [c] ∧ 1000000 ≤ (s.tbase - 0).toNat) ∧
    (let s : State := { hostUp with tbase := 20000000, sleds := [(5, { sledReset 0 with lostSince := some 0 })] }
     (s.sled 5).lostSince = some 0 ∧ 20000000 ≤ (s.tbase - 0).toNat) := by and_intros <;> decide +kernel

/-- Hop 3 of port 31 in a state. -/
def hopped (x : Hop) (st num tb : Nat) : State :=
  (({ hostUp.setHop 31 3 x with tbase := BitVec.ofNat 64 tb } : State).setF (F.BP_HOP_STAT_STATE 31 3) st).setF (F.BP_HOP_STAT_NUMBER 31 3) num

/-- The first number is free where nothing is enrolled and no slot names it. -/
theorem freeNumber_first (s : State) (h1 : (s.sled 0).enrolled = false) (h2 : s.slotNames 0 = false) (h3 : s.bobbin.hops = []) :
    s.freeNumber = some 0 := by
  rw [State.freeNumber, show 0xFFFF = 0xFFFE + 1 from rfl, List.range_succ_eq_map, List.find?_cons]
  simp only [h1, h2, h3, List.any_nil, Bool.not_false, Bool.and_self]

/-- Witnesses for SledEnrolment (freeNumber_first gives a free number): each stage, a NEW hop, an enrolled one, one that a slot names. -/
theorem test_wit_SledEnrolment :
    (∀ g ∈ [HopStage.trained, .status], let s := hopped { hopReset 0 with stage := g, initSince := some 0 } 0 0xFFFF 6000000000
      s.bobbinIdle = false ∧ (s.hop 31 3).stage = g ∧ (g = .trained → s.liveHops = []) ∧ (s.hop 31 3).initSince = some 0 ∧
        3000000000 ≤ (s.tbase - 0).toNat ∧ 6000000000 ≤ (s.tbase - s.bobbin.lastSetTime).toNat ∧
        1000000 ≤ (s.tbase - (s.hop 31 3).lastPoll).toNat) ∧
    (let s := hopped (hopReset 0) 4 0xFFFF 0
     s.takesCmd (R.BP_HOP_CMD 31 3) 8 = true ∧ s.f (F.BP_HOP_STAT_STATE 31 3) = 4 ∧ s.holdsClaim = true ∧ (s.hop 31 3).enrol = none ∧
       (s.sled 0).enrolled = false ∧ s.slotNames 0 = false ∧ s.bobbin.hops = []) ∧
    (let s := hopped (hopReset 0) 5 9 0
     s.f (F.BP_HOP_STAT_STATE 31 3) ≠ 4 ∧ s.sledAt 31 3 = some 9 ∧ s.slotNames 9 = false ∧ s.holdsClaim = true ∧
       (withArray (s.setF (F.BP_HOP_STAT_NUMBER 31 3) 1)).sledAt 31 3 = some 1 ∧
       (withArray (s.setF (F.BP_HOP_STAT_NUMBER 31 3) 1)).slotNames 1 = true) := by
  and_intros <;> decide +kernel

/-- Witnesses for BayRules. -/
theorem test_wit_BayRules :
    (let s := ((((hostUp.setFlag (F.BP_CTL_EN 0) true).setFlag (F.BP_HOP_STAT_PRESENT 0 0) true).setF (F.BP_HOP_STAT_STATE 0 0) 1))
     s.bayRuns = true ∧ s.sledPower = true ∧ s.bayQueued 0 0 = true ∧ s.powering < s.f F.BAY_CTL_PWR_CONCURRENT) ∧
    (hostUp.bayRuns = true ∧ 1000000 ≤ (({ hostUp with tbase := 1000000 } : State).tbase - 0).toNat) ∧
    (∀ r ∈ [true, false], let s := hopped { hopReset 0 with stage := .training, poweredAt := some 0, retried := r } 2 0xFFFF 35000000
      (s.hop 31 3).poweredAt = some 0 ∧ (s.hop 31 3).stage = .training ∧ (s.hop 31 3).ident = none ∧
        35000000 ≤ (s.tbase - 0).toNat ∧ (s.hop 31 3).retried = r) ∧
    (let s := ((hopped { hopReset 0 with offSince := some 0 } 0 0xFFFF 100000000).setFlag (F.BP_HOP_STAT_PRESENT 31 3) true).setFlag
       (F.BP_CTL_EN 31) true
     let s1 := s.storeReg (R.BP_HOP_CTL 31 3) 8 (BitVec.ofNat 64 (2 ^ (F.BP_HOP_CTL_PWROFF 31 3).lo))
     (s.hop 31 3).offSince = some 0 ∧ s.sledPower = true ∧ 100000000 ≤ (s.tbase - 0).toNat ∧ s.flag (F.BP_HOP_STAT_PRESENT 31 3) = true ∧
       s.flag (F.BP_HOP_CTL_PWROFF 31 3) = false ∧ s.flag (F.BP_CTL_EN 31) = true ∧ s.powering < s.f F.BAY_CTL_PWR_CONCURRENT ∧
       s.takesWrite (R.BP_HOP_CTL 31 3) 8 = true ∧
       s1.flag (F.BP_HOP_CTL_PWROFF 31 3) = true ∧ s.sledAt 31 3 = none ∧ s1.flag (F.BP_HOP_STAT_PRESENT 31 3) = true) ∧
    (let s := withArray (hopped (hopReset 0) 5 1 0)
     s.sledAt 31 3 = some 1 ∧ s.doNotRemove 1 = true) := by and_intros <;> decide +kernel

/-! ## The Pattern Book, prickings, relocation -/

/-- A thread in the shipped program of a pattern, with argument words 1 to 3. -/
def booked (p stage w1 w2 w3 : Nat) (perm : Nat := 31) : Thread :=
  { thread with length := 0, pattern := p, perm, book := { bookReset with stage }, regs := [(1, BitVec.ofNat 64 w1), (2, BitVec.ofNat 64 w2), (3, BitVec.ofNat 64 w3)] }

/-- Array 0 of two grains, and thread 0 as given. -/
def calling (t : Thread) : State := (withArray { hostUp with threads := [(0, t)] }).setF (F.ARR_GEOM_GRAINS 0) 2

/-- A READ past the array's end completes with 0x0320 before it moves anything (R278). -/
theorem test_read_beyond : firstStatus ((calling (booked 1 0 0 0 65536)).dataStatus :: (calling (booked 1 0 0 0 65536)).blockChecks 0 65536 true)
    = 0x0320 := by decide +kernel

/-- Witnesses for BookCallChecks: a call of each pattern that lacks a permission, that fails a check (COUNT 0), and that passes. -/
theorem test_wit_BookCallChecks :
    (∀ p ∈ [1, 2, 4, 5], ∀ n ∈ [0, 1], let s := calling (booked p 0 0x100 0 n)
      (s.book 0).stage = 0 ∧ s.bookReady 0 p = true ∧
        (firstStatus (s.dataStatus :: s.blockChecks 0 65536 true) = 0 ↔ n = 1) ∧
        (firstStatus (s.dataStatus :: s.blockChecks 0 65536 false) = 0 ↔ n = 1) ∧
        (firstStatus (s.dataStatus :: s.blockChecks 0 65536 (s.book 0).origin.isNone ++ [s.writeBarred (s.argArray 0)]) = 0 ↔ n = 1) ∧
        (firstStatus (s.dataStatus :: s.blockChecks 0 (2 ^ 32 - 1) false) = 0 ↔ n = 1)) ∧
    (∀ p ∈ [1, 2], (calling (booked p 0 0 0 1 1)).bookReady 0 p = true ∧ ((calling (booked p 0 0 0 1 1)).thr 0).perm &&& 3 ≠ 3) ∧
    (let s := calling (booked 3 0 0 0 0)
     s.bookReady 0 3 = true ∧ (s.thr 0).perm &&& 2 = 2 ∧ s.dataStatus = 0 ∧ s.rangeStatus (s.argArray 0) 0 0 = 0 ∧
       s.spanMembers (s.argArray 0) = []) := by and_intros <;> decide +kernel

/-- A version of grain 0 that a FLUSH of the array covers. -/
def covered : Version := { loose with grain := 0 }

/-- Witnesses for BookCallEffects: runs of READ and VERIFY, ends, a WRITE of one block, FLUSH with nothing left and with one version,
DISCARD, a pinned grain. -/
theorem test_wit_BookCallEffects :
    (∀ p ∈ [1, 5], let s := calling (booked p 1 0x100 0 1)
      s.bookReady 0 p = true ∧ (s.book 0).stage = 1 ∧ s.spanMembers (s.argArray 0) = [] ∧ min 256 (s.argCount 0 - (s.book 0).pos) = 1 ∧
        s.rangeStatus (s.argArray 0) (s.argBlock 0 + (s.book 0).pos) 1 = 0) ∧
    (∀ p ∈ [1, 2], let s := calling (booked p 1 0x100 0 0)
      s.bookReady 0 p = true ∧ s.argCount 0 ≤ (s.book 0).pos ∧ s.argFua 0 = false) ∧
    (let s0 := calling { booked 2 2 0x100 0 1 with book := { bookReset with stage := 2, n := 1 } }
     let b := s0.book 0
     let s := s0
     s.bookReady 0 2 = true ∧ b.stage = 2 ∧ b.origin = none ∧ b.outs = [] ∧ b.stop = none ∧ s.spanMembers (s.argArray 0) = [] ∧ b.n ≠ 0 ∧
       (∀ k < b.n, s.ownsGrain (s.argArray 0) ((s.argBlock 0 + b.pos + k) / s.gblk (s.argArray 0)) = true) ∧
       s.commitStatus [({ array := 0, block := 0, info := infoReset 0 } : Staged)] = 0) ∧
    (∀ l ∈ [[], [covered]], let s0 := calling { booked 3 1 0 0 0 with covers := 5 }
      let s : State := { s0 with hoop := { s0.hoop with versions := l } }
      s.bookReady 0 3 = true ∧ (s.book 0).stage = 1 ∧ s.rangeStatus (s.argArray 0) 0 0 = 0 ∧ (s.uncovered 0 = [] ↔ l = [])) ∧
    (∀ g ∈ [1, 2], let s := calling (booked 4 g 0 0 0)
      s.bookReady 0 4 = true ∧ (s.book 0).stage = g ∧ s.arrExists 0 = true ∧ s.durableAt (s.book 0).n = true) ∧
    (mePinned (({ calling (booked 4 1 0 0 0) with map := [(0, 0x1000000000000 - 1)] } : State).mapGet 0 0).toNat = true) := by
  and_intros <;> decide +kernel

/-- Of two zero blocks with and without a guard one passes the ingress check of a format 1 array (the WRITE clause of BookCallEffects): its
check is that of R187. -/
theorem test_wit_ingress (x : Info) (h : x.guardOk 1 = true) (hp : piApp 1 x.pi = 0xFFFF) : x.check 1 1 0 0 0 0 = 0 := by
  simp [Info.check, h, hp]

/-- Every device-work thread of cluster 0 runs. -/
def workBusy (s : State) : State := { s with threads := s.threads ++ ((List.range 128).filter thDevWork).map (fun k => (k, thread)) }

/-- Witnesses for AdminCalls. -/
theorem test_wit_AdminCalls :
    (thDevWork 0 = false ∧ (calling (booked 8 0 0 0 0)).freeThread (thCluster 0) true = some 12 ∧ thDevWork 12 = true ∧
      (workBusy (calling (booked 8 0 0 0 0))).freeThread (thCluster 0) true = none) ∧
    (∀ g ∈ [1, 2], let s := calling (booked 6 g 0x100 0 8)
      s.bookReady 0 6 = true ∧ (s.book 0).stage = g ∧ s.durableAt (s.book 0).n = true ∧ s.arrExists 0 = true) ∧
    (∀ op ∈ [0, 1, 2], let s := calling (booked 8 0 (256 * op) 0 0)
      s.bookReady 0 8 = true ∧ s.perm16 0 = true ∧ s.adminStatus 8 = 0 ∧ s.arrExists (s.argArray 0) = true ∧ s.liveArray (s.argArray 0) = 0 ∧
        (s.book 0).stage ≠ bookLast ∧ bits (s.arg 0 1) 8 2 = op ∧ (s.arr 0).scrubRun = false ∧ (s.arr 0).scrubDone = false) ∧
    (let s := inMode .maintenance (calling (booked 0x10 0 64 0 0))
     s.bookReady 0 0x10 = true ∧ (s.book 0).stage ≠ bookLast ∧ s.perm16 0 = true ∧ s.adminStatus 0x10 = 0 ∧ bits (s.arg 0 1) 0 7 = 64 ∧
       s.dramNeed 64 0 ≤ s.dramBytes) ∧
    (let s := calling (booked 0x14 0 1 0 0)
     s.bookReady 0 0x14 = true ∧ s.adminStatus 0x14 = 0 ∧ bits (s.arg 0 1) 0 16 = 1 ∧ (s.sled 1).enrolled = true) ∧
    (let s := calling (booked 0x15 0 0 0 0)
     s.bookReady 0 0x15 = true ∧ s.adminStatus 0x15 = 0) ∧
    (let s := calling (booked 0x13 1 0 2 0)
     s.bookReady 0 0x13 = true ∧ s.arrExists 0 = true ∧ s.f (F.ARR_GEOM_GRAINS 0) = bits (s.arg 0 2) 0 40) := by
  and_intros <;> decide +kernel

/-- A number is reduced before it goes on. -/
def forced (k : Nat → Nat) : Nat → Nat
  | 0 => k 0
  | n + 1 => k (n + 1)

/-- Nothing else happens to it. -/
theorem forced_eq (k : Nat → Nat) (n : Nat) : forced k n = k n := by cases n <;> rfl

/-- CRC-32C with its running value reduced after each byte, so that the kernel can evaluate it over an image. -/
def crcStrict : List Byte → Nat → Nat
  | [], c => c
  | b :: l, c => forced (crcStrict l) (crcByteR 0x82F63B78 8 (c ^^^ b.toNat))

/-- It is that of R59. -/
theorem crcStrict_eq (l : List Byte) (c : Nat) : crcStrict l c = l.foldl (fun c b => crcByteR 0x82F63B78 8 (c ^^^ b.toNat)) c := by
  induction l generalizing c with
  | nil => rfl
  | cons b l ih => rw [crcStrict, forced_eq, ih, List.foldl_cons]

/-- A whole image: as `img` in strips of 64 KiB, every byte of R58 in its place, and its CRC. -/
def goodImg : List Byte :=
  leBytes 4 0x474B5250 ++ [1, 1, 3, 3, 1, 0, 0, 16, 1, 0] ++ leBytes 2 12 ++ leBytes 4 1 ++ leBytes 4 12 ++ leBytes 8 0 ++ [0, 1, 2] ++
    List.replicate 125 0xFF ++ leBytes 6 0x300020001 ++ List.replicate 250 0xFF ++ List.replicate 92 0 ++ leBytes 4 2032219555

/-- Sleds whose erase blocks hold twelve strips of 64 KiB. -/
def paged (s : State) : State := { s with sleds := s.sleds.map (fun e => (e.1, { e.2 with cwp := 4, ppb := 48 })) }

/-- Its CRC is right. -/
theorem goodImg_crc : crc32c (goodImg.take 0x1FC) = pkCrc goodImg := by
  have h : crcStrict (goodImg.take 0x1FC) 0xFFFFFFFF = pkCrc goodImg ^^^ 0xFFFFFFFF := by decide +kernel
  rw [crc32c, ← crcStrict_eq, h, Nat.xor_assoc, Nat.xor_self, Nat.xor_zero]

/-- It passes steps 1 to 6 of R60. -/
theorem goodImg_loads (net b : Bool) : pkLoadCheck net b goodImg = if b then 0 else 0x0311 := by
  rw [pkLoadCheck, goodImg_crc]; cases net <;> cases b <;> decide +kernel

/-- An ARRAY_CREATE of array 0 with two grains and 16 bands into slot 31. -/
def creating : State :=
  (paged (inMode .maintenance (calling { booked 0x11 2 0 2 16 with regs := [(1, 0), (2, 2), (3, 16), (5, 31)] }))).setFlag (F.ARR_STATE_EXISTS 0) false

/-- It passes its checks (EngineAndProgramCalls). -/
theorem test_wit_create : creating.createCheck 0 goodImg = 0 := by
  simp only [State.createCheck, goodImg_loads]; decide +kernel

/-- A program of one instruction for pattern 0x100. -/
def prog : List Byte :=
  leBytes 4 0x50494E51 ++ [1, 0] ++ leBytes 2 0x100 ++ leBytes 4 1 ++ leBytes 4 0 ++ leBytes 2 1 ++ List.replicate 42 0 ++
    leBytes 4 4169592645 ++ List.replicate 8 0

/-- It passes its checks (EngineAndProgramCalls). -/
theorem test_wit_program : (calling (booked 0x20 1 0 72 0)).progCheck 0 prog = 0 := by
  have h : crcStrict (prog.take 0x3C ++ prog.drop 64) 0xFFFFFFFF = 4169592645 ^^^ 0xFFFFFFFF := by decide +kernel
  have e : crc32c (prog.take 0x3C ++ prog.drop 64) = 4169592645 := by
    rw [crc32c, ← crcStrict_eq, h, Nat.xor_assoc, Nat.xor_self, Nat.xor_zero]
  simp only [State.progCheck, e]; decide +kernel

/-- Witnesses for EngineAndProgramCalls. -/
theorem test_wit_EngineAndProgramCalls :
    (∀ l ∈ [[], [(0, 0x0320, 0)]], let s := calling { booked 0x18 2 3 0 0 with book := { bookReset with stage := 2, outs := l } }
     s.bookReady 0 0x18 = true ∧ (s.book 0).stage = 2 ∧ (s.imageStatus 0 = 0 ↔ l = [])) ∧
    (let s := calling (booked 0x1A 0 3 0 0)
     s.bookReady 0 0x1A = true ∧ (s.book 0).stage = 0 ∧ s.perm16 0 = true ∧ s.prk.run = none ∧ s.adminStatus 0x1A ≠ 0) ∧
    (creating.bookReady 0 0x11 = true ∧ (creating.book 0).stage = 2 ∧ creating.imageStatus 0 = 0 ∧ creating.adminStatus 0x11 = 0 ∧
      creating.arrExists (creating.argArray 0) = false) ∧
    (let s := calling (booked 0x21 2 0x001 0 0)
     s.bookReady 0 0x21 = true ∧ (s.book 0).stage = 2 ∧ (bookMask (bits (s.arg 0 1) 0 12)).isSome = true) ∧
    (∀ p ∈ [0x18, 0x19, 0x1A, 0x1B, 0x11], let s := calling { booked p 9 3 0 0 with book := { bookReset with stage := 9, ended := some (0, 1) } }
      s.bookReady 0 p = true ∧ (s.book 0).stage = 9 ∧ (s.book 0).ended = some (0, 1)) ∧
    (∀ p ∈ [0x19, 0x1A, 0x1B], let s := inMode .maintenance (calling (booked p 0 3 0 0))
      s.bookReady 0 p = true ∧ (s.book 0).stage = 0 ∧ s.perm16 0 = true ∧ s.prk.run = none ∧ s.adminStatus p = 0) ∧
    (let s := inMode .maintenance (calling (booked 0x12 1 0 0 0))
     s.bookReady 0 0x12 = true ∧ s.arrExists (s.argArray 0) = true ∧ s.prk.markerWaits = []) ∧
    (∀ g ∈ [1, 3], let s := calling (booked 0x20 g 0 0 0)
      s.bookReady 0 0x20 = true ∧ (s.book 0).stage = g ∧ s.imageStatus 0 = 0) ∧
    (let s := calling (booked 0x21 2 0xFFF 0 0)
     s.bookReady 0 0x21 = true ∧ (s.book 0).stage = 2 ∧ (bookMask (bits (s.arg 0 1) 0 12)).isSome = false) := by
  and_intros <;> decide +kernel

/-- The engine runs a command on slot 31. -/
def engine (op : PrkOp) (st : SlotState) (image : List Byte) (failed : Bool) : State :=
  let r : PrkRun := { op, slot := 31, image, th := none, create := none, waits := [], failed, done := none, silent := false, ready := true }
  let s := withArray hostUp
  { s with prk := { s.prk with run := some r, slots := s.prk.slots ++ [(31, { state := st, image })] } }

/-- Witnesses for PrickingCommands: an idle engine, one that runs, a reserved OP, refusals by state and by mode, ends. -/
theorem test_wit_PrickingCommands :
    (hostUp.takesCmd R.PRK_CMD 8 = true ∧ hostUp.prk.run = none ∧ hostUp.holdsClaim = true ∧ 5 ≤ (5 : Word).toNat % 16) ∧
    ((engine .drop .loaded img false).takesCmd R.PRK_CMD 4 = true ∧ (engine .drop .loaded img false).prk.run.isSome = true) ∧
    (PrkOp.allowed .load (hostUp.slot 31).state = true ∧ PrkOp.allowed .bind (hostUp.slot 31).state = false ∧
      hostUp.prkRefusal .bind 31 ≠ 0) ∧
    (∀ x ∈ [(PrkOp.load, SlotState.empty), (.bind, .loaded), (.drop, .loaded)], let s := engine x.1 x.2 img false
      s.prkRuns = true ∧ s.durableAt s.pair.mirSeq = true ∧ s.pair.live = false ∧ (s.slot 31).image = img) ∧
    (pkLoadCheck hostUp.hw.variant.net true [] ≠ 0) ∧
    ((paged (engine .bind .loaded goodImg false)).prkRuns = true ∧ (paged (engine .bind .loaded goodImg false)).bindCheck goodImg false = 0) ∧
    (let s := inMode .maintenance { engine .arm .bound img false with prk := { (engine .arm .bound img false).prk with run := none } }
     s.prkRefusal .arm 31 = 0 ∧ s.bindCheck (s.slot 31).image true ≠ 0) := by and_intros <;> decide +kernel

/-- The image of a LOAD that passes its checks (PrickingCommands). -/
theorem test_wit_PrickingCommands_load : pkLoadCheck hostUp.hw.variant.net true goodImg = 0 := goodImg_loads _ _

/-- The small image with another array, and one in which every strip of KSTRIPS and generation 2 fits. -/
def reshaping : State :=
  let s := withArray hostUp
  let old := img.take 16 ++ leBytes 4 0 ++ img.drop 20
  { s with prk := { s.prk with slots := [(0, { state := .armed, image := img }), (31, { state := .retiring, image := old })] } }

/-- Witnesses for ArmAndRetire. -/
theorem test_wit_ArmAndRetire :
    (∀ f ∈ [true, false], let s := engine .arm .bound img f
      s.prkRuns = true ∧ s.holdsClaim = true ∧ ∀ n ∈ pkMembers img, (s.sled n).usable = true) ∧
    (hostUp.slotIn (pkArray img) .armed = none) ∧ (∀ f ∈ [true, false], ∃ r ∈ (engine .arm .bound img f).prk.run, r.op = .arm ∧
      r.ready = true ∧ r.done = none ∧ r.create = none ∧ r.failed = f ∧ r.waits = []) ∧
    (let s : State := { reshaping with prk := { reshaping.prk with switching := [(31, [])] } }
     s.slotIn 0 .retiring = some 31 ∧ s.prk.switching.find? (fun x => x.1 == 31) = some (31, []) ∧ s.prk.markerWaits = [] ∧
       s.holdsClaim = true ∧ s.linkOff = false ∧ s.mode.cur ≠ .halted) ∧
    (let s := reshaping
     s.slotIn 0 .retiring = some 31 ∧ s.arrExists 0 = true ∧ s.genInUse 0 (pkGen (s.slot 31).image) = false ∧ s.holdsClaim = true ∧
       s.bobbinIdle = false ∧ judgedMode s.mode.cur = true ∧ s.prk.switching = [] ∧ s.copies = [] ∧ s.copyJoining = false ∧
       s.prk.markerWaits = [] ∧ s.linkOff = false ∧ s.mode.cur ≠ .halted) := by and_intros <;> decide +kernel

/-- Witnesses for CheckpointAndErase: an epoch due after 60 s, one written, a band that no gate admits, an ERASING band, the interval. -/
theorem test_wit_CheckpointAndErase :
    (let s0 := withArray hostUp
     let s : State := { s0 with tbase := 6000000000, dlog := { s0.dlog with appended := true } }
     s.dlog.epochRun = false ∧ s.bobbinIdle = false ∧ s.destages = true ∧ s.holdsClaim = true ∧
       6000000000 ≤ (s.tbase - s.dlog.lastEpoch).toNat) ∧
    (let s0 := withArray hostUp
     let s : State := { s0 with dlog := { s0.dlog with epochRun := true } }
     s.dlog.written = true ∧ s.linkOff = false ∧ s.bobbinIdle = false) ∧
    (let s0 := withArray hostUp
     let s : State := { s0 with dlog := { s0.dlog with next := deltaRoom } }
     s.dlog.epochRun = false ∧ deltaRoom / 2 ≤ s.dlog.next - s.dlog.committed) ∧
    (let s0 : State := { withArray hostUp with hoop := { hostUp.hoop with entries := [] } }
     let s := s0.setBand 0 3 { openBand with state := .closed }
     s.relocates 0 = true ∧ s.eraseGate 0 3 = true) ∧
    ((withArray hostUp).relocates 0 = true ∧ (withArray hostUp).eraseGate 0 0 = false ∧ ((withArray hostUp).band 0 0).state ≠ .erasing) ∧
    (let s := (withArray hostUp).setBand 0 0 { openBand with state := .erasing }
     s.relocates 0 = true ∧ s.eraseGate 0 0 = false ∧ (s.band 0 0).state = .erasing ∧ s.erasingDurable 0 0 = true ∧
       s.erasesOut 0 0 = false) ∧
    (let s : State := { hostUp with tbase := 1000000 }
     s.hw.powered = true ∧ 1000000 ≤ (s.tbase - s.bobbin.lastRate).toNat ∧ s.ports = [] ∧ (withArray s).arrExists 0 = true) := by and_intros <;> decide +kernel

/-- Array 0 with a CLOSED band 3 that holds one valid grain, and garbage collection asked for. -/
def closedBand : State :=
  let s : State := { withArray hostUp with
    hoop := { hostUp.hoop with entries := [] }, map := [(0, BitVec.ofNat 64 (meMake (3 * 2 ^ 19) true false false false))] }
  (s.setBand 0 3 { openBand with state := .closed, valid := 1 }).setFlag (F.ARR_GC_RUN 0) true

/-- Witnesses for RelocationCommands: a victim chosen, none, one to go on with, and RUN clear; a lost unit; a reshape and a scrub with
nothing left, a scrub with a stripe; a copy of a grain the map names there, and one it names elsewhere. -/
theorem test_wit_RelocationCommands :
    (let s := closedBand
     let c := s.bandCluster 0 3
     s.relocates 0 = true ∧ s.clusterAvail c = true ∧ s.flag (F.ARR_GC_RUN 0) = true ∧ s.victimOf 0 c = noVictim ∧
       s.gcReading 0 c = false ∧ ((s.setVictim 0 c noVictim).syncSpace 0).chooseVictim 0 c = some 3 ∧
       (s.setFlag (F.ARR_GC_RUN 0) false).relocates 0 = true ∧ (s.setFlag (F.ARR_GC_RUN 0) false).flag (F.ARR_GC_RUN 0) = false ∧
       s.clusterAvail 0 = true ∧ s.victimOf 0 0 = noVictim ∧ ((s.setVictim 0 0 noVictim).syncSpace 0).chooseVictim 0 0 = none ∧
       (s.setVictim 0 c 3).victimOf 0 c = 3 ∧ 3 ≠ noVictim ∧ ((s.setVictim 0 c 3).band 0 3).reading = false ∧
       ((s.setVictim 0 c 3).stripeToMove 0 3 0).isSome = true ∧ (s.setVictim 0 c 3).gcReading 0 c = false) ∧
    (∀ k < closedBand.gblk 0 / 16, closedBand.unitScanned 0 (3 * 2 ^ 19 + k) = false) ∧
    (meValid ((closedBand.mapGet 0 0).toNat % 2 ^ 48) = true ∧ mePga ((closedBand.mapGet 0 0).toNat % 2 ^ 48) = 3 * 2 ^ 19) ∧
    (let s : State := { closedBand with lost := { hostUp.lost with scans := [⟨0, 5, []⟩] } }
     s.unitScanned 0 5 = true ∧ s.scanDue 0 5 = true ∧ s.linkOff = false ∧ s.mode.cur ≠ .halted) ∧
    (let s : State := { closedBand with prk := reshaping.prk }
     s.relocates 0 = true ∧ (s.retiring 0).isSome = true ∧ s.reshapeWhy 0 = 0 ∧ s.clusterAvail 0 = true ∧ s.reshapeNext 0 0 = none) ∧
    (let s := (withArray hostUp).setArr 0 { (withArray hostUp).arr 0 with scrubRun := true }
     s.relocates 0 = true ∧ (s.arr 0).scrubRun = true ∧ s.scrubNext 0 = none) ∧
    (let s := closedBand.setArr 0 { closedBand.arr 0 with scrubRun := true }
     (s.arr 0).scrubRun = true ∧ s.relocates 0 = true ∧ s.devReads = [] ∧ s.scrubNext 0 = some (3, 0)) := by
  and_intros <;> decide +kernel

/-- As `img`, over four members in a layout that shifts: stripes of width 3 go on when one is lost. -/
def img4 : List Byte :=
  leBytes 4 0x474B5250 ++ [1, 1, 4, 3, 1, 0, 0, 12, 1, 0] ++ leBytes 2 12 ++ leBytes 4 1 ++ leBytes 12 0 ++ [0, 1, 2, 3] ++
    List.replicate 124 0xFF ++ leBytes 8 0x4000300020001 ++ List.replicate 88 0

/-- Array 0 under that pricking with a CLOSED band 3, its sled 1 failed, rebuild admitted. -/
def rebuilding : State :=
  let s0 := closedBand.setBand 0 3 { openBand with state := .closed, valid := 1, blocks := [9, 9, 9, 9] }
  let e := s0.sled 2
  ({ s0 with
      prk := { s0.prk with slots := [(0, { state := .armed, image := img4 })] }
      sleds := [(1, { e with failed := true }), (2, e), (3, e), (4, e)], map := [(0, BitVec.ofNat 64 (meMake (3 * 2 ^ 19) true false false false))] } : State).setF F.CLOG_STAT_COPIES 3

/-- Witnesses for RelocationCommands: rebuild after the failure of sled 1, and a band of the RETIRING pricking. -/
theorem test_wit_RelocationCommands_work :
    (let s := rebuilding
     let c := s.bandCluster 0 3
     s.relocates 0 = true ∧ s.rebuildWhy 0 = 0 ∧ s.clusterAvail c = true ∧ s.devReads = [] ∧
       s.passFirst 0 ((s.passWork 0 c).filter (fun x => !s.beingRead 0 x.1 x.2 && !s.scanPending 0 x.1 x.2)) = some (3, 0) ∧
       s.passFirst 0 ((s.passWork 0 0).filter (fun x => !s.beingRead 0 x.1 x.2 && !s.scanPending 0 x.1 x.2)) = none ∧
       s.clusterAvail 0 = true ∧ closedBand.relocates 0 = true ∧ closedBand.rebuildWhy 0 ≠ 0 ∧
       (inMode .standby s).relocates 0 = false) ∧
    (let s : State := { closedBand.setBand 0 3 { openBand with state := .closed, valid := 1, generation := 0 } with prk := reshaping.prk }
     let c := s.bandCluster 0 3
     s.relocates 0 = true ∧ (s.retiring 0).isSome = true ∧ s.reshapeWhy 0 = 0 ∧ s.clusterAvail c = true ∧ s.reshapeNext 0 c = some 3 ∧
       s.devReads = [] ∧ ({ s with hoop := { s.hoop with resync := some ⟨[], 0, false⟩ } } : State).reshapeWhy 0 ≠ 0) := by and_intros <;> decide +kernel

/-! ## Federation, firmware, trust, health, dumps -/

/-- A member of a federation: DEVID 0, its link to device 7 up; its election has ended with an epoch, or not. -/
def member (epoch : Nat) (x : FedState) : State :=
  ((({ hostUp with fed := x } : State).setF F.FED_LINK_UP 128).setF F.FED_STAT_VIEW 1).setF F.FED_STAT_EPOCH epoch

/-- The federation as reset leaves it. -/
def fedReset : FedState := State.reset.fed

/-- A HELLO of device 7. -/
def hello7 (dev : Nat) : FedHello := { dev, pair := none, mode := 3, view := 0x80 }

/-- A HELLO with this DEVID sets DUP (R407). -/
theorem test_hello_dup : (match exec (.fedHello 7 (hello7 0)) (member 1 fedReset) with
    | .next t => t.flag F.FED_STAT_DUP && t.f F.FED_STAT_VIEW == 1
    | _ => false) = true := by decide +kernel

/-- Witnesses for FederationCommands. -/
theorem test_wit_FederationCommands :
    (let s := member 1 fedReset
     s.member = true ∧ bit (s.f F.FED_LINK_UP) 7 = true ∧ 7 < 8 ∧ s.flag F.FED_STAT_DUP = false ∧ (hello7 7).dev ≠ s.hw.straps.devid ∧
       0 < s.f F.FED_STAT_EPOCH ∧ s.brideAvail (2 + 7 / 4) = true ∧ s.mode.cur ≠ .dormant) ∧
    (let s : State := { member 0 { fedReset with released := some 0 } with tbase := 200000000 }
     s.fed.released = some 0 ∧ s.member = true ∧ s.fed.electing = false ∧ s.f F.FED_STAT_EPOCH = 0 ∧ 200000000 ≤ (s.tbase - 0).toNat) ∧
    (let s : State := { member 0 { fedReset with electing := true } with tbase := 1000000 }
     s.fed.electing = true ∧ s.flag F.FED_STAT_DUP = false ∧ 1000000 ≤ (s.tbase - s.fed.stable).toNat ∧ s.f F.FED_STAT_VIEW ≠ 0) ∧
    (let s : State := { member 1 fedReset with tbase := 100000000 }
     s.flag F.FED_STAT_DUP = false ∧ s.fed.electing = false ∧ s.f F.FED_STAT_EPOCH ≠ 0 ∧ s.f F.FED_STAT_COORD = s.hw.straps.devid ∧ 100000000 ≤ (s.tbase - s.fed.lastMark).toNat) := by
  and_intros <;> decide +kernel

/-- Witnesses for SpanningParts: a waiting instruction, an array that is not there, no link, and a cluster whose device-work threads run. -/
theorem test_wit_SpanningParts :
    (let o : AsyncOp := ⟨9, 0, some 4, .remote 7, 0, [], [], 0, none⟩
     let s : State := { member 1 { fedReset with waits := [(2, (0, 9))] } with threads := [(0, { thread with asyncs := [o] })] }
     s.fedUp 7 = true ∧ s.fedWaiter 7 2 = some (0, o) ∧ o.xfer = none ∧ s.arrExists (21 % 16) = false ∧ s.fedUp 6 = false) ∧
    (let s0 := (member 1 fedReset).setReg (R.SE_PTAB 0 0) (BitVec.ofNat 64 (2 ^ 63))
     let s : State := { s0 with threads := ((List.range 128).filter thDevWork).map (fun k => (k, thread)) }
     s.threadsRun = true ∧ s.fed.queue = [] ∧ s.bandCluster 0 0 = 0 ∧ s.clusterAvail 0 = true ∧ ptValid (s.ptab 0 0) = true ∧
       s.freeThread 0 true = none) := by and_intros <;> decide +kernel

/-- DEV_FW written over the last pages of the buffer area: ADDR and LEN. -/
def fwValue (len : Nat) : Word := BitVec.ofNat 64 ((((hostUp.bufBase + 2 ^ 32) / 4096 - 7168) * 2 ^ 24) + len * 2 ^ 5)

/-- Witnesses for FirmwareUpdate: the largest image, one page more, SELECT, and a WRITE that runs. -/
theorem test_wit_FirmwareUpdate :
    (let s := inMode .maintenance hostUp
     s.takesCmd R.DEV_FW 8 = true ∧ s.flag F.DEV_POLICY_FW_WRITE_DIS = false ∧ s.flag F.DEV_FW_BUSY = false ∧
       ∀ n ∈ [7168, 7169], bit (fwValue n).toNat 4 = false ∧
         (s.fwRange (bits (putBits (fwValue n).toNat 0 2 1) 24 28) (bits (putBits (fwValue n).toNat 0 2 1) 5 13) = true ↔ n = 7168)) ∧
    (let s : State := { hostUp with boot := { hostUp.boot with written := some true, fwRun := some (0, 1) } }
     s.boot.written = some true ∧ s.boot.fwRun = some (0, 1) ∧ s.linkOff = false ∧ s.mode.cur ≠ .halted) := by
  and_intros <;> decide +kernel

/-- Witnesses for SpdmAnswers and MctpControl: both mailboxes of two endpoints and the management bus. -/
theorem test_wit_TrustAnswers :
    let s : State := { hostUp with hw := { hostUp.hw with straps := { strapsLow with hbif := true } } }
    (s.hostDown = false ∧ (s.ep 0).flrBusy = false ∧ (s.ep 1).flrBusy = false ∧ s.bifurcated = true ∧ s.hw.powered = true) ∧ 3 < 4 := by
  decide +kernel

/-- A mailbox and the management bus can be answered; so can each binding (Claims.hears, Claims.mctpHears). -/
theorem test_wit_hears : Claims.hears hostUp 0 ∧ Claims.hears hostUp 2 ∧ Claims.mctpHears hostUp 2 := by
  simp only [Claims.hears, Claims.mctpHears]; and_intros <;> decide +kernel

/-- Witnesses for HealthCommands. -/
theorem test_wit_HealthCommands :
    (let s : State := { hostUp with tbase := 6000000000 }
     s.reports = true ∧ s.hw.powered = true ∧ 100000000 ≤ (s.tbase - s.health.formedAt).toNat ∧ s.mode.cur = .active ∧
       6000000000 ≤ (s.tbase - s.health.savedAt).toNat ∧ s.takesWrite R.HLTH_CTL 8 = true ∧ s.coordinates = false ∧
       s.dumpOf 2 = none ∧ s.health.newest.length ≤ 0) ∧
    (∀ tb ∈ [5999999999, 6000000000],
      let s : State := { hostUp with tbase := BitVec.ofNat 64 tb, corrected := [(15 * 65536 + 65535, { count := 3, lastLog := some 0 })] }
      (Tbl.get (fun _ => ({ count := 0, lastLog := none } : CorrUnit)) s.corrected (15 * 65536 + 65535)).lastLog = some 0 ∧
        ((s.tbase - 0).toNat < 6000000000 ↔ tb = 5999999999)) ∧
    (let s : State := { hostUp with health := { hostUp.health with newest := [1] } }
     0 < s.health.newest.length) := by and_intros <;> decide +kernel

/-- A device in Halted, its dump captured or not, its vault image under way or ended. -/
def halted (st : Nat) (x : DumpState) (tb : Nat) : State :=
  ({ inMode .halted hostUp with dump := x, tbase := BitVec.ofNat 64 tb } : State).setF F.HLTH_DMP_STAT_STATE st

/-- A dump. -/
def someDump : Dump := { dseq := 3, partialDump := false, len := 4096, mem := [] }

/-- A firmware inconsistency halts the device (R451). -/
theorem test_fatal : (match exec (.firmwareInconsistency 3 9) hostUp with
    | .next t => t.mode.cur == .halted && t.f F.DEV_HALT_CAUSE_KIND == 8 && t.f F.DEV_HALT_DETAIL_DETAIL == 9
    | _ => false) = true := by decide +kernel

/-- Witnesses for FatalConditions and DumpSequence. -/
theorem test_wit_Dumps :
    (hostUp.hw.powered = true ∧ hostUp.mode.cur = .active ∧ hostUp.mode.cur ≠ .dormant ∧ 12 < 13 ∧ 3 < 4) ∧
    (let s := halted 3 State.reset.dump 0
     s.mode.cur = .halted ∧ s.capturing = false) ∧
    (let s := halted 1 { State.reset.dump with snapshot := none } 100000000
     s.capturing = true ∧ s.dump.snapshot = none ∧ 100000000 ≤ (s.tbase - s.dump.tdetect).toNat) ∧
    (let s := halted 1 { State.reset.dump with snapshot := some [] } 0
     s.capturing = true ∧ s.dump.snapshot.isSome = true) ∧
    (∀ k ∈ [4, 5], let s := (halted 2 { State.reset.dump with imageRunning := true } 0).setF F.DEV_BOOT_STAT_LASTSTEP k
      s.mode.cur = .halted ∧ s.dump.imageRunning = true ∧ s.power.flush = none ∧ s.hw.powered = true ∧ s.power.resetWaits = false ∧
        (s.imageDue = true ↔ k = 5)) ∧
    (let s := halted 2 { State.reset.dump with inDram := some someDump, imageEnded := true } 0
     s.dump.inDram = some someDump ∧ s.dump.imageEnded = true ∧ s.f F.HLTH_DMP_STAT_STATE = 2 ∧ s.power.flush = none) := by
  and_intros <;> decide +kernel

/-! ## Shared rules -/

/-- Witnesses for IdentityRegisters: each variant with every unit. -/
theorem test_wit_IdentityRegisters : ∀ v ∈ [Variant.sto9600, .sto9400, .sto9200],
    let s0 : State := { hostUp with hw := { hostUp.hw with variant := v } }
    let s := ((s0.setF F.DEV_CAP1_BP_AVAIL (2 ^ v.ports - 1)).setF F.DEV_CAP1_CL_AVAIL (2 ^ v.clusters - 1)).setF F.DEV_CAP1_BR_AVAIL
      (2 ^ v.brides - 1)
    s.hostDown = false ∧ s.hw.variant = v ∧ s.f F.DEV_CAP1_BP_AVAIL = 2 ^ v.ports - 1 ∧
      s.f F.DEV_CAP1_CL_AVAIL = 2 ^ v.clusters - 1 ∧ s.f F.DEV_CAP1_BR_AVAIL = 2 ^ v.brides - 1 := by decide +kernel

/-- With clusters 1, 4 and 6 available band 4 is owned by cluster 4 (R8). -/
theorem test_band_owner : (hostUp.setF F.DEV_CAP1_CL_AVAIL 0x52).bandOwner 4 = 4 ∧ (hostUp.setF F.DEV_CAP1_CL_AVAIL 0x52).clusters ≠ [] := by
  decide +kernel

/-- The CRC-32C of "123456789" (R59). -/
theorem test_crc32c : crc32c [0x31, 0x32, 0x33, 0x34, 0x35, 0x36, 0x37, 0x38, 0x39] = 0xE3069283 := by decide +kernel

/-- Witnesses for ErrorLogRecords: EVT clear and set, a record of class 5 and one of class 1. -/
theorem test_wit_ErrorLogRecords : 2 ≤ clsHealth ∧ clsCorrectable < 2 ∧ hostUp.mode.cur ≠ .dormant ∧ hostUp.flag F.ELOG_STAT_EVT = false ∧
    (hostUp.setFlag F.ELOG_STAT_EVT true).flag F.ELOG_STAT_EVT = true := by decide +kernel

/-- Witness for MemoryCanonical, FixedPartAndTimebase and HaltedIsLeftOnlyByReset: a step from reset, one in Halted, a device powered on
again. -/
theorem test_wit_steps :
    ((match step State.reset with | .next t => t.hw.serial == 1 | _ => false) = true) ∧
    (inMode .halted hostUp).mode.cur = .halted ∧ (inMode .halted hostUp).hw.powered = true ∧ (inMode .halted hostUp).power.flush = none ∧
    ((match step { hostUp with hw := { hostUp.hw with powered := false }, tbase := 9, pending := [.powerOn strapsLow true false] } with
      | .next t => t.tbase == 0
      | _ => false) = true) := by and_intros <;> decide +kernel

end Sys2Proof.Tests
end

/-! ## Clusters and the bands they own (R8) -/

namespace Sys2Proof.Machine

/-- The set bits of a number come in rising order. -/
theorem setBits_pairwise_lt (v n : Nat) : (setBits v n).Pairwise (· < ·) :=
  List.pairwise_lt_range.filter _

/-- A position is listed where it is below the bound and its bit is 1. -/
theorem mem_setBits {v n i : Nat} : i ∈ setBits v n ↔ i < n ∧ bit v i = true := by
  simp [setBits, List.mem_filter]

/-- The clusters listed are the available ones. -/
theorem mem_clusters (s : State) (c : Nat) : c ∈ s.clusters ↔ s.clusterAvail c = true := by
  simp [State.clusters, State.clusterAvail, mem_setBits]

/-- With a cluster available, a band's owner stands at the position that the band number gives modulo their number. -/
theorem getElem?_clusters_bandOwner (s : State) (b : Nat) (h : s.clusters ≠ []) :
    s.clusters[b % s.clusters.length]? = some (s.bandOwner b) := by
  have hlt : b % s.clusters.length < s.clusters.length := Nat.mod_lt _ (List.length_pos_of_ne_nil h)
  rw [State.bandOwner, List.getElem?_eq_getElem hlt, Option.getD_some]

/-- The owner of a band follows from CL_AVAIL alone. -/
theorem bandOwner_congr {s t : State} (h : s.f F.DEV_CAP1_CL_AVAIL = t.f F.DEV_CAP1_CL_AVAIL) (b : Nat) :
    s.bandOwner b = t.bandOwner b := by
  have hc : s.clusters = t.clusters := by rw [State.clusters, State.clusters, h]
  rw [State.bandOwner, State.bandOwner, hc]

/-- Settles O54: the list of clusters is CL_AVAIL's set bits in rising order, and the owner is read off that list. -/
theorem bandOwnership : Obligations.BandOwnership :=
  ⟨fun s => ⟨setBits_pairwise_lt _ _, mem_clusters s⟩, getElem?_clusters_bandOwner, fun _ _ b h => bandOwner_congr h b⟩

end Sys2Proof.Machine

/-! ## Register fields and register writes (R12 to R14, R35, R343, R457, R458, R462) -/

namespace Sys2Proof.Machine

/-! ### Fields -/

/-- A field of the same register that does not overlap reads as before, also where it reaches beyond bit 63. -/
theorem f_setF_disjoint (s : State) (x y : Field) (v : Nat) (ho : y.off = x.off)
    (h : y.lo + y.width ≤ x.lo ∨ x.lo + x.width ≤ y.lo) : (s.setF x v).f y = s.f y := by
  simp only [State.f, State.setF, reg_setReg_eq, ho, if_true]
  refine Nat.eq_of_testBit_eq fun k => ?_
  simp only [bits, Nat.testBit_mod_two_pow, Nat.testBit_div_two_pow, BitVec.toNat_ofNat, testBit_putBits]
  by_cases hk : k < y.width
  · have hout : ¬ (x.lo ≤ k + y.lo ∧ k + y.lo < x.lo + x.width) := by omega
    rw [if_neg hout]
    by_cases h64 : k + y.lo < 64
    · simp [h64]
    · have hbit : (s.reg x.off).toNat.testBit (k + y.lo) = false :=
        Nat.testBit_lt_two_pow (lt_of_lt_of_le (s.reg x.off).isLt (Nat.pow_le_pow_right (by omega) (by omega)))
      simp [h64, hbit]
  · simp [hk]

/-- Storing a field touches the register file only. -/
theorem setF_bar0_restored (s : State) (x : Field) (v : Nat) : { s.setF x v with bar0 := s.bar0 } = s := rfl

/-! ### The gate -/

/-- What State.takesWrite says, taken apart. -/
theorem takesWrite_iff (s : State) (off size : Nat) : s.takesWrite off size = true ↔
    s.hostDown = false ∧ s.mode.cur ≠ .halted ∧ (size = 4 ∨ size = 8) ∧ off % size = 0 ∧ s.served off = true := by
  simp [State.takesWrite, and_assoc]

/-- A write that is taken goes on to its register. -/
theorem gate_of_takesWrite {s : State} {off size : Nat} (h : s.takesWrite off size = true) (value : Word) (k : State → State) :
    s.gate off size value k = k s := by
  obtain ⟨hdown, hmode, hsize, halign, hserved⟩ := (takesWrite_iff s off size).mp h
  simp [State.gate, hdown, hmode, hsize, halign, hserved]

/-- Nothing reaches the device while the host link carries nothing. -/
theorem gate_of_hostDown {s : State} (h : s.hostDown = true) (off size : Nat) (value : Word) (k : State → State) :
    s.gate off size value k = s := by
  simp [State.gate, h]

/-- Halted discards every write. -/
theorem gate_of_halted {s : State} (hdown : s.hostDown = false) (h : s.mode.cur = .halted) (off size : Nat) (value : Word)
    (k : State → State) : s.gate off size value k = s.regNotice 1 off value := by
  simp [State.gate, hdown, h]

/-- A write that arrives and is not taken is discarded and logged. -/
theorem gate_of_not_takesWrite {s : State} {off size : Nat} (hdown : s.hostDown = false) (h : s.takesWrite off size = false)
    (value : Word) (k : State → State) :
    s.gate off size value k = s.regNotice 1 off value ∨ s.gate off size value k = s.regNotice 2 off value := by
  by_cases hmode : s.mode.cur = .halted
  · exact .inl (gate_of_halted hdown hmode off size value k)
  by_cases hbad : ¬ (size = 4 ∨ size = 8) ∨ off % size ≠ 0
  · exact .inr (by simp only [State.gate, hdown, hmode, if_pos hbad]; simp)
  · have hserved : s.served off = false := by
      obtain ⟨hsize, halign⟩ := not_or.mp hbad
      by_contra hs
      have := (takesWrite_iff s off size).mpr ⟨hdown, hmode, not_not.mp hsize, not_not.mp halign, by simpa using hs⟩
      simp [this] at h
    exact .inl (by simp only [State.gate, hdown, hmode, if_neg hbad, hserved]; simp)

/-! ### Registers without a command -/

/-- A plain write by whether it covers locked bits. -/
theorem plainWrite_eq (s : State) (off size : Nat) (value : Word) :
    s.plainWrite off size value =
      if s.lockedWrite off size then (s.storeReg off size value).regNotice 3 off value else s.storeReg off size value := rfl

/-- The offset of a plain register, as a number: one of those that stand alone, or one of a ring, an array or a cluster. -/
theorem mem_plainRegs {b : Nat} (h : b ∈ plainRegs) :
    b ∈ [0x50, 0x210, 0x228, 0x80008, 0x80010, 0x90008, 0x90018, 0x90020, 0x90038, 0x90058, 0xA2010, 0xC4010, 0xC4028, 0x400038,
      0x400100, 0x500088, 0x580010, 0x580020, 0x580108] ∨
    (∃ r < 1024, b ∈ [0x10000 + 0x40 * r, 0x10020 + 0x40 * r, 0x10028 + 0x40 * r, 0x10030 + 0x40 * r, 0x10038 + 0x40 * r,
      0x20000 + 0x40 * r]) ∨
    (∃ a < 16, b ∈ [0xC0008 + 0x200 * a, 0xC0068 + 0x200 * a]) ∨
    (∃ c < 8, b ∈ [0x600108 + 0x40000 * c, 0x600208 + 0x40000 * c]) := by
  simp only [plainRegs, List.mem_append, List.mem_flatMap, List.mem_range] at h
  rcases h with ((h | h) | h) | h
  · exact .inl h
  · exact .inr (.inl h)
  · exact .inr (.inr (.inl h))
  · exact .inr (.inr (.inr h))

/-- The base offsets at which State.writeAt has an operation of a register's own. -/
inductive CommandBase : Nat → Prop
  | single {b : Nat} (h : b ∈ [R.DEV_MODE, R.DEV_LOCK, R.DEV_FW, R.DEV_BOOT_CTL, R.MC_CTL, R.MC_MAINT_CMD, R.MC_WAYLOCK, R.SHT_STAT,
      R.PRK_CMD, R.PWR_PF, R.HU_CTL, R.HLTH_CTL]) : CommandBase b
  | sqCtl {r : Nat} (h : r < 1024) : CommandBase (R.SQ_CTL r)
  | cqCtl {r : Nat} (h : r < 1024) : CommandBase (R.CQ_CTL r)
  | arrRbCtl (a : Nat) : CommandBase (R.ARR_RB_CTL a)
  | arrGcCtl (a : Nat) : CommandBase (R.ARR_GC_CTL a)
  | seClk (c : Nat) : CommandBase (R.SE_CLK c)
  | prkStage {b : Nat} (h : R.PRK_STAGE 0 ≤ b ∧ b ≤ R.PRK_STAGE 63) : CommandBase b
  | shtChannel {b : Nat} (h : 0xA0000 ≤ b ∧ b < 0xA2000) : CommandBase b

/-- No plain register has an operation of its own. -/
theorem not_commandBase_of_mem_plainRegs {b : Nat} (h : b ∈ plainRegs) : ¬ CommandBase b := by
  have hb := mem_plainRegs h
  simp only [List.mem_cons, List.not_mem_nil, or_false] at hb
  intro hc
  cases hc with
  | single hc =>
    simp only [List.mem_cons, List.not_mem_nil, or_false, R.DEV_MODE, R.DEV_LOCK, R.DEV_FW, R.DEV_BOOT_CTL, R.MC_CTL, R.MC_MAINT_CMD,
      R.MC_WAYLOCK, R.SHT_STAT, R.PRK_CMD, R.PWR_PF, R.HU_CTL, R.HLTH_CTL] at hc
    rcases hb with hb | ⟨_, _, hb⟩ | ⟨_, _, hb⟩ | ⟨_, _, hb⟩ <;> omega
  | shtChannel hc => rcases hb with hb | ⟨_, _, hb⟩ | ⟨_, _, hb⟩ | ⟨_, _, hb⟩ <;> omega
  | sqCtl | cqCtl | arrRbCtl | arrGcCtl | seClk | prkStage =>
    simp only [R.SQ_CTL, R.CQ_CTL, R.ARR_RB_CTL, R.ARR_GC_CTL, R.SE_CLK, R.PRK_STAGE] at *
    rcases hb with hb | ⟨_, _, hb⟩ | ⟨_, _, hb⟩ | ⟨_, _, hb⟩ <;> omega

/-- Where the blocks without a plain register, the Shuttle's and the pair's lie. -/
theorem blockOf_bounds (off : Nat) : match blockOf off with
    | .windows => 0x40000 ≤ off ∧ off ≤ 0x5FFFF
    | .shuttle => 0xA0000 ≤ off ∧ off ≤ 0xA2FFF
    | .doorbells => 0x100000 ≤ off ∧ off ≤ 0x103FFF
    | .bobbin => 0x200000 ≤ off ∧ off ≤ 0x220FFF
    | .pair => 0x400000 ≤ off ∧ off ≤ 0x4001FF
    | .fed => 0x480000 ≤ off ∧ off ≤ 0x48017F
    | _ => True := by
  fun_cases blockOf off <;> trivial

/-- The blocks without a plain register. -/
theorem blockOf_of_mem_plainRegs {off : Nat} (h : off / 8 * 8 ∈ plainRegs) :
    blockOf off ≠ .doorbells ∧ blockOf off ≠ .windows ∧ blockOf off ≠ .bobbin ∧ blockOf off ≠ .fed := by
  have hb := mem_plainRegs h
  simp only [List.mem_cons, List.not_mem_nil, or_false] at hb
  have hbounds := blockOf_bounds off
  refine ⟨?_, ?_, ?_, ?_⟩ <;> intro hblk <;> rw [hblk] at hbounds <;>
    rcases hb with hb | ⟨_, _, hb⟩ | ⟨_, _, hb⟩ | ⟨_, _, hb⟩ <;> omega

/-- What an array's control registers change at once, no other register does. -/
theorem syncCtl_of_not_commandBase {s : State} {a b : Nat} (h : ¬ CommandBase b) : s.syncCtl a b = s := by
  have hrb : b ≠ R.ARR_RB_CTL a := fun hb => h (hb ▸ .arrRbCtl a)
  have hgc : b ≠ R.ARR_GC_CTL a := fun hb => h (hb ▸ .arrGcCtl a)
  simp [State.syncCtl, hrb, hgc]

/-- A write of the pair block or of a plain register, of a size and alignment that R12 admits, is a plain write. -/
theorem writeAt_plain {off size : Nat} (hsize : size = 4 ∨ size = 8) (halign : off % size = 0)
    (h : blockOf off = .pair ∨ off / 8 * 8 ∈ plainRegs) (s : State) (ep : Nat) (value : Word) :
    s.writeAt ep off size value = s.gate off size value (fun s => s.plainWrite off size value) := by
  have hok : ¬ (¬ (size = 4 ∨ size = 8) ∨ off % size ≠ 0) := by simp [hsize, halign]
  rw [State.writeAt, if_neg hok]
  rcases h with h | h
  · rw [h]
  have hcmd : ¬ CommandBase (regBase off) := not_commandBase_of_mem_plainRegs h
  have hne : ∀ b, CommandBase b → regBase off ≠ b := fun b hb heq => hcmd (heq ▸ hb)
  obtain ⟨hdoor, hwin, hbob, hfed⟩ := blockOf_of_mem_plainRegs h
  cases hblk : blockOf off with
  | doorbells => exact absurd hblk hdoor
  | windows => exact absurd hblk hwin
  | bobbin => exact absurd hblk hbob
  | fed => exact absurd hblk hfed
  | hoop | pair | other => rfl
  | global =>
    simp only [hne R.DEV_MODE (.single (by simp)), hne R.DEV_LOCK (.single (by simp)), hne R.DEV_FW (.single (by simp)),
      hne R.DEV_BOOT_CTL (.single (by simp)), if_false]
  | rings =>
    have hr : (regBase off - 0x10000) / 0x40 % 1024 < 1024 := Nat.mod_lt _ (by decide)
    simp only [hne _ (.sqCtl hr), hne _ (.cqCtl hr), if_false]
  | mapCache =>
    simp only [hne R.MC_CTL (.single (by simp)), hne R.MC_MAINT_CMD (.single (by simp)), hne R.MC_WAYLOCK (.single (by simp)), if_false,
      false_and]
  | shuttle =>
    have hbounds := blockOf_bounds off
    rw [hblk] at hbounds
    have hhigh : 0xA2000 ≤ regBase off := by
      by_contra hlow
      exact hcmd (.shtChannel (by unfold regBase at *; omega))
    simp only [hne R.SHT_STAT (.single (by simp)), hhigh, if_false, if_true]
  | arrays =>
    simp only [hne R.PRK_CMD (.single (by simp)), if_neg (fun hb => hcmd (.prkStage hb)), if_false, syncCtl_of_not_commandBase hcmd]
    split <;> rfl
  | power => simp only [hne R.PWR_PF (.single (by simp)), hne R.HU_CTL (.single (by simp)), if_false]
  | health => simp only [hne R.HLTH_CTL (.single (by simp)), if_false]
  | clusters => simp only [hne _ (.seClk _), if_false]

/-- The pair block and the plain registers lie in the 64 MiB of BAR0. -/
theorem plain_offset_lt {off : Nat} (h : blockOf off = .pair ∨ off / 8 * 8 ∈ plainRegs) : off < 2 ^ 26 := by
  rcases h with h | h
  · have hbounds := blockOf_bounds off
    rw [h] at hbounds
    omega
  · have hb := mem_plainRegs h
    simp only [List.mem_cons, List.not_mem_nil, or_false] at hb
    rcases hb with hb | ⟨_, _, hb⟩ | ⟨_, _, hb⟩ | ⟨_, _, hb⟩ <;> omega

/-! ### The command -/

/-- What a register write does, by what stands before it: the link, poison, Memory Space Enable (R12, R343). -/
theorem exec_registerWrite (ep off size : Nat) (value : Word) (poisoned : Bool) (s : State) (hdown : s.hostDown = false) :
    exec (.registerWrite ep off size value poisoned) s = .next (
      let e := if s.bifurcated then ep % 2 else 0
      if poisoned then (s.poisonSeen e).regNotice 5 off value
      else if (s.ep e).open_ = false then s.aer e .unsupportedRequest .nonFatal
      else s.writeAt e (off % 2 ^ 26) size value) := by
  show execRegisterWrite ep off size value poisoned s = _
  simp [execRegisterWrite, hdown]

/-- A taken write of a register without a command stores by access type, and is logged where it covers locked bits (R13, R462). -/
theorem exec_registerWrite_plain {s : State} {ep off size : Nat} (value : Word)
    (hopen : (s.ep (if s.bifurcated then ep % 2 else 0)).open_ = true) (hplain : blockOf off = .pair ∨ off / 8 * 8 ∈ plainRegs)
    (htakes : s.takesWrite off size = true) :
    exec (.registerWrite ep off size value false) s = .next (s.plainWrite off size value) := by
  obtain ⟨hdown, -, hsize, halign, -⟩ := (takesWrite_iff s off size).mp htakes
  rw [exec_registerWrite _ _ _ _ _ _ hdown, Nat.mod_eq_of_lt (plain_offset_lt hplain)]
  simp [hopen, writeAt_plain hsize halign hplain, gate_of_takesWrite htakes]

/-! ### The statement -/

/-- The fields of the register file (R13, R14): the first part of O19. -/
theorem registerFieldFrame : Claims.RegisterFieldFrame :=
  ⟨fun s x v hx => ⟨f_setF_same s x v hx, fun y ho h => f_setF_disjoint s x y v ho h, fun off ho => reg_setF_ne s x v off ho,
      setF_bar0_restored s x v⟩,
    fun s off w => ⟨by simp [reg_setReg_eq], fun o ho => by simp [reg_setReg_eq, ho]⟩⟩

/-- What stands between a write and its register (R12, R13, R35, R343, R458, R462): the second part of O19. -/
theorem registerWriteGate : Claims.RegisterWriteGate := by
  refine ⟨fun s off size value k => ⟨fun h => gate_of_takesWrite h value k, fun h => gate_of_hostDown h off size value k,
    fun hdown h => gate_of_not_takesWrite hdown h value k, fun hdown h => gate_of_halted hdown h off size value k⟩, ?_, ?_, ?_⟩
  · intro s ep off size value hopen hplain htakes
    have hexec := exec_registerWrite_plain value hopen hplain htakes
    rw [plainWrite_eq] at hexec
    refine ⟨s.storeReg off size value, rfl, fun hlocked => ?_, fun hlocked => ?_⟩ <;> simpa [hlocked] using hexec
  · intro s ep off size value hdown hclosed
    simp [exec_registerWrite _ _ _ _ _ _ hdown, hclosed]
  · intro s ep off size value hdown
    simp [exec_registerWrite _ _ _ _ _ _ hdown]

/-- Settles O19: the field laws, the gate, and the route that a plain register's offset takes through State.writeAt. -/
theorem registerWrites : Obligations.RegisterWrites := ⟨registerFieldFrame, registerWriteGate⟩

end Sys2Proof.Machine
/-! ## What every operation keeps (R2, R4, R28, R381)

One lemma for each operation that the step can reach: it keeps the part of the state that R2, R4, R28 and R381 leave to manufacture, to the
queue's senders and to the tick. They stand in the order of the model's files, so that an operation's lemma cites, through simp, those of
the operations it calls; where an operation takes another one, that one's keeping it is a hypothesis. None of them is proved by rfl: simp
would use such a lemma without a proof step, and the kernel would have to unfold the register map to check it. -/

namespace Sys2Proof.Machine

/-- What every operation of a command keeps: the fixed part with the queue, and TBASE. -/
def State.steady (s : State) : (Variant × Nat × Nat × List Instr) × Word := (s.fixed, s.tbase)

/-- The steady part of the state an outcome answers. -/
def steadyAfter : Host.Outcome State Fault Refusal → Option ((Variant × Nat × Nat × List Instr) × Word)
  | .next t => some t.steady
  | .fault _ => none
  | .refused _ => none

/-! ### Rules for updates, branches and folds -/

/-- Any fields but those of the steady part may be replaced. -/
@[simp] theorem steady_update (s : State) (hw : Hw) (hv : hw.variant = s.hw.variant) (hd : hw.dramGib = s.hw.dramGib)
    (hn : hw.serial = s.hw.serial) (mode : ModeReg) (bar0 : Tbl Word) (elog : ErrorLog) (aon : AonLog) (corrected : Tbl CorrUnit)
    (health : Health) (dump : DumpState) (ep0 ep1 : Endpoint) (subRings : Tbl SubRing) (cplRings : Tbl CplRing) (pair : PairState)
    (threads : Tbl Thread) (skeins : Tbl Info) (skeinUsed : Tbl Bool) (pmem master : Tbl Word) (extents : List Extent)
    (maskCleared : Tbl Bool) (faults : Tbl FaultRec) (workFaults : Tbl Nat) (prk : PrkState) (arrays : Tbl ArrayInfo) (bands : Tbl Band)
    (ewords : Tbl EWord) (sleds : Tbl Sled) (hoop : Hoop) (lost : LostTables) (map : Tbl Word) (dlog : DeltaLog) (mc : MapCache)
    (dram : Mem) (poison : Tbl Bool) (hostTags : Tbl HostTag) (ats : List AtsEntry) (invals : List Inval) (vault : Mem)
    (sht : Tbl ShtChan) (sledCmds : Tbl SledCmd) (ports : Tbl Port) (readJobs : Tbl ReadJob) (devReads : Tbl DevRead)
    (bobbin : BobbinState) (recorder : Tbl Word) (power : PowerState) (thermal : Thermal) (boot : BootState) (fed : FedState)
    (doe : Tbl SpdmAnswer) (eids : Tbl Nat) (tbaseLatch fetchLast : Nat) (out : List OutMsg) (free : Nat) :
    State.steady { s with
      hw, mode, bar0, elog, aon, corrected, health, dump, ep0, ep1, subRings, cplRings, pair, threads, skeins, skeinUsed, pmem, master,
      extents, maskCleared, faults, workFaults, prk, arrays, bands, ewords, sleds, hoop, lost, map, dlog, mc, dram, poison, hostTags, ats,
      invals, vault, sht, sledCmds, ports, readJobs, devReads, bobbin, recorder, power, thermal, boot, fed, doe, eids, tbaseLatch,
      fetchLast, out, free } = s.steady := by
  simp [State.steady, State.fixed, hv, hd, hn]

/-- The steady part of the first component, read off an equation. -/
theorem steady_of_fst {α : Type} {s t : State} {p : State × α} {x : α} (h : p = (t, x)) (hp : p.1.steady = s.steady) :
    t.steady = s.steady := by
  rw [← hp, h]

/-- A branch keeps what both its sides keep. -/
@[simp] theorem steady_ite (c : Prop) [Decidable c] (s t : State) :
    (if c then s else t).steady = if c then s.steady else t.steady := apply_ite State.steady c s t

/-- As steady_ite, for an operation that also answers a value. -/
@[simp] theorem steady_fst_ite {α : Type} (c : Prop) [Decidable c] (p q : State × α) :
    (if c then p else q).1.steady = if c then p.1.steady else q.1.steady := apply_ite (fun p => p.1.steady) c p q

/-- An operation repeated along a list keeps what it keeps once. -/
@[simp] theorem foldl_steady {α : Type} (f : State → α → State) (h : ∀ s a, (f s a).steady = s.steady) (l : List α) (s : State) :
    (l.foldl f s).steady = s.steady := by
  induction l generalizing s with
  | nil => rfl
  | cons a l ih => rw [List.foldl_cons, ih, h]

/-- As foldl_steady, for an operation that carries a value along. -/
@[simp] theorem foldl_fst_steady {α β : Type} (f : State × β → α → State × β) (h : ∀ p a, (f p a).1.steady = p.1.steady)
    (l : List α) (p : State × β) : (l.foldl f p).1.steady = p.1.steady := by
  induction l generalizing p with
  | nil => rfl
  | cons a l ih => rw [List.foldl_cons, ih, h]

@[simp] theorem steadyAfter_next (t : State) : steadyAfter (.next t) = some t.steady := rfl

/-! ### Machine/Regs.lean -/

@[simp] theorem setReg_steady (s : State) (off : Nat) (w : Word) : (s.setReg off w).steady = s.steady := by simp [State.setReg]
@[simp] theorem setF_steady (s : State) (x : Field) (v : Nat) : (s.setF x v).steady = s.steady := by simp [State.setF]
@[simp] theorem setFlag_steady (s : State) (x : Field) (b : Bool) : (s.setFlag x b).steady = s.steady := by simp [State.setFlag]
@[simp] theorem incF_steady (s : State) (x : Field) (n : Nat) : (s.incF x n).steady = s.steady := by simp [State.incF]
@[simp] theorem satF_steady (s : State) (x : Field) (n : Nat) : (s.satF x n).steady = s.steady := by simp [State.satF]

/-! ### Machine/Ops.lean -/

@[simp] theorem bumpFree_steady (s : State) : s.bumpFree.steady = s.steady := by simp [State.bumpFree]
@[simp] theorem send_steady (s : State) (m : OutMsg) : (s.send m).steady = s.steady := by simp [State.send]
@[simp] theorem mirror_steady (s : State) (m : MirrorItem) : (s.mirror m).steady = s.steady := by simp [State.mirror]

@[simp] theorem setEp_steady (s : State) (e : Nat) (x : Endpoint) : (s.setEp e x).steady = s.steady := by
  simp [State.setEp]

@[simp] theorem setEp_hw (s : State) (e : Nat) (x : Endpoint) : (s.setEp e x).hw = s.hw := by unfold State.setEp; split <;> rfl
@[simp] theorem setEp_tbase (s : State) (e : Nat) (x : Endpoint) : (s.setEp e x).tbase = s.tbase := by unfold State.setEp; split <;> rfl

@[simp] theorem setEp_pending (s : State) (e : Nat) (x : Endpoint) : (s.setEp e x).pending = s.pending := by
  unfold State.setEp; split <;> rfl

@[simp] theorem msixDue_steady (s : State) (e v : Nat) : (s.msixDue e v).steady = s.steady := by simp [State.msixDue]
@[simp] theorem msixRelease_steady (s : State) (e : Nat) : (s.msixRelease e).steady = s.steady := by simp [State.msixRelease]
@[simp] theorem pmeCheck_steady (s : State) (e : Nat) : (s.pmeCheck e).steady = s.steady := by fun_cases State.pmeCheck s e <;> simp
@[simp] theorem raiseEvent_steady (s : State) (i : Nat) : (s.raiseEvent i).steady = s.steady := by simp [State.raiseEvent]

@[simp] theorem logRecAt_steady (s : State) (t : Word) (cls src unit code addr : Nat) (detail : BitVec 256) :
    (s.logRecAt t cls src unit code addr detail).steady = s.steady := by
  simp [State.logRecAt]

@[simp] theorem logRec_steady (s : State) (cls src unit code addr : Nat) (detail : BitVec 256) :
    (s.logRec cls src unit code addr detail).steady = s.steady := by
  simp [State.logRec]

@[simp] theorem logAon_steady (s : State) (code detail : Nat) : (s.logAon code detail).steady = s.steady := by simp [State.logAon]

@[simp] theorem notice_steady (s : State) (src unit code addr value detail : Nat) :
    (s.notice src unit code addr value detail).steady = s.steady := by
  simp [State.notice]

@[simp] theorem noticeOther_steady (s : State) (src unit addr value : Nat) : (s.noticeOther src unit addr value).steady = s.steady := by
  simp [State.noticeOther]

@[simp] theorem logCorrected_steady (s : State) (src unit addr : Nat) : (s.logCorrected src unit addr).steady = s.steady := by
  simp [State.logCorrected]

@[simp] theorem logDeferred_steady (s : State) (src unit code addr : Nat) : (s.logDeferred src unit code addr).steady = s.steady := by
  simp [State.logDeferred]

@[simp] theorem logOpen_steady (s : State) (cls src unit addr : Nat) : (s.logOpen cls src unit addr).steady = s.steady := by
  simp [State.logOpen]

@[simp] theorem logArrayOpen_steady (s : State) (a addr : Nat) : (s.logArrayOpen a addr).steady = s.steady := by simp [State.logArrayOpen]

@[simp] theorem healthEventAt_steady (s : State) (t : Word) (code : Nat) (critical : Bool) (src unit : Nat) (detail : Option (BitVec 256)) :
    (s.healthEventAt t code critical src unit detail).steady = s.steady := by
  simp [State.healthEventAt]

@[simp] theorem healthEvent_steady (s : State) (code : Nat) (critical : Bool) (src unit : Nat) (detail : Option (BitVec 256)) :
    (s.healthEvent code critical src unit detail).steady = s.steady := by
  simp [State.healthEvent]

@[simp] theorem aer_steady (s : State) (e : Nat) (k : AerError) (sev : Severity) : (s.aer e k sev).steady = s.steady := by
  fun_cases State.aer s e k sev
  simp +zetaDelta

@[simp] theorem copyAon_steady (s : State) : s.copyAon.steady = s.steady := by simp [State.copyAon]

/-! ### Machine/McOps.lean -/

@[simp] theorem setLine_steady (s : State) (set way : Nat) (l : CacheLine) : (s.setLine set way l).steady = s.steady := by
  simp [State.setLine]

@[simp] theorem setDramEntry_steady (s : State) (a g : Nat) (w : Word) : (s.setDramEntry a g w).steady = s.steady := by
  simp [State.setDramEntry]

@[simp] theorem writeLine_steady (s : State) (l : CacheLine) : (s.writeLine l).steady = s.steady := by simp [State.writeLine]
@[simp] theorem touchWay_steady (s : State) (set w : Nat) : (s.touchWay set w).steady = s.steady := by simp [State.touchWay]

@[simp] theorem fillLine_steady (s : State) (set w tag : Nat) (fresh : Bool) : (s.fillLine set w tag fresh).steady = s.steady := by
  simp [State.fillLine]

@[simp] theorem waitWriteBack_steady (s : State) (x : WriteBack) : (s.waitWriteBack x).steady = s.steady := by simp [State.waitWriteBack]

@[simp] theorem startWriteBack_steady (s : State) (a g : Nat) : (s.startWriteBack a g).steady = s.steady := by
  fun_cases State.startWriteBack s a g <;> simp

@[simp] theorem cleanLine_steady (s : State) (k : Nat) : (s.cleanLine k).steady = s.steady := by simp [State.cleanLine]

@[simp] theorem refill_steady (s : State) (x : WriteBack) (way : Option Nat) : (s.refill x way).steady = s.steady := by
  unfold State.refill
  split <;> simp

@[simp] theorem ackWriteBack_steady (s : State) (x : WriteBack) : (s.ackWriteBack x).steady = s.steady := by simp [State.ackWriteBack]

@[simp] theorem ackSet_steady (s : State) (set : Nat) : (s.ackSet set).steady = s.steady := by
  unfold State.ackSet
  split <;> simp

@[simp] theorem mapAccess_steady (s : State) (a g : Nat) : (s.mapAccess a g).steady = s.steady := by
  simp only [State.mapAccess]
  repeat' split
  all_goals simp

@[simp] theorem mapPut_steady (s : State) (a g : Nat) (v : Word) : (s.mapPut a g v).steady = s.steady := by
  fun_cases State.mapPut s a g v <;> simp +zetaDelta

/-! ### Machine/HostOps.lean -/

@[simp] theorem setChan_steady (s : State) (n : Nat) (x : ShtChan) : (s.setChan n x).steady = s.steady := by simp [State.setChan]
@[simp] theorem shtForget_steady (s : State) (n : Nat) : (s.shtForget n).steady = s.steady := by simp [State.shtForget]
@[simp] theorem stopChan_steady (s : State) (n ecode : Nat) : (s.stopChan n ecode).steady = s.steady := by simp [State.stopChan]
@[simp] theorem stopShuttle_steady (s : State) : s.stopShuttle.steady = s.steady := by simp [State.stopShuttle]

@[simp] theorem ltrSync_steady (s : State) : s.ltrSync.steady = s.steady := by
  simp only [State.ltrSync]
  refine foldl_steady _ (fun s x => ?_) _ _
  split <;> simp

@[simp] theorem sayHello_steady (s : State) : s.sayHello.steady = s.steady := by simp [State.sayHello]
@[simp] theorem slowClocks_steady (s : State) : s.slowClocks.steady = s.steady := by simp [State.slowClocks]
@[simp] theorem dumpWindows_steady (s : State) : s.dumpWindows.steady = s.steady := by simp [State.dumpWindows]

@[simp] theorem halt_steady (s : State) (cause kind mcode : Nat) (cq : Bool) (ring index unit detail : Nat) :
    (s.halt cause kind mcode cq ring index unit detail).steady = s.steady := by
  simp [State.halt]

@[simp] theorem ringHalt_steady (s : State) (mcode : Nat) (cq : Bool) (ring index : Nat) :
    (s.ringHalt mcode cq ring index).steady = s.steady := by
  simp [State.ringHalt]

@[simp] theorem xlatTouch_steady (s : State) (e addr len : Nat) : (s.xlatTouch e addr len).steady = s.steady := by simp [State.xlatTouch]
@[simp] theorem xlatAdd_steady (s : State) (l : List AtsEntry) : (s.xlatAdd l).steady = s.steady := by simp [State.xlatAdd]

@[simp] theorem hostRead_steady (s : State) (e : Nat) (rd : Reader) (addr len : Nat) (ats : Bool) :
    (s.hostRead e rd addr len ats).1.steady = s.steady := by
  unfold State.hostRead
  split <;> simp

@[simp] theorem hostWrite_steady (s : State) (e : Nat) (rd : Reader) (addr : Nat) (ats ep_ : Bool) (bytes : List Byte) :
    (s.hostWrite e rd addr ats ep_ bytes).steady = s.steady := by
  fun_cases State.hostWrite s e rd addr ats ep_ bytes <;> simp

/-! ### Machine/RingOps.lean -/

@[simp] theorem setSub_steady (s : State) (r : Nat) (x : SubRing) : (s.setSub r x).steady = s.steady := by simp [State.setSub]
@[simp] theorem setCpl_steady (s : State) (q : Nat) (x : CplRing) : (s.setCpl q x).steady = s.steady := by simp [State.setCpl]
@[simp] theorem cqVector_steady (s : State) (q : Nat) : (s.cqVector q).steady = s.steady := by simp [State.cqVector]
@[simp] theorem coalesce_steady (s : State) (q : Nat) (irq : Bool) : (s.coalesce q irq).steady = s.steady := by simp [State.coalesce]

@[simp] theorem recWrite_steady (s : State) (q e addr : Nat) (ats : Bool) (bytes : List Byte) (irq : Bool) :
    (s.recWrite q e addr ats bytes irq).steady = s.steady := by
  simp [State.recWrite]

@[simp] theorem writeRec_steady (s : State) (q : Nat) (x : CplRec) : (s.writeRec q x).steady = s.steady := by simp [State.writeRec]

@[simp] theorem setFetchStop_steady (s : State) (q : Nat) (b : Bool) : (s.setFetchStop q b).steady = s.steady := by
  simp [State.setFetchStop]

@[simp] theorem backpressure_steady (s : State) (q : Nat) : (s.backpressure q).steady = s.steady := by simp [State.backpressure]
@[simp] theorem holdRec_steady (s : State) (q : Nat) (x : CplRec) : (s.holdRec q x).steady = s.steady := by simp [State.holdRec]
@[simp] theorem pushRec_steady (s : State) (q : Nat) (x : CplRec) : (s.pushRec q x).steady = s.steady := by simp [State.pushRec]

@[simp] theorem drainHolding_steady (q n : Nat) (s : State) : (State.drainHolding q n s).steady = s.steady := by
  fun_induction State.drainHolding q n s <;> simp [*]

@[simp] theorem holdingFreed_steady (s : State) (q : Nat) : (s.holdingFreed q).steady = s.steady := by simp [State.holdingFreed]
@[simp] theorem recRetry_steady (s : State) : s.recRetry.steady = s.steady := by simp [State.recRetry]
@[simp] theorem inflightDone_steady (s : State) (r n : Nat) : (s.inflightDone r n).steady = s.steady := by simp [State.inflightDone]
@[simp] theorem flushBatches_steady (s : State) (r : Nat) : (s.flushBatches r).steady = s.steady := by simp [State.flushBatches]
@[simp] theorem fenceSync_steady (s : State) (r : Nat) : (s.fenceSync r).steady = s.steady := by simp [State.fenceSync]

@[simp] theorem completeEntry_steady (s : State) (r num status result : Nat) : (s.completeEntry r num status result).steady = s.steady := by
  simp [State.completeEntry]

@[simp] theorem completeCalls_steady (s : State) (cs : List Call) (status result : Nat) :
    (s.completeCalls cs status result).steady = s.steady := by
  simp [State.completeCalls]

@[simp] theorem postOrStall_steady (s : State) (th : Nat) (cs : List Call) (status result : Nat) :
    (s.postOrStall th cs status result).1.steady = s.steady := by
  unfold State.postOrStall
  split <;> simp

/-! ### Machine/FtlOps.lean -/

@[simp] theorem putSlot_steady (s : State) (i : Nat) (x : Slot) : (s.putSlot i x).steady = s.steady := by simp [State.putSlot]
@[simp] theorem setSlot_steady (s : State) (i : Nat) (x : Slot) : (s.setSlot i x).steady = s.steady := by simp [State.setSlot]
@[simp] theorem putMarker_steady (s : State) (m : Marker) : (s.putMarker m).steady = s.steady := by simp [State.putMarker]
@[simp] theorem setArr_steady (s : State) (a : Nat) (x : ArrayInfo) : (s.setArr a x).steady = s.steady := by simp [State.setArr]
@[simp] theorem setBand_steady (s : State) (a b : Nat) (x : Band) : (s.setBand a b x).steady = s.steady := by simp [State.setBand]
@[simp] theorem setSled_steady (s : State) (n : Nat) (x : Sled) : (s.setSled n x).steady = s.steady := by simp [State.setSled]
@[simp] theorem mirrorRegs_steady (s old : State) (a : Nat) : (s.mirrorRegs old a).steady = s.steady := by simp [State.mirrorRegs]
@[simp] theorem paceAfresh_steady (s : State) (a : Nat) : (s.paceAfresh a).steady = s.steady := by simp [State.paceAfresh]

@[simp] theorem syncArray_steady (s : State) (a : Nat) : (s.syncArray a).steady = s.steady := by
  unfold State.syncArray
  split <;> simp

@[simp] theorem syncDlog_steady (s : State) : s.syncDlog.steady = s.steady := by simp [State.syncDlog]

@[simp] theorem appendDelta_steady (s : State) (kind a key : Nat) (value : Word) : (s.appendDelta kind a key value).steady = s.steady := by
  simp [State.appendDelta]

@[simp] theorem setEword_steady (s : State) (n b : Nat) (e : EWord) : (s.setEword n b e).steady = s.steady := by simp [State.setEword]

@[simp] theorem setBandLogged_steady (s : State) (a b : Nat) (x : Band) : (s.setBandLogged a b x).steady = s.steady := by
  simp [State.setBandLogged]

@[simp] theorem countValid_steady (s : State) (a pga : Nat) (up : Bool) : (s.countValid a pga up).steady = s.steady := by
  simp [State.countValid]

@[simp] theorem applyEntry_steady (s : State) (a g low : Nat) : (s.applyEntry a g low).steady = s.steady := by simp [State.applyEntry]
@[simp] theorem logEntry_steady (s : State) (a g low : Nat) : (s.logEntry a g low).steady = s.steady := by simp [State.logEntry]
@[simp] theorem syncDirty_steady (s : State) : s.syncDirty.steady = s.steady := by simp [State.syncDirty]

@[simp] theorem mirrorVersion_steady (s : State) (seq : Nat) : (s.mirrorVersion seq).steady = s.steady := by
  fun_cases State.mirrorVersion s seq <;> simp

@[simp] theorem putVersion_steady (s : State) (v : Version) : (s.putVersion v).steady = s.steady := by simp [State.putVersion]

@[simp] theorem storeBlock_steady (s : State) (a blk : Nat) (i : Info) : (s.storeBlock a blk i).steady = s.steady := by
  simp only [State.storeBlock]
  split <;> simp

@[simp] theorem setRegion_steady (s : State) (r : Nat) (b : Bool) : (s.setRegion r b).steady = s.steady := by simp [State.setRegion]
@[simp] theorem setCentry_steady (s : State) (e : Nat) (x : CEntry) : (s.setCentry e x).steady = s.steady := by simp [State.setCentry]
@[simp] theorem clearRegion_steady (s : State) (a b : Nat) : (s.clearRegion a b).steady = s.steady := by simp [State.clearRegion]
@[simp] theorem dropEntry_steady (s : State) (e : Nat) : (s.dropEntry e).steady = s.steady := by simp [State.dropEntry]
@[simp] theorem freeEntryOf_steady (s : State) (e : Nat) : (s.freeEntryOf e).steady = s.steady := by simp [State.freeEntryOf]
@[simp] theorem reapEntry_steady (s : State) (e : Nat) : (s.reapEntry e).steady = s.steady := by simp [State.reapEntry]
@[simp] theorem reapAll_steady (s : State) : s.reapAll.steady = s.steady := by simp [State.reapAll]

@[simp] theorem setGather_steady (s : State) (a c : Nat) (fg : Bool) (x : Gather) : (s.setGather a c fg x).steady = s.steady := by
  simp [State.setGather]

@[simp] theorem setJobs_steady (s : State) (l : List StripeJob) : (s.setJobs l).steady = s.steady := by simp [State.setJobs]

@[simp] theorem stripeFull_steady (s : State) (a c : Nat) (fg : Bool) : (s.stripeFull a c fg).steady = s.steady := by
  simp [State.stripeFull]

@[simp] theorem placeVersion_steady (s : State) (v : Version) : (s.placeVersion v).steady = s.steady := by simp [State.placeVersion]
@[simp] theorem forceOut_steady (s : State) (a c : Nat) (fg : Bool) : (s.forceOut a c fg).steady = s.steady := by simp [State.forceOut]
@[simp] theorem forceAll_steady (s : State) (p : Nat → Bool) : (s.forceAll p).steady = s.steady := by simp [State.forceAll]

@[simp] theorem placeGrains_steady (s : State) (l : List (Nat × Nat)) : (s.placeGrains l).steady = s.steady := by
  simp only [State.placeGrains]
  refine foldl_steady _ (fun s x => ?_) _ _
  split <;> simp

@[simp] theorem regather_steady (s : State) (e : Nat) : (s.regather e).steady = s.steady := by simp [State.regather]

@[simp] theorem closeBand_steady (s : State) (a b : Nat) (early pfail : Bool) : (s.closeBand a b early pfail).steady = s.steady := by
  simp [State.closeBand]

@[simp] theorem abandonEntry_steady (s : State) (e : Nat) (pfail : Bool) : (s.abandonEntry e pfail).steady = s.steady := by
  simp [State.abandonEntry]

@[simp] theorem passStep6_steady (s : State) (a g seq : Nat) : (s.passStep6 a g seq).steady = s.steady := by simp [State.passStep6]

/-! ### Machine/LostOps.lean -/

@[simp] theorem syncLost_steady (s : State) : s.syncLost.steady = s.steady := by simp [State.syncLost]

@[simp] theorem addLostGrain_steady (s : State) (a g vseq : Nat) : (s.addLostGrain a g vseq).steady = s.steady := by
  simp [State.addLostGrain]

@[simp] theorem freeLostGrain_steady (s : State) (a g : Nat) : (s.freeLostGrain a g).steady = s.steady := by simp [State.freeLostGrain]

@[simp] theorem findLost_steady (s : State) (found a b st : Nat) (x : StripeLoss) : (s.findLost found a b st x).steady = s.steady := by
  simp [State.findLost]

@[simp] theorem syncRun_steady (s : State) (a : Nat) : (s.syncRun a).steady = s.steady := by simp [State.syncRun]

@[simp] theorem enterArrayState_steady (s : State) (a st : Nat) : (s.enterArrayState a st).steady = s.steady := by
  simp [State.enterArrayState]

@[simp] theorem syncMembers_steady (s : State) (a : Nat) : (s.syncMembers a).steady = s.steady := by simp [State.syncMembers]

/-! ### Machine/Threads.lean -/

@[simp] theorem setThr_steady (s : State) (th : Nat) (t : Thread) : (s.setThr th t).steady = s.steady := by simp [State.setThr]
@[simp] theorem setSkein_steady (s : State) (c i : Nat) (x : Info) : (s.setSkein c i x).steady = s.steady := by simp [State.setSkein]

@[simp] theorem markSkeins_steady (s : State) (c : Nat) (l : List Nat) (b : Bool) : (s.markSkeins c l b).steady = s.steady := by
  simp [State.markSkeins]

@[simp] theorem allocRun_steady (s : State) (th h n : Nat) : (s.allocRun th h n).steady = s.steady := by simp [State.allocRun]
@[simp] theorem freeRun_steady (s : State) (th h : Nat) : (s.freeRun th h).steady = s.steady := by simp [State.freeRun]
@[simp] theorem freeRuns_steady (s : State) (th : Nat) : (s.freeRuns th).steady = s.steady := by simp [State.freeRuns]

@[simp] theorem setRunInfo_steady (s : State) (th h k : Nat) (x : Info) : (s.setRunInfo th h k x).steady = s.steady := by
  simp [State.setRunInfo]

@[simp] theorem putInfos_steady (s : State) (th h k : Nat) (l : List Info) : (s.putInfos th h k l).steady = s.steady := by
  simp [State.putInfos]

@[simp] theorem setRunWord_steady (s : State) (th h off : Nat) (w : Word) : (s.setRunWord th h off w).steady = s.steady := by
  simp [State.setRunWord]

@[simp] theorem setSideWord_steady (s : State) (th h off : Nat) (w : Word) : (s.setSideWord th h off w).steady = s.steady := by
  simp [State.setSideWord]

@[simp] theorem asyncDone_steady (s : State) (th id outcome : Nat) : (s.asyncDone th id outcome).steady = s.steady := by
  simp [State.asyncDone]

@[simp] theorem startThread_steady (s : State) (th pattern : Nat) (g : List Word) (g8 g9 : Word) (perm : Nat) :
    (s.startThread th pattern g g8 g9 perm).steady = s.steady := by
  simp [State.startThread]

@[simp] theorem reapExtents_steady (s : State) : s.reapExtents.steady = s.steady := by simp [State.reapExtents]

@[simp] theorem tellStarter_steady (s : State) (th status : Nat) : (s.tellStarter th status).steady = s.steady := by
  unfold State.tellStarter
  split <;> simp

@[simp] theorem freeHelper_steady (s : State) (th : Nat) : (s.freeHelper th).steady = s.steady := by
  unfold State.freeHelper
  split <;> simp

@[simp] theorem finishThread_steady (s : State) (th : Nat) : (s.finishThread th).steady = s.steady := by simp [State.finishThread]
@[simp] theorem leaveEngine_steady (s : State) (th : Nat) : (s.leaveEngine th).steady = s.steady := by simp [State.leaveEngine]
@[simp] theorem endThread_steady (s0 : State) (th : Nat) : (s0.endThread th).steady = s0.steady := by simp [State.endThread]
@[simp] theorem abandonOwned_steady (s : State) (th : Nat) : (s.abandonOwned th).steady = s.steady := by simp [State.abandonOwned]

@[simp] theorem logFault_steady (s : State) (th status trap pc : Nat) (w : Word) : (s.logFault th status trap pc w).steady = s.steady := by
  simp [State.logFault]

@[simp] theorem countWorkFault_steady (s : State) (th : Nat) : (s.countWorkFault th).steady = s.steady := by simp [State.countWorkFault]

@[simp] theorem settleFault_steady (s : State) (th status trap pc : Nat) (w : Word) :
    (s.settleFault th status trap pc w).steady = s.steady := by
  simp [State.settleFault]

@[simp] theorem threadFault_steady (s : State) (th status trap pc : Nat) (w : Word) :
    (s.threadFault th status trap pc w).steady = s.steady := by
  simp [State.threadFault]

/-- Whatever an instruction's body keeps, its issue keeps: a fault, a false predicate and a thread that cannot issue included. -/
@[simp] theorem issue_steady (s : State) (th : Nat) (want : IWord → Bool) (body : IWord → State → State)
    (hbody : ∀ i t, (body i t).steady = t.steady) :
    (s.issue th want body).steady = s.steady := by
  simp [State.issue, hbody]

@[simp] theorem faultAt_steady (s : State) (th status trap : Nat) : (s.faultAt th status trap).steady = s.steady := by simp [State.faultAt]
@[simp] theorem wr_steady (s : State) (th n : Nat) (v : Word) : (s.wr th n v).steady = s.steady := by simp [State.wr]

@[simp] theorem async_steady (s : State) (th : Nat) (i : IWord) (wait : AsyncWait) (outcome : Nat) (wr rd : List Nat) :
    (s.async th i wait outcome wr rd).steady = s.steady := by
  simp [State.async]

/-! ### Machine/Alu.lean -/

@[simp] theorem alu_steady (s : State) (th op : Nat) (f : Thread → IWord → Word) : (s.alu th op f).steady = s.steady := by simp [State.alu]
@[simp] theorem execAdd_steady (th : Nat) (s : State) : steadyAfter (execAdd th s) = some s.steady := by simp [execAdd]
@[simp] theorem execAddi_steady (th : Nat) (s : State) : steadyAfter (execAddi th s) = some s.steady := by simp [execAddi]
@[simp] theorem execSub_steady (th : Nat) (s : State) : steadyAfter (execSub th s) = some s.steady := by simp [execSub]
@[simp] theorem execAnd_steady (th : Nat) (s : State) : steadyAfter (execAnd th s) = some s.steady := by simp [execAnd]
@[simp] theorem execAndi_steady (th : Nat) (s : State) : steadyAfter (execAndi th s) = some s.steady := by simp [execAndi]
@[simp] theorem execOr_steady (th : Nat) (s : State) : steadyAfter (execOr th s) = some s.steady := by simp [execOr]
@[simp] theorem execOri_steady (th : Nat) (s : State) : steadyAfter (execOri th s) = some s.steady := by simp [execOri]
@[simp] theorem execXor_steady (th : Nat) (s : State) : steadyAfter (execXor th s) = some s.steady := by simp [execXor]
@[simp] theorem execXori_steady (th : Nat) (s : State) : steadyAfter (execXori th s) = some s.steady := by simp [execXori]
@[simp] theorem execShl_steady (th : Nat) (s : State) : steadyAfter (execShl th s) = some s.steady := by simp [execShl]
@[simp] theorem execShli_steady (th : Nat) (s : State) : steadyAfter (execShli th s) = some s.steady := by simp [execShli]
@[simp] theorem execShr_steady (th : Nat) (s : State) : steadyAfter (execShr th s) = some s.steady := by simp [execShr]
@[simp] theorem execShri_steady (th : Nat) (s : State) : steadyAfter (execShri th s) = some s.steady := by simp [execShri]
@[simp] theorem execSar_steady (th : Nat) (s : State) : steadyAfter (execSar th s) = some s.steady := by simp [execSar]
@[simp] theorem execSari_steady (th : Nat) (s : State) : steadyAfter (execSari th s) = some s.steady := by simp [execSari]
@[simp] theorem execMul_steady (th : Nat) (s : State) : steadyAfter (execMul th s) = some s.steady := by simp [execMul]
@[simp] theorem execMulhu_steady (th : Nat) (s : State) : steadyAfter (execMulhu th s) = some s.steady := by simp [execMulhu]
@[simp] theorem execDivu_steady (th : Nat) (s : State) : steadyAfter (execDivu th s) = some s.steady := by simp [execDivu]
@[simp] theorem execRemu_steady (th : Nat) (s : State) : steadyAfter (execRemu th s) = some s.steady := by simp [execRemu]
@[simp] theorem execMinu_steady (th : Nat) (s : State) : steadyAfter (execMinu th s) = some s.steady := by simp [execMinu]
@[simp] theorem execMaxu_steady (th : Nat) (s : State) : steadyAfter (execMaxu th s) = some s.steady := by simp [execMaxu]
@[simp] theorem execMovhi_steady (th : Nat) (s : State) : steadyAfter (execMovhi th s) = some s.steady := by simp [execMovhi]
@[simp] theorem execClz_steady (th : Nat) (s : State) : steadyAfter (execClz th s) = some s.steady := by simp [execClz]
@[simp] theorem execPopc_steady (th : Nat) (s : State) : steadyAfter (execPopc th s) = some s.steady := by simp [execPopc]
@[simp] theorem execBfx_steady (th : Nat) (s : State) : steadyAfter (execBfx th s) = some s.steady := by simp [execBfx]
@[simp] theorem execBfi_steady (th : Nat) (s : State) : steadyAfter (execBfi th s) = some s.steady := by simp [execBfi]
@[simp] theorem execNop_steady (th : Nat) (s : State) : steadyAfter (execNop th s) = some s.steady := by simp [execNop]

@[simp] theorem execReservedOpcode_steady (th : Nat) (s : State) : steadyAfter (execReservedOpcode th s) = some s.steady := by
  simp [execReservedOpcode]

/-! ### Machine/DumpOps.lean -/

@[simp] theorem setDumpSlot_steady (s : State) (i : Nat) (d : Option Dump) : (s.setDumpSlot i d).steady = s.steady := by
  simp [State.setDumpSlot]

@[simp] theorem syncVaddr_steady (s : State) : s.syncVaddr.steady = s.steady := by
  unfold State.syncVaddr
  split <;> simp

@[simp] theorem saveDump_steady (s : State) (d : Dump) : (s.saveDump d).steady = s.steady := by simp [State.saveDump]

@[simp] theorem cutDump_steady (s : State) : s.cutDump.steady = s.steady := by
  unfold State.cutDump
  split <;> simp

@[simp] theorem moveDump_steady (s : State) : s.moveDump.steady = s.steady := by
  unfold State.moveDump
  split <;> simp

/-! ### Machine/SledOps.lean -/

@[simp] theorem setPort_steady (s : State) (p : Nat) (x : Port) : (s.setPort p x).steady = s.steady := by simp [State.setPort]

@[simp] theorem pumpPort_steady (s : State) (p n : Nat) : (s.pumpPort p n).steady = s.steady := by
  induction n generalizing s with
  | zero => rfl
  | succ n ih => 
    simp only [State.pumpPort]
    repeat' split
    all_goals simp [ih]

@[simp] theorem pump_steady (s : State) (p : Nat) : (s.pump p).steady = s.steady := by simp [State.pump]
@[simp] theorem setHop_steady (s : State) (p h : Nat) (x : Hop) : (s.setHop p h x).steady = s.steady := by simp [State.setHop]

@[simp] theorem chargeShare_steady (s : State) (n : Nat) (sh : Share) (cost : Nat) : (s.chargeShare n sh cost).steady = s.steady := by
  unfold State.chargeShare
  split <;> simp

@[simp] theorem keepCommand_steady (s : State) (p : Nat) (c : SledCmd) : (s.keepCommand p c).steady = s.steady := by
  simp [State.keepCommand]

@[simp] theorem returnCredit_steady (s : State) (p ctrl bulk : Nat) : (s.returnCredit p ctrl bulk).steady = s.steady := by
  simp [State.returnCredit]

/-- A command to a sled, sent or kept. The number of tags is generalised, so that the search for a free one is not evaluated. -/
@[simp] theorem issueSled_steady (s : State) (p : Nat) (c : SledCmd) : (s.issueSled p c).steady = s.steady := by
  unfold State.issueSled
  generalize s.sledCmds.fresh (sledKey p 0) 512 = tag
  cases tag with
  | none => exact keepCommand_steady s p c
  | some k =>
    dsimp only
    rw [steady_ite, keepCommand_steady, pump_steady, setPort_steady, steady_update _ _ rfl rfl rfl]
    cases c.sled <;> simp

@[simp] theorem sendSled_steady (s : State) (n : Nat) (kind : SledKind) (array : Nat) (scope : Bool) (why : Purpose) (share : Share) :
    (s.sendSled n kind array scope why share).steady = s.steady := by
  simp [State.sendSled]

@[simp] theorem sendHop_steady (s : State) (p h : Nat) (kind : SledKind) (why : Purpose) : (s.sendHop p h kind why).steady = s.steady := by
  simp [State.sendHop]

@[simp] theorem tryWaiting_steady (s : State) (p n : Nat) (l : List SledCmd) : (s.tryWaiting p n l).steady = s.steady := by
  fun_induction State.tryWaiting s p n l <;> simp [*]

@[simp] theorem retryWaiting_steady (s : State) (p : Nat) : (s.retryWaiting p).steady = s.steady := by simp [State.retryWaiting]
@[simp] theorem endSled_steady (s : State) (p t : Nat) : (s.endSled p t).steady = s.steady := by simp [State.endSled]

@[simp] theorem setSledHealth_steady (s : State) (n : Nat) (x : SledHealth) : (s.setSledHealth n x).steady = s.steady := by
  simp [State.setSledHealth]

@[simp] theorem countCodeword_steady (s : State) (n step : Nat) : (s.countCodeword n step).steady = s.steady := by
  simp [State.countCodeword]

@[simp] theorem countUncorrectable_steady (s : State) (n : Nat) : (s.countUncorrectable n).steady = s.steady := by
  simp [State.countUncorrectable]

@[simp] theorem setJob_steady (s : State) (j : Nat) (x : ReadJob) : (s.setJob j x).steady = s.steady := by simp [State.setJob]

@[simp] theorem readCol_steady (s : State) (j : Nat) (x : ReadJob) (k level : Nat) : (s.readCol j x k level).1.steady = s.steady := by
  unfold State.readCol
  split <;> simp

@[simp] theorem readCols_steady (s : State) (j : Nat) (x : ReadJob) (keys : List Nat) : (s.readCols j x keys).1.steady = s.steady := by
  simp [State.readCols]

@[simp] theorem recover_steady (s : State) (x : ReadJob) (k step : Nat) (w : Info) : (s.recover x k step w).1.steady = s.steady := by
  simp [State.recover]

@[simp] theorem giveUp_steady (s : State) (x : ReadJob) (k : Nat) (last : Info) : (s.giveUp x k last).1.steady = s.steady := by
  simp [State.giveUp]

@[simp] theorem solveCols_steady (s : State) (x : ReadJob) (step : Nat) (cols : List Nat) :
    (s.solveCols x step cols).1.steady = s.steady := by
  refine foldl_fst_steady _ (fun p c => ?_) _ _
  dsimp only
  split <;> simp

@[simp] theorem jointRound_steady (s : State) (x : ReadJob) (iter : Nat) : (s.jointRound x iter).1.steady = s.steady := by
  refine foldl_fst_steady _ (fun p k => ?_) _ _
  dsimp only
  split <;> simp

@[simp] theorem endAssist_steady (s : State) (j : Nat) (x : ReadJob) : (s.endAssist j x).1.steady = s.steady := by
  fun_cases State.endAssist s j x
  case case1 => exact readCols_steady ..
  case case2 p q =>
    calc q.1.steady = p.1.steady := foldl_fst_steady _ (fun r k => by split <;> simp) _ _
      _ = s.steady := solveCols_steady ..

@[simp] theorem runJoint_steady (s : State) (j : Nat) (x : ReadJob) (n : Nat) : (s.runJoint j x n).1.steady = s.steady := by
  induction n generalizing s x with
  | zero => exact endAssist_steady s j x
  | succ n ih =>
    simp only [State.runJoint]
    repeat' split
    all_goals simp [ih]

@[simp] theorem assistJob_steady (s : State) (j : Nat) (x : ReadJob) : (s.assistJob j x).1.steady = s.steady := by
  fun_cases State.assistJob s j x <;> simp

@[simp] theorem noteXfer_steady (s : State) (th id step : Nat) (bad : Bool) (status : Nat) :
    (s.noteXfer th id step bad status).steady = s.steady := by
  fun_cases State.noteXfer s th id step bad status <;> simp +zetaDelta

@[simp] theorem endFetch_steady (s : State) (j : Nat) (x : ReadJob) (th id place : Nat) (expect : Option (Nat × Nat)) :
    (s.endFetch j x th id place expect).steady = s.steady := by
  fun_cases State.endFetch s j x th id place expect <;> simp +zetaDelta

@[simp] theorem endDevice_steady (s : State) (j k : Nat) (x : ReadJob) : (s.endDevice j k x).steady = s.steady := by
  simp only [State.endDevice]
  split <;> simp

@[simp] theorem endJob_steady (s : State) (j : Nat) (x : ReadJob) : (s.endJob j x).steady = s.steady := by
  unfold State.endJob
  split <;> simp

@[simp] theorem unassisted_steady (s : State) (x : ReadJob) : (s.unassisted x).steady = s.steady := by simp [State.unassisted]
@[simp] theorem settleJob_steady (s : State) (j : Nat) (x : ReadJob) : (s.settleJob j x).steady = s.steady := by simp [State.settleJob]
@[simp] theorem runJob_steady (s : State) (j a : Nat) : (s.runJob j a).steady = s.steady := by fun_induction State.runJob s j a <;> simp [*]

@[simp] theorem startJob_steady (s : State) (x : ReadJob) : (s.startJob x).steady = s.steady := by
  unfold State.startJob
  split <;> simp

@[simp] theorem readErased_steady (s : State) (j k : Nat) : (s.readErased j k).steady = s.steady := by
  fun_cases State.readErased s j k <;> simp

@[simp] theorem decoded_steady (s : State) (j : Nat) (x : ReadJob) (k level : Nat) (planes : List Mem) (o : Bool × Info) :
    (s.decoded j x k level planes o).steady = s.steady := by
  simp [State.decoded]

@[simp] theorem columnData_steady (s : State) (j k level seg : Nat) (raw : Mem) : (s.columnData j k level seg raw).steady = s.steady := by
  fun_cases State.columnData s j k level seg raw <;> simp

/-! ### Machine/BandOps.lean -/

@[simp] theorem writeRecord_steady (s : State) (kind page count : Nat) (slots : List Byte) :
    (s.writeRecord kind page count slots).steady = s.steady := by
  simp [State.writeRecord]

@[simp] theorem nameBand_steady (s : State) (a b : Nat) : (s.nameBand a b).steady = s.steady := by simp [State.nameBand]

@[simp] theorem takeBlock_steady (s : State) (a b n blk : Nat) (slc : Bool) : (s.takeBlock a b n blk slc).steady = s.steady := by
  simp [State.takeBlock]

@[simp] theorem openBand_steady (s : State) (a b : Nat) (kind : BandKind) : (s.openBand a b kind).steady = s.steady := by
  unfold State.openBand
  split
  · rfl
  · rw [syncArray_steady, setBandLogged_steady, steady_update _ _ rfl rfl rfl]
    refine foldl_fst_steady _ (fun p k => ?_) _ _
    dsimp only
    repeat' split
    all_goals simp

@[simp] theorem closeFull_steady (s : State) (a c : Nat) (kind : BandKind) : (s.closeFull a c kind).steady = s.steady := by
  unfold State.closeFull
  split <;> simp

/-- A stripe opens: in the fourth case the band it goes to is open, or has been opened first. -/
@[simp] theorem openStripeAt_steady (s : State) (c owner : Nat) (kind : BandKind) (a b st source : Nat) :
    (s.openStripeAt c owner kind a b st source).1.steady = s.steady := by
  fun_cases State.openStripeAt s c owner kind a b st source
  case case4 ready s1 hready s2 _ _ _ _ _ _ _ _ =>
    have h1 : s1.steady = s.steady := by
      revert hready
      dsimp only [ready]
      repeat' split
      all_goals rintro ⟨⟩
      · rfl
      · simp
    simp +zetaDelta [h1]
  all_goals simp +zetaDelta

@[simp] theorem openStripe_steady (s : State) (th a b st source : Nat) : (s.openStripe th a b st source).1.steady = s.steady := by
  rw [← openStripeAt_steady s (thCluster th) th (s.stripeKind a (thCluster th) source) a b st source]
  fun_cases State.openStripe s th a b st source <;> simp [*]

@[simp] theorem interimSlot_steady (s : State) (a cluster gen : Nat) : (s.interimSlot a cluster gen).1.steady = s.steady := by
  fun_cases State.interimSlot s a cluster gen <;> simp +zetaDelta

@[simp] theorem syncSpace_steady (s : State) (a : Nat) : (s.syncSpace a).steady = s.steady := by simp [State.syncSpace]
@[simp] theorem closeIfFull_steady (s : State) (a b : Nat) : (s.closeIfFull a b).steady = s.steady := by simp [State.closeIfFull]
@[simp] theorem closeStripe_steady (s : State) (e : Nat) : (s.closeStripe e).steady = s.steady := by simp [State.closeStripe]
@[simp] theorem abandonMember_steady (s : State) (a b k : Nat) : (s.abandonMember a b k).steady = s.steady := by simp [State.abandonMember]
@[simp] theorem markFailed_steady (s : State) (a b k : Nat) : (s.markFailed a b k).steady = s.steady := by simp [State.markFailed]

@[simp] theorem programFailed_steady (s : State) (e col : Nat) (interim onBlock : Bool) :
    (s.programFailed e col interim onBlock).steady = s.steady := by
  simp [State.programFailed]

@[simp] theorem retireBlock_steady (s : State) (a n blk st : Nat) : (s.retireBlock a n blk st).steady = s.steady := by
  simp [State.retireBlock]

@[simp] theorem finishErase_steady (s : State) (a b : Nat) : (s.finishErase a b).steady = s.steady := by simp [State.finishErase]

/-! ### Machine/Branch.lean -/

@[simp] theorem wp_steady (s : State) (th i : Nat) (b : Bool) : (s.wp th i b).steady = s.steady := by simp [State.wp]

@[simp] theorem compare_steady (s : State) (th op : Nat) (y : Thread → IWord → Word) : (s.compare th op y).steady = s.steady := by
  refine issue_steady _ _ _ _ fun i t => ?_
  split <;> simp

@[simp] theorem execCmp_steady (th : Nat) (s : State) : steadyAfter (execCmp th s) = some s.steady := by simp [execCmp]
@[simp] theorem execCmpi_steady (th : Nat) (s : State) : steadyAfter (execCmpi th s) = some s.steady := by simp [execCmpi]
@[simp] theorem execPlog_steady (th : Nat) (s : State) : steadyAfter (execPlog th s) = some s.steady := by simp [execPlog]
@[simp] theorem jumpTo_steady (s : State) (th : Nat) (target : Int) : (s.jumpTo th target).steady = s.steady := by simp [State.jumpTo]

@[simp] theorem execBr_steady (th : Nat) (s : State) : steadyAfter (execBr th s) = some s.steady := by
  refine congrArg some (issue_steady _ _ _ _ fun i t => ?_)
  rw [jumpTo_steady]

@[simp] theorem execJal_steady (th : Nat) (s : State) : steadyAfter (execJal th s) = some s.steady := by
  refine congrArg some (issue_steady _ _ _ _ fun i t => ?_)
  rw [jumpTo_steady, wr_steady]

@[simp] theorem execJr_steady (th : Nat) (s : State) : steadyAfter (execJr th s) = some s.steady := by simp [execJr]

/-! ### Machine/Skeins.lean -/

@[simp] theorem execSkalloc_steady (th : Nat) (s : State) : steadyAfter (execSkalloc th s) = some s.steady := by simp [execSkalloc]

@[simp] theorem execSkallocResume_steady (th : Nat) (s : State) : steadyAfter (execSkallocResume th s) = some s.steady := by
  unfold execSkallocResume
  split <;> simp

@[simp] theorem execSkfree_steady (th : Nat) (s : State) : steadyAfter (execSkfree th s) = some s.steady := by simp [execSkfree]
@[simp] theorem execSkzero_steady (th : Nat) (s : State) : steadyAfter (execSkzero th s) = some s.steady := by simp [execSkzero]
@[simp] theorem execLdk_steady (th : Nat) (s : State) : steadyAfter (execLdk th s) = some s.steady := by simp [execLdk]
@[simp] theorem execStk_steady (th : Nat) (s : State) : steadyAfter (execStk th s) = some s.steady := by simp [execStk]

/-! ### Machine/CommitOps.lean -/

@[simp] theorem checkedEntry_steady (s : State) (a g : Nat) : (s.checkedEntry a g).1.steady = s.steady := by simp [State.checkedEntry]

@[simp] theorem gatherFull_steady (s : State) (a g : Nat) : (s.gatherFull a g).steady = s.steady := by
  unfold State.gatherFull
  split <;> simp

@[simp] theorem enterHoop_steady (s : State) (l : List Staged) : (s.enterHoop l).steady = s.steady := by
  refine (foldl_steady _ (fun t x => ?_) _ _).trans (by simp)
  rw [gatherFull_steady]
  split <;> simp

@[simp] theorem mirrorBlocks_steady (s : State) (l : List Staged) : (s.mirrorBlocks l).steady = s.steady := by simp [State.mirrorBlocks]
@[simp] theorem setBankWaits_steady (s : State) (l : List BankWait) : (s.setBankWaits l).steady = s.steady := by simp [State.setBankWaits]

@[simp] theorem beginBankWait_steady (s : State) (th : Nat) : (s.beginBankWait th).steady = s.steady := by
  simp only [State.beginBankWait]
  split <;> simp

@[simp] theorem endBankWait_steady (s : State) (th : Nat) : (s.endBankWait th).steady = s.steady := by simp [State.endBankWait]
@[simp] theorem setHealthy_steady (s : State) (b : Bool) : (s.setHealthy b).steady = s.steady := by simp [State.setHealthy]

@[simp] theorem tryCommit_steady (s : State) (th : Nat) (o : AsyncOp) : (s.tryCommit th o).steady = s.steady := by
  unfold State.tryCommit
  split <;> simp

@[simp] theorem dramWrite_steady (s : State) (addr : Nat) (bs : List Byte) : (s.dramWrite addr bs).steady = s.steady := by
  simp [State.dramWrite]

/-! ### Machine/Writer.lean -/

@[simp] theorem endLoss_steady (s : State) (a g seq : Nat) : (s.endLoss a g seq).steady = s.steady := by simp [State.endLoss]
@[simp] theorem mapup_steady (s : State) (a g cond d low : Nat) : (s.mapup a g cond d low).steady = s.steady := by simp [State.mapup]

@[simp] theorem sendProgram_steady (s : State) (th id e col : Nat) (interim : Bool) (first : Nat) (words : List Info) :
    (s.sendProgram th id e col interim first words).steady = s.steady := by
  unfold State.sendProgram
  split <;> simp

@[simp] theorem setWorks_steady (s : State) (l : List StripeWork) : (s.setWorks l).steady = s.steady := by simp [State.setWorks]
@[simp] theorem putWork_steady (s : State) (w : StripeWork) : (s.putWork w).steady = s.steady := by simp [State.putWork]
@[simp] theorem dropWorks_steady (s : State) : s.dropWorks.steady = s.steady := by simp [State.dropWorks]

@[simp] theorem putProgram_steady (s : State) (e col : Nat) (interim : Bool) (first : Nat) (words : List Info) :
    (s.putProgram e col interim first words).steady = s.steady := by
  simp [State.putProgram]

@[simp] theorem releaseHeld_steady (s : State) : s.releaseHeld.steady = s.steady := by simp [State.releaseHeld]

@[simp] theorem startRound_steady (s : State) (w : StripeWork) (lo : Nat) (interim : Bool) (stage : WorkStage) :
    (s.startRound w lo interim stage).steady = s.steady := by
  simp [State.startRound]

@[simp] theorem sealGather_steady (s : State) (a c : Nat) (fg : Bool) : (s.sealGather a c fg).steady = s.steady := by
  simp only [State.sealGather]
  split <;> simp

@[simp] theorem logUnsealed_steady (s : State) (a : Nat) (g : Nat × Nat) : (s.logUnsealed a g).steady = s.steady := by
  unfold State.logUnsealed
  split <;> simp

@[simp] theorem startJobRound_steady (s : State) (j : StripeJob) (w : StripeWork) : (s.startJobRound j w).steady = s.steady := by
  fun_cases State.startJobRound s j w
  case case3 s1 slot hslot => simp +zetaDelta [steady_of_fst hslot (interimSlot_steady ..)]
  case case4 s1 hslot => simp +zetaDelta [steady_of_fst hslot (interimSlot_steady ..)]
  all_goals simp +zetaDelta

@[simp] theorem nextPlace_steady (s : State) (a c : Nat) (kind : BandKind) : (s.nextPlace a c kind).1.steady = s.steady := by
  unfold State.nextPlace
  split <;> simp

@[simp] theorem openWork_steady (s : State) (a c : Nat) (kind : BandKind) (source : Nat) :
    (s.openWork a c kind source).1.steady = s.steady := by
  grind [State.openWork, nextPlace_steady, openStripeAt_steady, setWorks_steady]

@[simp] theorem gatherAgain_steady (s : State) (j : StripeJob) : (s.gatherAgain j).steady = s.steady := by simp [State.gatherAgain]

@[simp] theorem openJob_steady (s : State) (j : StripeJob) : (s.openJob j).steady = s.steady := by
  unfold State.openJob
  split <;> simp

@[simp] theorem runStripeJob_steady (s : State) (j : StripeJob) : (s.runStripeJob j).steady = s.steady := by
  unfold State.runStripeJob
  split <;> simp

@[simp] theorem writeCopies_steady (s : State) (key : Nat) (pad : Bool) : (s.writeCopies key pad).steady = s.steady := by
  fun_cases State.writeCopies s key pad
  case case1 => rfl
  case case2 hwork _ _ _ _ => simp +zetaDelta [steady_of_fst hwork (openWork_steady ..)]
  case case3 hwork _ => exact steady_of_fst hwork (openWork_steady ..)
  case case4 hwork => exact steady_of_fst hwork (openWork_steady ..)

@[simp] theorem drive_steady (s : State) : s.drive.steady = s.steady := by simp [State.drive]
@[simp] theorem stepSix_steady (s : State) (w : StripeWork) (hi : Nat) : (s.stepSix w hi).steady = s.steady := by simp [State.stepSix]
@[simp] theorem settleReads_steady (s : State) : s.settleReads.steady = s.steady := by simp [State.settleReads]

@[simp] theorem finishRound_steady (s : State) (w : StripeWork) : (s.finishRound w).steady = s.steady := by
  unfold State.finishRound
  split <;> simp

@[simp] theorem settleWorks_steady (s : State) : s.settleWorks.steady = s.steady := by
  rw [State.settleWorks, drive_steady, settleReads_steady]
  refine (foldl_steady _ (fun t w => ?_) _ _).trans (foldl_steady _ (fun t w => ?_) _ _) <;> split <;> simp

@[simp] theorem workAcked_steady (s : State) (e col : Nat) (interim : Bool) : (s.workAcked e col interim).steady = s.steady := by
  unfold State.workAcked
  split <;> simp

/-! ### Machine/Movement.lean -/

@[simp] theorem moveOp_steady (s : State) (th : Nat) (i : IWord) (wait : AsyncWait) (outcome : Nat) (wr rd : List Nat) (f : Xfer) :
    (s.moveOp th i wait outcome wr rd f).steady = s.steady := by
  simp [State.moveOp]

@[simp] theorem countDeny_steady (s : State) (outcome : Nat) : (s.countDeny outcome).steady = s.steady := by simp [State.countDeny]
@[simp] theorem fetchHost_steady (s : State) (th : Nat) (i : IWord) : (s.fetchHost th i).steady = s.steady := by simp [State.fetchHost]

@[simp] theorem readBlock_steady (s : State) (th id k a blk pga : Nat) : (s.readBlock th id k a blk pga).steady = s.steady := by
  simp [State.readBlock]

@[simp] theorem fetchBlock_steady (s : State) (th id h first k a blk : Nat) : (s.fetchBlock th id h first k a blk).steady = s.steady := by
  grind [State.fetchBlock, checkedEntry_steady, setRunInfo_steady, noteXfer_steady, bumpFree_steady, readBlock_steady]

@[simp] theorem takeHoop_steady (s : State) (th h first a blk n : Nat) : (s.takeHoop th h first a blk n).1.steady = s.steady := by
  simp [State.takeHoop]

@[simp] theorem runBehind_steady (s : State) (th : Nat) (o : AsyncOp) : (s.runBehind th o).steady = s.steady := by
  unfold State.runBehind
  split <;> simp

@[simp] theorem fetchArray_steady (s : State) (th : Nat) (i : IWord) : (s.fetchArray th i).steady = s.steady := by simp [State.fetchArray]
@[simp] theorem fetchHoop_steady (s : State) (th : Nat) (i : IWord) : (s.fetchHoop th i).steady = s.steady := by simp [State.fetchHoop]

@[simp] theorem dramToRun_steady (s : State) (th h addr off a : Nat) : (s.dramToRun th h addr off a).steady = s.steady := by
  fun_induction State.dramToRun s th h addr off a <;> simp [*]

@[simp] theorem fetchDram_steady (s : State) (th : Nat) (i : IWord) : (s.fetchDram th i).steady = s.steady := by simp [State.fetchDram]

@[simp] theorem fetchSled_steady (s : State) (th : Nat) (i : IWord) : (s.fetchSled th i).steady = s.steady := by
  simp only [State.fetchSled]
  split <;> simp

@[simp] theorem execFetch_steady (th : Nat) (s : State) : steadyAfter (execFetch th s) = some s.steady := by
  refine congrArg some ?_
  split
  · rfl
  · refine issue_steady _ _ _ _ fun i t => ?_
    split <;> simp

@[simp] theorem storeHost_steady (s : State) (th : Nat) (i : IWord) : (s.storeHost th i).steady = s.steady := by simp [State.storeHost]
@[simp] theorem storeDram_steady (s : State) (th : Nat) (i : IWord) : (s.storeDram th i).steady = s.steady := by simp [State.storeDram]
@[simp] theorem stage_steady (s : State) (th : Nat) (i : IWord) : (s.stage th i).steady = s.steady := by simp [State.stage]

@[simp] theorem execStoreStage_steady (th : Nat) (s : State) : steadyAfter (execStoreStage th s) = some s.steady := by
  refine congrArg some ?_
  split
  · rfl
  · refine issue_steady _ _ _ _ fun i t => ?_
    split <;> simp

@[simp] theorem execStoreCommit_steady (th : Nat) (s : State) : steadyAfter (execStoreCommit th s) = some s.steady := by
  refine congrArg some (issue_steady _ _ _ _ fun i t => ?_)
  dsimp only
  repeat' split
  all_goals simp

@[simp] theorem contribute_steady (s : State) (th : Nat) (img : List Byte) (fmt col k : Nat) (x : Info) :
    (s.contribute th img fmt col k x).steady = s.steady := by
  unfold State.contribute
  split <;> simp

@[simp] theorem contributeAll_steady (s : State) (th a : Nat) (img : List Byte) (fmt col : Nat) (l : List Info) :
    (s.contributeAll th a img fmt col l).steady = s.steady := by
  simp [State.contributeAll]

@[simp] theorem execEmit_steady (th : Nat) (s : State) : steadyAfter (execEmit th s) = some s.steady := by simp [execEmit]

/-! ### Machine/RegOps.lean -/

@[simp] theorem regNotice_steady (s : State) (code off : Nat) (value : Word) (detail : Nat) :
    (s.regNotice code off value detail).steady = s.steady := by
  simp [State.regNotice]

/-- A write that passes the gate keeps what its register's operation keeps. -/
@[simp] theorem gate_steady (s : State) (off size : Nat) (value : Word) (k : State → State) (hk : (k s).steady = s.steady) :
    (s.gate off size value k).steady = s.steady := by
  fun_cases State.gate s off size value k <;> simp [hk]

/-- As gate_steady, for a command register. -/
@[simp] theorem command_steady (s : State) (off size : Nat) (value : Word) (hi : Bool) (k : Nat → State → State)
    (hk : ∀ v, (k v s).steady = s.steady) :
    (s.command off size value hi k).steady = s.steady := by
  simp [State.command, hk]

@[simp] theorem storeReg_steady (s : State) (off size : Nat) (value : Word) : (s.storeReg off size value).steady = s.steady := by
  simp [State.storeReg]

/-! ### Machine/EntryOps.lean -/

@[simp] theorem acceptEntry_steady (s : State) (r : Nat) (e : Entry) : (s.acceptEntry r e).steady = s.steady := by simp [State.acceptEntry]

@[simp] theorem takeEarly_steady (s : State) (r a : Nat) : (s.takeEarly r a).steady = s.steady := by
  fun_induction State.takeEarly s r a <;> simp_all

@[simp] theorem entryArrived_steady (s : State) (r index : Nat) (res : HostResult) : (s.entryArrived r index res).steady = s.steady := by
  fun_cases State.entryArrived s r index res <;> simp

/-- The fetch of one entry. The read is generalised, as in issueSled_steady. -/
@[simp] theorem fetchOne_steady (s : State) (r : Nat) : (s.fetchOne r).steady = s.steady := by
  unfold State.fetchOne
  dsimp only
  generalize hread : s.hostRead _ _ _ _ _ = p
  have hp : p.1.steady = s.steady := hread ▸ hostRead_steady ..
  split <;> simpa using hp

@[simp] theorem fetchMany_steady (s : State) (r a : Nat) : (s.fetchMany r a).steady = s.steady := by
  fun_induction State.fetchMany s r a <;> simp [*]

@[simp] theorem startCall_steady (s : State) (r th : Nat) (e : Entry) : (s.startCall r th e).steady = s.steady := by simp [State.startCall]

@[simp] theorem dispatch_steady (s : State) (r : Nat) (ok : Nat → Bool) : (s.dispatch r ok).steady = s.steady := by
  fun_cases State.dispatch s r ok <;> simp +zetaDelta

/-! ### Machine/Rings.lean -/

@[simp] theorem sqDoorbell_steady (s : State) (r v : Nat) : (s.sqDoorbell r v).steady = s.steady := by simp [State.sqDoorbell]
@[simp] theorem cqDoorbell_steady (s : State) (q v : Nat) : (s.cqDoorbell q v).steady = s.steady := by simp [State.cqDoorbell]

/-- As gate_steady, for a doorbell. -/
@[simp] theorem doorbell_steady (s : State) (cq : Bool) (e r size : Nat) (value : Word) (act : State → State)
    (hact : (act s).steady = s.steady) :
    (s.doorbell cq e r size value act).steady = s.steady := by
  simp [State.doorbell, hact]

@[simp] theorem execSqDoorbell_steady (e r size : Nat) (value : Word) (s : State) :
    steadyAfter (execSqDoorbell e r size value s) = some s.steady := by
  simp [execSqDoorbell]

@[simp] theorem execCqDoorbell_steady (e q size : Nat) (value : Word) (s : State) :
    steadyAfter (execCqDoorbell e q size value s) = some s.steady := by
  simp [execCqDoorbell]

@[simp] theorem replayDoorbells_steady (s : State) : s.replayDoorbells.steady = s.steady := by simp [State.replayDoorbells]

@[simp] theorem execEntryFetch_steady (s : State) : steadyAfter (execEntryFetch s) = some s.steady := by
  simp only [execEntryFetch]
  repeat' split
  all_goals simp

@[simp] theorem execEntryFetchComplete_steady (r : Nat) (res : HostResult) (s : State) :
    steadyAfter (execEntryFetchComplete r res s) = some s.steady := by
  simp only [execEntryFetchComplete]
  repeat' split
  all_goals simp

@[simp] theorem execThreadDispatch_steady (r : Nat) (s : State) : steadyAfter (execThreadDispatch r s) = some s.steady := by
  simp [execThreadDispatch]

@[simp] theorem execCallEntry_steady (r : Nat) (s : State) : steadyAfter (execCallEntry r s) = some s.steady := by simp [execCallEntry]

@[simp] theorem execInlineEntry_steady (r : Nat) (s : State) : steadyAfter (execInlineEntry r s) = some s.steady := by
  simp [execInlineEntry]

@[simp] theorem execNopEntry_steady (r : Nat) (s : State) : steadyAfter (execNopEntry r s) = some s.steady := by
  unfold execNopEntry
  split <;> simp

@[simp] theorem execFenceEntry_steady (r : Nat) (s : State) : steadyAfter (execFenceEntry r s) = some s.steady := by
  unfold execFenceEntry
  split <;> simp

@[simp] theorem execCoalesceTimer_steady (q : Nat) (s : State) : steadyAfter (execCoalesceTimer q s) = some s.steady := by
  unfold execCoalesceTimer
  split <;> simp

@[simp] theorem storeCtl_steady (s : State) (off size : Nat) (value : Word) (fixup : Nat → Nat) :
    (s.storeCtl off size value fixup).steady = s.steady := by
  simp [State.storeCtl]

@[simp] theorem refuseEn_steady (s : State) (seqerr : Field) (off : Nat) (value : Word) :
    (s.refuseEn seqerr off value).steady = s.steady := by
  simp [State.refuseEn]

@[simp] theorem enableSq_steady (s : State) (r : Nat) : (s.enableSq r).steady = s.steady := by simp [State.enableSq]
@[simp] theorem disableSq_steady (s : State) (r : Nat) : (s.disableSq r).steady = s.steady := by simp [State.disableSq]

@[simp] theorem writeSqCtl_steady (s : State) (r off size : Nat) (value : Word) : (s.writeSqCtl r off size value).steady = s.steady := by
  simp [State.writeSqCtl]

@[simp] theorem writeCqCtl_steady (s : State) (q off size : Nat) (value : Word) : (s.writeCqCtl q off size value).steady = s.steady := by
  simp [State.writeCqCtl]

@[simp] theorem execSqEnable_steady (r : Nat) (value : Word) (s : State) : steadyAfter (execSqEnable r value s) = some s.steady := by
  simp [execSqEnable]

@[simp] theorem execSqDisable_steady (r : Nat) (value : Word) (s : State) : steadyAfter (execSqDisable r value s) = some s.steady := by
  simp [execSqDisable]

@[simp] theorem execCqEnable_steady (q : Nat) (value : Word) (s : State) : steadyAfter (execCqEnable q value s) = some s.steady := by
  simp [execCqEnable]

@[simp] theorem execCqDisable_steady (q : Nat) (value : Word) (s : State) : steadyAfter (execCqDisable q value s) = some s.steady := by
  simp [execCqDisable]

/-! ### Machine/Shuttle.lean -/

@[simp] theorem setSkeinByte_steady (s : State) (a : Nat) (b : Byte) : (s.setSkeinByte a b).steady = s.steady := by
  simp [State.setSkeinByte]

@[simp] theorem shtWrite_steady (s : State) (n sp a : Nat) (bs : List Byte) : (s.shtWrite n sp a bs).steady = s.steady := by
  unfold State.shtWrite
  split <;> simp

@[simp] theorem shtEvent_steady (s : State) : s.shtEvent.steady = s.steady := by simp [State.shtEvent]
@[simp] theorem shtEnd_steady (s : State) (n state ecode : Nat) : (s.shtEnd n state ecode).steady = s.steady := by simp [State.shtEnd]
@[simp] theorem shtAllStop_steady (s : State) (n addr : Nat) : (s.shtAllStop n addr).steady = s.steady := by simp [State.shtAllStop]

@[simp] theorem shtAsk_steady (s : State) (n : Nat) (d : ShtDesc) : (s.shtAsk n d).steady = s.steady := by
  unfold State.shtAsk
  split <;> simp

@[simp] theorem shtBusError_steady (s : State) (n addr : Nat) : (s.shtBusError n addr).steady = s.steady := by
  fun_cases State.shtBusError s n addr <;> simp

@[simp] theorem shtUnit_steady (s : State) (n : Nat) (d : ShtDesc) (dstBytes : Option (List Byte)) :
    (s.shtUnit n d dstBytes).steady = s.steady := by
  fun_cases State.shtUnit s n d dstBytes <;> simp +zetaDelta

@[simp] theorem shtNext_steady (s : State) (n : Nat) (d : ShtDesc) : (s.shtNext n d).steady = s.steady := by
  unfold State.shtNext
  split <;> simp

@[simp] theorem shtAdvance_steady (s : State) (n upto a : Nat) : (s.shtAdvance n upto a).steady = s.steady := by
  fun_induction State.shtAdvance s n upto a <;> simp [*]

@[simp] theorem shtStart_steady (s : State) (n : Nat) (d : ShtDesc) : (s.shtStart n d).steady = s.steady := by simp [State.shtStart]
@[simp] theorem shtGo_steady (s : State) (n : Nat) : (s.shtGo n).steady = s.steady := by simp [State.shtGo]

@[simp] theorem execShuttleGo_steady (n size : Nat) (value : Word) (s : State) :
    steadyAfter (execShuttleGo n size value s) = some s.steady := by
  simp [execShuttleGo]

@[simp] theorem shtDone_steady (s : State) (n : Nat) (d : ShtDesc) : (s.shtDone n d).steady = s.steady := by
  simp only [State.shtDone]
  split <;> simp

@[simp] theorem execShuttleComplete_steady (n : Nat) (s : State) : steadyAfter (execShuttleComplete n s) = some s.steady := by
  unfold execShuttleComplete
  split <;> simp

@[simp] theorem execShuttleBusError_steady (n pos addr : Nat) (s : State) :
    steadyAfter (execShuttleBusError n pos addr s) = some s.steady := by
  unfold execShuttleBusError
  split <;> simp

@[simp] theorem execShuttleWindowHalt_steady (n : Nat) (s : State) : steadyAfter (execShuttleWindowHalt n s) = some s.steady := by
  simp only [execShuttleWindowHalt]
  repeat' split
  all_goals simp

@[simp] theorem allstopClear_steady (s : State) : s.allstopClear.steady = s.steady := by simp [State.allstopClear]

@[simp] theorem execAllstopClear_steady (size : Nat) (value : Word) (s : State) :
    steadyAfter (execAllstopClear size value s) = some s.steady := by
  simp [execAllstopClear]

@[simp] theorem writeShtStat_steady (s : State) (n off size : Nat) (value : Word) :
    (s.writeShtStat n off size value).steady = s.steady := by
  simp [State.writeShtStat]

@[simp] theorem execChannelErrClear_steady (n size : Nat) (value : Word) (s : State) :
    steadyAfter (execChannelErrClear n size value s) = some s.steady := by
  simp [execChannelErrClear]

@[simp] theorem writeShadow_steady (s : State) (n off size : Nat) (value : Word) : (s.writeShadow n off size value).steady = s.steady := by
  simp [State.writeShadow]

@[simp] theorem shtArrived_steady (s : State) (n : Nat) (bs : List Byte) : (s.shtArrived n bs).steady = s.steady := by
  fun_cases State.shtArrived s n bs <;> simp +zetaDelta

/-! ### Machine/HostPort.lean -/

@[simp] theorem winLast_steady (s : State) (e off reqid : Nat) (read : Bool) : (s.winLast e off reqid read).steady = s.steady := by
  simp [State.winLast]

@[simp] theorem refuseWrite_steady (s : State) (e off reqid : Nat) : (s.refuseWrite e off reqid).steady = s.steady := by
  simp [State.refuseWrite]

@[simp] theorem poisonLines_steady (s : State) (addr len : Nat) : (s.poisonLines addr len).steady = s.steady := by simp [State.poisonLines]

@[simp] theorem poisonSeen_steady (s : State) (e : Nat) (sev : Severity) : (s.poisonSeen e sev).steady = s.steady := by
  simp [State.poisonSeen]

@[simp] theorem execBar2Write_steady (ep off reqid : Nat) (bytes : List Byte) (poisoned : Bool) (s : State) :
    steadyAfter (execBar2Write ep off reqid bytes poisoned s) = some s.steady := by
  simp only [execBar2Write]
  repeat' split
  all_goals simp

@[simp] theorem execBar2Read_steady (ep off reqid len : Nat) (s : State) :
    steadyAfter (execBar2Read ep off reqid len s) = some s.steady := by
  simp only [execBar2Read]
  repeat' split
  all_goals simp

@[simp] theorem windowRefused_steady (s : State) (off : Nat) (value : Word) : (s.windowRefused off value).steady = s.steady := by
  simp [State.windowRefused]

@[simp] theorem writeWin0_steady (s : State) (w off size : Nat) (value : Word) : (s.writeWin0 w off size value).steady = s.steady := by
  simp [State.writeWin0]

@[simp] theorem writeWin1_steady (s : State) (w off size : Nat) (value : Word) : (s.writeWin1 w off size value).steady = s.steady := by
  simp [State.writeWin1]

@[simp] theorem execWindowWord0Write_steady (w size : Nat) (value : Word) (s : State) :
    steadyAfter (execWindowWord0Write w size value s) = some s.steady := by
  simp [execWindowWord0Write]

@[simp] theorem execWindowWord1Write_steady (w size : Nat) (value : Word) (s : State) :
    steadyAfter (execWindowWord1Write w size value s) = some s.steady := by
  simp [execWindowWord1Write]

@[simp] theorem runInvals_steady (s : State) (a : Nat) : (s.runInvals a).steady = s.steady := by
  fun_induction State.runInvals s a <;> simp_all

@[simp] theorem settleInvals_steady (s : State) : s.settleInvals.steady = s.steady := by simp [State.settleInvals]

@[simp] theorem execAtsInvalidateRequest_steady (ep itag page count : Nat) (s : State) :
    steadyAfter (execAtsInvalidateRequest ep itag page count s) = some s.steady := by
  simp [execAtsInvalidateRequest]

@[simp] theorem dropAts_steady (s : State) (e : Nat) : (s.dropAts e).steady = s.steady := by simp [State.dropAts]

@[simp] theorem execAtsEnableClear_steady (ep : Nat) (value : Bool) (s : State) :
    steadyAfter (execAtsEnableClear ep value s) = some s.steady := by
  simp [execAtsEnableClear]

@[simp] theorem freeTag_steady (s : State) (k : Nat) : (s.freeTag k).steady = s.steady := by simp [State.freeTag]

@[simp] theorem shtRetryAsk_steady (s : State) : s.shtRetryAsk.steady = s.steady := by
  simp only [State.shtRetryAsk]
  refine foldl_steady _ (fun s x => ?_) _ _
  split <;> simp

@[simp] theorem threadHostFails_steady (s : State) (th id outcome : Nat) : (s.threadHostFails th id outcome).steady = s.steady := by
  simp [State.threadHostFails]

@[simp] theorem putHostBlocks_steady (s : State) (th : Nat) (f : Xfer) (bs : List Byte) (marked : List (Nat × Nat)) :
    (s.putHostBlocks th f bs marked).steady = s.steady := by
  simp [State.putHostBlocks]

@[simp] theorem threadHostEnds_steady (s : State) (e th id : Nat) (res : HostResult) :
    (s.threadHostEnds e th id res).steady = s.steady := by
  fun_cases State.threadHostEnds s e th id res <;> simp +zetaDelta

@[simp] theorem shtHostEnds_steady (s : State) (e n : Nat) (res : HostResult) : (s.shtHostEnds e n res).steady = s.steady := by
  unfold State.shtHostEnds
  split <;> simp

@[simp] theorem shtWriteFails_steady (s : State) (n addr : Nat) (m : OutMsg) : (s.shtWriteFails n addr m).steady = s.steady := by
  unfold State.shtWriteFails
  split <;> simp

@[simp] theorem xlatFails_steady (s : State) (rd : Reader) (m : OutMsg) : (s.xlatFails rd m).steady = s.steady := by
  fun_cases State.xlatFails s rd m <;> simp +zetaDelta

@[simp] theorem sendXlated_steady (s : State) (k : Nat) (h : HostTag) (m : OutMsg) : (s.sendXlated k h m).steady = s.steady := by
  fun_cases State.sendXlated s k h m <;> simp +zetaDelta

@[simp] theorem xlatEnds_steady (s : State) (k : Nat) (h : HostTag) (m : OutMsg) (res : HostResult) :
    (s.xlatEnds k h m res).steady = s.steady := by
  simp only [State.xlatEnds]
  split <;> simp

@[simp] theorem lateCompletion_steady (s : State) (e k : Nat) : (s.lateCompletion e k).steady = s.steady := by
  unfold State.lateCompletion
  split <;> simp

@[simp] theorem execHostCompletion_steady (ep t : Nat) (res : HostResult) (s : State) :
    steadyAfter (execHostCompletion ep t res s) = some s.steady := by
  simp only [execHostCompletion]
  repeat' split
  all_goals simp

@[simp] theorem execCompletionTimeout_steady (ep t : Nat) (s : State) : steadyAfter (execCompletionTimeout ep t s) = some s.steady := by
  simp only [execCompletionTimeout]
  repeat' split
  all_goals simp

@[simp] theorem execUnexpectedCompletion_steady (ep t : Nat) (s : State) :
    steadyAfter (execUnexpectedCompletion ep t s) = some s.steady := by
  simp only [execUnexpectedCompletion]
  repeat' split
  all_goals simp

@[simp] theorem execTagReservationExpiry_steady (ep t : Nat) (s : State) :
    steadyAfter (execTagReservationExpiry ep t s) = some s.steady := by
  simp only [execTagReservationExpiry]
  repeat' split
  all_goals simp

@[simp] theorem execMsixTableWrite_steady (ep off size : Nat) (value : Word) (poisoned : Bool) (control : Option (Bool × Bool))
    (s : State) :
    steadyAfter (execMsixTableWrite ep off size value poisoned control s) = some s.steady := by
  simp only [execMsixTableWrite]
  repeat' split
  all_goals simp

@[simp] theorem hostReleased_steady (s : State) (e : Nat) : (s.hostReleased e).steady = s.steady := by simp [State.hostReleased]

@[simp] theorem execDStateChange_steady (ep pmcsr : Nat) (s : State) : steadyAfter (execDStateChange ep pmcsr s) = some s.steady := by
  refine congrArg some ?_
  dsimp only
  repeat' split
  all_goals simp

@[simp] theorem execPmeTurnOff_steady (ep : Nat) (s : State) : steadyAfter (execPmeTurnOff ep s) = some s.steady := by simp [execPmeTurnOff]

@[simp] theorem execBusMasterEnable_steady (ep : Nat) (c : ConfigBits) (s : State) :
    steadyAfter (execBusMasterEnable ep c s) = some s.steady := by
  simp [execBusMasterEnable]

@[simp] theorem execAspmL1Entry_steady (ep : Nat) (s : State) : steadyAfter (execAspmL1Entry ep s) = some s.steady := by
  simp [execAspmL1Entry]

@[simp] theorem clockSync_steady (s : State) (c : Nat) : (s.clockSync c).steady = s.steady := by simp [State.clockSync]
@[simp] theorem resetRegs_steady (s : State) (e : Nat) : (s.resetRegs e).steady = s.steady := by simp [State.resetRegs]
@[simp] theorem endCalls_steady (s : State) (e : Nat) : (s.endCalls e).steady = s.steady := by simp [State.endCalls]
@[simp] theorem silenceThreads_steady (s : State) (e : Nat) : (s.silenceThreads e).steady = s.steady := by simp [State.silenceThreads]
@[simp] theorem resetUnits_steady (s : State) (e : Nat) : (s.resetUnits e).steady = s.steady := by simp [State.resetUnits]

@[simp] theorem resetEndpoint_steady (s : State) (e : Nat) (busy : Bool) : (s.resetEndpoint e busy).steady = s.steady := by
  simp [State.resetEndpoint]

@[simp] theorem execHotReset_steady (ep : Nat) (s : State) : steadyAfter (execHotReset ep s) = some s.steady := by simp [execHotReset]
@[simp] theorem execPerst1Reset_steady (s : State) : steadyAfter (execPerst1Reset s) = some s.steady := by simp [execPerst1Reset]

@[simp] theorem execFunctionLevelReset_steady (ep : Nat) (s : State) : steadyAfter (execFunctionLevelReset ep s) = some s.steady := by
  simp [execFunctionLevelReset]

@[simp] theorem execFlrComplete_steady (ep : Nat) (s : State) : steadyAfter (execFlrComplete ep s) = some s.steady := by
  simp [execFlrComplete]

/-! ### Machine/MapIns.lean -/

@[simp] theorem maplu_steady (s : State) (th : Nat) (i : IWord) : (s.maplu th i).steady = s.steady := by
  grind [State.maplu, checkedEntry_steady, wr_steady, bumpFree_steady]

@[simp] theorem locate_steady (s : State) (th : Nat) (i : IWord) : (s.locate th i).steady = s.steady := by simp [State.locate]
@[simp] theorem execMaplu_steady (th : Nat) (s : State) : steadyAfter (execMaplu th s) = some s.steady := by simp [execMaplu]
@[simp] theorem execMapup_steady (th : Nat) (s : State) : steadyAfter (execMapup th s) = some s.steady := by simp [execMapup]

@[simp] theorem execMaplock_steady (th : Nat) (s : State) : steadyAfter (execMaplock th s) = some s.steady := by
  refine congrArg some (issue_steady _ _ _ _ fun i t => ?_)
  dsimp only
  repeat' split
  all_goals simp

@[simp] theorem execMaplockGrant_steady (th : Nat) (s : State) : steadyAfter (execMaplockGrant th s) = some s.steady := by
  unfold execMaplockGrant
  split <;> simp

@[simp] theorem stripeDone_steady (s : State) (th : Nat) (i : IWord) (outcome : Nat) : (s.stripeDone th i outcome).steady = s.steady := by
  simp [State.stripeDone]

@[simp] theorem stripeRefused_steady (s : State) (th : Nat) (i : IWord) (e : Nat) : (s.stripeRefused th i e).steady = s.steady := by
  simp [State.stripeRefused]

/-- An operation on a couching entry, or the fault that refuses it. -/
@[simp] theorem onEntry_steady (s : State) (th : Nat) (i : IWord) (f : Nat → State) (hf : ∀ e, (f e).steady = s.steady) :
    (s.onEntry th i f).steady = s.steady := by
  simp [State.onEntry, hf]

@[simp] theorem tryOpen_steady (s : State) (th : Nat) (o : AsyncOp) : (s.tryOpen th o).steady = s.steady := by
  fun_cases State.tryOpen s th o <;> simp +zetaDelta

@[simp] theorem execStripeOpen_steady (th : Nat) (s : State) : steadyAfter (execStripeOpen th s) = some s.steady := by
  refine congrArg some (issue_steady _ _ _ _ fun i t => ?_)
  dsimp only
  repeat' split
  all_goals simp

@[simp] theorem tryIpnext_steady (s : State) (th : Nat) (o : AsyncOp) : (s.tryIpnext th o).steady = s.steady := by
  grind [State.tryIpnext, asyncDone_steady, interimSlot_steady, setCentry_steady, setThr_steady]

@[simp] theorem execStripeIpnext_steady (th : Nat) (s : State) : steadyAfter (execStripeIpnext th s) = some s.steady := by
  refine congrArg some ?_
  split
  · rfl
  · refine issue_steady _ _ _ _ fun i t => onEntry_steady _ _ _ _ fun e => ?_
    dsimp only
    split <;> simp

@[simp] theorem execStripeIpset_steady (th : Nat) (s : State) : steadyAfter (execStripeIpset th s) = some s.steady := by
  simp [execStripeIpset]

@[simp] theorem execStripeClosing_steady (th : Nat) (s : State) : steadyAfter (execStripeClosing th s) = some s.steady := by
  simp [execStripeClosing]

@[simp] theorem execStripeClose_steady (th : Nat) (s : State) : steadyAfter (execStripeClose th s) = some s.steady := by
  simp [execStripeClose]

@[simp] theorem execStripeAbandon_steady (th : Nat) (s : State) : steadyAfter (execStripeAbandon th s) = some s.steady := by
  simp [execStripeAbandon]

/-! ### Machine/Events.lean -/

@[simp] theorem endWaitev_steady (s : State) (th d mask : Nat) (limit : Bool) : (s.endWaitev th d mask limit).steady = s.steady := by
  simp [State.endWaitev]

@[simp] theorem wake_steady (s : State) (th : Nat) : (s.wake th).steady = s.steady := by
  unfold State.wake
  split <;> simp

@[simp] theorem execWaitev_steady (th : Nat) (s : State) : steadyAfter (execWaitev th s) = some s.steady := by simp [execWaitev]

@[simp] theorem execWaitevLimitExpiry_steady (th : Nat) (s : State) : steadyAfter (execWaitevLimitExpiry th s) = some s.steady := by
  unfold execWaitevLimitExpiry
  split <;> simp

@[simp] theorem deliver_steady (s : State) (target : Nat) (w : Word) : (s.deliver target w).steady = s.steady := by simp [State.deliver]
@[simp] theorem execSignalSend_steady (th : Nat) (s : State) : steadyAfter (execSignalSend th s) = some s.steady := by simp [execSignalSend]

@[simp] theorem startWork_steady (s : State) (c pattern : Nat) (words : List Word) (starter : Option (Nat × Nat)) :
    (s.startWork c pattern words starter).1.steady = s.steady := by
  unfold State.startWork
  split <;> simp

@[simp] theorem signalCall_steady (s : State) (th : Nat) (i : IWord) (c : Nat) : (s.signalCall th i c).steady = s.steady := by
  grind [State.signalCall, faultAt_steady, async_steady, startWork_steady, setThr_steady]

@[simp] theorem execSignalCall_steady (th : Nat) (s : State) : steadyAfter (execSignalCall th s) = some s.steady := by simp [execSignalCall]

@[simp] theorem execSignalRecv_steady (th : Nat) (s : State) : steadyAfter (execSignalRecv th s) = some s.steady := by
  refine congrArg some (issue_steady _ _ _ _ fun i t => ?_)
  dsimp only
  split <;> simp

@[simp] theorem setFed_steady (s : State) (x : FedState) : (s.setFed x).steady = s.steady := by simp [State.setFed]

@[simp] theorem fedAsk_steady (s : State) (dev th id : Nat) (body : FedBody) : (s.fedAsk dev th id body).steady = s.steady := by
  simp [State.fedAsk]

@[simp] theorem execTimerWait_steady (th : Nat) (s : State) : steadyAfter (execTimerWait th s) = some s.steady := by simp [execTimerWait]
@[simp] theorem execTimerRead_steady (th : Nat) (s : State) : steadyAfter (execTimerRead th s) = some s.steady := by simp [execTimerRead]

/-! ### Machine/Parity.lean -/

@[simp] theorem execGfmac_steady (th : Nat) (s : State) : steadyAfter (execGfmac th s) = some s.steady := by simp [execGfmac]
@[simp] theorem execSyndBind_steady (th : Nat) (s : State) : steadyAfter (execSyndBind th s) = some s.steady := by simp [execSyndBind]

@[simp] theorem execSyndAdd_steady (th : Nat) (s : State) : steadyAfter (execSyndAdd th s) = some s.steady := by
  refine congrArg some (issue_steady _ _ _ _ fun i t => ?_)
  dsimp only
  repeat' split
  all_goals simp

@[simp] theorem execSyndWait_steady (th : Nat) (s : State) : steadyAfter (execSyndWait th s) = some s.steady := by simp [execSyndWait]
@[simp] theorem execSyndUnbind_steady (th : Nat) (s : State) : steadyAfter (execSyndUnbind th s) = some s.steady := by simp [execSyndUnbind]

@[simp] theorem execSolve_steady (th : Nat) (s : State) : steadyAfter (execSolve th s) = some s.steady := by
  refine congrArg some (issue_steady _ _ _ _ fun i t => ?_)
  dsimp only
  repeat' split
  all_goals simp

/-! ### Machine/Completion.lean -/

@[simp] theorem postCalls_steady (s : State) (th status result : Nat) : (s.postCalls th status result).steady = s.steady := by
  simp [State.postCalls]

@[simp] theorem postNone_steady (s : State) (th status : Nat) : (s.postNone th status).steady = s.steady := by
  unfold State.postNone
  split <;> simp

@[simp] theorem execPost_steady (th : Nat) (s : State) : steadyAfter (execPost th s) = some s.steady := by simp [execPost]

@[simp] theorem execPostStallResume_steady (q : Nat) (s : State) : steadyAfter (execPostStallResume q s) = some s.steady := by
  unfold execPostStallResume
  split <;> simp

@[simp] theorem execBatch_steady (th : Nat) (s : State) : steadyAfter (execBatch th s) = some s.steady := by
  refine congrArg some (issue_steady _ _ _ _ fun i t => ?_)
  dsimp only
  repeat' split
  all_goals simp

@[simp] theorem execTrap_steady (th : Nat) (s : State) : steadyAfter (execTrap th s) = some s.steady := by simp [execTrap]
@[simp] theorem haltThread_steady (s : State) (th : Nat) : (s.haltThread th).steady = s.steady := by simp [State.haltThread]
@[simp] theorem execHalt_steady (th : Nat) (s : State) : steadyAfter (execHalt th s) = some s.steady := by simp [execHalt]

@[simp] theorem retireAsync_steady (s : State) (th : Nat) (o : AsyncOp) : (s.retireAsync th o).steady = s.steady := by
  simp only [State.retireAsync]
  split <;> simp

@[simp] theorem tryQueued_steady (s : State) (th : Nat) (o : AsyncOp) (c p : Nat) (words : List Word) :
    (s.tryQueued th o c p words).steady = s.steady := by
  grind [State.tryQueued, retireAsync_steady, startWork_steady, setThr_steady]

@[simp] theorem sendNow_steady (s : State) (th : Nat) (o : AsyncOp) (target : Nat) (w : Word) (pc : Nat) :
    (s.sendNow th o target w pc).steady = s.steady := by
  simp [State.sendNow]

@[simp] theorem execAsyncInstructionComplete_steady (th id : Nat) (s : State) :
    steadyAfter (execAsyncInstructionComplete th id s) = some s.steady := by
  simp only [execAsyncInstructionComplete]
  repeat' split
  all_goals simp

@[simp] theorem execWaitLimitExpiry_steady (th : Nat) (s : State) : steadyAfter (execWaitLimitExpiry th s) = some s.steady := by
  simp only [execWaitLimitExpiry]
  repeat' split
  all_goals simp

@[simp] theorem dropMirrored_steady (s : State) (o : AsyncOp) : (s.dropMirrored o).steady = s.steady := by
  unfold State.dropMirrored
  split <;> simp

@[simp] theorem execBankWaitTimeout_steady (th : Nat) (s : State) : steadyAfter (execBankWaitTimeout th s) = some s.steady := by
  unfold execBankWaitTimeout
  split <;> simp

@[simp] theorem execStoreCommitResume_steady (th : Nat) (s : State) : steadyAfter (execStoreCommitResume th s) = some s.steady := by
  unfold execStoreCommitResume
  split <;> simp

@[simp] theorem execStripeOpenResume_steady (th : Nat) (s : State) : steadyAfter (execStripeOpenResume th s) = some s.steady := by
  unfold execStripeOpenResume
  split <;> simp

/-! ### Machine/Hoop.lean -/

@[simp] theorem setRepl_steady (s : State) (r : Replication) : (s.setRepl r).steady = s.steady := by simp [State.setRepl]

@[simp] theorem execCouchingReplication_steady (s : State) : steadyAfter (execCouchingReplication s) = some s.steady := by
  simp [execCouchingReplication]

@[simp] theorem syncCopies_steady (s : State) : s.syncCopies.steady = s.steady := by simp [State.syncCopies]
@[simp] theorem syncAll_steady (s : State) : s.syncAll.steady = s.steady := by simp [State.syncAll]

@[simp] theorem execCopyRecordAck_steady (sled rseq : Nat) (s : State) : steadyAfter (execCopyRecordAck sled rseq s) = some s.steady := by
  simp [execCopyRecordAck]

@[simp] theorem resyncDue_steady (s : State) : s.resyncDue.steady = s.steady := by simp [State.resyncDue]
@[simp] theorem syncRuns_steady (s : State) : s.syncRuns.steady = s.steady := by simp [State.syncRuns]

@[simp] theorem resyncNext_steady (s : State) (rest : List Nat) (total : Nat) : (s.resyncNext rest total).steady = s.steady := by
  simp [State.resyncNext]

/-! ### Machine/Members.lean -/

@[simp] theorem setDlog_steady (s : State) (l : DeltaLog) : (s.setDlog l).steady = s.steady := by simp [State.setDlog]

@[simp] theorem writeCkptStripe_steady (s : State) (a b st : Nat) (words : List Info) :
    (s.writeCkptStripe a b st words).steady = s.steady := by
  simp only [State.writeCkptStripe]
  refine foldl_steady _ (fun s x => ?_) _ _
  split <;> simp

@[simp] theorem ckptBand_steady (s : State) (a c m : Nat) : (s.ckptBand a c m).1.steady = s.steady := by
  fun_cases State.ckptBand s a c m <;> simp

@[simp] theorem writeSegment_steady (s : State) (seg : Nat) : (s.writeSegment seg).steady = s.steady := by
  fun_cases State.writeSegment s seg
  case case1 => rfl
  case case2 hband => exact steady_of_fst hband (ckptBand_steady ..)
  case case3 hband _ _ _ _ => simp +zetaDelta [steady_of_fst hband (ckptBand_steady ..)]

@[simp] theorem sendDirectory_steady (s : State) : s.sendDirectory.steady = s.steady := by simp [State.sendDirectory]
@[simp] theorem stepEpoch_steady (s : State) : s.stepEpoch.steady = s.steady := by simp [State.stepEpoch]
@[simp] theorem cleanLines_steady (s : State) : s.cleanLines.steady = s.steady := by simp [State.cleanLines]
@[simp] theorem startEpoch_steady (s : State) (extra : List Nat) : (s.startEpoch extra).steady = s.steady := by simp [State.startEpoch]

@[simp] theorem ckptAcked_steady (s : State) (a b : Nat) (ok onBlock : Bool) : (s.ckptAcked a b ok onBlock).steady = s.steady := by
  simp [State.ckptAcked]

@[simp] theorem takeLogBlocks_steady (s : State) (n : Nat) : (s.takeLogBlocks n).steady = s.steady := by
  simp only [State.takeLogBlocks]
  refine foldl_steady _ (fun s x => ?_) _ _
  split <;> simp

@[simp] theorem joinCopy_steady (s : State) (n : Nat) : (s.joinCopy n).steady = s.steady := by
  simp only [State.joinCopy, setRepl_steady, send_steady, steady_update, foldl_steady, takeLogBlocks_steady, implies_true]

@[simp] theorem chooseCopiesBut_steady (s : State) (bar : List Nat) : (s.chooseCopiesBut bar).steady = s.steady := by
  simp [State.chooseCopiesBut]

@[simp] theorem chooseCopies_steady (s : State) : s.chooseCopies.steady = s.steady := by simp [State.chooseCopies]

@[simp] theorem rerouteReads_steady (s : State) (n : Nat) : (s.rerouteReads n).steady = s.steady := by
  refine (foldl_steady _ (fun t c => ?_) _ _).trans (by simp)
  split <;> simp

@[simp] theorem commandLost_steady (s : State) (c : SledCmd) : (s.commandLost c).steady = s.steady := by
  fun_cases State.commandLost s c <;> simp

@[simp] theorem resetSled_steady (s : State) (n : Nat) : (s.resetSled n).steady = s.steady := by simp [State.resetSled]
@[simp] theorem abandonOn_steady (s : State) (n : Nat) : (s.abandonOn n).steady = s.steady := by simp [State.abandonOn]
@[simp] theorem showFailed_steady (s : State) (n : Nat) : (s.showFailed n).steady = s.steady := by simp [State.showFailed]

@[simp] theorem declareFailed_steady (s : State) (n cause : Nat) : (s.declareFailed n cause).steady = s.steady := by
  simp [State.declareFailed]

@[simp] theorem countTimeout_steady (s : State) (n : Nat) (underLoss : Bool) : (s.countTimeout n underLoss).steady = s.steady := by
  simp [State.countTimeout]

@[simp] theorem fatalReport_steady (s : State) (n : Nat) : (s.fatalReport n).steady = s.steady := by simp [State.fatalReport]
@[simp] theorem startJudging_steady (s : State) : s.startJudging.steady = s.steady := by simp [State.startJudging]
@[simp] theorem countMissing_steady (s : State) : s.countMissing.steady = s.steady := by simp [State.countMissing]
@[simp] theorem restartEpoch_steady (s : State) : s.restartEpoch.steady = s.steady := by simp [State.restartEpoch]

/-! ### Machine/Purge.lean -/

@[simp] theorem clearRange_steady (s : State) (a : Nat) : (s.clearRange a).steady = s.steady := by simp [State.clearRange]

@[simp] theorem endReads_steady (s : State) (a : Nat) : (s.endReads a).steady = s.steady := by
  simp only [State.endReads]
  refine foldl_steady _ (fun s x => ?_) _ _
  split <;> simp

@[simp] theorem endCommits_steady (s : State) (a : Nat) : (s.endCommits a).steady = s.steady := by simp [State.endCommits]
@[simp] theorem purgeArray_steady (s : State) (a : Nat) : (s.purgeArray a).steady = s.steady := by simp [State.purgeArray]

/-! ### Machine/ModeOps.lean -/

@[simp] theorem beginMove_steady (s : State) (tgt : Mode) (cause : Nat) (drain : Bool) :
    (s.beginMove tgt cause drain).steady = s.steady := by
  simp [State.beginMove]

@[simp] theorem enterMode_steady (s : State) (m : Mode) : (s.enterMode m).steady = s.steady := by simp [State.enterMode]

@[simp] theorem writeClk_steady (s : State) (c off size : Nat) (value : Word) : (s.writeClk c off size value).steady = s.steady := by
  simp [State.writeClk]

@[simp] theorem execSeClkWrite_steady (c size : Nat) (value : Word) (s : State) :
    steadyAfter (execSeClkWrite c size value s) = some s.steady := by
  simp [execSeClkWrite]

@[simp] theorem execClockStepComplete_steady (c : Nat) (s : State) : steadyAfter (execClockStepComplete c s) = some s.steady := by
  simp [execClockStepComplete]

@[simp] theorem setCaps_steady (s : State) (f : Nat → Nat) : (s.setCaps f).steady = s.steady := by simp [State.setCaps]
@[simp] theorem ledger_steady (s : State) (step event unit : Nat) : (s.ledger step event unit).steady = s.steady := by simp [State.ledger]
@[simp] theorem syncBank_steady (s : State) : s.syncBank.steady = s.steady := by simp [State.syncBank]
@[simp] theorem recompute_steady (s : State) (dv : Nat) : (s.recompute dv).steady = s.steady := by simp [State.recompute]

/-! ### Machine/Power.lean -/

@[simp] theorem beginFlush_steady (s : State) (src : Nat) : (s.beginFlush src).steady = s.steady := by simp [State.beginFlush]

@[simp] theorem enterFlush_steady (s : State) (src : Nat) : (s.enterFlush src).steady = s.steady := by
  simp only [State.enterFlush]
  split <;> simp

@[simp] theorem powerLost_steady (s : State) : s.powerLost.steady = s.steady := by simp [State.powerLost]

@[simp] theorem execPowerFailDetection_steady (src : Nat) (s : State) : steadyAfter (execPowerFailDetection src s) = some s.steady := by
  simp only [execPowerFailDetection]
  repeat' split
  all_goals simp

@[simp] theorem saveHealth_steady (s : State) : s.saveHealth.steady = s.steady := by simp [State.saveHealth]

@[simp] theorem execFlushCommit_steady (vend : Nat) (s : State) : steadyAfter (execFlushCommit vend s) = some s.steady := by
  unfold execFlushCommit
  split <;> simp

@[simp] theorem execBankRundown_steady (s : State) : steadyAfter (execBankRundown s) = some s.steady := by
  refine congrArg some ?_
  dsimp only
  repeat' split
  all_goals simp only [powerLost_steady, steady_update, setF_steady]

@[simp] theorem askTest_steady (s : State) : s.askTest.steady = s.steady := by simp [State.askTest]
@[simp] theorem endTest_steady (s : State) : s.endTest.steady = s.steady := by simp [State.endTest]

@[simp] theorem writeHuCtl_steady (s : State) (off size : Nat) (value : Word) : (s.writeHuCtl off size value).steady = s.steady := by
  simp [State.writeHuCtl]

@[simp] theorem execHuTestRequest_steady (size : Nat) (value : Word) (s : State) :
    steadyAfter (execHuTestRequest size value s) = some s.steady := by
  simp [execHuTestRequest]

@[simp] theorem execCapTestTimer_steady (s : State) : steadyAfter (execCapTestTimer s) = some s.steady := by simp [execCapTestTimer]
@[simp] theorem execCapTestStart_steady (s : State) : steadyAfter (execCapTestStart s) = some s.steady := by simp [execCapTestStart]

@[simp] theorem execCapTestComplete_steady (c : Nat) (s : State) : steadyAfter (execCapTestComplete c s) = some s.steady := by
  simp only [execCapTestComplete]
  repeat' split
  all_goals simp

@[simp] theorem execVchgWrite_steady (size : Nat) (value : Word) (s : State) :
    steadyAfter (execVchgWrite size value s) = some s.steady := by
  simp [execVchgWrite]

@[simp] theorem execBankReachesVchg_steady (s : State) : steadyAfter (execBankReachesVchg s) = some s.steady := by
  simp [execBankReachesVchg]

@[simp] theorem execChargerFault_steady (present : Bool) (s : State) : steadyAfter (execChargerFault present s) = some s.steady := by
  simp [execChargerFault]

@[simp] theorem execVaultImageConsumed_steady (s : State) : steadyAfter (execVaultImageConsumed s) = some s.steady := by
  unfold execVaultImageConsumed
  split <;> simp

@[simp] theorem execVaultEraseSufficient_steady (s : State) : steadyAfter (execVaultEraseSufficient s) = some s.steady := by
  simp [execVaultEraseSufficient]

@[simp] theorem throttle_steady (s : State) (new sensor : Nat) : (s.throttle new sensor).steady = s.steady := by simp [State.throttle]
@[simp] theorem caseReads_steady (s : State) (t : Nat) : (s.caseReads t).steady = s.steady := by simp [State.caseReads]

@[simp] theorem pollStores_steady (s : State) (temps : List Nat) (vin iin vbank : Nat) (pfail : Bool) :
    (s.pollStores temps vin iin vbank pfail).steady = s.steady := by
  simp [State.pollStores]

@[simp] theorem pollActs_steady (s : State) : s.pollActs.steady = s.steady := by
  simp only [State.pollActs]
  split <;> simp

@[simp] theorem execSensorPoll_steady (temps : List Nat) (vin iin vbank : Nat) (pfail : Bool) (s : State) :
    steadyAfter (execSensorPoll temps vin iin vbank pfail s) = some s.steady := by
  simp [execSensorPoll]

@[simp] theorem execThrottleStepTimer_steady (s : State) : steadyAfter (execThrottleStepTimer s) = some s.steady := by
  simp [execThrottleStepTimer]

@[simp] theorem execThermalTrip_steady (i : Nat) (s : State) : steadyAfter (execThermalTrip i s) = some s.steady := by
  unfold execThermalTrip
  split <;> simp

@[simp] theorem execThermalPowerRemoval_steady (i : Nat) (s : State) : steadyAfter (execThermalPowerRemoval i s) = some s.steady := by
  refine congrArg some ?_
  dsimp only
  repeat' split
  all_goals simp only [powerLost_steady, logAon_steady, steady_update, setF_steady]

/-! ### Machine/PairOps.lean -/

/-- PAIR_STAT's event changes no more than the update it follows. -/
@[simp] theorem pairStat_steady (s : State) (f : State → State) (hf : (f s).steady = s.steady) : (s.pairStat f).steady = s.steady := by
  simp [State.pairStat, hf]

@[simp] theorem setClaim_steady (s : State) (c : Nat) : (s.setClaim c).steady = s.steady := by simp [State.setClaim]
@[simp] theorem claimSled_steady (s : State) (n : Nat) : (s.claimSled n).steady = s.steady := by simp [State.claimSled]
@[simp] theorem claimAll_steady (s : State) : s.claimAll.steady = s.steady := by simp [State.claimAll]

@[simp] theorem sendWit_steady (s : State) (wcode : Nat) (body : List Byte) : (s.sendWit wcode body).steady = s.steady := by
  simp [State.sendWit]

@[simp] theorem sendHello_steady (s : State) : s.sendHello.steady = s.steady := by
  unfold State.sendHello
  split <;> simp

@[simp] theorem fromWitness_steady (s : State) : s.fromWitness.steady = s.steady := by simp [State.fromWitness]

@[simp] theorem releaseEmits_steady (s : State) : s.releaseEmits.steady = s.steady := by
  refine (foldl_steady _ (fun t e => foldl_steady _ (fun u o => ?_) _ _) _ _).trans (releaseHeld_steady s)
  split <;> simp

@[simp] theorem syncDurable_steady (s : State) : s.syncDurable.steady = s.steady := by simp [State.syncDurable]
@[simp] theorem setMirroring_steady (s : State) (b : Bool) : (s.setMirroring b).steady = s.steady := by simp [State.setMirroring]
@[simp] theorem regatherLoose_steady (s : State) : s.regatherLoose.steady = s.steady := by simp [State.regatherLoose]
@[simp] theorem syncHoop_steady (s : State) : s.syncHoop.steady = s.steady := by simp [State.syncHoop]
@[simp] theorem declarePeerLost_steady (s : State) : s.declarePeerLost.steady = s.steady := by simp [State.declarePeerLost]
@[simp] theorem lapseCommits_steady (s : State) : s.lapseCommits.steady = s.steady := by simp [State.lapseCommits]
@[simp] theorem loseLease_steady (s : State) : s.loseLease.steady = s.steady := by simp [State.loseLease]

@[simp] theorem logWithheld_steady (s : State) (r : Nat) (tags : List Nat) : (s.logWithheld r tags).steady = s.steady := by
  simp [State.logWithheld]

@[simp] theorem withholdRing_steady (s : State) (r : Nat) : (s.withholdRing r).steady = s.steady := by simp [State.withholdRing]
@[simp] theorem withholdHeld_steady (s : State) (q : Nat) : (s.withholdHeld q).steady = s.steady := by simp [State.withholdHeld]
@[simp] theorem withhold_steady (s : State) : s.withhold.steady = s.steady := by simp [State.withhold]
@[simp] theorem dropMedia_steady (s : State) : s.dropMedia.steady = s.steady := by simp [State.dropMedia]

/-! ### Machine/Links.lean -/

@[simp] theorem protoError_steady (s : State) (p type : Nat) : (s.protoError p type).steady = s.steady := by simp [State.protoError]
@[simp] theorem takeAck_steady (s : State) (link : Nat) (f : Frame) : (s.takeAck link f).steady = s.steady := by simp [State.takeAck]

@[simp] theorem execFrameReceive_steady (link : Nat) (f : Frame) (s : State) : steadyAfter (execFrameReceive link f s) = some s.steady := by
  simp [execFrameReceive]

@[simp] theorem execCredit_steady (link ctrl bulk : Nat) (hcrcOk : Bool) (s : State) :
    steadyAfter (execCredit link ctrl bulk hcrcOk s) = some s.steady := by
  simp [execCredit]

@[simp] theorem hopLost_steady (s : State) (p h : Nat) : (s.hopLost p h).steady = s.steady := by
  simp only [State.hopLost]
  repeat' split
  all_goals simp

@[simp] theorem hopsLost_steady (s : State) (p h : Nat) : (s.hopsLost p h).steady = s.steady := by simp [State.hopsLost]
@[simp] theorem retrain_steady (s : State) (p : Nat) : (s.retrain p).steady = s.steady := by simp [State.retrain]

@[simp] theorem pairPortUp_steady (s : State) (link : Nat) (up : Bool) : (s.pairPortUp link up).steady = s.steady := by
  simp [State.pairPortUp]

@[simp] theorem execBobbinLinkDown_steady (link hop : Nat) (signal : Bool) (s : State) :
    steadyAfter (execBobbinLinkDown link hop signal s) = some s.steady := by
  simp [execBobbinLinkDown]

@[simp] theorem learnPeer_steady (s : State) (serial : Nat) : (s.learnPeer serial).steady = s.steady := by simp [State.learnPeer]

@[simp] theorem linkTrained_steady (s : State) (link hop ack ctrl bulk serial : Nat) :
    (s.linkTrained link hop ack ctrl bulk serial).steady = s.steady := by
  simp [State.linkTrained]

@[simp] theorem execLinkTrained_steady (link hop ack ctrl bulk serial : Nat) (s : State) :
    steadyAfter (execLinkTrained link hop ack ctrl bulk serial s) = some s.steady := by
  simp [execLinkTrained]

@[simp] theorem powerOff_steady (s : State) (p h state : Nat) : (s.powerOff p h state).steady = s.steady := by simp [State.powerOff]
@[simp] theorem portOff_steady (s : State) (p state : Nat) : (s.portOff p state).steady = s.steady := by simp [State.portOff]

@[simp] theorem writeBpCtl_steady (s : State) (p off size : Nat) (value : Word) : (s.writeBpCtl p off size value).steady = s.steady := by
  simp [State.writeBpCtl]

@[simp] theorem execRetrain_steady (p : Nat) (s : State) : steadyAfter (execRetrain p s) = some s.steady := by simp [execRetrain]

@[simp] theorem execPortEnWrite_steady (p size : Nat) (value : Word) (s : State) :
    steadyAfter (execPortEnWrite p size value s) = some s.steady := by
  simp [execPortEnWrite]

/-! ### Machine/DevReads.lean -/

@[simp] theorem setVictim_steady (s : State) (a c b : Nat) : (s.setVictim a c b).steady = s.steady := by simp [State.setVictim]
@[simp] theorem beginRead_steady (s : State) (r : StripeRead) : (s.beginRead r).steady = s.steady := by simp [State.beginRead]

@[simp] theorem startRead_steady (s : State) (goal : ReadGoal) (a b st : Nat) (want : List (Nat × List Nat)) :
    (s.startRead goal a b st want).steady = s.steady := by
  unfold State.startRead
  split <;> simp

@[simp] theorem readStripe_steady (s : State) (goal : ReadGoal) (a b st : Nat) : (s.readStripe goal a b st).steady = s.steady := by
  simp [State.readStripe]

@[simp] theorem noteLoss_steady (s : State) (d : DevRead) : (s.noteLoss d).steady = s.steady := by
  unfold State.noteLoss
  split <;> simp

@[simp] theorem copyGrain_steady (s : State) (a source g pga : Nat) (words : List (Option WordRead)) :
    (s.copyGrain a source g pga words).steady = s.steady := by
  simp [State.copyGrain]

@[simp] theorem copyStripe_steady (s : State) (d : DevRead) (source : Nat) : (s.copyStripe d source).steady = s.steady := by
  simp only [State.copyStripe]
  refine foldl_steady _ (fun s x => ?_) _ _
  split <;> simp

@[simp] theorem padCopies_steady (s : State) (a source : Nat) : (s.padCopies a source).steady = s.steady := by simp [State.padCopies]

@[simp] theorem nextGc_steady (s : State) (a c b st : Nat) : (s.nextGc a c b st).steady = s.steady := by
  fun_cases State.nextGc s a c b st <;> simp

@[simp] theorem nextReshape_steady (s : State) (a c b st : Nat) : (s.nextReshape a c b st).steady = s.steady := by
  fun_cases State.nextReshape s a c b st <;> simp

@[simp] theorem scrubbed_steady (s : State) (d : DevRead) : (s.scrubbed d).steady = s.steady := by simp [State.scrubbed]

@[simp] theorem resyncDelta_steady (s : State) (a source g pga vseq : Nat) (poisoned : Bool) :
    (s.resyncDelta a source g pga vseq poisoned).steady = s.steady := by
  simp [State.resyncDelta]

@[simp] theorem resynced_steady (s : State) (d : DevRead) (e eseq : Nat) : (s.resynced d e eseq).steady = s.steady := by
  fun_cases State.resynced s d e eseq
  case case1 => rfl
  case case2 =>
    rw [closeStripe_steady]
    refine foldl_steady _ (fun t k => ?_) _ _
    dsimp only
    split <;> simp

@[simp] theorem regionStep_steady (s : State) : s.regionStep.steady = s.steady := by fun_cases State.regionStep s <;> simp

@[simp] theorem enterFilled_steady (s : State) (v : Version) (fill : List (Nat × Info)) : (s.enterFilled v fill).steady = s.steady := by
  simp only [State.enterFilled]
  split <;> simp

@[simp] theorem filled_steady (s : State) (d : DevRead) (g seq pga : Nat) : (s.filled d g seq pga).steady = s.steady := by
  unfold State.filled
  split <;> simp

@[simp] theorem readFill_steady (s : State) (v : Version) (l : List Nat) : (s.readFill v l).steady = s.steady := by simp [State.readFill]

@[simp] theorem releaseJobs_steady (s : State) (a b st : Nat) : (s.releaseJobs a b st).steady = s.steady := by
  simp only [State.releaseJobs]
  refine foldl_steady _ (fun s x => ?_) _ _
  split <;> simp

@[simp] theorem recount_steady (s : State) : s.recount.steady = s.steady := by simp [State.recount]

@[simp] theorem finishLoad_steady (s : State) : s.finishLoad.steady = s.steady := by
  unfold State.finishLoad
  split <;> simp

@[simp] theorem beginLoad_steady (s : State) : s.beginLoad.steady = s.steady := by simp [State.beginLoad]

@[simp] theorem segmentRead_steady (s : State) (d : DevRead) (seg part : Nat) : (s.segmentRead d seg part).steady = s.steady := by
  unfold State.segmentRead
  split <;> simp

@[simp] theorem finishRead_steady (s : State) (d : DevRead) : (s.finishRead d).steady = s.steady := by
  unfold State.finishRead
  split <;> simp

@[simp] theorem examineHeld_steady (s : State) : s.examineHeld.steady = s.steady := by simp [State.examineHeld]

@[simp] theorem settleDev_steady (s : State) (a : Nat) : (s.settleDev a).steady = s.steady := by
  fun_induction State.settleDev s a <;> simp [*]

@[simp] theorem runReads_steady (s : State) : s.runReads.steady = s.steady := by simp [State.runReads]

/-! ### Machine/Relocate.lean -/

@[simp] theorem execGrainAgeExpiry_steady (a g : Nat) (_fill : Unit) (s : State) :
    steadyAfter (execGrainAgeExpiry a g _fill s) = some s.steady := by
  simp only [execGrainAgeExpiry]
  repeat' split
  all_goals simp

@[simp] theorem resyncEntry_steady (s : State) (e : Nat) : (s.resyncEntry e).steady = s.steady := by simp [State.resyncEntry]
@[simp] theorem checkBands_steady (s : State) (r : Nat) : (s.checkBands r).steady = s.steady := by simp [State.checkBands]

@[simp] theorem execResyncRegion_steady (_found _lost : Unit) (s : State) :
    steadyAfter (execResyncRegion _found _lost s) = some s.steady := by
  simp only [execResyncRegion]
  repeat' split
  all_goals simp

@[simp] theorem execCheckpointEpochTimer_steady (s : State) : steadyAfter (execCheckpointEpochTimer s) = some s.steady := by
  simp [execCheckpointEpochTimer]

@[simp] theorem execCheckpointEpochCommit_steady (s : State) : steadyAfter (execCheckpointEpochCommit s) = some s.steady := by
  simp [execCheckpointEpochCommit]

@[simp] theorem execGcVictimSelect_steady (a c : Nat) (_units _lost : Unit) (s : State) :
    steadyAfter (execGcVictimSelect a c _units _lost s) = some s.steady := by
  simp only [execGcVictimSelect]
  repeat' split
  all_goals simp

@[simp] theorem issueErases_steady (s : State) (a b : Nat) : (s.issueErases a b).steady = s.steady := by simp [State.issueErases]

@[simp] theorem execBandEraseStart_steady (a b : Nat) (s : State) : steadyAfter (execBandEraseStart a b s) = some s.steady := by
  simp [execBandEraseStart]

@[simp] theorem execRateInterval_steady (s : State) : steadyAfter (execRateInterval s) = some s.steady := by simp [execRateInterval]

@[simp] theorem execRebuildStripe_steady (a c : Nat) (_units _lost : Unit) (s : State) :
    steadyAfter (execRebuildStripe a c _units _lost s) = some s.steady := by
  simp only [execRebuildStripe]
  repeat' split
  all_goals simp

@[simp] theorem execLostUnitScan_steady (a pga : Nat) (_vseq : Unit) (s : State) :
    steadyAfter (execLostUnitScan a pga _vseq s) = some s.steady := by
  simp only [execLostUnitScan]
  repeat' split
  all_goals simp

@[simp] theorem syncReshape_steady (s : State) (a : Nat) : (s.syncReshape a).steady = s.steady := by simp [State.syncReshape]
@[simp] theorem closeRetiring_steady (s : State) (a c : Nat) : (s.closeRetiring a c).steady = s.steady := by simp [State.closeRetiring]

@[simp] theorem execReshapeRelocateBand_steady (a c : Nat) (_units _lost : Unit) (s : State) :
    steadyAfter (execReshapeRelocateBand a c _units _lost s) = some s.steady := by
  simp only [execReshapeRelocateBand]
  repeat' split
  all_goals simp

@[simp] theorem settleArrays_steady (s : State) : s.settleArrays.steady = s.steady := by simp [State.settleArrays]

@[simp] theorem execScrubStripe_steady (a : Nat) (_bad _units _lost : Unit) (s : State) :
    steadyAfter (execScrubStripe a _bad _units _lost s) = some s.steady := by
  simp only [execScrubStripe]
  repeat' split
  all_goals simp

/-! ### Machine/Sleds.lean -/

@[simp] theorem staleClaim_steady (s : State) : s.staleClaim.steady = s.steady := by simp [State.staleClaim]

@[simp] theorem hopSend_steady (s : State) (p h step : Nat) (kind : SledKind) (array : Nat) (scope : Bool) :
    (s.hopSend p h step kind array scope).steady = s.steady := by
  simp [State.hopSend]

@[simp] theorem identified_steady (s : State) (p h : Nat) (l : List Byte) : (s.identified p h l).steady = s.steady := by
  simp [State.identified]

@[simp] theorem setupDone_steady (s : State) (p h : Nat) : (s.setupDone p h).steady = s.steady := by simp [State.setupDone]
@[simp] theorem seatSled_steady (s : State) (p h n : Nat) : (s.seatSled p h n).steady = s.steady := by simp [State.seatSled]
@[simp] theorem seatNew_steady (s : State) (p h : Nat) : (s.seatNew p h).steady = s.steady := by simp [State.seatNew]

@[simp] theorem recordRead_steady (s : State) (p h : Nat) (ok : Bool) : (s.recordRead p h ok).steady = s.steady := by
  simp only [State.recordRead]
  split <;> simp

@[simp] theorem statusBlock_steady (s : State) (p h : Nat) (l : List Byte) : (s.statusBlock p h l).steady = s.steady := by
  fun_cases State.statusBlock s p h l
  all_goals simp +zetaDelta
  all_goals split <;> simp

@[simp] theorem execEnumerateHop_steady (p h : Nat) (s : State) : steadyAfter (execEnumerateHop p h s) = some s.steady := by
  simp [execEnumerateHop]

@[simp] theorem execSetTimeTimer_steady (s : State) : steadyAfter (execSetTimeTimer s) = some s.steady := by
  refine congrArg some ?_
  dsimp only
  split
  · rfl
  · rw [steady_update _ _ rfl rfl rfl]
    refine foldl_steady _ (fun t k => ?_) _ _
    split <;> simp

@[simp] theorem execInitStatusPoll_steady (p h : Nat) (s : State) : steadyAfter (execInitStatusPoll p h s) = some s.steady := by
  simp [execInitStatusPoll]

@[simp] theorem execSledInitTimeout_steady (p h : Nat) (s : State) : steadyAfter (execSledInitTimeout p h s) = some s.steady := by
  simp only [execSledInitTimeout]
  split <;> simp

@[simp] theorem hopRefuse_steady (s : State) (p h value : Nat) : (s.hopRefuse p h value).steady = s.steady := by simp [State.hopRefuse]

@[simp] theorem enrolHop_steady (s : State) (p h : Nat) : (s.enrolHop p h).steady = s.steady := by
  unfold State.enrolHop
  split <;> simp

@[simp] theorem enrolFailed_steady (s : State) (p h status : Nat) : (s.enrolFailed p h status).steady = s.steady := by
  simp [State.enrolFailed]

@[simp] theorem enrolWords_steady (s : State) (n blocks : Nat) (wear bad : List Byte) :
    (s.enrolWords n blocks wear bad).steady = s.steady := by
  simp [State.enrolWords]

@[simp] theorem startHealth_steady (s : State) (n bad : Nat) : (s.startHealth n bad).steady = s.steady := by simp [State.startHealth]

@[simp] theorem enrolNext_steady (s : State) (p h : Nat) : (s.enrolNext p h).steady = s.steady := by
  simp only [State.enrolNext]
  split <;> simp

@[simp] theorem disenrolHop_steady (s : State) (p h : Nat) : (s.disenrolHop p h).steady = s.steady := by
  fun_cases State.disenrolHop s p h
  case case3 n _ _ s1 s2 =>
    rw [syncAll_steady, chooseCopies_steady, setHop_steady, setF_steady, setF_steady, mirror_steady, setSled_steady]
    dsimp only [s1]
    rw [steady_ite, sendHop_steady, ite_self]
  all_goals simp

@[simp] theorem writeHopCmd_steady (s : State) (p h size : Nat) (value : Word) : (s.writeHopCmd p h size value).steady = s.steady := by
  refine command_steady _ _ _ _ _ _ fun v => ?_
  split <;> simp

@[simp] theorem execEnrol_steady (p h : Nat) (s : State) : steadyAfter (execEnrol p h s) = some s.steady := by simp [execEnrol]
@[simp] theorem execDisenrol_steady (p h : Nat) (s : State) : steadyAfter (execDisenrol p h s) = some s.steady := by simp [execDisenrol]

@[simp] theorem logData_steady (s : State) (p : Nat) (c : SledCmd) (bs : List Byte) : (s.logData p c bs).steady = s.steady := by
  fun_cases State.logData s p c bs <;> simp

@[simp] theorem execRdata_steady (p tag hop seg : Nat) (d : ReadData) (hcrcOk : Bool) (s : State) :
    steadyAfter (execRdata p tag hop seg d hcrcOk s) = some s.steady := by
  simp only [execRdata]
  repeat' split
  all_goals simp

@[simp] theorem sledNotReady_steady (s : State) (n : Nat) : (s.sledNotReady n).steady = s.steady := by simp [State.sledNotReady]
@[simp] theorem sledAnswered_steady (s : State) (n : Nat) : (s.sledAnswered n).steady = s.steady := by simp [State.sledAnswered]

@[simp] theorem holdCommand_steady (s : State) (p : Nat) (c : SledCmd) : (s.holdCommand p c).steady = s.steady := by
  simp [State.holdCommand]

@[simp] theorem readEnded_steady (s : State) (c : SledCmd) (j col : Nat) : (s.readEnded c j col).steady = s.steady := by
  fun_cases State.readEnded s c j col <;> simp

@[simp] theorem eraseEnded_steady (s : State) (a b : Nat) : (s.eraseEnded a b).steady = s.steady := by simp [State.eraseEnded]

@[simp] theorem blockErased_steady (s : State) (a b n blk : Nat) (slc : Bool) : (s.blockErased a b n blk slc).steady = s.steady := by
  simp [State.blockErased]

@[simp] theorem retarget_steady (s : State) (n old new : Nat) : (s.retarget n old new).steady = s.steady := by simp [State.retarget]

@[simp] theorem dropPrograms_steady (s : State) (n old : Nat) : (s.dropPrograms n old).steady = s.steady := by
  simp only [State.dropPrograms]
  refine foldl_steady _ (fun s x => ?_) _ _
  split <;> simp

@[simp] theorem eraseFailed_steady (s : State) (a b n blk : Nat) (slc : Bool) : (s.eraseFailed a b n blk slc).steady = s.steady := by
  fun_cases State.eraseFailed s a b n blk slc <;> simp +zetaDelta

@[simp] theorem programEnded_steady (s : State) (th id e col : Nat) (interim : Bool) (status : Nat) :
    (s.programEnded th id e col interim status).steady = s.steady := by
  simp [State.programEnded]

@[simp] theorem configEnded_steady (s : State) (p : Nat) (c : SledCmd) (what status : Nat) :
    (s.configEnded p c what status).steady = s.steady := by
  fun_cases State.configEnded s p c what status <;> simp

@[simp] theorem hopEnded_steady (s : State) (p : Nat) (c : SledCmd) (step status : Nat) (body : List Byte) :
    (s.hopEnded p c step status body).steady = s.steady := by
  simp [State.hopEnded]

/-- A sled's response: what it says of the sled, then what its command was for. -/
@[simp] theorem settleRsp_steady (s : State) (p : Nat) (c : SledCmd) (status : Nat) (body : List Byte) :
    (s.settleRsp p c status body).steady = s.steady := by
  unfold State.settleRsp
  extract_lets media s0
  have h0 : s0.steady = s.steady := by
    dsimp only [s0]
    split <;> simp
  clear_value s0 media
  split
  all_goals simp +zetaDelta [h0]
  all_goals split <;> simp [h0]

@[simp] theorem execRsp_steady (p tag hop status : Nat) (body : List Byte) (hcrcOk : Bool) (s : State) :
    steadyAfter (execRsp p tag hop status body hcrcOk s) = some s.steady := by
  simp only [execRsp]
  repeat' split
  all_goals simp

@[simp] theorem execAlert_steady (p hop : Nat) (body : List Byte) (hcrcOk : Bool) (s : State) :
    steadyAfter (execAlert p hop body hcrcOk s) = some s.steady := by
  simp [execAlert]

@[simp] theorem reserveTag_steady (s : State) (k : Nat) (c : SledCmd) : (s.reserveTag k c).steady = s.steady := by simp [State.reserveTag]
@[simp] theorem reissue_steady (s : State) (p : Nat) (c : SledCmd) : (s.reissue p c).steady = s.steady := by simp [State.reissue]

@[simp] theorem notAnswering_steady (s : State) (p : Nat) (c : SledCmd) : (s.notAnswering p c).steady = s.steady := by
  simp only [State.notAnswering]
  repeat' split
  all_goals simp

@[simp] theorem commandTimeout_steady (s : State) (p k : Nat) (c : SledCmd) : (s.commandTimeout p k c).steady = s.steady := by
  simp only [State.commandTimeout]
  repeat' split
  all_goals simp

@[simp] theorem execMemberReadTimeout_steady (p tag : Nat) (s : State) : steadyAfter (execMemberReadTimeout p tag s) = some s.steady := by
  simp only [execMemberReadTimeout]
  repeat' split
  all_goals simp

@[simp] theorem execCommandTimeout_steady (p tag : Nat) (s : State) : steadyAfter (execCommandTimeout p tag s) = some s.steady := by
  simp only [execCommandTimeout]
  repeat' split
  all_goals simp

@[simp] theorem execNotReadyRetry_steady (p : Nat) (s : State) : steadyAfter (execNotReadyRetry p s) = some s.steady := by
  simp [execNotReadyRetry]

@[simp] theorem execLinkLossDeclare_steady (n : Nat) (s : State) : steadyAfter (execLinkLossDeclare n s) = some s.steady := by
  unfold execLinkLossDeclare
  split <;> simp

/-! ### Machine/Bay.lean -/

@[simp] theorem presenceChanged_steady (s : State) (p h : Nat) (present : Bool) : (s.presenceChanged p h present).steady = s.steady := by
  simp only [State.presenceChanged]
  repeat' split
  all_goals simp

@[simp] theorem sampleBay_steady (s : State) (p h word : Nat) : (s.sampleBay p h word).steady = s.steady := by simp [State.sampleBay]

@[simp] theorem pollExpander_steady (s : State) (e : Nat) (word : Option Nat) : (s.pollExpander e word).steady = s.steady := by
  unfold State.pollExpander
  split <;> simp

@[simp] theorem settleMissing_steady (s : State) : s.settleMissing.steady = s.steady := by simp [State.settleMissing]

@[simp] theorem execBayPoll_steady (inputs : List (Option Nat)) (s : State) : steadyAfter (execBayPoll inputs s) = some s.steady := by
  simp [execBayPoll]

@[simp] theorem powerBay_steady (s : State) (p h : Nat) : (s.powerBay p h).steady = s.steady := by simp [State.powerBay]

@[simp] theorem execBayPowerOn_steady (p h : Nat) (s : State) : steadyAfter (execBayPowerOn p h s) = some s.steady := by
  simp [execBayPowerOn]

@[simp] theorem execSledTrainTimeout_steady (p h : Nat) (s : State) : steadyAfter (execSledTrainTimeout p h s) = some s.steady := by
  simp only [execSledTrainTimeout]
  split <;> simp

@[simp] theorem execSledPowerRetry_steady (p h : Nat) (s : State) : steadyAfter (execSledPowerRetry p h s) = some s.steady := by
  simp only [execSledPowerRetry]
  split <;> simp

@[simp] theorem writeHopCtl_steady (s : State) (p h off size : Nat) (value : Word) :
    (s.writeHopCtl p h off size value).steady = s.steady := by
  simp [State.writeHopCtl]

@[simp] theorem execPwroff_steady (p h size : Nat) (value : Word) (s : State) :
    steadyAfter (execPwroff p h size value s) = some s.steady := by
  simp [execPwroff]

@[simp] theorem sledsOff_steady (s : State) : s.sledsOff.steady = s.steady := by simp [State.sledsOff]
@[simp] theorem sledsGone_steady (s : State) : s.sledsGone.steady = s.steady := by simp [State.sledsGone]
@[simp] theorem queueBays_steady (s : State) : s.queueBays.steady = s.steady := by simp [State.queueBays]

/-! ### Machine/Boot.lean -/

@[simp] theorem coldRegs_steady (s : State) : s.coldRegs.steady = s.steady := by simp [State.coldRegs]
@[simp] theorem coldSlots_steady (s : State) : s.coldSlots.steady = s.steady := by simp [State.coldSlots]
@[simp] theorem coldShow_steady (s old : State) : (s.coldShow old).steady = s.steady := by simp [State.coldShow]
@[simp] theorem startStep_steady (s : State) (st : Nat) : (s.startStep st).steady = s.steady := by simp [State.startStep]

@[simp] theorem convReset_steady (s : State) (cause : Nat) (pins : Straps) : (s.convReset cause pins).steady = s.steady := by
  simp [State.convReset]

@[simp] theorem execControlIslandResetRelease_steady (s : State) : steadyAfter (execControlIslandResetRelease s) = some s.steady := by
  simp [execControlIslandResetRelease]

@[simp] theorem execPerstAssert_steady (s : State) : steadyAfter (execPerstAssert s) = some s.steady := by simp [execPerstAssert]

@[simp] theorem execPerstDeassert_steady (pins : Straps) (s : State) : steadyAfter (execPerstDeassert pins s) = some s.steady := by
  simp [execPerstDeassert]

@[simp] theorem execInternalReset_steady (s : State) : steadyAfter (execInternalReset s) = some s.steady := by
  unfold execInternalReset
  split <;> simp

@[simp] theorem measure_steady (s : State) (slot pattern : Nat) (digest : BitVec 384) (version : Word) :
    (s.measure slot pattern digest version).steady = s.steady := by
  simp [State.measure]

@[simp] theorem measureStep_steady (s : State) (st : Nat) (digests : List (BitVec 384)) : (s.measureStep st digests).steady = s.steady := by
  simp [State.measureStep]

@[simp] theorem setAlt_steady (s : State) (st n : Nat) : (s.setAlt st n).steady = s.steady := by simp [State.setAlt]

/-- The next alternative of a Boot step, where there is one. -/
theorem nextAlt_steady (s : State) (st unit : Nat) : ∀ t, s.nextAlt st unit = some t → t.steady = s.steady := by
  fun_cases State.nextAlt s st unit <;> simp +zetaDelta

@[simp] theorem clearAlts_steady (s : State) : s.clearAlts.steady = s.steady := by simp [State.clearAlts]

@[simp] theorem chooseAlts_steady (s : State) : s.chooseAlts.1.steady = s.steady := by
  unfold State.chooseAlts
  split
  · simp
  · refine foldl_fst_steady _ (fun p st => ?_) _ _
    split
    · split
      · rw [ledger_steady, nextAlt_steady _ _ _ _ ‹_›]
      · simp
    · rfl

@[simp] theorem showElog_steady (s : State) (l : ErrorLog) : (s.showElog l).steady = s.steady := by simp [State.showElog]

@[simp] theorem fromVault_steady (s : State) (im : VaultImage) : (s.fromVault im).steady = s.steady := by
  simp only [State.fromVault, steady_update, setF_steady, showElog_steady]

@[simp] theorem fromDram_steady (s : State) : s.fromDram.steady = s.steady := by simp only [State.fromDram, steady_update, setF_steady]
@[simp] theorem undoErasing_steady (s : State) (gone : List Delta) : (s.undoErasing gone).steady = s.steady := by simp [State.undoErasing]
@[simp] theorem noHoop_steady (s : State) : s.noHoop.steady = s.steady := by simp [State.noHoop]

@[simp] theorem restoreHoop_steady (s : State) (x : BootEnd) : (s.restoreHoop x).steady = s.steady := by
  unfold State.restoreHoop
  split <;> simp

@[simp] theorem restoreSlots_steady (s : State) (bad : List Nat) : (s.restoreSlots bad).steady = s.steady := by simp [State.restoreSlots]

@[simp] theorem restoreCopies_steady (s : State) (records : List (Nat × Nat × List Byte)) :
    (s.restoreCopies records).steady = s.steady := by
  simp [State.restoreCopies]

@[simp] theorem recoverCopies_steady (s : State) (x : BootEnd) : (s.recoverCopies x).steady = s.steady := by simp [State.recoverCopies]
@[simp] theorem loadBook_steady (s : State) : s.loadBook.steady = s.steady := by simp [State.loadBook]

@[simp] theorem leaveBoot_steady (s : State) : s.leaveBoot.steady = s.steady := by
  simp only [State.leaveBoot]
  split <;> simp

@[simp] theorem stepDone_steady (s : State) (st : Nat) (x : BootEnd) : (s.stepDone st x).steady = s.steady := by
  unfold State.stepDone
  split <;> simp

@[simp] theorem nextStep_steady (s : State) (st : Nat) : (s.nextStep st).steady = s.steady := by simp [State.nextStep]
@[simp] theorem bootHalt_steady (s : State) (kind cause st : Nat) : (s.bootHalt kind cause st).steady = s.steady := by simp [State.bootHalt]
@[simp] theorem releaseSync_steady (s : State) (st : Nat) : (s.releaseSync st).steady = s.steady := by simp [State.releaseSync]

@[simp] theorem execBootStepEnd_steady (x : BootEnd) (s : State) : steadyAfter (execBootStepEnd x s) = some s.steady := by
  simp only [execBootStepEnd]
  repeat' split
  all_goals simp

@[simp] theorem execBootStepTimeout_steady (unit : Nat) (s : State) : steadyAfter (execBootStepTimeout unit s) = some s.steady := by
  unfold execBootStepTimeout
  split <;> simp

@[simp] theorem execMapLoadComplete_steady (s : State) : steadyAfter (execMapLoadComplete s) = some s.steady := by
  simp [execMapLoadComplete]

/-! ### Machine/Firmware.lean -/

@[simp] theorem fwRefuse_steady (s : State) (off : Nat) (value : Word) : (s.fwRefuse off value).steady = s.steady := by
  simp [State.fwRefuse]

@[simp] theorem fwCommand_steady (s : State) (v off : Nat) (value : Word) : (s.fwCommand v off value).steady = s.steady := by
  fun_cases State.fwCommand s v off value <;> simp

@[simp] theorem writeFw_steady (s : State) (off size : Nat) (value : Word) : (s.writeFw off size value).steady = s.steady := by
  simp [State.writeFw]

@[simp] theorem execFwWrite_steady (size : Nat) (value : Word) (s : State) : steadyAfter (execFwWrite size value s) = some s.steady := by
  simp [execFwWrite]

@[simp] theorem execFwSelect_steady (size : Nat) (value : Word) (s : State) : steadyAfter (execFwSelect size value s) = some s.steady := by
  simp [execFwSelect]

@[simp] theorem execFwWriteComplete_steady (ok : Bool) (s : State) : steadyAfter (execFwWriteComplete ok s) = some s.steady := by
  unfold execFwWriteComplete
  split <;> simp

/-! ### Machine/Prickings.lean -/

@[simp] theorem setRun_steady (s : State) (r : Option PrkRun) : (s.setRun r).steady = s.steady := by simp [State.setRun]

@[simp] theorem prkRecord_steady (s : State) (op slot code : Nat) : (s.prkRecord op slot code).steady = s.steady := by
  simp [State.prkRecord]

@[simp] theorem tellCall_steady (s : State) (th : Option Nat) (code result : Nat) : (s.tellCall th code result).steady = s.steady := by
  unfold State.tellCall
  split <;> simp

@[simp] theorem prkEnd_steady (s : State) (r : PrkRun) (code : Nat) : (s.prkEnd r code).steady = s.steady := by simp [State.prkEnd]
@[simp] theorem prkDone_steady (s : State) (r : PrkRun) (code : Nat) : (s.prkDone r code).steady = s.steady := by simp [State.prkDone]

@[simp] theorem writePricking_steady (s : State) (a slot : Nat) (img : List Byte) : (s.writePricking a slot img).steady = s.steady := by
  simp [State.writePricking]

@[simp] theorem prkBegin_steady (s : State) (op : PrkOp) (slot : Nat) (image : List Byte) (th : Option Nat) :
    (s.prkBegin op slot image th).steady = s.steady := by
  simp [State.prkBegin]

@[simp] theorem takeEngine_steady (s : State) (th slot : Nat) (op : PrkOp) : (s.takeEngine th slot op).steady = s.steady := by
  simp [State.takeEngine]

@[simp] theorem giveImage_steady (s : State) (op : PrkOp) (slot : Nat) (image : List Byte) (th : Option Nat) :
    (s.giveImage op slot image th).steady = s.steady := by
  simp [State.giveImage]

@[simp] theorem writePrkCmd_steady (s : State) (off size : Nat) (value : Word) : (s.writePrkCmd off size value).steady = s.steady := by
  refine command_steady _ _ _ _ _ _ fun v => ?_
  repeat' split
  all_goals simp

@[simp] theorem askPrk_steady (s : State) (op size : Nat) (value : Word) : (s.askPrk op size value).steady = s.steady := by
  simp [State.askPrk]

@[simp] theorem execPrkCmdLoad_steady (size : Nat) (value : Word) (s : State) :
    steadyAfter (execPrkCmdLoad size value s) = some s.steady := by
  simp [execPrkCmdLoad]

@[simp] theorem execPrkCmdBind_steady (size : Nat) (value : Word) (s : State) :
    steadyAfter (execPrkCmdBind size value s) = some s.steady := by
  simp [execPrkCmdBind]

@[simp] theorem execPrkCmdArm_steady (size : Nat) (value : Word) (s : State) :
    steadyAfter (execPrkCmdArm size value s) = some s.steady := by
  simp [execPrkCmdArm]

@[simp] theorem execPrkCmdDrop_steady (size : Nat) (value : Word) (s : State) :
    steadyAfter (execPrkCmdDrop size value s) = some s.steady := by
  simp [execPrkCmdDrop]

@[simp] theorem execPrkCmdReserved_steady (size : Nat) (value : Word) (s : State) :
    steadyAfter (execPrkCmdReserved size value s) = some s.steady := by
  simp [execPrkCmdReserved]

@[simp] theorem execPrkCommandComplete_steady (s : State) : steadyAfter (execPrkCommandComplete s) = some s.steady := by
  simp only [execPrkCommandComplete]
  repeat' split
  all_goals simp

@[simp] theorem sealAll_steady (s : State) (a : Nat) : (s.sealAll a).steady = s.steady := by simp [State.sealAll]
@[simp] theorem closeOld_steady (s : State) (a gen : Nat) : (s.closeOld a gen).steady = s.steady := by simp [State.closeOld]

@[simp] theorem beginReshape_steady (s : State) (a slot old : Nat) : (s.beginReshape a slot old).steady = s.steady := by
  simp [State.beginReshape]

@[simp] theorem putArmed_steady (s : State) (old : Option (Nat × Slot)) (slot : Nat) (x : Slot) (a gen : Nat) :
    (s.putArmed old slot x a gen).steady = s.steady := by
  unfold State.putArmed
  split <;> simp

@[simp] theorem armSlot_steady (s : State) (slot : Nat) (img : List Byte) : (s.armSlot slot img).steady = s.steady := by
  simp only [State.armSlot]
  split <;> simp

@[simp] theorem createArray_steady (s : State) (a grain pifmt pitype grains limit : Nat) (img : List Byte) :
    (s.createArray a grain pifmt pitype grains limit img).steady = s.steady := by
  simp [State.createArray]

@[simp] theorem execArmCommit_steady (s : State) : steadyAfter (execArmCommit s) = some s.steady := by
  simp only [execArmCommit]
  repeat' split
  all_goals simp

@[simp] theorem sendMarker_steady (s : State) (a gen : Nat) (l : List Nat) : (s.sendMarker a gen l).steady = s.steady := by
  simp [State.sendMarker]

@[simp] theorem execRetirementSwitchover_steady (a : Nat) (s : State) : steadyAfter (execRetirementSwitchover a s) = some s.steady := by
  unfold execRetirementSwitchover
  split <;> simp

@[simp] theorem logRetired_steady (s : State) (a gen : Nat) (rel : List Nat) : (s.logRetired a gen rel).steady = s.steady := by
  simp [State.logRetired]

@[simp] theorem execRetirementCommit_steady (a : Nat) (s : State) : steadyAfter (execRetirementCommit a s) = some s.steady := by
  simp only [execRetirementCommit]
  repeat' split
  all_goals simp

/-! ### Machine/FedOps.lean -/

@[simp] theorem fedPart_steady (s : State) (th m : Nat) (f : Option Xfer) (body : FedBody) : (s.fedPart th m f body).steady = s.steady := by
  unfold State.fedPart
  split <;> simp

/-! ### Machine/Health.lean -/

@[simp] theorem checkSled_steady (s : State) (n : Nat) : (s.checkSled n).steady = s.steady := by simp [State.checkSled]

@[simp] theorem execHealthReportForm_steady (s : State) : steadyAfter (execHealthReportForm s) = some s.steady := by
  simp [execHealthReportForm]

@[simp] theorem execHealthRecordSave_steady (s : State) : steadyAfter (execHealthRecordSave s) = some s.steady := by
  simp [execHealthRecordSave]

@[simp] theorem writeHlthCtl_steady (s : State) (off size : Nat) (value : Word) : (s.writeHlthCtl off size value).steady = s.steady := by
  simp [State.writeHlthCtl]

@[simp] theorem execHlthFreeze_steady (size : Nat) (value : Word) (s : State) :
    steadyAfter (execHlthFreeze size value s) = some s.steady := by
  simp [execHlthFreeze]

@[simp] theorem poisonHoop_steady (s : State) (a blk : Nat) : (s.poisonHoop a blk).steady = s.steady := by
  simp only [State.poisonHoop]
  split <;> simp

@[simp] theorem execCorrectedErrorLog_steady (src unit addr : Nat) (hit : Option (Nat × Nat × Bool)) (s : State) :
    steadyAfter (execCorrectedErrorLog src unit addr hit s) = some s.steady := by
  simp only [execCorrectedErrorLog]
  repeat' split
  all_goals simp

@[simp] theorem execHlthGet_steady (scope offset : Nat) (s : State) : steadyAfter (execHlthGet scope offset s) = some s.steady := by
  simp only [execHlthGet]
  repeat' split
  all_goals simp

@[simp] theorem execDumpGet_steady (src len offset : Nat) (s : State) : steadyAfter (execDumpGet src len offset s) = some s.steady := by
  simp only [execDumpGet]
  repeat' split
  all_goals simp

/-! ### Machine/MapCache.lean -/

@[simp] theorem mcRefuse_steady (s : State) (ecode off : Nat) (value : Word) : (s.mcRefuse ecode off value).steady = s.steady := by
  simp [State.mcRefuse]

@[simp] theorem setMaintRun_steady (s : State) (r : Option MaintRun) : (s.setMaintRun r).steady = s.steady := by simp [State.setMaintRun]
@[simp] theorem dropLine_steady (s : State) (k : Nat) : (s.dropLine k).steady = s.steady := by simp [State.dropLine]

@[simp] theorem preloadLine_steady (s : State) (r : MaintRun) (tag : Nat) : (s.preloadLine r tag).1.steady = s.steady := by
  fun_cases State.preloadLine s r tag <;> simp +zetaDelta

@[simp] theorem preloadFrom_steady (s : State) (r : MaintRun) (n : Nat) : (s.preloadFrom r n).1.steady = s.steady := by
  fun_induction State.preloadFrom s r n
  case case1 => rfl
  case case2 hline => exact steady_of_fst hline (preloadLine_steady ..)
  case case3 hline ih => exact ih.trans (steady_of_fst hline (preloadLine_steady ..))

@[simp] theorem holdWays_steady (s : State) (w : Nat) : (s.holdWays w).steady = s.steady := by simp [State.holdWays]
@[simp] theorem dropHolds_steady (s : State) : s.dropHolds.steady = s.steady := by simp [State.dropHolds]
@[simp] theorem lockWays_steady (s : State) (ways : Nat) : (s.lockWays ways).steady = s.steady := by simp [State.lockWays]

@[simp] theorem maintVisit_steady (s : State) (r : MaintRun) (n : Nat) : (s.maintVisit r n).1.steady = s.steady := by
  unfold State.maintVisit
  split <;> simp

@[simp] theorem maintShow_steady (s : State) (r : MaintRun) : (s.maintShow r).steady = s.steady := by simp [State.maintShow]
@[simp] theorem maintOver_steady (s : State) : s.maintOver.steady = s.steady := by simp [State.maintOver]

@[simp] theorem maintClose_steady (s : State) (r : MaintRun) (stop : Bool) : (s.maintClose r stop).steady = s.steady := by
  simp only [State.maintClose]
  repeat' split
  all_goals simp

@[simp] theorem maintEnd_steady (s : State) (r : MaintRun) : (s.maintEnd r).steady = s.steady := by simp [State.maintEnd]

@[simp] theorem maintTick_steady (s : State) : s.maintTick.steady = s.steady := by
  unfold State.maintTick
  split <;> simp

@[simp] theorem maintCommand_steady (s : State) (v off : Nat) (value : Word) : (s.maintCommand v off value).steady = s.steady := by
  simp [State.maintCommand]

@[simp] theorem writeMaint_steady (s : State) (size : Nat) (value : Word) : (s.writeMaint size value).steady = s.steady := by
  simp [State.writeMaint]

@[simp] theorem execMcClean_steady (size : Nat) (value : Word) (s : State) : steadyAfter (execMcClean size value s) = some s.steady := by
  simp [execMcClean]

@[simp] theorem execMcInval_steady (size : Nat) (value : Word) (s : State) : steadyAfter (execMcInval size value s) = some s.steady := by
  simp [execMcInval]

@[simp] theorem execMcClinv_steady (size : Nat) (value : Word) (s : State) : steadyAfter (execMcClinv size value s) = some s.steady := by
  simp [execMcClinv]

@[simp] theorem execMcPreload_steady (size : Nat) (value : Word) (s : State) :
    steadyAfter (execMcPreload size value s) = some s.steady := by
  simp [execMcPreload]

@[simp] theorem execMcLock_steady (size : Nat) (value : Word) (s : State) : steadyAfter (execMcLock size value s) = some s.steady := by
  simp [execMcLock]

@[simp] theorem execMcMaintComplete_steady (s : State) : steadyAfter (execMcMaintComplete s) = some s.steady := by
  unfold execMcMaintComplete
  split <;> simp

@[simp] theorem execPreloadHoldExpiry_steady (s : State) : steadyAfter (execPreloadHoldExpiry s) = some s.steady := by
  simp [execPreloadHoldExpiry]

@[simp] theorem writeWaylock_steady (s : State) (new off : Nat) (value : Word) : (s.writeWaylock new off value).steady = s.steady := by
  simp [State.writeWaylock]

@[simp] theorem execMcWaylockWrite_steady (size : Nat) (value : Word) (s : State) :
    steadyAfter (execMcWaylockWrite size value s) = some s.steady := by
  simp [execMcWaylockWrite]

@[simp] theorem beginDrain_steady (s : State) : s.beginDrain.steady = s.steady := by simp [State.beginDrain]

@[simp] theorem writeMcCtl_steady (s : State) (off size : Nat) (value : Word) : (s.writeMcCtl off size value).steady = s.steady := by
  simp [State.writeMcCtl]

@[simp] theorem execMcEnable_steady (size : Nat) (value : Word) (s : State) : steadyAfter (execMcEnable size value s) = some s.steady := by
  simp [execMcEnable]

@[simp] theorem execMcDisable_steady (size : Nat) (value : Word) (s : State) :
    steadyAfter (execMcDisable size value s) = some s.steady := by
  simp [execMcDisable]

@[simp] theorem endDrain_steady (s : State) : s.endDrain.steady = s.steady := by simp [State.endDrain]

@[simp] theorem execMcDrainComplete_steady (s : State) : steadyAfter (execMcDrainComplete s) = some s.steady := by
  simp [execMcDrainComplete]

@[simp] theorem execMcWritebackAck_steady (set : Nat) (s : State) : steadyAfter (execMcWritebackAck set s) = some s.steady := by
  simp [execMcWritebackAck]

@[simp] theorem rebuildLine_steady (s : State) (k : Nat) : (s.rebuildLine k).steady = s.steady := by simp [State.rebuildLine]

@[simp] theorem disableWay_steady (s : State) (w : Nat) (bad : Option Nat) (cls : Nat) : (s.disableWay w bad cls).steady = s.steady := by
  simp [State.disableWay]

@[simp] theorem wayFails_steady (s : State) (w : Nat) (bad : Option Nat) (cls : Nat) : (s.wayFails w bad cls).steady = s.steady := by
  simp only [State.wayFails]
  repeat' split
  all_goals simp

@[simp] theorem execMcEccError_steady (way set : Nat) (uncorrectable : Bool) (s : State) :
    steadyAfter (execMcEccError way set uncorrectable s) = some s.steady := by
  simp [execMcEccError]

/-! ### Machine/Pair.lean -/

@[simp] theorem pairFrame_steady (s : State) : s.pairFrame.steady = s.steady := by simp [State.pairFrame]
@[simp] theorem mirrorDelta_steady (s : State) (d : Delta) : (s.mirrorDelta d).steady = s.steady := by simp [State.mirrorDelta]

@[simp] theorem mirrorVersionIn_steady (s : State) (v : Version) : (s.mirrorVersionIn v).steady = s.steady := by
  simp [State.mirrorVersionIn]

@[simp] theorem mirrorSled_steady (s : State) (n : Nat) (x : Sled) : (s.mirrorSled n x).steady = s.steady := by simp [State.mirrorSled]

@[simp] theorem applyMirror_steady (s : State) (i : MirrorItem) : (s.applyMirror i).steady = s.steady := by
  simp only [State.applyMirror]
  repeat' split
  all_goals simp

@[simp] theorem clearPhase_steady (s : State) (phase : Nat) : (s.clearPhase phase).steady = s.steady := by
  unfold State.clearPhase
  split <;> simp

@[simp] theorem execMirror_steady (seq : Nat) (i : MirrorItem) (s : State) : steadyAfter (execMirror seq i s) = some s.steady := by
  simp [execMirror]

@[simp] theorem execConfirm_steady (seq : Nat) (s : State) : steadyAfter (execConfirm seq s) = some s.steady := by simp [execConfirm]
@[simp] theorem inSyncNow_steady (s : State) : s.inSyncNow.steady = s.steady := by simp [State.inSyncNow]

@[simp] theorem execSync_steady (phase permille : Nat) (items : List MirrorItem) (s : State) :
    steadyAfter (execSync phase permille items s) = some s.steady := by
  simp [execSync]

@[simp] theorem startSync_steady (s : State) : s.startSync.steady = s.steady := by simp [State.startSync]
@[simp] theorem execSyncComplete_steady (s : State) : steadyAfter (execSyncComplete s) = some s.steady := by simp [execSyncComplete]

@[simp] theorem execRenew_steady (answer : Bool) (s : State) : steadyAfter (execRenew answer s) = some s.steady := by
  simp only [execRenew]
  repeat' split
  all_goals simp

@[simp] theorem execLeaseRenewTimer_steady (s : State) : steadyAfter (execLeaseRenewTimer s) = some s.steady := by
  simp [execLeaseRenewTimer]

@[simp] theorem execLeaseAck_steady (seq : Nat) (s : State) : steadyAfter (execLeaseAck seq s) = some s.steady := by
  simp only [execLeaseAck]
  repeat' split
  all_goals simp

@[simp] theorem execLeaseExpiry_steady (s : State) : steadyAfter (execLeaseExpiry s) = some s.steady := by
  unfold execLeaseExpiry
  split <;> simp

@[simp] theorem execLeaseDeny_steady (_claim : Nat) (s : State) : steadyAfter (execLeaseDeny _claim s) = some s.steady := by
  simp [execLeaseDeny]

@[simp] theorem becomeStale_steady (s : State) : s.becomeStale.steady = s.steady := by simp [State.becomeStale]

@[simp] theorem execPostWindowExpiry_steady (s : State) : steadyAfter (execPostWindowExpiry s) = some s.steady := by
  unfold execPostWindowExpiry
  split <;> simp

@[simp] theorem execRideThroughStart_steady (s : State) : steadyAfter (execRideThroughStart s) = some s.steady := by
  simp [execRideThroughStart]

@[simp] theorem execClaimGrant_steady (claim ago : Nat) (s : State) : steadyAfter (execClaimGrant claim ago s) = some s.steady := by
  simp [execClaimGrant]

@[simp] theorem enterStaged_steady (s : State) : s.enterStaged.steady = s.steady := by simp [State.enterStaged]

@[simp] theorem execGapEnd_steady (tablesOk : Bool) (s : State) : steadyAfter (execGapEnd tablesOk s) = some s.steady := by
  refine congrArg some ?_
  dsimp only
  split
  · rfl
  · split
    · exact halt_steady ..
    · split
      · exact beginLoad_steady s
      · simp only [drive_steady, resyncDue_steady, retryWaiting_steady, foldl_steady, claimAll_steady, holdingFreed_steady,
          pairStat_steady, setF_steady, enterMode_steady, steady_update, syncHoop_steady, enterStaged_steady, regatherLoose_steady,
          setReg_steady, implies_true]

@[simp] theorem execPairHealth_steady (r : PairReport) (s : State) : steadyAfter (execPairHealth r s) = some s.steady := by
  simp [execPairHealth]

@[simp] theorem execPeerTimeout_steady (s : State) : steadyAfter (execPeerTimeout s) = some s.steady := by simp [execPeerTimeout]

@[simp] theorem execPeerHealthStale_steady (s : State) : steadyAfter (execPeerHealthStale s) = some s.steady := by
  unfold execPeerHealthStale
  split <;> simp

@[simp] theorem execPeerLostAck_steady (s : State) : steadyAfter (execPeerLostAck s) = some s.steady := by simp [execPeerLostAck]
@[simp] theorem execInSyncAck_steady (s : State) : steadyAfter (execInSyncAck s) = some s.steady := by simp [execInSyncAck]
@[simp] theorem witnessFound_steady (s : State) : s.witnessFound.steady = s.steady := by simp [State.witnessFound]

@[simp] theorem execHelloAck_steady (pairNo : Nat) (holds : Bool) (s : State) :
    steadyAfter (execHelloAck pairNo holds s) = some s.steady := by
  simp [execHelloAck]

@[simp] theorem startHandover_steady (s : State) : s.startHandover.steady = s.steady := by simp [State.startHandover]
@[simp] theorem finishHandover_steady (s : State) : s.finishHandover.steady = s.steady := by simp [State.finishHandover]

@[simp] theorem execFailbackRequest_steady (s : State) : steadyAfter (execFailbackRequest s) = some s.steady := by
  simp [execFailbackRequest]

@[simp] theorem execHandoverDrainTimeout_steady (s : State) : steadyAfter (execHandoverDrainTimeout s) = some s.steady := by
  unfold execHandoverDrainTimeout
  split <;> simp

@[simp] theorem execHealthReportTimer_steady (s : State) : steadyAfter (execHealthReportTimer s) = some s.steady := by
  simp [execHealthReportTimer]

@[simp] theorem execStandbySelfTest_steady (test : Nat) (pass : Bool) (s : State) :
    steadyAfter (execStandbySelfTest test pass s) = some s.steady := by
  simp [execStandbySelfTest]

@[simp] theorem execSelfTestRerun_steady (test : Nat) (pass : Bool) (s : State) :
    steadyAfter (execSelfTestRerun test pass s) = some s.steady := by
  simp [execSelfTestRerun]

/-! ### Machine/Modes.lean -/

@[simp] theorem modeRefused_steady (s : State) (value : Nat) : (s.modeRefused value).steady = s.steady := by simp [State.modeRefused]

@[simp] theorem requestMode_steady (s : State) (r : Mode) (value : Nat) : (s.requestMode r value).steady = s.steady := by
  fun_cases State.requestMode s r value <;> simp +zetaDelta

@[simp] theorem writeMode_steady (s : State) (off size : Nat) (value : Word) : (s.writeMode off size value).steady = s.steady := by
  simp [State.writeMode]

@[simp] theorem askMode_steady (s : State) (code size : Nat) (value : Word) : (s.askMode code size value).steady = s.steady := by
  simp [State.askMode]

@[simp] theorem execModeReqStandby_steady (size : Nat) (value : Word) (s : State) :
    steadyAfter (execModeReqStandby size value s) = some s.steady := by
  simp [execModeReqStandby]

@[simp] theorem execModeReqActive_steady (size : Nat) (value : Word) (s : State) :
    steadyAfter (execModeReqActive size value s) = some s.steady := by
  simp [execModeReqActive]

@[simp] theorem execModeReqMaintenance_steady (size : Nat) (value : Word) (s : State) :
    steadyAfter (execModeReqMaintenance size value s) = some s.steady := by
  simp [execModeReqMaintenance]

@[simp] theorem execModeReqDormant_steady (size : Nat) (value : Word) (s : State) :
    steadyAfter (execModeReqDormant size value s) = some s.steady := by
  simp [execModeReqDormant]

@[simp] theorem execModeReqWitness_steady (size : Nat) (value : Word) (s : State) :
    steadyAfter (execModeReqWitness size value s) = some s.steady := by
  simp [execModeReqWitness]

@[simp] theorem execModeReqUnlisted_steady (k size : Nat) (value : Word) (s : State) :
    steadyAfter (execModeReqUnlisted k size value s) = some s.steady := by
  simp [execModeReqUnlisted]

@[simp] theorem abandonDrain_steady (s : State) : s.abandonDrain.steady = s.steady := by simp [State.abandonDrain]

@[simp] theorem execDrainComplete_steady (s : State) : steadyAfter (execDrainComplete s) = some s.steady := by
  simp only [execDrainComplete]
  repeat' split
  all_goals simp

@[simp] theorem execDormantExitComplete_steady (s : State) : steadyAfter (execDormantExitComplete s) = some s.steady := by
  simp [execDormantExitComplete]

/-! ### Machine/Native.lean -/

@[simp] theorem setBook_steady (s : State) (th : Nat) (b : BookRun) : (s.setBook th b).steady = s.steady := by simp [State.setBook]

/-- A stage of a Pattern Book call. -/
@[simp] theorem bookStep_steady (s : State) (th p : Nat) (stage : State → State) (hstage : (stage s).steady = s.steady) :
    (s.bookStep th p stage).steady = s.steady := by
  simp [State.bookStep, hstage]

@[simp] theorem bookPost_steady (s : State) (th status result : Nat) : (s.bookPost th status result).steady = s.steady := by
  fun_cases State.bookPost s th status result <;> simp +zetaDelta

@[simp] theorem bookFault_steady (s : State) (th : Nat) : (s.bookFault th).steady = s.steady := by simp [State.bookFault]

/-- A call handed to a device-work thread. -/
@[simp] theorem handOver_steady (s : State) (th : Nat) (body : State → State) (hbody : ∀ t, (body t).steady = t.steady) :
    (s.handOver th body).steady = s.steady := by
  fun_cases State.handOver s th body <;> simp +zetaDelta [hbody]

/-- The checks at the start of a Pattern Book call, then its body. -/
@[simp] theorem bookBegin_steady (s : State) (th need : Nat) (checks : List Nat) (body : State → State)
    (hbody : ∀ t, (body t).steady = t.steady) :
    (s.bookBegin th need checks body).steady = s.steady := by
  simp [State.bookBegin, hbody]

@[simp] theorem bookRun_steady (s : State) (th n stage : Nat) : (s.bookRun th n stage).steady = s.steady := by simp [State.bookRun]
@[simp] theorem notePart_steady (s : State) (th id k n : Nat) : (s.notePart th id k n).steady = s.steady := by simp [State.notePart]

@[simp] theorem bookAsync_steady (s : State) (th : Nat) (w : AsyncWait) (f : Option Xfer) : (s.bookAsync th w f).steady = s.steady := by
  simp [State.bookAsync]

@[simp] theorem mergeFrom_steady (s : State) (th m : Nat) : (s.mergeFrom th m).steady = s.steady := by simp [State.mergeFrom]
@[simp] theorem mergeParts_steady (s : State) (th : Nat) : (s.mergeParts th).steady = s.steady := by simp [State.mergeParts]
@[simp] theorem readPiece_steady (s : State) (th : Nat) (p : Nat × Nat) : (s.readPiece th p).steady = s.steady := by simp [State.readPiece]
@[simp] theorem readEnd_steady (s : State) (th : Nat) : (s.readEnd th).steady = s.steady := by simp [State.readEnd]
@[simp] theorem readRun_steady (s : State) (th : Nat) : (s.readRun th).steady = s.steady := by simp [State.readRun]
@[simp] theorem egress_steady (s : State) (th k : Nat) : (s.egress th k).steady = s.steady := by simp [State.egress]
@[simp] theorem storeOut_steady (s : State) (th k : Nat) : (s.storeOut th k).steady = s.steady := by simp [State.storeOut]
@[simp] theorem readDone_steady (s : State) (th : Nat) : (s.readDone th).steady = s.steady := by simp [State.readDone]

@[simp] theorem storeDone_steady (s : State) (th : Nat) : (s.storeDone th).steady = s.steady := by
  simp only [State.storeDone]
  split <;> simp

@[simp] theorem readStage_steady (s : State) (th need : Nat) (host : Bool) : (s.readStage th need host).steady = s.steady := by
  unfold State.readStage
  split <;> simp

@[simp] theorem execRead_steady (th : Nat) (s : State) : steadyAfter (execRead th s) = some s.steady := by simp [execRead]
@[simp] theorem execVerify_steady (th : Nat) (s : State) : steadyAfter (execVerify th s) = some s.steady := by simp [execVerify]
@[simp] theorem writeEnd_steady (s : State) (th : Nat) : (s.writeEnd th).steady = s.steady := by simp [State.writeEnd]
@[simp] theorem writeLast_steady (s : State) (th : Nat) : (s.writeLast th).steady = s.steady := by simp [State.writeLast]
@[simp] theorem writeRun_steady (s : State) (th : Nat) : (s.writeRun th).steady = s.steady := by simp [State.writeRun]

@[simp] theorem writeParts_steady (s : State) (th n : Nat) (infos : List Info) : (s.writeParts th n infos).steady = s.steady := by
  simp [State.writeParts]

@[simp] theorem writeData_steady (s : State) (th : Nat) : (s.writeData th).steady = s.steady := by
  fun_cases State.writeData s th <;> simp +zetaDelta

@[simp] theorem writeStored_steady (s : State) (th : Nat) : (s.writeStored th).steady = s.steady := by
  simp only [State.writeStored]
  split <;> simp

@[simp] theorem forceCovered_steady (s : State) (th : Nat) : (s.forceCovered th).steady = s.steady := by simp [State.forceCovered]
@[simp] theorem writeCover_steady (s : State) (th : Nat) : (s.writeCover th).steady = s.steady := by simp [State.writeCover]

@[simp] theorem execWrite_steady (th : Nat) (s : State) : steadyAfter (execWrite th s) = some s.steady := by
  refine congrArg some (bookStep_steady _ _ _ _ ?_)
  dsimp only
  split <;> simp

@[simp] theorem eachMember_steady (s : State) (th p : Nat) : (s.eachMember th p).steady = s.steady := by simp [State.eachMember]
@[simp] theorem flushWait_steady (s : State) (th : Nat) : (s.flushWait th).steady = s.steady := by simp [State.flushWait]

@[simp] theorem execFlush_steady (th : Nat) (s : State) : steadyAfter (execFlush th s) = some s.steady := by
  refine congrArg some (bookStep_steady _ _ _ _ ?_)
  dsimp only
  split <;> simp

@[simp] theorem discardGrain_steady (s : State) (a g : Nat) : (s.discardGrain a g).steady = s.steady := by
  unfold State.discardGrain
  split <;> simp

@[simp] theorem discardRange_steady (s : State) (th : Nat) : (s.discardRange th).steady = s.steady := by simp [State.discardRange]

@[simp] theorem execDiscard_steady (th : Nat) (s : State) : steadyAfter (execDiscard th s) = some s.steady := by
  refine congrArg some (bookStep_steady _ _ _ _ ?_)
  dsimp only
  split <;> simp

/-! ### Machine/Patterns.lean -/

@[simp] theorem toStage_steady (s : State) (th n : Nat) : (s.toStage th n).steady = s.steady := by simp [State.toStage]

@[simp] theorem readImage_steady (s : State) (th addr len stage : Nat) : (s.readImage th addr len stage).steady = s.steady := by
  simp [State.readImage]

@[simp] theorem postDurable_steady (s : State) (th status result : Nat) : (s.postDurable th status result).steady = s.steady := by
  simp [State.postDurable]

@[simp] theorem pinRange_steady (s : State) (th a : Nat) (set : Bool) (g n : Nat) : (s.pinRange th a set g n).steady = s.steady := by
  induction n generalizing s g with
  | zero => simp [State.pinRange]
  | succ n ih => simp [State.pinRange, ih]

@[simp] theorem execPin_steady (th : Nat) (s : State) : steadyAfter (execPin th s) = some s.steady := by
  refine congrArg some (bookStep_steady _ _ _ _ ?_)
  dsimp only
  split <;> simp

@[simp] theorem scrubCall_steady (s : State) (th op : Nat) : (s.scrubCall th op).steady = s.steady := by
  simp only [State.scrubCall]
  repeat' split
  all_goals simp

@[simp] theorem execScrubStart_steady (th : Nat) (s : State) : steadyAfter (execScrubStart th s) = some s.steady := by simp [execScrubStart]
@[simp] theorem execScrubStop_steady (th : Nat) (s : State) : steadyAfter (execScrubStop th s) = some s.steady := by simp [execScrubStop]
@[simp] theorem execScrubQuery_steady (th : Nat) (s : State) : steadyAfter (execScrubQuery th s) = some s.steady := by simp [execScrubQuery]

@[simp] theorem execConfig_steady (th : Nat) (s : State) : steadyAfter (execConfig th s) = some s.steady := by
  refine congrArg some (bookStep_steady _ _ _ _ (bookBegin_steady _ _ _ _ _ fun t => ?_))
  simp

@[simp] theorem execMemberFail_steady (th : Nat) (s : State) : steadyAfter (execMemberFail th s) = some s.steady := by simp [execMemberFail]

@[simp] theorem execLogClear_steady (th : Nat) (s : State) : steadyAfter (execLogClear th s) = some s.steady := by
  refine congrArg some (bookStep_steady _ _ _ _ (bookBegin_steady _ _ _ _ _ fun t => ?_))
  simp

@[simp] theorem trimGrains_steady (s : State) (a g0 : Nat) : (s.trimGrains a g0).1.steady = s.steady := by simp [State.trimGrains]

@[simp] theorem execArrayResize_steady (th : Nat) (s : State) : steadyAfter (execArrayResize th s) = some s.steady := by
  refine congrArg some (bookStep_steady _ _ _ _ ?_)
  dsimp only
  split <;> simp

/-- As bookBegin_steady, for calls of the pricking engine. -/
@[simp] theorem engineBegin_steady (s : State) (th need : Nat) (op : PrkOp) (slot busyResult : Nat) (checks : List Nat)
    (body : State → State) (hbody : ∀ t, (body t).steady = t.steady) :
    (s.engineBegin th need op slot busyResult checks body).steady = s.steady := by
  simp [State.engineBegin, hbody]

@[simp] theorem engineFails_steady (s : State) (th status result : Nat) : (s.engineFails th status result).steady = s.steady := by
  unfold State.engineFails
  split <;> simp

@[simp] theorem askEngine_steady (s : State) (th : Nat) (op : PrkOp) (slot : Nat) (image : List Byte) :
    (s.askEngine th op slot image).steady = s.steady := by
  simp [State.askEngine]

@[simp] theorem engineEnded_steady (s : State) (th : Nat) : (s.engineEnded th).steady = s.steady := by
  unfold State.engineEnded
  split <;> simp

@[simp] theorem prkCall_steady (s : State) (th p : Nat) (op : PrkOp) : (s.prkCall th p op).steady = s.steady := by simp [State.prkCall]

@[simp] theorem execPrkLoad_steady (th : Nat) (s : State) : steadyAfter (execPrkLoad th s) = some s.steady := by
  refine congrArg some (bookStep_steady _ _ _ _ ?_)
  dsimp only
  split <;> simp

@[simp] theorem execPrkBind_steady (th : Nat) (s : State) : steadyAfter (execPrkBind th s) = some s.steady := by simp [execPrkBind]
@[simp] theorem execPrkArm_steady (th : Nat) (s : State) : steadyAfter (execPrkArm th s) = some s.steady := by simp [execPrkArm]
@[simp] theorem execPrkDrop_steady (th : Nat) (s : State) : steadyAfter (execPrkDrop th s) = some s.steady := by simp [execPrkDrop]
@[simp] theorem askSpan_steady (s : State) (th : Nat) : (s.askSpan th).steady = s.steady := by simp [State.askSpan]

@[simp] theorem createBegin_steady (s : State) (th : Nat) (img : List Byte) : (s.createBegin th img).steady = s.steady := by
  simp [State.createBegin]

@[simp] theorem execArrayCreate_steady (th : Nat) (s : State) : steadyAfter (execArrayCreate th s) = some s.steady := by
  refine congrArg some (bookStep_steady _ _ _ _ ?_)
  dsimp only
  split <;> simp

@[simp] theorem deleteBegin_steady (s : State) (th a : Nat) : (s.deleteBegin th a).steady = s.steady := by simp [State.deleteBegin]
@[simp] theorem deleteEnd_steady (s : State) (th a : Nat) : (s.deleteEnd th a).steady = s.steady := by simp [State.deleteEnd]

@[simp] theorem execArrayDelete_steady (th : Nat) (s : State) : steadyAfter (execArrayDelete th s) = some s.steady := by
  refine congrArg some (bookStep_steady _ _ _ _ ?_)
  dsimp only
  split <;> simp

@[simp] theorem putCopies_steady (s : State) (p : Nat) (f : Nat → Nat) : (s.putCopies p f).steady = s.steady := by simp [State.putCopies]

@[simp] theorem retireExtents_steady (s : State) (p : Nat) (keep : Option Nat) : (s.retireExtents p keep).steady = s.steady := by
  simp [State.retireExtents]

@[simp] theorem progInstall_steady (s : State) (th : Nat) (bs : List Byte) : (s.progInstall th bs).steady = s.steady := by
  fun_cases State.progInstall s th bs <;> simp +zetaDelta

@[simp] theorem execProgLoad_steady (th : Nat) (s : State) : steadyAfter (execProgLoad th s) = some s.steady := by
  refine congrArg some (bookStep_steady _ _ _ _ ?_)
  dsimp only
  split <;> simp

@[simp] theorem execProgUnload_steady (th : Nat) (s : State) : steadyAfter (execProgUnload th s) = some s.steady := by
  refine congrArg some (bookStep_steady _ _ _ _ ?_)
  dsimp only
  split <;> simp

/-! ### Machine/Registers.lean -/

@[simp] theorem execDevTbaseLowRead_steady (ep : Nat) (s : State) : steadyAfter (execDevTbaseLowRead ep s) = some s.steady := by
  simp [execDevTbaseLowRead]

@[simp] theorem writeLock_steady (s : State) (off size : Nat) (value : Word) : (s.writeLock off size value).steady = s.steady := by
  simp [State.writeLock]

@[simp] theorem execDevLockSet_steady (size : Nat) (value : Word) (s : State) :
    steadyAfter (execDevLockSet size value s) = some s.steady := by
  simp [execDevLockSet]

@[simp] theorem plainWrite_steady (s : State) (off size : Nat) (value : Word) : (s.plainWrite off size value).steady = s.steady := by
  simp [State.plainWrite]

@[simp] theorem writeBootCtl_steady (s : State) (off size : Nat) (value : Word) : (s.writeBootCtl off size value).steady = s.steady := by
  simp [State.writeBootCtl]

@[simp] theorem writePwrPf_steady (s : State) (off size : Nat) (value : Word) : (s.writePwrPf off size value).steady = s.steady := by
  simp [State.writePwrPf]

/-- As gate_steady, for a register whose lower half carries its command. -/
@[simp] theorem lowHalf_steady (s : State) (off size : Nat) (value : Word) (k : State → State) (hk : (k s).steady = s.steady) :
    (s.lowHalf off size value k).steady = s.steady := by
  simp [State.lowHalf, hk]

@[simp] theorem syncCtl_steady (s : State) (a b : Nat) : (s.syncCtl a b).steady = s.steady := by simp [State.syncCtl]

@[simp] theorem writeAt_steady (s : State) (ep off size : Nat) (value : Word) : (s.writeAt ep off size value).steady = s.steady := by
  fun_cases State.writeAt s ep off size value <;> simp +zetaDelta

@[simp] theorem execRegisterWrite_steady (ep off size : Nat) (value : Word) (poisoned : Bool) (s : State) :
    steadyAfter (execRegisterWrite ep off size value poisoned s) = some s.steady := by
  simp [execRegisterWrite]

/-! ### Machine/Dump.lean -/

@[simp] theorem execUncorrectableStructureError_steady (src : Nat) (s : State) :
    steadyAfter (execUncorrectableStructureError src s) = some s.steady := by
  simp [execUncorrectableStructureError]

@[simp] theorem execFirmwareInconsistency_steady (core detail : Nat) (s : State) :
    steadyAfter (execFirmwareInconsistency core detail s) = some s.steady := by
  simp [execFirmwareInconsistency]

@[simp] theorem snapped_steady (s : State) : s.snapped.steady = s.steady := by simp [State.snapped]

@[simp] theorem dumpDone_steady (s : State) (part : Bool) (body : List Nat) : (s.dumpDone part body).steady = s.steady := by
  simp [State.dumpDone]

@[simp] theorem execWatchdogExpiry_steady (core : Nat) (body : List Nat) (s : State) :
    steadyAfter (execWatchdogExpiry core body s) = some s.steady := by
  simp [execWatchdogExpiry]

@[simp] theorem execRegisterSnapshotCaptured_steady (s : State) : steadyAfter (execRegisterSnapshotCaptured s) = some s.steady := by
  simp [execRegisterSnapshotCaptured]

@[simp] theorem execDumpInDramComplete_steady (s : State) : steadyAfter (execDumpInDramComplete s) = some s.steady := by
  simp [execDumpInDramComplete]

@[simp] theorem execDumpCaptureTimeout_steady (body : List Nat) (s : State) :
    steadyAfter (execDumpCaptureTimeout body s) = some s.steady := by
  simp [execDumpCaptureTimeout]

@[simp] theorem execHaltVaultImageCommit_steady (s : State) : steadyAfter (execHaltVaultImageCommit s) = some s.steady := by
  simp [execHaltVaultImageCommit]

@[simp] theorem execDumpVaultWriteComplete_steady (s : State) : steadyAfter (execDumpVaultWriteComplete s) = some s.steady := by
  unfold execDumpVaultWriteComplete
  split <;> simp

/-! ### Machine/Federation.lean -/

@[simp] theorem execSignalOwner_steady (th : Nat) (s : State) : steadyAfter (execSignalOwner th s) = some s.steady := by
  refine congrArg some (issue_steady _ _ _ _ fun i t => ?_)
  dsimp only
  repeat' split
  all_goals simp

/-- A start asked by another member, where a thread was free. -/
theorem fedStart_steady (s : State) (m : FedMsg) : ∀ t, s.fedStart m = some t → t.steady = s.steady := by
  fun_cases State.fedStart s m
  case case5 s1 th hstart t =>
    simp +zetaDelta [steady_of_fst hstart (startWork_steady ..)]
  all_goals simp +zetaDelta

@[simp] theorem fedDrain_steady (s : State) : s.fedDrain.steady = s.steady := by
  refine foldl_steady _ (fun t _ => ?_) _ _
  split
  · rfl
  · split
    · rw [fedStart_steady _ _ _ ‹_›, setFed_steady]
    · rfl

@[simp] theorem fedAnswer_steady (s : State) (dev id outcome count : Nat) (words : List Info) :
    (s.fedAnswer dev id outcome count words).steady = s.steady := by
  simp only [State.fedAnswer]
  repeat' split
  all_goals simp

@[simp] theorem execFedCallPart_steady (m : FedMsg) (s : State) : steadyAfter (execFedCallPart m s) = some s.steady := by
  simp only [execFedCallPart]
  repeat' split
  all_goals simp

@[simp] theorem syncView_steady (s : State) (relect : Bool) : (s.syncView relect).steady = s.steady := by simp [State.syncView]

@[simp] theorem dropDevice_steady (s : State) (dev : Nat) : (s.dropDevice dev).steady = s.steady := by
  simp only [State.dropDevice]
  refine foldl_steady _ (fun s x => ?_) _ _
  split <;> simp

@[simp] theorem execFedHello_steady (link : Nat) (h : FedHello) (s : State) : steadyAfter (execFedHello link h s) = some s.steady := by
  simp [execFedHello]

@[simp] theorem execElectionStart_steady (high : Bool) (s : State) : steadyAfter (execElectionStart high s) = some s.steady := by
  unfold execElectionStart
  split <;> simp

@[simp] theorem execElectionDecide_steady (s : State) : steadyAfter (execElectionDecide s) = some s.steady := by
  simp only [execElectionDecide, steadyAfter_next, steady_ite, raiseEvent_steady, setFed_steady, setFlag_steady, incF_steady, setF_steady,
    ite_self]

@[simp] theorem execFedLinkChange_steady (dev : Nat) (up wide : Bool) (s : State) :
    steadyAfter (execFedLinkChange dev up wide s) = some s.steady := by
  simp [execFedLinkChange]

@[simp] theorem execTimeMark_steady (s : State) : steadyAfter (execTimeMark s) = some s.steady := by simp [execTimeMark]

@[simp] theorem execTimeMarkEdge_steady (theirs : Word) (long : Bool) (s : State) :
    steadyAfter (execTimeMarkEdge theirs long s) = some s.steady := by
  simp [execTimeMarkEdge]

/-! ### Machine/PiIns.lean -/

@[simp] theorem piMap_steady (s : State) (th : Nat) (i : IWord) (f : Nat → Info → Info) : (s.piMap th i f).steady = s.steady := by
  simp [State.piMap]

@[simp] theorem execPigen_steady (th : Nat) (s : State) : steadyAfter (execPigen th s) = some s.steady := by simp [execPigen]

@[simp] theorem execPichk_steady (th : Nat) (s : State) : steadyAfter (execPichk th s) = some s.steady := by
  refine congrArg some (issue_steady _ _ _ _ fun i t => ?_)
  dsimp only
  repeat' split
  all_goals simp

@[simp] theorem execPixlate_steady (th : Nat) (s : State) : steadyAfter (execPixlate th s) = some s.steady := by simp [execPixlate]

/-! ### Machine/Spdm.lean -/

@[simp] theorem spdm_steady (s : State) (tr : Nat) (f : State → SpdmAnswer) : (s.spdm tr f).steady = s.steady := by simp [State.spdm]
@[simp] theorem execGetVersion_steady (tr : Nat) (s : State) : steadyAfter (execGetVersion tr s) = some s.steady := by simp [execGetVersion]

@[simp] theorem execGetCapabilities_steady (tr : Nat) (s : State) : steadyAfter (execGetCapabilities tr s) = some s.steady := by
  simp [execGetCapabilities]

@[simp] theorem execNegotiateAlgorithms_steady (tr : Nat) (sig hash measHash spec : Bool) (s : State) :
    steadyAfter (execNegotiateAlgorithms tr sig hash measHash spec s) = some s.steady := by
  simp [execNegotiateAlgorithms]

@[simp] theorem execGetDigests_steady (tr : Nat) (s : State) : steadyAfter (execGetDigests tr s) = some s.steady := by simp [execGetDigests]

@[simp] theorem execGetCertificate_steady (tr slot offset length : Nat) (s : State) :
    steadyAfter (execGetCertificate tr slot offset length s) = some s.steady := by
  simp [execGetCertificate]

@[simp] theorem execChallenge_steady (tr slot summary : Nat) (nonce : List Byte) (s : State) :
    steadyAfter (execChallenge tr slot summary nonce s) = some s.steady := by
  simp [execChallenge]

@[simp] theorem execGetMeasurements_steady (tr op : Nat) (signed_ : Bool) (nonce : List Byte) (s : State) :
    steadyAfter (execGetMeasurements tr op signed_ nonce s) = some s.steady := by
  simp [execGetMeasurements]

@[simp] theorem execRespondIfReady_steady (tr : Nat) (s : State) : steadyAfter (execRespondIfReady tr s) = some s.steady := by
  simp [execRespondIfReady]

@[simp] theorem execSpdmUnsupportedRequest_steady (tr : Nat) (s : State) :
    steadyAfter (execSpdmUnsupportedRequest tr s) = some s.steady := by
  simp [execSpdmUnsupportedRequest]

@[simp] theorem execDoeAbort_steady (ep : Nat) (s : State) : steadyAfter (execDoeAbort ep s) = some s.steady := by simp [execDoeAbort]

/-- A message of the management bus, or its discard. -/
@[simp] theorem mctp_steady (s : State) (binding : Nat) (k : State → State) (hk : (k s).steady = s.steady) :
    (s.mctp binding k).steady = s.steady := by
  simp [State.mctp, hk]

@[simp] theorem execSetEndpointId_steady (binding op eid : Nat) (s : State) :
    steadyAfter (execSetEndpointId binding op eid s) = some s.steady := by
  simp [execSetEndpointId]

@[simp] theorem execGetEndpointId_steady (binding : Nat) (s : State) : steadyAfter (execGetEndpointId binding s) = some s.steady := by
  simp [execGetEndpointId]

@[simp] theorem execGetEndpointUuid_steady (binding : Nat) (s : State) : steadyAfter (execGetEndpointUuid binding s) = some s.steady := by
  simp [execGetEndpointUuid]

@[simp] theorem execGetMctpVersionSupport_steady (binding typ : Nat) (s : State) :
    steadyAfter (execGetMctpVersionSupport binding typ s) = some s.steady := by
  simp [execGetMctpVersionSupport]

@[simp] theorem execGetMessageTypeSupport_steady (binding : Nat) (s : State) :
    steadyAfter (execGetMessageTypeSupport binding s) = some s.steady := by
  simp [execGetMessageTypeSupport]

@[simp] theorem execGetVendorDefinedMessageSupport_steady (binding selector : Nat) (s : State) :
    steadyAfter (execGetVendorDefinedMessageSupport binding selector s) = some s.steady := by
  simp [execGetVendorDefinedMessageSupport]

@[simp] theorem execMctpUnsupportedCommand_steady (binding cmd : Nat) (s : State) :
    steadyAfter (execMctpUnsupportedCommand binding cmd s) = some s.steady := by
  simp [execMctpUnsupportedCommand]

/-! ### Machine/Witness.lean -/

@[simp] theorem setWpair_steady (s : State) (q : Nat) (x : WitPair) : (s.setWpair q x).steady = s.steady := by simp [State.setWpair]
@[simp] theorem setStale_steady (s : State) (q u : Nat) (b : Bool) : (s.setStale q u b).steady = s.steady := by simp [State.setStale]

@[simp] theorem answer_steady (s : State) (q u wcode claim seq : Nat) (body : List Byte) :
    (s.answer q u wcode claim seq body).steady = s.steady := by
  simp [State.answer]

@[simp] theorem grant_steady (s : State) (q u : Nat) : (s.grant q u).steady = s.steady := by simp [State.grant]
@[simp] theorem noHolder_steady (s : State) (q : Nat) : (s.noHolder q).steady = s.steady := by simp [State.noHolder]
@[simp] theorem grantFree_steady (s : State) (q : Nat) : (s.grantFree q).steady = s.steady := by fun_cases State.grantFree s q <;> simp

/-- A message for a pair that the witness knows. -/
@[simp] theorem onPair_steady (s : State) (m : WitMsg) (f : Nat → State) (hf : ∀ q, (f q).steady = s.steady) :
    (s.onPair m f).steady = s.steady := by
  fun_cases State.onPair s m f <;> simp [hf]

@[simp] theorem execHello_steady (m : WitMsg) (s : State) : steadyAfter (execHello m s) = some s.steady := by
  fun_cases execHello m s
  simp
  split <;> simp

@[simp] theorem execLeaseReq_steady (m : WitMsg) (s : State) : steadyAfter (execLeaseReq m s) = some s.steady := by simp [execLeaseReq]
@[simp] theorem execHealth_steady (m : WitMsg) (s : State) : steadyAfter (execHealth m s) = some s.steady := by simp [execHealth]
@[simp] theorem execPeerLost_steady (m : WitMsg) (s : State) : steadyAfter (execPeerLost m s) = some s.steady := by simp [execPeerLost]
@[simp] theorem execInSync_steady (m : WitMsg) (s : State) : steadyAfter (execInSync m s) = some s.steady := by simp [execInSync]
@[simp] theorem execHandover_steady (m : WitMsg) (s : State) : steadyAfter (execHandover m s) = some s.steady := by simp [execHandover]

@[simp] theorem execGrantAck_steady (m : WitMsg) (s : State) : steadyAfter (execGrantAck m s) = some s.steady := by
  refine congrArg some (onPair_steady _ _ _ fun q => ?_)
  dsimp only
  repeat' split
  all_goals simp

@[simp] theorem execWitnessLeaseLapse_steady (q : Nat) (s : State) : steadyAfter (execWitnessLeaseLapse q s) = some s.steady := by
  unfold execWitnessLeaseLapse
  split <;> simp

@[simp] theorem execGrantRepeat_steady (q : Nat) (s : State) : steadyAfter (execGrantRepeat q s) = some s.steady := by
  unfold execGrantRepeat
  split <;> simp

@[simp] theorem execBadWitnessMessage_steady (s : State) : steadyAfter (execBadWitnessMessage s) = some s.steady := by
  simp [execBadWitnessMessage]

/-! ### The tick, the commands and the step -/

/-- A tick leaves the fixed part and the queue, and TBASE counts (R28). -/
theorem tick_steady (s : State) : s.tick.steady = (s.fixed, s.tbase + 1) := by
  rw [State.tick, settleArrays_steady, runReads_steady, fedDrain_steady, maintTick_steady]
  rfl

/-- Power applied to a device without power: TBASE starts anew where the always-on supply was lost (R351). -/
theorem execPowerOn_steady (pins : Straps) (aonLost held : Bool) (s : State) (hoff : s.hw.powered = false) :
    steadyAfter (execPowerOn pins aonLost held s) = some (s.fixed, if aonLost then 0 else s.tbase) := by
  cases aonLost <;> simp [execPowerOn, hoff] <;> rfl

/-- Power applied to a device that has it changes nothing. -/
theorem execPowerOn_powered (pins : Straps) (aonLost held : Bool) (s : State) (hon : s.hw.powered = true) :
    execPowerOn pins aonLost held s = .next s := by
  simp [execPowerOn, hon]

/-- Every command but the power-on keeps the steady part. -/
theorem exec_steady (c : Instr) (s : State) (h : ∀ pins aonLost held, c ≠ .powerOn pins aonLost held) :
    steadyAfter (exec c s) = some s.steady := by
  cases c with
  | powerOn pins aonLost held => exact absurd rfl (h pins aonLost held)
  | _ => simp [exec]

/-- What the steady part of an outcome says of its state. -/
theorem fixed_tbase_of_steadyAfter {t : State} {p : Variant × Nat × Nat × List Instr} {w : Word}
    (h : steadyAfter (.next t) = some (p, w)) : t.fixed = p ∧ t.tbase = w :=
  Prod.mk.inj (Option.some.inj h)

/-- What a command leaves of the fixed part, the queue and TBASE. -/
theorem exec_fixed_tbase {c : Instr} {s t : State} (h : exec c s = .next t) :
    t.fixed = s.fixed ∧ (t.tbase = s.tbase ∨ ((∃ pins held, c = .powerOn pins true held) ∧ t.tbase = 0)) := by
  by_cases hc : ∃ pins aonLost held, c = .powerOn pins aonLost held
  · obtain ⟨pins, aonLost, held, rfl⟩ := hc
    change execPowerOn pins aonLost held s = .next t at h
    cases hpow : s.hw.powered with
    | true =>
      rw [execPowerOn_powered pins aonLost held s hpow] at h
      cases h
      exact ⟨rfl, .inl rfl⟩
    | false =>
      have hsteady := execPowerOn_steady pins aonLost held s hpow
      obtain ⟨hfixed, htbase⟩ := fixed_tbase_of_steadyAfter (h ▸ hsteady)
      cases aonLost with
      | false => exact ⟨hfixed, .inl htbase⟩
      | true => exact ⟨hfixed, .inr ⟨⟨pins, held, rfl⟩, htbase⟩⟩
  · have hsteady := exec_steady c s (fun pins aonLost held heq => hc ⟨pins, aonLost, held, heq⟩)
    obtain ⟨hfixed, htbase⟩ := fixed_tbase_of_steadyAfter (h ▸ hsteady)
    exact ⟨hfixed, .inl htbase⟩

/-- The fixed part and the queue, component by component. -/
theorem fixed_eq_iff (s t : State) : t.fixed = s.fixed ↔
    t.hw.variant = s.hw.variant ∧ t.hw.dramGib = s.hw.dramGib ∧ t.hw.serial = s.hw.serial ∧ t.pending = s.pending := by
  simp [State.fixed]

/-- Settles O59: every operation keeps the steady part, so that a step changes of it only what the tick, the dispatch of the front command
and the power-on change. -/
theorem fixedPartAndTimebase : Obligations.FixedPartAndTimebase := by
  intro s t h
  unfold step at h
  split at h
  case h_1 hq =>
    cases h
    obtain ⟨hfixed, htbase⟩ := Prod.mk.injEq .. ▸ tick_steady s
    obtain ⟨hv, hd, hn, hp⟩ := (fixed_eq_iff s _).mp hfixed
    exact ⟨hv, hd, hn, by rw [hp, hq]; rfl, .inl ⟨hq, htbase⟩⟩
  case h_2 c rest hq =>
    obtain ⟨hfixed, htbase⟩ := exec_fixed_tbase h
    obtain ⟨hv, hd, hn, hp⟩ := (fixed_eq_iff _ t).mp hfixed
    refine ⟨hv, hd, hn, by rw [hp, hq]; rfl, .inr ?_⟩
    rcases htbase with htbase | ⟨⟨pins, held, rfl⟩, htbase⟩
    · exact .inl ⟨by simp [hq], htbase⟩
    · exact .inr ⟨⟨pins, held, by simp [hq]⟩, htbase⟩

end Sys2Proof.Machine
/-! ## The phase of the device: its mode and its Flush (R33, R41, R425)

One lemma for each operation that runs in Halted or in a function level reset: it leaves the mode register and the Flush as they are. An
operation that reaches a fatal condition, a write to the members or a declaration of failure does so in Halted only, and says so by a
hypothesis. They stand in the order of the model's files. As for the steady part, none is proved by rfl. -/

namespace Sys2Proof.Machine

/-- The mode register and the Flush that runs. -/
def State.phase (s : State) : ModeReg × Option FlushRun := (s.mode, s.power.flush)

/-- The phase of the state an outcome answers. -/
def phaseAfter : Host.Outcome State Fault Refusal → Option (ModeReg × Option FlushRun)
  | .next t => some t.phase
  | .fault _ => none
  | .refused _ => none

/-! ### Rules for updates, branches and folds -/

/-- Any fields but the mode register and the Flush may be replaced. -/
@[simp] theorem phase_update (s : State) (power : PowerState) (hp : power.flush = s.power.flush) (hw : Hw) (tbase : Word) (bar0 : Tbl Word)
    (elog : ErrorLog) (aon : AonLog) (corrected : Tbl CorrUnit)
    (health : Health) (dump : DumpState) (ep0 ep1 : Endpoint) (subRings : Tbl SubRing) (cplRings : Tbl CplRing) (pair : PairState)
    (threads : Tbl Thread) (skeins : Tbl Info) (skeinUsed : Tbl Bool) (pmem master : Tbl Word) (extents : List Extent)
    (maskCleared : Tbl Bool) (faults : Tbl FaultRec) (workFaults : Tbl Nat) (prk : PrkState) (arrays : Tbl ArrayInfo) (bands : Tbl Band)
    (ewords : Tbl EWord) (sleds : Tbl Sled) (hoop : Hoop) (lost : LostTables) (map : Tbl Word) (dlog : DeltaLog) (mc : MapCache)
    (dram : Mem) (poison : Tbl Bool) (hostTags : Tbl HostTag) (ats : List AtsEntry) (invals : List Inval) (vault : Mem)
    (sht : Tbl ShtChan) (sledCmds : Tbl SledCmd) (ports : Tbl Port) (readJobs : Tbl ReadJob) (devReads : Tbl DevRead)
    (bobbin : BobbinState) (recorder : Tbl Word) (thermal : Thermal) (boot : BootState) (fed : FedState)
    (doe : Tbl SpdmAnswer) (eids : Tbl Nat) (tbaseLatch fetchLast : Nat) (out : List OutMsg) (free : Nat) (pending : List Instr) :
    State.phase { s with
      hw, tbase, bar0, elog, aon, corrected, health, dump, ep0, ep1, subRings, cplRings, pair, threads, skeins, skeinUsed, pmem, master,
      extents, maskCleared, faults, workFaults, prk, arrays, bands, ewords, sleds, hoop, lost, map, dlog, mc, dram, poison, hostTags, ats,
      invals, vault, sht, sledCmds, ports, readJobs, devReads, bobbin, recorder, power, thermal, boot, fed, doe, eids, tbaseLatch,
      fetchLast, out, free, pending } = s.phase := by
  simp [State.phase, hp]

/-- The phase of the first component, read off an equation. -/
theorem phase_of_fst {α : Type} {s t : State} {p : State × α} {x : α} (h : p = (t, x)) (hp : p.1.phase = s.phase) :
    t.phase = s.phase := by
  rw [← hp, h]

/-- A branch keeps what both its sides keep. -/
@[simp] theorem phase_ite (c : Prop) [Decidable c] (s t : State) :
    (if c then s else t).phase = if c then s.phase else t.phase := apply_ite State.phase c s t

/-- As phase_ite, for an operation that also answers a value. -/
@[simp] theorem phase_fst_ite {α : Type} (c : Prop) [Decidable c] (p q : State × α) :
    (if c then p else q).1.phase = if c then p.1.phase else q.1.phase := apply_ite (fun p => p.1.phase) c p q

/-- An operation repeated along a list keeps what it keeps once. -/
@[simp] theorem foldl_phase {α : Type} (f : State → α → State) (h : ∀ s a, (f s a).phase = s.phase) (l : List α) (s : State) :
    (l.foldl f s).phase = s.phase := by
  induction l generalizing s with
  | nil => rfl
  | cons a l ih => rw [List.foldl_cons, ih, h]

/-- As foldl_phase, for an operation that keeps the phase in Halted. -/
theorem foldl_phase_of_halted {α : Type} (f : State → α → State)
    (h : ∀ s a, s.phase.1.cur = .halted → (f s a).phase = s.phase) (l : List α) (s : State) (hs : s.phase.1.cur = .halted) :
    (l.foldl f s).phase = s.phase := by
  induction l generalizing s with
  | nil => rfl
  | cons a l ih => rw [List.foldl_cons, ih _ (by rw [h s a hs]; exact hs), h s a hs]

/-- As foldl_phase, for an operation that carries a value along. -/
@[simp] theorem foldl_fst_phase {α β : Type} (f : State × β → α → State × β) (h : ∀ p a, (f p a).1.phase = p.1.phase)
    (l : List α) (p : State × β) : (l.foldl f p).1.phase = p.1.phase := by
  induction l generalizing p with
  | nil => rfl
  | cons a l ih => rw [List.foldl_cons, ih, h]

@[simp] theorem phaseAfter_next (t : State) : phaseAfter (.next t) = some t.phase := rfl
/-! ### Machine/Regs.lean -/

@[simp] theorem setReg_phase (s : State) (off : Nat) (w : Word) : (s.setReg off w).phase = s.phase := by simp [State.setReg]
@[simp] theorem setF_phase (s : State) (x : Field) (v : Nat) : (s.setF x v).phase = s.phase := by simp [State.setF]
@[simp] theorem setFlag_phase (s : State) (x : Field) (b : Bool) : (s.setFlag x b).phase = s.phase := by simp [State.setFlag]
@[simp] theorem incF_phase (s : State) (x : Field) (n : Nat) : (s.incF x n).phase = s.phase := by simp [State.incF]
@[simp] theorem satF_phase (s : State) (x : Field) (n : Nat) : (s.satF x n).phase = s.phase := by simp [State.satF]

/-! ### Machine/Ops.lean -/

@[simp] theorem bumpFree_phase (s : State) : s.bumpFree.phase = s.phase := by simp [State.bumpFree]
@[simp] theorem send_phase (s : State) (m : OutMsg) : (s.send m).phase = s.phase := by simp [State.send]
@[simp] theorem mirror_phase (s : State) (m : MirrorItem) : (s.mirror m).phase = s.phase := by simp [State.mirror]

@[simp] theorem setEp_phase (s : State) (e : Nat) (x : Endpoint) : (s.setEp e x).phase = s.phase := by
  simp [State.setEp]

@[simp] theorem msixDue_phase (s : State) (e v : Nat) : (s.msixDue e v).phase = s.phase := by simp [State.msixDue]
@[simp] theorem msixRelease_phase (s : State) (e : Nat) : (s.msixRelease e).phase = s.phase := by simp [State.msixRelease]
@[simp] theorem pmeCheck_phase (s : State) (e : Nat) : (s.pmeCheck e).phase = s.phase := by fun_cases State.pmeCheck s e <;> simp
@[simp] theorem raiseEvent_phase (s : State) (i : Nat) : (s.raiseEvent i).phase = s.phase := by simp [State.raiseEvent]

@[simp] theorem logRecAt_phase (s : State) (t : Word) (cls src unit code addr : Nat) (detail : BitVec 256) :
    (s.logRecAt t cls src unit code addr detail).phase = s.phase := by
  simp [State.logRecAt]

@[simp] theorem logRec_phase (s : State) (cls src unit code addr : Nat) (detail : BitVec 256) :
    (s.logRec cls src unit code addr detail).phase = s.phase := by
  simp [State.logRec]

@[simp] theorem logAon_phase (s : State) (code detail : Nat) : (s.logAon code detail).phase = s.phase := by simp [State.logAon]

@[simp] theorem notice_phase (s : State) (src unit code addr value detail : Nat) :
    (s.notice src unit code addr value detail).phase = s.phase := by
  simp [State.notice]

@[simp] theorem noticeOther_phase (s : State) (src unit addr value : Nat) : (s.noticeOther src unit addr value).phase = s.phase := by
  simp [State.noticeOther]

@[simp] theorem logCorrected_phase (s : State) (src unit addr : Nat) : (s.logCorrected src unit addr).phase = s.phase := by
  simp [State.logCorrected]

@[simp] theorem logDeferred_phase (s : State) (src unit code addr : Nat) : (s.logDeferred src unit code addr).phase = s.phase := by
  simp [State.logDeferred]

@[simp] theorem logOpen_phase (s : State) (cls src unit addr : Nat) : (s.logOpen cls src unit addr).phase = s.phase := by
  simp [State.logOpen]

@[simp] theorem logArrayOpen_phase (s : State) (a addr : Nat) : (s.logArrayOpen a addr).phase = s.phase := by simp [State.logArrayOpen]

@[simp] theorem healthEventAt_phase (s : State) (t : Word) (code : Nat) (critical : Bool) (src unit : Nat) (detail : Option (BitVec 256)) :
    (s.healthEventAt t code critical src unit detail).phase = s.phase := by
  simp [State.healthEventAt]

@[simp] theorem healthEvent_phase (s : State) (code : Nat) (critical : Bool) (src unit : Nat) (detail : Option (BitVec 256)) :
    (s.healthEvent code critical src unit detail).phase = s.phase := by
  simp [State.healthEvent]

@[simp] theorem aer_phase (s : State) (e : Nat) (k : AerError) (sev : Severity) : (s.aer e k sev).phase = s.phase := by
  fun_cases State.aer s e k sev
  simp +zetaDelta

/-! ### Machine/McOps.lean -/

@[simp] theorem setLine_phase (s : State) (set way : Nat) (l : CacheLine) : (s.setLine set way l).phase = s.phase := by
  simp [State.setLine]

@[simp] theorem setDramEntry_phase (s : State) (a g : Nat) (w : Word) : (s.setDramEntry a g w).phase = s.phase := by
  simp [State.setDramEntry]

@[simp] theorem writeLine_phase (s : State) (l : CacheLine) : (s.writeLine l).phase = s.phase := by simp [State.writeLine]
@[simp] theorem touchWay_phase (s : State) (set w : Nat) : (s.touchWay set w).phase = s.phase := by simp [State.touchWay]

@[simp] theorem fillLine_phase (s : State) (set w tag : Nat) (fresh : Bool) : (s.fillLine set w tag fresh).phase = s.phase := by
  simp [State.fillLine]

@[simp] theorem waitWriteBack_phase (s : State) (x : WriteBack) : (s.waitWriteBack x).phase = s.phase := by simp [State.waitWriteBack]
@[simp] theorem cleanLine_phase (s : State) (k : Nat) : (s.cleanLine k).phase = s.phase := by simp [State.cleanLine]

@[simp] theorem refill_phase (s : State) (x : WriteBack) (way : Option Nat) : (s.refill x way).phase = s.phase := by
  unfold State.refill
  split <;> simp

@[simp] theorem ackWriteBack_phase (s : State) (x : WriteBack) : (s.ackWriteBack x).phase = s.phase := by simp [State.ackWriteBack]

@[simp] theorem ackSet_phase (s : State) (set : Nat) : (s.ackSet set).phase = s.phase := by
  unfold State.ackSet
  split <;> simp

@[simp] theorem mapAccess_phase (s : State) (a g : Nat) : (s.mapAccess a g).phase = s.phase := by
  simp only [State.mapAccess]
  repeat' split
  all_goals simp

@[simp] theorem mapPut_phase (s : State) (a g : Nat) (v : Word) : (s.mapPut a g v).phase = s.phase := by
  fun_cases State.mapPut s a g v <;> simp +zetaDelta

/-! ### Machine/HostOps.lean -/

@[simp] theorem setChan_phase (s : State) (n : Nat) (x : ShtChan) : (s.setChan n x).phase = s.phase := by simp [State.setChan]
@[simp] theorem shtForget_phase (s : State) (n : Nat) : (s.shtForget n).phase = s.phase := by simp [State.shtForget]
@[simp] theorem ltrSync_phase (s : State) : s.ltrSync.phase = s.phase := by
  simp only [State.ltrSync]
  refine foldl_phase _ (fun s x => ?_) _ _
  split <;> simp

@[simp] theorem sayHello_phase (s : State) : s.sayHello.phase = s.phase := by simp [State.sayHello]
@[simp] theorem slowClocks_phase (s : State) : s.slowClocks.phase = s.phase := by simp [State.slowClocks]
@[simp] theorem dumpWindows_phase (s : State) : s.dumpWindows.phase = s.phase := by simp [State.dumpWindows]

@[simp] theorem xlatTouch_phase (s : State) (e addr len : Nat) : (s.xlatTouch e addr len).phase = s.phase := by simp [State.xlatTouch]
@[simp] theorem xlatAdd_phase (s : State) (l : List AtsEntry) : (s.xlatAdd l).phase = s.phase := by simp [State.xlatAdd]

@[simp] theorem hostRead_phase (s : State) (e : Nat) (rd : Reader) (addr len : Nat) (ats : Bool) :
    (s.hostRead e rd addr len ats).1.phase = s.phase := by
  unfold State.hostRead
  split <;> simp

@[simp] theorem hostWrite_phase (s : State) (e : Nat) (rd : Reader) (addr : Nat) (ats ep_ : Bool) (bytes : List Byte) :
    (s.hostWrite e rd addr ats ep_ bytes).phase = s.phase := by
  fun_cases State.hostWrite s e rd addr ats ep_ bytes <;> simp

/-! ### Machine/RingOps.lean -/

@[simp] theorem setSub_phase (s : State) (r : Nat) (x : SubRing) : (s.setSub r x).phase = s.phase := by simp [State.setSub]
@[simp] theorem setCpl_phase (s : State) (q : Nat) (x : CplRing) : (s.setCpl q x).phase = s.phase := by simp [State.setCpl]
@[simp] theorem cqVector_phase (s : State) (q : Nat) : (s.cqVector q).phase = s.phase := by simp [State.cqVector]
@[simp] theorem coalesce_phase (s : State) (q : Nat) (irq : Bool) : (s.coalesce q irq).phase = s.phase := by simp [State.coalesce]

@[simp] theorem setFetchStop_phase (s : State) (q : Nat) (b : Bool) : (s.setFetchStop q b).phase = s.phase := by
  simp [State.setFetchStop]

@[simp] theorem backpressure_phase (s : State) (q : Nat) : (s.backpressure q).phase = s.phase := by simp [State.backpressure]

@[simp] theorem fenceSync_phase (s : State) (r : Nat) : (s.fenceSync r).phase = s.phase := by simp [State.fenceSync]

/-! ### Machine/FtlOps.lean -/

@[simp] theorem setBand_phase (s : State) (a b : Nat) (x : Band) : (s.setBand a b x).phase = s.phase := by simp [State.setBand]
@[simp] theorem setSled_phase (s : State) (n : Nat) (x : Sled) : (s.setSled n x).phase = s.phase := by simp [State.setSled]
@[simp] theorem mirrorRegs_phase (s old : State) (a : Nat) : (s.mirrorRegs old a).phase = s.phase := by simp [State.mirrorRegs]
@[simp] theorem paceAfresh_phase (s : State) (a : Nat) : (s.paceAfresh a).phase = s.phase := by simp [State.paceAfresh]

@[simp] theorem syncArray_phase (s : State) (a : Nat) : (s.syncArray a).phase = s.phase := by
  unfold State.syncArray
  split <;> simp

@[simp] theorem syncDlog_phase (s : State) : s.syncDlog.phase = s.phase := by simp [State.syncDlog]

@[simp] theorem appendDelta_phase (s : State) (kind a key : Nat) (value : Word) : (s.appendDelta kind a key value).phase = s.phase := by
  simp [State.appendDelta]

@[simp] theorem setEword_phase (s : State) (n b : Nat) (e : EWord) : (s.setEword n b e).phase = s.phase := by simp [State.setEword]

@[simp] theorem setBandLogged_phase (s : State) (a b : Nat) (x : Band) : (s.setBandLogged a b x).phase = s.phase := by
  simp [State.setBandLogged]

@[simp] theorem countValid_phase (s : State) (a pga : Nat) (up : Bool) : (s.countValid a pga up).phase = s.phase := by
  simp [State.countValid]

@[simp] theorem applyEntry_phase (s : State) (a g low : Nat) : (s.applyEntry a g low).phase = s.phase := by simp [State.applyEntry]
@[simp] theorem logEntry_phase (s : State) (a g low : Nat) : (s.logEntry a g low).phase = s.phase := by simp [State.logEntry]
@[simp] theorem syncDirty_phase (s : State) : s.syncDirty.phase = s.phase := by simp [State.syncDirty]

@[simp] theorem mirrorVersion_phase (s : State) (seq : Nat) : (s.mirrorVersion seq).phase = s.phase := by
  fun_cases State.mirrorVersion s seq <;> simp

@[simp] theorem putVersion_phase (s : State) (v : Version) : (s.putVersion v).phase = s.phase := by simp [State.putVersion]
@[simp] theorem setRegion_phase (s : State) (r : Nat) (b : Bool) : (s.setRegion r b).phase = s.phase := by simp [State.setRegion]
@[simp] theorem setCentry_phase (s : State) (e : Nat) (x : CEntry) : (s.setCentry e x).phase = s.phase := by simp [State.setCentry]
@[simp] theorem clearRegion_phase (s : State) (a b : Nat) : (s.clearRegion a b).phase = s.phase := by simp [State.clearRegion]
@[simp] theorem dropEntry_phase (s : State) (e : Nat) : (s.dropEntry e).phase = s.phase := by simp [State.dropEntry]
@[simp] theorem freeEntryOf_phase (s : State) (e : Nat) : (s.freeEntryOf e).phase = s.phase := by simp [State.freeEntryOf]
@[simp] theorem reapEntry_phase (s : State) (e : Nat) : (s.reapEntry e).phase = s.phase := by simp [State.reapEntry]
@[simp] theorem reapAll_phase (s : State) : s.reapAll.phase = s.phase := by simp [State.reapAll]

@[simp] theorem setGather_phase (s : State) (a c : Nat) (fg : Bool) (x : Gather) : (s.setGather a c fg x).phase = s.phase := by
  simp [State.setGather]

@[simp] theorem setJobs_phase (s : State) (l : List StripeJob) : (s.setJobs l).phase = s.phase := by simp [State.setJobs]

@[simp] theorem stripeFull_phase (s : State) (a c : Nat) (fg : Bool) : (s.stripeFull a c fg).phase = s.phase := by
  simp [State.stripeFull]

@[simp] theorem placeVersion_phase (s : State) (v : Version) : (s.placeVersion v).phase = s.phase := by simp [State.placeVersion]
@[simp] theorem forceOut_phase (s : State) (a c : Nat) (fg : Bool) : (s.forceOut a c fg).phase = s.phase := by simp [State.forceOut]
@[simp] theorem forceAll_phase (s : State) (p : Nat → Bool) : (s.forceAll p).phase = s.phase := by simp [State.forceAll]
@[simp] theorem regather_phase (s : State) (e : Nat) : (s.regather e).phase = s.phase := by simp [State.regather]

@[simp] theorem closeBand_phase (s : State) (a b : Nat) (early pfail : Bool) : (s.closeBand a b early pfail).phase = s.phase := by
  simp [State.closeBand]

@[simp] theorem abandonEntry_phase (s : State) (e : Nat) (pfail : Bool) : (s.abandonEntry e pfail).phase = s.phase := by
  simp [State.abandonEntry]

@[simp] theorem passStep6_phase (s : State) (a g seq : Nat) : (s.passStep6 a g seq).phase = s.phase := by simp [State.passStep6]

/-! ### Machine/LostOps.lean -/

@[simp] theorem syncLost_phase (s : State) : s.syncLost.phase = s.phase := by simp [State.syncLost]

@[simp] theorem addLostGrain_phase (s : State) (a g vseq : Nat) : (s.addLostGrain a g vseq).phase = s.phase := by
  simp [State.addLostGrain]

@[simp] theorem freeLostGrain_phase (s : State) (a g : Nat) : (s.freeLostGrain a g).phase = s.phase := by simp [State.freeLostGrain]

@[simp] theorem findLost_phase (s : State) (found a b st : Nat) (x : StripeLoss) : (s.findLost found a b st x).phase = s.phase := by
  simp [State.findLost]

@[simp] theorem syncRun_phase (s : State) (a : Nat) : (s.syncRun a).phase = s.phase := by simp [State.syncRun]

@[simp] theorem enterArrayState_phase (s : State) (a st : Nat) : (s.enterArrayState a st).phase = s.phase := by
  simp [State.enterArrayState]

@[simp] theorem syncMembers_phase (s : State) (a : Nat) : (s.syncMembers a).phase = s.phase := by simp [State.syncMembers]

/-! ### Machine/Threads.lean -/

@[simp] theorem setThr_phase (s : State) (th : Nat) (t : Thread) : (s.setThr th t).phase = s.phase := by simp [State.setThr]
@[simp] theorem setSkein_phase (s : State) (c i : Nat) (x : Info) : (s.setSkein c i x).phase = s.phase := by simp [State.setSkein]

@[simp] theorem markSkeins_phase (s : State) (c : Nat) (l : List Nat) (b : Bool) : (s.markSkeins c l b).phase = s.phase := by
  simp [State.markSkeins]

@[simp] theorem freeRuns_phase (s : State) (th : Nat) : (s.freeRuns th).phase = s.phase := by simp [State.freeRuns]

@[simp] theorem setRunInfo_phase (s : State) (th h k : Nat) (x : Info) : (s.setRunInfo th h k x).phase = s.phase := by
  simp [State.setRunInfo]

@[simp] theorem putInfos_phase (s : State) (th h k : Nat) (l : List Info) : (s.putInfos th h k l).phase = s.phase := by
  simp [State.putInfos]

@[simp] theorem asyncDone_phase (s : State) (th id outcome : Nat) : (s.asyncDone th id outcome).phase = s.phase := by
  simp [State.asyncDone]

@[simp] theorem startThread_phase (s : State) (th pattern : Nat) (g : List Word) (g8 g9 : Word) (perm : Nat) :
    (s.startThread th pattern g g8 g9 perm).phase = s.phase := by
  simp [State.startThread]

@[simp] theorem reapExtents_phase (s : State) : s.reapExtents.phase = s.phase := by simp [State.reapExtents]

@[simp] theorem tellStarter_phase (s : State) (th status : Nat) : (s.tellStarter th status).phase = s.phase := by
  unfold State.tellStarter
  split <;> simp

@[simp] theorem freeHelper_phase (s : State) (th : Nat) : (s.freeHelper th).phase = s.phase := by
  unfold State.freeHelper
  split <;> simp

@[simp] theorem finishThread_phase (s : State) (th : Nat) : (s.finishThread th).phase = s.phase := by simp [State.finishThread]
@[simp] theorem leaveEngine_phase (s : State) (th : Nat) : (s.leaveEngine th).phase = s.phase := by simp [State.leaveEngine]
@[simp] theorem endThread_phase (s0 : State) (th : Nat) : (s0.endThread th).phase = s0.phase := by simp [State.endThread]
@[simp] theorem abandonOwned_phase (s : State) (th : Nat) : (s.abandonOwned th).phase = s.phase := by simp [State.abandonOwned]

/-! ### Machine/DumpOps.lean -/

@[simp] theorem setDumpSlot_phase (s : State) (i : Nat) (d : Option Dump) : (s.setDumpSlot i d).phase = s.phase := by
  simp [State.setDumpSlot]

@[simp] theorem syncVaddr_phase (s : State) : s.syncVaddr.phase = s.phase := by
  unfold State.syncVaddr
  split <;> simp

@[simp] theorem saveDump_phase (s : State) (d : Dump) : (s.saveDump d).phase = s.phase := by simp [State.saveDump]

@[simp] theorem cutDump_phase (s : State) : s.cutDump.phase = s.phase := by
  unfold State.cutDump
  split <;> simp

/-! ### Machine/SledOps.lean -/

@[simp] theorem setPort_phase (s : State) (p : Nat) (x : Port) : (s.setPort p x).phase = s.phase := by simp [State.setPort]

@[simp] theorem pumpPort_phase (s : State) (p n : Nat) : (s.pumpPort p n).phase = s.phase := by
  induction n generalizing s with
  | zero => rfl
  | succ n ih => 
    simp only [State.pumpPort]
    repeat' split
    all_goals simp [ih]

@[simp] theorem pump_phase (s : State) (p : Nat) : (s.pump p).phase = s.phase := by simp [State.pump]
@[simp] theorem setHop_phase (s : State) (p h : Nat) (x : Hop) : (s.setHop p h x).phase = s.phase := by simp [State.setHop]

@[simp] theorem chargeShare_phase (s : State) (n : Nat) (sh : Share) (cost : Nat) : (s.chargeShare n sh cost).phase = s.phase := by
  unfold State.chargeShare
  split <;> simp

@[simp] theorem keepCommand_phase (s : State) (p : Nat) (c : SledCmd) : (s.keepCommand p c).phase = s.phase := by
  simp [State.keepCommand]

/-- A command to a sled, sent or kept. The number of tags is generalised, so that the search for a free one is not evaluated. -/
@[simp] theorem issueSled_phase (s : State) (p : Nat) (c : SledCmd) : (s.issueSled p c).phase = s.phase := by
  unfold State.issueSled
  generalize s.sledCmds.fresh (sledKey p 0) 512 = tag
  cases tag with
  | none => exact keepCommand_phase s p c
  | some k =>
    dsimp only
    rw [phase_ite, keepCommand_phase, pump_phase, setPort_phase, phase_update _ _ rfl]
    cases c.sled <;> simp

@[simp] theorem sendSled_phase (s : State) (n : Nat) (kind : SledKind) (array : Nat) (scope : Bool) (why : Purpose) (share : Share) :
    (s.sendSled n kind array scope why share).phase = s.phase := by
  simp [State.sendSled]

@[simp] theorem tryWaiting_phase (s : State) (p n : Nat) (l : List SledCmd) : (s.tryWaiting p n l).phase = s.phase := by
  fun_induction State.tryWaiting s p n l <;> simp [*]

@[simp] theorem retryWaiting_phase (s : State) (p : Nat) : (s.retryWaiting p).phase = s.phase := by simp [State.retryWaiting]

@[simp] theorem setSledHealth_phase (s : State) (n : Nat) (x : SledHealth) : (s.setSledHealth n x).phase = s.phase := by
  simp [State.setSledHealth]

@[simp] theorem countCodeword_phase (s : State) (n step : Nat) : (s.countCodeword n step).phase = s.phase := by
  simp [State.countCodeword]

@[simp] theorem countUncorrectable_phase (s : State) (n : Nat) : (s.countUncorrectable n).phase = s.phase := by
  simp [State.countUncorrectable]

@[simp] theorem setJob_phase (s : State) (j : Nat) (x : ReadJob) : (s.setJob j x).phase = s.phase := by simp [State.setJob]

@[simp] theorem readCol_phase (s : State) (j : Nat) (x : ReadJob) (k level : Nat) : (s.readCol j x k level).1.phase = s.phase := by
  unfold State.readCol
  split <;> simp

@[simp] theorem readCols_phase (s : State) (j : Nat) (x : ReadJob) (keys : List Nat) : (s.readCols j x keys).1.phase = s.phase := by
  simp [State.readCols]

@[simp] theorem recover_phase (s : State) (x : ReadJob) (k step : Nat) (w : Info) : (s.recover x k step w).1.phase = s.phase := by
  simp [State.recover]

@[simp] theorem giveUp_phase (s : State) (x : ReadJob) (k : Nat) (last : Info) : (s.giveUp x k last).1.phase = s.phase := by
  simp [State.giveUp]

@[simp] theorem solveCols_phase (s : State) (x : ReadJob) (step : Nat) (cols : List Nat) :
    (s.solveCols x step cols).1.phase = s.phase := by
  refine foldl_fst_phase _ (fun p c => ?_) _ _
  dsimp only
  split <;> simp

@[simp] theorem jointRound_phase (s : State) (x : ReadJob) (iter : Nat) : (s.jointRound x iter).1.phase = s.phase := by
  refine foldl_fst_phase _ (fun p k => ?_) _ _
  dsimp only
  split <;> simp

@[simp] theorem endAssist_phase (s : State) (j : Nat) (x : ReadJob) : (s.endAssist j x).1.phase = s.phase := by
  fun_cases State.endAssist s j x
  case case1 => exact readCols_phase ..
  case case2 p q =>
    calc q.1.phase = p.1.phase := foldl_fst_phase _ (fun r k => by split <;> simp) _ _
      _ = s.phase := solveCols_phase ..

@[simp] theorem runJoint_phase (s : State) (j : Nat) (x : ReadJob) (n : Nat) : (s.runJoint j x n).1.phase = s.phase := by
  induction n generalizing s x with
  | zero => exact endAssist_phase s j x
  | succ n ih =>
    simp only [State.runJoint]
    repeat' split
    all_goals simp [ih]

@[simp] theorem assistJob_phase (s : State) (j : Nat) (x : ReadJob) : (s.assistJob j x).1.phase = s.phase := by
  fun_cases State.assistJob s j x <;> simp

@[simp] theorem noteXfer_phase (s : State) (th id step : Nat) (bad : Bool) (status : Nat) :
    (s.noteXfer th id step bad status).phase = s.phase := by
  fun_cases State.noteXfer s th id step bad status <;> simp +zetaDelta

@[simp] theorem endFetch_phase (s : State) (j : Nat) (x : ReadJob) (th id place : Nat) (expect : Option (Nat × Nat)) :
    (s.endFetch j x th id place expect).phase = s.phase := by
  fun_cases State.endFetch s j x th id place expect <;> simp +zetaDelta

@[simp] theorem endDevice_phase (s : State) (j k : Nat) (x : ReadJob) : (s.endDevice j k x).phase = s.phase := by
  simp only [State.endDevice]
  split <;> simp

@[simp] theorem endJob_phase (s : State) (j : Nat) (x : ReadJob) : (s.endJob j x).phase = s.phase := by
  unfold State.endJob
  split <;> simp

@[simp] theorem unassisted_phase (s : State) (x : ReadJob) : (s.unassisted x).phase = s.phase := by simp [State.unassisted]
@[simp] theorem settleJob_phase (s : State) (j : Nat) (x : ReadJob) : (s.settleJob j x).phase = s.phase := by simp [State.settleJob]
@[simp] theorem runJob_phase (s : State) (j a : Nat) : (s.runJob j a).phase = s.phase := by fun_induction State.runJob s j a <;> simp [*]

@[simp] theorem startJob_phase (s : State) (x : ReadJob) : (s.startJob x).phase = s.phase := by
  unfold State.startJob
  split <;> simp

@[simp] theorem readErased_phase (s : State) (j k : Nat) : (s.readErased j k).phase = s.phase := by
  fun_cases State.readErased s j k <;> simp

/-! ### Machine/BandOps.lean -/

@[simp] theorem takeBlock_phase (s : State) (a b n blk : Nat) (slc : Bool) : (s.takeBlock a b n blk slc).phase = s.phase := by
  simp [State.takeBlock]

@[simp] theorem syncSpace_phase (s : State) (a : Nat) : (s.syncSpace a).phase = s.phase := by simp [State.syncSpace]
@[simp] theorem closeIfFull_phase (s : State) (a b : Nat) : (s.closeIfFull a b).phase = s.phase := by simp [State.closeIfFull]
@[simp] theorem closeStripe_phase (s : State) (e : Nat) : (s.closeStripe e).phase = s.phase := by simp [State.closeStripe]
@[simp] theorem abandonMember_phase (s : State) (a b k : Nat) : (s.abandonMember a b k).phase = s.phase := by simp [State.abandonMember]
@[simp] theorem markFailed_phase (s : State) (a b k : Nat) : (s.markFailed a b k).phase = s.phase := by simp [State.markFailed]

@[simp] theorem programFailed_phase (s : State) (e col : Nat) (interim onBlock : Bool) :
    (s.programFailed e col interim onBlock).phase = s.phase := by
  simp [State.programFailed]

@[simp] theorem retireBlock_phase (s : State) (a n blk st : Nat) : (s.retireBlock a n blk st).phase = s.phase := by
  simp [State.retireBlock]

@[simp] theorem finishErase_phase (s : State) (a b : Nat) : (s.finishErase a b).phase = s.phase := by simp [State.finishErase]

/-! ### Machine/CommitOps.lean -/

@[simp] theorem setBankWaits_phase (s : State) (l : List BankWait) : (s.setBankWaits l).phase = s.phase := by simp [State.setBankWaits]
@[simp] theorem endBankWait_phase (s : State) (th : Nat) : (s.endBankWait th).phase = s.phase := by simp [State.endBankWait]
@[simp] theorem setHealthy_phase (s : State) (b : Bool) : (s.setHealthy b).phase = s.phase := by simp [State.setHealthy]

@[simp] theorem dramWrite_phase (s : State) (addr : Nat) (bs : List Byte) : (s.dramWrite addr bs).phase = s.phase := by
  simp [State.dramWrite]

/-! ### Machine/Writer.lean -/

@[simp] theorem endLoss_phase (s : State) (a g seq : Nat) : (s.endLoss a g seq).phase = s.phase := by simp [State.endLoss]
@[simp] theorem mapup_phase (s : State) (a g cond d low : Nat) : (s.mapup a g cond d low).phase = s.phase := by simp [State.mapup]

@[simp] theorem sendProgram_phase (s : State) (th id e col : Nat) (interim : Bool) (first : Nat) (words : List Info) :
    (s.sendProgram th id e col interim first words).phase = s.phase := by
  unfold State.sendProgram
  split <;> simp

@[simp] theorem setWorks_phase (s : State) (l : List StripeWork) : (s.setWorks l).phase = s.phase := by simp [State.setWorks]
@[simp] theorem putWork_phase (s : State) (w : StripeWork) : (s.putWork w).phase = s.phase := by simp [State.putWork]
@[simp] theorem releaseHeld_phase (s : State) : s.releaseHeld.phase = s.phase := by simp [State.releaseHeld]

@[simp] theorem stepSix_phase (s : State) (w : StripeWork) (hi : Nat) : (s.stepSix w hi).phase = s.phase := by simp [State.stepSix]
@[simp] theorem settleReads_phase (s : State) : s.settleReads.phase = s.phase := by simp [State.settleReads]

@[simp] theorem finishRound_phase (s : State) (w : StripeWork) : (s.finishRound w).phase = s.phase := by
  unfold State.finishRound
  split <;> simp

/-! ### Machine/RegOps.lean -/

@[simp] theorem regNotice_phase (s : State) (code off : Nat) (value : Word) (detail : Nat) :
    (s.regNotice code off value detail).phase = s.phase := by
  simp [State.regNotice]

/-! ### Machine/EntryOps.lean -/

@[simp] theorem acceptEntry_phase (s : State) (r : Nat) (e : Entry) : (s.acceptEntry r e).phase = s.phase := by simp [State.acceptEntry]

@[simp] theorem takeEarly_phase (s : State) (r a : Nat) : (s.takeEarly r a).phase = s.phase := by
  fun_induction State.takeEarly s r a <;> simp_all

/-! ### Machine/Shuttle.lean -/

@[simp] theorem setSkeinByte_phase (s : State) (a : Nat) (b : Byte) : (s.setSkeinByte a b).phase = s.phase := by
  simp [State.setSkeinByte]

@[simp] theorem shtWrite_phase (s : State) (n sp a : Nat) (bs : List Byte) : (s.shtWrite n sp a bs).phase = s.phase := by
  unfold State.shtWrite
  split <;> simp

@[simp] theorem shtEvent_phase (s : State) : s.shtEvent.phase = s.phase := by simp [State.shtEvent]
@[simp] theorem shtEnd_phase (s : State) (n state ecode : Nat) : (s.shtEnd n state ecode).phase = s.phase := by simp [State.shtEnd]
@[simp] theorem shtAllStop_phase (s : State) (n addr : Nat) : (s.shtAllStop n addr).phase = s.phase := by simp [State.shtAllStop]

@[simp] theorem shtAsk_phase (s : State) (n : Nat) (d : ShtDesc) : (s.shtAsk n d).phase = s.phase := by
  unfold State.shtAsk
  split <;> simp

@[simp] theorem shtBusError_phase (s : State) (n addr : Nat) : (s.shtBusError n addr).phase = s.phase := by
  fun_cases State.shtBusError s n addr <;> simp

@[simp] theorem shtUnit_phase (s : State) (n : Nat) (d : ShtDesc) (dstBytes : Option (List Byte)) :
    (s.shtUnit n d dstBytes).phase = s.phase := by
  fun_cases State.shtUnit s n d dstBytes <;> simp +zetaDelta

@[simp] theorem shtNext_phase (s : State) (n : Nat) (d : ShtDesc) : (s.shtNext n d).phase = s.phase := by
  unfold State.shtNext
  split <;> simp

@[simp] theorem shtAdvance_phase (s : State) (n upto a : Nat) : (s.shtAdvance n upto a).phase = s.phase := by
  fun_induction State.shtAdvance s n upto a <;> simp [*]

@[simp] theorem shtStart_phase (s : State) (n : Nat) (d : ShtDesc) : (s.shtStart n d).phase = s.phase := by simp [State.shtStart]

@[simp] theorem shtDone_phase (s : State) (n : Nat) (d : ShtDesc) : (s.shtDone n d).phase = s.phase := by
  simp only [State.shtDone]
  split <;> simp

@[simp] theorem shtArrived_phase (s : State) (n : Nat) (bs : List Byte) : (s.shtArrived n bs).phase = s.phase := by
  fun_cases State.shtArrived s n bs <;> simp +zetaDelta

/-! ### Machine/HostPort.lean -/

@[simp] theorem winLast_phase (s : State) (e off reqid : Nat) (read : Bool) : (s.winLast e off reqid read).phase = s.phase := by
  simp [State.winLast]

@[simp] theorem poisonSeen_phase (s : State) (e : Nat) (sev : Severity) : (s.poisonSeen e sev).phase = s.phase := by
  simp [State.poisonSeen]

@[simp] theorem runInvals_phase (s : State) (a : Nat) : (s.runInvals a).phase = s.phase := by
  fun_induction State.runInvals s a <;> simp_all

@[simp] theorem settleInvals_phase (s : State) : s.settleInvals.phase = s.phase := by simp [State.settleInvals]
@[simp] theorem dropAts_phase (s : State) (e : Nat) : (s.dropAts e).phase = s.phase := by simp [State.dropAts]
@[simp] theorem freeTag_phase (s : State) (k : Nat) : (s.freeTag k).phase = s.phase := by simp [State.freeTag]

@[simp] theorem shtRetryAsk_phase (s : State) : s.shtRetryAsk.phase = s.phase := by
  simp only [State.shtRetryAsk]
  refine foldl_phase _ (fun s x => ?_) _ _
  split <;> simp

@[simp] theorem threadHostFails_phase (s : State) (th id outcome : Nat) : (s.threadHostFails th id outcome).phase = s.phase := by
  simp [State.threadHostFails]

@[simp] theorem putHostBlocks_phase (s : State) (th : Nat) (f : Xfer) (bs : List Byte) (marked : List (Nat × Nat)) :
    (s.putHostBlocks th f bs marked).phase = s.phase := by
  simp [State.putHostBlocks]

@[simp] theorem threadHostEnds_phase (s : State) (e th id : Nat) (res : HostResult) :
    (s.threadHostEnds e th id res).phase = s.phase := by
  fun_cases State.threadHostEnds s e th id res <;> simp +zetaDelta

@[simp] theorem shtHostEnds_phase (s : State) (e n : Nat) (res : HostResult) : (s.shtHostEnds e n res).phase = s.phase := by
  unfold State.shtHostEnds
  split <;> simp

@[simp] theorem shtWriteFails_phase (s : State) (n addr : Nat) (m : OutMsg) : (s.shtWriteFails n addr m).phase = s.phase := by
  unfold State.shtWriteFails
  split <;> simp

@[simp] theorem lateCompletion_phase (s : State) (e k : Nat) : (s.lateCompletion e k).phase = s.phase := by
  unfold State.lateCompletion
  split <;> simp

@[simp] theorem clockSync_phase (s : State) (c : Nat) : (s.clockSync c).phase = s.phase := by simp [State.clockSync]
@[simp] theorem resetRegs_phase (s : State) (e : Nat) : (s.resetRegs e).phase = s.phase := by simp [State.resetRegs]
@[simp] theorem endCalls_phase (s : State) (e : Nat) : (s.endCalls e).phase = s.phase := by simp [State.endCalls]
@[simp] theorem silenceThreads_phase (s : State) (e : Nat) : (s.silenceThreads e).phase = s.phase := by simp [State.silenceThreads]
@[simp] theorem resetUnits_phase (s : State) (e : Nat) : (s.resetUnits e).phase = s.phase := by simp [State.resetUnits]

@[simp] theorem resetEndpoint_phase (s : State) (e : Nat) (busy : Bool) : (s.resetEndpoint e busy).phase = s.phase := by
  simp [State.resetEndpoint]

/-! ### Machine/Events.lean -/

@[simp] theorem startWork_phase (s : State) (c pattern : Nat) (words : List Word) (starter : Option (Nat × Nat)) :
    (s.startWork c pattern words starter).1.phase = s.phase := by
  unfold State.startWork
  split <;> simp

@[simp] theorem setFed_phase (s : State) (x : FedState) : (s.setFed x).phase = s.phase := by simp [State.setFed]

/-! ### Machine/Completion.lean -/

@[simp] theorem dropMirrored_phase (s : State) (o : AsyncOp) : (s.dropMirrored o).phase = s.phase := by
  unfold State.dropMirrored
  split <;> simp

/-! ### Machine/Hoop.lean -/

@[simp] theorem syncAll_phase (s : State) : s.syncAll.phase = s.phase := by simp [State.syncAll]

@[simp] theorem resyncNext_phase (s : State) (rest : List Nat) (total : Nat) : (s.resyncNext rest total).phase = s.phase := by
  simp [State.resyncNext]

/-! ### Machine/Members.lean -/

@[simp] theorem setDlog_phase (s : State) (l : DeltaLog) : (s.setDlog l).phase = s.phase := by simp [State.setDlog]

@[simp] theorem countMissing_phase (s : State) : s.countMissing.phase = s.phase := by simp [State.countMissing]

/-! ### Machine/ModeOps.lean -/

@[simp] theorem setCaps_phase (s : State) (f : Nat → Nat) : (s.setCaps f).phase = s.phase := by simp [State.setCaps]
@[simp] theorem ledger_phase (s : State) (step event unit : Nat) : (s.ledger step event unit).phase = s.phase := by simp [State.ledger]

/-! ### Machine/Power.lean -/

@[simp] theorem powerLost_phase (s : State) : s.powerLost.phase = s.phase := by simp [State.powerLost]
@[simp] theorem saveHealth_phase (s : State) : s.saveHealth.phase = s.phase := by simp [State.saveHealth]
@[simp] theorem askTest_phase (s : State) : s.askTest.phase = s.phase := by simp [State.askTest]
@[simp] theorem throttle_phase (s : State) (new sensor : Nat) : (s.throttle new sensor).phase = s.phase := by simp [State.throttle]
@[simp] theorem caseReads_phase (s : State) (t : Nat) : (s.caseReads t).phase = s.phase := by simp [State.caseReads]

@[simp] theorem pollStores_phase (s : State) (temps : List Nat) (vin iin vbank : Nat) (pfail : Bool) :
    (s.pollStores temps vin iin vbank pfail).phase = s.phase := by
  simp [State.pollStores]

/-! ### Machine/PairOps.lean -/

/-- PAIR_STAT's event changes no more than the update it follows. -/
@[simp] theorem pairStat_phase (s : State) (f : State → State) (hf : (f s).phase = s.phase) : (s.pairStat f).phase = s.phase := by
  simp [State.pairStat, hf]

@[simp] theorem sendWit_phase (s : State) (wcode : Nat) (body : List Byte) : (s.sendWit wcode body).phase = s.phase := by
  simp [State.sendWit]

@[simp] theorem sendHello_phase (s : State) : s.sendHello.phase = s.phase := by
  unfold State.sendHello
  split <;> simp

@[simp] theorem fromWitness_phase (s : State) : s.fromWitness.phase = s.phase := by simp [State.fromWitness]

@[simp] theorem releaseEmits_phase (s : State) : s.releaseEmits.phase = s.phase := by
  refine (foldl_phase _ (fun t e => foldl_phase _ (fun u o => ?_) _ _) _ _).trans (releaseHeld_phase s)
  split <;> simp

@[simp] theorem syncDurable_phase (s : State) : s.syncDurable.phase = s.phase := by simp [State.syncDurable]

@[simp] theorem declarePeerLost_phase (s : State) : s.declarePeerLost.phase = s.phase := by simp [State.declarePeerLost]
@[simp] theorem lapseCommits_phase (s : State) : s.lapseCommits.phase = s.phase := by simp [State.lapseCommits]
@[simp] theorem loseLease_phase (s : State) : s.loseLease.phase = s.phase := by simp [State.loseLease]

/-! ### Machine/Links.lean -/

@[simp] theorem protoError_phase (s : State) (p type : Nat) : (s.protoError p type).phase = s.phase := by simp [State.protoError]
@[simp] theorem takeAck_phase (s : State) (link : Nat) (f : Frame) : (s.takeAck link f).phase = s.phase := by simp [State.takeAck]

@[simp] theorem hopLost_phase (s : State) (p h : Nat) : (s.hopLost p h).phase = s.phase := by
  simp only [State.hopLost]
  repeat' split
  all_goals simp

@[simp] theorem hopsLost_phase (s : State) (p h : Nat) : (s.hopsLost p h).phase = s.phase := by simp [State.hopsLost]
@[simp] theorem retrain_phase (s : State) (p : Nat) : (s.retrain p).phase = s.phase := by simp [State.retrain]

@[simp] theorem pairPortUp_phase (s : State) (link : Nat) (up : Bool) : (s.pairPortUp link up).phase = s.phase := by
  simp [State.pairPortUp]

@[simp] theorem learnPeer_phase (s : State) (serial : Nat) : (s.learnPeer serial).phase = s.phase := by simp [State.learnPeer]

@[simp] theorem linkTrained_phase (s : State) (link hop ack ctrl bulk serial : Nat) :
    (s.linkTrained link hop ack ctrl bulk serial).phase = s.phase := by
  simp [State.linkTrained]

@[simp] theorem powerOff_phase (s : State) (p h state : Nat) : (s.powerOff p h state).phase = s.phase := by simp [State.powerOff]

/-! ### Machine/DevReads.lean -/

@[simp] theorem startRead_phase (s : State) (goal : ReadGoal) (a b st : Nat) (want : List (Nat × List Nat)) :
    (s.startRead goal a b st want).phase = s.phase := by
  unfold State.startRead
  split <;> simp

@[simp] theorem readStripe_phase (s : State) (goal : ReadGoal) (a b st : Nat) : (s.readStripe goal a b st).phase = s.phase := by
  simp [State.readStripe]

@[simp] theorem noteLoss_phase (s : State) (d : DevRead) : (s.noteLoss d).phase = s.phase := by
  unfold State.noteLoss
  split <;> simp

@[simp] theorem copyGrain_phase (s : State) (a source g pga : Nat) (words : List (Option WordRead)) :
    (s.copyGrain a source g pga words).phase = s.phase := by
  simp [State.copyGrain]

@[simp] theorem copyStripe_phase (s : State) (d : DevRead) (source : Nat) : (s.copyStripe d source).phase = s.phase := by
  simp only [State.copyStripe]
  refine foldl_phase _ (fun s x => ?_) _ _
  split <;> simp

@[simp] theorem scrubbed_phase (s : State) (d : DevRead) : (s.scrubbed d).phase = s.phase := by simp [State.scrubbed]

@[simp] theorem resyncDelta_phase (s : State) (a source g pga vseq : Nat) (poisoned : Bool) :
    (s.resyncDelta a source g pga vseq poisoned).phase = s.phase := by
  simp [State.resyncDelta]

@[simp] theorem resynced_phase (s : State) (d : DevRead) (e eseq : Nat) : (s.resynced d e eseq).phase = s.phase := by
  fun_cases State.resynced s d e eseq
  case case1 => rfl
  case case2 =>
    rw [closeStripe_phase]
    refine foldl_phase _ (fun t k => ?_) _ _
    dsimp only
    split <;> simp

@[simp] theorem releaseJobs_phase (s : State) (a b st : Nat) : (s.releaseJobs a b st).phase = s.phase := by
  simp only [State.releaseJobs]
  refine foldl_phase _ (fun s x => ?_) _ _
  split <;> simp

@[simp] theorem recount_phase (s : State) : s.recount.phase = s.phase := by simp [State.recount]

@[simp] theorem finishLoad_phase (s : State) : s.finishLoad.phase = s.phase := by
  unfold State.finishLoad
  split <;> simp

@[simp] theorem segmentRead_phase (s : State) (d : DevRead) (seg part : Nat) : (s.segmentRead d seg part).phase = s.phase := by
  unfold State.segmentRead
  split <;> simp

@[simp] theorem examineHeld_phase (s : State) : s.examineHeld.phase = s.phase := by simp [State.examineHeld]

/-! ### Machine/Relocate.lean -/

@[simp] theorem syncReshape_phase (s : State) (a : Nat) : (s.syncReshape a).phase = s.phase := by simp [State.syncReshape]
@[simp] theorem settleArrays_phase (s : State) : s.settleArrays.phase = s.phase := by simp [State.settleArrays]

/-! ### Machine/Sleds.lean -/

@[simp] theorem seatNew_phase (s : State) (p h : Nat) : (s.seatNew p h).phase = s.phase := by simp [State.seatNew]
@[simp] theorem hopRefuse_phase (s : State) (p h value : Nat) : (s.hopRefuse p h value).phase = s.phase := by simp [State.hopRefuse]

@[simp] theorem enrolFailed_phase (s : State) (p h status : Nat) : (s.enrolFailed p h status).phase = s.phase := by
  simp [State.enrolFailed]

@[simp] theorem readEnded_phase (s : State) (c : SledCmd) (j col : Nat) : (s.readEnded c j col).phase = s.phase := by
  fun_cases State.readEnded s c j col <;> simp

@[simp] theorem eraseEnded_phase (s : State) (a b : Nat) : (s.eraseEnded a b).phase = s.phase := by simp [State.eraseEnded]
@[simp] theorem retarget_phase (s : State) (n old new : Nat) : (s.retarget n old new).phase = s.phase := by simp [State.retarget]

@[simp] theorem reserveTag_phase (s : State) (k : Nat) (c : SledCmd) : (s.reserveTag k c).phase = s.phase := by simp [State.reserveTag]
@[simp] theorem reissue_phase (s : State) (p : Nat) (c : SledCmd) : (s.reissue p c).phase = s.phase := by simp [State.reissue]

/-! ### Machine/Bay.lean -/

@[simp] theorem settleMissing_phase (s : State) : s.settleMissing.phase = s.phase := by simp [State.settleMissing]

/-! ### Machine/Boot.lean -/

@[simp] theorem startStep_phase (s : State) (st : Nat) : (s.startStep st).phase = s.phase := by simp [State.startStep]

/-! ### Machine/Health.lean -/

@[simp] theorem poisonHoop_phase (s : State) (a blk : Nat) : (s.poisonHoop a blk).phase = s.phase := by
  simp only [State.poisonHoop]
  split <;> simp

/-! ### Machine/MapCache.lean -/

@[simp] theorem dropLine_phase (s : State) (k : Nat) : (s.dropLine k).phase = s.phase := by simp [State.dropLine]
@[simp] theorem dropHolds_phase (s : State) : s.dropHolds.phase = s.phase := by simp [State.dropHolds]

@[simp] theorem beginDrain_phase (s : State) : s.beginDrain.phase = s.phase := by simp [State.beginDrain]
@[simp] theorem rebuildLine_phase (s : State) (k : Nat) : (s.rebuildLine k).phase = s.phase := by simp [State.rebuildLine]

@[simp] theorem disableWay_phase (s : State) (w : Nat) (bad : Option Nat) (cls : Nat) : (s.disableWay w bad cls).phase = s.phase := by
  simp [State.disableWay]

@[simp] theorem wayFails_phase (s : State) (w : Nat) (bad : Option Nat) (cls : Nat) : (s.wayFails w bad cls).phase = s.phase := by
  simp only [State.wayFails]
  repeat' split
  all_goals simp

/-! ### Machine/Pair.lean -/

@[simp] theorem pairFrame_phase (s : State) : s.pairFrame.phase = s.phase := by simp [State.pairFrame]
@[simp] theorem inSyncNow_phase (s : State) : s.inSyncNow.phase = s.phase := by simp [State.inSyncNow]
@[simp] theorem startSync_phase (s : State) : s.startSync.phase = s.phase := by simp [State.startSync]
@[simp] theorem witnessFound_phase (s : State) : s.witnessFound.phase = s.phase := by simp [State.witnessFound]

/-! ### Machine/Dump.lean -/

@[simp] theorem snapped_phase (s : State) : s.snapped.phase = s.phase := by simp [State.snapped]

@[simp] theorem dumpDone_phase (s : State) (part : Bool) (body : List Nat) : (s.dumpDone part body).phase = s.phase := by
  simp [State.dumpDone]

/-! ### Machine/Federation.lean -/

/-- A start asked by another member, where a thread was free. -/
theorem fedStart_phase (s : State) (m : FedMsg) : ∀ t, s.fedStart m = some t → t.phase = s.phase := by
  fun_cases State.fedStart s m
  case case5 s1 th hstart t =>
    simp +zetaDelta [phase_of_fst hstart (startWork_phase ..)]
  all_goals simp +zetaDelta

@[simp] theorem fedDrain_phase (s : State) : s.fedDrain.phase = s.phase := by
  refine foldl_phase _ (fun t _ => ?_) _ _
  split
  · rfl
  · split
    · rw [fedStart_phase _ _ _ ‹_›, setFed_phase]
    · rfl

@[simp] theorem fedAnswer_phase (s : State) (dev id outcome count : Nat) (words : List Info) :
    (s.fedAnswer dev id outcome count words).phase = s.phase := by
  simp only [State.fedAnswer]
  repeat' split
  all_goals simp

@[simp] theorem syncView_phase (s : State) (relect : Bool) : (s.syncView relect).phase = s.phase := by simp [State.syncView]

@[simp] theorem dropDevice_phase (s : State) (dev : Nat) : (s.dropDevice dev).phase = s.phase := by
  simp only [State.dropDevice]
  refine foldl_phase _ (fun s x => ?_) _ _
  split <;> simp

/-! ### Machine/Spdm.lean -/

@[simp] theorem spdm_phase (s : State) (tr : Nat) (f : State → SpdmAnswer) : (s.spdm tr f).phase = s.phase := by simp [State.spdm]

/-- A message of the management bus, or its discard. -/
@[simp] theorem mctp_phase (s : State) (binding : Nat) (k : State → State) (hk : (k s).phase = s.phase) :
    (s.mctp binding k).phase = s.phase := by
  simp [State.mctp, hk]

/-! ## What Halted stops (R35, R41)

In Halted the threads, the members' links, the device's own stripe writer, the judgement of sleds and the Map Cache's engine stand still. -/

section
variable {s : State} (hs : s.phase.1.cur = .halted)
include hs

/-- The mode of a halted device, as its operations read it. -/
theorem cur_of_halted : s.mode.cur = .halted := hs

theorem threadsRun_of_halted : s.threadsRun = false := by simp [State.threadsRun, cur_of_halted hs]
theorem callsRun_of_halted : s.callsRun = false := by simp [State.callsRun, cur_of_halted hs]
theorem bobbinIdle_of_halted : s.bobbinIdle = true := by simp [State.bobbinIdle, cur_of_halted hs]
theorem destages_of_halted : s.destages = false := by simp [State.destages, cur_of_halted hs]
theorem backgroundRuns_of_halted : s.backgroundRuns = false := by simp [State.backgroundRuns, cur_of_halted hs]
theorem mcRuns_of_halted : s.mcRuns = false := by simp [State.mcRuns, cur_of_halted hs]
theorem judging_of_halted : s.judging = false := by simp [State.judging, judgedMode, cur_of_halted hs]

theorem relocates_of_halted (a : Nat) : s.relocates a = false := by simp [State.relocates, backgroundRuns_of_halted hs]

/-- The device's own stripe writer does nothing. -/
@[simp] theorem drive_of_halted : s.drive = s := by simp [State.drive, destages_of_halted hs]

/-- No checkpoint epoch goes on. -/
@[simp] theorem stepEpoch_of_halted : s.stepEpoch = s := by simp [State.stepEpoch, destages_of_halted hs]

/-- No sled is declared failed. -/
@[simp] theorem declareFailed_of_halted (n cause : Nat) : s.declareFailed n cause = s := by
  simp [State.declareFailed, judging_of_halted hs]

/-- Garbage collection does not go on. -/
@[simp] theorem nextGc_of_halted (a c b st : Nat) : s.nextGc a c b st = s := by simp [State.nextGc, relocates_of_halted hs]

/-- Reshape does not go on. -/
@[simp] theorem nextReshape_of_halted (a c b st : Nat) : s.nextReshape a c b st = s := by
  simp [State.nextReshape, relocates_of_halted hs]

/-- The range engine of the Map Cache stands still. -/
@[simp] theorem maintTick_of_halted : s.maintTick = s := by
  unfold State.maintTick
  split <;> simp [mcRuns_of_halted hs]

/-- No instruction issues. -/
@[simp] theorem issue_of_halted (th : Nat) (want : IWord → Bool) (body : IWord → State → State) : s.issue th want body = s :=
  issue_not (by simp [State.canIssue, threadsRun_of_halted hs])

/-- No Pattern Book program goes on. -/
@[simp] theorem bookStep_of_halted (th p : Nat) (stage : State → State) : s.bookStep th p stage = s := by
  simp [State.bookStep, State.bookReady, threadsRun_of_halted hs]

/-- No entry is dispatched. -/
@[simp] theorem dispatch_of_halted (r : Nat) (ok : Nat → Bool) : s.dispatch r ok = s := by
  unfold State.dispatch
  split <;> simp [callsRun_of_halted hs]

/-- A register write is discarded. -/
@[simp] theorem gate_phase_of_halted (off size : Nat) (value : Word) (k : State → State) : (s.gate off size value k).phase = s.phase := by
  simp [State.gate, cur_of_halted hs]

/-- A command register's write is discarded. -/
@[simp] theorem command_phase_of_halted (off size : Nat) (value : Word) (hi : Bool) (k : Nat → State → State) :
    (s.command off size value hi k).phase = s.phase := by
  simp [State.command, hs]

/-- A doorbell is discarded. -/
@[simp] theorem doorbell_phase_of_halted (cq : Bool) (e r size : Nat) (value : Word) (act : State → State) :
    (s.doorbell cq e r size value act).phase = s.phase := by
  simp [State.doorbell, cur_of_halted hs]

/-! ### Operations that reach a fatal condition -/

/-- A later fatal condition is logged. -/
@[simp] theorem halt_phase_of_halted (cause kind mcode : Nat) (cq : Bool) (ring index unit detail : Nat) :
    (s.halt cause kind mcode cq ring index unit detail).phase = s.phase := by
  simp [State.halt, cur_of_halted hs]

@[simp] theorem ringHalt_phase_of_halted (mcode : Nat) (cq : Bool) (ring index : Nat) :
    (s.ringHalt mcode cq ring index).phase = s.phase := by
  simp [State.ringHalt, hs]

@[simp] theorem recWrite_phase_of_halted (q e addr : Nat) (ats : Bool) (bytes : List Byte) (irq : Bool) :
    (s.recWrite q e addr ats bytes irq).phase = s.phase := by
  simp [State.recWrite, hs]

@[simp] theorem writeRec_phase_of_halted (q : Nat) (x : CplRec) : (s.writeRec q x).phase = s.phase := by simp [State.writeRec, hs]

omit hs in
@[simp] theorem drainHolding_phase_of_halted (q n : Nat) (s : State) (hs : s.phase.1.cur = .halted) :
    (State.drainHolding q n s).phase = s.phase := by
  fun_induction State.drainHolding q n s <;> simp_all

@[simp] theorem holdingFreed_phase_of_halted (q : Nat) : (s.holdingFreed q).phase = s.phase := by simp [State.holdingFreed, hs]

@[simp] theorem recRetry_phase_of_halted : s.recRetry.phase = s.phase :=
  foldl_phase_of_halted _ (fun t q ht => by simp [ht]) _ _ hs

@[simp] theorem hostReleased_phase_of_halted (e : Nat) : (s.hostReleased e).phase = s.phase := by
  rw [State.hostReleased, msixRelease_phase]
  exact foldl_phase_of_halted _ (fun t q ht => by simp [ht]) _ _ hs

@[simp] theorem entryArrived_phase_of_halted (r index : Nat) (res : HostResult) : (s.entryArrived r index res).phase = s.phase := by
  fun_cases State.entryArrived s r index res <;> simp [hs]

@[simp] theorem xlatFails_phase_of_halted (rd : Reader) (m : OutMsg) : (s.xlatFails rd m).phase = s.phase := by
  fun_cases State.xlatFails s rd m <;> simp +zetaDelta [hs]

@[simp] theorem sendXlated_phase_of_halted (k : Nat) (h : HostTag) (m : OutMsg) : (s.sendXlated k h m).phase = s.phase := by
  fun_cases State.sendXlated s k h m <;> simp +zetaDelta [hs]

@[simp] theorem xlatEnds_phase_of_halted (k : Nat) (h : HostTag) (m : OutMsg) (res : HostResult) :
    (s.xlatEnds k h m res).phase = s.phase := by
  simp only [State.xlatEnds]
  split <;> simp [hs]

/-! ### Operations that reach the members -/

@[simp] theorem settleWorks_phase_of_halted : s.settleWorks.phase = s.phase := by
  have hdrive (t : State) (ht : t.phase = s.phase) : t.drive.phase = s.phase := by rw [drive_of_halted (ht ▸ hs), ht]
  refine hdrive _ ?_
  rw [settleReads_phase]
  refine (foldl_phase _ (fun t w => ?_) _ _).trans (foldl_phase _ (fun t w => ?_) _ _) <;> split <;> simp

/-- The bank's state follows: with the bank not healthy, nothing is forced out to the members. -/
@[simp] theorem syncBank_phase_of_halted : s.syncBank.phase = s.phase := by simp [State.syncBank, destages_of_halted, hs]
@[simp] theorem recompute_phase_of_halted (dv : Nat) : (s.recompute dv).phase = s.phase := by simp [State.recompute, hs]

@[simp] theorem pollActs_phase_of_halted : s.pollActs.phase = s.phase := by
  simp only [State.pollActs]
  split <;> simp [hs]

@[simp] theorem setMirroring_phase_of_halted (b : Bool) : (s.setMirroring b).phase = s.phase := by simp [State.setMirroring, hs]

@[simp] theorem ckptAcked_phase_of_halted (a b : Nat) (ok onBlock : Bool) : (s.ckptAcked a b ok onBlock).phase = s.phase := by
  simp [State.ckptAcked, hs]

@[simp] theorem commandLost_phase_of_halted (c : SledCmd) : (s.commandLost c).phase = s.phase := by
  fun_cases State.commandLost s c <;> simp [hs]

@[simp] theorem countTimeout_phase_of_halted (n : Nat) (underLoss : Bool) : (s.countTimeout n underLoss).phase = s.phase := by
  simp [State.countTimeout, hs]

@[simp] theorem regionStep_phase_of_halted : s.regionStep.phase = s.phase := by fun_cases State.regionStep s <;> simp [hs]

@[simp] theorem enterFilled_phase_of_halted (v : Version) (fill : List (Nat × Info)) : (s.enterFilled v fill).phase = s.phase := by
  simp only [State.enterFilled]
  split <;> simp [hs]

@[simp] theorem filled_phase_of_halted (d : DevRead) (g seq pga : Nat) : (s.filled d g seq pga).phase = s.phase := by
  unfold State.filled
  split <;> simp [hs]

@[simp] theorem finishRead_phase_of_halted (d : DevRead) : (s.finishRead d).phase = s.phase := by
  unfold State.finishRead
  split <;> simp [hs]

omit hs in
@[simp] theorem settleDev_phase_of_halted (s : State) (n : Nat) (hs : s.phase.1.cur = .halted) : (s.settleDev n).phase = s.phase := by
  fun_induction State.settleDev s n <;> simp_all

@[simp] theorem runReads_phase_of_halted : s.runReads.phase = s.phase := by simp [State.runReads, hs]

@[simp] theorem dropPrograms_phase_of_halted (n old : Nat) : (s.dropPrograms n old).phase = s.phase := by
  simp only [State.dropPrograms]
  refine (foldl_phase_of_halted _ (fun s x ht => ?_) _ _ (by simpa using hs)).trans (by simp)
  split <;> simp [ht]

@[simp] theorem eraseFailed_phase_of_halted (a b n blk : Nat) (slc : Bool) : (s.eraseFailed a b n blk slc).phase = s.phase := by
  fun_cases State.eraseFailed s a b n blk slc <;> simp +zetaDelta [hs]

@[simp] theorem notAnswering_phase_of_halted (p : Nat) (c : SledCmd) : (s.notAnswering p c).phase = s.phase := by
  simp only [State.notAnswering]
  repeat' split
  all_goals simp [hs]

@[simp] theorem commandTimeout_phase_of_halted (p k : Nat) (c : SledCmd) : (s.commandTimeout p k c).phase = s.phase := by
  simp only [State.commandTimeout]
  repeat' split
  all_goals simp [hs]

@[simp] theorem presenceChanged_phase_of_halted (p h : Nat) (present : Bool) : (s.presenceChanged p h present).phase = s.phase := by
  simp only [State.presenceChanged]
  repeat' split
  all_goals simp [hs]

@[simp] theorem sampleBay_phase_of_halted (p h word : Nat) : (s.sampleBay p h word).phase = s.phase := by simp [State.sampleBay, hs]

@[simp] theorem pollExpander_phase_of_halted (e : Nat) (word : Option Nat) : (s.pollExpander e word).phase = s.phase := by
  simp only [State.pollExpander]
  split
  · split
    · rw [foldl_phase_of_halted] <;> simp +contextual [hs]
    · simp
  · simp

/-- A tick in Halted. -/
theorem tick_phase_of_halted : s.tick.phase = s.phase := by
  simp [State.tick, hs]

theorem canIssue_of_halted (th : Nat) : s.canIssue th = false := by simp [State.canIssue, threadsRun_of_halted hs]
theorem fetchOpen_of_halted : s.fetchOpen = false := by simp [State.fetchOpen, cur_of_halted hs]
theorem mirrorOpen_of_halted : s.mirrorOpen = false := by simp [State.mirrorOpen, cur_of_halted hs]
theorem prkRuns_of_halted : s.prkRuns = false := by simp [State.prkRuns, cur_of_halted hs]
theorem reports_of_halted : s.reports = false := by simp [State.reports, cur_of_halted hs]
theorem sledPower_of_halted : s.sledPower = false := by simp [State.sledPower, cur_of_halted hs]
theorem witnessing_of_halted : s.witnessing = false := by simp [State.witnessing, cur_of_halted hs]

@[simp] theorem alu_of_halted (th op : Nat) (f : Thread → IWord → Word) : s.alu th op f = s := by simp [State.alu, hs]
@[simp] theorem compare_of_halted (th op : Nat) (f : Thread → IWord → Word) : s.compare th op f = s := by simp [State.compare, hs]
@[simp] theorem onPair_of_halted (m : WitMsg) (f : Nat → State) : s.onPair m f = s := by simp [State.onPair, witnessing_of_halted hs]
@[simp] theorem scrubCall_of_halted (th op : Nat) : s.scrubCall th op = s := by simp [State.scrubCall, hs]
@[simp] theorem prkCall_of_halted (th p : Nat) (op : PrkOp) : s.prkCall th p op = s := by simp [State.prkCall, hs]

/-! ### Register writes -/

@[simp] theorem writeClk_phase_of_halted (c off size : Nat) (value : Word) : (s.writeClk c off size value).phase = s.phase := by
  simp [State.writeClk, hs]

@[simp] theorem writeHuCtl_phase_of_halted (off size : Nat) (value : Word) : (s.writeHuCtl off size value).phase = s.phase := by
  simp [State.writeHuCtl, hs]

@[simp] theorem writeBpCtl_phase_of_halted (p off size : Nat) (value : Word) : (s.writeBpCtl p off size value).phase = s.phase := by
  simp [State.writeBpCtl, hs]

@[simp] theorem writeHopCmd_phase_of_halted (p h size : Nat) (value : Word) : (s.writeHopCmd p h size value).phase = s.phase := by
  simp [State.writeHopCmd, hs]

@[simp] theorem writeHopCtl_phase_of_halted (p h off size : Nat) (value : Word) :
    (s.writeHopCtl p h off size value).phase = s.phase := by
  simp [State.writeHopCtl, hs]

@[simp] theorem writeFw_phase_of_halted (off size : Nat) (value : Word) : (s.writeFw off size value).phase = s.phase := by
  simp [State.writeFw, hs]

@[simp] theorem writePrkCmd_phase_of_halted (off size : Nat) (value : Word) : (s.writePrkCmd off size value).phase = s.phase := by
  simp [State.writePrkCmd, hs]

@[simp] theorem writeMaint_phase_of_halted (size : Nat) (value : Word) : (s.writeMaint size value).phase = s.phase := by
  simp [State.writeMaint, hs]

@[simp] theorem writeMode_phase_of_halted (off size : Nat) (value : Word) : (s.writeMode off size value).phase = s.phase := by
  simp [State.writeMode, hs]

@[simp] theorem writeLock_phase_of_halted (off size : Nat) (value : Word) : (s.writeLock off size value).phase = s.phase := by
  simp [State.writeLock, hs]

@[simp] theorem lowHalf_phase_of_halted (off size : Nat) (value : Word) (k : State → State) (hk : (k s).phase = s.phase) :
    (s.lowHalf off size value k).phase = s.phase := by
  simp [State.lowHalf, hk, hs]

@[simp] theorem writeAt_phase_of_halted (ep off size : Nat) (value : Word) : (s.writeAt ep off size value).phase = s.phase := by
  fun_cases State.writeAt s ep off size value <;> simp +zetaDelta [hs]

omit hs in
/-- A power state with the same Flush may replace the one there is. -/
theorem phase_withPower {t : State} (h : t.phase = s.phase) (p : PowerState) (hp : p.flush = s.power.flush) :
    ({ t with power := p } : State).phase = s.phase :=
  Prod.ext (congrArg Prod.fst h :) hp

omit hs in
/-- Where a Flush was writing, its image is given up, and the phase stays. -/
theorem imageGivenUp_phase (s : State) (c : Prop) [Decidable c] :
    (if c then { s.setF F.PWR_LOG_RESULT 2 with power := { s.power with erased := false, image := none } } else s).phase = s.phase := by
  split
  · exact phase_withPower (setF_phase ..) _ rfl
  · rfl

omit hs in
theorem execBankRundown_phase : phaseAfter (execBankRundown s) = some s.phase := by
  simp only [execBankRundown, phaseAfter_next]
  split
  · rfl
  · rw [powerLost_phase, imageGivenUp_phase]

omit hs in
theorem execThermalPowerRemoval_phase (i : Nat) : phaseAfter (execThermalPowerRemoval i s) = some s.phase := by
  simp only [execThermalPowerRemoval, phaseAfter_next]
  split
  · rfl
  · rw [powerLost_phase, logAon_phase]
    split
    · rw [imageGivenUp_phase]
    · rfl

theorem execResyncRegion_phase_of_halted (found lost : Unit) : phaseAfter (execResyncRegion found lost s) = some s.phase := by
  simp only [execResyncRegion, phaseAfter_next]
  split
  · rfl
  · split <;> simp [backgroundRuns_of_halted, hs]

theorem execBayPoll_phase_of_halted (inputs : List (Option Nat)) : phaseAfter (execBayPoll inputs s) = some s.phase := by
  simp only [execBayPoll, phaseAfter_next]
  split
  · rfl
  · rw [settleMissing_phase, foldl_phase_of_halted _ (fun t e ht => by simp [ht])]
    · simp
    · simpa using hs

theorem execRetirementCommit_phase_of_halted (a : Nat) : phaseAfter (execRetirementCommit a s) = some s.phase := by
  simp only [execRetirementCommit, phaseAfter_next]
  split
  · rfl
  · split <;> simp [cur_of_halted hs]

theorem execPairHealth_phase_of_halted (r : PairReport) : phaseAfter (execPairHealth r s) = some s.phase := by
  unfold execPairHealth
  rw [phaseAfter_next]
  split
  · rfl
  · extract_lets framed pair power reported recomputed judged
    have hreported : reported.phase = s.phase :=
      phase_withPower (t := { framed with pair := { pair with peerReport := some (r, s.tbase) } }) (by simp [framed]) _ rfl
    have hrecomputed : recomputed.phase = s.phase := by simp [recomputed, hreported, hs]
    have hjudged : judged.phase = s.phase := by simp [judged, hrecomputed]
    simp [hjudged]

/-! ### Every command -/

/-- The commands that reset the device, or begin or end its Flush. -/
def turnsPhase : Instr → Bool
  | .powerOn .. | .perstDeassert .. | .internalReset | .haltVaultImageCommit | .powerFailDetection .. | .flushCommit .. => true
  | _ => false

/-- Every other command keeps the phase. -/
theorem exec_phase_of_halted (c : Instr) (hc : turnsPhase c = false) : phaseAfter (exec c s) = some s.phase := by
  cases c
  case powerOn | perstDeassert | internalReset | haltVaultImageCommit | powerFailDetection | flushCommit => simp [turnsPhase] at hc
  case br | jal => exact congrArg (fun t => some t.phase) (issue_of_halted hs ..)
  -- No instruction issues.
  case add | addi | sub | and | andi | or | ori | xor | xori | shl | shli | shr | shri | sar | sari | mul | mulhu | divu | remu | minu |
      maxu | movhi | clz | popc | bfx | bfi | nop | reservedOpcode | cmp | cmpi | plog | jr | skalloc | skfree | skzero | ldk | stk |
      fetch | storeStage | storeCommit | emit | maplock | stripeOpen | stripeIpnext | stripeIpset | stripeClosing | stripeClose |
      stripeAbandon | waitev | signalSend | signalCall | signalRecv | timerWait | timerRead | gfmac | syndBind | syndAdd | syndWait |
      syndUnbind | solve | post | batch | trap | halt | pigen | pichk | pixlate | signalOwner | maplu | mapup =>
    simp [exec, execAdd, execAddi, execSub, execAnd, execAndi, execOr, execOri, execXor, execXori, execShl, execShli, execShr, execShri,
      execSar, execSari, execMul, execMulhu, execDivu, execRemu, execMinu, execMaxu, execMovhi, execClz, execPopc, execBfx, execBfi,
      execNop, execReservedOpcode, execCmp, execCmpi, execPlog, execJr, execSkalloc, execSkfree, execSkzero, execLdk, execStk, execFetch,
      execStoreStage, execStoreCommit, execEmit, execMaplock, execStripeOpen, execStripeIpnext, execStripeIpset, execStripeClosing,
      execStripeClose, execStripeAbandon, execWaitev, execSignalSend, execSignalCall, execSignalRecv, execTimerWait, execTimerRead,
      execGfmac, execSyndBind, execSyndAdd, execSyndWait, execSyndUnbind, execSolve, execPost, execBatch, execTrap, execHalt, execPigen,
      execPichk, execPixlate, execSignalOwner, execMaplu, execMapup, canIssue_of_halted, hs]
  -- No Pattern Book program goes on and no entry is dispatched.
  case read | verify | write | flush | discard | pin | scrubStart | scrubStop | scrubQuery | config | memberFail | logClear | arrayResize
      | prkLoad | prkBind | prkArm | prkDrop | arrayCreate | arrayDelete | progLoad | progUnload | threadDispatch | callEntry |
      inlineEntry | entryFetch =>
    simp [exec, execRead, execVerify, execWrite, execFlush, execDiscard, execPin, execScrubStart, execScrubStop, execScrubQuery,
      execConfig, execMemberFail, execLogClear, execArrayResize, execPrkLoad, execPrkBind, execPrkArm, execPrkDrop, execArrayCreate,
      execArrayDelete, execProgLoad, execProgUnload, execThreadDispatch, execCallEntry, execInlineEntry, execEntryFetch,
      fetchOpen_of_halted, hs]
  -- No instruction that waits goes on.
  case skallocResume | maplockGrant | waitevLimitExpiry | asyncInstructionComplete | storeCommitResume | stripeOpenResume | nopEntry |
      fenceEntry | postStallResume =>
    simp only [exec, execSkallocResume, execMaplockGrant, execWaitevLimitExpiry, execAsyncInstructionComplete, execStoreCommitResume,
      execStripeOpenResume, execNopEntry, execFenceEntry, execPostStallResume, phaseAfter_next]
    split <;> simp [threadsRun_of_halted, callsRun_of_halted, hs]
  -- Register writes and doorbells are discarded.
  case sqDoorbell | cqDoorbell | sqEnable | sqDisable | cqEnable | cqDisable | shuttleGo | allstopClear | channelErrClear |
      windowWord0Write | windowWord1Write | seClkWrite | huTestRequest | vchgWrite | retrain | portEnWrite | enrol | disenrol | pwroff |
      fwWrite | fwSelect | hlthFreeze | mcClean | mcInval | mcClinv | mcPreload | mcLock | mcWaylockWrite | mcEnable | mcDisable |
      devLockSet | registerWrite | modeReqStandby | modeReqActive | modeReqMaintenance | modeReqDormant | modeReqWitness | modeReqUnlisted
      | prkCmdLoad | prkCmdBind | prkCmdArm | prkCmdDrop | prkCmdReserved =>
    simp [exec, execSqDoorbell, execCqDoorbell, execSqEnable, execSqDisable, execCqEnable, execCqDisable, execShuttleGo, execAllstopClear,
      execChannelErrClear, execWindowWord0Write, execWindowWord1Write, execSeClkWrite, execHuTestRequest, execVchgWrite, execRetrain,
      execPortEnWrite, execEnrol, execDisenrol, execPwroff, execFwWrite, execFwSelect, execHlthFreeze, execMcClean, execMcInval,
      execMcClinv, execMcPreload, execMcLock, execMcWaylockWrite, execMcEnable, execMcDisable, execDevLockSet, execRegisterWrite,
      execModeReqStandby, execModeReqActive, execModeReqMaintenance, execModeReqDormant, execModeReqWitness, execModeReqUnlisted,
      execPrkCmdLoad, execPrkCmdBind, execPrkCmdArm, execPrkCmdDrop, execPrkCmdReserved, State.askMode, State.askPrk, hs]
  -- Nothing is sent to the members.
  case couchingReplication | copyRecordAck | checkpointEpochTimer | checkpointEpochCommit | gcVictimSelect | bandEraseStart |
      rebuildStripe | reshapeRelocateBand | scrubStripe | enumerateHop | setTimeTimer | initStatusPoll | rdata | rsp | alert |
      notReadyRetry | bayPowerOn =>
    simp [exec, execCouchingReplication, execCopyRecordAck, execCheckpointEpochTimer, execCheckpointEpochCommit, execGcVictimSelect,
      execBandEraseStart, execRebuildStripe, execReshapeRelocateBand, execScrubStripe, execEnumerateHop, execSetTimeTimer,
      execInitStatusPoll, execRdata, execRsp, execAlert, execNotReadyRetry, execBayPowerOn, bobbinIdle_of_halted, destages_of_halted,
      relocates_of_halted, sledPower_of_halted, hs]
  case grainAgeExpiry | sledPowerRetry | retirementSwitchover =>
    simp only [exec, execGrainAgeExpiry, execSledPowerRetry, execRetirementSwitchover, phaseAfter_next]
    split <;> simp [bobbinIdle_of_halted, destages_of_halted, sledPower_of_halted, cur_of_halted hs, hs]
  -- Neither the Map Cache's engine nor the Pricking engine runs.
  case mcDrainComplete =>
    simp [exec, execMcDrainComplete, mcRuns_of_halted, hs]
  case mcMaintComplete | prkCommandComplete | armCommit =>
    simp only [exec, execMcMaintComplete, execPrkCommandComplete, execArmCommit, phaseAfter_next]
    split <;> simp [mcRuns_of_halted, prkRuns_of_halted, hs]
  -- The mirror is closed, and the unit is no witness.
  case mirror | sync | hello | leaseReq | health | peerLost | inSync | handover | grantAck =>
    simp [exec, execMirror, execSync, execHello, execLeaseReq, execHealth, execPeerLost, execInSync, execHandover, execGrantAck,
      mirrorOpen_of_halted, witnessing_of_halted, hs]
  case witnessLeaseLapse | grantRepeat =>
    simp only [exec, execWitnessLeaseLapse, execGrantRepeat, phaseAfter_next]
    split <;> simp [witnessing_of_halted, hs]
  -- What waits for another mode does not begin.
  case lostUnitScan | mapLoadComplete | healthRecordSave | leaseRenewTimer | claimGrant | gapEnd | failbackRequest | healthReportTimer |
      healthReportForm | drainComplete | dormantExitComplete | fedLinkChange | waitLimitExpiry | clockStepComplete | throttleStepTimer =>
    simp [exec, execLostUnitScan, execMapLoadComplete, execHealthRecordSave, execLeaseRenewTimer, execClaimGrant, execGapEnd,
      execFailbackRequest, execHealthReportTimer, execHealthReportForm, execDrainComplete, execDormantExitComplete, execFedLinkChange,
      execWaitLimitExpiry, execClockStepComplete, execThrottleStepTimer, cur_of_halted hs, reports_of_halted, threadsRun_of_halted, hs]
  case bootStepEnd | bootStepTimeout | fwWriteComplete | postWindowExpiry | handoverDrainTimeout | dumpVaultWriteComplete =>
    simp only [exec, execBootStepEnd, execBootStepTimeout, execFwWriteComplete, execPostWindowExpiry, execHandoverDrainTimeout,
      execDumpVaultWriteComplete, phaseAfter_next]
    split <;> simp [cur_of_halted hs]
  -- A later fatal condition is logged.
  case uncorrectableStructureError | firmwareInconsistency | watchdogExpiry | bar2Write =>
    simp [exec, execUncorrectableStructureError, execFirmwareInconsistency, execWatchdogExpiry, execBar2Write, cur_of_halted hs, hs]
  -- The rest runs in Halted too, and keeps the phase.
  case atsInvalidateRequest | atsEnableClear | pmeTurnOff | busMasterEnable | aspmL1Entry | hotReset | perst1Reset | functionLevelReset |
      flrComplete | capTestTimer | capTestStart | bankReachesVchg | chargerFault | vaultEraseSufficient | sensorPoll | frameReceive |
      credit | bobbinLinkDown | linkTrained | rateInterval | controlIslandResetRelease | perstAssert | preloadHoldExpiry | mcWritebackAck
      | mcEccError | confirm | syncComplete | leaseDeny | rideThroughStart | peerTimeout | peerLostAck | inSyncAck | helloAck |
      standbySelfTest | selfTestRerun | devTbaseLowRead | registerSnapshotCaptured | dumpInDramComplete | dumpCaptureTimeout | fedHello |
      electionDecide | timeMark | timeMarkEdge | getVersion | getCapabilities | negotiateAlgorithms | getDigests | getCertificate |
      challenge | getMeasurements | respondIfReady | spdmUnsupportedRequest | doeAbort | setEndpointId | getEndpointId | getEndpointUuid |
      getMctpVersionSupport | getMessageTypeSupport | getVendorDefinedMessageSupport | mctpUnsupportedCommand | badWitnessMessage =>
    simp [exec, execAtsInvalidateRequest, execAtsEnableClear, execPmeTurnOff, execBusMasterEnable, execAspmL1Entry, execHotReset,
      execPerst1Reset, execFunctionLevelReset, execFlrComplete, execCapTestTimer, execCapTestStart, execBankReachesVchg, execChargerFault,
      execVaultEraseSufficient, execSensorPoll, execFrameReceive, execCredit, execBobbinLinkDown, execLinkTrained, execRateInterval,
      execControlIslandResetRelease, execPerstAssert, execPreloadHoldExpiry, execMcWritebackAck, execMcEccError, execConfirm,
      execSyncComplete, execLeaseDeny, execRideThroughStart, execPeerTimeout, execPeerLostAck, execInSyncAck, execHelloAck,
      execStandbySelfTest, execSelfTestRerun, execDevTbaseLowRead, execRegisterSnapshotCaptured, execDumpInDramComplete,
      execDumpCaptureTimeout, execFedHello, execElectionDecide, execTimeMark, execTimeMarkEdge, execGetVersion, execGetCapabilities,
      execNegotiateAlgorithms, execGetDigests, execGetCertificate, execChallenge, execGetMeasurements, execRespondIfReady,
      execSpdmUnsupportedRequest, execDoeAbort, execSetEndpointId, execGetEndpointId, execGetEndpointUuid, execGetMctpVersionSupport,
      execGetMessageTypeSupport, execGetVendorDefinedMessageSupport, execMctpUnsupportedCommand, execBadWitnessMessage, hs]
  case coalesceTimer | shuttleComplete | shuttleBusError | bankWaitTimeout | vaultImageConsumed | thermalTrip | sledInitTimeout |
      linkLossDeclare | sledTrainTimeout | leaseExpiry | peerHealthStale | electionStart =>
    simp only [exec, execCoalesceTimer, execShuttleComplete, execShuttleBusError, execBankWaitTimeout, execVaultImageConsumed,
      execThermalTrip, execSledInitTimeout, execLinkLossDeclare, execSledTrainTimeout, execLeaseExpiry, execPeerHealthStale,
      execElectionStart, phaseAfter_next]
    split <;> simp [hs]
  case entryFetchComplete | shuttleWindowHalt | bar2Read | hostCompletion | completionTimeout | unexpectedCompletion |
      tagReservationExpiry | msixTableWrite | dStateChange | capTestComplete | memberReadTimeout | commandTimeout | correctedErrorLog |
      hlthGet | dumpGet | renew | leaseAck | fedCallPart =>
    simp only [exec, execEntryFetchComplete, execShuttleWindowHalt, execBar2Read, execHostCompletion, execCompletionTimeout,
      execUnexpectedCompletion, execTagReservationExpiry, execMsixTableWrite, execDStateChange, execCapTestComplete,
      execMemberReadTimeout, execCommandTimeout, execCorrectedErrorLog, execHlthGet, execDumpGet, execRenew, execLeaseAck,
      execFedCallPart, phaseAfter_next]
    repeat' split
    all_goals simp [hs]
  case bankRundown => exact execBankRundown_phase
  case thermalPowerRemoval => exact execThermalPowerRemoval_phase _
  case resyncRegion found lost => exact execResyncRegion_phase_of_halted hs found lost
  case bayPoll => exact execBayPoll_phase_of_halted hs _
  case retirementCommit => exact execRetirementCommit_phase_of_halted hs _
  case pairHealth => exact execPairHealth_phase_of_halted hs _

omit hs in
/-- A Flush begins now, and the mode stays. -/
theorem beginFlush_phase (s : State) (src : Nat) :
    (s.beginFlush src).phase = (s.mode, some { start := s.tbase, writes := s.imageDue, ended := false }) := by
  rw [State.beginFlush, slowClocks_phase, setF_phase, setFlag_phase, setFlag_phase, setFlag_phase, setFlag_phase, State.phase]

/-- A power failure in Halted begins a Flush. -/
theorem execPowerFailDetection_of_halted (src : Nat) (hpow : s.hw.powered = true) (hno : s.power.flush = none) :
    ∃ (t : State) (f : FlushRun), execPowerFailDetection src s = .next t ∧ t.mode = s.mode ∧ t.power.flush = some f ∧
      f.start = s.tbase ∧ f.ended = false := by
  have hcut : s.cutDump.mode = s.mode := congrArg Prod.fst (cutDump_phase s)
  have htbase : s.cutDump.tbase = s.tbase := congrArg Prod.snd (cutDump_steady s)
  obtain ⟨hmode, hflush⟩ := Prod.mk.inj
    (beginFlush_phase ({ s.cutDump with dump := { s.cutDump.dump with imageRunning := false } } : State) (src % 2))
  refine ⟨_, _, ?_, hmode.trans hcut, hflush, htbase, rfl⟩
  simp only [execPowerFailDetection, hpow, hno, cur_of_halted hs, Bool.not_true, Option.isSome_none, Bool.or_self, Bool.false_eq_true,
    if_false]

omit hs in
theorem saveHealth_mode (s : State) : s.saveHealth.mode = s.mode := congrArg Prod.fst (saveHealth_phase s)

/-! ### Resets, and the Flush's begin and end -/

/-- Halted, or a conventional reset. -/
def HaltedOrReset (t : State) : Prop :=
  t.mode.cur = .halted ∨ ∃ (u : State) (cause : Nat) (pins : Straps), t = u.convReset cause pins

/-- Power applied is a conventional reset, and changes nothing where there is power. -/
theorem execPowerOn_haltedOrReset (pins : Straps) (aonLost held : Bool) :
    ∃ t, execPowerOn pins aonLost held s = .next t ∧ HaltedOrReset t := by
  refine ⟨_, rfl, ?_⟩
  split
  · exact .inl hs
  · exact .inr ⟨_, _, _, rfl⟩

theorem execPerstDeassert_haltedOrReset (pins : Straps) : ∃ t, execPerstDeassert pins s = .next t ∧ HaltedOrReset t := by
  refine ⟨_, rfl, ?_⟩
  split
  · exact .inl hs
  · extract_lets
    split
    · exact .inl hs
    · split
      · exact .inl ((congrArg (fun p => p.1.cur) (resetEndpoint_phase _ 0 false) :).trans hs)
      · split
        · exact .inl hs
        · exact .inr ⟨_, _, _, rfl⟩

theorem execInternalReset_haltedOrReset : ∃ t, execInternalReset s = .next t ∧ HaltedOrReset t := by
  refine ⟨_, rfl, ?_⟩
  split
  · split
    · exact .inr ⟨_, _, _, rfl⟩
    · exact .inl hs
  · exact .inl hs

/-- The image of a halted device is complete: a reset that waited for it happens now. -/
theorem execHaltVaultImageCommit_haltedOrReset : ∃ t, execHaltVaultImageCommit s = .next t ∧ HaltedOrReset t := by
  refine ⟨_, rfl, ?_⟩
  split
  · exact .inl hs
  · extract_lets
    split
    · exact .inr ⟨_, _, _, rfl⟩
    · exact .inl hs

theorem execPowerFailDetection_haltedOrReset (src : Nat) : ∃ t, execPowerFailDetection src s = .next t ∧ HaltedOrReset t := by
  by_cases hrun : s.hw.powered = true ∧ s.power.flush = none
  · obtain ⟨t, f, ht, hmode, -⟩ := execPowerFailDetection_of_halted hs src hrun.1 hrun.2
    exact ⟨t, ht, .inl (hmode ▸ hs)⟩
  · refine ⟨s, ?_, .inl hs⟩
    simp only [execPowerFailDetection]
    rw [if_pos]
    simpa [Option.isSome_iff_ne_none, imp_iff_not_or] using hrun

theorem execFlushCommit_haltedOrReset (vend : Nat) : ∃ t, execFlushCommit vend s = .next t ∧ HaltedOrReset t := by
  refine ⟨_, rfl, .inl ?_⟩
  split
  · exact hs
  · split
    · exact hs
    · extract_lets us committed power ended
      have hmode : ended.mode = s.mode := by simp only [ended, committed, setF_mode, setFlag_mode]
      split
      · rw [saveHealth_mode]
        exact hmode ▸ hs
      · exact hmode ▸ hs

/-- The commands that reset the device or turn its Flush leave Halted by a reset alone. -/
theorem exec_haltedOrReset (c : Instr) (hc : turnsPhase c = true) : ∃ t, exec c s = .next t ∧ HaltedOrReset t := by
  cases c <;> simp only [turnsPhase, Bool.false_eq_true] at hc
  case powerOn pins aonLost held => exact execPowerOn_haltedOrReset hs pins aonLost held
  case perstDeassert pins => exact execPerstDeassert_haltedOrReset hs pins
  case internalReset => exact execInternalReset_haltedOrReset hs
  case haltVaultImageCommit => exact execHaltVaultImageCommit_haltedOrReset hs
  case powerFailDetection src => exact execPowerFailDetection_haltedOrReset hs src
  case flushCommit vend => exact execFlushCommit_haltedOrReset hs vend

end

/-- What a step leaves of Halted. -/
theorem step_haltedOrReset {s t : State} (hs : s.mode.cur = .halted) (h : step s = .next t) : HaltedOrReset t := by
  unfold step at h
  split at h
  case h_1 =>
    cases h
    exact .inl ((congrArg (fun p => p.1.cur) (tick_phase_of_halted (s := s) hs) :).trans hs)
  case h_2 c rest hq =>
    have hs' : ({ s with pending := rest } : State).phase.1.cur = .halted := hs
    cases hc : turnsPhase c with
    | false =>
      have hphase := exec_phase_of_halted hs' c hc
      rw [h] at hphase
      exact .inl ((congrArg (fun p => p.1.cur) (Option.some.inj hphase) :).trans hs')
    | true =>
      obtain ⟨u, hu, hor⟩ := exec_haltedOrReset hs' c hc
      cases hu.symm.trans h
      exact hor

/-- Settles O60: in Halted every operation but a reset and a Flush's begin and end keeps the phase; and so does a function level reset in
every mode. -/
theorem haltedIsLeftOnlyByReset : Obligations.HaltedIsLeftOnlyByReset := by
  refine ⟨fun s t hs h => step_haltedOrReset hs h, fun s src hs hpow hno => ?_, fun s ep => ⟨?_, ?_⟩⟩
  · obtain ⟨t, f, ht, hmode, hf⟩ := execPowerFailDetection_of_halted (s := s) hs src hpow hno
    exact ⟨t, f, ht, hmode ▸ hs, hf⟩
  · have hphase : phaseAfter (execFunctionLevelReset ep s) = some s.phase := by simp [execFunctionLevelReset]
    obtain ⟨hmode, hflush⟩ := Prod.mk.inj (Option.some.inj hphase)
    exact ⟨_, rfl, by rw [hmode], by rw [hmode], by rw [hmode], hflush⟩
  · have hphase : phaseAfter (execFlrComplete ep s) = some s.phase := by simp [execFlrComplete]
    obtain ⟨hmode, hflush⟩ := Prod.mk.inj (Option.some.inj hphase)
    exact ⟨_, rfl, hmode, hflush⟩

end Sys2Proof.Machine

/-! ## The state of reset, the TBASE latch, DEV_LOCK and the cluster clocks (R28, R29, R30, R33, R457, R462) -/

namespace Sys2Proof.Machine

/-- The register file of reset lists HOOP_SIZE alone: every other register reads its reset value. -/
theorem reg_reset {off : Nat} (h : off ≠ R.HOOP_SIZE) : State.reset.reg off = resetVal off := by
  simp [State.reg, State.reset, Tbl.get, Ne.symm h]

/-- No thread runs in reset. -/
theorem running_reset (th : Nat) : (State.reset.thr th).running = false := rfl

/-- Settles O2: the fields of State.reset, one by one. -/
theorem resetState : Obligations.ResetState :=
  ⟨rfl, rfl, rfl, fun _ => reg_reset, rfl, running_reset, rfl, rfl, rfl, rfl, rfl⟩

/-- The upper half of a 64-bit number fits into 32 bits. -/
theorem bits_toNat_upper (w : Word) : bits w.toNat 32 32 = w.toNat / 2 ^ 32 := by
  have hw : w.toNat < 2 ^ 64 := w.isLt
  rw [bits, Nat.mod_eq_of_lt]
  omega

/-- The upper half of DEV_TBASE, read by 4 bytes, is the latch. -/
theorem readHost_tbaseUpper {s : State} (h : s.hostDown = false) : s.readHost (R.DEV_TBASE + 4) 4 = BitVec.ofNat 64 s.tbaseLatch := by
  simp [State.readHost, h, R.DEV_TBASE]

/-- A message sent leaves the host link and the latch. -/
theorem hostDown_send (s : State) (m : OutMsg) : (s.send m).hostDown = s.hostDown := rfl

/-- A 1 in bit 0 is written, whichever size writes it. -/
theorem lockBit_written {size : Nat} (hsize : size = 4 ∨ size = 8) (value : Word) :
    bit (writtenValue R.DEV_LOCK size (value ||| 1) &&& writtenMask R.DEV_LOCK size) 0 = true := by
  rcases hsize with rfl | rfl <;> simp [bit, writtenValue, writtenMask, R.DEV_LOCK, Nat.and_mod_two_eq_one]

/-- A taken write of DEV_LOCK with a 1 sets LOCK. -/
theorem execDevLockSet_of_takesWrite {s : State} {size : Nat} (value : Word) (h : s.takesWrite R.DEV_LOCK size = true) :
    execDevLockSet size value s = .next (s.setFlag F.DEV_LOCK_LOCK true) := by
  obtain ⟨-, -, hsize, -, -⟩ := (takesWrite_iff s _ size).mp h
  rw [execDevLockSet, State.writeLock, gate_of_takesWrite h, lockBit_written hsize]
  rfl

/-- Settles O20: the read with and without Memory Space Enable, and the lock's write. -/
theorem tbaseLatchAndLock : Obligations.TbaseLatchAndLock := by
  refine ⟨fun s ep e hdown he => ⟨fun hopen => ?_, fun hclosed => ?_⟩, fun s size value h => ?_⟩
  · refine ⟨_, ?_, rfl, ?_⟩
    · show execDevTbaseLowRead ep s = _
      simp [execDevTbaseLowRead, hdown, ← he, hopen]
    · rw [readHost_tbaseUpper (by rw [hostDown_send]; exact hdown), ← bits_toNat_upper]
      rfl
  · show execDevTbaseLowRead ep s = _
    simp [execDevTbaseLowRead, hdown, ← he, hclosed]
  · refine ⟨execDevLockSet_of_takesWrite value h, ?_⟩
    simp [State.locked, State.flag, State.setFlag, f_setF_same, F.DEV_LOCK_LOCK]

/-- A taken write of SE_CLK: TARGET 0 is stored as 1. -/
theorem execSeClkWrite_of_takesWrite {s : State} {c size : Nat} (value : Word) (hc : c < 8) (h : s.takesWrite (R.SE_CLK c) size = true) :
    execSeClkWrite c size value s = .next (
      let s1 := s.storeReg (R.SE_CLK c) size value
      (if s1.f (F.SE_CLK_TARGET c) = 0 then s1.setF (F.SE_CLK_TARGET c) 1 else s1).clockSync c) := by
  rw [execSeClkWrite, Nat.mod_eq_of_lt hc, State.writeClk, gate_of_takesWrite h]

/-- A step of an available cluster's clock moves CUR by one toward the lower of target and cap. -/
theorem execClockStepComplete_eq {s : State} {c : Nat} (hc : c < 8) (hrun : s.threadsRun = true) (havail : s.clusterAvail c = true) :
    execClockStepComplete c s = .next (
      let cur := s.f (F.SE_CLK_CUR c)
      let eff := min (s.f (F.SE_CLK_TARGET c)) (s.f (F.SE_CLK_CAP c))
      if cur = eff then s else (s.setF (F.SE_CLK_CUR c) (if cur < eff then cur + 1 else cur - 1)).clockSync c) := by
  simp [execClockStepComplete, Nat.mod_eq_of_lt hc, hrun, havail]

/-- Settles O32: the write of SE_CLK, and the three ways that CUR stands to its goal. -/
theorem clusterClocks : Obligations.ClusterClocks := by
  refine ⟨fun s c size value hc h s1 hs1 => ⟨fun htarget => ?_, fun htarget => ?_⟩, fun s c hc hrun havail => ?_⟩
  · rw [show exec (.seClkWrite c size value) s = _ from execSeClkWrite_of_takesWrite value hc h, ← hs1]
    simp only [if_neg htarget]
  · rw [show exec (.seClkWrite c size value) s = _ from execSeClkWrite_of_takesWrite value hc h, ← hs1]
    simp only [if_pos htarget]
  · have hstep : exec (.clockStepComplete c) s = _ := execClockStepComplete_eq hc hrun havail
    refine ⟨fun hlt => ?_, fun hgt => ?_, fun heq => ?_⟩
    · rw [hstep, if_neg hlt.ne, if_pos hlt]
    · rw [hstep, if_neg hgt.ne', if_neg hgt.not_gt]
    · rw [hstep, if_pos heq]

end Sys2Proof.Machine

/-! ## Mode requests and mode transitions (R33, R35, R37, R38, R42, R298, R437) -/

namespace Sys2Proof.Machine

/-! ### The write of DEV_MODE -/

/-- A bit is the number's bit. -/
theorem bit_eq_testBit (v i : Nat) : bit v i = v.testBit i := by
  rw [Nat.testBit_eq_decide_div_mod_eq]
  rfl

/-- Two numbers have the same field where they have the same bits. -/
theorem bits_congr {u v lo w : Nat} (h : ∀ k, lo ≤ k → k < lo + w → u.testBit k = v.testBit k) : bits u lo w = bits v lo w := by
  refine Nat.eq_of_testBit_eq fun k => ?_
  simp only [bits, Nat.testBit_mod_two_pow, Nat.testBit_div_two_pow]
  by_cases hk : k < w
  · simp [hk, h (k + lo) (by omega) (by omega)]
  · simp [hk]

/-- A field that was put in reads as what was put. -/
theorem bits_putBits (v lo w x : Nat) : bits (putBits v lo w x) lo w = x % 2 ^ w := by
  refine Nat.eq_of_testBit_eq fun k => ?_
  simp only [bits, Nat.testBit_mod_two_pow, Nat.testBit_div_two_pow, testBit_putBits]
  by_cases hk : k < w
  · simp [hk, Nat.add_comm k lo]
  · simp [hk]

/-- The lower half of a register that is written holds the value's low bits. -/
theorem testBit_writtenValue_low {off size k : Nat} (hoff : off % 8 = 0) (hsize : size = 4 ∨ size = 8) (n : Nat) (hk : k < 32) :
    (writtenValue off size (BitVec.ofNat 64 n)).testBit k = n.testBit k := by
  have hk' : k < 64 := by omega
  have h32 : (n % 2 ^ 32).testBit k = n.testBit k := by simp only [Nat.testBit_mod_two_pow, hk, decide_true, Bool.true_and]
  have h64 : (n % 2 ^ 64).testBit k = n.testBit k := by simp only [Nat.testBit_mod_two_pow, hk', decide_true, Bool.true_and]
  rcases hsize with rfl | rfl
  · simpa [writtenValue, hoff] using h32
  · simpa [writtenValue] using h64

/-- A command register's taken write runs its command. -/
theorem command_of_takesCmd {s : State} {off size : Nat} (h : s.takesCmd off size = true) (hoff : off % 8 = 0) (value : Word)
    (k : Nat → State → State) : s.command off size value false k = k (writtenValue off size value) s := by
  obtain ⟨htakes, -⟩ : s.takesWrite off size = true ∧ _ := by simpa [State.takesCmd] using h
  rw [State.command, gate_of_takesWrite htakes]
  simp [hoff]

/-- A taken write of DEV_MODE with GO and a mode's code, REQ_ERR not written, is a request for that mode. -/
theorem askMode_of_takesCmd {s : State} {size code : Nat} {value : Word} (h : s.takesCmd R.DEV_MODE size = true)
    (hbit : bit value.toNat 15 = false) (hcode : code < 8) :
    ∃ v, s.askMode code size value = s.requestMode (Mode.ofCode code) v := by
  have hsize : size = 4 ∨ size = 8 := by
    obtain ⟨htakes, -⟩ : s.takesWrite R.DEV_MODE size = true ∧ _ := by simpa [State.takesCmd] using h
    exact ((takesWrite_iff s _ _).mp htakes).2.2.1
  have hlow (k : Nat) (hk : k < 32) := testBit_writtenValue_low (off := R.DEV_MODE) rfl hsize
    (putBits (putBit value.toNat 7 true) 12 3 code) hk
  have herr : bit (writtenValue R.DEV_MODE size (BitVec.ofNat 64 (putBits (putBit value.toNat 7 true) 12 3 code))) 15 = false := by
    rw [bit_eq_testBit, hlow 15 (by omega), testBit_putBits, putBit, testBit_putBits]
    simpa [bit_eq_testBit] using hbit
  have hgo : bit (writtenValue R.DEV_MODE size (BitVec.ofNat 64 (putBits (putBit value.toNat 7 true) 12 3 code))) 7 = true := by
    rw [bit_eq_testBit, hlow 7 (by omega), testBit_putBits, putBit, testBit_putBits]
    rfl
  have hreq : bits (writtenValue R.DEV_MODE size (BitVec.ofNat 64 (putBits (putBit value.toNat 7 true) 12 3 code))) 12 3 = code := by
    rw [bits_congr (fun k _ hk => hlow k (by omega)), bits_putBits]
    exact Nat.mod_eq_of_lt hcode
  refine ⟨writtenValue R.DEV_MODE size (BitVec.ofNat 64 (putBits (putBit value.toNat 7 true) 12 3 code)), ?_⟩
  rw [State.askMode, State.writeMode, command_of_takesCmd h rfl]
  simp only [herr, hgo, hreq, if_true, Bool.false_eq_true, if_false]

/-- A refusal sets REQ_ERR. -/
theorem modeRefused_mode (s : State) (v : Nat) : (s.modeRefused v).mode = { s.mode with reqErr := true } :=
  congrArg Prod.fst (notice_phase ({ s with mode := { s.mode with reqErr := true } } : State) 0 0xFFFF 3 R.DEV_MODE v 0)

/-- Every request is refused while a transition runs. -/
theorem requestMode_of_busy {s : State} (h : s.mode.busy = true) (r : Mode) (v : Nat) : s.requestMode r v = s.modeRefused v := by
  simp [State.requestMode, h]

/-- A request for Boot, Flush or Halted is refused in every mode. -/
theorem requestMode_unlisted {r : Mode} (hr : r = .boot ∨ r = .flush ∨ r = .halted) (s : State) (v : Nat) :
    s.requestMode r v = s.modeRefused v := by
  rcases hr with rfl | rfl | rfl <;> cases hcur : s.mode.cur <;> simp [State.requestMode, hcur]

/-- The modes that a request for an unlisted one names. -/
theorem unlisted_code (k : Nat) : Mode.ofCode (if k % 3 = 0 then 1 else if k % 3 = 1 then 5 else 6) = .boot ∨
    Mode.ofCode (if k % 3 = 0 then 1 else if k % 3 = 1 then 5 else 6) = .flush ∨
    Mode.ofCode (if k % 3 = 0 then 1 else if k % 3 = 1 then 5 else 6) = .halted := by
  split
  · exact .inl rfl
  · split
    · exact .inr (.inl rfl)
    · exact .inr (.inr rfl)

/-- The rows of R37's table, with no transition running: the first part of O31. -/
theorem modeRequests : Claims.ModeRequests := by
  intro s size value h hbit
  have hask (code : Nat) (hcode : code < 8) := askMode_of_takesCmd (value := value) h hbit hcode
  have hrefused (code v : Nat) (hv : s.askMode code size value = s.modeRefused v) :
      (s.askMode code size value).mode = { s.mode with reqErr := true } := by
    rw [hv, modeRefused_mode]
  refine ⟨fun hbusy c hc => ?_, fun k => ?_, fun hbusy => ?_⟩
  · have hcode (code : Nat) (hcode : code < 8) : (s.askMode code size value).mode = { s.mode with reqErr := true } := by
      obtain ⟨v, hv⟩ := hask code hcode
      exact hrefused code v (hv.trans (requestMode_of_busy hbusy _ v))
    simp only [List.mem_cons, List.not_mem_nil, or_false] at hc
    rcases hc with rfl | rfl | rfl | rfl | rfl <;> exact ⟨_, rfl, hcode _ (by decide)⟩
  · obtain ⟨v, hv⟩ := hask (if k % 3 = 0 then 1 else if k % 3 = 1 then 5 else 6) (by split <;> [skip; split] <;> decide)
    exact ⟨_, rfl, hrefused _ v (hv.trans (requestMode_unlisted (unlisted_code k) s v))⟩
  · obtain ⟨vd, hd⟩ := hask 0 (by decide)
    obtain ⟨vs, hs⟩ := hask 2 (by decide)
    obtain ⟨va, ha⟩ := hask 3 (by decide)
    obtain ⟨vm, hm⟩ := hask 4 (by decide)
    obtain ⟨vw, hw⟩ := hask 7 (by decide)
    have hdormant : exec (.modeReqDormant size value) s = .next (s.requestMode .dormant vd) := congrArg _ hd
    have hstandby : exec (.modeReqStandby size value) s = .next (s.requestMode .standby vs) := congrArg _ hs
    have hactive : exec (.modeReqActive size value) s = .next (s.requestMode .active va) := congrArg _ ha
    have hmaintenance : exec (.modeReqMaintenance size value) s = .next (s.requestMode .maintenance vm) := congrArg _ hm
    have hwitness : exec (.modeReqWitness size value) s = .next (s.requestMode .witness vw) := congrArg _ hw
    refine ⟨fun hcur => ?_, fun hcur => ?_, fun hcur => ?_, fun hcur => ⟨?_, ?_⟩, fun hcur => ?_, fun hcur hpaired => ?_,
      fun hcur hpaired => ?_, fun hcur hok => ?_, fun hcur hok => ?_, fun hcur => ?_⟩
    · rw [hstandby]
      simp [State.requestMode, hbusy, hcur]
    · rw [hactive]
      simp [State.requestMode, hbusy, hcur]
    · rw [hmaintenance]
      simp [State.requestMode, hbusy, hcur]
    · rw [hdormant]
      simp [State.requestMode, hbusy, hcur]
    · rw [hstandby]
      simp [State.requestMode, hbusy, hcur]
    · rw [hmaintenance]
      rcases hcur with hcur | hcur <;> simp [State.requestMode, hbusy, hcur]
    · rw [hstandby]
      rcases hcur with hcur | hcur <;> simp [State.requestMode, State.standbyOk, hbusy, hcur, hpaired]
    · rw [hactive]
      rcases hcur with hcur | hcur <;> simp [State.requestMode, hbusy, hcur, hpaired]
    · rw [hdormant]
      simp [State.requestMode, hbusy, hcur, hok]
    · rw [hwitness]
      simp [State.requestMode, hbusy, hcur, hok]
    · have hrefuse : s.requestMode .dormant vd = s.modeRefused vd := by simp [State.requestMode, hbusy, hcur]
      exact ⟨_, rfl, hrefused 0 vd (hd.trans hrefuse)⟩

/-! ### What the entry into a mode leaves of memory and the threads -/

/-- The mode register, the power state, DRAM, the threads and what is known of the sleds' bays. -/
def State.working (s : State) : ModeReg × PowerState × Mem × Tbl Thread × BobbinState :=
  (s.mode, s.power, s.dram, s.threads, s.bobbin)

/-- An operation repeated along a list keeps what it keeps once. -/
theorem foldl_keeps {α β : Type} (g : State → β) (f : State → α → State) (h : ∀ s a, g (f s a) = g s) (l : List α) (s : State) :
    g (l.foldl f s) = g s := by
  induction l generalizing s with
  | nil => rfl
  | cons a l ih => rw [List.foldl_cons, ih, h]

theorem working_eq_iff {s t : State} : t.working = s.working ↔
    t.mode = s.mode ∧ t.power = s.power ∧ t.dram = s.dram ∧ t.threads = s.threads ∧ t.bobbin = s.bobbin := by
  simp only [State.working, Prod.mk.injEq]

theorem working_ite (c : Prop) [Decidable c] (s t : State) : (if c then s else t).working = if c then s.working else t.working :=
  apply_ite State.working c s t

theorem setF_working (s : State) (x : Field) (v : Nat) : (s.setF x v).working = s.working := rfl
theorem setFlag_working (s : State) (x : Field) (b : Bool) : (s.setFlag x b).working = s.working := rfl
theorem send_working (s : State) (m : OutMsg) : (s.send m).working = s.working := rfl

theorem setChan_working (s : State) (n : Nat) (x : ShtChan) : (s.setChan n x).working = s.working := rfl
theorem shtForget_working (s : State) (n : Nat) : (s.shtForget n).working = s.working := rfl
theorem bumpFree_working (s : State) : s.bumpFree.working = s.working := rfl
theorem withHealth_working (s : State) (health : Health) : State.working { s with health } = s.working := rfl
theorem withAon_working (s : State) (aon : AonLog) : State.working { s with aon } = s.working := rfl

theorem setEp_working (s : State) (e : Nat) (x : Endpoint) : (s.setEp e x).working = s.working := by
  unfold State.setEp
  split <;> rfl

theorem msixDue_working (s : State) (e v : Nat) : (s.msixDue e v).working = s.working := by
  simp [State.msixDue, working_ite, send_working, setEp_working]

theorem pmeCheck_working (s : State) (e : Nat) : (s.pmeCheck e).working = s.working := by
  unfold State.pmeCheck
  split
  · split <;> rfl
  · rfl

theorem raiseEvent_working (s : State) (i : Nat) : (s.raiseEvent i).working = s.working := by
  unfold State.raiseEvent
  split
  · rfl
  · exact foldl_keeps _ _ (fun t e => by rw [pmeCheck_working, msixDue_working]) _ _

theorem logRecAt_working (s : State) (t : Word) (cls src unit code addr : Nat) (detail : BitVec 256) :
    (s.logRecAt t cls src unit code addr detail).working = s.working := by
  simp only [State.logRecAt, working_ite, raiseEvent_working, setFlag_working, setF_working, ite_self]
  rfl

theorem logRec_working (s : State) (cls src unit code addr : Nat) (detail : BitVec 256) :
    (s.logRec cls src unit code addr detail).working = s.working := by
  simp only [State.logRec, working_ite, logRecAt_working, ite_self]

theorem healthEventAt_working (s : State) (t : Word) (code : Nat) (critical : Bool) (src unit : Nat) (detail : Option (BitVec 256)) :
    (s.healthEventAt t code critical src unit detail).working = s.working := by
  simp only [State.healthEventAt, raiseEvent_working, working_ite, withHealth_working, setFlag_working, setF_working, bumpFree_working,
    logRecAt_working, ite_self]

theorem copyAon_working (s : State) : s.copyAon.working = s.working := by
  simp only [State.copyAon, setFlag_working, setF_working, withAon_working, working_ite, logRec_working, ite_self]
  exact foldl_keeps _ _ (fun t r => by rw [working_ite, healthEventAt_working, logRecAt_working, ite_self]) _ _

theorem ltrSync_working (s : State) : s.ltrSync.working = s.working := by
  refine foldl_keeps _ _ (fun t e => ?_) _ _
  split
  · rw [working_ite, send_working, setEp_working, ite_self]
  · rfl

theorem mirror_working (s : State) (m : MirrorItem) : (s.mirror m).working = s.working := by
  unfold State.mirror
  split <;> rfl

theorem mirrorRegs_working (s old : State) (a : Nat) : (s.mirrorRegs old a).working = s.working := by
  unfold State.mirrorRegs
  split
  · exact foldl_keeps _ _ (fun t e => mirror_working t _) _ _
  · rfl

theorem syncRuns_working (s : State) : s.syncRuns.working = s.working := by
  refine foldl_keeps _ _ (fun t a => ?_) _ _
  unfold State.syncRun
  split
  · rfl
  · rw [mirrorRegs_working]
    rfl

theorem sayHello_working (s : State) : s.sayHello.working = s.working :=
  foldl_keeps _ _ (fun t _ => send_working t _) _ _

theorem stopShuttle_working (s : State) : s.stopShuttle.working = s.working := by
  refine foldl_keeps _ _ (fun t n => ?_) _ _
  unfold State.stopChan
  split
  · rw [shtForget_working, setChan_working, setFlag_working, setF_working, setFlag_working, setF_working, working_ite, setFlag_working,
      ite_self]
  · rfl

/-! ### The entry into a mode -/

/-- Judgement that starts afresh forgets no fatal state. -/
theorem fatal_freshDebounce (hops : Tbl Hop) (k : Nat) :
    (Tbl.get hopReset (hops.map fun e => (e.1, e.2.freshDebounce)) k).fatal = (Tbl.get hopReset hops k).fatal := by
  induction hops with
  | nil => rfl
  | cons e hops ih =>
    simp only [List.map_cons, Tbl.get]
    split
    · rfl
    · exact ih

/-- With no fatal state reported, judgement starts and changes what is known of the sleds alone. -/
theorem startJudging_of_noFatal {s : State} (h : ∀ p k, (s.hop p k).fatal = false) : s.startJudging = { s with
    bobbin := { s.bobbin with hops := s.bobbin.hops.map (fun (e : Nat × Hop) => (e.1, e.2.freshDebounce)) }
    sleds := s.sleds.map (fun e => (e.1, { e.2 with timeouts := [], lostSince := e.2.lostSince.map (fun _ => s.tbase) })) } := by
  unfold State.startJudging
  refine List.foldl_fixed' (fun e => if_neg ?_) _
  rw [State.hop, fatal_freshDebounce]
  simp [show (Tbl.get hopReset s.bobbin.hops _).fatal = false from h _ _]

/-- What the entry into a mode sets and leaves, where no failure of a sled is declared with it. -/
theorem enterMode_keeps {s : State} {m : Mode}
    (h : judgedMode m = false ∨ judgedMode s.mode.cur = true ∨ ∀ p k, (s.hop p k).fatal = false) :
    (s.enterMode m).mode = { s.mode with cur := m, tgt := m, busy := false, draining := false } ∧
      (s.enterMode m).dram = s.dram ∧ (s.enterMode m).threads = s.threads := by
  unfold State.enterMode
  extract_lets mode entered stopped noticed judged synced
  have hstopped : stopped.working = entered.working := by
    simp only [stopped, working_ite, stopShuttle_working, ite_self]
  have hnoticed : noticed.working = entered.working := by
    simp only [noticed, working_ite, raiseEvent_working, hstopped, ite_self]
  have hjudged : judged.mode = entered.mode ∧ judged.dram = s.dram ∧ judged.threads = s.threads := by
    obtain ⟨hmode, hpower, hdram, hthreads, hbobbin⟩ := working_eq_iff.mp hnoticed
    simp only [judged]
    split
    case isFalse => exact ⟨hmode, hdram, hthreads⟩
    case isTrue hj =>
      obtain ⟨hm, hcur⟩ : judgedMode m = true ∧ judgedMode s.mode.cur = false := by simpa using hj
      have hfatal (p k : Nat) : (noticed.hop p k).fatal = false := by
        rw [State.hop, hbobbin]
        exact (h.resolve_left (by simp [hm])).resolve_left (by simp [hcur]) p k
      rw [startJudging_of_noFatal hfatal]
      exact ⟨hmode, hdram, hthreads⟩
  have hsynced : synced.working = judged.working := by
    simp only [synced, syncRuns_working, ltrSync_working, working_ite, copyAon_working, ite_self]
  have hend : (if synced.member && m != .dormant && !synced.flag F.FED_STAT_DUP then synced.sayHello else synced).working =
      judged.working := by
    rw [working_ite, sayHello_working, ite_self, hsynced]
  obtain ⟨hmode, hpower, hdram, hthreads, hbobbin⟩ := working_eq_iff.mp hend
  obtain ⟨jmode, jdram, jthreads⟩ := hjudged
  exact ⟨hmode.trans jmode, hdram.trans jdram, hthreads.trans jthreads⟩

/-! ### The transitions -/

/-- With nothing recorded, no doorbell is replayed. -/
theorem replayDoorbells_of_empty {s : State} (h : s.recorder = []) : s.replayDoorbells = s := by
  rw [State.replayDoorbells, h, List.foldl_nil, ← h]

/-- The ends of transitions, and what they set: the second part of O31. -/
theorem modeTransitions : Claims.ModeTransitions := by
  refine ⟨fun s hbusy hdraining hdrained hlink hcur => ?_, fun s m h => ?_, fun s hbusy hcur htgt hpow => ?_,
    fun s h => replayDoorbells_of_empty h⟩
  · change (_ → execDrainComplete s = _) ∧ (_ → _ → execDrainComplete s = _) ∧ (_ → _ → execDrainComplete s = _) ∧
      (_ → _ → execDrainComplete s = _) ∧ (_ → _ → execDrainComplete s = _)
    refine ⟨fun htgt => ?_, fun htgt hpaired => ?_, fun htgt hok => ?_, fun htgt hok => ?_, fun htgt hok => ?_⟩
    · simp [execDrainComplete, hbusy, hdraining, hdrained, hlink, hcur, htgt]
    · simp [execDrainComplete, hbusy, hdraining, hdrained, hlink, hcur, htgt, hpaired]
    · simp [execDrainComplete, hbusy, hdraining, hdrained, hlink, hcur, htgt, hok]
    · simp [execDrainComplete, hbusy, hdraining, hdrained, hlink, hcur, htgt, hok]
    · simp [execDrainComplete, hbusy, hdraining, hdrained, hlink, hcur, htgt, hok, State.abandonDrain]
  · obtain ⟨hmode, hdram, hthreads⟩ := enterMode_keeps h
    exact ⟨by rw [hmode], by rw [hmode], by rw [hmode], hdram, hthreads⟩
  · show execDormantExitComplete s = _
    simp [execDormantExitComplete, hbusy, hcur, htgt, hpow]

/-- Settles O31: the rows of the request table, and the ends of the transitions. -/
theorem modes : Obligations.Modes := ⟨modeRequests, modeTransitions⟩

end Sys2Proof.Machine

/-! ## Power failure, the Flush and the vault image (R38 to R41, R424, R425, R433) -/

namespace Sys2Proof.Machine

/-- A field is read from the register file alone. -/
theorem f_congr {s t : State} (x : Field) (h : t.bar0 = s.bar0) : t.f x = s.f x := by
  rw [State.f, State.f, State.reg, State.reg, h]

/-! ### The loss of power -/

theorem powerLost_powered (s : State) : s.powerLost.hw.powered = false := rfl
theorem powerLost_flush (s : State) : s.powerLost.power.flush = s.power.flush := rfl
theorem powerLost_image (s : State) : s.powerLost.power.image = s.power.image := rfl
theorem powerLost_erased (s : State) : s.powerLost.power.erased = s.power.erased := rfl
theorem powerLost_aon (s : State) : s.powerLost.aon = s.aon := rfl
theorem powerLost_f (s : State) (x : Field) : s.powerLost.f x = s.f x := f_congr x rfl

/-! ### Power-fail detection -/

/-- The last `n` of a list, counted. -/
theorem length_lastN {α : Type} (n : Nat) (l : List α) : (lastN n l).length = min n l.length := by
  simp only [lastN, List.length_drop]
  omega

/-- The always-on log keeps its newest 256 records. -/
theorem length_aon_logAon (s : State) (code detail : Nat) : (s.logAon code detail).aon.recs.length = min 256 (s.aon.recs.length + 1) := by
  rw [State.logAon, setFlag_aon, setF_aon, length_lastN, List.length_append, List.length_singleton]

/-- With a Flush running, or without power, detection does nothing. -/
theorem execPowerFailDetection_idle {s : State} (src : Nat) (h : s.hw.powered = false ∨ s.power.flush.isSome = true) :
    execPowerFailDetection src s = .next s := by
  rcases h with h | h <;> simp [execPowerFailDetection, h]

/-- From a mode that may hold dirty data, detection enters Flush. -/
theorem execPowerFailDetection_enterFlush {s : State} (src : Nat) (hpow : s.hw.powered = true) (hno : s.power.flush = none)
    (hcur : s.mode.cur = .active ∨ s.mode.cur = .standby ∨ s.mode.cur = .maintenance ∨ s.mode.cur = .boot) :
    execPowerFailDetection src s = .next (s.enterFlush (src % 2)) := by
  rcases hcur with hcur | hcur | hcur | hcur <;> simp [execPowerFailDetection, hpow, hno, hcur]

/-- In Dormant and Witness detection writes the always-on log, and power is lost. -/
theorem execPowerFailDetection_powerLost {s : State} (src : Nat) (hpow : s.hw.powered = true) (hno : s.power.flush = none)
    (hcur : s.mode.cur = .dormant ∨ s.mode.cur = .witness) :
    execPowerFailDetection src s = .next (s.logAon (s.freshVal.toNat % 65536) (src % 2)).bumpFree.powerLost := by
  rcases hcur with hcur | hcur <;> simp [execPowerFailDetection, hpow, hno, hcur]

/-- The ports' state is no part of the phase. -/
theorem withPorts_phase (s : State) (ports : Tbl Port) : State.phase { s with ports } = s.phase := rfl

/-- The Flush's mode is entered with its run begun. -/
theorem enterFlush_phase (s : State) (src : Nat) :
    ∃ (mode : ModeReg) (f : FlushRun), (s.enterFlush src).phase = (mode, some f) ∧ mode.cur = .flush := by
  unfold State.enterFlush
  extract_lets noted ledgered mode entered
  refine ⟨entered.mode, _, (withPorts_phase _ _).trans (beginFlush_phase entered src), ?_⟩
  rw [(enterMode_keeps (.inl rfl)).1]

/-! ### The end of a Flush -/

/-- The power state holds no register. -/
theorem withPower_f (s : State) (power : PowerState) (x : Field) : State.f { s with power } x = s.f x := f_congr x rfl

theorem saveHealth_power (s : State) : s.saveHealth.power = s.power := rfl

/-- The commit of a Flush that writes: the image is durable, and the Flush has ended. -/
theorem execFlushCommit_writes {s : State} {f : FlushRun} (vend : Nat) (hpow : s.hw.powered = true) (hf : s.power.flush = some f)
    (hrun : f.ended = false) (hw : f.writes = true) : ∃ t : State, execFlushCommit vend s = .next t ∧
      t.power.image = some s.imageNow ∧ t.power.erased = false ∧ t.power.flush = some { f with ended := true } := by
  refine ⟨_, rfl, ?_⟩
  rw [hf]
  split
  case h_1 hnone => cases hnone
  case h_2 g hsome =>
    cases hsome
    rw [if_neg (by simp [hrun, hpow])]
    extract_lets us committed power ended
    rw [if_pos hw, saveHealth_power]
    exact ⟨rfl, rfl, rfl⟩

/-- The commit of a Flush with nothing to write leaves the image as it is, with result 3. -/
theorem execFlushCommit_noWrite {s : State} {f : FlushRun} (vend : Nat) (hpow : s.hw.powered = true) (hf : s.power.flush = some f)
    (hrun : f.ended = false) (hw : f.writes = false) : ∃ t : State, execFlushCommit vend s = .next t ∧
      t.power.image = s.power.image ∧ t.f F.PWR_LOG_RESULT = 3 := by
  refine ⟨_, rfl, ?_⟩
  rw [hf]
  split
  case h_1 hnone => cases hnone
  case h_2 g hsome =>
    cases hsome
    rw [if_neg (by simp [hrun, hpow])]
    extract_lets us committed power ended
    have hpower : committed.power = s.power := by simp only [committed, setFlag_power, setF_power]
    have hresult : committed.f F.PWR_LOG_RESULT = 3 := by
      simp only [committed, hw]
      rw [State.setFlag, f_setF_off _ _ _ _ (by decide), f_setF_same _ _ _ (by decide)]
      rfl
    rw [if_neg (by simp [hw])]
    exact ⟨(congrArg PowerState.image hpower :), (f_congr _ rfl).trans hresult⟩

/-- A bank run down before the commit: no image, no erased area, result 2, and no power. -/
theorem execBankRundown_writes {s : State} {f : FlushRun} (hf : s.power.flush = some f) (hrun : f.ended = false) (hw : f.writes = true) :
    ∃ t : State, execBankRundown s = .next t ∧ t.hw.powered = false ∧ t.f F.PWR_LOG_RESULT = 2 ∧ t.power.image = none ∧
      t.power.erased = false := by
  have hresult : (s.setF F.PWR_LOG_RESULT 2).f F.PWR_LOG_RESULT = 2 := by
    rw [f_setF_same _ _ _ (by decide)]
    rfl
  refine ⟨_, rfl, ?_⟩
  rw [hf]
  split
  case h_1 hnone => cases hnone
  case h_2 g hsome =>
    cases hsome
    rw [if_pos (by simp [hrun, hw]), powerLost_f, powerLost_image, powerLost_erased, withPower_f]
    exact ⟨powerLost_powered _, hresult, rfl, rfl⟩

/-- Power-fail detection, the commit and the bank's run-down: the first part of O33. -/
theorem flushSequence : Claims.FlushSequence := by
  intro s src hpow
  refine ⟨fun hno => ⟨fun hcur => ?_, fun hcur => ?_, fun hcur => ?_⟩, fun f hf => ?_, fun f vend hf hrun hw => ?_,
    fun f vend hf hrun hw => ?_, fun f hf hrun hw => ?_⟩
  · obtain ⟨mode, f, hphase, hmode⟩ := enterFlush_phase s (src % 2)
    obtain ⟨hm, hf⟩ := Prod.mk.inj hphase
    exact ⟨execPowerFailDetection_enterFlush src hpow hno hcur, by rw [hm, hmode], by rw [hf]; rfl⟩
  · refine ⟨_, execPowerFailDetection_powerLost src hpow hno hcur, powerLost_powered _, ?_, ?_⟩
    · have hphase := (bumpFree_phase (s.logAon (s.freshVal.toNat % 65536) (src % 2))).trans (logAon_phase s _ _)
      rw [powerLost_flush, (Prod.mk.inj hphase).2, hno]
    · rw [powerLost_aon, bumpFree_aon, length_aon_logAon]
  · obtain ⟨t, f, ht, hmode, hf, -⟩ := execPowerFailDetection_of_halted (s := s) hcur src hpow hno
    exact ⟨t, ht, hmode ▸ hcur, by rw [hf]; rfl⟩
  · exact execPowerFailDetection_idle src (.inr (by rw [hf]; rfl))
  · exact execFlushCommit_writes vend hpow hf hrun hw
  · exact execFlushCommit_noWrite vend hpow hf hrun hw
  · exact execBankRundown_writes hf hrun hw

/-! ### The vault image -/

/-- The image is consumed once it could be saved, and the vault then erased: the second part of O33. -/
theorem vaultImage : Claims.VaultImage := by
  intro s hpow hno
  refine ⟨fun dirty hd hready hfits => ?_, fun dirty hd hfull => ?_, fun himage hd => ?_⟩
  · show execVaultImageConsumed s = _
    simp [execVaultImageConsumed, hd, hready, hfits, hno, hpow]
  · show execVaultImageConsumed s = _
    simp [execVaultImageConsumed, hd, hfull.not_ge]
  · show execVaultEraseSufficient s = _
    simp [execVaultEraseSufficient, himage, hd, hno, hpow]

/-- Settles O33: the Flush, and the image that it leaves. -/
theorem flushAndVault : Obligations.FlushAndVault := ⟨flushSequence, vaultImage⟩

end Sys2Proof.Machine

/-! ## Conventional resets and the steps of Boot (R38, R348, R351, R413 to R417, R435, R486) -/

namespace Sys2Proof.Machine

/-! ### What a conventional reset sets and leaves -/

/-- The part of the state that R38 and R351 speak of: the hardware, the mode, what runs, the logs, the hoop, memory and the boot
number. -/
def State.coldPart (s : State) :
    Hw × ModeReg × Tbl Thread × Tbl SubRing × MapCache × Word × ErrorLog × AonLog × Hoop × Mem × Nat :=
  (s.hw, s.mode, s.threads, s.subRings, s.mc, s.tbase, s.elog, s.aon, s.hoop, s.dram, s.boot.bootNo)

theorem setReg_coldPart (s : State) (off : Nat) (w : Word) : (s.setReg off w).coldPart = s.coldPart := rfl
theorem setF_coldPart (s : State) (x : Field) (v : Nat) : (s.setF x v).coldPart = s.coldPart := rfl
theorem setFlag_coldPart (s : State) (x : Field) (b : Bool) : (s.setFlag x b).coldPart = s.coldPart := rfl
theorem coldRegs_coldPart (s : State) : s.coldRegs.coldPart = s.coldPart := rfl
theorem coldSlots_coldPart (s : State) : s.coldSlots.coldPart = s.coldPart := rfl
theorem ledger_coldPart (s : State) (st event unit : Nat) : (s.ledger st event unit).coldPart = s.coldPart := rfl

theorem coldShow_coldPart (s old : State) : (s.coldShow old).coldPart = s.coldPart := by
  simp only [State.coldShow, setReg_coldPart, setF_coldPart, setFlag_coldPart]

/-- A step of Boot that starts changes the registers and its own records. -/
theorem startStep_coldPart (s : State) (st : Nat) : (s.startStep st).coldPart = s.coldPart := by
  rw [State.startStep, ledger_coldPart, setF_coldPart]
  rfl

/-- What a conventional reset sets, and what it leaves. -/
theorem convReset_coldPart (s : State) (cause : Nat) (pins : Straps) : (s.convReset cause pins).coldPart =
    ({ s.hw with pins, straps := pins, perst0 := false, powered := true, wake := false },
      { cur := .boot, busy := false, tgt := .boot, reqErr := false, cause, draining := false, prev := s.mode.cur }, [], [], mapCacheReset,
      s.tbase, s.elog, s.aon, s.hoop, if s.power.dramKept then s.dram else [], s.boot.bootNo + 1) := by
  simp only [State.convReset, apply_ite State.coldPart, startStep_coldPart, ite_self, coldShow_coldPart, coldSlots_coldPart,
    coldRegs_coldPart]
  rfl

/-- As convReset_coldPart, part by part. -/
theorem convReset_parts (s : State) (cause : Nat) (pins : Straps) :
    (s.convReset cause pins).hw = { s.hw with pins, straps := pins, perst0 := false, powered := true, wake := false } ∧
    (s.convReset cause pins).mode =
      { cur := .boot, busy := false, tgt := .boot, reqErr := false, cause, draining := false, prev := s.mode.cur } ∧
    (s.convReset cause pins).threads = [] ∧ (s.convReset cause pins).subRings = [] ∧ (s.convReset cause pins).mc = mapCacheReset ∧
    (s.convReset cause pins).tbase = s.tbase ∧ (s.convReset cause pins).elog = s.elog ∧ (s.convReset cause pins).aon = s.aon ∧
    (s.convReset cause pins).hoop = s.hoop ∧ (s.convReset cause pins).dram = (if s.power.dramKept then s.dram else []) ∧
    (s.convReset cause pins).boot.bootNo = s.boot.bootNo + 1 := by
  simpa only [State.coldPart, Prod.mk.injEq] using convReset_coldPart s cause pins

/-- A reset of a device whose memory was lost. -/
theorem convReset_of_memoryLost {u : State} (h : u.power.dramKept = false) (cause : Nat) (pins : Straps) :
    (u.convReset cause pins).mode.cur = .boot ∧ (u.convReset cause pins).tbase = u.tbase ∧
      (u.convReset cause pins).aon.recs = u.aon.recs ∧ (u.convReset cause pins).dram = [] ∧
      (u.convReset cause pins).hw.powered = true := by
  obtain ⟨hhw, hmode, -, -, -, htbase, -, haon, -, hdram, -⟩ := convReset_parts u cause pins
  refine ⟨by rw [hmode], htbase, by rw [haon], by rw [hdram, h]; rfl, by rw [hhw]⟩

/-- Power applied is a reset of a device without memory; TBASE and the always-on log start anew where their supply was lost. -/
theorem execPowerOn_reset {s : State} (pins : Straps) (aonLost held : Bool) (hoff : s.hw.powered = false) :
    ∃ u : State, execPowerOn pins aonLost held s = .next (u.convReset 0 pins) ∧ u.power.dramKept = false ∧
      u.tbase = (if aonLost then 0 else s.tbase) ∧ u.aon.recs = if aonLost then [] else s.aon.recs := by
  unfold execPowerOn
  rw [if_neg (by simp [hoff])]
  cases aonLost <;> exact ⟨_, rfl, rfl, rfl, rfl⟩

/-- The resets and what they set: the first part of O35. -/
theorem conventionalResets : Claims.ConventionalResets := by
  refine ⟨fun s pins held hoff => ?_, fun s pins held hoff => ?_, fun s pins hpin hno hcold hcur => ?_, fun s hcold hno hpow => ?_,
    fun s f hf hended hpow => ?_, fun s hheld hpow => ?_, fun s cause pins => ?_⟩
  · obtain ⟨u, hu, hkept, htbase, haon⟩ := execPowerOn_reset pins true held hoff
    obtain ⟨tmode, ttbase, taon, tdram, tpow⟩ := convReset_of_memoryLost hkept 0 pins
    exact ⟨_, hu, tmode, ttbase.trans htbase, taon.trans haon, tdram, tpow⟩
  · obtain ⟨u, hu, hkept, htbase, haon⟩ := execPowerOn_reset pins false held hoff
    obtain ⟨tmode, ttbase, taon, -, -⟩ := convReset_of_memoryLost hkept 0 pins
    exact ⟨_, hu, tmode, ttbase.trans htbase, taon.trans haon⟩
  · show execPerstDeassert pins s = _
    simp [execPerstDeassert, hpin, hno, hcold, hcur]
  · show execPerstAssert s = _
    simp [execPerstAssert, hcold, hno, hpow]
  · show execInternalReset s = _
    simp [execInternalReset, hf, hended, hpow]
  · show execControlIslandResetRelease s = _
    simp [execControlIslandResetRelease, hheld, hpow]
  · obtain ⟨hhw, hmode, hthreads, hsub, hmc, htbase, helog, -, hhoop, hdram, hboot⟩ := convReset_parts s cause pins
    exact ⟨by rw [hmode], by rw [hmode], by rw [hhw], hthreads, hsub, hmc, htbase, helog, hboot, hhoop,
      fun hkept => by rw [hdram, if_pos hkept]⟩

/-! ### The steps of Boot -/

/-- With nothing measured, a step measures nothing. -/
theorem measureStep_nil (s : State) (st : Nat) : s.measureStep st [] = s := by
  rw [State.measureStep, List.zip_nil_right, List.foldl_nil]

/-- The module waits for its peers before step 0x06 alone. -/
theorem releaseSync_of_ne {st : Nat} (h : st ≠ 6) (s : State) : s.releaseSync st = s :=
  if_neg (fun hs => h hs.1)

/-- A step that failed ends in Halted. -/
theorem execBootStepEnd_failed {s : State} {x : BootEnd} {st : Nat} {t : Word} (hrun : s.boot.running = some (st, t))
    (hcur : s.mode.cur ≠ .halted ∧ s.mode.cur ≠ .flush) (hpow : s.hw.powered = true) (hpass : x.pass = false) :
    execBootStepEnd x s = .next ((((s.measureStep st x.digests).ledger st 3 x.unit).releaseSync st).bootHalt 4 7 st) := by
  simp [execBootStepEnd, hrun, hcur.1, hcur.2, hpow, hpass]

/-- The slots of the ledger after a record. -/
theorem get_ledger (s : State) (st event unit k : Nat) : Tbl.get noLedger (s.ledger st event unit).boot.ledger k =
    if k = s.boot.ledgerNext % 4096 then some { bootNo := s.boot.bootNo, step := st, event, alt := Tbl.get markReset s.boot.alts st, unit
                                                tbase := s.tbase, detail := s.freshVal.toNat % 2 ^ 32 }
    else Tbl.get noLedger s.boot.ledger k := by
  unfold State.ledger
  rw [bumpFree_boot, Tbl.get_set]

theorem ledger_f (s : State) (st event unit : Nat) (x : Field) : (s.ledger st event unit).f x = s.f x := f_congr x rfl
theorem ledger_mode (s : State) (st event unit : Nat) : (s.ledger st event unit).mode = s.mode := rfl
theorem startStep_mode (s : State) (st : Nat) : (s.startStep st).mode = s.mode := rfl

/-- The step that starts runs from now. -/
theorem startStep_running (s : State) (st : Nat) : (s.startStep st).boot.running = some (st, s.tbase) := rfl

/-- The step that starts is the last one started. -/
theorem startStep_lastStep (s : State) {st : Nat} (h : st < 16) : (s.startStep st).f F.DEV_BOOT_STAT_LASTSTEP = st := by
  rw [State.startStep, ledger_f, f_setF_same _ _ _ (by decide)]
  exact Nat.mod_eq_of_lt h

/-- The record of a step's start leaves the other slots. -/
theorem get_ledger_startStep (s : State) (st : Nat) {k : Nat} (h : k ≠ s.boot.ledgerNext % 4096) :
    Tbl.get noLedger (s.startStep st).boot.ledger k = Tbl.get noLedger s.boot.ledger k := by
  rw [State.startStep, get_ledger, if_neg (by rwa [setF_boot]), setF_boot]

/-- The state between a passed step and the next. -/
def State.stepPassed (s : State) (st : Nat) : State :=
  let t : State := { s.ledger st 2 0xFF with boot := { (s.ledger st 2 0xFF).boot with running := none } }
  t.setF F.DEV_BOOT_STAT_ALTS ((List.range 9).map (fun k => if Tbl.get markReset t.boot.alts k = 0 then 0 else 2 ^ k)).sum

theorem stepPassed_mode (s : State) (st : Nat) : (s.stepPassed st).mode = s.mode := rfl
theorem stepPassed_tbase (s : State) (st : Nat) : (s.stepPassed st).tbase = s.tbase := rfl
theorem stepPassed_ledger (s : State) (st : Nat) : (s.stepPassed st).boot.ledger = (s.ledger st 2 0xFF).boot.ledger := rfl
theorem stepPassed_ledgerNext (s : State) (st : Nat) : (s.stepPassed st).boot.ledgerNext = s.boot.ledgerNext + 1 := rfl

/-- A passed step 0x02 or 0x03 with nothing measured leaves its record and starts the next step. -/
theorem execBootStepEnd_passed {s : State} {x : BootEnd} {st : Nat} {t : Word} (hrun : s.boot.running = some (st, t))
    (hcur : s.mode.cur = .boot) (hpow : s.hw.powered = true) (hpass : x.pass = true) (hst : st = 2 ∨ st = 3) (hx : x.digests = []) :
    execBootStepEnd x s = .next ((s.stepPassed st).startStep (st + 1)) := by
  rcases hst with rfl | rfl <;> simp [execBootStepEnd, hrun, hcur, hpow, hpass, hx, measureStep_nil, releaseSync_of_ne, State.stepDone,
    State.nextStep, ledger_mode, State.stepPassed]

/-- A step within its limit goes on, and one beyond it ends in Halted. -/
theorem execBootStepTimeout_eq {s : State} {st : Nat} {t : Word} (hrun : s.boot.running = some (st, t))
    (hcur : s.mode.cur ≠ .halted ∧ s.mode.cur ≠ .flush) (hpow : s.hw.powered = true) : execBootStepTimeout 0xFF s =
      .next (if (s.tbase - t).toNat ≤ stepLimit st then s else (s.releaseSync st).bootHalt 4 7 st) := by
  simp only [execBootStepTimeout, hrun, hcur.1, hcur.2, hpow, Bool.not_true, Bool.false_eq_true, or_false, if_true]

/-- With the maps loaded and no read out, nothing is left to load. -/
theorem beginLoad_of_loaded {s : State} (h : s.power.mapLoaded = true) : s.beginLoad = s := by
  simp [State.beginLoad, h]

theorem runReads_of_none {s : State} (hreads : s.devReads = []) (hjobs : s.readJobs = []) : s.runReads = s := by
  rw [State.runReads, State.examineHeld, hjobs, List.filter_nil, List.foldl_nil, State.settleDev, hreads, List.find?_nil]

/-- The steps of Boot and the end of the map load: the second part of O35. -/
theorem bootSteps : Claims.BootSteps := by
  refine ⟨fun s x st t hrun hhalted hflush hpow => ⟨fun hpass => ?_, fun hpass hst hx hcur => ?_, fun hlate => ?_, fun hin => ?_⟩,
    fun s hbusy htgt hdrain hgap hhalted hflush t ht => ⟨fun hloaded => ?_, fun hloaded => ?_⟩, fun s hloaded hreads hjobs => ?_⟩
  · exact execBootStepEnd_failed hrun ⟨hhalted, hflush⟩ hpow hpass
  · have hst16 : st + 1 < 16 := by omega
    have hslot : s.boot.ledgerNext % 4096 ≠ (s.boot.ledgerNext + 1) % 4096 := by omega
    refine ⟨_, execBootStepEnd_passed hrun hcur hpow hpass hst hx, ?_, ?_, ?_, startStep_lastStep _ hst16⟩
    · rw [startStep_running, stepPassed_tbase]
    · rw [startStep_mode, stepPassed_mode]
    · rw [get_ledger_startStep _ _ (by rwa [stepPassed_ledgerNext]), stepPassed_ledger, get_ledger, if_pos rfl]
  · exact (execBootStepTimeout_eq hrun ⟨hhalted, hflush⟩ hpow).trans (by rw [if_neg hlate.not_ge])
  · exact (execBootStepTimeout_eq hrun ⟨hhalted, hflush⟩ hpow).trans (by rw [if_pos hin])
  · show execMapLoadComplete s = _
    simp [execMapLoadComplete, hbusy, htgt, hdrain, hgap, hhalted, hflush, ← ht, hloaded]
  · show execMapLoadComplete s = _
    simp [execMapLoadComplete, hbusy, htgt, hdrain, hgap, hhalted, hflush, ← ht, hloaded]
  · rw [beginLoad_of_loaded hloaded, runReads_of_none hreads hjobs]

/-- Settles O35: the resets, and the steps of Boot. -/
theorem resetAndBoot : Obligations.ResetAndBoot := ⟨conventionalResets, bootSteps⟩

end Sys2Proof.Machine

/-! ## The CRC of R59 -/

namespace Sys2Proof.Machine

/-- One bit of the CRC with the register turned round: the polynomial of R59 reflected, least significant bit first. -/
def crcBitR (c : BitVec 32) (b : Bool) : BitVec 32 := (c >>> 1) ^^^ (if c.getLsbD 0 != b then 0x82F63B78 else 0)

/-- The polynomial of R59 and its reflected form. -/
theorem reverse_crcPoly : (0x1EDC6F41 : BitVec 32).reverse = 0x82F63B78 := by decide +kernel

theorem reverse_allOnes : (BitVec.allOnes 32).reverse = BitVec.allOnes 32 := by decide +kernel

theorem reverse_zero : (0 : BitVec 32).reverse = 0 := by decide +kernel

theorem reverse_xor {w : Nat} (x y : BitVec w) : (x ^^^ y).reverse = x.reverse ^^^ y.reverse := by
  ext i hi
  simp [← BitVec.getLsbD_eq_getElem, BitVec.getLsbD_reverse, BitVec.getMsbD_xor]

theorem reverse_shiftLeft_one {w : Nat} (x : BitVec w) : (x <<< 1).reverse = x.reverse >>> 1 := by
  refine BitVec.eq_of_getLsbD_eq fun i hi => ?_
  rw [BitVec.getLsbD_reverse, BitVec.getMsbD_shiftLeft, BitVec.getLsbD_ushiftRight, BitVec.getLsbD_reverse, Nat.add_comm]

/-- A bit of the CRC, seen in the register turned round. -/
theorem reverse_crcBit (c : BitVec 32) (b : Bool) : (Claims.crcBit c b).reverse = crcBitR c.reverse b := by
  have hlow : c.reverse.getLsbD 0 = c.msb := by rw [BitVec.getLsbD_reverse, BitVec.msb]
  rw [Claims.crcBit, crcBitR, reverse_xor, reverse_shiftLeft_one, hlow, apply_ite BitVec.reverse, reverse_crcPoly,
    reverse_zero]

theorem reverse_foldl_crcBit (l : List Bool) (c : BitVec 32) :
    (l.foldl Claims.crcBit c).reverse = l.foldl crcBitR c.reverse := by
  induction l generalizing c with
  | nil => rfl
  | cons b l ih => rw [List.foldl_cons, List.foldl_cons, ih, reverse_crcBit]

/-- The exclusive-or of a bit before the shift decides as the comparison with it after. -/
theorem xor_mod_two_eq_one_iff (c b : Nat) : (c ^^^ b) % 2 = 1 ↔ (c.testBit 0 != b.testBit 0) = true := by
  have hbit : (c.testBit 0 != b.testBit 0) = (c ^^^ b).testBit 0 := (Nat.testBit_xor c b 0).symm
  rw [hbit, Nat.testBit_zero, decide_eq_true_iff]

/-- `n` bits that enter one by one leave what `n` shifts leave of a register into which they all went at once. -/
theorem crcByteR_xor (n : Nat) (c : BitVec 32) {b : Nat} (hb : b < 2 ^ n) :
    crcByteR 0x82F63B78 n (c.toNat ^^^ b) = (((List.range n).map b.testBit).foldl crcBitR c).toNat := by
  induction n generalizing c b with
  | zero =>
    obtain rfl : b = 0 := by omega
    rw [Nat.xor_zero]
    rfl
  | succ n ih =>
    have hhalf : b / 2 < 2 ^ n := by omega
    have hbits : (List.range (n + 1)).map b.testBit = b.testBit 0 :: (List.range n).map (b / 2).testBit := by
      rw [List.range_succ_eq_map, List.map_cons, List.map_map]
      exact congrArg _ (List.map_congr_left fun k _ => (Nat.testBit_div_two b k).symm)
    have hstep : (if (c.toNat ^^^ b) % 2 = 1 then (c.toNat ^^^ b) / 2 ^^^ 0x82F63B78 else (c.toNat ^^^ b) / 2) =
        (crcBitR c (b.testBit 0)).toNat ^^^ b / 2 := by
      simp only [crcBitR, BitVec.toNat_xor, BitVec.toNat_ushiftRight, Nat.shiftRight_one, Nat.xor_div_two, xor_mod_two_eq_one_iff,
        BitVec.getLsbD]
      split <;> simp [Nat.xor_right_comm]
    rw [crcByteR, hstep, ih _ hhalf, hbits, List.foldl_cons]

/-- One byte of the model's CRC is its eight bits, least significant first. -/
theorem crcByteR_byte (c : BitVec 32) (b : Byte) :
    crcByteR 0x82F63B78 8 (c.toNat ^^^ b.toNat) = (((List.range 8).map b.getLsbD).foldl crcBitR c).toNat :=
  crcByteR_xor 8 c b.isLt

/-- The model's running value over a message is that of the message's bits. -/
theorem foldl_crcByteR (l : List Byte) (c : BitVec 32) :
    l.foldl (fun c b => crcByteR 0x82F63B78 8 (c ^^^ b.toNat)) c.toNat =
      ((l.flatMap (fun b => (List.range 8).map b.getLsbD)).foldl crcBitR c).toNat := by
  induction l generalizing c with
  | nil => rfl
  | cons b l ih => rw [List.foldl_cons, crcByteR_byte, ih, List.flatMap_cons, List.foldl_append]

/-- The model's CRC is that of R59's parameters. -/
theorem crc32c_eq_crcOf (l : List Byte) : crc32c l = (Claims.crcOf l).toNat := by
  rw [crc32c, Claims.crcOf, BitVec.toNat_xor, reverse_foldl_crcBit, reverse_allOnes, ← foldl_crcByteR]
  rfl

/-- Settles O52: the register turned round, bit by bit, and the check value of R59. -/
theorem crcParameters : Obligations.CrcParameters := ⟨crc32c_eq_crcOf, by decide +kernel⟩

end Sys2Proof.Machine

/-! ## Pricking commands (R61, R64 to R66, R72, R76, R232, R495) -/

namespace Sys2Proof.Machine

/-! ### The write of PRK_CMD -/

/-- A field that another field was put beside. -/
theorem bits_putBits_of_le {lo w : Nat} (lo' w' v x : Nat) (h : lo + w ≤ lo') : bits (putBits v lo w x) lo' w' = bits v lo' w' := by
  refine bits_congr fun k hk _ => ?_
  rw [testBit_putBits, if_neg (by omega)]

/-- What a write of PRK_CMD with OP = `op` puts into the register. -/
def prkCmdWritten (op size : Nat) (value : Word) : Nat :=
  writtenValue R.PRK_CMD size (BitVec.ofNat 64 (putBits value.toNat 0 4 op))

/-- Its OP is the command's, its SLOT that of the value. -/
theorem bits_prkCmdWritten {s : State} {size op : Nat} (h : s.takesCmd R.PRK_CMD size = true) (hop : op < 16) (value : Word) :
    bits (prkCmdWritten op size value) 0 4 = op ∧ bits (prkCmdWritten op size value) 8 5 = bits value.toNat 8 5 := by
  have hsize : size = 4 ∨ size = 8 := by
    obtain ⟨htakes, -⟩ : s.takesWrite R.PRK_CMD size = true ∧ _ := by simpa [State.takesCmd] using h
    obtain ⟨-, -, hsize, -, -⟩ := (takesWrite_iff s _ _).mp htakes
    exact hsize
  have hlow (k : Nat) (hk : k < 32) : (prkCmdWritten op size value).testBit k = (putBits value.toNat 0 4 op).testBit k :=
    testBit_writtenValue_low rfl hsize _ hk
  refine ⟨?_, ?_⟩
  · rw [bits_congr (fun k _ hk => hlow k (by omega)), bits_putBits]
    exact Nat.mod_eq_of_lt hop
  · rw [bits_congr (fun k _ hk => hlow k (by omega)), bits_putBits_of_le _ _ _ _ (by decide)]

/-- While a command runs, a further one is refused with a notice (R64). -/
theorem askPrk_of_busy {s : State} {size op : Nat} (h : s.takesCmd R.PRK_CMD size = true) (hbusy : s.prk.run.isSome = true)
    (value : Word) : s.askPrk op size value = s.regNotice 3 R.PRK_CMD (BitVec.ofNat 64 (prkCmdWritten op size value)) := by
  rw [State.askPrk, State.writePrkCmd, command_of_takesCmd h rfl]
  exact if_pos hbusy

/-- An idle engine begins a command (R64). -/
theorem askPrk_of_idle {s : State} {size : Nat} (h : s.takesCmd R.PRK_CMD size = true) (hidle : s.prk.run = none) (op : PrkOp)
    (value : Word) : s.askPrk op.code size value = s.prkBegin op (bits value.toNat 8 5) s.stageImage none := by
  obtain ⟨hop, hslot⟩ := bits_prkCmdWritten (op := op.code) h (by cases op <;> decide) value
  rw [prkCmdWritten] at hop hslot
  rw [State.askPrk, State.writePrkCmd, command_of_takesCmd h rfl, hop, hslot, hidle]
  cases op <;> rfl

/-- An idle engine records a reserved OP (R66). -/
theorem askPrk_of_reserved {s : State} {size op : Nat} (h : s.takesCmd R.PRK_CMD size = true) (hidle : s.prk.run = none)
    (hclaim : s.holdsClaim = true) (hop : op < 16) (hnone : prkOpOf op = none) (value : Word) :
    s.askPrk op size value = s.prkRecord op (bits value.toNat 8 5) 0x0317 := by
  obtain ⟨hopField, hslot⟩ := bits_prkCmdWritten h hop value
  rw [prkCmdWritten] at hopField hslot
  rw [State.askPrk, State.writePrkCmd, command_of_takesCmd h rfl, hopField, hslot, hidle, hnone, hclaim]
  rfl

/-- The rows of PRK_CMD ask for their command. -/
theorem exec_prkCmd {c : Nat → Word → Instr} {op : PrkOp}
    (h : (op = .load ∧ c = .prkCmdLoad) ∨ (op = .bind ∧ c = .prkCmdBind) ∨ (op = .arm ∧ c = .prkCmdArm) ∨ (op = .drop ∧ c = .prkCmdDrop))
    (s : State) (size : Nat) (value : Word) : exec (c size value) s = .next (s.askPrk op.code size value) := by
  rcases h with ⟨rfl, rfl⟩ | ⟨rfl, rfl⟩ | ⟨rfl, rfl⟩ | ⟨rfl, rfl⟩ <;> rfl

/-- An OP from 5 on names no command. -/
theorem prkOpOf_of_five_le {n : Nat} (h : 5 ≤ n) : prkOpOf n = none := by
  obtain ⟨k, rfl⟩ := Nat.exists_eq_add_of_le' h
  rfl

/-! ### What leaves the pricking state as it is -/

theorem prk_ite (c : Prop) [Decidable c] (s t : State) : (if c then s else t).prk = if c then s.prk else t.prk := apply_ite State.prk c s t

theorem foldl_prk {α : Type} (f : State → α → State) (h : ∀ s a, (f s a).prk = s.prk) (l : List α) (s : State) :
    (l.foldl f s).prk = s.prk := foldl_keeps State.prk f h l s

@[simp] theorem mirror_prk (s : State) (m : MirrorItem) : (s.mirror m).prk = s.prk := by
  unfold State.mirror
  split <;> rfl

@[simp] theorem setEp_prk (s : State) (e : Nat) (x : Endpoint) : (s.setEp e x).prk = s.prk := by
  unfold State.setEp
  split <;> rfl

@[simp] theorem msixDue_prk (s : State) (e v : Nat) : (s.msixDue e v).prk = s.prk := by
  simp [State.msixDue, prk_ite]

@[simp] theorem pmeCheck_prk (s : State) (e : Nat) : (s.pmeCheck e).prk = s.prk := by fun_cases State.pmeCheck s e <;> rfl

@[simp] theorem raiseEvent_prk (s : State) (i : Nat) : (s.raiseEvent i).prk = s.prk := by
  simp [State.raiseEvent, prk_ite, foldl_prk]

@[simp] theorem logRecAt_prk (s : State) (t : Word) (cls src unit code addr : Nat) (detail : BitVec 256) :
    (s.logRecAt t cls src unit code addr detail).prk = s.prk := by
  simp [State.logRecAt, prk_ite]

@[simp] theorem logRec_prk (s : State) (cls src unit code addr : Nat) (detail : BitVec 256) :
    (s.logRec cls src unit code addr detail).prk = s.prk := by
  simp [State.logRec, prk_ite]

@[simp] theorem regNotice_prk (s : State) (code off : Nat) (value : Word) (detail : Nat) :
    (s.regNotice code off value detail).prk = s.prk := by
  simp [State.regNotice, State.notice, State.logAon, prk_ite]

@[simp] theorem mirrorRegs_prk (s old : State) (a : Nat) : (s.mirrorRegs old a).prk = s.prk := by
  simp [State.mirrorRegs, prk_ite, foldl_prk]

@[simp] theorem syncArray_prk (s : State) (a : Nat) : (s.syncArray a).prk = s.prk := by
  unfold State.syncArray
  split <;> simp [State.paceAfresh, prk_ite]

@[simp] theorem syncRun_prk (s : State) (a : Nat) : (s.syncRun a).prk = s.prk := by
  simp [State.syncRun, prk_ite]

@[simp] theorem logArrayOpen_prk (s : State) (a addr : Nat) : (s.logArrayOpen a addr).prk = s.prk := by
  simp [State.logArrayOpen, State.logOpen]

@[simp] theorem enterArrayState_prk (s : State) (a st : Nat) : (s.enterArrayState a st).prk = s.prk := by
  unfold State.enterArrayState
  dsimp only
  split
  · rfl
  · rw [logArrayOpen_prk, raiseEvent_prk, setFlag_prk, setF_prk, setF_prk]

@[simp] theorem syncMembers_prk (s : State) (a : Nat) : (s.syncMembers a).prk = s.prk := by
  simp [State.syncMembers, prk_ite]

@[simp] theorem syncReshape_prk (s : State) (a : Nat) : (s.syncReshape a).prk = s.prk := by
  simp [State.syncReshape, prk_ite]

@[simp] theorem logRetired_prk (s : State) (a gen : Nat) (rel : List Nat) : (s.logRetired a gen rel).prk = s.prk := by
  simp [State.logRetired, foldl_prk]

@[simp] theorem pumpPort_prk (s : State) (p n : Nat) : (s.pumpPort p n).prk = s.prk := by
  induction n generalizing s with
  | zero => rfl
  | succ n ih =>
    simp only [State.pumpPort]
    repeat' split
    all_goals simp [ih]

@[simp] theorem chargeShare_prk (s : State) (n : Nat) (sh : Share) (cost : Nat) : (s.chargeShare n sh cost).prk = s.prk := by
  unfold State.chargeShare
  split <;> simp [prk_ite]

@[simp] theorem issueSled_prk (s : State) (p : Nat) (c : SledCmd) : (s.issueSled p c).prk = s.prk := by
  unfold State.issueSled
  generalize s.sledCmds.fresh (sledKey p 0) 512 = tag
  cases tag with
  | none => rfl
  | some k =>
    dsimp only
    rw [prk_ite, State.keepCommand, setPort_prk, State.pump, pumpPort_prk, setPort_prk]
    cases c.sled <;> simp

@[simp] theorem sendMarker_prk (s : State) (a gen : Nat) (l : List Nat) : (s.sendMarker a gen l).prk = s.prk := by
  simp [State.sendMarker, State.sendSled, foldl_prk, prk_ite]

/-! ### The slots and the generation marks -/

/-- A slot is read from the pricking state. -/
theorem slot_of_prk_eq {s t : State} (h : t.prk = s.prk) (i : Nat) : t.slot i = s.slot i := by rw [State.slot, h, State.slot]

theorem genMark_of_prk_eq {s t : State} (h : t.prk = s.prk) (a : Nat) : t.genMark a = s.genMark a := by rw [State.genMark, h, State.genMark]

theorem slot_setF (s : State) (x : Field) (v i : Nat) : (s.setF x v).slot i = s.slot i := slot_of_prk_eq (setF_prk s x v) i
theorem slot_setFlag (s : State) (x : Field) (b : Bool) (i : Nat) : (s.setFlag x b).slot i = s.slot i :=
  slot_of_prk_eq (setFlag_prk s x b) i

theorem slot_putSlot_same (s : State) (i : Nat) (x : Slot) : (s.putSlot i x).slot i = x := by
  rw [State.slot, State.putSlot, Tbl.get_set, if_pos rfl]

theorem slot_setSlot_same (s : State) (i : Nat) (x : Slot) : (s.setSlot i x).slot i = x := by
  rw [State.setSlot, slot_of_prk_eq (mirror_prk _ _), slot_putSlot_same]

/-- With no standby to mirror to, a slot is replaced here alone, and the pair's state stays. -/
theorem setSlot_pair {s : State} (h : s.pair.live = false) (i : Nat) (x : Slot) : (s.setSlot i x).pair = s.pair := by
  have hput : (s.putSlot i x).pair = s.pair := rfl
  rw [State.setSlot, State.mirror, hput, h]
  simp [hput]

/-- An ARM commit writes its slot and its array's mark (R61, R65). -/
theorem slot_putArmed (s : State) (old : Option (Nat × Slot)) (slot : Nat) (x : Slot) (a gen : Nat) :
    (s.putArmed old slot x a gen).slot slot = x := by
  unfold State.putArmed
  rw [slot_of_prk_eq (mirror_prk _ _)]
  exact slot_putSlot_same _ slot x

theorem genMark_putArmed (s : State) (old : Option (Nat × Slot)) (slot : Nat) (x : Slot) (a gen : Nat) :
    (s.putArmed old slot x a gen).genMark a = gen := by
  unfold State.putArmed
  rw [genMark_of_prk_eq (mirror_prk _ _), State.genMark, Tbl.get_set, if_pos rfl]

/-! ### The engine -/

/-- With nothing of the mirror to wait for, a command ends at once (R72). -/
theorem prkDone_of_durable {s : State} (h : s.durableAt s.pair.mirSeq = true) (r : PrkRun) (code : Nat) :
    s.prkDone r code = s.prkEnd r code := by rw [State.prkDone, if_pos h]

/-- As prkDone_of_durable, after a slot was written with no standby to mirror to. -/
theorem prkDone_setSlot {s : State} (hlive : s.pair.live = false) (h : s.durableAt s.pair.mirSeq = true) (i : Nat) (x : Slot)
    (r : PrkRun) (code : Nat) : (s.setSlot i x).prkDone r code = (s.setSlot i x).prkEnd r code := by
  refine prkDone_of_durable ?_ r code
  rw [State.durableAt, setSlot_pair hlive]
  exact h

/-- A command that is refused before it runs is recorded (R65, R66). -/
theorem prkBegin_of_refused {s : State} {op : PrkOp} {slot : Nat} (h : s.prkRefusal op slot ≠ 0) (image : List Byte) (th : Option Nat) :
    s.prkBegin op slot image th =
      (s.prkRecord op.code slot (s.prkRefusal op slot)).tellCall th (s.prkRefusal op slot) (s.slot slot).state.code := by
  simp [State.prkBegin, h]

/-- An ARM whose checks fail is recorded (R65). -/
theorem prkBegin_arm_of_unfit {s : State} {slot : Nat} (h : s.prkRefusal .arm slot = 0) (hcheck : s.bindCheck (s.slot slot).image true ≠ 0)
    (image : List Byte) (th : Option Nat) : s.prkBegin .arm slot image th =
      (s.prkRecord 3 slot (s.bindCheck (s.slot slot).image true)).tellCall th (s.bindCheck (s.slot slot).image true)
        (s.slot slot).state.code := by
  simp [State.prkBegin, h, hcheck, PrkOp.code]

theorem prkRefusal_of_not_allowed {s : State} {op : PrkOp} {slot : Nat} (hclaim : s.holdsClaim = true)
    (h : op.allowed (s.slot slot).state = false) : s.prkRefusal op slot = 0x0317 := by
  simp [State.prkRefusal, hclaim, h]

/-- Pricking commands begin, are refused, and end: the first part of O45. -/
theorem prickingCommands : Claims.PrickingCommands := by
  refine ⟨fun s size value c op hrow h => ⟨fun hidle => ?_, fun hbusy => ?_⟩, fun s size value h hidle hclaim hop => ?_,
    fun s op slot image th => ⟨fun hrefused => prkBegin_of_refused hrefused image th,
      fun hstate hclaim => prkRefusal_of_not_allowed hclaim hstate, ?_⟩,
    fun s r hrun hruns hready hdone hdurable hlive => ⟨fun hop hcheck => ?_, fun hop hcheck => ?_, fun hop hcheck => ?_, fun hop => ?_⟩⟩
  · rw [exec_prkCmd hrow, askPrk_of_idle h hidle]
  · exact ⟨_, exec_prkCmd hrow s size value, by rw [askPrk_of_busy h hbusy, regNotice_prk]⟩
  · have hfield : bits value.toNat 0 4 = value.toNat % 16 := by simp [bits]
    have hnone := prkOpOf_of_five_le hop
    show execPrkCmdReserved size value s = _
    rw [execPrkCmdReserved, hfield, hnone, Option.isSome_none, if_neg Bool.false_ne_true,
      askPrk_of_reserved h hidle hclaim (Nat.mod_lt _ (by decide)) hnone]
  · rintro rfl hrefusal hcheck
    exact prkBegin_arm_of_unfit hrefusal hcheck image th
  · show execPrkCommandComplete s = _
    simp [execPrkCommandComplete, hrun, hruns, hready, hdone, hop, hcheck, prkDone_setSlot hlive hdurable]
  · show execPrkCommandComplete s = _
    simp [execPrkCommandComplete, hrun, hruns, hready, hdone, hop, hcheck, prkDone_of_durable hdurable]
  · show execPrkCommandComplete s = _
    simp [execPrkCommandComplete, hrun, hruns, hready, hdone, hop, hcheck, prkDone_setSlot hlive hdurable]
  · show execPrkCommandComplete s = _
    simp [execPrkCommandComplete, hrun, hruns, hready, hdone, hop, prkDone_setSlot hlive hdurable]

/-! ### The ARM commit and the retirement -/

/-- The commit of a first pricking leaves its slot and its mark as State.putArmed writes them. -/
theorem prk_armSlot_of_first {s : State} {img : List Byte} (h : s.slotIn (pkArray img) .armed = none) (slot : Nat) :
    (s.armSlot slot img).prk = (s.putArmed none slot { state := .armed, image := img } (pkArray img) (pkGen img)).prk := by
  simp [State.armSlot, h]

/-- What follows the change of the slot at a retirement's commit leaves the slots (R232 steps 3 and 4). -/
theorem prk_retired (s old : State) (a gen : Nat) (rel : List Nat) :
    (((((s.raiseEvent (16 + a)).logRetired a gen rel).syncMembers a).syncArray a).mirrorRegs old a).prk = s.prk := by
  rw [mirrorRegs_prk, syncArray_prk, syncMembers_prk, logRetired_prk, raiseEvent_prk]

/-- The commit of a retirement leaves its slot EMPTY (R232 step 3). -/
theorem execRetirementCommit_slot {s : State} {a r : Nat} {sw : Nat × List Nat} (hslot : s.slotIn a .retiring = some r)
    (hsw : s.prk.switching.find? (fun x => x.1 == r) = some sw)
    (hwait : s.prk.markerWaits.any (fun m => m.1 == r && (s.sled m.2).usable) = false) (hlink : s.linkOff = false)
    (hmode : s.mode.cur ≠ .halted) (hclaim : s.holdsClaim = true) :
    ∃ t : State, execRetirementCommit a s = .next t ∧ (t.slot r).state = .empty := by
  simp only [execRetirementCommit, hslot, hsw, hwait, hlink, hmode, hclaim, decide_false, Bool.not_true, Bool.or_false,
    Bool.false_eq_true, if_false]
  refine ⟨_, rfl, ?_⟩
  rw [slot_of_prk_eq (prk_retired _ _ _ _ _)]
  split
  · rw [slot_setFlag, slot_setF, slot_setFlag, slot_setFlag, slot_setSlot_same]
    rfl
  · rw [slot_setFlag, slot_setFlag, slot_setF, slot_setFlag, slot_setFlag, slot_setSlot_same]
    rfl

/-- The ARM commit, the switch-over and the retirement: the second part of O45. -/
theorem armAndRetire : Claims.ArmAndRetire := by
  refine ⟨fun s r hrun hruns hop hready hdone hclaim hcreate => ⟨fun hfailed => ?_, fun hfailed husable hwaits => ?_⟩,
    fun s slot img _ hfirst => ?_,
    fun s a r hslot hexists hgen hclaim hidle hmode hswitching hcopies hjoining => ?_,
    fun s a r sw hslot _ hsw hwait hlink hmode hclaim => execRetirementCommit_slot hslot hsw hwait hlink hmode hclaim⟩
  · show execArmCommit s = _
    simp [execArmCommit, hrun, hruns, hop, hready, hdone, hclaim, hfailed]
  · have hlost : (pkMembers r.image).any (fun n => !(s.sled n).usable) = false := by simpa using husable
    show execArmCommit s = _
    simp [execArmCommit, hrun, hruns, hop, hready, hdone, hclaim, hfailed, hlost, hwaits, hcreate]
  · have hprk := prk_armSlot_of_first hfirst slot
    have harmed : (s.armSlot slot img).slot slot = { state := .armed, image := img } := by
      rw [slot_of_prk_eq hprk, slot_putArmed]
    exact ⟨by rw [harmed], by rw [harmed], by rw [genMark_of_prk_eq hprk, genMark_putArmed]⟩
  · show ∃ t : State, execRetirementSwitchover a s = .next t ∧ _
    simp only [execRetirementSwitchover, hslot, hexists, hgen, hclaim, hidle, hmode, hswitching, hcopies, hjoining, Bool.not_true,
      Bool.or_false, Bool.false_eq_true, if_false]
    exact ⟨_, rfl, congrArg PrkState.switching (sendMarker_prk _ _ _ _)⟩

/-- Settles O45: the commands of PRK_CMD, the ARM commit, and the retirement. -/
theorem prickings : Obligations.Prickings := ⟨prickingCommands, armAndRetire⟩

end Sys2Proof.Machine

/-! ## STRIPE (R90, R98, R107, R258) -/

namespace Sys2Proof.Machine

/-! ### What an instruction just issued finds of its thread and of the couching table -/

/-- The couching table is as before the issue. -/
theorem issued_centry (s : State) (th e : Nat) : (s.issued th).centry e = s.centry e := rfl

/-- The thread's registers are as before the issue. -/
theorem issued_reg (s : State) (th n : Nat) : ((s.issued th).thr th).reg n = (s.thr th).reg n := by
  rw [thr_issued]
  rfl

/-- The thread's outstanding instructions are as before the issue. -/
theorem issued_asyncs (s : State) (th : Nat) : ((s.issued th).thr th).asyncs = (s.thr th).asyncs := by rw [thr_issued]

/-- The next instruction's number is as before the issue. -/
theorem issued_nextId (s : State) (th : Nat) : ((s.issued th).thr th).nextId = (s.thr th).nextId := by rw [thr_issued]

/-- With no other instruction outstanding, the one that begins is the one its number names. -/
theorem exists_async?_async {s : State} {th : Nat} (h : (s.thr th).asyncs = []) (i : IWord) (wait : AsyncWait) (outcome : Nat)
    (wr rd : List Nat) : ∃ o : AsyncOp, ((s.async th i wait outcome wr rd).thr th).async? (s.thr th).nextId = some o ∧
      o.id = (s.thr th).nextId ∧ o.wait = wait := by
  simp [State.async, Thread.addAsync, Thread.async?, h]

/-! ### Entries the thread opened -/

/-- Entry `e` is one that thread `th` opened and that no other thread has opened since (R258). -/
def State.ownsEntry (s : State) (th e : Nat) : Prop :=
  e ∈ (s.thr th).entries ∧ ((s.centry e).state = 0 ∨ (s.centry e).owner = th)

/-- Issuing an instruction does not change whose an entry is. -/
theorem ownsEntry_issued (s : State) (th e : Nat) : (s.issued th).ownsEntry th e ↔ s.ownsEntry th e := by
  rw [State.ownsEntry, thr_issued, issued_centry, State.ownsEntry]

/-- On the thread's own entry the instruction takes effect. -/
theorem onEntry_own {s : State} {th : Nat} {i : IWord} (f : Nat → State) (h : s.ownsEntry th ((s.thr th).reg i.a).toNat) :
    s.onEntry th i f = f ((s.thr th).reg i.a).toNat := by
  obtain ⟨hmem, howner⟩ := h
  simp [State.onEntry, hmem, howner]

/-- Any other index ends the thread with fault 0x0406. -/
theorem onEntry_not_own {s : State} {th : Nat} {i : IWord} (f : Nat → State) (h : ¬ s.ownsEntry th ((s.thr th).reg i.a).toNat) :
    s.onEntry th i f = s.faultAt th 0x0406 := by
  rw [State.onEntry, if_neg]
  simpa [State.ownsEntry] using h

/-- The entry that the instruction at a thread's PC names in gA. -/
def State.namedEntry (s : State) (th : Nat) : Nat := ((s.thr th).reg (s.ins th).a).toNat

section
variable {s : State} {th : Nat} {want : IWord → Bool} {body : IWord → State → Nat → State} (hi : s.issues th want)
include hi

/-- An instruction on the thread's own entry takes its effect there. -/
theorem issue_onEntry_own (ho : s.ownsEntry th (s.namedEntry th)) :
    s.issue th want (fun i s => s.onEntry th i (body i s)) = body (s.ins th) (s.issued th) (s.namedEntry th) := by
  rw [issue_eq hi, onEntry_own, issued_reg, State.namedEntry]
  rwa [issued_reg, ownsEntry_issued]

/-- An instruction on any other entry ends the thread with fault 0x0406. -/
theorem issue_onEntry_not_own (ho : ¬ s.ownsEntry th (s.namedEntry th)) :
    s.issue th want (fun i s => s.onEntry th i (body i s)) = (s.issued th).faultAt th 0x0406 := by
  rw [issue_eq hi, onEntry_not_own]
  rwa [issued_reg, ownsEntry_issued]

end

/-- Without an earlier IPNEXT on its entry an instruction does not wait. -/
theorem ite_stripeBehind {s : State} {th : Nat} (hb : s.stripeBehind th = false) (t : State) :
    (if s.stripeBehind th then s else t) = t := if_neg (by rw [hb]; decide)

/-! ### The modes -/

section
variable {s : State} {th : Nat}

/-- IPNEXT of a thread with nothing outstanding tries at once for an interim slot (R98). -/
theorem exec_stripeIpnext_own (hb : s.stripeBehind th = false) (ho : s.ownsEntry th (s.namedEntry th))
    (hi : s.issues th (fun i => i.op == 0x53 && i.mode == 1)) (hnone : (s.thr th).asyncs = []) :
    ∃ o : AsyncOp, o.id = (s.thr th).nextId ∧ o.wait = .ipnext (s.namedEntry th) ∧ exec (.stripeIpnext th) s =
      .next (((s.issued th).async th (s.ins th) (.ipnext (s.namedEntry th)) 0 [] []).tryIpnext th o) := by
  obtain ⟨o, hfound, hid, hwait⟩ :=
    exists_async?_async ((issued_asyncs s th).trans hnone) (s.ins th) (.ipnext (s.namedEntry th)) 0 [] []
  refine ⟨o, hid.trans (issued_nextId s th), hwait, ?_⟩
  show execStripeIpnext th s = _
  rw [execStripeIpnext, ite_stripeBehind hb, issue_onEntry_own hi ho]
  simp only [hfound]

/-- IPSET makes IPNEXT the interim place; of the hoop only the stripe writers due may change besides (R98). -/
theorem exec_stripeIpset_own (hb : s.stripeBehind th = false) (ho : s.ownsEntry th (s.namedEntry th))
    (hi : s.issues th (fun i => i.op == 0x53 && i.mode == 2)) (hopen : (s.centry (s.namedEntry th)).state = 1)
    (hslot : (s.centry (s.namedEntry th)).ipnext ≠ 0xFFFFFFFF) :
    ∃ jobs : List StripeJob, exec (.stripeIpset th) s =
      .next ((((s.issued th).setJobs jobs).setCentry (s.namedEntry th) { s.centry (s.namedEntry th) with
        iploc := (s.centry (s.namedEntry th)).ipnext, ipcover := ((s.thr th).reg (s.ins th).b).toNat % 2 ^ 32, ipv := true,
        ipnext := 0xFFFFFFFF }).stripeDone th (s.ins th) 0) := by
  have hopen : ((s.issued th).centry (s.namedEntry th)).state = 1 := hopen
  have hslot : ((s.issued th).centry (s.namedEntry th)).ipnext ≠ 0xFFFFFFFF := hslot
  apply Exists.intro
  show execStripeIpset th s = _
  rw [execStripeIpset, ite_stripeBehind hb, issue_onEntry_own hi ho]
  simp only [issued_reg]
  rw [if_neg (by simp [hopen, hslot])]
  rfl

/-- CLOSING takes an entry with every column acknowledged to state 2 (R90). -/
theorem exec_stripeClosing_own (hb : s.stripeBehind th = false) (ho : s.ownsEntry th (s.namedEntry th))
    (hi : s.issues th (fun i => i.op == 0x53 && i.mode == 3)) (hopen : (s.centry (s.namedEntry th)).state = 1)
    (hacked : (s.issued th).allAcked (s.namedEntry th) = true) :
    exec (.stripeClosing th) s = .next (((s.issued th).setCentry (s.namedEntry th)
      { s.centry (s.namedEntry th) with state := 2 }).stripeDone th (s.ins th) 0) := by
  have hopen : ((s.issued th).centry (s.namedEntry th)).state = 1 := hopen
  show execStripeClosing th s = _
  rw [execStripeClosing, ite_stripeBehind hb, issue_onEntry_own hi ho, if_pos (by simp [hopen, hacked])]
  rfl

/-- CLOSE closes the stripe of a CLOSING entry, which is then no entry of the thread (R90). -/
theorem exec_stripeClose_own (hb : s.stripeBehind th = false) (ho : s.ownsEntry th (s.namedEntry th))
    (hi : s.issues th (fun i => i.op == 0x53 && i.mode == 4)) (hclosing : (s.centry (s.namedEntry th)).state = 2) :
    exec (.stripeClose th) s = .next ((((s.issued th).closeStripe (s.namedEntry th)).setThr th
      { ((s.issued th).closeStripe (s.namedEntry th)).thr th with
        entries := (((s.issued th).closeStripe (s.namedEntry th)).thr th).entries.filter
          (fun x => x != s.namedEntry th) }).stripeDone th (s.ins th) 0) := by
  have hclosing : ((s.issued th).centry (s.namedEntry th)).state = 2 := hclosing
  show execStripeClose th s = _
  rw [execStripeClose, ite_stripeBehind hb, issue_onEntry_own hi ho, if_pos hclosing]

/-- ABANDON abandons an OPEN or a CLOSING entry (R107). -/
theorem exec_stripeAbandon_own (ho : s.ownsEntry th (s.namedEntry th)) (hi : s.issues th (fun i => i.op == 0x53 && i.mode == 5))
    (hlive : (s.centry (s.namedEntry th)).state = 1 ∨ (s.centry (s.namedEntry th)).state = 2) :
    exec (.stripeAbandon th) s = .next ((((s.issued th).abandonEntry (s.namedEntry th) false).setThr th
      { ((s.issued th).abandonEntry (s.namedEntry th) false).thr th with
        dropped := (((s.issued th).abandonEntry (s.namedEntry th) false).thr th).dropped ++ [s.namedEntry th] }).stripeDone th
          (s.ins th) 0) := by
  have hlive : ((s.issued th).centry (s.namedEntry th)).state = 1 ∨ ((s.issued th).centry (s.namedEntry th)).state = 2 := hlive
  show execStripeAbandon th s = _
  rw [execStripeAbandon, issue_onEntry_own hi ho, if_pos hlive]

/-- ABANDON of an entry abandoned already only completes (R258). -/
theorem exec_stripeAbandon_again (ho : s.ownsEntry th (s.namedEntry th)) (hi : s.issues th (fun i => i.op == 0x53 && i.mode == 5))
    (hgone : (s.centry (s.namedEntry th)).state = 3) :
    exec (.stripeAbandon th) s = .next ((s.issued th).stripeDone th (s.ins th) 0) := by
  have hgone : ((s.issued th).centry (s.namedEntry th)).state = 3 := hgone
  show execStripeAbandon th s = _
  rw [execStripeAbandon, issue_onEntry_own hi ho, if_neg (by simp [hgone]), if_pos hgone]

/-- Every mode but OPEN ends the thread with fault 0x0406 on an entry that is not its own (R258). -/
theorem exec_stripe_not_own (ho : ¬ s.ownsEntry th (s.namedEntry th)) {c : Nat → Instr} {mode : Nat}
    (hc : (c, mode) ∈ [((.stripeIpnext : Nat → Instr), 1), (.stripeIpset, 2), (.stripeClosing, 3), (.stripeClose, 4),
      (.stripeAbandon, 5)])
    (hi : s.issues th (fun i => i.op == 0x53 && i.mode == mode)) (hb : mode = 5 ∨ s.stripeBehind th = false) :
    exec (c th) s = .next ((s.issued th).faultAt th 0x0406) := by
  simp only [List.mem_cons, Prod.mk.injEq, List.not_mem_nil, or_false] at hc
  have faults : ∀ body : IWord → State → Nat → State, s.issue th (fun i => i.op == 0x53 && i.mode == mode)
      (fun i s => s.onEntry th i (body i s)) = (s.issued th).faultAt th 0x0406 := fun _ => issue_onEntry_not_own hi ho
  have waits : mode ≠ 5 → ∀ t : State, (if s.stripeBehind th then s else t) = t := fun hm => ite_stripeBehind (hb.resolve_left hm)
  rcases hc with ⟨rfl, rfl⟩ | ⟨rfl, rfl⟩ | ⟨rfl, rfl⟩ | ⟨rfl, rfl⟩ | ⟨rfl, rfl⟩
  case inr.inr.inr.inr => exact congrArg _ (faults _)
  all_goals exact congrArg _ ((waits (by decide) _).trans (faults _))

end

/-- A waiting IPNEXT that finds a slot keeps it in the entry, and waits only for the mirrored change to be durable (R98, R137). -/
theorem tryIpnext_slot {s s1 : State} {th e slot : Nat} {o : AsyncOp} (hwait : o.wait = .ipnext e) (hopen : (s.centry e).state = 1)
    (hslot : s.interimSlot (s.centry e).array (thCluster th) (s.centry e).generation = (s1, some slot)) :
    let s2 := s1.setCentry e { s1.centry e with ipnext := slot, ipacked := 0 }
    s.tryIpnext th o = s2.setThr th ((s2.thr th).mapAsync o.id (fun y =>
      { y with wait := if s2.durableAt s2.pair.mirSeq then .done else .durable s2.pair.mirSeq
               outcome := if o.dreg = some 0 then 0 else slot })) := by
  simp [State.tryIpnext, hwait, hopen, hslot]

/-- The modes of STRIPE but OPEN: the first part of O12. -/
theorem stripeInstructions : Claims.StripeInstructions := by
  refine ⟨fun th s => ⟨fun hb own => ⟨fun hi hnone => ?_, fun hi hopen hslot => ?_, fun hi hopen hacked => ?_, fun hi hclosing => ?_⟩,
    fun own hi => ⟨fun hlive => ?_, fun hgone => ?_⟩, fun own p hp hi hb => ?_⟩, fun th e slot s s1 s2 o hwait hopen hslot hs2 => ?_⟩
  · obtain ⟨o, hid, hwait, hexec⟩ := exec_stripeIpnext_own hb own hi hnone
    exact ⟨_, o, rfl, hid, hwait, hexec⟩
  · obtain ⟨jobs, hexec⟩ := exec_stripeIpset_own hb own hi hopen hslot
    exact ⟨(s.issued th).setJobs jobs, hexec, rfl, rfl⟩
  · exact exec_stripeClosing_own hb own hi hopen hacked
  · exact ⟨_, rfl, exec_stripeClose_own hb own hi hclosing⟩
  · exact ⟨_, rfl, exec_stripeAbandon_own own hi hlive⟩
  · exact exec_stripeAbandon_again own hi hgone
  · exact exec_stripe_not_own own hp hi hb
  · exact hs2 ▸ tryIpnext_slot hwait hopen hslot

/-! ### OPEN -/

section
variable {s : State} {th : Nat} (hi : s.issues th (fun i => i.op == 0x53 && i.mode == 0))
include hi

/-- OPEN of a media address with a reserved bit set ends the thread with fault 0x0406 (R258). -/
theorem exec_stripeOpen_reserved (hma : mediaParts ((s.thr th).reg (s.ins th).a).toNat = none) :
    exec (.stripeOpen th) s = .next ((s.issued th).faultAt th 0x0406) := by
  show execStripeOpen th s = _
  rw [execStripeOpen, issue_eq hi]
  simp only [issued_reg, hma]

/-- OPEN of column 0 of a stripe of an open band, by a thread with nothing outstanding, is tried at once (R90 step 2). -/
theorem exec_stripeOpen_tries {a b st : Nat} {img : List Byte}
    (hma : mediaParts ((s.thr th).reg (s.ins th).a).toNat = some (a, b, st, 0)) (hexists : s.arrExists a = true)
    (harmed : s.armed a = some img) (hlimit : b < s.f (F.ARR_BAND_LIMIT a)) (hopen : (s.band a b).state = .open_)
    (hroom : st < s.bandStripes a b) (hnone : (s.thr th).asyncs = []) :
    let wait := AsyncWait.stripeOpen ((s.thr th).reg (s.ins th).a).toNat ((s.thr th).reg (s.ins th).b).toNat ((s.ins th).im 6 2)
    ∃ o : AsyncOp, o.id = (s.thr th).nextId ∧ o.wait = wait ∧
      exec (.stripeOpen th) s = .next (((s.issued th).async th (s.ins th) wait 0 [] []).tryOpen th o) := by
  intro wait
  obtain ⟨o, hfound, hid, hwait⟩ := exists_async?_async ((issued_asyncs s th).trans hnone) (s.ins th) wait 0 [] []
  refine ⟨o, hid.trans (issued_nextId s th), hwait, ?_⟩
  have hexists : (s.issued th).arrExists a = true := hexists
  have harmed : (s.issued th).armed a = some img := harmed
  have hlimit : b < (s.issued th).f (F.ARR_BAND_LIMIT a) := hlimit
  have hopen : ((s.issued th).band a b).state = .open_ := hopen
  have hroom : st < (s.issued th).bandStripes a b := hroom
  show execStripeOpen th s = _
  rw [execStripeOpen, issue_eq hi]
  simp only [issued_reg, hma]
  rw [if_neg (by simp [hexists, harmed, hlimit, hopen, hroom])]
  simp only [wait] at hfound
  simp only [hfound, wait]

end

section
variable {s r : State} {th ma gather source : Nat} {o : AsyncOp} {x : Option Nat} (hwait : o.wait = .stripeOpen ma gather source)
  (hopen : s.openStripe th (bits ma 0 4) (bits ma 8 21) (bits ma 32 24) source = (r, x))
include hwait hopen

/-- An OPEN whose stripe opens has the entry as its outcome, and waits only for the mirrored change to be durable (R90 step 3). -/
theorem tryOpen_opens {e : Nat} (hx : x = some e) : s.tryOpen th o = r.setThr th ((r.thr th).mapAsync o.id (fun x =>
    { x with wait := if r.durableAt r.pair.mirSeq then .done else .durable r.pair.mirSeq
             outcome := if x.dreg = some 0 then 0 else e })) := by
  simp only [State.tryOpen, hwait, hopen, hx]

/-- An OPEN of a place where the thread's cluster may not open a stripe completes with 0x0406 (log entry 77). -/
theorem tryOpen_misplaced (hx : x = none) (hplace : r.misplaced (thCluster th) (r.stripeKind (bits ma 0 4) (thCluster th) source)
    (bits ma 0 4) (bits ma 8 21) (bits ma 32 24) = true) : s.tryOpen th o = r.setThr th ((r.thr th).mapAsync o.id (fun x =>
    { x with wait := .done, outcome := if x.dreg = some 0 then 0 else 0x0406 })) := by
  simp only [State.tryOpen, hwait, hopen, hx, hplace, if_true]

end

/-- OPEN, at its issue and later: the second part of O12. -/
theorem stripeOpening : Claims.StripeOpening := by
  refine ⟨fun th s hi hma => exec_stripeOpen_reserved hi hma, fun th s a b st img => ?_, fun th s r o ma g src x hwait hopen => ?_,
    fun th s o hrun hfind => ?_⟩
  · intro i t hi hma hexists harmed hlimit hopen hroom hnone
    obtain ⟨o, hid, hwait, hexec⟩ := exec_stripeOpen_tries hi hma hexists harmed hlimit hopen hroom hnone
    exact ⟨_, o, hexec, rfl, hid, hwait⟩
  · exact ⟨fun e hx => tryOpen_opens hwait hopen hx, tryOpen_misplaced hwait hopen⟩
  · show execStripeOpenResume th s = _
    rw [execStripeOpenResume]
    split
    case h_1 o' hsome =>
      obtain rfl : o' = o := Option.some.inj (hsome.symm.trans hfind)
      rw [if_pos hrun]
    case h_2 hnone => cases hnone.symm.trans hfind

/-- Settles O12: the modes of STRIPE on the thread's own entry and on another, and its OPEN. -/
theorem stripeRules : Obligations.StripeRules := ⟨stripeInstructions, stripeOpening⟩

end Sys2Proof.Machine

/-! ## STORE with COMMIT and EMIT (R84, R86, R90, R251, R252) -/

namespace Sys2Proof.Machine

/-! ### STORE with COMMIT -/

section
variable {s : State} {th : Nat} (hi : s.issues th (fun i => i.op == 0x39 && i.mode == 3 && i.im 6 2 == 1))
include hi

/-- With nothing staged a COMMIT completes with outcome 0 (R251). -/
theorem exec_storeCommit_nothing (hstaged : (s.thr th).staged = []) : exec (.storeCommit th) s =
    .next (((s.issued th).setThr th { (s.issued th).thr th with staged := [] }).async th (s.ins th) .done 0 [] []) := by
  show execStoreCommit th s = _
  rw [execStoreCommit, issue_eq hi]
  simp only [thr_issued, hstaged, or_true, if_true]

/-- Blocks that may not be written at all complete a COMMIT with the status of the first reason (R84, R251). -/
theorem exec_storeCommit_refused (hstaged : (s.thr th).staged ≠ []) (hstatus : (s.issued th).commitStatus (s.thr th).staged ≠ 0) :
    exec (.storeCommit th) s = .next (((s.issued th).setThr th { (s.issued th).thr th with staged := [] }).async th (s.ins th) .done
      ((s.issued th).commitStatus (s.thr th).staged) [] []) := by
  show execStoreCommit th s = _
  rw [execStoreCommit, issue_eq hi]
  simp only [thr_issued]
  rw [if_pos (.inl hstatus), if_neg hstaged]

/-- Any other COMMIT has its blocks mirrored, begins its bank wait, and is tried at once (R84, R86). -/
theorem exec_storeCommit_tries (hstaged : (s.thr th).staged ≠ []) (hstatus : (s.issued th).commitStatus (s.thr th).staged = 0)
    (o : AsyncOp) :
    let s1 := ((s.issued th).setThr th { (s.issued th).thr th with staged := [] }).mirrorBlocks (s.thr th).staged
    let s2 := (s1.async th (s.ins th) (.commit (s.thr th).staged s1.pair.mirSeq) 0 [] []).beginBankWait th
    (s2.thr th).async? (s.thr th).nextId = some o → exec (.storeCommit th) s = .next (s2.tryCommit th o).drive := by
  intro s1 s2 hfound
  show execStoreCommit th s = _
  rw [execStoreCommit, issue_eq hi]
  simp only [thr_issued, s1, s2] at hfound ⊢
  rw [if_neg (by simp [hstaged, hstatus])]
  simp only [hfound]

end

/-- A waiting COMMIT is tried again when STORE_COMMIT_RESUME comes (R86). -/
theorem exec_storeCommitResume_tries {s : State} {th : Nat} {o : AsyncOp} (hrun : s.threadsRun = true)
    (hfind : (s.thr th).asyncs.find? (fun o => match o.wait with | .commit .. => true | _ => false) = some o) :
    exec (.storeCommitResume th) s = .next (s.tryCommit th o).drive := by
  show execStoreCommitResume th s = _
  rw [execStoreCommitResume]
  split
  case h_1 o' hsome =>
    obtain rfl : o' = o := Option.some.inj (hsome.symm.trans hfind)
    rw [if_pos hrun]
  case h_2 hnone => cases hnone.symm.trans hfind

/-- A COMMIT whose bank has been unhealthy for the whole limit ends with 0x0601 and stores nothing (R86). -/
theorem exec_bankWaitTimeout_ends {s : State} {th : Nat} {o : AsyncOp} {w : BankWait}
    (hfind : (s.thr th).asyncs.find? (fun o => match o.wait with | .commit .. => true | _ => false) = some o)
    (hwait : s.hoop.bankWaits.find? (fun w => w.th == th) = some w) (hlate : s.f F.HOOP_BANK_WAIT_TIMEOUT ≤ (w.pause s.tbase).sum) :
    exec (.bankWaitTimeout th) s = .next (((s.endBankWait th).dropMirrored o).asyncDone th o.id 0x0601) := by
  show execBankWaitTimeout th s = _
  rw [execBankWaitTimeout]
  split
  case h_1 w' o' hw' hsome =>
    obtain rfl : w' = w := Option.some.inj (hw'.symm.trans hwait)
    obtain rfl : o' = o := Option.some.inj (hsome.symm.trans hfind)
    rw [if_pos hlate]
  case h_2 hnone => exact (hnone w o hwait hfind).elim

/-- STORE with COMMIT: the first part of O14. -/
theorem hoopCommit : Claims.HoopCommit :=
  ⟨fun _ _ hi => ⟨exec_storeCommit_nothing hi, exec_storeCommit_refused hi, exec_storeCommit_tries hi⟩,
    fun _ _ _ => exec_storeCommitResume_tries, fun _ _ _ _ => exec_bankWaitTimeout_ends⟩

/-! ### EMIT -/

/-- A run's words are as before the issue. -/
theorem issued_runInfos (s : State) (th h : Nat) : (s.issued th).runInfos th h = s.runInfos th h := by
  rw [State.runInfos, thr_issued]
  rfl

section
variable {s : State} {th : Nat} (hi : s.issues th (fun i => i.op == 0x3A))
include hi

/-- EMIT to an entry number beyond the table ends the thread with fault 0x0406 (R252). -/
theorem exec_emit_beyond (he : couchingSize ≤ ((s.thr th).reg (s.ins th).c).toNat) :
    exec (.emit th) s = .next ((s.issued th).faultAt th 0x0406) := by
  show execEmit th s = _
  rw [execEmit, issue_eq hi]
  simp only [issued_reg]
  rw [if_pos (.inl he)]

variable (he : ((s.thr th).reg (s.ins th).c).toNat < couchingSize)
include he

/-- EMIT to an entry that is not OPEN completes with 0x0305 (R252). -/
theorem exec_emit_not_open (hstate : (s.centry ((s.thr th).reg (s.ins th).c).toNat).state ≠ 1) (hrun : (s.ins th).ib 3 = false)
    (hsyn : (s.ins th).ib 4 = false) : exec (.emit th) s = .next ((s.issued th).async th (s.ins th) .done 0x0305 [] []) := by
  have hstate : ((s.issued th).centry ((s.thr th).reg (s.ins th).c).toNat).state ≠ 1 := hstate
  show execEmit th s = _
  rw [execEmit, issue_eq hi]
  simp only [issued_reg]
  rw [if_neg (by simp [he, hstate]), if_neg (by simp [hsyn]), if_neg (by simp [hrun]), if_pos hstate]

/-- EMIT of a whole run to a column of an OPEN entry sets the column's ISSUED bit; durable at once, the PROGRAM leaves (R90 step 4). -/
theorem exec_emit_sends {e col : Nat} {x : CEntry} {img : List Byte} (hes : ((s.thr th).reg (s.ins th).c).toNat = e)
    (hcols : ((s.thr th).reg (s.ins th).b).toNat = col) (hx : s.centry e = x) (himg : s.bandImg x.array x.band = img)
    (hstate : x.state = 1) (hcol : col < pkW img) (hrun : (s.ins th).ib 3 = true) (hsyn : (s.ins th).ib 4 = false)
    (hinterim : (s.ins th).ib 5 = false) (hne : (s.thr th).run (s.ins th).h ≠ [])
    (hlen : ((s.thr th).run (s.ins th).h).length = pkZ img / 4096) :
    let s2 := (s.issued th).setCentry e { x with issued := putBit x.issued col true }
    s2.durableAt s2.pair.mirSeq = true → exec (.emit th) s = .next ((s2.async th (s.ins th) (.emit e col) 0 []
      [(s.ins th).h]).sendProgram th (s.thr th).nextId e col false 0 (s.runInfos th (s.ins th).h)) := by
  intro s2 hdurable
  have hx : (s.issued th).centry e = x := hx
  have himg : (s.issued th).bandImg x.array x.band = img := himg
  have hhandle : ((s.issued th).thr th).run (s.ins th).h = (s.thr th).run (s.ins th).h := by
    rw [thr_issued]
    rfl
  have hwords : ∀ n, (s.issued th).emitWords th (s.ins th) n = s.runInfos th (s.ins th).h := fun n => by
    rw [State.emitWords, if_pos hrun, issued_runInfos]
  show execEmit th s = _
  rw [execEmit, issue_eq hi]
  simp only [issued_reg, hes, hcols, hx, himg, hhandle, hwords, issued_nextId]
  rw [if_neg (by simp; omega), if_neg (by simp [hsyn]), if_neg (by simp [hne]), if_neg (not_not.2 hstate),
    if_neg (by simp [hinterim]), if_neg (by simp [hlen]), if_neg (by simp [hrun])]
  simp only [hsyn, hrun, hinterim, Bool.false_and, Bool.false_eq_true, if_false, if_true]
  exact congrArg _ (if_pos hdurable)

end

/-- EMIT: the second part of O14. -/
theorem emitInstruction : Claims.EmitInstruction := by
  intro th s
  refine ⟨fun hi he hstate hcol hrun hsyn hinterim hne hlen => ?_, fun hi => exec_emit_not_open hi, exec_emit_beyond⟩
  exact exec_emit_sends hi he rfl rfl rfl rfl hstate hcol hrun hsyn hinterim hne hlen

/-- Settles O14: STORE with COMMIT, at its issue, later and at its limit, and EMIT. -/
theorem commitAndEmit : Obligations.CommitAndEmit := ⟨hoopCommit, emitInstruction⟩

end Sys2Proof.Machine

/-! ## The hoop in the background (R88, R93, R103, R107, R126) -/

namespace Sys2Proof.Machine

/-! ### Destaging -/

section
variable {s : State} {a g : Nat} {v : Version} (hloose : s.looseVersion a g = some v) (hdest : s.destages = true)
  (hbobbin : s.bobbinIdle = false)
  (hdue : s.coverDue a g v.seq = true ∨ s.flag F.HU_STAT_HEALTHY = false ∨ s.f F.HOOP_AGE_AGE ≤ (s.tbase - v.since).toNat)
include hdest hbobbin hdue

/-- A due version does not stay as it is. -/
theorem not_grainAgeExpiry_idle : ¬ (!(s.coverDue a g v.seq || !s.flag F.HU_STAT_HEALTHY ||
    decide (s.f F.HOOP_AGE_AGE ≤ (s.tbase - v.since).toNat)) || !s.destages || s.bobbinIdle) = true := by
  rcases hdue with h | h | h <;> simp [-BitVec.toNat_sub, h, hdest, hbobbin]

include hloose

/-- A due version of which the media hold no block alone is filled at once (R93). -/
theorem exec_grainAgeExpiry_fills (hall : s.unread v = []) : exec (.grainAgeExpiry a g ()) s = .next (s.enterFilled v []) := by
  show execGrainAgeExpiry a g () s = _
  simp only [execGrainAgeExpiry, hloose, hall]
  rw [if_neg (not_grainAgeExpiry_idle hdest hbobbin hdue)]

/-- Of any other due version the blocks that only its mapped location holds are read first (R93). -/
theorem exec_grainAgeExpiry_reads (hmissing : s.unread v ≠ []) :
    exec (.grainAgeExpiry a g ()) s = .next (s.readFill v (s.unread v)).runReads := by
  show execGrainAgeExpiry a g () s = _
  -- hmissing rules out the first case of the match on s.unread v
  simp only [execGrainAgeExpiry, hloose]
  rw [if_neg (not_grainAgeExpiry_idle hdest hbobbin hdue)]

end

/-- A version that no call waits for, under a healthy bank, is filled and placed; no stripe is forced out (R93). -/
theorem enterFilled_placed {s : State} {v w : Version} {fill : List (Nat × Info)} (hcover : s.coverDue v.array v.grain v.seq = false)
    (hhealthy : s.flag F.HU_STAT_HEALTHY = true)
    (hfill : s.fillVersion v fill (fun b => zeroBlock (s.arr v.array).pifmt 0 (v.grain * s.gblk v.array + b)) = some w) :
    s.enterFilled v fill = (s.placeVersion w).drive := by
  simp only [State.enterFilled, hfill, hcover, hhealthy]
  rfl

/-! ### Replication -/

section
variable {s : State} (hcopies : s.copies ≠ []) (hbobbin : s.bobbinIdle = false)
  (hdue : s.f F.CLOG_SYNC_PERIOD ≤ (s.tbase - s.hoop.repl.lastSync).toNat)
include hcopies hbobbin hdue

/-- With a copy sled, the bobbin running and the period over, replication is not idle. -/
theorem not_replicates_idle : ¬ (decide (s.copies = []) || s.bobbinIdle ||
    decide ((s.tbase - s.hoop.repl.lastSync).toNat < s.f F.CLOG_SYNC_PERIOD)) = true := by
  simp [-BitVec.toNat_sub, hcopies, hbobbin, hdue]

/-- A CLOG_SYNC period that ends leaves no page and no lost table to send, and starts the next one (R103). -/
theorem exec_couchingReplication_due : ∃ t : State, exec .couchingReplication s = .next t ∧ t.hoop.repl.dirtyPages = 0 ∧
    t.hoop.repl.lastSync = s.tbase ∧ t.hoop.repl.lostDirty = false := by
  refine ⟨_, rfl, ?_⟩
  rw [if_neg (not_replicates_idle hcopies hbobbin hdue)]
  exact ⟨rfl, rfl, rfl⟩

/-- A period in which nothing changed sends nothing. -/
theorem exec_couchingReplication_unchanged (hpages : s.hoop.repl.dirtyPages = 0) (hlost : s.hoop.repl.lostDirty = false)
    (hdeltas : s.dlog.deltas.filter (fun d => decide (s.hoop.repl.deltaSent ≤ d.pos)) = []) :
    exec .couchingReplication s = .next (s.setRepl { s.hoop.repl with lastSync := s.tbase, deltaSent := s.dlog.next }) := by
  have hnone : setBits 0 8 = [] := by decide
  show execCouchingReplication s = _
  rw [execCouchingReplication, if_neg (not_replicates_idle hcopies hbobbin hdue)]
  simp [hpages, hnone, hlost, hdeltas]

end

/-- A copy sled's acknowledgement raises what it has acknowledged, and what follows from it (R103). -/
theorem exec_copyRecordAck_copy {s : State} {n rseq : Nat} (hcopy : n ∈ s.copies) (hseq : rseq ≤ s.hoop.repl.nextRseq)
    (hbobbin : s.bobbinIdle = false) : exec (.copyRecordAck n rseq) s = .next (s.setRepl { s.hoop.repl with
      acks := Tbl.set markReset s.hoop.repl.acks n (max (s.ackedBy n) rseq) }).syncCopies.syncAll.drive := by
  show execCopyRecordAck n rseq s = _
  rw [execCopyRecordAck, if_pos (by simp [hcopy, hseq, hbobbin])]

/-! ### Resynchronisation -/

section
variable {s : State} {x : Resync} {r : Nat} {rest : List Nat} (hrun : s.hoop.resync = some x) (hleft : x.left = r :: rest)
include hrun hleft

/-- A region whose visit has begun, with no stripe being read and no entry naming it, is done: its bit clears (R107). -/
theorem regionStep_visited (hbegun : x.begun = true) (hreads : s.devReads = [])
    (hhere : s.hoop.entries.filter (fun e => e.2.state != 0 && s.regionOf e.2.array e.2.band == r) = []) :
    s.regionStep = ((s.setRegion r false).resyncNext rest x.total).drive := by
  have hstill : s.hoop.entries.any (fun e => e.2.state != 0 && s.regionOf e.2.array e.2.band == r) = false := by
    rw [List.any_eq_false]
    exact List.filter_eq_nil_iff.1 hhere
  simp [State.regionStep, hrun, hleft, hbegun, hreads, hstill]

variable (hback : s.backgroundRuns = true) (hbobbin : s.bobbinIdle = false) (hclaim : s.holdsClaim = true)
include hback hbobbin hclaim

/-- Resynchronisation begins a region with its couching entries and open bands, or goes on with it (R107, R109). -/
theorem exec_resyncRegion_runs : exec (.resyncRegion () ()) s = .next (if x.begun then s.regionStep else
    ((((s.hoop.entries.filter (fun e => e.2.state != 0 && s.regionOf e.2.array e.2.band == r)).map (fun e => e.1)).foldl
      (fun (s : State) e => s.resyncEntry e)
      { s with hoop := { s.hoop with resync := some { x with begun := true } } }).checkBands r).runReads.regionStep) := by
  show execResyncRegion () () s = _
  simp only [execResyncRegion, hrun, hleft]
  rw [if_neg (by simp [hback, hbobbin, hclaim])]

end

/-- Settles O28: a due version, a period of replication, an acknowledgement, and a region of resynchronisation. -/
theorem hoopBackground : Obligations.HoopBackground := by
  refine ⟨fun s a g v hloose hdest hbobbin hdue => ?_, fun s v w fill => enterFilled_placed,
    fun s => exec_couchingReplication_unchanged, fun s => exec_couchingReplication_due,
    fun s n rseq => exec_copyRecordAck_copy, fun s x r rest hrun hleft hback hbobbin hclaim => ?_⟩
  · exact ⟨exec_grainAgeExpiry_fills hloose hdest hbobbin hdue, exec_grainAgeExpiry_reads hloose hdest hbobbin hdue⟩
  · rw [exec_resyncRegion_runs hrun hleft hback hbobbin hclaim]
    refine ⟨fun hbegun => by rw [hbegun]; rfl, fun hbegun hreads hhere => ?_⟩
    rw [if_pos hbegun, regionStep_visited hrun hleft hbegun hreads hhere]

end Sys2Proof.Machine

/-! ## Checkpoints, erases and relocation (R128, R139 to R143, R150, R151, R207 to R215, R228 to R231, R283) -/

namespace Sys2Proof.Machine

/-! ### What registers, messages, log records and commands to sleds leave alone

One lemma for each operation that the erases, the epochs and the rates reach and that changes no table of the flash translation. -/

/-- The bands, the delta log, the tables of what is lost, and the times and hops of the Bobbins. -/
def State.tables (s : State) : Tbl Band × DeltaLog × LostTables × BobbinState := (s.bands, s.dlog, s.lost, s.bobbin)

/-- Equal tables are equal one by one. -/
theorem tables_eq_iff {s t : State} :
    t.tables = s.tables ↔ t.bands = s.bands ∧ t.dlog = s.dlog ∧ t.lost = s.lost ∧ t.bobbin = s.bobbin := by
  simp [State.tables]

/-- The fields that hold registers, logs, messages, links and the hoop may be replaced. -/
@[simp] theorem tables_update (s : State) (hw : Hw) (bar0 : Tbl Word) (elog : ErrorLog) (health : Health) (ep0 ep1 : Endpoint)
    (pair : PairState) (prk : PrkState) (ewords : Tbl EWord) (sleds : Tbl Sled) (hoop : Hoop) (sledCmds : Tbl SledCmd) (ports : Tbl Port)
    (out : List OutMsg) (free : Nat) :
    State.tables { s with hw, bar0, elog, health, ep0, ep1, pair, prk, ewords, sleds, hoop, sledCmds, ports, out, free } = s.tables := by
  simp [State.tables]

/-- A branch keeps what both its sides keep. -/
@[simp] theorem tables_ite (c : Prop) [Decidable c] (s t : State) :
    (if c then s else t).tables = if c then s.tables else t.tables := apply_ite State.tables c s t

/-- foldl_keeps for the tables, as simp uses it. -/
@[simp] theorem foldl_tables {α : Type} (f : State → α → State) (h : ∀ s a, (f s a).tables = s.tables) (l : List α) (s : State) :
    (l.foldl f s).tables = s.tables := foldl_keeps State.tables f h l s

@[simp] theorem setReg_tables (s : State) (off : Nat) (w : Word) : (s.setReg off w).tables = s.tables := by simp [State.setReg]
@[simp] theorem setF_tables (s : State) (x : Field) (v : Nat) : (s.setF x v).tables = s.tables := by simp [State.setF]
@[simp] theorem setFlag_tables (s : State) (x : Field) (b : Bool) : (s.setFlag x b).tables = s.tables := by simp [State.setFlag]
@[simp] theorem incF_tables (s : State) (x : Field) (n : Nat) : (s.incF x n).tables = s.tables := by simp [State.incF]
@[simp] theorem bumpFree_tables (s : State) : s.bumpFree.tables = s.tables := by simp [State.bumpFree]
@[simp] theorem send_tables (s : State) (m : OutMsg) : (s.send m).tables = s.tables := by simp [State.send]
@[simp] theorem mirror_tables (s : State) (m : MirrorItem) : (s.mirror m).tables = s.tables := by simp [State.mirror]
@[simp] theorem setEp_tables (s : State) (e : Nat) (x : Endpoint) : (s.setEp e x).tables = s.tables := by simp [State.setEp]
@[simp] theorem msixDue_tables (s : State) (e v : Nat) : (s.msixDue e v).tables = s.tables := by simp [State.msixDue]
@[simp] theorem pmeCheck_tables (s : State) (e : Nat) : (s.pmeCheck e).tables = s.tables := by fun_cases State.pmeCheck s e <;> simp
@[simp] theorem raiseEvent_tables (s : State) (i : Nat) : (s.raiseEvent i).tables = s.tables := by simp [State.raiseEvent]

@[simp] theorem logRecAt_tables (s : State) (t : Word) (cls src unit code addr : Nat) (detail : BitVec 256) :
    (s.logRecAt t cls src unit code addr detail).tables = s.tables := by
  simp [State.logRecAt]

@[simp] theorem logArrayOpen_tables (s : State) (a addr : Nat) : (s.logArrayOpen a addr).tables = s.tables := by
  simp [State.logArrayOpen, State.logOpen, State.logRec]

@[simp] theorem healthEvent_tables (s : State) (code : Nat) (critical : Bool) (src unit : Nat) (detail : Option (BitVec 256)) :
    (s.healthEvent code critical src unit detail).tables = s.tables := by
  simp [State.healthEvent, State.healthEventAt]

@[simp] theorem mirrorRegs_tables (s old : State) (a : Nat) : (s.mirrorRegs old a).tables = s.tables := by simp [State.mirrorRegs]

@[simp] theorem syncArray_tables (s : State) (a : Nat) : (s.syncArray a).tables = s.tables := by
  unfold State.syncArray
  split <;> simp [State.paceAfresh]

@[simp] theorem syncDlog_tables (s : State) : s.syncDlog.tables = s.tables := by simp [State.syncDlog]
@[simp] theorem syncRun_tables (s : State) (a : Nat) : (s.syncRun a).tables = s.tables := by simp [State.syncRun]

@[simp] theorem enterArrayState_tables (s : State) (a st : Nat) : (s.enterArrayState a st).tables = s.tables := by
  simp [State.enterArrayState]

@[simp] theorem syncMembers_tables (s : State) (a : Nat) : (s.syncMembers a).tables = s.tables := by simp [State.syncMembers]
@[simp] theorem syncSpace_tables (s : State) (a : Nat) : (s.syncSpace a).tables = s.tables := by simp [State.syncSpace]
@[simp] theorem setPort_tables (s : State) (p : Nat) (x : Port) : (s.setPort p x).tables = s.tables := by simp [State.setPort]

@[simp] theorem pumpPort_tables (s : State) (p n : Nat) : (s.pumpPort p n).tables = s.tables := by
  induction n generalizing s with
  | zero => rfl
  | succ n ih =>
    simp only [State.pumpPort]
    repeat' split
    all_goals simp [ih]

@[simp] theorem setSled_tables (s : State) (n : Nat) (x : Sled) : (s.setSled n x).tables = s.tables := by simp [State.setSled]

@[simp] theorem chargeShare_tables (s : State) (n : Nat) (sh : Share) (cost : Nat) : (s.chargeShare n sh cost).tables = s.tables := by
  unfold State.chargeShare
  split <;> simp

/-- A command to a sled, sent or kept. The number of tags is generalised, so that the search for a free one is not evaluated. -/
@[simp] theorem issueSled_tables (s : State) (p : Nat) (c : SledCmd) : (s.issueSled p c).tables = s.tables := by
  have hkeep : (s.keepCommand p c).tables = s.tables := setPort_tables ..
  unfold State.issueSled
  generalize s.sledCmds.fresh (sledKey p 0) 512 = tag
  cases tag with
  | none => exact hkeep
  | some k =>
    dsimp only
    rw [tables_ite, hkeep, State.pump, pumpPort_tables, setPort_tables, tables_update]
    cases c.sled <;> simp

@[simp] theorem sendSled_tables (s : State) (n : Nat) (kind : SledKind) (array : Nat) (scope : Bool) (why : Purpose) (share : Share) :
    (s.sendSled n kind array scope why share).tables = s.tables := by
  simp [State.sendSled]

@[simp] theorem tryWaiting_tables (s : State) (p n : Nat) (l : List SledCmd) : (s.tryWaiting p n l).tables = s.tables := by
  fun_induction State.tryWaiting s p n l <;> simp [*]

@[simp] theorem retryWaiting_tables (s : State) (p : Nat) : (s.retryWaiting p).tables = s.tables := by simp [State.retryWaiting]

@[simp] theorem nameBand_tables (s : State) (a b : Nat) : (s.nameBand a b).tables = s.tables := by
  simp [State.nameBand, State.writeRecord]

/-! ### Checkpoint epochs (R128) -/

/-- When the running epoch started, and at which delta. -/
def State.epochMarks (s : State) : Word × Nat := (s.dlog.lastEpoch, s.dlog.epochStart)

/-- What keeps the tables keeps the epoch's marks. -/
theorem epochMarks_of_tables {s t : State} (h : t.tables = s.tables) : t.epochMarks = s.epochMarks := by
  rw [State.epochMarks, (tables_eq_iff.1 h).2.1, State.epochMarks]

/-- As foldl_keeps, for the epoch's marks and an operation that carries a value along. -/
theorem foldl_fst_epochMarks {α β : Type} (f : State × β → α → State × β) (h : ∀ p a, (f p a).1.epochMarks = p.1.epochMarks)
    (l : List α) (p : State × β) : (l.foldl f p).1.epochMarks = p.1.epochMarks := by
  induction l generalizing p with
  | nil => rfl
  | cons a l ih => rw [List.foldl_cons, ih, h]

@[simp] theorem mirror_epochMarks (s : State) (m : MirrorItem) : (s.mirror m).epochMarks = s.epochMarks :=
  epochMarks_of_tables (mirror_tables s m)

@[simp] theorem sendSled_epochMarks (s : State) (n : Nat) (kind : SledKind) (array : Nat) (scope : Bool) (why : Purpose) (share : Share) :
    (s.sendSled n kind array scope why share).epochMarks = s.epochMarks :=
  epochMarks_of_tables (sendSled_tables s n kind array scope why share)

/-- A delta appended leaves the running epoch's start where it is. -/
@[simp] theorem appendDelta_epochMarks (s : State) (kind a key : Nat) (value : Word) :
    (s.appendDelta kind a key value).epochMarks = s.epochMarks := by
  rw [State.appendDelta, mirror_epochMarks, epochMarks_of_tables (syncDlog_tables _)]
  rfl

@[simp] theorem setEword_epochMarks (s : State) (n b : Nat) (e : EWord) : (s.setEword n b e).epochMarks = s.epochMarks := by
  rw [State.setEword, appendDelta_epochMarks, mirror_epochMarks]
  rfl

@[simp] theorem setBandLogged_epochMarks (s : State) (a b : Nat) (x : Band) : (s.setBandLogged a b x).epochMarks = s.epochMarks := by
  rw [State.setBandLogged, appendDelta_epochMarks, mirror_epochMarks]
  rfl

@[simp] theorem closeBand_epochMarks (s : State) (a b : Nat) (early pfail : Bool) :
    (s.closeBand a b early pfail).epochMarks = s.epochMarks := by
  fun_cases State.closeBand s a b early pfail <;> simp

@[simp] theorem takeBlock_epochMarks (s : State) (a b n blk : Nat) (slc : Bool) :
    (s.takeBlock a b n blk slc).epochMarks = s.epochMarks := by
  fun_cases State.takeBlock s a b n blk slc <;> simp

@[simp] theorem openBand_epochMarks (s : State) (a b : Nat) (kind : BandKind) : (s.openBand a b kind).epochMarks = s.epochMarks := by
  unfold State.openBand
  split
  · rfl
  · rw [epochMarks_of_tables (syncArray_tables ..), setBandLogged_epochMarks, epochMarks_of_tables (tables_update ..)]
    refine foldl_fst_epochMarks _ (fun p k => ?_) _ _
    dsimp only
    repeat' split
    all_goals simp

/-- The band that a segment goes to is open, closed for the next, or named; the epoch's start stays. -/
theorem ckptBand_epochMarks (s : State) (a c m : Nat) : (s.ckptBand a c m).1.epochMarks = s.epochMarks := by
  fun_cases State.ckptBand s a c m <;> simp [epochMarks_of_tables (nameBand_tables ..)]

theorem writeCkptStripe_epochMarks (s : State) (a b st : Nat) (words : List Info) :
    (s.writeCkptStripe a b st words).epochMarks = s.epochMarks := by
  refine foldl_keeps State.epochMarks _ (fun s c => ?_) _ _
  repeat' split
  · rfl
  · rfl
  · rw [sendSled_epochMarks]
    rfl

theorem writeSegment_epochMarks (s : State) (seg : Nat) : (s.writeSegment seg).epochMarks = s.epochMarks := by
  fun_cases State.writeSegment s seg
  case case1 => rfl
  case case2 a c _ _ _ m s1 hband =>
    rw [← ckptBand_epochMarks s a c m, hband]
  case case3 a c _ _ per m s1 b hband st words s2 pga =>
    calc _ = s2.epochMarks := rfl
      _ = s1.epochMarks := foldl_keeps State.epochMarks _ (fun s k => writeCkptStripe_epochMarks ..) _ _
      _ = s.epochMarks := by rw [← ckptBand_epochMarks s a c m, hband]

/-- The directory goes out once; nothing of the delta log but the mark of that follows. -/
theorem sendDirectory_dlog (s : State) : s.sendDirectory.dlog = s.dlog ∨ s.sendDirectory.dlog = { s.dlog with dirSent := true } := by
  fun_cases State.sendDirectory s
  · right
    have hsent := foldl_tables (fun (s : State) n => s.send (dirMessage n s.dlog.merged)) (fun s n => send_tables ..) s.copies
      ((s.setDlog { s.dlog with dirSent := true }).send (.directory none s.dlog.merged []))
    exact (tables_eq_iff.1 hsent).2.1
  · left
    rfl

theorem stepEpoch_epochMarks (s : State) : s.stepEpoch.epochMarks = s.epochMarks := by
  have hdir (t : State) : t.sendDirectory.epochMarks = t.epochMarks := by
    rcases sendDirectory_dlog t with h | h <;> rw [State.epochMarks, h, State.epochMarks]
  simp only [State.stepEpoch]
  split
  · rfl
  · rw [hdir, foldl_keeps State.epochMarks _ writeSegment_epochMarks]
    split <;> rfl

/-- An epoch that starts marks this moment and the next delta's position (R128). -/
theorem startEpoch_epochMarks {s : State} (extra : List Nat) (hidle : s.dlog.epochRun = false) :
    (s.startEpoch extra).epochMarks = (s.tbase, s.dlog.next) := by
  simp only [State.startEpoch, hidle]
  rw [if_neg (by simp), stepEpoch_epochMarks]
  rfl

/-- An epoch starts at half a buffer of deltas, or 60 s after the last with deltas appended (R128). -/
theorem exec_checkpointEpochTimer_starts {s : State} (hidle : s.dlog.epochRun = false) (hbobbin : s.bobbinIdle = false)
    (hdest : s.destages = true) (hclaim : s.holdsClaim = true) (hdue : deltaRoom / 2 ≤ s.dlog.next - s.dlog.committed ∨
      (s.dlog.appended = true ∧ 6000000000 ≤ (s.tbase - s.dlog.lastEpoch).toNat)) :
    exec .checkpointEpochTimer s = .next (s.startEpoch []) := by
  show execCheckpointEpochTimer s = _
  rw [execCheckpointEpochTimer, if_neg]
  rcases hdue with h | ⟨happ, hlate⟩
  · simp [-BitVec.toNat_sub, hidle, hbobbin, hdest, hclaim, h]
  · simp [-BitVec.toNat_sub, hidle, hbobbin, hdest, hclaim, happ, hlate]

/-- The state in which an epoch has committed, before works that waited for the log and an epoch asked for meanwhile go on (R128). -/
def State.epochCommitted (s : State) : State :=
  let t := s.sendDirectory
  let l := t.dlog
  (((((t.setDlog { l with
    dir := l.merged, segs := l.newSegs, committed := l.epochStart, newDir := [], newSegs := [], epochRun := false, dirSent := false
    deltas := l.deltas.filter (fun d => decide (l.epochStart ≤ d.pos)) }).setFlag F.ARR_DLOG_EPOCH_RUN false).setFlag F.ARR_DLOG_FULL
    false).incF F.ARR_CKPT_EPOCHS).syncDlog).mirror (.released l.epochStart l.merged)

/-- The committed directory is the merged one, and the deltas from the epoch's start on stay (R128). -/
theorem epochCommitted_dlog (s : State) : s.epochCommitted.dlog.epochRun = false ∧
    s.epochCommitted.dlog.committed = s.dlog.epochStart ∧ s.epochCommitted.dlog.dir = s.dlog.merged ∧
    s.epochCommitted.dlog.deltas = s.dlog.deltas.filter (fun d => decide (s.dlog.epochStart ≤ d.pos)) := by
  rw [State.epochCommitted, (tables_eq_iff.1 (mirror_tables ..)).2.1, (tables_eq_iff.1 (syncDlog_tables _)).2.1]
  rcases sendDirectory_dlog s with h | h <;> (rw [h]; exact ⟨rfl, rfl, rfl, rfl⟩)

/-- An epoch whose segments are all on the media commits, and an epoch asked for meanwhile follows (R128). -/
theorem exec_checkpointEpochCommit_commits {s : State} (hwritten : s.dlog.written = true) (hlink : s.linkOff = false)
    (hbobbin : s.bobbinIdle = false) : exec .checkpointEpochCommit s =
      .next (if s.dlog.again then s.epochCommitted.settleWorks.startEpoch [] else s.epochCommitted.settleWorks) := by
  have hagain : s.sendDirectory.dlog.again = s.dlog.again := by rcases sendDirectory_dlog s with h | h <;> rw [h]
  show execCheckpointEpochCommit s = _
  rw [execCheckpointEpochCommit, if_neg (by simp [hwritten, hlink, hbobbin]), ← hagain]
  rfl

/-! ### Erases (R150, R151) -/

/-- A band replaced reads back. -/
theorem band_setBand_same (s : State) (a b : Nat) (x : Band) : (s.setBand a b x).band a b = x := by
  rw [State.band, State.setBand, Tbl.get_set, if_pos rfl]

/-- Equal tables hold equal bands. -/
theorem band_of_tables {s t : State} (h : t.tables = s.tables) (a b : Nat) : t.band a b = s.band a b := by
  rw [State.band, (tables_eq_iff.1 h).1, State.band]

theorem appendDelta_band (s : State) (kind a key : Nat) (value : Word) (a' b' : Nat) :
    (s.appendDelta kind a key value).band a' b' = s.band a' b' := by
  rw [State.appendDelta, band_of_tables (mirror_tables ..), band_of_tables (syncDlog_tables _)]
  rfl

/-- A band replaced with its delta reads back. -/
theorem band_setBandLogged_same (s : State) (a b : Nat) (x : Band) : (s.setBandLogged a b x).band a b = x := by
  rw [State.setBandLogged, appendDelta_band, band_of_tables (mirror_tables ..), band_setBand_same]

/-- The last erase of a band leaves it FREE (R150). -/
theorem band_finishErase_same (s : State) (a b : Nat) : (s.finishErase a b).band a b = bandReset 0 := by
  rw [State.finishErase, band_of_tables (syncSpace_tables ..), band_of_tables (syncArray_tables ..), band_setBandLogged_same]

theorem retireBlock_band (s : State) (a n blk st a' b' : Nat) : (s.retireBlock a n blk st).band a' b' = s.band a' b' := by
  have hword : (s.setEword n blk { s.eword n blk with state := st }).band a' b' = s.band a' b' := by
    rw [State.setEword, appendDelta_band, band_of_tables (mirror_tables ..)]
    rfl
  rw [← hword, State.retireBlock]
  split <;> exact band_of_tables (incF_tables ..) ..

/-- With erases to issue a band stays as it is; with none left it is FREE (R150). -/
theorem issueErases_band (s : State) (a b : Nat) :
    (s.issueErases a b).band a b = s.band a b ∨ (s.issueErases a b).band a b = bandReset 0 := by
  simp only [State.issueErases]
  split
  · exact .inr (band_finishErase_same ..)
  · left
    calc _ = _ := foldl_keeps (fun s => s.band a b) _ (fun s e => band_of_tables (sendSled_tables ..) ..) _ _
      _ = s.band a b := foldl_keeps (fun s => s.band a b) _ (fun s k => ?_) _ _
    split
    · rfl
    · exact retireBlock_band ..

/-- Outside its erase gate a band that is not ERASING stays as it is. -/
theorem exec_bandEraseStart_gated {s : State} {a b : Nat} (hgate : s.eraseGate a b = false) (hstate : (s.band a b).state ≠ .erasing) :
    exec (.bandEraseStart a b) s = .next s := by
  show execBandEraseStart a b s = _
  simp [execBandEraseStart, hgate, hstate]

/-- A band whose erase gate holds becomes ERASING, and FREE where nothing of it is left to erase (R150, R151). -/
theorem exec_bandEraseStart_erasing {s : State} {a b : Nat} (hrel : s.relocates a = true) (hgate : s.eraseGate a b = true) :
    ∃ t : State, exec (.bandEraseStart a b) s = .next t ∧ ((t.band a b).state = .erasing ∨ (t.band a b).state = .free) := by
  refine ⟨_, rfl, ?_⟩
  simp only [hrel, hgate, Bool.not_true, Bool.false_eq_true, if_false, if_true]
  split
  · rcases issueErases_band _ a b with h | h <;> rw [h]
    · exact .inl (congrArg Band.state (band_setBandLogged_same ..))
    · exact .inr rfl
  · exact .inl (congrArg Band.state (band_setBandLogged_same ..))

/-- Once the delta that made it ERASING is durable, and with no erase of it outstanding, a band's blocks are erased (R150). -/
theorem exec_bandEraseStart_erases {s : State} {a b : Nat} (hrel : s.relocates a = true) (hstate : (s.band a b).state = .erasing)
    (hdurable : s.erasingDurable a b = true) (hout : s.erasesOut a b = false) :
    exec (.bandEraseStart a b) s = .next (s.issueErases a b) := by
  have hgate : s.eraseGate a b = false := by simp [State.eraseGate, hstate]
  show execBandEraseStart a b s = _
  simp [execBandEraseStart, hrel, hgate, hstate, hdurable, hout]

/-! ### Rates (R210, R230) -/

/-- Without a command that waits on the port nothing is tried again. -/
theorem retryWaiting_none {s : State} {p : Nat} (h : (s.port p).waiting = []) : s.retryWaiting p = s := by
  simp [State.retryWaiting, h, State.tryWaiting]

/-- As retryWaiting_none, for a list of ports. -/
theorem foldl_retryWaiting_none {s : State} (l : List Nat) (h : ∀ p ∈ l, (s.port p).waiting = []) :
    l.foldl (fun s p => s.retryWaiting p) s = s := by
  induction l with
  | nil => rfl
  | cons p l ih =>
    rw [List.foldl_cons, retryWaiting_none (h p List.mem_cons_self)]
    exact ih fun q hq => h q (List.mem_cons_of_mem p hq)

/-- A sled whose share of an interval starts at 0 (R210, R230). -/
def Sled.shareFresh (x : Sled) : Sled := { x with allUsed := 0, shareUsed := 0, reshapeUsed := 0 }

/-- The state in which the share of every sled starts at 0, from this moment (R210, R230). -/
def State.sharesRenewed (s : State) : State :=
  { s with bobbin := { s.bobbin with lastRate := s.tbase }, sleds := s.sleds.map (fun (e : Nat × Sled) => (e.1, e.2.shareFresh)) }

/-- Every sled has its share start at 0, those not listed too. -/
theorem sled_sharesRenewed (s : State) (n : Nat) : s.sharesRenewed.sled n = (s.sled n).shareFresh := by
  show Tbl.get sledReset (s.sleds.map _) n = (Tbl.get sledReset s.sleds n).shareFresh
  induction s.sleds with
  | nil => rfl
  | cons e l ih =>
    simp only [List.map_cons, Tbl.get]
    split
    · rfl
    · exact ih

/-- The state in which the rates written for array `a` are in force (R210, R230). -/
def State.takeRates (s : State) (a : Nat) : State :=
  { s with arrays := Tbl.set arrayReset s.arrays a { s.arr a with
      rbRate := (s.reg (R.ARR_RB_CTL a)).toNat, rsRate := (s.reg (R.ARR_RS_CTL a)).toNat } }

/-- The rates in force for array `a` are those written. -/
def State.ratesInForce (s : State) (a : Nat) : Prop :=
  (s.arr a).rbRate = (s.reg (R.ARR_RB_CTL a)).toNat ∧ (s.arr a).rsRate = (s.reg (R.ARR_RS_CTL a)).toNat

theorem arr_takeRates (s : State) (b a : Nat) : (s.takeRates b).arr a = if a = b then
    { s.arr b with rbRate := (s.reg (R.ARR_RB_CTL b)).toNat, rsRate := (s.reg (R.ARR_RS_CTL b)).toNat } else s.arr a :=
  Tbl.get_set ..

/-- Taking the rates of any array leaves those in force that are the ones written. -/
theorem takeRates_ratesInForce {s : State} {a b : Nat} (h : a = b ∨ s.ratesInForce a) : (s.takeRates b).ratesInForce a := by
  rw [State.ratesInForce, arr_takeRates]
  split
  case isTrue hab =>
    subst hab
    exact ⟨rfl, rfl⟩
  case isFalse hab => exact h.resolve_left hab

/-- Along a list of arrays the rates of each are taken. -/
theorem foldl_takeRates_ratesInForce {s : State} {a : Nat} (l : List Nat) (h : a ∈ l ∨ s.ratesInForce a) :
    (l.foldl State.takeRates s).ratesInForce a := by
  induction l generalizing s with
  | nil => exact h.resolve_left List.not_mem_nil
  | cons b l ih =>
    rw [List.mem_cons] at h
    rw [List.foldl_cons]
    refine ih ?_
    rcases h with (hab | hl) | hs
    · exact .inr (takeRates_ratesInForce (.inl hab))
    · exact .inl hl
    · exact .inr (takeRates_ratesInForce (.inr hs))

/-- The state in which a new interval of the rates has begun, before waiting commands are tried again (R210, R230). -/
def State.intervalBegun (s : State) : State := ((List.range 16).filter s.arrExists).foldl State.takeRates s.sharesRenewed

/-- 10 ms after the last interval the next begins, and the commands that waited for their share are tried again (R210, R230). -/
theorem exec_rateInterval_begins {s : State} (hpower : s.hw.powered = true) (hdue : 1000000 ≤ (s.tbase - s.bobbin.lastRate).toNat) :
    exec .rateInterval s = .next ((List.range 32).foldl (fun s p => s.retryWaiting p) s.intervalBegun) := by
  show execRateInterval s = _
  rw [execRateInterval, if_neg (by simp [-BitVec.toNat_sub, hpower, hdue])]
  rfl

theorem intervalBegun_lastRate (s : State) : s.intervalBegun.bobbin.lastRate = s.tbase :=
  foldl_keeps (fun s : State => s.bobbin.lastRate) State.takeRates (fun _ _ => rfl) ..

theorem intervalBegun_port (s : State) (p : Nat) : s.intervalBegun.port p = s.port p :=
  foldl_keeps (fun s : State => s.port p) State.takeRates (fun _ _ => rfl) ..

theorem intervalBegun_sled (s : State) (n : Nat) : s.intervalBegun.sled n = (s.sled n).shareFresh :=
  (foldl_keeps (fun s : State => s.sled n) State.takeRates (fun _ _ => rfl) ..).trans (sled_sharesRenewed s n)

/-- In a new interval the rates in force for an array that exists are those written (R210, R230). -/
theorem intervalBegun_rates {s : State} {a : Nat} (ha : a < 16) (hex : s.arrExists a = true) :
    (s.intervalBegun.arr a).rbRate = (s.reg (R.ARR_RB_CTL a)).toNat ∧
      (s.intervalBegun.arr a).rsRate = (s.reg (R.ARR_RS_CTL a)).toNat := by
  have hreg (k : Nat) : s.intervalBegun.reg k = s.reg k := foldl_keeps (fun s : State => s.reg k) State.takeRates (fun _ _ => rfl) ..
  have hforce : s.intervalBegun.ratesInForce a :=
    foldl_takeRates_ratesInForce _ (.inl (List.mem_filter.2 ⟨List.mem_range.2 ha, hex⟩))
  rwa [State.ratesInForce, hreg, hreg] at hforce

/-- Epochs, erases and rates: the first part of O46. -/
theorem checkpointAndErase : Claims.CheckpointAndErase := by
  refine ⟨fun s hidle hbobbin hdest hclaim hdue => ?_, fun s hwritten hlink hbobbin => ?_, fun s a b hrel => ?_,
    fun s hpower hdue => ?_⟩
  · obtain ⟨hlast, hstart⟩ := Prod.mk.inj (startEpoch_epochMarks [] hidle)
    exact ⟨exec_checkpointEpochTimer_starts hidle hbobbin hdest hclaim hdue, hlast, hstart⟩
  · exact ⟨s.epochCommitted, exec_checkpointEpochCommit_commits hwritten hlink hbobbin, epochCommitted_dlog s⟩
  · exact ⟨exec_bandEraseStart_gated, exec_bandEraseStart_erasing hrel, exec_bandEraseStart_erases hrel⟩
  · refine ⟨_, exec_rateInterval_begins hpower hdue, ?_, fun hnone => ?_⟩
    · rw [(tables_eq_iff.1 (foldl_tables _ retryWaiting_tables _ _)).2.2.2]
      exact intervalBegun_lastRate s
    · rw [foldl_retryWaiting_none _ (fun p hp => by rw [intervalBegun_port]; exact hnone p (List.mem_range.1 hp))]
      refine ⟨fun n => ?_, fun a ha hex => intervalBegun_rates ha hex⟩
      rw [intervalBegun_sled]
      exact ⟨rfl, rfl, rfl⟩

/-! ### Garbage collection (R139 to R143) -/

section
variable {s : State} {a c : Nat} (hrel : s.relocates a = true) (hav : s.clusterAvail c = true)
include hrel hav

/-- Out of collection a cluster has no victim, and the copies gathered so far are written (R139, R143). -/
theorem exec_gcVictimSelect_stops (hrun : s.flag (F.ARR_GC_RUN a) = false) :
    exec (.gcVictimSelect a c () ()) s = .next (((s.padCopies a 1).setVictim a c noVictim).syncSpace a) := by
  show execGcVictimSelect a c () () s = _
  simp [execGcVictimSelect, hrel, hav, hrun]

variable (hrun : s.flag (F.ARR_GC_RUN a) = true) (hread : s.gcReading a c = false)
include hrun hread

/-- A cluster with no victim takes the one that R140 names and reads its first stripe to move. -/
theorem exec_gcVictimSelect_chooses {b : Nat} (hnone : s.victimOf a c = noVictim)
    (hb : ((s.setVictim a c noVictim).syncSpace a).chooseVictim a c = some b) : exec (.gcVictimSelect a c () ()) s =
      .next (((((s.setVictim a c noVictim).syncSpace a).setVictim a c b).nextGc a c b 0).runReads) := by
  show execGcVictimSelect a c () () s = _
  simp [execGcVictimSelect, hrel, hav, hrun, hread, hnone, hb]

/-- With no candidate left the copies gathered so far are written (R140). -/
theorem exec_gcVictimSelect_ends (hnone : s.victimOf a c = noVictim)
    (hb : ((s.setVictim a c noVictim).syncSpace a).chooseVictim a c = none) : exec (.gcVictimSelect a c () ()) s =
      .next (((s.setVictim a c noVictim).syncSpace a).padCopies a 1) := by
  show execGcVictimSelect a c () () s = _
  simp [execGcVictimSelect, hrel, hav, hrun, hread, hnone, hb]

/-- A cluster goes on with its victim while a stripe of it is left to move (R141). -/
theorem exec_gcVictimSelect_continues (hsome : s.victimOf a c ≠ noVictim) (hfree : (s.band a (s.victimOf a c)).reading = false)
    (hleft : (s.stripeToMove a (s.victimOf a c) 0).isSome = true) :
    exec (.gcVictimSelect a c () ()) s = .next ((s.nextGc a c (s.victimOf a c) 0).runReads) := by
  show execGcVictimSelect a c () () s = _
  simp [execGcVictimSelect, hrel, hav, hrun, hread, hsome, hfree, hleft]

end

/-! ### Rebuild (R207 to R215) -/

/-- Where rebuild may not run the array's registers alone follow (R211). -/
theorem exec_rebuildStripe_waits {s : State} {a c : Nat} (h : s.relocates a = false ∨ s.rebuildWhy a ≠ 0) :
    exec (.rebuildStripe a c () ()) s = .next (s.syncMembers a) := by
  show execRebuildStripe a c () () s = _
  rw [execRebuildStripe, if_pos]
  rcases h with h | h <;> simp [h]

section
variable {s : State} {a c : Nat} (hrel : s.relocates a = true) (hwhy : s.rebuildWhy a = 0) (hav : s.clusterAvail c = true)
  (hread : s.devReads.any (fun e => e.2.array == a && e.2.goal == .rebuild c) = false)
include hrel hwhy hav hread

/-- A cluster that rebuilds reads the first stripe of its pass (R207, R209). -/
theorem exec_rebuildStripe_reads {b st : Nat} (hfirst : s.passFirst a ((s.passWork a c).filter
      (fun x => !s.beingRead a x.1 x.2 && !s.scanPending a x.1 x.2)) = some (b, st)) : exec (.rebuildStripe a c () ()) s =
    .next (((s.beginRead { array := a, band := b, stripe := st, source := 2 }).readStripe (.rebuild c) a b st).runReads) := by
  show execRebuildStripe a c () () s = _
  rw [execRebuildStripe, if_neg (by simp [hrel, hwhy, hav]), if_neg (by rw [hread]; exact Bool.false_ne_true), hfirst]

/-- With no stripe of the pass left to read the copies gathered so far are written. -/
theorem exec_rebuildStripe_ends (hfirst : s.passFirst a ((s.passWork a c).filter
      (fun x => !s.beingRead a x.1 x.2 && !s.scanPending a x.1 x.2)) = none) :
    exec (.rebuildStripe a c () ()) s = .next ((s.padCopies a 2).settleWorks) := by
  show execRebuildStripe a c () () s = _
  rw [execRebuildStripe, if_neg (by simp [hrel, hwhy, hav]), if_neg (by rw [hread]; exact Bool.false_ne_true), hfirst]

end

/-! ### Lost-unit scans (R215) -/

theorem syncLost_lost (s : State) : s.syncLost.lost = s.lost := by
  rw [State.syncLost, (tables_eq_iff.1 (mirror_tables ..)).2.2.1]
  rfl

/-- A lost grain entered leaves the units that await a scan as they are (R216). -/
theorem addLostGrain_scans (s : State) (a g vseq : Nat) : (s.addLostGrain a g vseq).lost.scans = s.lost.scans := by
  have hcount : (s.incF (F.ARR_LOST_GRAINS a)).lost = s.lost := (tables_eq_iff.1 (incF_tables s (F.ARR_LOST_GRAINS a) 1)).2.2.1
  simp only [State.addLostGrain]
  split
  · rfl
  split
  · rw [syncLost_lost, hcount]
  · rw [(tables_eq_iff.1 (healthEvent_tables ..)).2.2.1, setFlag_lost, hcount]

/-- A scan that is due takes its unit off the list (R215). -/
theorem exec_lostUnitScan_ends {s : State} {a pga : Nat} (hunit : s.unitScanned a pga = true) (hdue : s.scanDue a pga = true)
    (hlink : s.linkOff = false) (hmode : s.mode.cur ≠ .halted) : ∃ t : State, exec (.lostUnitScan a pga ()) s = .next t ∧
      t.lost.scans = s.lost.scans.filter (fun u => !(u.array == a && u.pga == pga)) := by
  refine ⟨_, rfl, ?_⟩
  rw [if_neg (by simp [hunit, hdue, hlink, hmode])]
  dsimp only
  split
  · rw [syncLost_lost]
  · rw [syncLost_lost]
    exact addLostGrain_scans ..

/-! ### Reshape (R228 to R231) -/

/-- While relocation of the RETIRING bands may not run its registers alone follow (R231). -/
theorem exec_reshapeRelocateBand_waits {s : State} {a c : Nat} (hwhy : s.reshapeWhy a ≠ 0) :
    exec (.reshapeRelocateBand a c () ()) s = .next (s.syncReshape a) := by
  show execReshapeRelocateBand a c () () s = _
  rw [execReshapeRelocateBand, if_pos (by simp [hwhy])]

section
variable {s : State} {a c : Nat} (hrel : s.relocates a = true) (hret : (s.retiring a).isSome = true) (hav : s.clusterAvail c = true)
  (hwhy : s.reshapeWhy a = 0) (hread : s.devReads.any (fun e => e.2.array == a && e.2.goal == .reshape c) = false)
include hrel hret hav hwhy

theorem not_reshape_waits :
    ¬ (!s.relocates a || (s.retiring a).isNone || decide (s.reshapeWhy a ≠ 0) || !s.clusterAvail c) = true := by
  simp [hrel, Option.ne_none_iff_isSome, hret, hwhy, hav]

include hread

/-- With no band left to read the copies are written, and OPEN bands of the RETIRING pricking close (R228; log entry 82). -/
theorem exec_reshapeRelocateBand_ends (hnext : s.reshapeNext a c = none) : exec (.reshapeRelocateBand a c () ()) s =
    .next ((((s.padCopies a 3).closeRetiring a c).settleWorks).syncReshape a) := by
  show execReshapeRelocateBand a c () () s = _
  rw [execReshapeRelocateBand, if_neg (not_reshape_waits hrel hret hav hwhy), if_neg (by rw [hread]; exact Bool.false_ne_true), hnext]

/-- A cluster reads the next stripe of its band of the RETIRING pricking (R228). -/
theorem exec_reshapeRelocateBand_reads {b : Nat} (hnext : s.reshapeNext a c = some b) : exec (.reshapeRelocateBand a c () ()) s =
    .next (((s.nextReshape a c b 0).runReads).syncReshape a) := by
  show execReshapeRelocateBand a c () () s = _
  rw [execReshapeRelocateBand, if_neg (not_reshape_waits hrel hret hav hwhy), if_neg (by rw [hread]; exact Bool.false_ne_true), hnext]

end

/-! ### Scrub (R283) -/

section
variable {s : State} {a : Nat} (hrel : s.relocates a = true) (hrun : (s.arr a).scrubRun = true)
  (hread : s.devReads.any (fun e => e.2.array == a && e.2.goal == .scrub) = false)
include hrel hrun hread

/-- Scrub with nothing left is done (R283). -/
theorem exec_scrubStripe_ends (hnext : s.scrubNext a = none) :
    exec (.scrubStripe a () () ()) s = .next (s.setArr a { s.arr a with scrubRun := false, scrubDone := true }) := by
  show execScrubStripe a () () () s = _
  rw [execScrubStripe, if_neg (by rw [hrel, hrun, hread]; decide), hnext]

/-- Scrub reads the next stripe of a CLOSED band (R283). -/
theorem exec_scrubStripe_reads {b st : Nat} (hnext : s.scrubNext a = some (b, st)) : exec (.scrubStripe a () () ()) s =
    .next (((s.setArr a { s.arr a with scrubBand := b, scrubStripe := st + 1 }).readStripe .scrub a b st).runReads) := by
  show execScrubStripe a () () () s = _
  rw [execScrubStripe, if_neg (by rw [hrel, hrun, hread]; decide), hnext]

end

/-! ### Copies out of a stripe (R141) -/

/-- What a relocation carries of a grain that it read of the units from `pga` on (R141, R149). -/
def State.grainCopy (s : State) (a g pga : Nat) (words : List (Option WordRead)) : CopyGrain :=
  let v := (words.findSome? (fun w => match w with | some (.good _ x) => some x.mVseq | _ => none)).getD vseqNone
  let ws := (List.range words.length).map (fun i => s.copyWord a g i v (words.getD i none))
  { grain := g, src := pga, poisoned := ws.any (fun w => w.marked (s.arr a).pifmt), words := ws }

/-- A good word is carried as it is (R141). -/
theorem grainCopy_word {s : State} {a g pga : Nat} {words : List (Option WordRead)} {i step : Nat} {w : Info}
    (h : words[i]? = some (some (.good step w))) : (s.grainCopy a g pga words).words[i]? = some w := by
  obtain ⟨hi, -⟩ := List.getElem?_eq_some_iff.1 h
  simp [State.grainCopy, List.getElem?_range hi, List.getD_eq_getElem?_getD, h, State.copyWord]

section
variable {s : State} {a source g pga : Nat} {words : List (Option WordRead)}
  (hscan : ∀ k, k < s.gblk a / 16 → s.unitScanned a (pga + k) = false)
include hscan

theorem units_not_scanned : ¬ (List.range (s.gblk a / 16)).any (fun k => s.unitScanned a (pga + k)) = true := by
  simpa using hscan

/-- A grain that the map names here joins the copies of its cluster (R141). -/
theorem copyGrain_joins (hvalid : meValid ((s.mapGet a g).toNat % 2 ^ 48) = true) (hpga : mePga ((s.mapGet a g).toNat % 2 ^ 48) = pga) :
    Tbl.get (fun _ => []) (s.copyGrain a source g pga words).hoop.copyGather ((a * 8 + s.gatherCluster g) * 4 + source) =
      Tbl.get (fun _ => []) s.hoop.copyGather ((a * 8 + s.gatherCluster g) * 4 + source) ++ [s.grainCopy a g pga words] := by
  rw [State.copyGrain, if_neg (units_not_scanned hscan), if_pos (by rw [hvalid, hpga, Bool.true_and, beq_self_eq_true])]
  exact (Tbl.get_set ..).trans (if_pos rfl)

/-- A grain that the map names elsewhere, and did not discard here, is garbage (R141). -/
theorem copyGrain_garbage (hpga : mePga ((s.mapGet a g).toNat % 2 ^ 48) ≠ pga) : s.copyGrain a source g pga words = s := by
  have hthere : (mePga ((s.mapGet a g).toNat % 2 ^ 48) == pga) = false := beq_false_of_ne hpga
  rw [State.copyGrain, if_neg (units_not_scanned hscan), if_neg (by rw [hthere]; simp), if_neg (by rw [hthere]; simp)]

end

/-- The commands of relocation: the second part of O46. -/
theorem relocationCommands : Claims.RelocationCommands := by
  refine ⟨fun s a c hrel hav => ?gc, fun s a c => ?rebuild, fun s a pga => exec_lostUnitScan_ends, fun s a c hrel hret hav => ?reshape,
    fun s a hrel hrun hread => ?scrub, fun s a source g pga words hscan => ?copy⟩
  case gc =>
    refine ⟨exec_gcVictimSelect_stops hrel hav, fun hrun hread => ⟨fun hnone => ?_, fun v hv => ?_⟩⟩
    · exact ⟨fun b => exec_gcVictimSelect_chooses hrel hav hrun hread hnone, exec_gcVictimSelect_ends hrel hav hrun hread hnone⟩
    · rw [← hv]
      exact exec_gcVictimSelect_continues hrel hav hrun hread
  case rebuild =>
    refine ⟨exec_rebuildStripe_waits, fun hrel hwhy hav hread => ?_⟩
    exact ⟨fun b st => exec_rebuildStripe_reads hrel hwhy hav hread, exec_rebuildStripe_ends hrel hwhy hav hread⟩
  case reshape =>
    refine ⟨exec_reshapeRelocateBand_waits, fun hwhy hread => ?_⟩
    exact ⟨exec_reshapeRelocateBand_ends hrel hret hav hwhy hread, fun b => exec_reshapeRelocateBand_reads hrel hret hav hwhy hread⟩
  case scrub => exact ⟨exec_scrubStripe_ends hrel hrun hread, fun b st => exec_scrubStripe_reads hrel hrun hread⟩
  case copy =>
    refine ⟨fun hvalid hpga => ?_, copyGrain_garbage hscan⟩
    refine ⟨s.grainCopy a g pga words, copyGrain_joins hscan hvalid hpga, rfl, rfl, ?_, fun i step w => grainCopy_word⟩
    simp [State.grainCopy]

/-- Settles O46: epochs, erases and rates, and the commands of relocation. -/
theorem checkpointsAndRelocation : Obligations.CheckpointsAndRelocation := ⟨checkpointAndErase, relocationCommands⟩

end Sys2Proof.Machine

/-! ## The Map Cache: locks, enabling, draining, maintenance and errors (R155, R157, R159 to R169, R171, R172) -/

namespace Sys2Proof.Machine

/-! ### Fields and written values -/

section
variable {x y : Field} (h : y.off ≠ x.off ∨ y.lo + y.width ≤ x.lo ∨ x.lo + x.width ≤ y.lo)
include h

/-- Storing a field leaves every field that shares no bit with it. -/
theorem f_setF_of_apart (s : State) (v : Nat) : (s.setF x v).f y = s.f y := by
  by_cases ho : y.off = x.off
  · exact f_setF_disjoint s x y v ho (h.resolve_left (absurd ho))
  · exact f_setF_off s x y v ho

/-- As f_setF_of_apart, for a one-bit field. -/
theorem f_setFlag_of_apart (s : State) (b : Bool) : (s.setFlag x b).f y = s.f y := f_setF_of_apart h s b.toNat

/-- As f_setF_of_apart, for a one-bit field that is read. -/
theorem flag_setF_of_apart (s : State) (v : Nat) : (s.setF x v).flag y = s.flag y := by
  rw [State.flag, f_setF_of_apart h, State.flag]

/-- As flag_setF_of_apart, where a one-bit field is stored. -/
theorem flag_setFlag_of_apart (s : State) (b : Bool) : (s.setFlag x b).flag y = s.flag y := flag_setF_of_apart h s b.toNat

end

/-- A one-bit field reads back. -/
theorem flag_setFlag_same {x : Field} (hw : x.width = 1) (hx : x.lo + x.width ≤ 64) (s : State) (b : Bool) :
    (s.setFlag x b).flag x = b := by
  rw [State.flag, State.setFlag, f_setF_same s x _ hx, hw]
  cases b <;> rfl

/-- A field's value fits its width. -/
theorem f_lt (s : State) (x : Field) : s.f x < 2 ^ x.width := Nat.mod_lt _ (Nat.two_pow_pos _)

/-- A bit within the width of a field shows as in the number stored. -/
theorem bit_mod_two_pow {i n : Nat} (h : i < n) (v : Nat) : bit (v % 2 ^ n) i = bit v i := by
  simp only [bit_eq_testBit, Nat.testBit_mod_two_pow, h, decide_true, Bool.true_and]

/-- A bit that was put in reads back. -/
theorem bit_putBit_same (v i : Nat) (b : Bool) : bit (putBit v i b) i = b := by
  rw [bit_eq_testBit, putBit, testBit_putBits, if_pos (by omega), Nat.sub_self]
  cases b <;> rfl

/-- A field in the low half of a register reads, in what a write at the register's offset puts there, as in the value. -/
theorem bits_writtenValue_low {off size lo w : Nat} (hoff : off % 8 = 0) (hsize : size = 4 ∨ size = 8) (value : Word)
    (h : lo + w ≤ 32) : bits (writtenValue off size value) lo w = bits value.toNat lo w :=
  bits_congr fun k _ hk => by simpa using testBit_writtenValue_low hoff hsize value.toNat (by omega : k < 32)

/-- As bits_writtenValue_low, for one bit. -/
theorem bit_writtenValue_low {off size i : Nat} (hoff : off % 8 = 0) (hsize : size = 4 ∨ size = 8) (value : Word) (h : i < 32) :
    bit (writtenValue off size value) i = bit value.toNat i := by
  simpa [bit_eq_testBit] using testBit_writtenValue_low hoff hsize value.toNat h

/-- A write at a register's offset covers its bit 0. -/
theorem bit_writtenMask_zero {off size : Nat} (hoff : off % 8 = 0) (hsize : size = 4 ∨ size = 8) :
    bit (writtenMask off size) 0 = true := by
  rcases hsize with rfl | rfl <;> simp [bit, writtenMask, hoff]

/-- The write of a command's register that takes effect is one of 4 or 8 bytes that passes the gate. -/
theorem takesWrite_of_takesCmd {s : State} {off size : Nat} (h : s.takesCmd off size = true) :
    s.takesWrite off size = true ∧ (size = 4 ∨ size = 8) := by
  obtain ⟨htakes, -⟩ : s.takesWrite off size = true ∧ _ := by simpa [State.takesCmd] using h
  obtain ⟨-, -, hsize, -, -⟩ := (takesWrite_iff s off size).mp htakes
  exact ⟨htakes, hsize⟩

/-! ### What logs, events and the DRAM map leave of the Map Cache -/

/-- The offsets of the Map Cache's registers. -/
def cacheOffsets : List Nat := (List.range 12).map (R.MC_CTL + 8 * ·)

/-- The Map Cache's registers. -/
def State.cacheRegs (s : State) : List Word := cacheOffsets.map s.reg

/-- The Map Cache and its registers. -/
def State.cache (s : State) : MapCache × List Word := (s.mc, s.cacheRegs)

theorem cache_eq_iff {s t : State} : t.cache = s.cache ↔ t.mc = s.mc ∧ t.cacheRegs = s.cacheRegs := Prod.ext_iff

/-- A field of one of the Map Cache's registers is read off them. -/
theorem f_of_cacheRegs {s t : State} (h : t.cacheRegs = s.cacheRegs) {x : Field} (hx : x.off ∈ cacheOffsets) : t.f x = s.f x := by
  rw [State.f, List.map_inj_left.1 h _ hx, State.f]

/-- As f_of_cacheRegs, for a one-bit field. -/
theorem flag_of_cacheRegs {s t : State} (h : t.cacheRegs = s.cacheRegs) {x : Field} (hx : x.off ∈ cacheOffsets) :
    t.flag x = s.flag x := by
  rw [State.flag, f_of_cacheRegs h hx, State.flag]

/-- The fields that hold links, logs, messages, the map and free values may be replaced. -/
@[simp] theorem cache_update (s : State) (hw : Hw) (elog : ErrorLog) (aon : AonLog) (corrected : Tbl CorrUnit) (health : Health)
    (ep0 ep1 : Endpoint) (map : Tbl Word) (out : List OutMsg) (free : Nat) :
    State.cache { s with hw, elog, aon, corrected, health, ep0, ep1, map, out, free } = s.cache := rfl

/-- A branch keeps what both its sides keep. -/
@[simp] theorem cache_ite (c : Prop) [Decidable c] (s t : State) : (if c then s else t).cache = if c then s.cache else t.cache :=
  apply_ite State.cache c s t

/-- foldl_keeps for the Map Cache, as simp uses it. -/
@[simp] theorem foldl_cache {α : Type} (f : State → α → State) (h : ∀ s a, (f s a).cache = s.cache) (l : List α) (s : State) :
    (l.foldl f s).cache = s.cache := foldl_keeps State.cache f h l s

/-- A register of another block leaves the Map Cache. -/
theorem setReg_cache {off : Nat} (h : off ∉ cacheOffsets) (s : State) (w : Word) : (s.setReg off w).cache = s.cache := by
  refine cache_eq_iff.2 ⟨rfl, List.map_inj_left.2 fun o ho => ?_⟩
  rw [reg_setReg_eq, if_neg (fun heq : o = off => h (heq ▸ ho))]

theorem setF_cache {x : Field} (h : x.off ∉ cacheOffsets) (s : State) (v : Nat) : (s.setF x v).cache = s.cache := setReg_cache h s _

theorem setFlag_cache {x : Field} (h : x.off ∉ cacheOffsets) (s : State) (b : Bool) : (s.setFlag x b).cache = s.cache :=
  setReg_cache h s _

@[simp] theorem bumpFree_cache (s : State) : s.bumpFree.cache = s.cache := by simp [State.bumpFree]
@[simp] theorem send_cache (s : State) (m : OutMsg) : (s.send m).cache = s.cache := by simp [State.send]
@[simp] theorem setEp_cache (s : State) (e : Nat) (x : Endpoint) : (s.setEp e x).cache = s.cache := by simp [State.setEp]
@[simp] theorem msixDue_cache (s : State) (e v : Nat) : (s.msixDue e v).cache = s.cache := by simp [State.msixDue]
@[simp] theorem pmeCheck_cache (s : State) (e : Nat) : (s.pmeCheck e).cache = s.cache := by fun_cases State.pmeCheck s e <;> simp

@[simp] theorem raiseEvent_cache (s : State) (i : Nat) : (s.raiseEvent i).cache = s.cache := by
  simp [State.raiseEvent, setReg_cache (off := R.DEV_EVT) (by decide)]

@[simp] theorem logRecAt_cache (s : State) (t : Word) (cls src unit code addr : Nat) (detail : BitVec 256) :
    (s.logRecAt t cls src unit code addr detail).cache = s.cache := by
  simp [State.logRecAt, setF_cache (x := F.ELOG_STAT_COUNT) (by decide), setF_cache (x := F.ELOG_STAT_NEWSEQ) (by decide),
    setFlag_cache (x := F.ELOG_STAT_WRAP) (by decide), setFlag_cache (x := F.ELOG_STAT_EVT) (by decide)]

@[simp] theorem logRec_cache (s : State) (cls src unit code addr : Nat) (detail : BitVec 256) :
    (s.logRec cls src unit code addr detail).cache = s.cache := by
  simp [State.logRec]

@[simp] theorem logAon_cache (s : State) (code detail : Nat) : (s.logAon code detail).cache = s.cache := by
  simp [State.logAon, setF_cache (x := F.ELOG_AON_PEND) (by decide), setFlag_cache (x := F.ELOG_AON_OVF) (by decide)]

@[simp] theorem regNotice_cache (s : State) (code off : Nat) (value : Word) (detail : Nat) :
    (s.regNotice code off value detail).cache = s.cache := by
  simp [State.regNotice, State.notice]

@[simp] theorem logCorrected_cache (s : State) (src unit addr : Nat) : (s.logCorrected src unit addr).cache = s.cache := by
  simp [State.logCorrected]

@[simp] theorem logOpen_cache (s : State) (cls src unit addr : Nat) : (s.logOpen cls src unit addr).cache = s.cache := by
  simp [State.logOpen]

theorem withHealth_cache (s : State) (health : Health) : State.cache { s with health } = s.cache := rfl

@[simp] theorem healthEvent_cache (s : State) (code : Nat) (critical : Bool) (src unit : Nat) (detail : Option (BitVec 256)) :
    (s.healthEvent code critical src unit detail).cache = s.cache := by
  simp only [State.healthEvent, State.healthEventAt, cache_ite, raiseEvent_cache, withHealth_cache, bumpFree_cache, logRecAt_cache,
    setFlag_cache (x := F.HLTH_EVT_EVT) (by decide), setF_cache (x := F.HLTH_EVT_LAST) (by decide),
    setFlag_cache (x := F.HLTH_EVT_CRIT) (by decide), ite_self]

@[simp] theorem setDramEntry_cache (s : State) (a g : Nat) (w : Word) : (s.setDramEntry a g w).cache = s.cache := by
  simp [State.setDramEntry]

@[simp] theorem writeLine_cache (s : State) (l : CacheLine) : (s.writeLine l).cache = s.cache := by simp [State.writeLine]

@[simp] theorem rebuildLine_cache (s : State) (k : Nat) : (s.rebuildLine k).cache = s.cache := by
  simp [State.rebuildLine]

/-- A notice leaves the fields of the Map Cache's registers. -/
theorem f_regNotice {x : Field} (hx : x.off ∈ cacheOffsets) (s : State) (code off : Nat) (value : Word) (detail : Nat) :
    (s.regNotice code off value detail).f x = s.f x :=
  f_of_cacheRegs (cache_eq_iff.1 (regNotice_cache ..)).2 hx

/-! ### Lines -/

/-- A line replaced reads back; every other stays. -/
theorem line_setLine (s : State) {set way set' way' : Nat} (hway : way < 16) (hway' : way' < 16) (l : CacheLine) :
    (s.setLine set way l).line set' way' = if set' = set ∧ way' = way then l else s.line set' way' := by
  simp only [State.line, State.setLine, Tbl.get_set]
  congr 1
  simp only [eq_iff_iff]
  omega

/-- Lines leave the registers. -/
theorem setLine_cacheRegs (s : State) (set way : Nat) (l : CacheLine) : (s.setLine set way l).cacheRegs = s.cacheRegs := rfl

theorem cleanLine_cacheRegs (s : State) (k : Nat) : (s.cleanLine k).cacheRegs = s.cacheRegs := by
  rw [State.cleanLine]
  split
  · rw [setLine_cacheRegs, (cache_eq_iff.1 (writeLine_cache ..)).2]
  · rfl

theorem dropLine_cacheRegs (s : State) (k : Nat) : (s.dropLine k).cacheRegs = s.cacheRegs := setLine_cacheRegs ..

theorem rebuildLine_cacheRegs (s : State) (k : Nat) : (s.rebuildLine k).cacheRegs = s.cacheRegs :=
  (cache_eq_iff.1 (rebuildLine_cache s k)).2

/-- A line that was written back is clean. -/
theorem cleanLine_not_dirty (s : State) {set way : Nat} (hway : way < 16) :
    (((s.cleanLine (set * 16 + way)).line set way).valid && ((s.cleanLine (set * 16 + way)).line set way).dirty) = false := by
  rw [State.cleanLine]
  split
  case isTrue h =>
    rw [show (set * 16 + way) / 16 = set by omega, show (set * 16 + way) % 16 = way by omega, line_setLine _ hway hway,
      if_pos ⟨rfl, rfl⟩, Bool.and_false]
  case isFalse h => simpa [State.line] using h

/-- A line filled from DRAM is valid and clean and has the tag asked for. -/
theorem line_fillLine_same (s : State) {set way : Nat} (hway : way < 16) (tag : Nat) (fresh : Bool) :
    (s.fillLine set way tag fresh).line set way = { valid := true, tag, dirty := false, entries := s.dramLine tag, fresh } := by
  rw [State.fillLine, line_setLine _ hway hway, if_pos ⟨rfl, rfl⟩]

/-- A line dropped is invalid; every other stays. -/
theorem line_dropLine (s : State) (k set way : Nat) :
    (s.dropLine k).line set way = if set * 16 + way = k then lineReset 0 else s.line set way := by
  simp only [State.line, State.dropLine, State.setLine, Tbl.get_set, Nat.div_add_mod']

/-- Of lines dropped one after another, each is as before or invalid. -/
theorem line_foldl_dropLine (ks : List Nat) (s : State) (set way : Nat) :
    (ks.foldl (fun s k => s.dropLine k) s).line set way = s.line set way ∨
      ((ks.foldl (fun s k => s.dropLine k) s).line set way).valid = false := by
  induction ks generalizing s with
  | nil => exact .inl rfl
  | cons k ks ih =>
    rw [List.foldl_cons]
    rcases ih (s.dropLine k) with h | h
    · rw [h, line_dropLine]
      split
      · exact .inr rfl
      · exact .inl rfl
    · exact .inr h

/-! ### Refusals (R162, R165) -/

theorem mcRefuse_mc (s : State) (ecode off : Nat) (value : Word) : (s.mcRefuse ecode off value).mc = s.mc :=
  (cache_eq_iff.1 (regNotice_cache ..)).1

/-- A refusal changes of the Map Cache's registers MC_MAINT_STAT alone. -/
theorem f_mcRefuse_of_ne {x : Field} (hx : x.off ∈ cacheOffsets) (hne : x.off ≠ R.MC_MAINT_STAT) (s : State) (ecode off : Nat)
    (value : Word) : (s.mcRefuse ecode off value).f x = s.f x := by
  rw [State.mcRefuse, f_regNotice hx, f_setF_of_apart (.inl hne), f_setFlag_of_apart (.inl hne)]

/-- A refusal sets ERR and its ECODE. -/
theorem mcRefuse_err (s : State) {ecode : Nat} (he : ecode < 16) (off : Nat) (value : Word) :
    (s.mcRefuse ecode off value).flag F.MC_MAINT_STAT_ERR = true ∧ (s.mcRefuse ecode off value).f F.MC_MAINT_STAT_ECODE = ecode := by
  refine ⟨?_, ?_⟩
  · rw [State.flag, State.mcRefuse, f_regNotice (by decide), f_setF_of_apart (by decide)]
    exact flag_setFlag_same rfl (by decide) s true
  · rw [State.mcRefuse, f_regNotice (by decide), f_setF_same _ _ _ (by decide)]
    exact Nat.mod_eq_of_lt he

/-! ### Way locks (R164 to R166) -/

/-- 10 ms after the preload its hold ends (R164). -/
theorem exec_preloadHoldExpiry {s : State} (h : 1000000 ≤ (s.tbase - s.mc.preSince).toNat) :
    exec .preloadHoldExpiry s = .next s.dropHolds := congrArg Host.Outcome.next (if_pos h)

/-- A taken write of MC_WAYLOCK asks for the value's low 16 bits (R165). -/
theorem exec_mcWaylockWrite {s : State} {size : Nat} (h : s.takesWrite R.MC_WAYLOCK size = true) (value : Word) :
    exec (.mcWaylockWrite size value) s = .next (s.writeWaylock (value.toNat % 65536) R.MC_WAYLOCK value) := by
  obtain ⟨-, -, hsize, -, -⟩ := (takesWrite_iff s _ size).mp h
  show execMcWaylockWrite size value s = _
  rw [execMcWaylockWrite, gate_of_takesWrite h, bits_writtenValue_low rfl hsize _ (by decide), bits, pow_zero, Nat.div_one]
  rfl

/-- The ways that a write of `new` to MC_WAYLOCK locks: those of it that are held or locked (R165). -/
def State.lockable (s : State) (new : Nat) : Nat := new &&& (s.f F.MC_WAYLOCK_LOCK ||| s.f F.MC_WAYPRE_PRE)

/-- The ways locked or held after a write of `new` to MC_WAYLOCK (R164, R165). -/
def State.keptWays (s : State) (new : Nat) : Nat :=
  (s.f F.MC_WAYPRE_PRE - (s.f F.MC_WAYPRE_PRE &&& s.f F.MC_WAYLOCK_LOCK)) ||| s.lockable new

/-- The state in which the locks asked for have taken effect. -/
def State.locksSet (s : State) (new : Nat) : State := (s.setF F.MC_WAYLOCK_LOCK (s.lockable new)).setF F.MC_WAYPRE_PRE (s.keptWays new)

/-- The write that names a disabled way, or would leave more than 8 ways locked or held, is refused (R166). -/
theorem writeWaylock_refused {s : State} {new : Nat} (h : (new &&& s.f F.MC_WAYDIS_DIS) ≠ 0 ∨ 8 < wayCount (s.keptWays new)) (off : Nat)
    (value : Word) : s.writeWaylock new off value = s.mcRefuse 7 off value := if_pos h

/-- Any other write takes effect, and is refused in part where it asked for more (R165). -/
theorem writeWaylock_taken {s : State} {new : Nat} (hdis : (new &&& s.f F.MC_WAYDIS_DIS) = 0) (hcount : wayCount (s.keptWays new) ≤ 8)
    (off : Nat) (value : Word) : s.writeWaylock new off value =
      if s.lockable new = new then s.locksSet new else (s.locksSet new).mcRefuse 6 off value :=
  if_neg (not_or.2 ⟨not_not.2 hdis, hcount.not_gt⟩)

theorem lockable_lt (s : State) (new : Nat) : s.lockable new < 2 ^ 16 :=
  Nat.and_lt_two_pow _ (Nat.or_lt_two_pow (f_lt s F.MC_WAYLOCK_LOCK) (f_lt s F.MC_WAYPRE_PRE))

theorem keptWays_lt (s : State) (new : Nat) : s.keptWays new < 2 ^ 16 :=
  Nat.or_lt_two_pow ((Nat.sub_le _ _).trans_lt (f_lt s F.MC_WAYPRE_PRE)) (lockable_lt s new)

/-- The locks and the ways kept read back. -/
theorem locksSet_fields (s : State) (new : Nat) :
    (s.locksSet new).f F.MC_WAYLOCK_LOCK = s.lockable new ∧ (s.locksSet new).f F.MC_WAYPRE_PRE = s.keptWays new := by
  refine ⟨?_, ?_⟩
  · rw [State.locksSet, f_setF_of_apart (by decide), f_setF_same _ _ _ (by decide)]
    exact Nat.mod_eq_of_lt (lockable_lt s new)
  · rw [State.locksSet, f_setF_same _ _ _ (by decide)]
    exact Nat.mod_eq_of_lt (keptWays_lt s new)

/-- What a write of MC_WAYLOCK leaves where it is not refused whole (R165). -/
theorem writeWaylock_effect {s : State} {new : Nat} (hdis : (new &&& s.f F.MC_WAYDIS_DIS) = 0) (hcount : wayCount (s.keptWays new) ≤ 8)
    (off : Nat) (value : Word) :
    (s.writeWaylock new off value).f F.MC_WAYLOCK_LOCK = s.lockable new ∧
      (s.writeWaylock new off value).f F.MC_WAYPRE_PRE = s.keptWays new ∧ (s.writeWaylock new off value).mc = s.mc ∧
      (s.lockable new ≠ new → (s.writeWaylock new off value).flag F.MC_MAINT_STAT_ERR = true ∧
        (s.writeWaylock new off value).f F.MC_MAINT_STAT_ECODE = 6) := by
  obtain ⟨hlock, hpre⟩ := locksSet_fields s new
  rw [writeWaylock_taken hdis hcount]
  split
  case isTrue hall => exact ⟨hlock, hpre, rfl, absurd hall⟩
  case isFalse =>
    rw [f_mcRefuse_of_ne (by decide) (by decide), f_mcRefuse_of_ne (by decide) (by decide), mcRefuse_mc]
    exact ⟨hlock, hpre, rfl, fun _ => mcRefuse_err _ (by decide) _ _⟩

/-- Holds and locks (R164 to R166): the first part of O26. -/
theorem wayLocks : Claims.WayLocks := by
  refine ⟨fun s => exec_preloadHoldExpiry, fun s size value h => ⟨fun hdis hcount => ?_, fun hrefused => ?_⟩⟩
  · exact ⟨_, exec_mcWaylockWrite h value, writeWaylock_effect hdis hcount R.MC_WAYLOCK value⟩
  · rw [exec_mcWaylockWrite h, writeWaylock_refused hrefused]

/-! ### Enabling and draining (R167 to R169) -/

section
variable {s : State} {size : Nat} (h : s.takesCmd R.MC_CTL size = true) {value : Word} (hseq : bit value.toNat 1 = false)
include h

/-- A taken write of MC_CTL with EN = 1 is one of its EN and of the value's SEQERR. -/
theorem exec_mcEnable_eq : exec (.mcEnable size value) s = .next (s.writeMcCtl R.MC_CTL size (value ||| 1)) :=
  congrArg Host.Outcome.next (gate_of_takesWrite (takesWrite_of_takesCmd h).1 _ _)

/-- As exec_mcEnable_eq, with EN = 0. -/
theorem exec_mcDisable_eq : exec (.mcDisable size value) s = .next (s.writeMcCtl R.MC_CTL size (value &&& ~~~1)) :=
  congrArg Host.Outcome.next (gate_of_takesWrite (takesWrite_of_takesCmd h).1 _ _)

end

section
variable {s : State} {size : Nat} (hsize : size = 4 ∨ size = 8) {value : Word} (hseq : bit value.toNat 1 = false)
include hsize hseq

/-- With SEQERR not written, EN = 1 turns a cache that is Off on, or sets SEQERR (R167). -/
theorem writeMcCtl_enable (hen : bit value.toNat 0 = true) (hoff : s.mcState = 0) : s.writeMcCtl R.MC_CTL size value =
    if s.flag F.MC_CTL_INVDONE ∧ !s.flag F.MC_CTL_FAULT then (s.setFlag F.MC_CTL_EN true).setF F.MC_CTL_STATE 1
    else (s.setFlag F.MC_CTL_SEQERR true).regNotice 3 R.MC_CTL value := by
  simp [State.writeMcCtl, bit_writtenMask_zero (off := R.MC_CTL) rfl hsize, bit_writtenValue_low (off := R.MC_CTL) rfl hsize, hen, hseq,
    hoff]

/-- With SEQERR not written, EN = 0 drains a cache that is On (R169). -/
theorem writeMcCtl_disable (hen : bit value.toNat 0 = false) (hon : s.mcState = 1) :
    s.writeMcCtl R.MC_CTL size value = s.beginDrain := by
  simp [State.writeMcCtl, bit_writtenMask_zero (off := R.MC_CTL) rfl hsize, bit_writtenValue_low (off := R.MC_CTL) rfl hsize, hen, hseq,
    hon]

end

/-- EN set in a value, and its other bits. -/
theorem bit_or_one (value : Word) : bit (value ||| 1).toNat 0 = true ∧ bit (value ||| 1).toNat 1 = bit value.toNat 1 := by
  simp only [bit_eq_testBit, BitVec.testBit_toNat]
  simp

/-- EN cleared in a value, and its other bits. -/
theorem bit_and_not_one (value : Word) :
    bit (value &&& ~~~1).toNat 0 = false ∧ bit (value &&& ~~~1).toNat 1 = bit value.toNat 1 := by
  simp only [bit_eq_testBit, BitVec.testBit_toNat]
  simp [-BitVec.reduceNot]

/-- A cache that begins to drain is Draining (R169). -/
theorem beginDrain_mcState (s : State) : s.beginDrain.mcState = 2 := by
  rw [State.mcState, State.beginDrain, f_setFlag_of_apart (by decide), f_setFlag_of_apart (by decide), f_setF_same _ _ _ (by decide)]
  rfl

/-- The beginning of a drain leaves FAULT. -/
theorem beginDrain_fault (s : State) : s.beginDrain.flag F.MC_CTL_FAULT = s.flag F.MC_CTL_FAULT := by
  rw [State.beginDrain, flag_setFlag_of_apart (by decide), flag_setFlag_of_apart (by decide), flag_setF_of_apart (by decide),
    flag_setFlag_of_apart (by decide), flag_setFlag_of_apart (by decide)]

/-- The drain of a cache without a running command ends (R169). -/
theorem exec_mcDrainComplete {s : State} (hstate : s.mcState = 2) (hrun : s.mc.run = none) (hruns : s.mcRuns = true) :
    exec .mcDrainComplete s = .next s.endDrain := congrArg Host.Outcome.next (if_pos ⟨hstate, by rw [hrun]; rfl, hruns⟩)

/-- The drain ends Off, with no lock, no hold, and BUSY clear (R169). -/
theorem endDrain_fields (s : State) : s.endDrain.mcState = 0 ∧ s.endDrain.f F.MC_WAYLOCK_LOCK = 0 ∧ s.endDrain.f F.MC_WAYPRE_PRE = 0 ∧
    s.endDrain.flag F.MC_MAINT_STAT_BUSY = false := by
  simp (disch := decide) [State.mcState, State.endDrain, f_setFlag_of_apart, f_setF_of_apart, f_setF_same, flag_setFlag_same]

/-! ### Write-backs (R157) -/

/-- The acknowledgement of a write-back that a set waits for (R157). -/
theorem exec_mcWritebackAck {s : State} {set : Nat} {x : WriteBack} (hx : s.mc.waits.find? (fun x => x.set == set) = some x) :
    exec (.mcWritebackAck set) s = .next (s.ackWriteBack x) := by
  show execMcWritebackAck set s = _
  rw [execMcWritebackAck, State.ackSet, hx]

/-- The state in which a write-back's line is clean and its set no longer waits for it. -/
def State.wroteBack (s : State) (x : WriteBack) : State :=
  let s1 := s.cleanLine (x.set * 16 + x.way)
  { s1 with mc := { s1.mc with waits := s1.mc.waits.erase x } }

theorem wroteBack_cacheRegs (s : State) (x : WriteBack) : (s.wroteBack x).cacheRegs = s.cacheRegs := cleanLine_cacheRegs ..

theorem wroteBack_line (s : State) (x : WriteBack) : (s.wroteBack x).line = (s.cleanLine (x.set * 16 + x.way)).line := rfl

/-- The acknowledgement by what stands once the line is clean. -/
theorem ackWriteBack_eq (s : State) (x : WriteBack) : s.ackWriteBack x =
    if (s.wroteBack x).mcState ≠ 1 ∨ ((s.wroteBack x).wayOf x.set x.tag).isSome then s.wroteBack x
    else if (s.wroteBack x).wayLocked x.way || (s.wroteBack x).wayHeld x.way || (s.wroteBack x).wayDisabled x.way then
      (s.wroteBack x).refill x ((s.wroteBack x).victim x.set)
    else (s.wroteBack x).refill x (some x.way) := rfl

/-- While the cache is On, and the line is not there meanwhile, the fill takes the way that it waited for, where that is free to be
taken (R157). -/
theorem ackWriteBack_sameWay {s : State} {x : WriteBack} (hon : s.mcState = 1)
    (habsent : (s.cleanLine (x.set * 16 + x.way)).wayOf x.set x.tag = none) (hlock : s.wayLocked x.way = false)
    (hheld : s.wayHeld x.way = false) (hdis : s.wayDisabled x.way = false) : s.ackWriteBack x = (s.wroteBack x).refill x (some x.way) := by
  have hf {y : Field} (hy : y.off ∈ cacheOffsets) : (s.wroteBack x).f y = s.f y := f_of_cacheRegs (wroteBack_cacheRegs s x) hy
  have hon' : (s.wroteBack x).mcState = 1 := (hf (by decide)).trans hon
  have hlock' : (s.wroteBack x).wayLocked x.way = false := by rw [State.wayLocked, hf (by decide)]; exact hlock
  have hheld' : (s.wroteBack x).wayHeld x.way = false := by
    rw [State.wayHeld, State.wayLocked, hf (by decide), hf (by decide)]
    exact hheld
  have hdis' : (s.wroteBack x).wayDisabled x.way = false := by rw [State.wayDisabled, hf (by decide)]; exact hdis
  have habsent' : (s.wroteBack x).wayOf x.set x.tag = none := habsent
  rw [ackWriteBack_eq, if_neg (by simp [hon', habsent']), if_neg (by simp [hlock', hheld', hdis'])]

/-- The fill that waited for a way whose line is clean now is made there (R157). -/
theorem line_refill_wroteBack (s : State) {x : WriteBack} (hway : x.way < 16) :
    ((s.wroteBack x).refill x (some x.way)).line x.set x.way =
      { valid := true, tag := x.tag, dirty := false, entries := (s.wroteBack x).dramLine x.tag, fresh := true } := by
  have hclean := cleanLine_not_dirty s (set := x.set) hway
  rw [← wroteBack_line] at hclean
  simp only [State.refill, hclean, Bool.false_eq_true, if_false]
  exact line_fillLine_same _ hway _ _

/-- Enabling, draining and write-backs (R157, R167 to R169): the second part of O26. -/
theorem mapCacheEnableDrain : Claims.MapCacheEnableDrain := by
  refine ⟨fun s size value h => ⟨?enable, ?refuse, ?disable⟩, fun s hstate hrun hruns => ?drain, fun s set x hx => ?ack⟩
  case enable =>
    obtain ⟨-, hsize⟩ := takesWrite_of_takesCmd h
    obtain ⟨hen, hone⟩ := bit_or_one value
    intro hseq hoff hinv hfault
    rw [exec_mcEnable_eq h, writeMcCtl_enable hsize (hone.trans hseq) hen hoff, if_pos ⟨hinv, by rw [hfault]; rfl⟩]
  case refuse =>
    obtain ⟨-, hsize⟩ := takesWrite_of_takesCmd h
    obtain ⟨hen, hone⟩ := bit_or_one value
    intro hseq hoff hinv
    rw [exec_mcEnable_eq h, writeMcCtl_enable hsize (hone.trans hseq) hen hoff, if_neg (by simp [hinv])]
  case disable =>
    obtain ⟨-, hsize⟩ := takesWrite_of_takesCmd h
    obtain ⟨hen, hone⟩ := bit_and_not_one value
    intro hseq hon
    rw [exec_mcDisable_eq h, writeMcCtl_disable hsize (hone.trans hseq) hen hon]
    exact ⟨rfl, beginDrain_mcState s⟩
  case drain => exact ⟨exec_mcDrainComplete hstate hrun hruns, rfl, endDrain_fields s⟩
  case ack =>
    refine ⟨exec_mcWritebackAck hx, fun hon hway habsent hlock hheld hdis => ?_⟩
    obtain rfl : x.set = set := by simpa using List.find?_some hx
    rw [ackWriteBack_sameWay hon habsent hlock hheld hdis, line_refill_wroteBack s hway]
    exact ⟨rfl, rfl, rfl⟩

/-- Settles O26: way locks, and enabling and draining with the write-backs. -/
theorem mapCacheModes : Obligations.MapCacheModes := ⟨wayLocks, mapCacheEnableDrain⟩

/-! ### The start of a maintenance command (R159, R162) -/

/-- The rows of MC_MAINT_CMD write it with their OP. -/
theorem exec_mcMaint {op : Nat} {c : Nat → Word → Instr}
    (h : (op = 1 ∧ c = .mcClean) ∨ (op = 2 ∧ c = .mcInval) ∨ (op = 3 ∧ c = .mcClinv) ∨ (op = 4 ∧ c = .mcPreload) ∨
      (op = 5 ∧ c = .mcLock)) (s : State) (size : Nat) (value : Word) :
    exec (c size value) s = .next (s.writeMaint size (withOp value op)) := by
  rcases h with ⟨rfl, rfl⟩ | ⟨rfl, rfl⟩ | ⟨rfl, rfl⟩ | ⟨rfl, rfl⟩ | ⟨rfl, rfl⟩ <;> rfl

/-- What a write of MC_MAINT_CMD with OP = `op` puts into the register. -/
def maintWritten (op size : Nat) (value : Word) : Nat := writtenValue R.MC_MAINT_CMD size (withOp value op)

/-- Its OP is the row's. -/
theorem bits_maintWritten {size op : Nat} (hsize : size = 4 ∨ size = 8) (hop : op < 8) (value : Word) :
    bits (maintWritten op size value) 0 3 = op := by
  rw [maintWritten, withOp, bits_congr (fun k _ hk => testBit_writtenValue_low rfl hsize _ (by omega)), bits_putBits]
  exact Nat.mod_eq_of_lt hop

/-- A taken write of MC_MAINT_CMD is a command. -/
theorem writeMaint_of_takesCmd {s : State} {size : Nat} (h : s.takesCmd R.MC_MAINT_CMD size = true) (value : Word) :
    s.writeMaint size value = s.maintCommand (writtenValue R.MC_MAINT_CMD size value) R.MC_MAINT_CMD value :=
  command_of_takesCmd h rfl value _

/-- While a command is busy a further one is refused with ECODE 1 (R162). -/
theorem maintCheck_of_busy {s : State} (h : s.flag F.MC_MAINT_STAT_BUSY = true) (v : Nat) : s.maintCheck v = 1 := by
  simp [State.maintCheck, h]

/-- A command that does not pass the checks is refused with their ECODE (R162). -/
theorem maintCommand_refused {s : State} {v : Nat} (h : s.maintCheck v ≠ 0) (off : Nat) (value : Word) :
    s.maintCommand v off value = s.mcRefuse (s.maintCheck v) off value := if_pos h

/-- The run that a command written as `v` starts (R159). -/
def State.runOf (s : State) (v : Nat) : MaintRun :=
  { op := bits v 0 3, all := bit v 3, array := s.f F.MC_MAINT_BASE_ARRAY, first := s.f F.MC_MAINT_BASE_GRAIN,
    len := s.f F.MC_MAINT_LEN_LEN, ways := bits v 16 16, pos := 0 }

/-- The state in which a run has begun: BUSY, OP, the position shown, holds ended (R159, R161, R164). -/
def State.maintBegun (s : State) (r : MaintRun) : State :=
  (((s.setFlag F.MC_MAINT_STAT_BUSY true).setF F.MC_MAINT_STAT_OP r.op).maintShow r).dropHolds.setMaintRun (some r)

theorem f_setMaintRun (s : State) (r : Option MaintRun) (x : Field) : (s.setMaintRun r).f x = s.f x := rfl

/-- Showing the position leaves the fields of the cache beside MC_MAINT_POS and PERMILLE. -/
theorem f_maintShow_of_apart {x : Field} (hpos : x.off ≠ R.MC_MAINT_POS) (hmille : x.off ≠ R.MC_MAINT_STAT ∨ x.lo + x.width ≤ 16)
    (s : State) (r : MaintRun) : (s.maintShow r).f x = s.f x := by
  rw [State.maintShow, f_setF_of_apart (hmille.imp_right .inl), f_setF_of_apart (.inl hpos)]

/-- A run begun changes neither the cache's state nor a line; BUSY and OP show it. -/
theorem maintBegun_fields (s : State) {r : MaintRun} (hop : r.op < 8) :
    (s.maintBegun r).mcState = s.mcState ∧ (s.maintBegun r).mc = { s.mc with run := some r } ∧
      (s.maintBegun r).flag F.MC_MAINT_STAT_BUSY = true ∧ (s.maintBegun r).f F.MC_MAINT_STAT_OP = r.op := by
  have hf {x : Field} (hpre : x.off ≠ R.MC_WAYPRE) (hpos : x.off ≠ R.MC_MAINT_POS)
      (hmille : x.off ≠ R.MC_MAINT_STAT ∨ x.lo + x.width ≤ 16) :
      (s.maintBegun r).f x = ((s.setFlag F.MC_MAINT_STAT_BUSY true).setF F.MC_MAINT_STAT_OP r.op).f x := by
    rw [State.maintBegun, f_setMaintRun, State.dropHolds, f_setF_of_apart (.inl hpre), f_maintShow_of_apart hpos hmille]
  refine ⟨?_, rfl, ?_, ?_⟩
  · rw [State.mcState, hf (by decide) (by decide) (by decide), f_setF_of_apart (by decide), f_setFlag_of_apart (by decide), State.mcState]
  · rw [State.flag, hf (by decide) (by decide) (by decide), f_setF_of_apart (by decide)]
    exact flag_setFlag_same rfl (by decide) s true
  · rw [hf (by decide) (by decide) (by decide), f_setF_same _ _ _ (by decide)]
    exact Nat.mod_eq_of_lt hop

/-- A command accepted while the cache is On, with a line to visit, has begun (R159). -/
theorem maintCommand_begins {s : State} {v : Nat} (hcheck : s.maintCheck v = 0) (hrange : bit v 3 = true ∨ s.f F.MC_MAINT_LEN_LEN ≠ 0)
    (hon : s.mcState = 1) (off : Nat) (value : Word) : s.maintCommand v off value = s.maintBegun (s.runOf v) := by
  have hon' : (s.maintBegun (s.runOf v)).mcState = 1 :=
    (maintBegun_fields s (Nat.mod_lt _ (by decide))).1.trans hon
  have hlen : (!bit v 3 && s.f F.MC_MAINT_LEN_LEN == 0) = false := by
    rcases hrange with h | h <;> simp [h]
  rw [State.maintCommand, hcheck, if_neg (by decide)]
  show (if (!bit v 3 && s.f F.MC_MAINT_LEN_LEN == 0) || (bits v 0 3 == 1 && (s.maintBegun (s.runOf v)).mcState == 0) then _
    else s.maintBegun (s.runOf v)) = _
  rw [hlen, hon']
  simp

/-! ### The run of a maintenance command (R161) -/

section
variable {s : State} {r : MaintRun} (hrun : s.mc.run = some r) (hruns : s.mcRuns = true)
include hrun hruns

/-- In a tick the engine visits as many lines as its rate allows (R160, R161). -/
theorem maintTick_runs : s.maintTick =
    if (s.maintVisit r (maintRate r.op)).2.2 then
      (s.maintVisit r (maintRate r.op)).1.maintClose (s.maintVisit r (maintRate r.op)).2.1 true
    else ((s.maintVisit r (maintRate r.op)).1.maintShow (s.maintVisit r (maintRate r.op)).2.1).setMaintRun
      (some (s.maintVisit r (maintRate r.op)).2.1) := by
  simp [State.maintTick, hrun, hruns]

/-- At its completion a command visits the lines left and ends (R161). -/
theorem exec_mcMaintComplete_ends : exec .mcMaintComplete s = .next (s.maintEnd r) := by
  show execMcMaintComplete s = _
  rw [execMcMaintComplete, hrun]
  exact congrArg Host.Outcome.next (if_pos hruns)

end

/-- A command that has ended runs no longer (R161). -/
theorem maintEnd_run (s : State) (r : MaintRun) : (s.maintEnd r).mc.run = none := rfl

/-- An INVAL with ALL drops the lines left, shows where it has come, and sets INVDONE (R159, R167). -/
theorem maintEnd_invalAll {s : State} {r : MaintRun} (hop : r.op = 2) (hall : r.all = true) : ∃ (ks : List Nat) (r' : MaintRun),
    s.maintEnd r = (((ks.foldl (fun s k => s.dropLine k) s).maintShow r').setFlag F.MC_CTL_INVDONE true).maintOver := by
  refine ⟨s.linesOf r (r.total - r.pos), { r with pos := r.pos + (r.total - r.pos) }, ?_⟩
  simp [State.maintEnd, State.maintVisit, State.maintClose, hop, hall]

/-- With the cache Off, an INVAL with ALL ends with INVDONE set and BUSY clear, and every line is as before or invalid. -/
theorem maintEnd_invalAll_off {s : State} {r : MaintRun} (hop : r.op = 2) (hall : r.all = true) (hoff : s.mcState = 0) :
    (s.maintEnd r).flag F.MC_CTL_INVDONE = true ∧ (s.maintEnd r).flag F.MC_MAINT_STAT_BUSY = false ∧
      ∀ set way, (s.maintEnd r).line set way = s.line set way ∨ ((s.maintEnd r).line set way).valid = false := by
  obtain ⟨ks, r', hend⟩ := maintEnd_invalAll (s := s) hop hall
  rw [hend]
  have hregs : (ks.foldl (fun s k => s.dropLine k) s).cacheRegs = s.cacheRegs := foldl_keeps _ _ dropLine_cacheRegs ks s
  refine ⟨?_, ?_, fun set way => line_foldl_dropLine ks s set way⟩
  · rw [State.maintOver, flag_setFlag_of_apart (by decide), State.flag, f_setMaintRun]
    exact flag_setFlag_same rfl (by decide) _ true
  · rw [State.maintOver, flag_setFlag_same rfl (by decide), State.mcState, f_setFlag_of_apart (by decide),
      f_maintShow_of_apart (by decide) (by decide), f_of_cacheRegs hregs (by decide)]
    exact beq_eq_false_iff_ne.2 (by rw [show s.f F.MC_CTL_STATE = 0 from hoff]; decide)

/-- Start, refusal, ticks and end of the maintenance commands (R159 to R162): the first part of O27. -/
theorem maintenanceCommands : Claims.MaintenanceCommands := by
  refine ⟨fun s size op value c hc htakes => ⟨fun hbusy => ?busy, fun e he hne => ?refused, fun hcheck hrange hon => ?start⟩,
    fun s r hrun hruns => ⟨maintTick_runs hrun hruns, exec_mcMaintComplete_ends hrun hruns, maintEnd_run s r, maintEnd_invalAll_off⟩⟩
  case busy =>
    rw [exec_mcMaint hc, writeMaint_of_takesCmd htakes, maintCommand_refused (by rw [maintCheck_of_busy hbusy]; decide),
      maintCheck_of_busy hbusy]
  case refused =>
    subst he
    rw [exec_mcMaint hc, writeMaint_of_takesCmd htakes, maintCommand_refused hne]
  case start =>
    have hop8 : op < 8 := by omega
    have hop : bits (maintWritten op size value) 0 3 = op := bits_maintWritten (takesWrite_of_takesCmd htakes).2 hop8 value
    have hrunOf : (s.runOf (maintWritten op size value)).op = op := hop
    obtain ⟨-, hmc, hbusy, hshown⟩ := maintBegun_fields s (r := s.runOf (maintWritten op size value)) (by omega)
    refine ⟨s.maintBegun (s.runOf (maintWritten op size value)), ?_, ?_, hbusy, hshown.trans hrunOf, ?_⟩
    · rw [exec_mcMaint hc, writeMaint_of_takesCmd htakes, maintCommand_begins hcheck hrange hon]
      rfl
    · rw [hmc, State.runOf, hop]
      rfl
    · rw [hmc]

/-! ### Errors of a way (R171, R172) -/

/-- A way that fails while fewer than four are disabled is disabled itself (R171). -/
theorem wayFails_of_count_lt {s : State} {w : Nat} (hdis : s.wayDisabled w = false) (hcount : s.f F.MC_WAYDIS_COUNT < 4)
    (bad : Option Nat) (cls : Nat) : s.wayFails w bad cls = s.disableWay w bad cls := by
  simp only [State.wayFails, hdis, Bool.false_eq_true, if_false, hcount, if_true]

/-- Every line of a way, written back or, where it is in error, rebuilt, has left the cache (R171). -/
def State.wayEmptied (s : State) (w : Nat) (bad : Option Nat) : State :=
  ((s.mc.lines.filter (fun e => e.1 % 16 == w)).map (fun e => e.1)).foldl
    (fun s k => (if bad == some k then s.rebuildLine k else s.cleanLine k).dropLine k) s

/-- The way's lock and hold are cleared, and it is marked disabled and counted (R171). -/
def State.wayMarked (s : State) (w : Nat) : State :=
  let s1 := (s.setF F.MC_WAYLOCK_LOCK (putBit (s.f F.MC_WAYLOCK_LOCK) w false)).setF F.MC_WAYPRE_PRE
    (putBit (s.f F.MC_WAYPRE_PRE) w false)
  (s1.setF F.MC_WAYDIS_DIS (putBit (s1.f F.MC_WAYDIS_DIS) w true)).incF F.MC_WAYDIS_COUNT

theorem wayMarked_fields (s : State) {w : Nat} (hw : w < 16) :
    (s.wayMarked w).wayDisabled w = true ∧ (s.wayMarked w).wayLocked w = false := by
  refine ⟨?_, ?_⟩
  · rw [State.wayDisabled, State.wayMarked, State.incF, f_setF_of_apart (by decide), f_setF_same _ _ _ (by decide)]
    exact (bit_mod_two_pow hw _).trans (bit_putBit_same ..)
  · rw [State.wayLocked, State.wayMarked, State.incF, f_setF_of_apart (by decide), f_setF_of_apart (by decide),
      f_setF_of_apart (by decide), f_setF_same _ _ _ (by decide)]
    exact (bit_mod_two_pow hw _).trans (bit_putBit_same ..)

/-- Disabling a way empties and marks it; of the cache the record and the event change nothing (R171). -/
theorem disableWay_cacheRegs (s : State) (w : Nat) (bad : Option Nat) (cls : Nat) :
    (s.disableWay w bad cls).cacheRegs = ((s.wayEmptied w bad).wayMarked w).cacheRegs :=
  (cache_eq_iff.1 ((raiseEvent_cache _ 4).trans (logOpen_cache ((s.wayEmptied w bad).wayMarked w) cls 4 w w))).2

/-- A disabled way is marked so and is not locked (R171). -/
theorem disableWay_fields (s : State) {w : Nat} (hw : w < 16) (bad : Option Nat) (cls : Nat) :
    (s.disableWay w bad cls).wayDisabled w = true ∧ (s.disableWay w bad cls).wayLocked w = false := by
  have hregs := disableWay_cacheRegs s w bad cls
  rw [State.wayDisabled, State.wayLocked, f_of_cacheRegs hregs (by decide), f_of_cacheRegs hregs (by decide)]
  exact wayMarked_fields _ hw

/-- The line in error, rebuilt, has left the cache (R131, R172). -/
def State.badDropped (s : State) : Option Nat → State
  | some k => (s.rebuildLine k).dropLine k
  | none => s

theorem badDropped_cacheRegs (s : State) (bad : Option Nat) : (s.badDropped bad).cacheRegs = s.cacheRegs := by
  cases bad with
  | some k => exact (dropLine_cacheRegs ..).trans (rebuildLine_cacheRegs s k)
  | none => rfl

/-- FAULT is set, with the health event and the map-cache event (R172, R470). -/
def State.cacheFaulted (s : State) (w : Nat) : State := ((s.setFlag F.MC_CTL_FAULT true).healthEvent 0x07 true 4 w).raiseEvent 4

theorem cacheFaulted_cacheRegs (s : State) (w : Nat) : (s.cacheFaulted w).cacheRegs = (s.setFlag F.MC_CTL_FAULT true).cacheRegs :=
  (cache_eq_iff.1 ((raiseEvent_cache _ 4).trans (healthEvent_cache ..))).2

/-- The fifth way that fails faults the cache, which drains if it is On (R172). -/
theorem wayFails_of_four_le {s : State} {w : Nat} (hdis : s.wayDisabled w = false) (hcount : 4 ≤ s.f F.MC_WAYDIS_COUNT)
    (bad : Option Nat) (cls : Nat) : s.wayFails w bad cls =
      if ((s.badDropped bad).cacheFaulted w).mcState = 1 then ((s.badDropped bad).cacheFaulted w).beginDrain
      else (s.badDropped bad).cacheFaulted w := by
  simp only [State.wayFails, hdis, Bool.false_eq_true, if_false, hcount.not_gt]
  cases bad <;> rfl

/-- A fault shows, and leaves the cache's state. -/
theorem cacheFaulted_fields (s : State) (w : Nat) :
    (s.cacheFaulted w).flag F.MC_CTL_FAULT = true ∧ (s.cacheFaulted w).mcState = s.mcState := by
  have hregs := cacheFaulted_cacheRegs s w
  rw [flag_of_cacheRegs hregs (by decide), flag_setFlag_same rfl (by decide), State.mcState, f_of_cacheRegs hregs (by decide),
    f_setFlag_of_apart (by decide)]
  exact ⟨rfl, rfl⟩

/-- The fifth way that fails sets FAULT, and a cache that is On begins to drain (R172). -/
theorem wayFails_faults {s : State} {w : Nat} (hdis : s.wayDisabled w = false) (hcount : 4 ≤ s.f F.MC_WAYDIS_COUNT)
    (bad : Option Nat) (cls : Nat) : (s.wayFails w bad cls).flag F.MC_CTL_FAULT = true ∧
      (s.mcState = 1 → (s.wayFails w bad cls).mcState = 2) := by
  obtain ⟨hfault, hstate⟩ := cacheFaulted_fields (s.badDropped bad) w
  have hsame : (s.badDropped bad).mcState = s.mcState := f_of_cacheRegs (badDropped_cacheRegs s bad) (by decide)
  rw [wayFails_of_four_le hdis hcount]
  split
  case isTrue => exact ⟨(beginDrain_fault _).trans hfault, fun _ => beginDrain_mcState _⟩
  case isFalse hoff => exact ⟨hfault, fun hon => absurd (hstate.trans (hsame.trans hon)) hoff⟩

section
variable {w : Nat} (hw : w < 16) (s : State) (set : Nat)
include hw

/-- An uncorrectable error is counted and logged, and its way fails (R171). -/
theorem exec_mcEccError_uncorrectable : exec (.mcEccError w set true) s =
    .next ((((s.setF F.MC_ECC_LASTWAY w).satF F.MC_ECC_UNCORR).logDeferred 4 w 0 set).wayFails w (some (set * 16 + w)) clsDeferred) := by
  show execMcEccError w set true s = _
  simp only [execMcEccError, Nat.mod_eq_of_lt hw, if_true]

/-- The first corrected error of a way's window is counted and logged, and nothing else (R171). -/
theorem exec_mcEccError_first (hfirst : (Tbl.get eccReset s.mc.ecc w).count = 0) : exec (.mcEccError w set false) s =
    .next ((({ s.setF F.MC_ECC_LASTWAY w with
      mc := { s.mc with ecc := Tbl.set eccReset s.mc.ecc w { count := 1, start := s.tbase } } } : State).satF
        F.MC_ECC_CORR).logCorrected 4 w set) := by
  show execMcEccError w set false s = _
  simp [execMcEccError, Nat.mod_eq_of_lt hw, hfirst]

end

/-- Errors of a way (R171, R172): the second part of O27. -/
theorem mapCacheErrors : Claims.MapCacheErrors := by
  intro s w set hw
  refine ⟨exec_mcEccError_uncorrectable hw s set, fun bad cls hdis hcount => ?_,
    fun bad cls hdis hcount => wayFails_faults hdis hcount bad cls, exec_mcEccError_first hw s set⟩
  rw [wayFails_of_count_lt hdis hcount]
  exact disableWay_fields s hw bad cls

/-- Settles O27: the maintenance commands, and the errors of a way. -/
theorem mapCacheMaintenance : Obligations.MapCacheMaintenance := ⟨maintenanceCommands, mapCacheErrors⟩

end Sys2Proof.Machine

/-! ## Administrative calls, pricking calls and program calls (R68, R272, R275, R276, R282 to R288) -/

namespace Sys2Proof.Machine

/-! ### What the end of a call leaves of the loaded programs

One lemma for each operation that State.bookPost reaches, in the order of the model's files; as for State.steady, none of them is proved by
rfl. -/

/-- The loaded programs: program memory, the master copy of the Pattern Table, and the argument masks that stand cleared (R271, R277). -/
def State.programs (s : State) : Tbl Word × Tbl Word × Tbl Bool := (s.pmem, s.master, s.maskCleared)

/-- A master entry is read from the loaded programs. -/
theorem masterEntry_of_programs_eq {s t : State} (h : t.programs = s.programs) (i : Nat) : t.masterEntry i = s.masterEntry i := by
  obtain ⟨-, hmaster, -⟩ : t.pmem = s.pmem ∧ t.master = s.master ∧ t.maskCleared = s.maskCleared := by simpa [State.programs] using h
  rw [State.masterEntry, hmaster, State.masterEntry]

/-- Any other field that the operations below write may be replaced. -/
@[simp] theorem programs_update (s : State) (hw : Hw) (mode : ModeReg) (bar0 : Tbl Word) (elog : ErrorLog) (aon : AonLog) (dump : DumpState)
    (ep0 ep1 : Endpoint) (subRings : Tbl SubRing) (cplRings : Tbl CplRing) (pair : PairState) (threads : Tbl Thread) (skeins : Tbl Info)
    (skeinUsed : Tbl Bool) (extents : List Extent) (faults : Tbl FaultRec) (prk : PrkState) (hoop : Hoop) (hostTags : Tbl HostTag)
    (ats : List AtsEntry) (sht : Tbl ShtChan) (out : List OutMsg) (free : Nat) :
    State.programs { s with
      hw, mode, bar0, elog, aon, dump, ep0, ep1, subRings, cplRings, pair, threads, skeins, skeinUsed, extents, faults, prk, hoop, hostTags,
      ats, sht, out, free } = s.programs := by
  simp [State.programs]

/-- A branch keeps what both its sides keep. -/
@[simp] theorem programs_ite (c : Prop) [Decidable c] (s t : State) :
    (if c then s else t).programs = if c then s.programs else t.programs := apply_ite State.programs c s t

/-- foldl_keeps for the programs, as simp uses it. -/
@[simp] theorem foldl_programs {α : Type} (f : State → α → State) (h : ∀ s a, (f s a).programs = s.programs) (l : List α) (s : State) :
    (l.foldl f s).programs = s.programs := foldl_keeps State.programs f h l s

@[simp] theorem setReg_programs (s : State) (off : Nat) (w : Word) : (s.setReg off w).programs = s.programs := by simp [State.setReg]
@[simp] theorem setF_programs (s : State) (x : Field) (v : Nat) : (s.setF x v).programs = s.programs := by simp [State.setF]
@[simp] theorem setFlag_programs (s : State) (x : Field) (b : Bool) : (s.setFlag x b).programs = s.programs := by simp [State.setFlag]
@[simp] theorem satF_programs (s : State) (x : Field) (n : Nat) : (s.satF x n).programs = s.programs := by simp [State.satF]
@[simp] theorem bumpFree_programs (s : State) : s.bumpFree.programs = s.programs := by simp [State.bumpFree]
@[simp] theorem send_programs (s : State) (m : OutMsg) : (s.send m).programs = s.programs := by simp [State.send]
@[simp] theorem mirror_programs (s : State) (m : MirrorItem) : (s.mirror m).programs = s.programs := by simp [State.mirror]
@[simp] theorem setEp_programs (s : State) (e : Nat) (x : Endpoint) : (s.setEp e x).programs = s.programs := by simp [State.setEp]
@[simp] theorem msixDue_programs (s : State) (e v : Nat) : (s.msixDue e v).programs = s.programs := by simp [State.msixDue]

@[simp] theorem pmeCheck_programs (s : State) (e : Nat) : (s.pmeCheck e).programs = s.programs := by
  fun_cases State.pmeCheck s e <;> simp

@[simp] theorem raiseEvent_programs (s : State) (i : Nat) : (s.raiseEvent i).programs = s.programs := by simp [State.raiseEvent]

@[simp] theorem logRec_programs (s : State) (cls src unit code addr : Nat) (detail : BitVec 256) :
    (s.logRec cls src unit code addr detail).programs = s.programs := by
  simp [State.logRec, State.logRecAt]

@[simp] theorem logAon_programs (s : State) (code detail : Nat) : (s.logAon code detail).programs = s.programs := by simp [State.logAon]

@[simp] theorem aer_programs (s : State) (e : Nat) (k : AerError) (sev : Severity) : (s.aer e k sev).programs = s.programs := by
  fun_cases State.aer s e k sev
  simp +zetaDelta

@[simp] theorem setChan_programs (s : State) (n : Nat) (x : ShtChan) : (s.setChan n x).programs = s.programs := by simp [State.setChan]

@[simp] theorem stopShuttle_programs (s : State) : s.stopShuttle.programs = s.programs := by
  simp [State.stopShuttle, State.stopChan, State.shtForget]

@[simp] theorem ltrSync_programs (s : State) : s.ltrSync.programs = s.programs := by
  refine foldl_programs _ (fun t e => ?_) _ _
  split <;> simp

@[simp] theorem sayHello_programs (s : State) : s.sayHello.programs = s.programs := by simp [State.sayHello]
@[simp] theorem slowClocks_programs (s : State) : s.slowClocks.programs = s.programs := by simp [State.slowClocks]
@[simp] theorem dumpWindows_programs (s : State) : s.dumpWindows.programs = s.programs := by simp [State.dumpWindows]

@[simp] theorem halt_programs (s : State) (cause kind mcode : Nat) (cq : Bool) (ring index unit detail : Nat) :
    (s.halt cause kind mcode cq ring index unit detail).programs = s.programs := by
  simp [State.halt]

@[simp] theorem ringHalt_programs (s : State) (mcode : Nat) (cq : Bool) (ring index : Nat) :
    (s.ringHalt mcode cq ring index).programs = s.programs := by
  simp [State.ringHalt]

@[simp] theorem hostWrite_programs (s : State) (e : Nat) (rd : Reader) (addr : Nat) (ats ep_ : Bool) (bytes : List Byte) :
    (s.hostWrite e rd addr ats ep_ bytes).programs = s.programs := by
  fun_cases State.hostWrite s e rd addr ats ep_ bytes <;> simp [State.xlatTouch]

@[simp] theorem setSub_programs (s : State) (r : Nat) (x : SubRing) : (s.setSub r x).programs = s.programs := by simp [State.setSub]
@[simp] theorem setCpl_programs (s : State) (q : Nat) (x : CplRing) : (s.setCpl q x).programs = s.programs := by simp [State.setCpl]
@[simp] theorem cqVector_programs (s : State) (q : Nat) : (s.cqVector q).programs = s.programs := by simp [State.cqVector]

@[simp] theorem recWrite_programs (s : State) (q e addr : Nat) (ats : Bool) (bytes : List Byte) (irq : Bool) :
    (s.recWrite q e addr ats bytes irq).programs = s.programs := by
  simp [State.recWrite, State.coalesce]

@[simp] theorem pushRec_programs (s : State) (q : Nat) (x : CplRec) : (s.pushRec q x).programs = s.programs := by
  simp [State.pushRec, State.writeRec, State.holdRec, State.backpressure, State.setFetchStop]

@[simp] theorem completeEntry_programs (s : State) (r num status result : Nat) :
    (s.completeEntry r num status result).programs = s.programs := by
  simp [State.completeEntry, State.inflightDone, State.flushBatches]

@[simp] theorem postOrStall_programs (s : State) (th : Nat) (cs : List Call) (status result : Nat) :
    (s.postOrStall th cs status result).1.programs = s.programs := by
  fun_cases State.postOrStall s th cs status result <;> simp [State.completeCalls]

@[simp] theorem setRegion_programs (s : State) (r : Nat) (b : Bool) : (s.setRegion r b).programs = s.programs := by simp [State.setRegion]

@[simp] theorem setCentry_programs (s : State) (e : Nat) (x : CEntry) : (s.setCentry e x).programs = s.programs := by
  simp [State.setCentry]

@[simp] theorem syncDirty_programs (s : State) : s.syncDirty.programs = s.programs := by simp [State.syncDirty]

@[simp] theorem clearRegion_programs (s : State) (a b : Nat) : (s.clearRegion a b).programs = s.programs := by simp [State.clearRegion]

@[simp] theorem reapAll_programs (s : State) : s.reapAll.programs = s.programs := by
  simp [State.reapAll, State.reapEntry, State.freeEntryOf, State.dropEntry]

@[simp] theorem setThr_programs (s : State) (th : Nat) (t : Thread) : (s.setThr th t).programs = s.programs := by simp [State.setThr]

@[simp] theorem tellStarter_programs (s : State) (th status : Nat) : (s.tellStarter th status).programs = s.programs := by
  unfold State.tellStarter
  split <;> simp [State.asyncDone]

@[simp] theorem freeHelper_programs (s : State) (th : Nat) : (s.freeHelper th).programs = s.programs := by
  unfold State.freeHelper
  split <;> simp

@[simp] theorem reapExtents_programs (s : State) : s.reapExtents.programs = s.programs := by simp [State.reapExtents]

@[simp] theorem endThread_programs (s : State) (th : Nat) : (s.endThread th).programs = s.programs := by
  simp [State.endThread, State.leaveEngine, State.finishThread, State.freeRuns, State.markSkeins]

@[simp] theorem postCalls_programs (s : State) (th status result : Nat) : (s.postCalls th status result).programs = s.programs := by
  simp [State.postCalls]

@[simp] theorem postNone_programs (s : State) (th status : Nat) : (s.postNone th status).programs = s.programs := by
  unfold State.postNone
  split <;> simp [State.logFault]

@[simp] theorem setBook_programs (s : State) (th : Nat) (b : BookRun) : (s.setBook th b).programs = s.programs := by simp [State.setBook]

/-- The end of a call leaves the programs. -/
@[simp] theorem bookPost_programs (s : State) (th status result : Nat) : (s.bookPost th status result).programs = s.programs := by
  fun_cases State.bookPost s th status result <;> simp +zetaDelta

@[simp] theorem retireExtents_programs (s : State) (p : Nat) (keep : Option Nat) : (s.retireExtents p keep).programs = s.programs := by
  simp [State.retireExtents]

/-! ### A stage of a program -/

section
variable {s : State} {th : Nat}

/-- A program that may go on, and has not posted, runs its stage. -/
theorem bookStep_of_ready {p : Nat} (h : s.bookReady th p = true) (hstage : (s.book th).stage ≠ bookLast) (stage : State → State) :
    s.bookStep th p stage = stage s := by
  simp [State.bookStep, h, hstage]

/-- As bookStep_of_ready, at a stage that is known. -/
theorem bookStep_at {p n : Nat} (h : s.bookReady th p = true) (hstage : (s.book th).stage = n) (hn : n ≠ bookLast)
    (stage : State → State) : s.bookStep th p stage = stage s :=
  bookStep_of_ready h (hstage ▸ hn) stage

theorem perm16_iff : s.perm16 th = true ↔ (s.thr th).perm &&& 16 = 16 := by simp [State.perm16]

/-- The status of a single check. -/
theorem firstStatus_singleton (x : Nat) : firstStatus [x] = x := by by_cases h : x = 0 <;> simp [firstStatus, h]

/-- An administration call that passes its checks hands its work over (R276). -/
theorem bookBegin_passes {checks : List Nat} (hperm : s.perm16 th = true) (h : firstStatus checks = 0) (body : State → State) :
    s.bookBegin th 16 checks body = s.handOver th body := by
  have hadmin : bit 16 4 = true := by decide
  simp [State.bookBegin, perm16_iff.mp hperm, h, hadmin]

/-- An administration call that fails a check ends with its status (R275, R278). -/
theorem bookBegin_fails {checks : List Nat} (hperm : s.perm16 th = true) (h : firstStatus checks ≠ 0) (body : State → State) :
    s.bookBegin th 16 checks body = s.bookPost th (firstStatus checks) 0 := by
  simp [State.bookBegin, perm16_iff.mp hperm, h]

/-! ### Device work (R276) -/

/-- A device-work thread does its own work. -/
theorem handOver_of_devWork (h : thDevWork th = true) (body : State → State) : s.handOver th body = body s := by
  simp [State.handOver, h]

/-- A call waits while no device-work thread of its cluster is free. -/
theorem handOver_of_no_thread (h : thDevWork th = false) (hfree : s.freeThread (thCluster th) true = none) (body : State → State) :
    s.handOver th body = s := by
  simp [State.handOver, h, hfree]

/-- A thread found for device work is not the call's own. -/
theorem ne_of_freeThread {c w : Nat} (h : thDevWork th = false) (hfree : s.freeThread c true = some w) : w ≠ th := by
  have hw := List.find?_some hfree
  rintro rfl
  simp [h] at hw

theorem setReg_running (t : Thread) (n : Nat) (v : Word) : (t.setReg n v).running = t.running := by
  simp [Thread.setReg, apply_ite Thread.running]

/-- A started thread runs. -/
theorem startThread_running (w pattern : Nat) (g : List Word) (g8 g9 : Word) (perm : Nat) :
    ((s.startThread w pattern g g8 g9 perm).thr w).running = true := by
  have hargs (l : List Nat) (t : Thread) : (l.foldl (fun t k => t.setReg (k + 1) (g.getD k 0)) t).running = t.running := by
    induction l generalizing t with
    | nil => rfl
    | cons k l ih => rw [List.foldl_cons, ih, setReg_running]
  rw [State.startThread, thr_setThr, if_pos rfl, setReg_running, setReg_running, hargs]

/-- The work goes on in a state in which the thread found runs for the call, and arrays and registers are as before. -/
theorem handOver_of_thread {w : Nat} (h : thDevWork th = false) (hfree : s.freeThread (thCluster th) true = some w)
    (body : State → State) : ∃ u : State, s.handOver th body = body u ∧ (u.thr w).running = true ∧ (u.book th).helper = some w ∧
      u.arrays = s.arrays ∧ u.bar0 = s.bar0 := by
  have hne : w ≠ th := ne_of_freeThread h hfree
  simp only [State.handOver, h, hfree, Bool.false_eq_true, if_false]
  refine ⟨_, rfl, ?_, ?_, rfl, rfl⟩
  · rw [thr_setThr, if_neg hne, thr_setThr, if_pos rfl]
    exact startThread_running ..
  · rw [State.book, thr_setThr, if_pos rfl]

/-- The work sees the arrays, the pricking engine and the call's arguments as they were: two bodies that agree on every state that has them are
the same work. -/
theorem handOver_congr {body body' : State → State} (h : ∀ u : State, u.arrays = s.arrays → u.prk = s.prk →
      (∀ k, u.arg th k = s.arg th k) → body u = body' u) : s.handOver th body = s.handOver th body' := by
  unfold State.handOver
  split
  · exact h s rfl rfl fun _ => rfl
  split
  · rfl
  · refine h _ rfl rfl fun k => ?_
    rw [State.arg, thr_setThr, if_pos rfl]
    rfl

/-! ### PIN (R282) -/

/-- PIN ends once its changes are durable. -/
theorem exec_pin_durable (h : s.bookReady th 0x006 = true) (hstage : (s.book th).stage = 2) (hdur : s.durableAt (s.book th).n = true) :
    exec (.pin th) s = .next (s.bookPost th 0 (min (2 ^ 32 - 1) (s.book th).result)) := by
  show execPin th s = _
  simp only [execPin, bookStep_at h hstage (by decide), hstage, State.postDurable, hdur, if_true]

/-- PIN goes on from the grain it has reached. -/
theorem exec_pin_range (h : s.bookReady th 0x006 = true) (hstage : (s.book th).stage = 1) (harr : s.arrExists (s.argArray th) = true) :
    exec (.pin th) s = .next (s.pinRange th (s.argArray th) (bit (s.arg th 1) 8) (s.book th).pos
      ((s.wholeRange th).2 - (s.book th).pos)) := by
  show execPin th s = _
  simp only [execPin, bookStep_at h hstage (by decide), hstage, harr, if_true]

/-! ### SCRUB (R283) -/

theorem argArray_of_arg {u : State} (h : ∀ k, u.arg th k = s.arg th k) : u.argArray th = s.argArray th := by
  rw [State.argArray, h, State.argArray]

theorem arr_of_arrays {u : State} (h : u.arrays = s.arrays) (a : Nat) : u.arr a = s.arr a := by rw [State.arr, h, State.arr]

/-- A SCRUB that has not posted passes its permission and its checks (R275, R276, R278). -/
def State.scrubAdmits (s : State) (th : Nat) : Prop :=
  s.perm16 th = true ∧ s.adminStatus 0x008 = 0 ∧ s.arrExists (s.argArray th) = true ∧ s.liveArray (s.argArray th) = 0 ∧
    (s.book th).stage ≠ bookLast

/-- The checks of SCRUB do not fail under an OP that is not reserved. -/
theorem scrubChecks_pass {op : Nat} (hok : s.scrubAdmits th) (hop : op ≠ 3) :
    firstStatus [s.adminStatus 0x008, if s.arrExists (s.argArray th) then 0 else 0x0321, if op = 3 then 0x0323 else 0,
      s.liveArray (s.argArray th)] = 0 := by
  obtain ⟨-, hadmin, harr, hlive, -⟩ := hok
  simp [firstStatus, hadmin, harr, hop, hlive]

/-- A start sets an idle pass going on from the kept position. -/
theorem exec_scrubStart (h : s.bookReady th 0x008 = true) (hok : s.scrubAdmits th) (hop : bits (s.arg th 1) 8 2 = 0)
    (hrun : (s.arr (s.argArray th)).scrubRun = false) (hdone : (s.arr (s.argArray th)).scrubDone = false) :
    exec (.scrubStart th) s = .next (s.handOver th (fun u =>
      (u.setArr (s.argArray th) { u.arr (s.argArray th) with scrubRun := true }).bookPost th 0
        ((u.setArr (s.argArray th) { u.arr (s.argArray th) with scrubRun := true }).scrubResult (s.argArray th)))) := by
  have ⟨hperm, _, _, _, hstage⟩ := hok
  show Host.Outcome.next (s.scrubCall th 0) = _
  rw [State.scrubCall, bookStep_of_ready h hstage, if_neg (not_not.mpr hop), bookBegin_passes hperm (scrubChecks_pass hok (by decide))]
  refine congrArg _ (handOver_congr fun u harrays _ harg => ?_)
  simp only [argArray_of_arg harg, arr_of_arrays harrays, hrun, hdone, Bool.false_eq_true, if_false]

/-- A stop keeps the position. -/
theorem exec_scrubStop (h : s.bookReady th 0x008 = true) (hok : s.scrubAdmits th) (hop : bits (s.arg th 1) 8 2 = 1) :
    exec (.scrubStop th) s = .next (s.handOver th (fun u =>
      (u.setArr (s.argArray th) { u.arr (s.argArray th) with scrubRun := false }).bookPost th 0
        ((u.setArr (s.argArray th) { u.arr (s.argArray th) with scrubRun := false }).scrubResult (s.argArray th)))) := by
  have ⟨hperm, _, _, _, hstage⟩ := hok
  show Host.Outcome.next (s.scrubCall th 1) = _
  rw [State.scrubCall, bookStep_of_ready h hstage, if_neg (not_not.mpr hop), bookBegin_passes hperm (scrubChecks_pass hok (by decide))]
  refine congrArg _ (handOver_congr fun u _ _ harg => ?_)
  simp only [argArray_of_arg harg]

/-- A query reports. -/
theorem exec_scrubQuery (h : s.bookReady th 0x008 = true) (hok : s.scrubAdmits th) (hop : bits (s.arg th 1) 8 2 = 2) :
    exec (.scrubQuery th) s = .next (s.handOver th (fun u => u.bookPost th 0 (u.scrubResult (s.argArray th)))) := by
  have ⟨hperm, _, _, _, hstage⟩ := hok
  show Host.Outcome.next (s.scrubCall th (if bits (s.arg th 1) 8 2 = 3 then 3 else 2)) = _
  rw [hop, if_neg (by decide), State.scrubCall, bookStep_of_ready h hstage, if_neg (not_not.mpr hop),
    bookBegin_passes hperm (scrubChecks_pass hok (by decide))]
  refine congrArg _ (handOver_congr fun u _ _ harg => ?_)
  simp only [argArray_of_arg harg]

/-! ### CONFIG, MEMBER_FAIL, LOG_CLEAR, ARRAY_RESIZE (R284) -/

section
variable (hstage : (s.book th).stage ≠ bookLast) (hperm : s.perm16 th = true)
include hstage hperm

/-- CONFIG stores a size within its range that the DRAM can hold. -/
theorem exec_config {v : Nat} (h : s.bookReady th 0x010 = true) (hadmin : s.adminStatus 0x010 = 0) (hv : v = bits (s.arg th 1) 0 7)
    (hpos : 0 < v) (hmax : v ≤ 64) (hdram : s.dramNeed v 0 ≤ s.dramBytes) : exec (.config th) s =
      .next (s.handOver th (fun s => ({ s with boot := { s.boot with hoopGib := v } } : State).bookPost th 0 v)) := by
  have hchecks : firstStatus [s.adminStatus 0x010, if v = 0 ∨ 64 < v then 0x0323 else 0,
      if s.dramBytes < s.dramNeed v 0 then 0x031A else 0] = 0 := by
    have hrange : ¬ (v = 0 ∨ 64 < v) := by omega
    simp [firstStatus, hadmin, hrange, Nat.not_lt.mpr hdram]
  show execConfig th s = _
  simp only [execConfig, bookStep_of_ready h hstage, ← hv, bookBegin_passes hperm hchecks]

/-- MEMBER_FAIL declares an enrolled sled failed with cause 5. -/
theorem exec_memberFail {n : Nat} (h : s.bookReady th 0x014 = true) (hadmin : s.adminStatus 0x014 = 0)
    (hn : n = bits (s.arg th 1) 0 16) (henrolled : (s.sled n).enrolled = true) : exec (.memberFail th) s =
      .next (s.handOver th (fun s => (s.declareFailed n 5).bookPost th 0 0)) := by
  have hchecks : firstStatus [s.adminStatus 0x014, if (s.sled n).enrolled then 0 else 0x0314] = 0 := by
    simp [firstStatus, hadmin, henrolled]
  show execMemberFail th s = _
  simp only [execMemberFail, bookStep_of_ready h hstage, ← hn, bookBegin_passes hperm hchecks]

/-- LOG_CLEAR empties the lost-stripe log and reports how many records went. -/
theorem exec_logClear (h : s.bookReady th 0x015 = true) (hadmin : s.adminStatus 0x015 = 0) : exec (.logClear th) s = .next
    (s.handOver th (fun s => ((({ s with lost := { s.lost with stripes := [] } } : State).setFlag F.ARR_LSL_STAT_OVF false).syncLost).bookPost
      th 0 s.lost.stripes.length)) := by
  have hchecks : firstStatus [s.adminStatus 0x015] = 0 := by rw [firstStatus_singleton, hadmin]
  show execLogClear th s = _
  simp only [execLogClear, bookStep_of_ready h hstage, bookBegin_passes hperm hchecks]

end

/-- ARRAY_RESIZE to a capacity that is not below the present one sets GRAINS at once. -/
theorem exec_arrayResize {new : Nat} (h : s.bookReady th 0x013 = true) (hstage : (s.book th).stage = 1)
    (harr : s.arrExists (s.argArray th) = true) (hnew : new = bits (s.arg th 2) 0 40)
    (hle : s.f (F.ARR_GEOM_GRAINS (s.argArray th)) ≤ new) : exec (.arrayResize th) s =
      .next ((((s.setF (F.ARR_GEOM_GRAINS (s.argArray th)) new).syncArray (s.argArray th)).mirrorRegs s (s.argArray th)).bookPost th 0
        (new % 2 ^ 32)) := by
  show execArrayResize th s = _
  simp only [execArrayResize, bookStep_at h hstage (by decide), hstage, harr, ← hnew, hle, Bool.not_true, Bool.false_eq_true, if_false,
    if_true]

end

/-- PIN, SCRUB and the administration calls without an engine (R276, R282 to R284): the first part of O44. -/
theorem adminCalls : Claims.AdminCalls := by
  intro s th b a x op scrubOk
  have admits (hok : scrubOk) : s.scrubAdmits th := hok
  refine ⟨exec_pin_durable, exec_pin_range, fun w body hdev hfree => handOver_of_thread hdev hfree body,
    fun body => ⟨fun hdev => handOver_of_devWork hdev body, fun hdev hfree => handOver_of_no_thread hdev hfree body⟩,
    fun h hok hop hrun hdone => exec_scrubStart h (admits hok) hop hrun hdone, fun h hok hop => exec_scrubStop h (admits hok) hop,
    fun h hok hop => exec_scrubQuery h (admits hok) hop,
    fun v h hstage hperm hadmin hv hpos hmax hdram => exec_config hstage hperm h hadmin hv hpos hmax hdram,
    fun n h hstage hperm hadmin hn henrolled => exec_memberFail hstage hperm h hadmin hn henrolled,
    fun h hstage hperm hadmin => exec_logClear hstage hperm h hadmin,
    fun new h hstage harr hnew hle => exec_arrayResize h hstage harr hnew hle⟩

/-! ### The pricking calls (R68, R284) -/

section
variable {s : State} {th : Nat}

/-- A pricking call whose checks pass on an idle engine hands its command to the engine (R68). -/
theorem engineBegin_passes {op : PrkOp} {slot busy : Nat} {checks : List Nat} (hperm : s.perm16 th = true) (hidle : s.prk.run = none)
    (h : firstStatus checks = 0) (body : State → State) : s.engineBegin th 16 op slot busy checks body = s.handOver th body := by
  have hbegin : s.engineBegin th 16 op slot busy checks body =
      s.bookBegin th 16 checks (fun s => if s.prk.run.isSome then s.bookPost th 0x0317 busy else body s) := by
    simp [State.engineBegin, h]
  rw [hbegin, bookBegin_passes hperm h]
  refine handOver_congr fun u _ hprk _ => ?_
  rw [hprk, hidle, Option.isSome_none, if_neg Bool.false_ne_true]

/-- A pricking call that fails a check on an idle engine ends with its status, and PRK_STAT records it (R68). -/
theorem engineBegin_fails {op : PrkOp} {slot busy : Nat} {checks : List Nat} (hperm : s.perm16 th = true) (hidle : s.prk.run = none)
    (h : firstStatus checks ≠ 0) (body : State → State) : s.engineBegin th 16 op slot busy checks body =
      (s.prkRecord op.code slot (firstStatus checks)).bookPost th (firstStatus checks) 0 := by
  have hthr : (s.prkRecord op.code slot (firstStatus checks)).thr th = s.thr th := by simp [State.prkRecord, h]
  have hperm' : (s.prkRecord op.code slot (firstStatus checks)).perm16 th = true := by rw [State.perm16, hthr]; exact hperm
  rw [← bookBegin_fails hperm' h (fun s => if s.prk.run.isSome then s.bookPost th 0x0317 busy else body s)]
  simp [State.engineBegin, perm16_iff.mp hperm, h, hidle]

/-- PRK_BIND, PRK_ARM and PRK_DROP that pass use the engine. -/
theorem prkCall_passes {p : Nat} (h : s.bookReady th p = true) (hstage : (s.book th).stage = 0) (hperm : s.perm16 th = true)
    (hidle : s.prk.run = none) (hadmin : s.adminStatus p = 0) (op : PrkOp) :
    s.prkCall th p op = s.handOver th (fun u => u.askEngine th op (bits (s.arg th 1) 0 5) []) := by
  rw [State.prkCall, bookStep_at h hstage (by decide), if_neg (by simp [hstage]),
    engineBegin_passes hperm hidle (by rw [firstStatus_singleton, hadmin])]

/-- In a mode or role that does not allow it, such a call ends, and PRK_STAT records why. -/
theorem prkCall_fails {p : Nat} (h : s.bookReady th p = true) (hstage : (s.book th).stage = 0) (hperm : s.perm16 th = true)
    (hidle : s.prk.run = none) (hadmin : s.adminStatus p ≠ 0) (op : PrkOp) :
    s.prkCall th p op = (s.prkRecord op.code (bits (s.arg th 1) 0 5) (s.adminStatus p)).bookPost th (s.adminStatus p) 0 := by
  rw [State.prkCall, bookStep_at h hstage (by decide), if_neg (by simp [hstage]),
    engineBegin_fails hperm hidle (by rwa [firstStatus_singleton]), firstStatus_singleton]

/-- A call whose command the engine has ended posts what the engine answered. -/
theorem engineEnded_of_some {code result : Nat} (h : (s.book th).ended = some (code, result)) :
    s.engineEnded th = s.bookPost th code result := by rw [State.engineEnded, h]

/-- So do PRK_BIND, PRK_ARM and PRK_DROP. -/
theorem prkCall_ended {p code result : Nat} (h : s.bookReady th p = true) (hstage : (s.book th).stage = 9)
    (hended : (s.book th).ended = some (code, result)) (op : PrkOp) : s.prkCall th p op = s.bookPost th code result := by
  rw [State.prkCall, bookStep_at h hstage (by decide), if_pos hstage, engineEnded_of_some hended]

/-- So does PRK_LOAD. -/
theorem exec_prkLoad_ended {code result : Nat} (h : s.bookReady th 0x018 = true) (hstage : (s.book th).stage = 9)
    (hended : (s.book th).ended = some (code, result)) : exec (.prkLoad th) s = .next (s.bookPost th code result) := by
  show execPrkLoad th s = _
  simp only [execPrkLoad, bookStep_at h hstage (by decide), hstage, engineEnded_of_some hended]

/-- So does ARRAY_CREATE. -/
theorem exec_arrayCreate_ended {code result : Nat} (h : s.bookReady th 0x011 = true) (hstage : (s.book th).stage = 9)
    (hended : (s.book th).ended = some (code, result)) : exec (.arrayCreate th) s = .next (s.bookPost th code result) := by
  show execArrayCreate th s = _
  simp only [execArrayCreate, bookStep_at h hstage (by decide), hstage, engineEnded_of_some hended]

/-- PRK_LOAD whose image could not be read leaves the engine with the read's status. -/
theorem exec_prkLoad_unread (h : s.bookReady th 0x018 = true) (hstage : (s.book th).stage = 2) (himage : s.imageStatus th ≠ 0) :
    exec (.prkLoad th) s =
      .next (s.engineFails th (s.imageStatus th) (s.slot (bits (s.arg th 1) 0 5)).state.code) := by
  show execPrkLoad th s = _
  simp only [execPrkLoad, bookStep_at h hstage (by decide), hstage, if_pos himage]

/-- PRK_LOAD gives the engine the image it has read. -/
theorem exec_prkLoad_read (h : s.bookReady th 0x018 = true) (hstage : (s.book th).stage = 2) (himage : s.imageStatus th = 0) :
    exec (.prkLoad th) s = .next (s.askEngine th .load (bits (s.arg th 1) 0 5) (s.imageBytes th 512)) := by
  show execPrkLoad th s = _
  simp only [execPrkLoad, bookStep_at h hstage (by decide), hstage, if_neg (not_not.mpr himage)]

/-! ### ARRAY_CREATE and ARRAY_DELETE (R285, R286) -/

/-- ARRAY_CREATE begins to write its pricking once every check has passed. -/
theorem exec_arrayCreate_begins {img : List Byte} (h : s.bookReady th 0x011 = true) (hstage : (s.book th).stage = 2)
    (himg : img = s.imageBytes th 512) (himage : s.imageStatus th = 0) (hadmin : s.adminStatus 0x011 = 0)
    (harr : s.arrExists (s.argArray th) = false) (hcheck : s.createCheck th img = 0) :
    exec (.arrayCreate th) s = .next (s.createBegin th img) := by
  have hchecks : firstStatus [s.imageStatus th, s.adminStatus 0x011, if s.arrExists (s.argArray th) then 0x0322 else 0,
      s.createCheck th img] = 0 := by simp [firstStatus, himage, hadmin, harr, hcheck]
  show execArrayCreate th s = _
  simp only [execArrayCreate, bookStep_at h hstage (by decide), hstage, ← himg, hchecks, ne_eq, not_true_eq_false, if_false]

/-- ARRAY_DELETE ends once no marker is waited for. -/
theorem exec_arrayDelete_ends (h : s.bookReady th 0x012 = true) (hstage : (s.book th).stage = 1)
    (harr : s.arrExists (s.argArray th) = true)
    (hmarkers : s.prk.markerWaits.filter (fun m => m.1 == 32 + s.argArray th && (s.sled m.2).usable) = []) :
    exec (.arrayDelete th) s = .next (s.deleteEnd th (s.argArray th)) := by
  show execArrayDelete th s = _
  simp only [execArrayDelete, bookStep_at h hstage (by decide), hstage, harr, hmarkers, Bool.not_true, Bool.false_eq_true, if_false, if_true]

/-! ### PROG_LOAD and PROG_UNLOAD (R272, R287, R288) -/

/-- PROG_LOAD installs an image that passes step 1 of R272. -/
theorem exec_progLoad_installs {bs : List Byte} (h : s.bookReady th 0x020 = true) (hstage : (s.book th).stage = 1)
    (hbs : bs = s.imageBytes th (bits (s.arg th 2) 0 32)) (himage : s.imageStatus th = 0) (hcheck : s.progCheck th bs = 0) :
    exec (.progLoad th) s = .next (s.progInstall th bs) := by
  have hchecks : firstStatus [s.imageStatus th, s.progCheck th bs] = 0 := by simp [firstStatus, himage, hcheck]
  show execProgLoad th s = _
  simp only [execProgLoad, bookStep_at h hstage (by decide), hstage, ← hbs, hchecks, ne_eq, not_true_eq_false, if_false]

/-- The last step of PROG_LOAD writes the master entry, and the end of the call leaves it (R272 step 5). -/
theorem exec_progLoad_master {e : Word} (h : s.bookReady th 0x020 = true) (hstage : (s.book th).stage = 3)
    (he : e = BitVec.ofNat 64 (s.ptab (s.clusters.headD 0) (s.book th).n)) :
    ∃ t : State, exec (.progLoad th) s = .next t ∧ t.masterEntry (s.book th).n = e.toNat := by
  show ∃ t : State, execProgLoad th s = .next t ∧ _
  simp only [execProgLoad, bookStep_at h hstage (by decide), hstage, ← he]
  refine ⟨_, rfl, ?_⟩
  rw [masterEntry_of_programs_eq ((bookPost_programs ..).trans (retireExtents_programs ..)), State.masterEntry, Tbl.get_set, if_pos rfl]

/-- PROG_UNLOAD clears an index that no shipped program has. -/
theorem exec_progUnload_frees {p : Nat} (h : s.bookReady th 0x021 = true) (hstage : (s.book th).stage = 2)
    (hp : p = bits (s.arg th 1) 0 12) (hshipped : (bookMask p).isSome = false) :
    exec (.progUnload th) s = .next (((s.putCopies p (fun _ => 0)).retireExtents p none).bookPost th 0 0) := by
  show execProgUnload th s = _
  simp only [execProgUnload, bookStep_at h hstage (by decide), hstage, ← hp, hshipped, Bool.false_eq_true, if_false]

/-- PROG_UNLOAD of an index of the Pattern Book puts the shipped entry back, with SWITCHING set. -/
theorem exec_progUnload_restores {p : Nat} (h : s.bookReady th 0x021 = true) (hstage : (s.book th).stage = 2)
    (hp : p = bits (s.arg th 1) 0 12) (hshipped : (bookMask p).isSome = true) :
    exec (.progUnload th) s = .next ((s.putCopies p (fun _ => bookEntry.toNat + 2 ^ 61)).toStage th 3) := by
  show execProgUnload th s = _
  simp only [execProgUnload, bookStep_at h hstage (by decide), hstage, ← hp, hshipped, if_true]

end

/-- The pricking calls, ARRAY_CREATE, ARRAY_DELETE, PROG_LOAD and PROG_UNLOAD (R68, R272, R284 to R288): the second part of O44. -/
theorem engineAndProgramCalls : Claims.EngineAndProgramCalls := by
  intro s th b a slot
  refine ⟨exec_prkLoad_unread, exec_prkLoad_read, fun code result hended => ⟨?_, ?_, ?_, ?_, ?_⟩,
    fun hstage hperm hidle => ⟨?_, ?_, ?_, ?_⟩,
    fun img h hstage himg himage hadmin harr hcheck => exec_arrayCreate_begins h hstage himg himage hadmin harr hcheck,
    exec_arrayDelete_ends,
    fun bs h hstage hbs himage hcheck => exec_progLoad_installs h hstage hbs himage hcheck,
    fun h hstage e he => exec_progLoad_master h hstage he,
    fun p h hstage hp => ⟨exec_progUnload_frees h hstage hp, exec_progUnload_restores h hstage hp⟩⟩
  · exact fun h hstage => exec_prkLoad_ended h hstage hended
  · exact fun h hstage => congrArg _ (prkCall_ended h hstage hended .bind)
  · exact fun h hstage => congrArg _ (prkCall_ended h hstage hended .arm)
  · exact fun h hstage => congrArg _ (prkCall_ended h hstage hended .drop)
  · exact fun h hstage => exec_arrayCreate_ended h hstage hended
  · exact fun h hadmin => congrArg _ (prkCall_passes h hstage hperm hidle hadmin .bind)
  · exact fun h hadmin => congrArg _ (prkCall_passes h hstage hperm hidle hadmin .arm)
  · exact fun h hadmin => congrArg _ (prkCall_passes h hstage hperm hidle hadmin .drop)
  · exact fun h hadmin => congrArg _ (prkCall_fails h hstage hperm hidle hadmin .arm)

/-- Settles O44: the administration calls and their device work, the pricking calls, and the calls that load and unload programs. -/
theorem administrativeCalls : Obligations.AdministrativeCalls := ⟨adminCalls, engineAndProgramCalls⟩

end Sys2Proof.Machine

/-! ## Doorbells and fetch of the submission and completion rings (R291, R296 to R301) -/

namespace Sys2Proof.Machine

/-! ### Doorbells (R291, R296 to R298) -/

section
variable {s : State} {r e : Nat} {value : Word}

/-- A doorbell write through its ring's own endpoint is one of that endpoint, also on a part with a single endpoint (R327). -/
theorem endpoint_of_ringEp (h : s.ringEp r = e) : (if s.bifurcated then e % 2 else 0) = e := by
  subst h
  cases hb : s.bifurcated with
  | false => simp [State.ringEp, hb]
  | true => by_cases hr : 512 ≤ r <;> simp [State.ringEp, hb, hr]

/-- The command SQ_DB of a ring is its doorbell's write. -/
theorem exec_sqDoorbell (hr : r < 1024) (size : Nat) : exec (.sqDoorbell e r size value) s =
    .next (s.doorbell false e r size value (fun s => s.sqDoorbell r value.toNat)) := by
  show execSqDoorbell e r size value s = _
  rw [execSqDoorbell, Nat.mod_eq_of_lt hr]

/-- As exec_sqDoorbell, for CQ_DB. -/
theorem exec_cqDoorbell (hr : r < 1024) (size : Nat) : exec (.cqDoorbell e r size value) s =
    .next (s.doorbell true e r size value (fun s => s.cqDoorbell r value.toNat)) := by
  show execCqDoorbell e r size value s = _
  rw [execCqDoorbell, Nat.mod_eq_of_lt hr]

section
variable (hdown : s.hostDown = false) (hep : s.ringEp r = e) (hopen : (s.ep e).open_ = true)
include hdown hep hopen

/-- Dormant records a doorbell unchecked (R298). -/
theorem doorbell_recorded (h : s.mode.cur = .dormant) (cq : Bool) (act : State → State) :
    s.doorbell cq e r 8 value act = { s with recorder := s.recorder.insert (2 * r + cq.toNat) value } := by
  have he := endpoint_of_ringEp hep
  simp [State.doorbell, he, hdown, hep, hopen, h]

variable (hmode : s.mode.cur ≠ .halted)
include hmode

/-- In any other mode but Halted the doorbell of a submission ring in service takes effect. -/
theorem sqDoorbell_taken (h : s.mode.cur ≠ .dormant) (hen : s.flag (F.SQ_CTL_EN r) = true) (act : State → State) :
    s.doorbell false e r 8 value act = act s := by
  have he := endpoint_of_ringEp hep
  simp [State.doorbell, he, hdown, hmode, hep, hopen, h, hen]

/-- As sqDoorbell_taken, for a completion ring; an in-place ring takes no doorbell (R296). -/
theorem cqDoorbell_taken (h : s.mode.cur ≠ .dormant) (hen : s.flag (F.CQ_CTL_EN r) = true) (hin : s.flag (F.CQ_CTL_INPLACE r) = false)
    (act : State → State) : s.doorbell true e r 8 value act = act s := by
  have he := endpoint_of_ringEp hep
  simp [State.doorbell, he, hdown, hmode, hep, hopen, h, hen, hin]

end

/-- A TAIL that the entries consumed make room for is accepted (R297). -/
theorem sqDoorbell_accepted {v : Nat} (hv : v < 2 * s.sqSize r)
    (hroom : ringSub (s.sqSize r) v (s.sqTail r) ≤ s.sqSize r - ringSub (s.sqSize r) (s.sqTail r) (s.sqHead r)) :
    s.sqDoorbell r v = s.setF (F.SQ_IDX_HOSTIDX r) v := if_pos ⟨hv, hroom⟩

/-- A TAIL that is no index of the ring halts the device (R297). -/
theorem sqDoorbell_beyond {v : Nat} (hv : 2 * s.sqSize r ≤ v) : s.sqDoorbell r v = s.ringHalt 5 false r v :=
  if_neg fun h => absurd h.1 (not_lt_of_ge hv)

/-- A HEAD that does not pass the records written is accepted, and held records leave (R297, R307). -/
theorem cqDoorbell_accepted {v : Nat} (hv : v < 2 * s.cqSize r)
    (hroom : ringSub (s.cqSize r) v (s.cqHead r) ≤ ringSub (s.cqSize r) (s.cqTail r) (s.cqHead r)) :
    s.cqDoorbell r v = (s.setF (F.CQ_IDX_HOSTIDX r) v).holdingFreed r := if_pos ⟨hv, hroom⟩

/-- A HEAD that is no index of the ring halts the device (R297). -/
theorem cqDoorbell_beyond {v : Nat} (hv : 2 * s.cqSize r ≤ v) : s.cqDoorbell r v = s.ringHalt 6 true r v :=
  if_neg fun h => absurd h.1 (not_lt_of_ge hv)

end

/-- The doorbells (R291, R296 to R298): the first part of O21. -/
theorem doorbellResults : Claims.DoorbellResults := by
  intro s r e value hr hdown hmode hep hopen
  rw [exec_sqDoorbell hr, exec_cqDoorbell hr]
  refine ⟨fun h => ⟨fun hen => ?_, fun hen hin => ?_⟩, fun h => ?_⟩
  · rw [sqDoorbell_taken hdown hep hopen hmode h hen]
    exact ⟨fun hv hroom => congrArg _ (sqDoorbell_accepted hv hroom), fun hv => congrArg _ (sqDoorbell_beyond hv)⟩
  · rw [cqDoorbell_taken hdown hep hopen hmode h hen hin]
    exact ⟨fun hv hroom => congrArg _ (cqDoorbell_accepted hv hroom), fun hv => congrArg _ (cqDoorbell_beyond hv)⟩
  · rw [doorbell_recorded hdown hep hopen h, doorbell_recorded hdown hep hopen h]
    exact ⟨rfl, rfl⟩

/-! ### Fetch (R299 to R301) -/

section
variable {s : State} {r i : Nat}

/-- Fetch takes what the ring that is next in order offers. -/
theorem exec_entryFetch (hopen : s.fetchOpen = true)
    (hnext : ((List.range 1024).map (fun k => (s.fetchLast + 1 + k) % 1024)).find? (fun r => decide (0 < s.fetchable r)) = some r) :
    exec .entryFetch s = .next { s.fetchMany r (s.fetchable r) with fetchLast := r } := by
  show execEntryFetch s = _
  simp only [execEntryFetch, hopen, hnext, Bool.not_true, Bool.false_eq_true, if_false]

/-- The end of the read of a ring's oldest outstanding entry frees its tag and is the arrival of the entry. -/
theorem exec_entryFetchComplete {is : List Nat} {e : Nat × HostTag} (hreads : (s.sub r).reads = i :: is)
    (htag : s.hostTags.find? (fun e => e.2.reader == .fetchRing r i && e.2.timedOut.isNone && e.2.xlat.isNone) = some e)
    (res : HostResult) : exec (.entryFetchComplete r res) s =
      .next (State.entryArrived { s with hostTags := s.hostTags.erase e.1 } r i res) := by
  show execEntryFetchComplete r res s = _
  simp only [execEntryFetchComplete, hreads, htag]

/-- The check of an entry does not look at the tags of host reads. -/
theorem entryFault_withHostTags (s : State) (hostTags : Tbl HostTag) (r : Nat) (ws : List Word) :
    State.entryFault { s with hostTags } r ws = s.entryFault r ws := rfl

variable (hi : i ∈ (s.sub r).reads)
include hi

/-- A well-formed entry joins those whose data has come, which are taken in ring order (R299, R301). -/
theorem entryArrived_wellFormed {bs : List Byte} (h : s.entryFault r (entryWords bs) = 0) :
    s.entryArrived r i (.data bs []) = (s.setSub r { s.sub r with
      early := (s.sub r).early ++ [{ index := i, num := 0, words := entryWords bs }] }).takeEarly r 64 := by
  simp [State.entryArrived, hi, h]

/-- A malformed entry halts the device with the MCODE of the condition that it meets (R301). -/
theorem entryArrived_malformed {bs : List Byte} (h : s.entryFault r (entryWords bs) ≠ 0) :
    s.entryArrived r i (.data bs []) = s.ringHalt (s.entryFault r (entryWords bs)) false r i := by
  simp [State.entryArrived, hi, h]

/-- A read that the host does not support halts the device with MCODE 7 (R301). -/
theorem entryArrived_unsupported : s.entryArrived r i .unsupported = (s.satF F.HE_XERR_URCA).ringHalt 7 false r i := by
  simp [State.entryArrived, hi]

end

/-- Fetch and the ends of its reads (R299 to R301): the second part of O21. -/
theorem entryFetchResults : Claims.EntryFetchResults := by
  refine ⟨fun s r hopen hnext => exec_entryFetch hopen hnext, ?_⟩
  intro s r i is e bs hreads htag s0 ws
  have hi : i ∈ (s0.sub r).reads := by
    have hsub : s0.sub r = s.sub r := rfl
    simp [hsub, hreads]
  have hfault : s0.entryFault r ws = s.entryFault r ws := entryFault_withHostTags s _ r ws
  simp only [exec_entryFetchComplete hreads htag]
  refine ⟨fun h => congrArg _ (entryArrived_wellFormed hi (hfault.trans h)), fun h => congrArg _ ?_,
    congrArg _ (entryArrived_unsupported hi)⟩
  rw [← hfault] at h ⊢
  exact entryArrived_malformed hi h

/-- Settles O21: the doorbells by mode and by the check of R297, and the fetch of entries with the ends of its reads. -/
theorem doorbellsAndFetch : Obligations.DoorbellsAndFetch := ⟨doorbellResults, entryFetchResults⟩

end Sys2Proof.Machine

/-! ## Enabling and disabling rings (R310, R311) -/

namespace Sys2Proof.Machine

/-! ### The control registers of the rings (R310) -/

/-- EN as the row writes it. -/
theorem bit_withEn (value : Word) (b : Bool) : bit (withEn value b).toNat 0 = b := by
  rw [withEn, BitVec.toNat_ofNat, bit_mod_two_pow (by decide), bit_putBit_same]

/-- An 8-byte write covers EN. -/
@[simp] theorem bit_writtenMask_eight (off : Nat) : bit (writtenMask off 8) 0 = true := by simp [bit, writtenMask]

/-- It asks of EN what the row says. -/
@[simp] theorem bit_writtenValue_withEn (off : Nat) (value : Word) (b : Bool) : bit (writtenValue off 8 (withEn value b)) 0 = b := by
  rw [writtenValue, if_pos rfl, bit_withEn]

/-- SIZE_LOG2 of a control register that was written is what the write asks for, brought into 4 to 16 (R290, R310). -/
theorem f_storeCtl_size (s : State) {off : Nat} (hoff : off % 8 = 0) (size : Nat) (value : Word) (fixup : Nat → Nat) :
    (s.storeCtl off size value fixup).f ⟨off, 1, 5⟩ = clamp 4 16 (bits (s.stored off size value) 1 5) := by
  have hbase : regBase off = off := by unfold regBase; omega
  have hclamp : clamp 4 16 (bits (s.stored off size value) 1 5) < 2 ^ 5 := by unfold clamp; omega
  have hlow (n : Nat) : bits (n % 2 ^ 64) 1 5 = bits n 1 5 :=
    bits_congr fun k _ hk => by simp only [Nat.testBit_mod_two_pow, (by omega : k < 64), decide_true, Bool.true_and]
  simp only [State.storeCtl, State.f, hbase, reg_setReg_eq, if_true, BitVec.toNat_ofNat, hlow]
  rw [putBit, bits_putBits_of_le 1 5 _ _ (by decide), bits_putBits, Nat.mod_eq_of_lt hclamp]

/-- So the size that it gives is at most 65,536, and S is an index (R290, R291). -/
theorem two_pow_storeCtl_size_lt (s : State) {off : Nat} (hoff : off % 8 = 0) (size : Nat) (value : Word) (fixup : Nat → Nat) :
    2 ^ (s.storeCtl off size value fixup).f ⟨off, 1, 5⟩ < 2 ^ 17 := by
  rw [f_storeCtl_size s hoff]
  refine Nat.pow_lt_pow_right (by decide) ?_
  unfold clamp
  omega

/-- S of a submission ring is an index once its control register has been written. -/
theorem sqSize_storeCtl_lt (s : State) (r size : Nat) (value : Word) (fixup : Nat → Nat) :
    (s.storeCtl (R.SQ_CTL r) size value fixup).sqSize r < 2 ^ 17 :=
  two_pow_storeCtl_size_lt s (by unfold R.SQ_CTL; omega) size value fixup

/-- As sqSize_storeCtl_lt, for a completion ring. -/
theorem cqSize_storeCtl_lt (s : State) (q size : Nat) (value : Word) (fixup : Nat → Nat) :
    (s.storeCtl (R.CQ_CTL q) size value fixup).cqSize q < 2 ^ 17 :=
  two_pow_storeCtl_size_lt s (by unfold R.CQ_CTL; omega) size value fixup

/-- Both indices of a ring, stored one after the other, read back. -/
theorem f_setF_indices (s : State) (off : Nat) {n : Nat} (hn : n < 2 ^ 17) :
    ((s.setF ⟨off, 0, 17⟩ n).setF ⟨off, 32, 17⟩ n).f ⟨off, 0, 17⟩ = n ∧
      ((s.setF ⟨off, 0, 17⟩ n).setF ⟨off, 32, 17⟩ n).f ⟨off, 32, 17⟩ = n := by
  rw [f_setF_of_apart (by simp), f_setF_same _ _ _ (by simp), f_setF_same _ _ _ (by simp), Nat.mod_eq_of_lt hn]
  exact ⟨rfl, rfl⟩

/-! ### Submission rings (R310, R311) -/

/-- An LTR message leaves the register file. -/
theorem ltrSync_bar0 (s : State) : s.ltrSync.bar0 = s.bar0 := by
  refine foldl_keeps State.bar0 _ (fun t e => ?_) _ _
  split
  · simp [apply_ite State.bar0, State.setEp]
  · rfl

section
variable {s : State} {r : Nat} {value : Word}

/-- A taken write of SQ_CTL with EN = 1. -/
theorem exec_sqEnable (hr : r < 1024) (h : s.takesWrite (R.SQ_CTL r) 8 = true) :
    exec (.sqEnable r value) s = .next (s.writeSqCtl r (R.SQ_CTL r) 8 (withEn value true)) := by
  show execSqEnable r value s = _
  rw [execSqEnable, Nat.mod_eq_of_lt hr, gate_of_takesWrite h]

/-- As exec_sqEnable, with EN = 0. -/
theorem exec_sqDisable (hr : r < 1024) (h : s.takesWrite (R.SQ_CTL r) 8 = true) :
    exec (.sqDisable r value) s = .next (s.writeSqCtl r (R.SQ_CTL r) 8 (withEn value false)) := by
  show execSqDisable r value s = _
  rw [execSqDisable, Nat.mod_eq_of_lt hr, gate_of_takesWrite h]

/-- A ring out of service that meets the conditions of R310 comes into service as it is written. -/
theorem writeSqCtl_enable {s1 : State} {off : Nat} (hen : s.flag (F.SQ_CTL_EN r) = false) (hdrain : s.flag (F.SQ_STAT_DRAINING r) = false)
    (hs1 : s1 = s.storeCtl off 8 (withEn value true) id) (hcq : s1.flag (F.CQ_CTL_EN (s1.cqOf r)) = true)
    (hcl : s1.clusterAvail (s1.f (F.SQ_CTL_CLUSTER r)) = true) : s.writeSqCtl r off 8 (withEn value true) = s1.enableSq r := by
  simp [State.writeSqCtl, hen, hdrain, ← hs1, hcq, hcl]

/-- A ring in service whose EN alone is cleared drains (R311). -/
theorem writeSqCtl_disable {off : Nat} (hen : s.flag (F.SQ_CTL_EN r) = true) (hsame : s.ctlDiffers off 8 (withEn value false) = false) :
    s.writeSqCtl r off 8 (withEn value false) = s.disableSq r := by
  simp [State.writeSqCtl, hen, hsame]

/-- Beside SQ_STAT and CQ_STAT, coming into service writes EN and both indices. -/
theorem f_enableSq {y : Field} (hsq : y.off ≠ R.SQ_STAT r) (hcq : ∀ q, y.off ≠ R.CQ_STAT q) : (s.enableSq r).f y =
    (((s.setFlag (F.SQ_CTL_EN r) true).setF (F.SQ_IDX_DEVIDX r) (s.sqSize r)).setF (F.SQ_IDX_HOSTIDX r) (s.sqSize r)).f y := by
  rw [State.enableSq, f_congr y (ltrSync_bar0 _), f_setFlag_of_apart (.inl hsq), State.incF, f_setF_of_apart (.inl (hcq _)),
    f_setF_of_apart (.inl hsq), setSub_f]

/-- SQ_CTL and SQ_IDX are no STAT register. -/
theorem sq_off_ne_stat {off : Nat} (h : off = R.SQ_CTL r ∨ off = R.SQ_IDX r) : off ≠ R.SQ_STAT r ∧ ∀ q, off ≠ R.CQ_STAT q := by
  simp only [R.SQ_CTL, R.SQ_IDX, R.SQ_STAT, R.CQ_STAT] at *
  exact ⟨by omega, fun q => by omega⟩

/-- A ring that came into service is enabled. -/
theorem enableSq_enabled : (s.enableSq r).flag (F.SQ_CTL_EN r) = true := by
  obtain ⟨hsq, hcq⟩ := sq_off_ne_stat (.inl rfl)
  have hidx : R.SQ_CTL r ≠ R.SQ_IDX r := by simp only [R.SQ_CTL, R.SQ_IDX]; omega
  rw [State.flag, f_enableSq hsq hcq, f_setF_of_apart (.inl hidx), f_setF_of_apart (.inl hidx)]
  exact flag_setFlag_same rfl (by simp [F.SQ_CTL_EN]) s true

/-- Its HEAD and its TAIL are S (R291, R310). -/
theorem enableSq_indices (hsize : s.sqSize r < 2 ^ 17) :
    (s.enableSq r).sqHead r = s.sqSize r ∧ (s.enableSq r).sqTail r = s.sqSize r := by
  obtain ⟨hsq, hcq⟩ := sq_off_ne_stat (.inr rfl)
  rw [State.sqHead, State.sqTail, f_enableSq hsq hcq, f_enableSq hsq hcq]
  exact f_setF_indices _ (R.SQ_IDX r) hsize

end

/-! ### Completion rings (R310) -/

/-- What a write of CQ_CTL brings into range beside SIZE_LOG2: COAL_N and COAL_T are at least 1. -/
def cqCtlFix (v : Nat) : Nat := putBits (putBits v 16 8 (max 1 (bits v 16 8))) 32 16 (max 1 (bits v 32 16))

/-- The completion ring comes into service: indices S, nothing held (R291, R310). -/
def State.enableCq (s : State) (q : Nat) : State :=
  (((s.setFlag (F.CQ_CTL_EN q) true).setF (F.CQ_IDX_DEVIDX q) (s.cqSize q)).setF (F.CQ_IDX_HOSTIDX q) (s.cqSize q)).setCpl q
    { cplRingReset 0 with coalN := 0 }

section
variable {s : State} {q : Nat} {value : Word}

/-- A taken write of CQ_CTL with EN = 1. -/
theorem exec_cqEnable (hq : q < 1024) (h : s.takesWrite (R.CQ_CTL q) 8 = true) :
    exec (.cqEnable q value) s = .next (s.writeCqCtl q (R.CQ_CTL q) 8 (withEn value true)) := by
  show execCqEnable q value s = _
  rw [execCqEnable, Nat.mod_eq_of_lt hq, gate_of_takesWrite h]

/-- As exec_cqEnable, with EN = 0. -/
theorem exec_cqDisable (hq : q < 1024) (h : s.takesWrite (R.CQ_CTL q) 8 = true) :
    exec (.cqDisable q value) s = .next (s.writeCqCtl q (R.CQ_CTL q) 8 (withEn value false)) := by
  show execCqDisable q value s = _
  rw [execCqDisable, Nat.mod_eq_of_lt hq, gate_of_takesWrite h]

/-- A ring out of service comes into service as it is written. -/
theorem writeCqCtl_enable {off : Nat} (hen : s.flag (F.CQ_CTL_EN q) = false) :
    s.writeCqCtl q off 8 (withEn value true) = (s.storeCtl off 8 (withEn value true) cqCtlFix).enableCq q := by
  simp only [State.writeCqCtl, bit_writtenMask_eight, bit_writtenValue_withEn, hen]
  rfl

section
variable {off : Nat} (hen : s.flag (F.CQ_CTL_EN q) = true) (hsame : s.ctlDiffers off 8 (withEn value false) = false)
include hen hsame

/-- A ring in service whose EN alone is cleared, with no ring bound and no record held, is out of service. -/
theorem writeCqCtl_disable (hbound : s.f (F.CQ_STAT_BOUND q) = 0) (hhold : s.f (F.CQ_STAT_HOLD q) = 0) :
    s.writeCqCtl q off 8 (withEn value false) = s.setFlag (F.CQ_CTL_EN q) false := by
  simp [State.writeCqCtl, hen, hsame, hbound, hhold]

/-- With rings bound it refuses. -/
theorem writeCqCtl_refuse (hbound : 0 < s.f (F.CQ_STAT_BOUND q)) :
    s.writeCqCtl q off 8 (withEn value false) = s.refuseEn (F.CQ_STAT_SEQERR q) off (withEn value false) := by
  simp [State.writeCqCtl, hen, hsame, hbound]

end

/-- A ring that came into service is enabled. -/
theorem enableCq_enabled : (s.enableCq q).flag (F.CQ_CTL_EN q) = true := by
  have hidx : R.CQ_CTL q ≠ R.CQ_IDX q := by simp only [R.CQ_CTL, R.CQ_IDX]; omega
  rw [State.enableCq, setCpl_flag, flag_setF_of_apart (.inl hidx), flag_setF_of_apart (.inl hidx),
    flag_setFlag_same rfl (by simp [F.CQ_CTL_EN])]

/-- Its size is as before. -/
theorem enableCq_cqSize : (s.enableCq q).cqSize q = s.cqSize q := by
  have hidx : R.CQ_CTL q ≠ R.CQ_IDX q := by simp only [R.CQ_CTL, R.CQ_IDX]; omega
  rw [State.cqSize, State.enableCq, setCpl_f, f_setF_of_apart (.inl hidx), f_setF_of_apart (.inl hidx),
    f_setFlag_of_apart (by simp [F.CQ_CTL_EN, F.CQ_CTL_SIZE_LOG2]), State.cqSize]

/-- Its TAIL and its HEAD are S (R291, R310). -/
theorem enableCq_indices (hsize : s.cqSize q < 2 ^ 17) :
    (s.enableCq q).cqTail q = s.cqSize q ∧ (s.enableCq q).cqHead q = s.cqSize q := by
  rw [State.cqTail, State.cqHead, State.enableCq, setCpl_f, setCpl_f]
  exact f_setF_indices _ (R.CQ_IDX q) hsize

/-- It holds no record. -/
theorem enableCq_holding : ((s.enableCq q).cpl q).holding = [] := by
  rw [State.enableCq, cpl_setCpl, if_pos rfl]
  rfl

end

/-- Settles O23: the writes of SQ_CTL and CQ_CTL with EN, and what a ring that came into service reads as. -/
theorem ringEnableDisable : Obligations.RingEnableDisable := by
  intro s r value hr
  refine ⟨fun htakes => ⟨?_, ?_⟩, fun htakes => ⟨?_, ?_⟩⟩
  · intro hen hdrain s1 hs1 hcq hcl
    have hsize : s1.sqSize r < 2 ^ 17 := hs1 ▸ sqSize_storeCtl_lt s r 8 _ id
    rw [exec_sqEnable hr htakes, writeSqCtl_enable hen hdrain hs1 hcq hcl]
    exact ⟨rfl, enableSq_enabled, enableSq_indices hsize⟩
  · intro hen hsame
    rw [exec_sqDisable hr htakes, writeSqCtl_disable hen hsame]
  · intro hen
    refine ⟨_, (exec_cqEnable hr htakes).trans (congrArg _ (writeCqCtl_enable hen)), enableCq_enabled, ?_⟩
    rw [enableCq_cqSize]
    obtain ⟨htail, hhead⟩ := enableCq_indices (cqSize_storeCtl_lt s r 8 (withEn value true) cqCtlFix)
    exact ⟨htail, hhead, enableCq_holding⟩
  · intro hen hsame
    rw [exec_cqDisable hr htakes]
    exact ⟨fun hbound hhold => congrArg _ (writeCqCtl_disable hen hsame hbound hhold),
      fun hbound => congrArg _ (writeCqCtl_refuse hen hsame hbound)⟩

end Sys2Proof.Machine

/-! ## Shuttle DMA (R313 to R325) -/

namespace Sys2Proof.Machine

/-! ### What a channel's command leaves alone -/

/-- Another register stored leaves a field. -/
theorem f_setReg_of_ne {off : Nat} {x : Field} (h : x.off ≠ off) (s : State) (w : Word) : (s.setReg off w).f x = s.f x := by
  rw [State.f, reg_setReg_eq, if_neg h, State.f]

/-- A branch reads as the side taken. -/
theorem reg_ite (c : Prop) [Decidable c] (s t : State) (off : Nat) :
    (if c then s else t).reg off = if c then s.reg off else t.reg off := apply_ite (State.reg · off) c s t

/-- The error log is no register. -/
theorem withElog_reg (s : State) (elog : ErrorLog) (off : Nat) : State.reg { s with elog } off = s.reg off := rfl

/-- Bytes written to DRAM leave the channels and the tags of host reads. -/
theorem dramWrite_chan (s : State) (addr : Nat) (bs : List Byte) (n : Nat) : (s.dramWrite addr bs).chan n = s.chan n := rfl
theorem dramWrite_hostTags (s : State) (addr : Nat) (bs : List Byte) : (s.dramWrite addr bs).hostTags = s.hostTags := rfl

/-- What DRAM holds after a write. -/
theorem dramWrite_dram (s : State) (addr : Nat) (bs : List Byte) : (s.dramWrite addr bs).dram = s.dram.writeBytes addr bs := rfl

/-- A field stored leaves the channels. -/
theorem setF_chan (s : State) (x : Field) (v n : Nat) : (s.setF x v).chan n = s.chan n := rfl

/-- An MSI-X message leaves the register file. -/
theorem msixDue_bar0 (s : State) (e v : Nat) : (s.msixDue e v).bar0 = s.bar0 := by
  simp [State.msixDue, State.setEp, apply_ite State.bar0]

/-- A PME leaves the register file. -/
theorem pmeCheck_bar0 (s : State) (e : Nat) : (s.pmeCheck e).bar0 = s.bar0 := by fun_cases State.pmeCheck s e <;> rfl

/-- A device event writes DEV_EVT alone (R463, R470). -/
theorem reg_raiseEvent {off : Nat} (hevt : off ≠ R.DEV_EVT) (s : State) (i : Nat) : (s.raiseEvent i).reg off = s.reg off := by
  unfold State.raiseEvent
  split
  · rfl
  · rw [State.reg, foldl_keeps State.bar0 _ (fun t e => by rw [pmeCheck_bar0, msixDue_bar0]), ← State.reg, reg_setReg_eq, if_neg hevt]

/-- An error log record writes ELOG_STAT, and DEV_EVT where it raises the error log's event (R443). -/
theorem reg_logRec {off : Nat} (hevt : off ≠ R.DEV_EVT) (hlog : off ≠ R.ELOG_STAT) (s : State) (cls src unit code addr : Nat)
    (detail : BitVec 256) : (s.logRec cls src unit code addr detail).reg off = s.reg off := by
  have hset {x : Field} (hx : x.off = R.ELOG_STAT) (t : State) (v : Nat) : (t.setF x v).reg off = t.reg off :=
    reg_setF_ne t x v off (hx ▸ hlog)
  have hflag {x : Field} (hx : x.off = R.ELOG_STAT) (t : State) (b : Bool) : (t.setFlag x b).reg off = t.reg off := hset hx t b.toNat
  simp only [State.logRec, State.logRecAt, reg_ite, reg_raiseEvent hevt, hset (x := F.ELOG_STAT_COUNT) rfl,
    hset (x := F.ELOG_STAT_NEWSEQ) rfl, hflag (x := F.ELOG_STAT_WRAP) rfl, hflag (x := F.ELOG_STAT_EVT) rfl, withElog_reg, ite_self]

/-- A host read leaves the channels. -/
theorem hostRead_sht (s : State) (e : Nat) (rd : Reader) (addr len : Nat) (ats : Bool) : (s.hostRead e rd addr len ats).1.sht = s.sht := by
  unfold State.hostRead
  split
  · rfl
  · simp [apply_ite State.sht, State.xlatTouch]

/-- What a channel asks of the host leaves the channels. -/
theorem shtAsk_chan (s : State) (n : Nat) (d : ShtDesc) (k : Nat) : (s.shtAsk n d).chan k = s.chan k := by
  unfold State.shtAsk
  split
  · rw [State.chan, hostRead_sht, State.chan]
  · rfl

/-! ### GO (R315, R316) -/

/-- The channel is ACTIVE with a descriptor whose first unit is due: position 0, CFG shown, nothing queued (R316). -/
def State.shtActivated (s : State) (n : Nat) (d : ShtDesc) : State :=
  ((((s.setF (F.SHT_CH_STAT_STATE n) 1).setFlag (F.SHT_CH_STAT_QUEUED n) false).setReg (R.SHT_CH_ACTCFG n)
    (BitVec.ofNat 64 d.cfg)).setReg (R.SHT_CH_POS n) 0).setChan n { shtReset n with active := some d }

theorem shtStart_eq (s : State) (n : Nat) (d : ShtDesc) : s.shtStart n d = (s.shtActivated n d).shtNext n d := rfl

theorem shtActivated_state (s : State) (n : Nat) (d : ShtDesc) : (s.shtActivated n d).f (F.SHT_CH_STAT_STATE n) = 1 := by
  have hcfg : R.SHT_CH_STAT n ≠ R.SHT_CH_ACTCFG n := by simp only [R.SHT_CH_STAT, R.SHT_CH_ACTCFG]; omega
  have hpos : R.SHT_CH_STAT n ≠ R.SHT_CH_POS n := by simp only [R.SHT_CH_STAT, R.SHT_CH_POS]; omega
  rw [State.shtActivated, setChan_f, f_setReg_of_ne hpos, f_setReg_of_ne hcfg,
    f_setFlag_of_apart (.inr (.inl (by simp [F.SHT_CH_STAT_STATE, F.SHT_CH_STAT_QUEUED]))),
    f_setF_same _ _ _ (by simp [F.SHT_CH_STAT_STATE])]
  rfl

theorem shtActivated_pos (s : State) (n : Nat) (d : ShtDesc) : (s.shtActivated n d).reg (R.SHT_CH_POS n) = 0 := by
  rw [State.shtActivated, setChan_reg, reg_setReg_eq, if_pos rfl]

theorem shtActivated_actcfg (s : State) (n : Nat) (d : ShtDesc) :
    (s.shtActivated n d).reg (R.SHT_CH_ACTCFG n) = BitVec.ofNat 64 d.cfg := by
  have hpos : R.SHT_CH_ACTCFG n ≠ R.SHT_CH_POS n := by simp only [R.SHT_CH_ACTCFG, R.SHT_CH_POS]; omega
  rw [State.shtActivated, setChan_reg, reg_setReg_eq, if_neg hpos, reg_setReg_eq, if_pos rfl]

theorem shtActivated_chan (s : State) (n : Nat) (d : ShtDesc) :
    (s.shtActivated n d).chan n = { active := some d, queued := none, retries := 0, data := none, diff := none } := by
  rw [State.shtActivated, chan_setChan, if_pos rfl]
  rfl

/-- A start touches the register file and the channels only. -/
theorem shtActivated_restored (s : State) (n : Nat) (d : ShtDesc) : { s.shtActivated n d with bar0 := s.bar0, sht := s.sht } = s := by
  simp [State.shtActivated]

/-- A taken write of SHT_CHn_GO with GO set is a GO. -/
theorem exec_shuttleGo {s : State} {n size : Nat} {value : Word} (hn : n < 32) (h : s.takesCmd (R.SHT_CH_GO n) size = true)
    (hgo : value.toNat % 2 = 1) : exec (.shuttleGo n size value) s = .next (s.shtGo n) := by
  have hoff : R.SHT_CH_GO n % 8 = 0 := by unfold R.SHT_CH_GO; omega
  obtain ⟨-, hsize⟩ := takesWrite_of_takesCmd h
  have hbit : bit (writtenValue (R.SHT_CH_GO n) size value) 0 = true := by
    rw [bit_writtenValue_low hoff hsize value (by decide)]
    simp [bit, hgo]
  show execShuttleGo n size value s = _
  rw [execShuttleGo, Nat.mod_eq_of_lt hn, command_of_takesCmd h hoff, if_pos hbit]

section
variable {s : State} {n : Nat}

/-- A descriptor that passes its checks starts on an idle channel. -/
theorem shtGo_idle (hcheck : s.shtCheck n (s.shtShadow n) = 0) (hidle : s.f (F.SHT_CH_STAT_STATE n) = 0) :
    s.shtGo n = (s.shtActivated n (s.shtShadow n)).shtNext n (s.shtShadow n) := by
  simp [State.shtGo, hcheck, hidle, shtStart_eq]

/-- Behind an active one it is queued. -/
theorem shtGo_active (hcheck : s.shtCheck n (s.shtShadow n) = 0) (hactive : s.f (F.SHT_CH_STAT_STATE n) = 1) :
    s.shtGo n = (s.setFlag (F.SHT_CH_STAT_QUEUED n) true).setChan n { s.chan n with queued := some (s.shtShadow n) } := by
  simp [State.shtGo, hcheck, hactive]

/-- One that fails a check is refused. -/
theorem shtGo_refused (hcheck : s.shtCheck n (s.shtShadow n) ≠ 0) : s.shtGo n =
    ((s.setFlag (F.SHT_CH_STAT_SEQERR n) true).setF (F.SHT_CH_STAT_ECODE n) (s.shtCheck n (s.shtShadow n))).regNotice 3
      (R.SHT_CH_GO n) 1 (s.shtCheck n (s.shtShadow n)) := by
  simp [State.shtGo, hcheck]

/-- A unit that needs no host access cannot be denied one. -/
theorem shtDenied_of_local {d : ShtDesc} (hneeds : s.shtNeeds n d = none) : s.shtDenied n d = none := by
  simp [State.shtDenied, hneeds]

/-- A unit within its windows that needs no host access asks for nothing. -/
theorem shtNext_of_local {d : ShtDesc} (hgood : s.shtUnitBad d (s.f (F.SHT_CH_POS_POS n)) = false) (hneeds : s.shtNeeds n d = none) :
    s.shtNext n d = s := by
  simp [State.shtNext, hgood, shtDenied_of_local hneeds, State.shtAsk, hneeds]

end

/-- GO (R315, R316): the first part of O24. -/
theorem shuttleGoResults : Claims.ShuttleGoResults := by
  intro s n size value hn htakes hgo
  simp only [exec_shuttleGo hn htakes hgo]
  refine ⟨fun hcheck hidle => ?_, shtNext_of_local, fun hcheck hactive => congrArg _ (shtGo_active hcheck hactive), ?_⟩
  · exact ⟨_, congrArg _ (shtGo_idle hcheck hidle), shtActivated_state s n _, shtActivated_pos s n _, shtActivated_actcfg s n _,
      shtActivated_chan s n _, shtActivated_restored s n _⟩
  · rintro e rfl hfails
    exact congrArg _ (shtGo_refused hfails)

/-! ### The units of a transfer (R313, R317, R318) -/

section
variable {s : State} {n : Nat} {d : ShtDesc} (hactive : (s.chan n).active = some d)
include hactive

/-- Nothing moves where the position has reached the end asked for, or the data comes from the host. -/
theorem shtAdvance_stays {upto : Nat} (h : min upto d.len ≤ s.f (F.SHT_CH_POS_POS n) ∨ d.hostReads = true) (k : Nat) :
    s.shtAdvance n upto k = s := by
  cases k with
  | zero => rfl
  | succ k => rcases h with h | h <;> simp [State.shtAdvance, hactive, h]

/-- The unit of a FILL to DRAM that lies within windows moves, and the channel goes on. -/
theorem shtAdvance_fill {upto k : Nat} (hop : d.op = 2) (hds : d.ds = 2) (hdiff : (s.chan n).diff = none)
    (hleft : s.f (F.SHT_CH_POS_POS n) < min upto d.len) (hgood : s.shtUnitBad d (s.f (F.SHT_CH_POS_POS n)) = false) :
    s.shtAdvance n upto (k + 1) = (s.shtUnit n d none).shtAdvance n upto k := by
  have hneeds : s.shtNeeds n d = none := by simp [State.shtNeeds, ShtDesc.reads, hop, hds]
  have hgoes : ¬ (min upto d.len ≤ s.f (F.SHT_CH_POS_POS n) ∨ d.hostReads = true ∨ (s.chan n).diff.isSome = true ∨
      s.shtNoTag n d = true) := by
    simp [Nat.not_le.mpr hleft, hdiff, ShtDesc.hostReads, ShtDesc.reads, hop, State.shtNoTag, hds]
  have hpoison (pos len : Nat) : s.shtPoison d pos len = none := by simp [State.shtPoison, ShtDesc.reads, hop]
  simp only [State.shtAdvance, hactive, if_neg hgoes, hgood, shtDenied_of_local hneeds, hpoison]
  simp

end

/-- The words of a FILL's unit of 4 KiB (R313). -/
def ShtDesc.fillBytes (d : ShtDesc) : List Byte := (List.range 512).flatMap (fun _ => leBytes 8 d.pat.toNat)

section
variable {s : State} {n : Nat} {d : ShtDesc} (hop : d.op = 2) (hds : d.ds = 2) (hlen : d.len = 4096)
  (hpos : s.f (F.SHT_CH_POS_POS n) = 0)
include hop hds hlen hpos

/-- The first unit of a FILL of one unit: its pattern in DRAM, the position at its end. -/
theorem shtUnit_fill : s.shtUnit n d none =
    ((s.setChan n { s.chan n with data := none, retries := 0 }).dramWrite d.dst d.fillBytes).setF (F.SHT_CH_POS_POS n) 4096 := by
  simp [State.shtUnit, State.shtWrite, State.shtSource, shtUnitLen, ShtDesc.fillBytes, hop, hds, hlen, hpos]

theorem shtUnit_fill_pos : (s.shtUnit n d none).f (F.SHT_CH_POS_POS n) = 4096 := by
  rw [shtUnit_fill hop hds hlen hpos, f_setF_same _ _ _ (by simp [F.SHT_CH_POS_POS])]
  rfl

theorem shtUnit_fill_chan : (s.shtUnit n d none).chan n = { s.chan n with data := none, retries := 0 } := by
  rw [shtUnit_fill hop hds hlen hpos]
  rw [setF_chan, dramWrite_chan, chan_setChan, if_pos rfl]

theorem shtUnit_fill_dram : (s.shtUnit n d none).dram = (s.dramWrite d.dst d.fillBytes).dram := by
  rw [shtUnit_fill hop hds hlen hpos, setF_dram, dramWrite_dram, dramWrite_dram, setChan_dram]

theorem shtUnit_fill_hostTags : (s.shtUnit n d none).hostTags = s.hostTags := by
  rw [shtUnit_fill hop hds hlen hpos, setF_hostTags, dramWrite_hostTags, setChan_hostTags]

end

/-! ### Completion (R318) -/

/-- The channel counts a descriptor, shows DONE and is IDLE. -/
def State.shtCounted (s : State) (n : Nat) : State :=
  (((s.incF (F.SHT_CH_STAT_DONE_CNT n)).setFlag (F.SHT_CH_STAT_DONE n) true).setF (F.SHT_CH_STAT_STATE n) 0).setChan n (shtReset n)

theorem shtCounted_state (s : State) (n : Nat) : (s.shtCounted n).f (F.SHT_CH_STAT_STATE n) = 0 := by
  rw [State.shtCounted, setChan_f, f_setF_same _ _ _ (by simp [F.SHT_CH_STAT_STATE]), Nat.zero_mod]

theorem shtCounted_done (s : State) (n : Nat) : (s.shtCounted n).flag (F.SHT_CH_STAT_DONE n) = true := by
  rw [State.shtCounted, setChan_flag, flag_setF_of_apart (.inr (.inr (by simp [F.SHT_CH_STAT_STATE, F.SHT_CH_STAT_DONE]))),
    flag_setFlag_same rfl (by simp [F.SHT_CH_STAT_DONE])]

theorem shtCounted_dram (s : State) (n : Nat) : (s.shtCounted n).dram = s.dram := rfl

theorem shtCounted_active (s : State) (n : Nat) : ((s.shtCounted n).chan n).active = none := by
  rw [State.shtCounted, chan_setChan, if_pos rfl]
  rfl

section
variable {s : State} {n : Nat} {d : ShtDesc}

/-- A descriptor that is no COMPARE, asks for no signal and has none behind it leaves its channel idle. -/
theorem shtDone_unqueued (hop : d.op ≠ 3) (hirq : d.irq = false) (hqueued : (s.chan n).queued = none) :
    s.shtDone n d = s.shtCounted n := by
  simp only [State.shtDone, if_neg hop, hirq, hqueued, Bool.false_eq_true, if_false]
  rfl

/-- A FILL of one unit to DRAM writes its pattern and completes. -/
theorem exec_shuttleComplete_fill (hactive : (s.chan n).active = some d) (hqueued : (s.chan n).queued = none) (hop : d.op = 2)
    (hds : d.ds = 2) (hlen : d.len = 4096) (hirq : d.irq = false) (hdiff : (s.chan n).diff = none)
    (hpos : s.f (F.SHT_CH_POS_POS n) = 0) (hgood : s.shtUnitBad d 0 = false) (htags : s.hostTags = []) :
    exec (.shuttleComplete n) s = .next ((s.shtUnit n d none).shtCounted n) := by
  have hchan := shtUnit_fill_chan hop hds hlen hpos
  have hend := shtUnit_fill_pos hop hds hlen hpos
  have hactive' : ((s.shtUnit n d none).chan n).active = some d := by rw [hchan]; exact hactive
  have hmoved : s.shtAdvance n d.len (shtRounds d) = s.shtUnit n d none := by
    rw [shtRounds, shtAdvance_fill hactive hop hds hdiff (by rw [hpos, hlen]; decide) (hpos ▸ hgood),
      shtAdvance_stays hactive' (.inl (by rw [hend, hlen, min_self]))]
  have hfree : (s.shtUnit n d none).shtTags n = false := by rw [State.shtTags, shtUnit_fill_hostTags hop hds hlen hpos, htags]; rfl
  have hdone : ((s.shtUnit n d none).chan n).active = some d ∧
      (d.len ≤ (s.shtUnit n d none).f (F.SHT_CH_POS_POS n) ∨ ((s.shtUnit n d none).chan n).diff.isSome = true) ∧
      (!(s.shtUnit n d none).shtTags n) = true := ⟨hactive', .inl (by rw [hend, hlen]), by rw [hfree]; rfl⟩
  show execShuttleComplete n s = _
  simp only [execShuttleComplete, hactive, hmoved, if_pos hdone]
  exact congrArg _ (shtDone_unqueued (by rw [hop]; decide) hirq (by rw [hchan]; exact hqueued))

/-! ### Bus errors (R319, R320) -/

/-- A channel whose data comes from the host meets a bus error where it stands. -/
theorem exec_shuttleBusError {pos addr : Nat} (hactive : (s.chan n).active = some d) (hhost : d.hostReads = true) :
    exec (.shuttleBusError n pos addr) s = .next (s.shtBusError n addr) := by
  show execShuttleBusError n pos addr s = _
  simp only [execShuttleBusError, hactive, shtAdvance_stays hactive (.inr hhost)]

/-- In Active it stops every active channel. -/
theorem shtBusError_active {addr : Nat} (hactive : (s.chan n).active = some d) (hmode : s.mode.cur = .active) :
    s.shtBusError n addr = s.shtAllStop n addr := by
  simp only [State.shtBusError, hactive, hmode]

/-- In Maintenance, with no retry left or on an access that cannot be made, it halts the channel. -/
theorem shtBusError_halts {addr : Nat} (hactive : (s.chan n).active = some d) (hmode : s.mode.cur = .maintenance)
    (h : s.f F.SHT_RETRY_COUNT ≤ (s.chan n).retries ∨ (s.shtDenied n d).isSome = true) : s.shtBusError n addr =
      (((s.shtEnd n 2 8).setReg (R.SHT_CH_EADDR n) (BitVec.ofNat 64 addr)).setF (F.SHT_CH_STAT_RETRIES n)
        (s.f F.SHT_RETRY_COUNT)).shtEvent := by
  have hno : ¬ (decide ((s.chan n).retries < s.f F.SHT_RETRY_COUNT) && (s.shtDenied n d).isNone) = true := by
    rcases h with h | h
    · simp [h]
    · simp [Option.isSome_iff_ne_none.mp h]
  simp only [State.shtBusError, hactive, hmode, if_neg hno]

/-- With a retry left it makes the access again. -/
theorem shtBusError_retries {addr : Nat} (hactive : (s.chan n).active = some d) (hmode : s.mode.cur = .maintenance)
    (hleft : (s.chan n).retries < s.f F.SHT_RETRY_COUNT) (hdenied : s.shtDenied n d = none) : s.shtBusError n addr =
      ((s.setF (F.SHT_CH_STAT_RETRIES n) ((s.chan n).retries + 1)).setChan n
        { s.chan n with retries := (s.chan n).retries + 1 }).shtAsk n d := by
  simp only [State.shtBusError, hactive, hmode, hleft, hdenied]
  simp

/-- An all-stop shows in SHT_STAT (R320). -/
theorem shtAllStop_allstop (s : State) (n addr : Nat) : (s.shtAllStop n addr).flag F.SHT_STAT_ALLSTOP = true := by
  have hlogged (t : State) : ((t.logDeferred 1 n 0 addr).shtEvent).flag F.SHT_STAT_ALLSTOP = t.flag F.SHT_STAT_ALLSTOP := by
    rw [State.shtEvent, State.flag, State.f, reg_raiseEvent (by decide), State.logDeferred, bumpFree_reg,
      reg_logRec (by decide) (by decide), ← State.f, ← State.flag]
  rw [State.shtAllStop, hlogged, flag_setF_of_apart (.inr (.inl (by decide))), flag_setFlag_same rfl (by decide)]

/-! ### Window halts (R321) -/

/-- A channel whose first unit lies outside valid windows halts where it stands. -/
theorem exec_shuttleWindowHalt_first (hactive : (s.chan n).active = some d) (hbad : s.shtUnitBad d 0 = true) (hlen : 0 < d.len)
    (hpos : s.f (F.SHT_CH_POS_POS n) = 0) : exec (.shuttleWindowHalt n) s = .next ((s.shtEnd n 2 7).shtEvent) := by
  have hfirst : ((List.range (d.len / 4096 + 1)).map (fun k => 4096 * k)).find? (fun p =>
      decide (s.f (F.SHT_CH_POS_POS n) ≤ p ∧ p < d.len) && s.shtUnitBad d p) = some 0 := by
    rw [List.range_succ_eq_map]
    simp [hpos, hlen, hbad]
  show execShuttleWindowHalt n s = _
  simp only [execShuttleWindowHalt, hactive, hfirst,
    shtAdvance_stays hactive (.inl (by rw [Nat.zero_min]; exact Nat.zero_le _) : min 0 d.len ≤ _ ∨ _), if_true]

end

/-- Completion, bus errors and window halts (R313, R318 to R321): the second part of O24. -/
theorem shuttleEnds : Claims.ShuttleEnds := by
  refine ⟨?_, ?_, fun s n d _ hactive hbad hlen hpos => exec_shuttleWindowHalt_first hactive hbad hlen hpos⟩
  · intro s n d _ hactive hqueued hop hds hlen hirq hdiff hpos hgood htags
    exact ⟨_, exec_shuttleComplete_fill hactive hqueued hop hds hlen hirq hdiff hpos hgood htags, shtCounted_state _ n,
      shtCounted_done _ n, shtCounted_active _ n, (shtCounted_dram _ n).trans (shtUnit_fill_dram hop hds hlen hpos)⟩
  · intro s n pos addr d _ hactive hhost
    rw [exec_shuttleBusError hactive hhost]
    refine ⟨fun hmode h => congrArg _ (shtBusError_halts hactive hmode h), fun hmode hleft hdenied => ?_, fun hmode =>
      ⟨congrArg _ (shtBusError_active hactive hmode), shtAllStop_allstop s n addr⟩⟩
    refine ⟨_, congrArg _ (shtBusError_retries hactive hmode hleft hdenied), ?_⟩
    rw [shtAsk_chan, chan_setChan, if_pos rfl]
    exact ⟨hactive, rfl⟩

/-- Settles O24: GO, the completion of a FILL, bus errors and window halts. -/
theorem shuttleCommands : Obligations.ShuttleCommands := ⟨shuttleGoResults, shuttleEnds⟩

/-! ### The return to IDLE (R323) -/

/-- A STOPPED channel returns to IDLE. -/
def State.shtUnstop (s : State) (k : Nat) : State :=
  if s.f (F.SHT_CH_STAT_STATE k) = 3 then s.setF (F.SHT_CH_STAT_STATE k) 0 else s

theorem allstopClear_eq (s : State) : s.allstopClear = (List.range 32).foldl State.shtUnstop (s.setFlag F.SHT_STAT_ALLSTOP false) := rfl

theorem shtStat_inj {n k : Nat} (h : R.SHT_CH_STAT n = R.SHT_CH_STAT k) : n = k := by
  simp only [R.SHT_CH_STAT] at h
  omega

theorem shtUnstop_chan (s : State) (k n : Nat) : (s.shtUnstop k).chan n = s.chan n := by
  unfold State.shtUnstop
  split <;> rfl

/-- SHT_STAT is no channel's register. -/
theorem shtUnstop_allstop (s : State) (k : Nat) : (s.shtUnstop k).flag F.SHT_STAT_ALLSTOP = s.flag F.SHT_STAT_ALLSTOP := by
  have hoff : R.SHT_STAT ≠ R.SHT_CH_STAT k := by simp only [R.SHT_STAT, R.SHT_CH_STAT]; omega
  unfold State.shtUnstop
  split
  · exact flag_setF_of_apart (.inl hoff) s 0
  · rfl

theorem shtUnstop_state (s : State) (k n : Nat) : (s.shtUnstop k).f (F.SHT_CH_STAT_STATE n) =
    if n = k ∧ s.f (F.SHT_CH_STAT_STATE n) = 3 then 0 else s.f (F.SHT_CH_STAT_STATE n) := by
  unfold State.shtUnstop
  rcases eq_or_ne n k with rfl | hnk
  · split
    · next h => rw [if_pos ⟨rfl, h⟩, f_setF_same _ _ _ (by simp [F.SHT_CH_STAT_STATE]), Nat.zero_mod]
    · next h => rw [if_neg fun h' => h h'.2]
  · have hoff : R.SHT_CH_STAT n ≠ R.SHT_CH_STAT k := mt shtStat_inj hnk
    split
    · rw [if_neg fun h => hnk h.1]
      exact f_setF_of_apart (.inl hoff) s 0
    · rw [if_neg fun h => hnk h.1]

/-- A channel that is not STOPPED keeps its register. -/
theorem reg_shtUnstop {s : State} {n : Nat} (h : s.f (F.SHT_CH_STAT_STATE n) ≠ 3) (k : Nat) :
    (s.shtUnstop k).reg (R.SHT_CH_STAT n) = s.reg (R.SHT_CH_STAT n) := by
  unfold State.shtUnstop
  split
  · next hk => exact reg_setF_ne _ _ _ _ fun heq => h (shtStat_inj heq ▸ hk)
  · rfl

/-- Each channel of a list that is STOPPED is IDLE, and every other is in its state. -/
theorem foldl_shtUnstop_state (l : List Nat) (s : State) (n : Nat) : (l.foldl State.shtUnstop s).f (F.SHT_CH_STAT_STATE n) =
    if n ∈ l ∧ s.f (F.SHT_CH_STAT_STATE n) = 3 then 0 else s.f (F.SHT_CH_STAT_STATE n) := by
  induction l generalizing s with
  | nil => simp
  | cons k l ih =>
    rw [List.foldl_cons, ih, shtUnstop_state]
    rcases eq_or_ne n k with rfl | hnk
    · by_cases h : s.f (F.SHT_CH_STAT_STATE n) = 3 <;> simp [h]
    · simp [hnk]

theorem reg_foldl_shtUnstop (l : List Nat) {s : State} {n : Nat} (h : s.f (F.SHT_CH_STAT_STATE n) ≠ 3) :
    (l.foldl State.shtUnstop s).reg (R.SHT_CH_STAT n) = s.reg (R.SHT_CH_STAT n) := by
  induction l generalizing s with
  | nil => rfl
  | cons k l ih =>
    have hk : (s.shtUnstop k).f (F.SHT_CH_STAT_STATE n) ≠ 3 := by rwa [shtUnstop_state, if_neg fun h' => h h'.2]
    rw [List.foldl_cons, ih hk, reg_shtUnstop h]

/-- A taken write of 1 to ALLSTOP. -/
theorem exec_allstopClear {s : State} {size : Nat} {value : Word} (h : s.takesWrite R.SHT_STAT size = true)
    (hbit : bit value.toNat 0 = true) : exec (.allstopClear size value) s = .next s.allstopClear := by
  obtain ⟨-, -, hsize, -, -⟩ := (takesWrite_iff s _ _).mp h
  show execAllstopClear size value s = _
  rw [execAllstopClear, gate_of_takesWrite h, bit_writtenValue_low (by decide) hsize value (by decide), if_pos hbit]

/-- A taken write of 1 to a HALTED channel's ERR bit stores its bits, and the channel is IDLE. -/
theorem exec_channelErrClear_halted {s : State} {n size : Nat} {value : Word} (hn : n < 32)
    (h : s.takesWrite (R.SHT_CH_STAT n) size = true) (hbit : bit value.toNat 5 = true) (hhalted : s.f (F.SHT_CH_STAT_STATE n) = 2) :
    exec (.channelErrClear n size value) s =
      .next ((s.storeReg (R.SHT_CH_STAT n) size value).setF (F.SHT_CH_STAT_STATE n) 0) := by
  have hoff : R.SHT_CH_STAT n % 8 = 0 := by unfold R.SHT_CH_STAT; omega
  obtain ⟨-, -, hsize, -, -⟩ := (takesWrite_iff s _ _).mp h
  have hmask : bit (writtenMask (R.SHT_CH_STAT n) size) 5 = true := by
    rcases hsize with rfl | rfl <;> simp [bit, writtenMask, hoff]
  have herr : bit (writtenValue (R.SHT_CH_STAT n) size value &&& writtenMask (R.SHT_CH_STAT n) size) 5 = true := by
    rw [bit_eq_testBit, Nat.testBit_and, ← bit_eq_testBit, ← bit_eq_testBit, bit_writtenValue_low hoff hsize value (by decide), hbit,
      hmask]
    rfl
  show execChannelErrClear n size value s = _
  rw [execChannelErrClear, Nat.mod_eq_of_lt hn, gate_of_takesWrite h]
  simp [State.writeShtStat, herr, hhalted]

/-- Settles O25: a HALTED channel leaves its state by its ERR bit, the STOPPED ones by ALLSTOP, which leaves the HALTED as they are. -/
theorem shuttleReturnToIdle : Obligations.ShuttleReturnToIdle := by
  refine ⟨fun s n size value hn htakes hbit hhalted => ?_, fun s size value htakes hbit => ?_⟩
  · refine ⟨_, exec_channelErrClear_halted hn htakes hbit hhalted, ?_⟩
    rw [f_setF_same _ _ _ (by simp [F.SHT_CH_STAT_STATE]), Nat.zero_mod]
  · have hother (n : Nat) : R.SHT_CH_STAT n ≠ R.SHT_STAT := by simp only [R.SHT_CH_STAT, R.SHT_STAT]; omega
    have hstate (n : Nat) : (s.setFlag F.SHT_STAT_ALLSTOP false).f (F.SHT_CH_STAT_STATE n) = s.f (F.SHT_CH_STAT_STATE n) :=
      f_setFlag_of_apart (.inl (hother n)) s false
    refine ⟨_, exec_allstopClear htakes hbit, ?_, fun n hn => ⟨?_, fun hhalted => ⟨?_, ?_⟩⟩⟩
    · rw [allstopClear_eq, foldl_keeps (State.flag · F.SHT_STAT_ALLSTOP) _ shtUnstop_allstop, flag_setFlag_same rfl (by decide)]
    · rw [allstopClear_eq, foldl_shtUnstop_state, hstate]
      simp [hn]
    · rw [allstopClear_eq, reg_foldl_shtUnstop _ (by rw [hstate, hhalted]; decide)]
      exact reg_setF_ne s _ _ _ (hother n)
    · rw [allstopClear_eq, foldl_keeps (State.chan · n) _ (fun t k => shtUnstop_chan t k n)]
      rfl

end Sys2Proof.Machine

/-! ## BAR2 windows (R330 to R335, R344) -/

namespace Sys2Proof.Machine

/-! ### Accesses -/

section
variable {s : State} {ep off reqid : Nat} (hdown : s.hostDown = false) (hopen : (s.ep ep).open_ = true)
include hdown hopen

/-- A write that its window serves takes effect in DRAM (R330). -/
theorem exec_bar2Write_served {a : Nat} {bytes : List Byte} (hmode : s.mode.cur ≠ .halted)
    (h : s.translate ep off reqid bytes.length true = some a) :
    exec (.bar2Write ep off reqid bytes false) s = .next (s.dramWrite a bytes) := by
  show execBar2Write ep off reqid bytes false s = _
  simp [execBar2Write, hdown, hopen, hmode, h]

/-- A write that no window serves is refused (R333). -/
theorem exec_bar2Write_refused {bytes : List Byte} (hmode : s.mode.cur ≠ .halted)
    (h : s.translate ep off reqid bytes.length true = none) :
    exec (.bar2Write ep off reqid bytes false) s = .next (s.refuseWrite ep off reqid) := by
  show execBar2Write ep off reqid bytes false s = _
  simp [execBar2Write, hdown, hopen, hmode, h]

/-- A read that its window serves is answered with the bytes (R330, R344). -/
theorem exec_bar2Read_served {a len : Nat} (h : s.translate ep off reqid len false = some a) :
    exec (.bar2Read ep off reqid len) s = .next (s.send (.completion ep (s.dram.readBytes a len) (s.dramPoisoned a len))) := by
  show execBar2Read ep off reqid len s = _
  simp [execBar2Read, hdown, hopen, h]

/-- A read that no window serves gets Unsupported Request (R333). -/
theorem exec_bar2Read_refused {len : Nat} (h : s.translate ep off reqid len false = none) :
    exec (.bar2Read ep off reqid len) s = .next (((((s.satF F.HE_WIN_STAT_RUR).winLast ep off reqid true).notice 1 0xFFFF 5 off 0).send
      (.unsupported ep)).aer ep .unsupportedRequest) := by
  show execBar2Read ep off reqid len s = _
  simp [execBar2Read, hdown, hopen, h]

end

/-- What BAR2 requests do: the first part of O29. -/
theorem windowAccess : Claims.WindowAccess := by
  intro s ep off reqid a bytes hdown hopen
  exact ⟨fun hmode h => exec_bar2Write_served hdown hopen hmode h, fun hmode h => exec_bar2Write_refused hdown hopen hmode h,
    fun len h => exec_bar2Read_served hdown hopen h, fun len h => exec_bar2Read_refused hdown hopen h⟩

/-! ### Translation (R331, R333) -/

/-- A window serves an access: the mode, the entry's bits, the endpoint, the requester and the pages all allow it. -/
def State.windowServes (s : State) (ep w x reqid len : Nat) (write : Bool) : Prop :=
  s.mode.cur ≠ .dormant ∧ s.mode.cur ≠ .boot ∧ s.flag (F.WIN_W0_VALID w) = true ∧
    (if write then s.flag (F.WIN_W0_WR w) else s.flag (F.WIN_W0_RD w)) = true ∧
    (s.f (F.WIN_W0_EP w) = 0 ∨ s.f (F.WIN_W0_EP w) = ep + 1) ∧
    (s.flag (F.WIN_W0_IDCHK w) = false ∨ s.f (F.WIN_W0_REQID w) = reqid) ∧ x + len ≤ (s.f (F.WIN_W1_PAGES w) + 1) * 4096

/-- Offset `x` of window `w` is served at the target page's address plus `x`, or not at all. -/
theorem translate_window {w x : Nat} (hw : w < 4096) (hx : x < 2 ^ 24) (s : State) (ep reqid len : Nat) (write : Bool) :
    s.windowServes ep w x reqid len write ∧
        s.translate ep (w * 2 ^ 24 + x) reqid len write = some (s.f (F.WIN_W1_TARGET w) * 4096 + x) ∨
      s.translate ep (w * 2 ^ 24 + x) reqid len write = none := by
  have hdiv : (w * 2 ^ 24 + x) / 2 ^ 24 = w := by omega
  have hmod : (w * 2 ^ 24 + x) % 2 ^ 24 = x := by omega
  rcases h : s.translate ep (w * 2 ^ 24 + x) reqid len write with _ | a
  case none => exact .inr rfl
  case some =>
    simp only [State.translate, hdiv, hmod, Option.ite_none_right_eq_some, Option.some.injEq] at h
    obtain ⟨hserves, rfl⟩ := h
    exact .inl ⟨by simpa [State.windowServes, epAdmits, hw, and_assoc] using hserves, rfl⟩

/-- Which accesses a window serves, and where: the second part of O29. -/
theorem windowTranslation : Claims.WindowTranslation := by
  intro s ep w x reqid len write hw hx
  rcases translate_window hw hx s ep reqid len write with ⟨⟨hdormant, hboot, hvalid, hdir, hep, hid, hpages⟩, h⟩ | h
  · refine ⟨.inl h, fun _ => ⟨hvalid, fun hwrite => ?_, fun hread => ?_, hep, fun hcheck => hid.resolve_left (by simp [hcheck]),
      hpages, hdormant, hboot⟩⟩
    · simpa [hwrite] using hdir
    · simpa [hread] using hdir
  · exact ⟨.inr h, fun h' => absurd (h.symm.trans h') nofun⟩

/-! ### Entry writes (R332) -/

/-- The always-on log is no register. -/
theorem withAon_reg (s : State) (aon : AonLog) (off : Nat) : State.reg { s with aon } off = s.reg off := rfl

/-- An always-on record writes ELOG_AON alone (R444). -/
theorem reg_logAon {off : Nat} (haon : off ≠ R.ELOG_AON) (s : State) (code detail : Nat) :
    (s.logAon code detail).reg off = s.reg off := by
  have hset {x : Field} (hx : x.off = R.ELOG_AON) (t : State) (v : Nat) : (t.setF x v).reg off = t.reg off :=
    reg_setF_ne t x v off (hx ▸ haon)
  rw [State.logAon, State.setFlag, hset (x := F.ELOG_AON_OVF) rfl, hset (x := F.ELOG_AON_PEND) rfl, withAon_reg]

/-- A register's notice leaves every register but those of the logs and DEV_EVT (R443, R444). -/
theorem reg_regNotice {k : Nat} (hevt : k ≠ R.DEV_EVT) (hlog : k ≠ R.ELOG_STAT) (haon : k ≠ R.ELOG_AON) (s : State) (code off : Nat)
    (value : Word) (detail : Nat) : (s.regNotice code off value detail).reg k = s.reg k := by
  rw [State.regNotice, State.notice, reg_ite, reg_logAon haon, reg_logRec hevt hlog, ite_self]

/-- A refusal of an entry's write leaves the entry. -/
theorem reg_windowRefused {k w : Nat} (hk : k = R.WIN_W0 w ∨ k = R.WIN_W1 w) (hw : w < 4096) (s : State) (off : Nat) (value : Word) :
    (s.windowRefused off value).reg k = s.reg k := by
  have hrange : 0x40000 ≤ k ∧ k < 0x50000 := by simp only [R.WIN_W0, R.WIN_W1] at hk; omega
  obtain ⟨hlow, hhigh⟩ := hrange
  unfold State.windowRefused
  rw [reg_regNotice (by unfold R.DEV_EVT; omega) (by unfold R.ELOG_STAT; omega) (by unfold R.ELOG_AON; omega)]
  exact reg_setF_ne _ F.HE_WIN_STAT_SEQERR _ k (by simp only [F.HE_WIN_STAT_SEQERR, R.HE_WIN_STAT]; omega)

/-- A refusal shows in SEQERR. -/
theorem windowRefused_seqerr (s : State) (off : Nat) (value : Word) : (s.windowRefused off value).flag F.HE_WIN_STAT_SEQERR = true := by
  unfold State.windowRefused
  rw [State.flag, State.f, reg_regNotice (by decide) (by decide) (by decide), ← State.f, ← State.flag]
  exact flag_setFlag_same rfl (by decide) s true

section
variable {s : State} {w size : Nat} {value : Word} (hw : w < 4096)
include hw

/-- A taken write of word 0. -/
theorem exec_windowWord0Write (h : s.takesWrite (R.WIN_W0 w) size = true) :
    exec (.windowWord0Write w size value) s = .next (s.writeWin0 w (R.WIN_W0 w) size value) := by
  show execWindowWord0Write w size value s = _
  rw [execWindowWord0Write, Nat.mod_eq_of_lt hw, gate_of_takesWrite h]

/-- A taken write of word 1. -/
theorem exec_windowWord1Write (h : s.takesWrite (R.WIN_W1 w) size = true) :
    exec (.windowWord1Write w size value) s = .next (s.writeWin1 w (R.WIN_W1 w) size value) := by
  show execWindowWord1Write w size value s = _
  rw [execWindowWord1Write, Nat.mod_eq_of_lt hw, gate_of_takesWrite h]

end

/-- What an entry's word becomes: the third part of O29. -/
theorem windowEntryWrites : Claims.WindowEntryWrites := by
  intro s w size value hw
  refine ⟨fun htakes s1 hs1 => ?_, fun htakes => ?_⟩
  · rw [exec_windowWord0Write hw htakes, State.writeWin0, ← hs1]
    refine ⟨fun hok => ?_, fun hvalid hbad => ⟨_, by simp only [hvalid, hbad]; rfl, ?_, windowRefused_seqerr ..⟩⟩
    · rcases hok with hok | hok <;> simp [hok]
    · rw [State.flag, State.f, show (F.WIN_W0_VALID w).off = R.WIN_W0 w from rfl, reg_windowRefused (.inl rfl) hw]
      exact flag_setFlag_same rfl (by simp [F.WIN_W0_VALID]) s1 false
  · rw [exec_windowWord1Write hw htakes, State.writeWin1]
    refine ⟨fun hfree => by simp [hfree], fun hvalid => ⟨_, by rw [if_pos hvalid], ?_, windowRefused_seqerr ..⟩⟩
    exact reg_windowRefused (.inr rfl) hw s (R.WIN_W1 w) value

/-- Settles O29: what a window serves, what it refuses, and which entries become valid. -/
theorem windows : Obligations.Windows := ⟨windowAccess, windowTranslation, windowEntryWrites⟩

end Sys2Proof.Machine

/-! ## The ends of host requests, the controls and the resets of an endpoint (R340, R341, R345 to R353) -/

namespace Sys2Proof.Machine

/-! ### Completions and timeouts (R340, R341) -/

section
variable {s : State} {ep t th id : Nat} {h : HostTag} (hfind : s.hostTags.find (tagKey ep t) = some h)
include hfind

section
variable (hreader : h.reader = .thread th id) (hflr : h.beforeFlr = false)
include hreader hflr

/-- A completion of a thread's read frees its tag and ends the access; what waited for a tag asks again. -/
theorem exec_hostCompletion_thread {res : HostResult} (hdown : s.hostDown = false) (hxlat : h.xlat = none) (hin : h.timedOut = none)
    (hres : ∀ l, res ≠ .translations l) : exec (.hostCompletion ep t res) s =
      .next ((s.freeTag (tagKey ep t)).threadHostEnds ep th id res).shtRetryAsk.recRetry := by
  show execHostCompletion ep t res s = _
  cases res with
  | translations l => exact absurd rfl (hres l)
  | data | unsupported | abort => simp [execHostCompletion, hdown, hfind, hreader, hflr, hxlat, hin]

/-- At the timeout the tag stays reserved, and the thread's access ends with 0x0102. -/
theorem exec_completionTimeout_thread (hin : h.timedOut = none) (hdue : (s.ep ep).cto ≤ (s.tbase - h.issued).toNat) :
    exec (.completionTimeout ep t) s = .next (((((
      { s with hostTags := s.hostTags.insert (tagKey ep t) { h with timedOut := some s.tbase } } : State).settleInvals).satF
        F.HE_XERR_CTO).aer ep .completionTimeout).asyncDone th id 0x0102) := by
  show execCompletionTimeout ep t s = _
  simp [-BitVec.toNat_sub, execCompletionTimeout, hfind, hreader, hflr, hin, Nat.not_lt.mpr hdue, State.threadHostFails]

end

section
variable {t0 : Word} (hflr : h.beforeFlr = false) (hlate : h.timedOut = some t0)
include hflr hlate

/-- A completion that comes after its request's timeout is discarded, counted and reported, however it is found to be late. -/
theorem exec_completion_late (hdown : s.hostDown = false) (res : HostResult) :
    exec (.unexpectedCompletion ep t) s =
        .next (((s.freeTag (tagKey ep t)).incF F.HE_LATE_UNEXP).aer ep .unexpectedCompletion) ∧
      exec (.hostCompletion ep t res) s =
        .next (((s.freeTag (tagKey ep t)).incF F.HE_LATE_UNEXP).aer ep .unexpectedCompletion) := by
  have hdiscard : s.lateCompletion ep (tagKey ep t) =
      ((s.freeTag (tagKey ep t)).incF F.HE_LATE_UNEXP).aer ep .unexpectedCompletion := by
    simp [State.lateCompletion, hfind, hflr]
  constructor
  · show execUnexpectedCompletion ep t s = _
    simp [execUnexpectedCompletion, hdown, hfind, hlate, hdiscard]
  · show execHostCompletion ep t res s = _
    simp [execHostCompletion, hdown, hfind, hlate, hdiscard]

/-- One further timeout later the tag is free, and what waited for a tag asks again. -/
theorem exec_tagReservationExpiry_due (hdue : (s.ep ep).cto ≤ (s.tbase - t0).toNat) :
    exec (.tagReservationExpiry ep t) s = .next (s.freeTag (tagKey ep t)).shtRetryAsk.recRetry := by
  show execTagReservationExpiry ep t s = _
  simp [-BitVec.toNat_sub, execTagReservationExpiry, hfind, hflr, hlate, hdue]

end

end

/-- The bytes of an unmarked completion go into the FETCH's run, and it ends with 0. -/
theorem threadHostEnds_data {s : State} {th id : Nat} {o : AsyncOp} {f : Xfer} (ho : (s.thr th).async? id = some o)
    (hf : o.xfer = some f) (ep : Nat) (bs : List Byte) :
    s.threadHostEnds ep th id (.data bs []) = (s.putHostBlocks th f bs []).asyncDone th id 0 := by
  simp [State.threadHostEnds, ho, hf]

/-- How a thread's read of the host ends: the first part of O30. -/
theorem hostRequestEnds : Claims.HostRequestEnds := by
  intro s ep t h th id hfind hreader hflr hxlat k
  refine ⟨fun hin hdown => ?_, fun bs o f hin hdown ho hf => ?_,
    fun hin hdue => exec_completionTimeout_thread hfind hreader hflr hin hdue,
    fun t0 hlate hdown => exec_completion_late hfind hflr hlate hdown .abort,
    fun t0 hlate hdue => exec_tagReservationExpiry_due hfind hflr hlate hdue⟩
  · exact exec_hostCompletion_thread hfind hreader hflr hdown hxlat hin (fun _ => nofun)
  · rw [exec_hostCompletion_thread (res := .data bs []) hfind hreader hflr hdown hxlat hin (fun _ => nofun), threadHostEnds_data ho hf]

/-! ### Endpoints replaced -/

/-- An endpoint replaced reads back. -/
@[simp] theorem ep_setEp_same (s : State) (e : Nat) (x : Endpoint) : (s.setEp e x).ep e = x := by
  unfold State.setEp State.ep
  split <;> rfl

/-- Of two replacements of an endpoint the later one stands. -/
@[simp] theorem setEp_setEp (s : State) (e : Nat) (x y : Endpoint) : (s.setEp e x).setEp e y = s.setEp e y := by
  unfold State.setEp
  split <;> rfl

/-- An endpoint replaced by one that agrees with it on what is read leaves that of every endpoint. -/
theorem ep_setEp_congr {α : Type} (g : Endpoint → α) {s : State} {e : Nat} {x : Endpoint} (hx : g x = g (s.ep e)) (k : Nat) :
    g ((s.setEp e x).ep k) = g (s.ep k) := by
  unfold State.setEp State.ep at *
  by_cases he : e = 0 <;> by_cases hk : k = 0 <;> simp_all

@[simp] theorem setEp_subRings (s : State) (e : Nat) (x : Endpoint) : (s.setEp e x).subRings = s.subRings := by
  unfold State.setEp
  split <;> rfl

@[simp] theorem setEp_dram (s : State) (e : Nat) (x : Endpoint) : (s.setEp e x).dram = s.dram := by
  unfold State.setEp
  split <;> rfl

/-- An endpoint replaced leaves what the completion rings hold. -/
theorem setEp_cpl (s : State) (e : Nat) (x : Endpoint) (q : Nat) : (s.setEp e x).cpl q = s.cpl q := by
  unfold State.setEp
  split <;> rfl

/-- The hardware and the D-state of an endpoint. -/
def State.hwDState (s : State) (e : Nat) : Hw × DState := (s.hw, (s.ep e).dstate)

/-- An endpoint's other fields may be replaced. -/
theorem setEp_hwDState {s : State} {e : Nat} {x : Endpoint} (hx : x.dstate = (s.ep e).dstate) (k : Nat) :
    (s.setEp e x).hwDState k = s.hwDState k := by
  rw [State.hwDState, setEp_hw, ep_setEp_congr Endpoint.dstate hx, State.hwDState]

theorem send_hwDState (s : State) (m : OutMsg) (k : Nat) : (s.send m).hwDState k = s.hwDState k := rfl

theorem msixRelease_hwDState (s : State) (e k : Nat) : (s.msixRelease e).hwDState k = s.hwDState k :=
  foldl_keeps (State.hwDState · k) _ (fun t x => (send_hwDState _ _ k).trans (setEp_hwDState (by rfl) k)) _ _

theorem ltrSync_hwDState (s : State) (k : Nat) : s.ltrSync.hwDState k = s.hwDState k := by
  refine foldl_keeps (State.hwDState · k) _ (fun t e => ?_) _ _
  split
  · simp only [apply_ite (State.hwDState · k), send_hwDState, ite_eq_right_iff]
    exact fun _ => setEp_hwDState (by rfl) k
  · rfl

/-- With no record held, only the pending messages are released (R348, R353). -/
theorem hostReleased_of_none_held {s : State} (h : ∀ q, (s.cpl q).holding = []) (e : Nat) : s.hostReleased e = s.msixRelease e := by
  rw [State.hostReleased, List.foldl_fixed' (fun q => by simp [h q])]

/-- A release of nothing held leaves the hardware and the D-state. -/
theorem released_hw_dstate {s : State} (h : ∀ q, (s.cpl q).holding = []) (e : Nat) :
    (s.hostReleased e).ltrSync.hw = s.hw ∧ ((s.hostReleased e).ltrSync.ep e).dstate = (s.ep e).dstate := by
  have hpart : (s.hostReleased e).ltrSync.hwDState e = s.hwDState e := by
    rw [ltrSync_hwDState, hostReleased_of_none_held h, msixRelease_hwDState]
  simpa only [State.hwDState, Prod.mk.injEq] using hpart

/-! ### Invalidations (R345, R346) -/

/-- With no request outstanding, the one invalidation that waits is begun and answered. -/
theorem settleInvals_one {s : State} {x : Inval} (hinvals : s.invals = [x]) (hnew : x.begun = false) (htags : s.hostTags = []) :
    s.settleInvals = ({ s with ats := s.ats.filter (fun y => !x.covers y.ep y.page), invals := [] } : State).send
      (.invalidated x.ep x.itag) := by
  simp [State.settleInvals, State.runInvals, State.invalBusy, hinvals, hnew, htags, State.send]

/-! ### Configuration -/

section
variable {s : State} {ep : Nat}

/-- Configuration requests are answered while the link works and no function level reset runs. -/
theorem cfgOpen_iff : s.cfgOpen ep = true ↔ s.hostDown = false ∧ (s.ep ep).flrBusy = false := by
  simp [State.cfgOpen]

/-- An Invalidate Request on an idle link is answered at once. -/
theorem exec_atsInvalidateRequest_idle (hdown : s.hostDown = false) (hinvals : s.invals = []) (htags : s.hostTags = [])
    {itag page count : Nat} {x : Inval} (hx : x = { ep, itag, page, count, begun := false }) :
    exec (.atsInvalidateRequest ep itag page count) s =
      .next (({ s with ats := s.ats.filter (fun y => !x.covers y.ep y.page), invals := [] } : State).send (.invalidated ep itag)) := by
  subst hx
  show execAtsInvalidateRequest ep itag page count s = _
  rw [execAtsInvalidateRequest, hdown, if_neg Bool.false_ne_true, hinvals, List.nil_append]
  exact congrArg _ (settleInvals_one (s := { s with invals := [_] }) rfl rfl htags)

/-- A table entry's data written where BAR4 is served (R347). -/
theorem exec_msixTableWrite_data {v value : Nat} (hdown : s.hostDown = false) (hv : v < 2048) (hopen : (s.ep ep).open_ = true)
    (hdormant : s.mode.cur ≠ .dormant) (hboot : s.mode.cur ≠ .boot) :
    exec (.msixTableWrite ep (16 * v + 8) 4 (BitVec.ofNat 64 value) false none) s = .next (
      let x : MsixEntry := (Tbl.get msixReset (s.ep ep).table v).write 8 (value % 2 ^ 32)
      (s.setEp ep { s.ep ep with table := Tbl.set msixReset (s.ep ep).table v x }).msixRelease ep) := by
  have hlow : value % 2 ^ 64 % 2 ^ 32 = value % 2 ^ 32 := Nat.mod_mod_of_dvd _ (by decide)
  have hentry : (16 * v + 8) / 16 = v := by omega
  have hplace : (16 * v + 8) % 16 = 8 := by omega
  have hrange : ¬ 2048 * 16 ≤ 16 * v + 8 := by omega
  have halign : (16 * v + 8) % 4 = 0 := by omega
  show execMsixTableWrite ep (16 * v + 8) 4 (BitVec.ofNat 64 value) false none s = _
  simp only [execMsixTableWrite, hdown, hopen, hdormant, hboot, hrange, halign, hentry, hplace, BitVec.toNat_ofNat, hlow]
  simp

section
variable (hcfg : s.cfgOpen ep = true)
include hcfg

/-- Clearing ATS Enable empties the cache of the single endpoint (R346). -/
theorem exec_atsEnableClear_false (hone : s.bifurcated = false) :
    exec (.atsEnableClear ep false) s = .next { s.setEp ep { s.ep ep with atsEnable := false } with ats := [] } := by
  show execAtsEnableClear ep false s = _
  have hone' (x : Endpoint) : (s.setEp ep x).bifurcated = false := by rwa [State.bifurcated, setEp_hw]
  simp [execAtsEnableClear, hcfg, State.dropAts, hone']

/-- Setting it leaves the cache. -/
theorem exec_atsEnableClear_true :
    exec (.atsEnableClear ep true) s = .next (s.setEp ep { s.ep ep with atsEnable := true }) := by
  show execAtsEnableClear ep true s = _
  simp [execAtsEnableClear, hcfg]

/-- D0 to D3hot with PME_En (R348, R349). -/
theorem exec_dStateChange_d3hot (h : (s.ep ep).dstate = .d0) : exec (.dStateChange ep 0x103) s =
    .next (s.setEp ep { s.ep ep with pmeEnable := true, dstate := .d3hot }) := by
  show execDStateChange ep 0x103 s = _
  simp [execDStateChange, hcfg, h, bit]

/-- D3hot to D0: the endpoint may initiate requests again, and WAKE# is released (R348, R349). -/
theorem exec_dStateChange_d0 (h : (s.ep ep).dstate = .d3hot) : exec (.dStateChange ep 0) s =
    .next ((({ s.setEp ep { s.ep ep with pmeEnable := false, dstate := .d0 } with hw := { s.hw with wake := false } } :
      State).hostReleased ep).ltrSync) := by
  show execDStateChange ep 0 s = _
  simp [execDStateChange, hcfg, h, bit]

/-- A configuration write stores its bits; Bus Master Enable newly set releases what waited (R353). -/
theorem exec_busMasterEnable (c : ConfigBits) : exec (.busMasterEnable ep c) s = .next (
    let x : Endpoint := { s.ep ep with
      memSpace := c.memSpace, busMaster := c.busMaster, l1Enable := c.l1Enable, ltrEnable := c.ltrEnable, pmeEnable := c.pmeEnable,
      cto := c.cto }
    (if (s.ep ep).busMaster = false ∧ c.busMaster = true then (s.setEp ep x).hostReleased ep else s.setEp ep x).ltrSync) := by
  show execBusMasterEnable ep c s = _
  simp [execBusMasterEnable, hcfg]

end

/-- With nothing outstanding on the link, L1 is asked for where it is enabled (R350). -/
theorem exec_aspmL1Entry_idle (hdown : s.hostDown = false) (hl1 : (s.ep ep).l1Enable = true) (htags : s.hostTags = []) :
    exec (.aspmL1Entry ep) s = .next (s.send (.l1Request ep)) := by
  show execAspmL1Entry ep s = _
  simp [execAspmL1Entry, hdown, hl1, htags]

end

/-- What configuration, BAR4 and the link ask of an endpoint: the second part of O30. -/
theorem endpointControls : Claims.EndpointControls := by
  intro s ep hcfg
  obtain ⟨hdown, hflr⟩ := cfgOpen_iff.mp hcfg
  refine ⟨fun itag page count hinvals htags => ⟨_, exec_atsInvalidateRequest_idle hdown hinvals htags rfl, rfl, rfl, ?_⟩,
    exec_atsEnableClear_false hcfg, exec_atsEnableClear_true hcfg, fun v value hv hopen hdormant hboot => ⟨?_, ?_⟩, fun c => ?_,
    exec_dStateChange_d3hot hcfg, fun hd3 hheld => ⟨_, exec_dStateChange_d0 hcfg hd3, ?_⟩, rfl, fun c x hx => ⟨fun hbus => ?_,
    fun hbus hset => ?_⟩, exec_aspmL1Entry_idle hdown⟩
  · simp [State.send, Inval.covers, BEq.comm (a := ep)]
  · simp [MsixEntry.write]
  · exact exec_msixTableWrite_data hdown hv hopen hdormant hboot
  · show execMsixTableWrite ep 0 4 0 false (some c) s = _
    simp [execMsixTableWrite, hdown, hflr]
  · have hidle (x : Endpoint) (q : Nat) : ((s.setEp ep x).cpl q).holding = [] := by rw [setEp_cpl, hheld q]
    obtain ⟨hhw, hdstate⟩ := released_hw_dstate (s := { s.setEp ep _ with hw := { s.hw with wake := false } }) (hidle _) ep
    exact ⟨hdstate.trans (congrArg Endpoint.dstate (ep_setEp_same s ep _)), by rw [hhw]⟩
  · simp [exec_busMasterEnable hcfg, hbus, hx]
  · simp [exec_busMasterEnable hcfg, hbus, hset, hx]

/-! ### What the end of an endpoint's calls leaves (R107, R268, R352)

One lemma for each operation that State.endCalls reaches; as for State.steady, none of them is proved by rfl. -/

/-- The hardware, which holds the straps, and DRAM. -/
def State.hwDram (s : State) : Hw × Mem := (s.hw, s.dram)

/-- Any other field that the operations below write may be replaced. -/
@[simp] theorem hwDram_update (s : State) (bar0 : Tbl Word) (pair : PairState) (threads : Tbl Thread) (skeins : Tbl Info)
    (skeinUsed : Tbl Bool) (extents : List Extent) (prk : PrkState) (bands : Tbl Band) (hoop : Hoop) (dlog : DeltaLog)
    (out : List OutMsg) :
    State.hwDram { s with bar0, pair, threads, skeins, skeinUsed, extents, prk, bands, hoop, dlog, out } = s.hwDram := by
  simp [State.hwDram]

/-- A branch keeps what both its sides keep. -/
@[simp] theorem hwDram_ite (c : Prop) [Decidable c] (s t : State) :
    (if c then s else t).hwDram = if c then s.hwDram else t.hwDram := apply_ite State.hwDram c s t

/-- foldl_keeps for the hardware and DRAM, as simp uses it. -/
@[simp] theorem foldl_hwDram {α : Type} (f : State → α → State) (h : ∀ s a, (f s a).hwDram = s.hwDram) (l : List α) (s : State) :
    (l.foldl f s).hwDram = s.hwDram := foldl_keeps State.hwDram f h l s

@[simp] theorem setReg_hwDram (s : State) (off : Nat) (w : Word) : (s.setReg off w).hwDram = s.hwDram := by simp [State.setReg]
@[simp] theorem setF_hwDram (s : State) (x : Field) (v : Nat) : (s.setF x v).hwDram = s.hwDram := by simp [State.setF]
@[simp] theorem setFlag_hwDram (s : State) (x : Field) (b : Bool) : (s.setFlag x b).hwDram = s.hwDram := by simp [State.setFlag]
@[simp] theorem send_hwDram (s : State) (m : OutMsg) : (s.send m).hwDram = s.hwDram := by simp [State.send]
@[simp] theorem mirror_hwDram (s : State) (m : MirrorItem) : (s.mirror m).hwDram = s.hwDram := by simp [State.mirror]

@[simp] theorem setBandLogged_hwDram (s : State) (a b : Nat) (x : Band) : (s.setBandLogged a b x).hwDram = s.hwDram := by
  simp [State.setBandLogged, State.setBand, State.appendDelta, State.syncDlog]

@[simp] theorem closeBand_hwDram (s : State) (a b : Nat) (early pfail : Bool) : (s.closeBand a b early pfail).hwDram = s.hwDram := by
  simp [State.closeBand]

@[simp] theorem mirrorVersion_hwDram (s : State) (seq : Nat) : (s.mirrorVersion seq).hwDram = s.hwDram := by
  fun_cases State.mirrorVersion s seq <;> simp

@[simp] theorem setCentry_hwDram (s : State) (e : Nat) (x : CEntry) : (s.setCentry e x).hwDram = s.hwDram := by simp [State.setCentry]
@[simp] theorem dropEntry_hwDram (s : State) (e : Nat) : (s.dropEntry e).hwDram = s.hwDram := by simp [State.dropEntry]

@[simp] theorem placeVersion_hwDram (s : State) (v : Version) : (s.placeVersion v).hwDram = s.hwDram := by
  simp [State.placeVersion, State.putVersion, State.setGather, State.stripeFull, State.setJobs]

@[simp] theorem abandonEntry_hwDram (s : State) (e : Nat) (pfail : Bool) : (s.abandonEntry e pfail).hwDram = s.hwDram := by
  simp [State.abandonEntry, State.regather]

@[simp] theorem abandonOwned_hwDram (s : State) (th : Nat) : (s.abandonOwned th).hwDram = s.hwDram := by simp [State.abandonOwned]

@[simp] theorem clearRegion_hwDram (s : State) (a b : Nat) : (s.clearRegion a b).hwDram = s.hwDram := by
  simp [State.clearRegion, State.setRegion]

@[simp] theorem reapAll_hwDram (s : State) : s.reapAll.hwDram = s.hwDram := by
  simp [State.reapAll, State.reapEntry, State.freeEntryOf, State.syncDirty]

@[simp] theorem setThr_hwDram (s : State) (th : Nat) (t : Thread) : (s.setThr th t).hwDram = s.hwDram := by simp [State.setThr]

@[simp] theorem tellStarter_hwDram (s : State) (th status : Nat) : (s.tellStarter th status).hwDram = s.hwDram := by
  unfold State.tellStarter
  split <;> simp [State.asyncDone]

@[simp] theorem freeHelper_hwDram (s : State) (th : Nat) : (s.freeHelper th).hwDram = s.hwDram := by
  unfold State.freeHelper
  split <;> simp

@[simp] theorem finishThread_hwDram (s : State) (th : Nat) : (s.finishThread th).hwDram = s.hwDram := by
  simp [State.finishThread, State.freeRuns, State.markSkeins, State.reapExtents]

@[simp] theorem endThread_hwDram (s : State) (th : Nat) : (s.endThread th).hwDram = s.hwDram := by
  simp [State.endThread, State.leaveEngine]

@[simp] theorem endCalls_hwDram (s : State) (e : Nat) : (s.endCalls e).hwDram = s.hwDram := by simp [State.endCalls]
@[simp] theorem silenceThreads_hwDram (s : State) (e : Nat) : (s.silenceThreads e).hwDram = s.hwDram := by simp [State.silenceThreads]

/-! ### What the rest of a reset leaves (R351, R352) -/

/-- The endpoints, the submission rings, and DRAM. -/
def State.endpointPart (s : State) : Endpoint × Endpoint × Tbl SubRing × Mem := (s.ep0, s.ep1, s.subRings, s.dram)

theorem endpointPart_eq_iff {s t : State} : t.endpointPart = s.endpointPart ↔
    t.ep0 = s.ep0 ∧ t.ep1 = s.ep1 ∧ t.subRings = s.subRings ∧ t.dram = s.dram := by
  simp only [State.endpointPart, Prod.mk.injEq]

/-- The fields that the rest of a reset writes may be replaced. -/
theorem endpointPart_update (s : State) (bar0 : Tbl Word) (ats : List AtsEntry) (doe : Tbl SpdmAnswer) (health : Health) (prk : PrkState) :
    State.endpointPart { s with bar0, ats, doe, health, prk } = s.endpointPart := rfl

theorem setReg_endpointPart (s : State) (off : Nat) (w : Word) : (s.setReg off w).endpointPart = s.endpointPart :=
  endpointPart_update s _ s.ats s.doe s.health s.prk

theorem resetRegs_endpointPart (s : State) (e : Nat) : (s.resetRegs e).endpointPart = s.endpointPart := by
  have hregs (bar0 : Tbl Word) : State.endpointPart { s with bar0 } = s.endpointPart :=
    endpointPart_update s bar0 s.ats s.doe s.health s.prk
  unfold State.resetRegs
  dsimp only
  split
  · exact hregs _
  · exact (foldl_keeps State.endpointPart State.clockSync (fun t c => setReg_endpointPart t _ _) _ _).trans (hregs _)

theorem dumpWindows_endpointPart (s : State) : s.dumpWindows.endpointPart = s.endpointPart :=
  foldl_keeps State.endpointPart _ (fun t i => by rw [setReg_endpointPart, setReg_endpointPart]) _ _

/-- What a reset leaves of the endpoints, the submission rings and DRAM: the calls' end and the idle units, with the endpoint itself
replaced. -/
theorem resetEndpoint_endpointPart (s : State) (e : Nat) (busy : Bool) : ∃ u : State,
    u.endpointPart = (((s.endCalls e).silenceThreads e).resetUnits e).endpointPart ∧
      (s.resetEndpoint e busy).endpointPart = (u.setEp e ((u.ep e).reset busy)).endpointPart := by
  refine ⟨_, resetRegs_endpointPart _ e, ?_⟩
  unfold State.resetEndpoint
  extract_lets u reset cleared _ _ marked
  have hcleared : cleared.endpointPart = (u.setEp e ((u.ep e).reset busy)).endpointPart :=
    endpointPart_update (u.setEp e _) _ _ _ _ _
  have hmarked : marked.endpointPart = cleared.endpointPart := by
    unfold marked
    split
    · rfl
    · exact endpointPart_update cleared _ _ _ _ _
  split
  · rw [dumpWindows_endpointPart, hmarked, hcleared]
  · rw [hmarked, hcleared]

/-- A table holds nothing at a key that a selection leaves out. -/
theorem Tbl.get_filter_of_forall {α : Type} (d : Nat → α) {p : Nat × α → Bool} {k : Nat} (hk : ∀ v, p (k, v) = false) (t : Tbl α) :
    Tbl.get d (t.filter p) k = d k := by
  induction t with
  | nil => rfl
  | cons x t ih =>
    rw [List.filter_cons]
    split
    next hp =>
      have hne : x.1 ≠ k := by
        rintro rfl
        simp [hk] at hp
      rw [Tbl.get, if_neg hne, ih]
    next => exact ih

/-- The submission rings of an endpoint hold nothing once its units are reset (R312). -/
theorem resetUnits_sub {s : State} {e r : Nat} (h : s.ringEp r = e) : (s.resetUnits e).sub r = subRingReset r :=
  Tbl.get_filter_of_forall subRingReset (by simp [h]) s.subRings

/-- The ends of calls leave which endpoint carries a ring, and DRAM. -/
theorem silenceThreads_endCalls (s : State) (e : Nat) :
    (∀ r, ((s.endCalls e).silenceThreads e).ringEp r = s.ringEp r) ∧ ((s.endCalls e).silenceThreads e).dram = s.dram := by
  obtain ⟨hhw, hdram⟩ := Prod.ext_iff.mp ((silenceThreads_hwDram (s.endCalls e) e).trans (endCalls_hwDram s e))
  exact ⟨fun r => congrArg (fun hw : Hw => if hw.straps.hbif && decide (512 ≤ r) then 1 else 0) hhw, hdram⟩

/-- An endpoint's reset: the endpoint as reset leaves it, its rings empty, DRAM and the mode as before. -/
theorem resetEndpoint_parts (s : State) (e : Nat) (busy : Bool) :
    (∃ x : Endpoint, (s.resetEndpoint e busy).ep e = x.reset busy) ∧ (s.resetEndpoint e busy).dram = s.dram ∧
      (s.resetEndpoint e busy).mode.cur = s.mode.cur ∧ ∀ r, s.ringEp r = e → (s.resetEndpoint e busy).sub r = subRingReset r := by
  obtain ⟨hring, hdram⟩ := silenceThreads_endCalls s e
  obtain ⟨u, hu, ht⟩ := resetEndpoint_endpointPart s e busy
  obtain ⟨-, -, husub, hudram⟩ := endpointPart_eq_iff.mp hu
  obtain ⟨htep0, htep1, htsub, htdram⟩ := endpointPart_eq_iff.mp ht
  refine ⟨⟨u.ep e, ?_⟩, ?_, ?_, fun r hr => ?_⟩
  · rw [State.ep, htep0, htep1]
    exact ep_setEp_same u e _
  · rw [htdram, setEp_dram, hudram]
    exact hdram
  · exact congrArg (fun p => p.1.cur) (resetEndpoint_phase s e busy)
  · rw [State.sub, htsub, setEp_subRings, husub, ← State.sub]
    exact resetUnits_sub ((hring r).trans hr)

/-- The resets of an endpoint: the third part of O30. -/
theorem endpointResets : Claims.EndpointResets := by
  refine ⟨fun s ep hdown => ⟨?_, ?_, fun htwo => ?_⟩, fun s ep => rfl, fun s e busy _ _ => ?_⟩
  · show execHotReset ep s = _
    simp [execHotReset, hdown]
  · show execFunctionLevelReset ep s = _
    simp [execFunctionLevelReset, hdown]
  · show execPerst1Reset s = _
    simp [execPerst1Reset, htwo, hdown]
  · obtain ⟨⟨x, hep⟩, hdram, hmode, hsub⟩ := resetEndpoint_parts s e busy
    dsimp only
    rw [hep]
    exact ⟨rfl, rfl, rfl, rfl, hdram, hmode, hsub⟩

/-- Settles O30: how host requests end, what configuration asks, and what a reset leaves of an endpoint. -/
theorem endpointCommands : Obligations.EndpointCommands := ⟨hostRequestEnds, endpointControls, endpointResets⟩

end Sys2Proof.Machine

/-! ## The canonical form of the memories and of the register file

One rule for each operation that the step can reach, in the order of the model's files: where the state before it is in canonical form, so is
the state after it. The rules are named after the operations, so that the proof for an operation spells out its path, h.setReg.raiseEvent.
What they rest on is at the front: an update that touches neither DRAM, nor the vault, nor the register file, nor the dump in DRAM; a register
stored; a selection; a dump placed. -/

namespace Sys2Proof.Machine

/-- The state an outcome answers is in canonical form. -/
def wfAfter : Host.Outcome State Fault Refusal → Prop
  | .next t => t.wf
  | .fault _ => True
  | .refused _ => True

/-! ### Rules for updates, branches and folds -/

/-- Any fields but the memories, the register file and the dump's progress may be replaced. -/
theorem State.wf.update {s : State} (h : s.wf) {hw : Hw} {tbase : Word} {mode : ModeReg} {elog : ErrorLog} {aon : AonLog}
    {corrected : Tbl CorrUnit} {health : Health} {ep0 ep1 : Endpoint} {subRings : Tbl SubRing} {cplRings : Tbl CplRing} {pair : PairState}
    {threads : Tbl Thread} {skeins : Tbl Info} {skeinUsed : Tbl Bool} {pmem master : Tbl Word} {extents : List Extent}
    {maskCleared : Tbl Bool} {faults : Tbl FaultRec} {workFaults : Tbl Nat} {prk : PrkState} {arrays : Tbl ArrayInfo} {bands : Tbl Band}
    {ewords : Tbl EWord} {sleds : Tbl Sled} {hoop : Hoop} {lost : LostTables} {map : Tbl Word} {dlog : DeltaLog} {mc : MapCache}
    {poison : Tbl Bool} {hostTags : Tbl HostTag} {ats : List AtsEntry} {invals : List Inval} {sht : Tbl ShtChan} {sledCmds : Tbl SledCmd}
    {ports : Tbl Port} {readJobs : Tbl ReadJob} {devReads : Tbl DevRead} {bobbin : BobbinState} {recorder : Tbl Word} {power : PowerState}
    {thermal : Thermal} {boot : BootState} {fed : FedState} {doe : Tbl SpdmAnswer} {eids : Tbl Nat} {tbaseLatch fetchLast : Nat}
    {out : List OutMsg} {free : Nat} {pending : List Instr} :
    State.wf { s with
      hw, tbase, mode, elog, aon, corrected, health, ep0, ep1, subRings, cplRings, pair, threads, skeins, skeinUsed, pmem, master,
      extents, maskCleared, faults, workFaults, prk, arrays, bands, ewords, sleds, hoop, lost, map, dlog, mc, poison, hostTags, ats,
      invals, sht, sledCmds, ports, readJobs, devReads, bobbin, recorder, power, thermal, boot, fed, doe, eids, tbaseLatch, fetchLast,
      out, free, pending } := h

/-- The dump's progress may be replaced where the dump in DRAM stays. -/
theorem State.wf.updateDump {s : State} (h : s.wf) {dump : DumpState} (hd : dump.inDram = s.dump.inDram) :
    State.wf { s with dump } := by
  obtain ⟨hdram, hvault, hbar0, hdump⟩ := h
  exact ⟨hdram, hvault, hbar0, fun d hin => hdump d (hd ▸ hin)⟩

/-- A branch is in canonical form where both its sides are. -/
theorem State.wf.ite {c : Prop} [Decidable c] {s t : State} (hs : s.wf) (ht : t.wf) : (if c then s else t).wf := by
  split <;> assumption

/-- As State.wf.ite, for outcomes. -/
theorem State.wf.iteAfter {c : Prop} [Decidable c] {x y : Host.Outcome State Fault Refusal} (hx : wfAfter x) (hy : wfAfter y) :
    wfAfter (if c then x else y) := by
  split <;> assumption

/-- As State.wf.ite, for an operation that also answers a value. -/
theorem State.wf.fstIte {α : Type} {c : Prop} [Decidable c] {p q : State × α} (hp : p.1.wf) (hq : q.1.wf) :
    (if c then p else q).1.wf := by
  split <;> assumption

/-- An operation repeated along a list keeps what it keeps once. -/
theorem State.wf.foldl {α : Type} {s : State} (h : s.wf) {f : State → α → State} {l : List α} (hf : ∀ s a, s.wf → (f s a).wf) :
    (l.foldl f s).wf := by
  induction l generalizing s with
  | nil => exact h
  | cons a l ih => exact ih (hf s a h)

/-- As State.wf.foldl, for an operation that carries a value along. -/
theorem State.wf.foldlFst {α β : Type} {p : State × β} (h : p.1.wf) {f : State × β → α → State × β} {l : List α}
    (hf : ∀ p a, p.1.wf → (f p a).1.wf) : (l.foldl f p).1.wf := by
  induction l generalizing p with
  | nil => exact h
  | cons a l ih => exact ih (hf p a h)

/-- A register stored (R11). -/
theorem State.wf.setReg {s : State} (h : s.wf) {off : Nat} {w : Word} : (s.setReg off w).wf := by
  obtain ⟨hdram, hvault, hbar0, hdump⟩ := h
  exact ⟨hdram, hvault, Tbl.wf_set hbar0 off w, hdump⟩

/-- What stands first in a pair that an operation answered. -/
theorem State.wf.ofFst {α : Type} {p : State × α} (hp : p.1.wf) {t : State} {x : α} (he : p = (t, x)) : t.wf := by
  subst he
  exact hp

/-- Nothing is asked of a dump that no longer stands in DRAM. -/
theorem State.wf.forget {s : State} (h : s.wf) {dump : DumpState} (hd : dump.inDram = none) : State.wf { s with dump } := by
  obtain ⟨hdram, hvault, hbar0, -⟩ := h
  exact ⟨hdram, hvault, hbar0, fun d hin => by simp [hd] at hin⟩

/-- DRAM and the dump in it are kept, or dropped, together. -/
theorem State.wf.keepOrDrop {s : State} (h : s.wf) (keep : Bool) {t : State} (hdram : t.dram = if keep then s.dram else [])
    (hvault : t.vault = s.vault) (hbar0 : t.bar0 = s.bar0) (hin : t.dump.inDram = if keep then s.dump.inDram else none) : t.wf := by
  obtain ⟨hd, hv, hb, hdump⟩ := h
  unfold State.wf
  rw [hdram, hvault, hbar0, hin]
  cases keep with
  | true => exact ⟨hd, hv, hb, hdump⟩
  | false => exact ⟨Tbl.wf_nil _, hv, hb, by simp⟩

/-- The dump in DRAM. -/
theorem State.wf.dumpInDram {s : State} (h : s.wf) {d : Dump} (hd : s.dump.inDram = some d) : d.mem.wf := by
  obtain ⟨-, -, -, hdump⟩ := h
  exact hdump d hd

/-! ### Rules for the memories and the register file as wholes -/

/-- A selection of the registers. -/
theorem State.wf.filterBar0 {s : State} (h : s.wf) {p : Nat × Word → Bool} : State.wf { s with bar0 := s.bar0.filter p } := by
  obtain ⟨hdram, hvault, hbar0, hdump⟩ := h
  exact ⟨hdram, hvault, Tbl.wf_filter hbar0 p, hdump⟩

/-- A selection of DRAM. -/
theorem State.wf.filterDram {s : State} (h : s.wf) {p : Nat × Byte → Bool} : State.wf { s with dram := s.dram.filter p } := by
  obtain ⟨hdram, hvault, hbar0, hdump⟩ := h
  exact ⟨Tbl.wf_filter hdram p, hvault, hbar0, hdump⟩

/-- Every register replaced in its place, with those that then have their reset value left out. -/
theorem State.wf.mapBar0 {s : State} (h : s.wf) {f : Nat × Word → Word} :
    State.wf { s with bar0 := (s.bar0.map fun x => (x.1, f x)).filter fun x => x.2 != resetVal x.1 } := by
  obtain ⟨hdram, hvault, ⟨hkeys, -⟩, hdump⟩ := h
  refine ⟨hdram, hvault, ⟨List.Pairwise.filter _ (List.pairwise_map.mpr hkeys), fun e he => ?_⟩, hdump⟩
  simpa using (List.mem_filter.mp he).2

/-- A memory with a dump in it: what lies below, the dump's bytes within its length, what lies above. -/
theorem Mem.wf_place {m : Mem} (hm : m.wf) {base : Nat} {d : Dump} (hd : d.mem.wf) : (m.place base d).wf := by
  obtain ⟨hkeys, hvals⟩ := hm
  obtain ⟨hkeys', hvals'⟩ := hd
  refine ⟨?_, ?_⟩
  · refine List.pairwise_append.mpr ⟨List.pairwise_append.mpr ⟨hkeys.filter _, ?_, ?_⟩, hkeys.filter _, ?_⟩
    · exact List.pairwise_map.mpr ((hkeys'.filter _).imp (Nat.add_lt_add_left · base))
    · simp only [List.mem_filter, List.mem_map, decide_eq_true_eq]
      rintro x ⟨-, hx⟩ y ⟨z, -, rfl⟩
      omega
    · simp only [List.mem_append, List.mem_filter, List.mem_map, decide_eq_true_eq]
      rintro x (⟨-, hx⟩ | ⟨z, ⟨-, hz⟩, rfl⟩) y ⟨-, hy⟩ <;> omega
  · simp only [Mem.place, List.mem_append, List.mem_filter, List.mem_map]
    rintro e ((⟨he, -⟩ | ⟨z, ⟨hz, -⟩, rfl⟩) | ⟨he, -⟩)
    · exact hvals e he
    · exact hvals' z hz
    · exact hvals e he

/-- A dump placed in the vault. -/
theorem State.wf.placeInVault {s : State} (h : s.wf) {base : Nat} {d : Dump} (hd : d.mem.wf) :
    State.wf { s with vault := s.vault.place base d } := by
  obtain ⟨hdram, hvault, hbar0, hdump⟩ := h
  exact ⟨hdram, Mem.wf_place hvault hd, hbar0, hdump⟩

/-- A memory that bytes are written to, section by section. -/
theorem Mem.wf_writeSections {m : Mem} (hm : m.wf) (l : List (Nat × Nat × List Byte)) :
    (l.foldl (fun (m : Mem) x => m.writeBytes x.2.1 x.2.2) m).wf := by
  induction l generalizing m with
  | nil => exact hm
  | cons x l ih => exact ih (Mem.wf_writeBytes x.2.2 hm x.2.1)

/-- The dump that is formed is a memory written byte by byte from an empty one. -/
theorem formDump_mem_wf (s : State) (part : Bool) (body : List Nat) : (s.formDump part body).mem.wf := by
  unfold State.formDump
  extract_lets head rest secs len bytes
  have hbytes : bytes.wf := by
    unfold bytes
    exact Mem.wf_writeSections (Tbl.wf_nil _) secs
  clear_value bytes
  dsimp only
  exact Mem.wf_writeBytes _ hbytes 0


/-! ### Rules for updates, branches and folds -/


/-! ### Machine/Regs.lean -/

theorem State.wf.setF {s : State} (h : s.wf) {x : Field} {v : Nat} : (s.setF x v).wf := h.setReg
theorem State.wf.setFlag {s : State} (h : s.wf) {x : Field} {b : Bool} : (s.setFlag x b).wf := h.setF
theorem State.wf.incF {s : State} (h : s.wf) {x : Field} {n : Nat} : (s.incF x n).wf := h.setF
theorem State.wf.satF {s : State} (h : s.wf) {x : Field} {n : Nat} : (s.satF x n).wf := h.setF

/-! ### Machine/Ops.lean -/

theorem State.wf.bumpFree {s : State} (h : s.wf) : s.bumpFree.wf := h.update
theorem State.wf.send {s : State} (h : s.wf) {m : OutMsg} : (s.send m).wf := h.update
theorem State.wf.mirror {s : State} (h : s.wf) {m : MirrorItem} : (s.mirror m).wf := .ite h.update.send h
theorem State.wf.setEp {s : State} (h : s.wf) {e : Nat} {x : Endpoint} : (s.setEp e x).wf := .ite h.update h.update
theorem State.wf.msixDue {s : State} (h : s.wf) {e v : Nat} : (s.msixDue e v).wf := .ite h (.ite h.send h.setEp)
theorem State.wf.msixRelease {s : State} (h : s.wf) {e : Nat} : (s.msixRelease e).wf := h.foldl fun _ _ h => h.setEp.send

theorem State.wf.pmeCheck {s : State} (h : s.wf) {e : Nat} : (s.pmeCheck e).wf := by
  unfold State.pmeCheck
  refine .ite ?_ h
  split
  · exact h
  · exact h.update
  · exact h.send

theorem State.wf.raiseEvent {s : State} (h : s.wf) {i : Nat} : (s.raiseEvent i).wf :=
  .ite h (h.setReg.foldl fun _ _ h => h.msixDue.pmeCheck)

theorem State.wf.logRecAt {s : State} (h : s.wf) {t : Word} {cls src unit code addr : Nat} {detail : BitVec 256} :
    (s.logRecAt t cls src unit code addr detail).wf :=
  .ite (.raiseEvent (.setFlag (.ite h.update.setF.setF.setFlag h.update.setF.setF))) (.ite h.update.setF.setF.setFlag h.update.setF.setF)

theorem State.wf.logRec {s : State} (h : s.wf) {cls src unit code addr : Nat} {detail : BitVec 256} :
    (s.logRec cls src unit code addr detail).wf :=
  .ite h h.logRecAt

theorem State.wf.logAon {s : State} (h : s.wf) {code detail : Nat} : (s.logAon code detail).wf := h.update.setF.setFlag

theorem State.wf.notice {s : State} (h : s.wf) {src unit code addr value detail : Nat} : (s.notice src unit code addr value detail).wf :=
  .ite h.logAon h.logRec

theorem State.wf.noticeOther {s : State} (h : s.wf) {src unit addr value : Nat} : (s.noticeOther src unit addr value).wf :=
  h.notice.bumpFree

theorem State.wf.logCorrected {s : State} (h : s.wf) {src unit addr : Nat} : (s.logCorrected src unit addr).wf :=
  .ite h.update.logRec.bumpFree h.update

theorem State.wf.logDeferred {s : State} (h : s.wf) {src unit code addr : Nat} : (s.logDeferred src unit code addr).wf := h.logRec.bumpFree
theorem State.wf.logOpen {s : State} (h : s.wf) {cls src unit addr : Nat} : (s.logOpen cls src unit addr).wf := h.logRec.bumpFree
theorem State.wf.logArrayOpen {s : State} (h : s.wf) {a addr : Nat} : (s.logArrayOpen a addr).wf := h.logOpen

theorem State.wf.healthEventAt {s : State} (h : s.wf) {t : Word} {code : Nat} {critical : Bool} {src unit : Nat}
    {detail : Option (BitVec 256)} : (s.healthEventAt t code critical src unit detail).wf :=
  .raiseEvent (.ite h.logRecAt.bumpFree.setFlag.setF.setFlag.update h.logRecAt.bumpFree.setFlag.setF)

theorem State.wf.healthEvent {s : State} (h : s.wf) {code : Nat} {critical : Bool} {src unit : Nat} {detail : Option (BitVec 256)} :
    (s.healthEvent code critical src unit detail).wf :=
  .ite h h.healthEventAt

theorem State.wf.aer {s : State} (h : s.wf) {e : Nat} {k : AerError} {sev : Severity} : (s.aer e k sev).wf :=
  .bumpFree (.ite h.setEp.send.logAon h.setEp.send.logRec)

theorem State.wf.copyAon {s : State} (h : s.wf) : s.copyAon.wf :=
  .setFlag (.setF (.update (.ite ((h.foldl fun _ _ h => .ite h.healthEventAt h.logRecAt).logRec) (h.foldl fun _ _ h => .ite
    h.healthEventAt h.logRecAt))))

/-! ### Machine/McOps.lean -/

theorem State.wf.setLine {s : State} (h : s.wf) {set way : Nat} {l : CacheLine} : (s.setLine set way l).wf := h.update
theorem State.wf.setDramEntry {s : State} (h : s.wf) {a g : Nat} {w : Word} : (s.setDramEntry a g w).wf := h.update
theorem State.wf.writeLine {s : State} (h : s.wf) {l : CacheLine} : (s.writeLine l).wf := h.foldl fun _ _ h => h.setDramEntry
theorem State.wf.touchWay {s : State} (h : s.wf) {set w : Nat} : (s.touchWay set w).wf := h.update
theorem State.wf.fillLine {s : State} (h : s.wf) {set w tag : Nat} {fresh : Bool} : (s.fillLine set w tag fresh).wf := h.setLine
theorem State.wf.waitWriteBack {s : State} (h : s.wf) {x : WriteBack} : (s.waitWriteBack x).wf := h.update

theorem State.wf.startWriteBack {s : State} (h : s.wf) {a g : Nat} : (s.startWriteBack a g).wf := by
  unfold State.startWriteBack
  refine .ite h ?_
  split
  · exact h.waitWriteBack.incF
  · exact h

theorem State.wf.cleanLine {s : State} (h : s.wf) {k : Nat} : (s.cleanLine k).wf := .ite h.writeLine.setLine h

theorem State.wf.refill {s : State} (h : s.wf) {x : WriteBack} {way : Option Nat} : (s.refill x way).wf := by
  unfold State.refill
  split
  · exact .ite h.waitWriteBack h.fillLine.touchWay
  · exact h

theorem State.wf.ackWriteBack {s : State} (h : s.wf) {x : WriteBack} : (s.ackWriteBack x).wf :=
  .ite h.cleanLine.update (.ite h.cleanLine.update.refill h.cleanLine.update.refill)

theorem State.wf.ackSet {s : State} (h : s.wf) {set : Nat} : (s.ackSet set).wf := by
  unfold State.ackSet
  split
  · exact h.ackWriteBack
  · exact h

theorem State.wf.mapAccess {s : State} (h : s.wf) {a g : Nat} : (s.mapAccess a g).wf := by
  unfold State.mapAccess
  refine .ite h.ackSet.ackSet.incF ?_
  split
  · exact .touchWay (.ite h.ackSet.ackSet.setLine h.ackSet.ackSet.incF)
  · refine .ite ?_ h.ackSet.ackSet.incF
    split
    · exact .touchWay (.fillLine (.ite h.ackSet.ackSet.incF.writeLine h.ackSet.ackSet.incF))
    · exact h.ackSet.ackSet.incF

theorem State.wf.mapPut {s : State} (h : s.wf) {a g : Nat} {v : Word} : (s.mapPut a g v).wf := by
  unfold State.mapPut
  refine .ite h.setDramEntry ?_
  split
  · exact .ite h.setLine h.setLine.setDramEntry
  · exact h.setDramEntry

/-! ### Machine/HostOps.lean -/

theorem State.wf.setChan {s : State} (h : s.wf) {n : Nat} {x : ShtChan} : (s.setChan n x).wf := h.update
theorem State.wf.shtForget {s : State} (h : s.wf) {n : Nat} : (s.shtForget n).wf := h.update

theorem State.wf.stopChan {s : State} (h : s.wf) {n ecode : Nat} : (s.stopChan n ecode).wf :=
  .ite (.shtForget (.setChan (.setFlag (.setF (.setFlag (.setF (.ite h.setFlag h))))))) h

theorem State.wf.stopShuttle {s : State} (h : s.wf) : s.stopShuttle.wf := h.foldl fun _ _ h => h.stopChan

theorem State.wf.ltrSync {s : State} (h : s.wf) : s.ltrSync.wf := by
  unfold State.ltrSync
  refine h.foldl fun _ _ h => ?_
  split
  · exact .ite h.setEp.send h
  · exact h

theorem State.wf.sayHello {s : State} (h : s.wf) : s.sayHello.wf := h.foldl fun _ _ h => h.send
theorem State.wf.slowClocks {s : State} (h : s.wf) : s.slowClocks.wf := h.foldl fun _ _ h => h.setF.setFlag
theorem State.wf.dumpWindows {s : State} (h : s.wf) : s.dumpWindows.wf := h.foldl fun _ _ h => h.setReg.setReg

theorem State.wf.halt {s : State} (h : s.wf) {cause kind mcode : Nat} {cq : Bool} {ring index unit detail : Nat} :
    (s.halt cause kind mcode cq ring index unit detail).wf := by
  unfold State.halt
  extract_lets s1 v s2 _ m _ d s3 s4 s5
  have h1 : s1.wf := h.logRec.bumpFree
  refine .ite h1 ?_
  have h3 : s3.wf := (h1.setReg.setReg.forget (dump := d) rfl).update.stopShuttle.raiseEvent
  have h4 : s4.wf := .ite (h3.foldl fun _ _ h => h.aer) h3
  have h5 : s5.wf := h4.dumpWindows.setF.setFlag.setF.slowClocks.ltrSync
  exact .ite h5.sayHello h5

theorem State.wf.ringHalt {s : State} (h : s.wf) {mcode : Nat} {cq : Bool} {ring index : Nat} : (s.ringHalt mcode cq ring index).wf :=
  h.halt

theorem State.wf.xlatTouch {s : State} (h : s.wf) {e addr len : Nat} : (s.xlatTouch e addr len).wf := h.update
theorem State.wf.xlatAdd {s : State} (h : s.wf) {l : List AtsEntry} : (s.xlatAdd l).wf := h.update

theorem State.wf.hostRead {s : State} (h : s.wf) {e : Nat} {rd : Reader} {addr len : Nat} {ats : Bool} :
    (s.hostRead e rd addr len ats).1.wf := by
  unfold State.hostRead
  split
  · exact h
  · dsimp only
    exact .ite h.update.send h.update.xlatTouch.send

theorem State.wf.hostWrite {s : State} (h : s.wf) {e : Nat} {rd : Reader} {addr : Nat} {ats ep_ : Bool} {bytes : List Byte} :
    (s.hostWrite e rd addr ats ep_ bytes).wf := by
  unfold State.hostWrite
  extract_lets on
  refine .ite ?_ h.xlatTouch.send
  split
  · exact h
  · exact h.update.send

/-! ### Machine/RingOps.lean -/

theorem State.wf.setSub {s : State} (h : s.wf) {r : Nat} {x : SubRing} : (s.setSub r x).wf := h.update
theorem State.wf.setCpl {s : State} (h : s.wf) {q : Nat} {x : CplRing} : (s.setCpl q x).wf := h.update
theorem State.wf.cqVector {s : State} (h : s.wf) {q : Nat} : (s.cqVector q).wf := .ite h.setCpl.msixDue h.setCpl
theorem State.wf.coalesce {s : State} (h : s.wf) {q : Nat} {irq : Bool} : (s.coalesce q irq).wf := .ite (.ite h.cqVector h.setCpl) h

theorem State.wf.recWrite {s : State} (h : s.wf) {q e addr : Nat} {ats : Bool} {bytes : List Byte} {irq : Bool} :
    (s.recWrite q e addr ats bytes irq).wf :=
  .ite h.satF.ringHalt (.ite h.hostWrite h.hostWrite.coalesce)

theorem State.wf.writeRec {s : State} (h : s.wf) {q : Nat} {x : CplRec} : (s.writeRec q x).wf := .ite h.recWrite h.recWrite.setF
theorem State.wf.setFetchStop {s : State} (h : s.wf) {q : Nat} {b : Bool} : (s.setFetchStop q b).wf := h.foldl fun _ _ h => h.setFlag
theorem State.wf.backpressure {s : State} (h : s.wf) {q : Nat} : (s.backpressure q).wf := .ite h h.setFlag.setFlag.cqVector

theorem State.wf.holdRec {s : State} (h : s.wf) {q : Nat} {x : CplRec} : (s.holdRec q x).wf :=
  .ite h.setCpl.setF.backpressure.setFetchStop h.setCpl.setF.backpressure

theorem State.wf.pushRec {s : State} (h : s.wf) {q : Nat} {x : CplRec} : (s.pushRec q x).wf := .ite h.writeRec h.holdRec

/-- Records held in a completion unit's place go out in turn while the ring has room. -/
theorem State.wf.drainHolding {s : State} (h : s.wf) {q n : Nat} : (State.drainHolding q n s).wf := by
  fun_induction State.drainHolding q n s with
  | case3 n s x xs hx hroom ih => exact ih h.setCpl.setF.writeRec
  | _ => exact h

theorem State.wf.holdingFreed {s : State} (h : s.wf) {q : Nat} : (s.holdingFreed q).wf :=
  .ite h.drainHolding.setFlag.setFetchStop h.drainHolding.backpressure

theorem State.wf.recRetry {s : State} (h : s.wf) : s.recRetry.wf := h.foldl fun _ _ h => .ite h h.holdingFreed
theorem State.wf.inflightDone {s : State} (h : s.wf) {r n : Nat} : (s.inflightDone r n).wf := .ite h.setF.setFlag.setFlag.setF h.setF
theorem State.wf.flushBatches {s : State} (h : s.wf) {r : Nat} : (s.flushBatches r).wf := h.setSub.foldl fun _ _ h => h.pushRec
theorem State.wf.fenceSync {s : State} (h : s.wf) {r : Nat} : (s.fenceSync r).wf := h.setFlag

theorem State.wf.completeEntry {s : State} (h : s.wf) {r num status result : Nat} : (s.completeEntry r num status result).wf :=
  h.setSub.flushBatches.inflightDone

theorem State.wf.completeCalls {s : State} (h : s.wf) {cs : List Call} {status result : Nat} : (s.completeCalls cs status result).wf :=
  h.foldl fun _ _ h => h.completeEntry

theorem State.wf.postOrStall {s : State} (h : s.wf) {th : Nat} {cs : List Call} {status result : Nat} :
    (s.postOrStall th cs status result).1.wf := by
  unfold State.postOrStall
  split
  · exact h
  · exact .fstIte h.completeCalls h.setCpl

/-! ### Machine/FtlOps.lean -/

theorem State.wf.putSlot {s : State} (h : s.wf) {i : Nat} {x : Slot} : (s.putSlot i x).wf := h.update
theorem State.wf.setSlot {s : State} (h : s.wf) {i : Nat} {x : Slot} : (s.setSlot i x).wf := h.putSlot.mirror
theorem State.wf.putMarker {s : State} (h : s.wf) {m : Marker} : (s.putMarker m).wf := .ite h.update.mirror h
theorem State.wf.setArr {s : State} (h : s.wf) {a : Nat} {x : ArrayInfo} : (s.setArr a x).wf := h.update.mirror
theorem State.wf.setBand {s : State} (h : s.wf) {a b : Nat} {x : Band} : (s.setBand a b x).wf := h.update
theorem State.wf.setSled {s : State} (h : s.wf) {n : Nat} {x : Sled} : (s.setSled n x).wf := h.update

theorem State.wf.mirrorRegs {s : State} (h : s.wf) {old : State} {a : Nat} : (s.mirrorRegs old a).wf :=
  .ite (h.foldl fun _ _ h => h.mirror) h

theorem State.wf.paceAfresh {s : State} (h : s.wf) {a : Nat} : (s.paceAfresh a).wf := h.update

theorem State.wf.syncArray {s : State} (h : s.wf) {a : Nat} : (s.syncArray a).wf := by
  unfold State.syncArray
  split
  · exact h
  · exact .mirrorRegs (.setFlag (.setFlag (.setFlag (.ite h.setF.setF.setF.setF.paceAfresh h.setF.setF.setF.setF))))

theorem State.wf.syncDlog {s : State} (h : s.wf) : s.syncDlog.wf := h.setF

theorem State.wf.appendDelta {s : State} (h : s.wf) {kind a key : Nat} {value : Word} : (s.appendDelta kind a key value).wf :=
  h.update.syncDlog.mirror

theorem State.wf.setEword {s : State} (h : s.wf) {n b : Nat} {e : EWord} : (s.setEword n b e).wf := h.update.mirror.appendDelta
theorem State.wf.setBandLogged {s : State} (h : s.wf) {a b : Nat} {x : Band} : (s.setBandLogged a b x).wf := h.setBand.mirror.appendDelta
theorem State.wf.countValid {s : State} (h : s.wf) {a pga : Nat} {up : Bool} : (s.countValid a pga up).wf := h.setBand.setF

theorem State.wf.applyEntry {s : State} (h : s.wf) {a g low : Nat} : (s.applyEntry a g low).wf :=
  .syncArray (.mapPut (.mapAccess (.ite (.countValid (.ite h.countValid h)) (.ite h.countValid h))))

theorem State.wf.logEntry {s : State} (h : s.wf) {a g low : Nat} : (s.logEntry a g low).wf := h.applyEntry.appendDelta
theorem State.wf.syncDirty {s : State} (h : s.wf) : s.syncDirty.wf := h.setF

theorem State.wf.mirrorVersion {s : State} (h : s.wf) {seq : Nat} : (s.mirrorVersion seq).wf := by
  unfold State.mirrorVersion
  refine .ite ?_ h
  split
  · exact h.mirror
  · exact h

theorem State.wf.putVersion {s : State} (h : s.wf) {v : Version} : (s.putVersion v).wf := h.update

theorem State.wf.storeBlock {s : State} (h : s.wf) {a blk : Nat} {i : Info} : (s.storeBlock a blk i).wf := by
  unfold State.storeBlock
  dsimp only
  split
  · exact .ite h.update h.putVersion
  · exact h.update

theorem State.wf.setRegion {s : State} (h : s.wf) {r : Nat} {b : Bool} : (s.setRegion r b).wf := h.update.setF.mirror
theorem State.wf.setCentry {s : State} (h : s.wf) {e : Nat} {x : CEntry} : (s.setCentry e x).wf := h.update.setF.mirror
theorem State.wf.clearRegion {s : State} (h : s.wf) {a b : Nat} : (s.clearRegion a b).wf := .ite h h.setRegion
theorem State.wf.dropEntry {s : State} (h : s.wf) {e : Nat} : (s.dropEntry e).wf := h.update

theorem State.wf.freeEntryOf {s : State} (h : s.wf) {e : Nat} : (s.freeEntryOf e).wf :=
  h.dropEntry.update.mirror.setCentry.syncDirty.clearRegion

theorem State.wf.reapEntry {s : State} (h : s.wf) {e : Nat} : (s.reapEntry e).wf := .ite h.freeEntryOf h
theorem State.wf.reapAll {s : State} (h : s.wf) : s.reapAll.wf := h.foldl fun _ _ h => h.reapEntry
theorem State.wf.setGather {s : State} (h : s.wf) {a c : Nat} {fg : Bool} {x : Gather} : (s.setGather a c fg x).wf := h.update
theorem State.wf.setJobs {s : State} (h : s.wf) {l : List StripeJob} : (s.setJobs l).wf := h.update
theorem State.wf.stripeFull {s : State} (h : s.wf) {a c : Nat} {fg : Bool} : (s.stripeFull a c fg).wf := .ite h.setGather.setJobs h

theorem State.wf.placeVersion {s : State} (h : s.wf) {v : Version} : (s.placeVersion v).wf :=
  h.putVersion.setGather.mirrorVersion.stripeFull

theorem State.wf.forceOut {s : State} (h : s.wf) {a c : Nat} {fg : Bool} : (s.forceOut a c fg).wf := .ite h.setGather.setJobs h
theorem State.wf.forceAll {s : State} (h : s.wf) {p : Nat → Bool} : (s.forceAll p).wf := h.foldl fun _ _ h => .ite h.forceOut h

theorem State.wf.placeGrains {s : State} (h : s.wf) {l : List (Nat × Nat)} : (s.placeGrains l).wf := by
  unfold State.placeGrains
  refine h.foldl fun _ _ h => ?_
  split
  · exact h.placeVersion
  · exact h

theorem State.wf.regather {s : State} (h : s.wf) {e : Nat} : (s.regather e).wf := h.dropEntry.foldl fun _ _ h => h.placeVersion

theorem State.wf.closeBand {s : State} (h : s.wf) {a b : Nat} {early pfail : Bool} : (s.closeBand a b early pfail).wf :=
  .ite h.setBandLogged (.ite h.setBandLogged h)

theorem State.wf.abandonEntry {s : State} (h : s.wf) {e : Nat} {pfail : Bool} : (s.abandonEntry e pfail).wf :=
  .ite (.ite h.setCentry.closeBand.regather h.setCentry.closeBand) h

theorem State.wf.passStep6 {s : State} (h : s.wf) {a g seq : Nat} : (s.passStep6 a g seq).wf := h.update.mirrorVersion.mirror.reapAll

/-! ### Machine/LostOps.lean -/

theorem State.wf.syncLost {s : State} (h : s.wf) : s.syncLost.wf := h.update.setF.setF.mirror

theorem State.wf.addLostGrain {s : State} (h : s.wf) {a g vseq : Nat} : (s.addLostGrain a g vseq).wf :=
  .ite h (.ite h.incF.update.syncLost h.incF.setFlag.healthEvent)

theorem State.wf.freeLostGrain {s : State} (h : s.wf) {a g : Nat} : (s.freeLostGrain a g).wf := h.update.syncLost

theorem State.wf.findLost {s : State} (h : s.wf) {found a b st : Nat} {x : StripeLoss} : (s.findLost found a b st x).wf :=
  .syncLost (.foldl (.ite h.update (.setBandLogged (.logArrayOpen (.ite h.update.update.incF.setFlag h.update.update.incF)))) fun _ _ h =>
    h.addLostGrain)

theorem State.wf.syncRun {s : State} (h : s.wf) {a : Nat} : (s.syncRun a).wf := .ite h h.setFlag.setF.mirrorRegs

theorem State.wf.enterArrayState {s : State} (h : s.wf) {a st : Nat} : (s.enterArrayState a st).wf :=
  .ite h h.setF.setF.setFlag.raiseEvent.logArrayOpen

theorem State.wf.syncMembers {s : State} (h : s.wf) {a : Nat} : (s.syncMembers a).wf :=
  .ite h (.mirrorRegs (.enterArrayState (.syncRun (.ite h.setF.setF.setF.setFlag.setF.setF.setF
    h.setF.setF.setF.setFlag.setF.setF.setF.setF.setF.setF))))

/-! ### Machine/Threads.lean -/

theorem State.wf.setThr {s : State} (h : s.wf) {th : Nat} {t : Thread} : (s.setThr th t).wf := h.update
theorem State.wf.setSkein {s : State} (h : s.wf) {c i : Nat} {x : Info} : (s.setSkein c i x).wf := h.update
theorem State.wf.markSkeins {s : State} (h : s.wf) {c : Nat} {l : List Nat} {b : Bool} : (s.markSkeins c l b).wf := h.update
theorem State.wf.allocRun {s : State} (hs : s.wf) {th h n : Nat} : (s.allocRun th h n).wf := hs.markSkeins.setThr
theorem State.wf.freeRun {s : State} (hs : s.wf) {th h : Nat} : (s.freeRun th h).wf := hs.markSkeins.setThr
theorem State.wf.freeRuns {s : State} (h : s.wf) {th : Nat} : (s.freeRuns th).wf := h.markSkeins.setThr
theorem State.wf.setRunInfo {s : State} (hs : s.wf) {th h k : Nat} {x : Info} : (s.setRunInfo th h k x).wf := hs.setSkein

theorem State.wf.putInfos {s : State} (hs : s.wf) {th h k : Nat} {l : List Info} : (s.putInfos th h k l).wf :=
  hs.foldl fun _ _ h => h.setSkein

theorem State.wf.setRunWord {s : State} (hs : s.wf) {th h off : Nat} {w : Word} : (s.setRunWord th h off w).wf := hs.setRunInfo
theorem State.wf.setSideWord {s : State} (hs : s.wf) {th h off : Nat} {w : Word} : (s.setSideWord th h off w).wf := hs.setRunInfo
theorem State.wf.asyncDone {s : State} (h : s.wf) {th id outcome : Nat} : (s.asyncDone th id outcome).wf := h.setThr

theorem State.wf.startThread {s : State} (h : s.wf) {th pattern : Nat} {g : List Word} {g8 g9 : Word} {perm : Nat} :
    (s.startThread th pattern g g8 g9 perm).wf :=
  h.setThr

theorem State.wf.reapExtents {s : State} (h : s.wf) : s.reapExtents.wf := h.update

theorem State.wf.tellStarter {s : State} (h : s.wf) {th status : Nat} : (s.tellStarter th status).wf := by
  unfold State.tellStarter
  split
  · exact h.asyncDone.setThr
  · exact h.setThr.send
  · exact h

theorem State.wf.freeHelper {s : State} (h : s.wf) {th : Nat} : (s.freeHelper th).wf := by
  unfold State.freeHelper
  split
  · exact h.setThr
  · exact h

theorem State.wf.finishThread {s : State} (h : s.wf) {th : Nat} : (s.finishThread th).wf :=
  h.tellStarter.freeHelper.freeRuns.update.setThr.reapAll.reapExtents

theorem State.wf.leaveEngine {s : State} (h : s.wf) {th : Nat} : (s.leaveEngine th).wf := .ite h.update.setFlag h

theorem State.wf.endThread {s0 : State} (h : s0.wf) {th : Nat} : (s0.endThread th).wf :=
  .ite h.leaveEngine.setThr.finishThread h.leaveEngine.setThr

theorem State.wf.abandonOwned {s : State} (h : s.wf) {th : Nat} : (s.abandonOwned th).wf := h.foldl fun _ _ h => .ite h.abandonEntry h

theorem State.wf.logFault {s : State} (h : s.wf) {th status trap pc : Nat} {w : Word} : (s.logFault th status trap pc w).wf :=
  .ite h.update.setF.setF.setFlag h.update.setF.setF

theorem State.wf.countWorkFault {s : State} (h : s.wf) {th : Nat} : (s.countWorkFault th).wf := .ite (.ite h.update.healthEvent h.update) h

theorem State.wf.settleFault {s : State} (h : s.wf) {th status trap pc : Nat} {w : Word} : (s.settleFault th status trap pc w).wf :=
  .endThread (.ite h.abandonOwned.logFault.countWorkFault h.abandonOwned.logFault.postOrStall)

theorem State.wf.threadFault {s : State} (h : s.wf) {th status trap pc : Nat} {w : Word} : (s.threadFault th status trap pc w).wf :=
  .ite h.settleFault h.setThr

theorem State.wf.issue {s : State} (h : s.wf) {th : Nat} {want : IWord → Bool} {body : IWord → State → State}
    (hbody : ∀ i t, t.wf → (body i t).wf) : (s.issue th want body).wf :=
  .ite h (.ite h.threadFault (.ite h.threadFault (.ite h.setThr (.ite h.threadFault (hbody _ _ h.setThr)))))

theorem State.wf.faultAt {s : State} (h : s.wf) {th status trap : Nat} : (s.faultAt th status trap).wf := h.threadFault
theorem State.wf.wr {s : State} (h : s.wf) {th n : Nat} {v : Word} : (s.wr th n v).wf := h.setThr

theorem State.wf.async {s : State} (h : s.wf) {th : Nat} {i : IWord} {wait : AsyncWait} {outcome : Nat} {wr rd : List Nat} :
    (s.async th i wait outcome wr rd).wf :=
  h.setThr

/-! ### Machine/Alu.lean -/

theorem State.wf.alu {s : State} (h : s.wf) {th op : Nat} {f : Thread → IWord → Word} : (s.alu th op f).wf := h.issue fun _ _ h => h.wr
@[simp] theorem State.wf.execAdd {s : State} (h : s.wf) {th : Nat} : wfAfter (execAdd th s) := h.alu
@[simp] theorem State.wf.execAddi {s : State} (h : s.wf) {th : Nat} : wfAfter (execAddi th s) := h.alu
@[simp] theorem State.wf.execSub {s : State} (h : s.wf) {th : Nat} : wfAfter (execSub th s) := h.alu
@[simp] theorem State.wf.execAnd {s : State} (h : s.wf) {th : Nat} : wfAfter (execAnd th s) := h.alu
@[simp] theorem State.wf.execAndi {s : State} (h : s.wf) {th : Nat} : wfAfter (execAndi th s) := h.alu
@[simp] theorem State.wf.execOr {s : State} (h : s.wf) {th : Nat} : wfAfter (execOr th s) := h.alu
@[simp] theorem State.wf.execOri {s : State} (h : s.wf) {th : Nat} : wfAfter (execOri th s) := h.alu
@[simp] theorem State.wf.execXor {s : State} (h : s.wf) {th : Nat} : wfAfter (execXor th s) := h.alu
@[simp] theorem State.wf.execXori {s : State} (h : s.wf) {th : Nat} : wfAfter (execXori th s) := h.alu
@[simp] theorem State.wf.execShl {s : State} (h : s.wf) {th : Nat} : wfAfter (execShl th s) := h.alu
@[simp] theorem State.wf.execShli {s : State} (h : s.wf) {th : Nat} : wfAfter (execShli th s) := h.alu
@[simp] theorem State.wf.execShr {s : State} (h : s.wf) {th : Nat} : wfAfter (execShr th s) := h.alu
@[simp] theorem State.wf.execShri {s : State} (h : s.wf) {th : Nat} : wfAfter (execShri th s) := h.alu
@[simp] theorem State.wf.execSar {s : State} (h : s.wf) {th : Nat} : wfAfter (execSar th s) := h.alu
@[simp] theorem State.wf.execSari {s : State} (h : s.wf) {th : Nat} : wfAfter (execSari th s) := h.alu
@[simp] theorem State.wf.execMul {s : State} (h : s.wf) {th : Nat} : wfAfter (execMul th s) := h.alu
@[simp] theorem State.wf.execMulhu {s : State} (h : s.wf) {th : Nat} : wfAfter (execMulhu th s) := h.alu
@[simp] theorem State.wf.execDivu {s : State} (h : s.wf) {th : Nat} : wfAfter (execDivu th s) := h.alu
@[simp] theorem State.wf.execRemu {s : State} (h : s.wf) {th : Nat} : wfAfter (execRemu th s) := h.alu
@[simp] theorem State.wf.execMinu {s : State} (h : s.wf) {th : Nat} : wfAfter (execMinu th s) := h.alu
@[simp] theorem State.wf.execMaxu {s : State} (h : s.wf) {th : Nat} : wfAfter (execMaxu th s) := h.alu
@[simp] theorem State.wf.execMovhi {s : State} (h : s.wf) {th : Nat} : wfAfter (execMovhi th s) := h.alu
@[simp] theorem State.wf.execClz {s : State} (h : s.wf) {th : Nat} : wfAfter (execClz th s) := h.alu
@[simp] theorem State.wf.execPopc {s : State} (h : s.wf) {th : Nat} : wfAfter (execPopc th s) := h.alu
@[simp] theorem State.wf.execBfx {s : State} (h : s.wf) {th : Nat} : wfAfter (execBfx th s) := h.issue fun _ _ h => .ite h.faultAt h.wr
@[simp] theorem State.wf.execBfi {s : State} (h : s.wf) {th : Nat} : wfAfter (execBfi th s) := h.issue fun _ _ h => .ite h.faultAt h.wr
@[simp] theorem State.wf.execNop {s : State} (h : s.wf) {th : Nat} : wfAfter (execNop th s) := h.issue fun _ _ h => h
@[simp] theorem State.wf.execReservedOpcode {s : State} (h : s.wf) {th : Nat} : wfAfter (execReservedOpcode th s) := h.issue fun _ _ h => h

/-! ### Machine/DumpOps.lean -/

theorem State.wf.setDumpSlot {s : State} (h : s.wf) {i : Nat} {d : Option Dump} : (s.setDumpSlot i d).wf :=
  h.updateDump (by split <;> rfl)

theorem State.wf.syncVaddr {s : State} (h : s.wf) : s.syncVaddr.wf := by
  unfold State.syncVaddr
  split <;> exact h.setF.setFlag

theorem State.wf.saveDump {s : State} (h : s.wf) {d : Dump} (hd : d.mem.wf) : (s.saveDump d).wf :=
  (h.placeInVault hd).setDumpSlot.syncVaddr

theorem State.wf.cutDump {s : State} (h : s.wf) : s.cutDump.wf := by
  unfold State.cutDump
  split
  · exact .ite (h.placeInVault (Tbl.wf_nil _)).setDumpSlot.syncVaddr h
  · exact h

/-- The dump that moves is the one in DRAM, and the region it leaves is a selection of DRAM. -/
theorem State.wf.moveDump {s : State} (h : s.wf) : s.moveDump.wf := by
  unfold State.moveDump
  split
  case h_1 d hd =>
    extract_lets s1
    have h1 : s1.wf := .ite (h.saveDump (h.dumpInDram hd)) h
    exact (h1.forget (dump := { s1.dump with inDram := none }) rfl).filterDram
  case h_2 => exact h

/-! ### Machine/SledOps.lean -/

theorem State.wf.setPort {s : State} (h : s.wf) {p : Nat} {x : Port} : (s.setPort p x).wf := h.update

theorem State.wf.pumpPort {s : State} (h : s.wf) {p n : Nat} : (s.pumpPort p n).wf := by
  induction n generalizing s with
  | zero => exact h
  | succ n ih =>
    simp only [State.pumpPort]
    refine .ite h ?_
    repeat' split
    all_goals first | exact h | exact ih h.setPort.send

theorem State.wf.pump {s : State} (h : s.wf) {p : Nat} : (s.pump p).wf := h.pumpPort
theorem State.wf.setHop {s : State} (hs : s.wf) {p h : Nat} {x : Hop} : (s.setHop p h x).wf := hs.update

theorem State.wf.chargeShare {s : State} (h : s.wf) {n : Nat} {sh : Share} {cost : Nat} : (s.chargeShare n sh cost).wf := by
  unfold State.chargeShare
  dsimp only
  split
  · exact h.setSled
  · exact h.setSled
  · exact h.setSled
  · exact .ite h h.setSled

theorem State.wf.keepCommand {s : State} (h : s.wf) {p : Nat} {c : SledCmd} : (s.keepCommand p c).wf := h.setPort
theorem State.wf.returnCredit {s : State} (h : s.wf) {p ctrl bulk : Nat} : (s.returnCredit p ctrl bulk).wf := h.send

/-- A command to a sled, sent or kept. The number of tags is generalised, so that the search for a free one is not evaluated. -/
theorem State.wf.issueSled {s : State} (h : s.wf) {p : Nat} {c : SledCmd} : (s.issueSled p c).wf := by
  unfold State.issueSled
  generalize s.sledCmds.fresh (sledKey p 0) 512 = tag
  cases tag with
  | none => exact h.keepCommand
  | some k =>
    refine .ite h.keepCommand (State.wf.pump (State.wf.setPort (State.wf.update ?_)))
    cases c.sled with
    | none => exact h
    | some n => exact h.chargeShare

theorem State.wf.sendSled {s : State} (h : s.wf) {n : Nat} {kind : SledKind} {array : Nat} {scope : Bool} {why : Purpose} {share : Share} :
    (s.sendSled n kind array scope why share).wf := by
  unfold State.sendSled
  exact h.issueSled

theorem State.wf.sendHop {s : State} (hs : s.wf) {p h : Nat} {kind : SledKind} {why : Purpose} : (s.sendHop p h kind why).wf := hs.issueSled

theorem State.wf.tryWaiting {s : State} (h : s.wf) {p n : Nat} {l : List SledCmd} : (s.tryWaiting p n l).wf := by
  induction n generalizing s l with
  | zero => exact h
  | succ n ih =>
    unfold State.tryWaiting
    split
    · exact h
    · exact ih h.setPort.issueSled

theorem State.wf.retryWaiting {s : State} (h : s.wf) {p : Nat} : (s.retryWaiting p).wf := h.tryWaiting
theorem State.wf.endSled {s : State} (h : s.wf) {p t : Nat} : (s.endSled p t).wf := h.update.retryWaiting
theorem State.wf.setSledHealth {s : State} (h : s.wf) {n : Nat} {x : SledHealth} : (s.setSledHealth n x).wf := h.update

theorem State.wf.countCodeword {s : State} (h : s.wf) {n step : Nat} : (s.countCodeword n step).wf :=
  .ite h (.ite h.setSledHealth h.setSledHealth.logCorrected)

theorem State.wf.countUncorrectable {s : State} (h : s.wf) {n : Nat} : (s.countUncorrectable n).wf := h.setSledHealth.logOpen
theorem State.wf.setJob {s : State} (h : s.wf) {j : Nat} {x : ReadJob} : (s.setJob j x).wf := h.update

theorem State.wf.readCol {s : State} (h : s.wf) {j : Nat} {x : ReadJob} {k level : Nat} : (s.readCol j x k level).1.wf := by
  unfold State.readCol
  split
  · exact h
  · refine .fstIte h ?_
    dsimp only
    exact h.sendSled

theorem State.wf.readCols {s : State} (h : s.wf) {j : Nat} {x : ReadJob} {keys : List Nat} : (s.readCols j x keys).1.wf :=
  h.foldlFst fun _ _ h => h.readCol

theorem State.wf.recover {s : State} (h : s.wf) {x : ReadJob} {k step : Nat} {w : Info} : (s.recover x k step w).1.wf := h.countCodeword
theorem State.wf.giveUp {s : State} (h : s.wf) {x : ReadJob} {k : Nat} {last : Info} : (s.giveUp x k last).1.wf := h.countUncorrectable

theorem State.wf.solveCols {s : State} (h : s.wf) {x : ReadJob} {step : Nat} {cols : List Nat} : (s.solveCols x step cols).1.wf := by
  unfold State.solveCols
  refine h.foldlFst fun _ _ h => ?_
  dsimp only
  split
  · exact .fstIte h.recover h.giveUp
  · exact h
  · exact h

theorem State.wf.jointRound {s : State} (h : s.wf) {x : ReadJob} {iter : Nat} : (s.jointRound x iter).1.wf := by
  unfold State.jointRound
  refine h.foldlFst fun _ _ h => ?_
  split
  · exact .fstIte h.recover h
  · exact h

theorem State.wf.endAssist {s : State} (h : s.wf) {j : Nat} {x : ReadJob} : (s.endAssist j x).1.wf := by
  unfold State.endAssist
  extract_lets img lost own todo p q
  have hp : p.1.wf := h.solveCols
  have hq : q.1.wf := by
    refine hp.foldlFst fun r k h => ?_
    split
    · exact h.giveUp
    · exact h
  exact .fstIte h.readCols hq

theorem State.wf.runJoint {s : State} (h : s.wf) {j : Nat} {x : ReadJob} {n : Nat} : (s.runJoint j x n).1.wf := by
  induction n generalizing s x with
  | zero => exact h.endAssist
  | succ n ih =>
    have hr : (if x.iter = 0 then s.jointRound { x with iter := 1 } 1 else (s, x)).1.wf := .fstIte h.jointRound h
    simp only [State.runJoint]
    refine .fstIte h.readCols ?_
    split
    · exact .fstIte hr.readCols hr.solveCols.endAssist
    · exact .fstIte hr.endAssist (ih hr.jointRound)

theorem State.wf.assistJob {s : State} (h : s.wf) {j : Nat} {x : ReadJob} : (s.assistJob j x).1.wf := by
  unfold State.assistJob
  dsimp only
  split
  · split
    · exact h.giveUp
    · exact h
  · refine .fstIte h (.fstIte h.runJoint (.fstIte ?_ h.runJoint))
    split
    · exact h.endAssist
    · exact .fstIte h.readCols h.solveCols

theorem State.wf.noteXfer {s : State} (h : s.wf) {th id step : Nat} {bad : Bool} {status : Nat} :
    (s.noteXfer th id step bad status).wf := by
  unfold State.noteXfer
  split
  · split
    · exact .ite h.setThr.asyncDone h.setThr
    · exact h
  · exact h

theorem State.wf.endFetch {s : State} (h : s.wf) {j : Nat} {x : ReadJob} {th id place : Nat} {expect : Option (Nat × Nat)} :
    (s.endFetch j x th id place expect).wf := by
  unfold State.endFetch
  dsimp only
  split
  · exact h.update
  · split
    · exact h.update.setRunInfo.noteXfer
    · exact h.update.noteXfer
    · exact h.update.setRunInfo.noteXfer
    · exact h.update.setRunInfo.noteXfer
    · exact h.update.bumpFree.setRunInfo.noteXfer

theorem State.wf.endDevice {s : State} (h : s.wf) {j k : Nat} {x : ReadJob} : (s.endDevice j k x).wf := by
  unfold State.endDevice
  dsimp only
  split
  · exact h.update
  · exact h.update.update

theorem State.wf.endJob {s : State} (h : s.wf) {j : Nat} {x : ReadJob} : (s.endJob j x).wf := by
  unfold State.endJob
  split
  · exact h.endDevice
  · exact .ite h.setJob h.endFetch

theorem State.wf.unassisted {s : State} (h : s.wf) {x : ReadJob} : (s.unassisted x).wf := h.foldl fun _ _ h => h.countUncorrectable

theorem State.wf.settleJob {s : State} (h : s.wf) {j : Nat} {x : ReadJob} : (s.settleJob j x).wf :=
  .ite h.setJob (.ite h.unassisted.endJob (.ite h.assistJob.endJob h.assistJob.setJob))

theorem State.wf.runJob {s : State} (h : s.wf) {j n : Nat} : (s.runJob j n).wf := by
  induction n generalizing s with
  | zero => exact h
  | succ n ih =>
    unfold State.runJob
    split
    · exact h
    · exact .ite h (ih h.settleJob)

theorem State.wf.startJob {s : State} (h : s.wf) {x : ReadJob} : (s.startJob x).wf := by
  unfold State.startJob
  split
  · exact h.readCols.setJob.runJob
  · exact h

theorem State.wf.readErased {s : State} (h : s.wf) {j k : Nat} : (s.readErased j k).wf := by
  unfold State.readErased
  split
  · split
    · exact h.setJob.runJob
    · exact h
  · exact h

theorem State.wf.decoded {s : State} (h : s.wf) {j : Nat} {x : ReadJob} {k level : Nat} {planes : List Mem} {o : Bool × Info} :
    (s.decoded j x k level planes o).wf :=
  .ite h.recover.setJob.runJob (.ite h.readCol.setJob.runJob h.setJob.runJob)

theorem State.wf.columnData {s : State} (h : s.wf) {j k level seg : Nat} {raw : Mem} : (s.columnData j k level seg raw).wf := by
  unfold State.columnData
  split
  · exact h
  · split
    · refine .ite h (.ite (.ite h.countUncorrectable.setJob.runJob h.setJob.runJob) (.ite h.decoded ?_))
      dsimp only
      split
      · exact h.decoded
      · exact h.setJob
    · exact h

/-! ### Machine/BandOps.lean -/

theorem State.wf.writeRecord {s : State} (h : s.wf) {kind page count : Nat} {slots : List Byte} :
    (s.writeRecord kind page count slots).wf :=
  h.update.foldl fun _ _ h => h.send

theorem State.wf.nameBand {s : State} (h : s.wf) {a b : Nat} : (s.nameBand a b).wf := .ite h h.update.writeRecord

theorem State.wf.takeBlock {s : State} (h : s.wf) {a b n blk : Nat} {slc : Bool} : (s.takeBlock a b n blk slc).wf :=
  .ite h.setEword h.setEword.sendSled

theorem State.wf.openBand {s : State} (h : s.wf) {a b : Nat} {kind : BandKind} : (s.openBand a b kind).wf := by
  unfold State.openBand
  split
  · exact h
  · extract_lets r _ x s1 _ _ s2
    have h1 : s1.wf := by
      refine State.wf.foldlFst h fun p k h => ?_
      refine .fstIte h ?_
      split
      · exact h.takeBlock
      · exact h
    have h2 : s2.wf := h1.update
    exact h2.setBandLogged.syncArray

theorem State.wf.closeFull {s : State} (h : s.wf) {a c : Nat} {kind : BandKind} : (s.closeFull a c kind).wf := by
  unfold State.closeFull
  split
  · exact h.closeBand
  · exact h

theorem State.wf.openStripeAt {s : State} (h : s.wf) {c owner : Nat} {kind : BandKind} {a b st source : Nat} :
    (s.openStripeAt c owner kind a b st source).1.wf := by
  unfold State.openStripeAt
  split
  · exact h
  case h_2 e =>
    refine .fstIte h ?_
    extract_lets ready canName _
    have hready : ∀ s1, ready = some s1 → s1.wf := by
      intro s1 hs1
      simp only [ready] at hs1
      split at hs1
      · cases hs1; exact h
      · simp only [Option.ite_none_left_eq_some, Option.ite_none_right_eq_some, Option.some.injEq] at hs1
        obtain ⟨-, -, rfl⟩ := hs1
        exact h.closeFull.openBand
      · cases hs1
    clear_value ready
    cases ready with
    | none => exact .ite h.nameBand h
    | some s1 =>
      have h1 := hready s1 rfl
      exact ((h1.setRegion.update.foldl fun _ _ h => h.mirrorVersion).setBand).setCentry

theorem State.wf.openStripe {s : State} (h : s.wf) {th a b st source : Nat} : (s.openStripe th a b st source).1.wf := by
  unfold State.openStripe
  split
  · exact (h.openStripeAt.ofFst ‹_›).setThr
  · exact h.openStripeAt

theorem State.wf.interimSlot {s : State} (h : s.wf) {a cluster gen : Nat} : (s.interimSlot a cluster gen).1.wf := by
  unfold State.interimSlot
  split
  · exact .fstIte h.setBand h.closeBand
  · split
    · exact h
    · exact .fstIte h (.fstIte h.openBand.setBand h.nameBand)

theorem State.wf.syncSpace {s : State} (h : s.wf) {a : Nat} : (s.syncSpace a).wf :=
  .ite h.setFlag.healthEvent.syncMembers (.ite h.setFlag.syncMembers h)

theorem State.wf.closeIfFull {s : State} (h : s.wf) {a b : Nat} : (s.closeIfFull a b).wf := .ite h.closeBand h

theorem State.wf.closeStripe {s : State} (h : s.wf) {e : Nat} : (s.closeStripe e).wf :=
  .syncSpace (.closeIfFull (.ite h.freeEntryOf.update h.freeEntryOf))

theorem State.wf.abandonMember {s : State} (h : s.wf) {a b k : Nat} : (s.abandonMember a b k).wf := h.foldl fun _ _ h => h.abandonEntry
theorem State.wf.markFailed {s : State} (h : s.wf) {a b k : Nat} : (s.markFailed a b k).wf := h.setBand

theorem State.wf.programFailed {s : State} (h : s.wf) {e col : Nat} {interim onBlock : Bool} : (s.programFailed e col interim onBlock).wf :=
  .ite (.abandonMember (.closeBand (.abandonEntry (.ite (.markFailed (.ite (.closeBand (.ite h.markFailed h)) h)) (.ite (.closeBand (.ite
    h.markFailed h)) h))))) (.closeBand (.abandonEntry (.ite (.markFailed (.ite (.closeBand (.ite h.markFailed h)) h)) (.ite (.closeBand
    (.ite h.markFailed h)) h))))

theorem State.wf.retireBlock {s : State} (h : s.wf) {a n blk st : Nat} : (s.retireBlock a n blk st).wf :=
  .ite h.setEword.incF h.setEword.incF

theorem State.wf.finishErase {s : State} (h : s.wf) {a b : Nat} : (s.finishErase a b).wf :=
  (((h.foldl fun _ _ h => .ite h.setEword h).setBandLogged).syncArray).syncSpace

/-! ### Machine/Branch.lean -/

theorem State.wf.wp {s : State} (h : s.wf) {th i : Nat} {b : Bool} : (s.wp th i b).wf := h.setThr

theorem State.wf.compare {s : State} (h : s.wf) {th op : Nat} {y : Thread → IWord → Word} : (s.compare th op y).wf := by
  unfold State.compare
  refine h.issue fun _ _ h => ?_
  split
  · exact h.wp
  · exact h

@[simp] theorem State.wf.execCmp {s : State} (h : s.wf) {th : Nat} : wfAfter (execCmp th s) := h.compare
@[simp] theorem State.wf.execCmpi {s : State} (h : s.wf) {th : Nat} : wfAfter (execCmpi th s) := h.compare
@[simp] theorem State.wf.execPlog {s : State} (h : s.wf) {th : Nat} : wfAfter (execPlog th s) := h.issue fun _ _ h => h.wp
theorem State.wf.jumpTo {s : State} (h : s.wf) {th : Nat} {target : Int} : (s.jumpTo th target).wf := .ite h.setThr h.faultAt
@[simp] theorem State.wf.execBr {s : State} (h : s.wf) {th : Nat} : wfAfter (execBr th s) := h.issue fun _ _ h => h.jumpTo
@[simp] theorem State.wf.execJal {s : State} (h : s.wf) {th : Nat} : wfAfter (execJal th s) := h.issue fun _ _ h => h.wr.jumpTo
@[simp] theorem State.wf.execJr {s : State} (h : s.wf) {th : Nat} : wfAfter (execJr th s) := h.issue fun _ _ h => h.jumpTo

/-! ### Machine/Skeins.lean -/

@[simp] theorem State.wf.execSkalloc {s : State} (h : s.wf) {th : Nat} : wfAfter (execSkalloc th s) :=
  h.issue fun _ _ h => .ite h.faultAt (.ite h.faultAt (.ite h.allocRun (.ite h.wp h.setThr)))

@[simp] theorem State.wf.execSkallocResume {s : State} (h : s.wf) {th : Nat} : wfAfter (execSkallocResume th s) := by
  unfold Machine.execSkallocResume
  split
  · exact .ite h.setThr.allocRun h
  · exact h

@[simp] theorem State.wf.execSkfree {s : State} (h : s.wf) {th : Nat} : wfAfter (execSkfree th s) :=
  h.issue fun _ _ h => .ite h.faultAt h.freeRun

@[simp] theorem State.wf.execSkzero {s : State} (h : s.wf) {th : Nat} : wfAfter (execSkzero th s) :=
  h.issue fun _ _ h => .ite h.faultAt h.putInfos

@[simp] theorem State.wf.execLdk {s : State} (h : s.wf) {th : Nat} : wfAfter (execLdk th s) := h.issue fun _ _ h => .ite h.faultAt h.wr

@[simp] theorem State.wf.execStk {s : State} (h : s.wf) {th : Nat} : wfAfter (execStk th s) :=
  h.issue fun _ _ h => .ite h.faultAt (.ite h.setSideWord h.setRunWord)

/-! ### Machine/CommitOps.lean -/

theorem State.wf.checkedEntry {s : State} (h : s.wf) {a g : Nat} : (s.checkedEntry a g).1.wf :=
  .fstIte h.mapAccess (.fstIte h.mapAccess.mapPut.setDramEntry.logCorrected h.mapAccess.logOpen)

theorem State.wf.gatherFull {s : State} (h : s.wf) {a g : Nat} : (s.gatherFull a g).wf := by
  unfold State.gatherFull
  split
  · exact .ite h.placeVersion h
  · exact h

theorem State.wf.enterHoop {s : State} (h : s.wf) {l : List Staged} : (s.enterHoop l).wf := by
  unfold State.enterHoop
  refine ((h.foldl fun _ _ h => h.storeBlock).syncDirty).foldl fun _ _ h => .gatherFull ?_
  split
  · exact h.mirrorVersion
  · exact h

theorem State.wf.mirrorBlocks {s : State} (h : s.wf) {l : List Staged} : (s.mirrorBlocks l).wf := h.foldl fun _ _ h => h.mirror
theorem State.wf.setBankWaits {s : State} (h : s.wf) {l : List BankWait} : (s.setBankWaits l).wf := h.update

theorem State.wf.beginBankWait {s : State} (h : s.wf) {th : Nat} : (s.beginBankWait th).wf := by
  unfold State.beginBankWait
  dsimp only
  split <;> exact h.setBankWaits

theorem State.wf.endBankWait {s : State} (h : s.wf) {th : Nat} : (s.endBankWait th).wf := h.setBankWaits
theorem State.wf.setHealthy {s : State} (h : s.wf) {b : Bool} : (s.setHealthy b).wf := h.setBankWaits.setFlag

theorem State.wf.tryCommit {s : State} (h : s.wf) {th : Nat} {o : AsyncOp} : (s.tryCommit th o).wf := by
  unfold State.tryCommit
  split
  · exact .ite h.enterHoop.endBankWait.asyncDone h
  · exact h

theorem State.wf.dramWrite {s : State} (h : s.wf) {addr : Nat} {bs : List Byte} : (s.dramWrite addr bs).wf := by
  obtain ⟨hdram, hvault, hbar0, hdump⟩ := h
  exact ⟨Mem.wf_writeBytes bs hdram addr, hvault, hbar0, hdump⟩

/-! ### Machine/Writer.lean -/

theorem State.wf.endLoss {s : State} (h : s.wf) {a g seq : Nat} : (s.endLoss a g seq).wf := .ite h.freeLostGrain h

theorem State.wf.mapup {s : State} (h : s.wf) {a g cond d low : Nat} : (s.mapup a g cond d low).wf :=
  .ite (.ite h.logEntry.passStep6.endLoss h.logEntry) h.mapAccess

theorem State.wf.sendProgram {s : State} (h : s.wf) {th id e col : Nat} {interim : Bool} {first : Nat} {words : List Info} :
    (s.sendProgram th id e col interim first words).wf := by
  unfold State.sendProgram
  split
  · exact h.asyncDone
  · exact h.sendSled

theorem State.wf.setWorks {s : State} (h : s.wf) {l : List StripeWork} : (s.setWorks l).wf := h.update
theorem State.wf.putWork {s : State} (h : s.wf) {w : StripeWork} : (s.putWork w).wf := h.setWorks
theorem State.wf.dropWorks {s : State} (h : s.wf) : s.dropWorks.wf := h.setWorks

theorem State.wf.putProgram {s : State} (h : s.wf) {e col : Nat} {interim : Bool} {first : Nat} {words : List Info} :
    (s.putProgram e col interim first words).wf :=
  .ite h.sendProgram h.update

theorem State.wf.releaseHeld {s : State} (h : s.wf) : s.releaseHeld.wf := h.update.foldl fun _ _ h => .ite h.sendProgram h

theorem State.wf.startRound {s : State} (h : s.wf) {w : StripeWork} {lo : Nat} {interim : Bool} {stage : WorkStage} :
    (s.startRound w lo interim stage).wf :=
  (h.setCentry.putWork.foldl fun _ _ h => h.putProgram).foldl fun _ _ h => h.putProgram

theorem State.wf.sealGather {s : State} (h : s.wf) {a c : Nat} {fg : Bool} : (s.sealGather a c fg).wf := by
  unfold State.sealGather
  dsimp only
  split
  · exact h
  · exact .ite h h.setGather.setJobs.closeBand.placeGrains

theorem State.wf.logUnsealed {s : State} (h : s.wf) {a : Nat} {g : Nat × Nat} : (s.logUnsealed a g).wf := by
  unfold State.logUnsealed
  dsimp only
  split
  · exact h
  · exact h.foldl fun _ _ h => .ite h h.logOpen

theorem State.wf.startJobRound {s : State} (h : s.wf) {j : StripeJob} {w : StripeWork} : (s.startJobRound j w).wf := by
  unfold State.startJobRound
  extract_lets fmt fresh add gs w1 s0 gen
  have h0 : s0.wf := h.setJobs.foldl fun _ _ h => h.logUnsealed
  split
  · refine .ite h0 (.ite h0.sealGather ?_)
    split
    · exact (h0.interimSlot.ofFst ‹_›).setCentry.startRound
    · exact (h0.interimSlot.ofFst ‹_›).setJobs
  · exact h0.startRound

theorem State.wf.nextPlace {s : State} (h : s.wf) {a c : Nat} {kind : BandKind} : (s.nextPlace a c kind).1.wf := by
  unfold State.nextPlace
  split
  · exact .fstIte h h.closeFull
  · exact h

theorem State.wf.openWork {s : State} (h : s.wf) {a c : Nat} {kind : BandKind} {source : Nat} : (s.openWork a c kind source).1.wf := by
  unfold State.openWork
  split
  · exact h.nextPlace.ofFst ‹_›
  · split
    · exact (((h.nextPlace.ofFst ‹_›).openStripeAt).ofFst ‹_›).setWorks
    · exact (h.nextPlace.ofFst ‹_›).openStripeAt

theorem State.wf.gatherAgain {s : State} (h : s.wf) {j : StripeJob} : (s.gatherAgain j).wf :=
  .ite h.setJobs.setGather.placeGrains.forceAll h.setJobs.placeGrains

theorem State.wf.openJob {s : State} (h : s.wf) {j : StripeJob} : (s.openJob j).wf := by
  unfold State.openJob
  split
  · exact .ite h (.ite h.gatherAgain h.openWork)
  · exact h

theorem State.wf.runStripeJob {s : State} (h : s.wf) {j : StripeJob} : (s.runStripeJob j).wf := by
  unfold State.runStripeJob
  split
  · exact .ite h.startJobRound h
  · exact h

theorem State.wf.writeCopies {s : State} (h : s.wf) {key : Nat} {pad : Bool} : (s.writeCopies key pad).wf := by
  unfold State.writeCopies
  refine .ite h ?_
  split
  · split
    · exact ((h.openWork.ofFst ‹_›).update).startRound
    · exact h.openWork.ofFst ‹_›
  · exact h.openWork.ofFst ‹_›

theorem State.wf.drive {s : State} (h : s.wf) : s.drive.wf := by
  unfold State.drive
  refine .ite h ?_
  extract_lets s0 s1 sA s2
  have h1 : s1.wf := h.dropWorks.foldl fun _ _ h => .ite h.openJob h
  have hA : sA.wf := h1.foldl fun _ _ h => h.runStripeJob
  have h2 : s2.wf := hA.foldl fun _ _ h => h.runStripeJob
  exact .ite (h2.foldl fun _ _ h => h.writeCopies) h2

theorem State.wf.stepSix {s : State} (h : s.wf) {w : StripeWork} {hi : Nat} : (s.stepSix w hi).wf := h.foldl fun _ _ h => h.mapup
theorem State.wf.settleReads {s : State} (h : s.wf) : s.settleReads.wf := h.foldl fun _ _ h => .ite h h.update.setBand.syncMembers

theorem State.wf.finishRound {s : State} (h : s.wf) {w : StripeWork} : (s.finishRound w).wf := by
  unfold State.finishRound
  dsimp only
  split
  · exact .ite h (.ite h.setFlag h.setCentry.putWork.stepSix.settleReads)
  · exact .ite h (.ite h.setFlag h.stepSix.setCentry.putWork.settleReads)
  · exact .ite h.setWorks.closeStripe h
  · exact h

theorem State.wf.settleWorks {s : State} (h : s.wf) : s.settleWorks.wf := by
  unfold State.settleWorks
  refine (((h.foldl fun _ _ h => ?_).foldl fun _ _ h => ?_).settleReads).drive
  · split
    · exact h.finishRound
    · exact h
  · split
    · exact h.finishRound
    · exact h

theorem State.wf.workAcked {s : State} (h : s.wf) {e col : Nat} {interim : Bool} : (s.workAcked e col interim).wf := by
  unfold State.workAcked
  split
  · exact h
  · exact h.setCentry.putWork.settleWorks

/-! ### Machine/Movement.lean -/

theorem State.wf.moveOp {s : State} (h : s.wf) {th : Nat} {i : IWord} {wait : AsyncWait} {outcome : Nat} {wr rd : List Nat} {f : Xfer} :
    (s.moveOp th i wait outcome wr rd f).wf :=
  h.async.setThr

theorem State.wf.countDeny {s : State} (h : s.wf) {outcome : Nat} : (s.countDeny outcome).wf := .ite h.satF h

theorem State.wf.fetchHost {s : State} (h : s.wf) {th : Nat} {i : IWord} : (s.fetchHost th i).wf :=
  .ite h.faultAt (.ite h.moveOp (.ite h.moveOp.countDeny h.moveOp.hostRead))

theorem State.wf.readBlock {s : State} (h : s.wf) {th id k a blk pga : Nat} : (s.readBlock th id k a blk pga).wf := h.startJob

theorem State.wf.fetchBlock {s : State} (hs : s.wf) {th id h first k a blk : Nat} : (s.fetchBlock th id h first k a blk).wf := by
  unfold State.fetchBlock
  dsimp only
  split
  · exact hs.setRunInfo.noteXfer
  · split
    · exact (((hs.checkedEntry.ofFst ‹_›).setRunInfo).bumpFree).noteXfer
    · exact .ite (((hs.checkedEntry.ofFst ‹_›).setRunInfo).noteXfer) ((hs.checkedEntry.ofFst ‹_›).readBlock)

theorem State.wf.takeHoop {s : State} (hs : s.wf) {th h first a blk n : Nat} : (s.takeHoop th h first a blk n).1.wf := hs.putInfos

theorem State.wf.runBehind {s : State} (h : s.wf) {th : Nat} {o : AsyncOp} : (s.runBehind th o).wf := by
  unfold State.runBehind
  split
  · exact h
  · exact .ite h (.ite h.takeHoop.asyncDone (h.setThr.foldl fun _ _ h => h.fetchBlock))

theorem State.wf.fetchArray {s : State} (h : s.wf) {th : Nat} {i : IWord} : (s.fetchArray th i).wf :=
  .ite h.faultAt (.ite h.moveOp (.ite h.moveOp (h.moveOp.foldl fun _ _ h => h.fetchBlock)))

theorem State.wf.fetchHoop {s : State} (h : s.wf) {th : Nat} {i : IWord} : (s.fetchHoop th i).wf :=
  .ite h.faultAt (.ite h.moveOp h.takeHoop.moveOp)

theorem State.wf.dramToRun {s : State} (hs : s.wf) {th h addr off n : Nat} : (s.dramToRun th h addr off n).wf := by
  induction n generalizing s addr off with
  | zero => exact hs
  | succ n ih => exact ih hs.setRunWord

theorem State.wf.fetchDram {s : State} (h : s.wf) {th : Nat} {i : IWord} : (s.fetchDram th i).wf :=
  .ite h.faultAt ((h.dramToRun.foldl fun _ _ h => .ite h.setRunInfo h).moveOp)

theorem State.wf.fetchSled {s : State} (h : s.wf) {th : Nat} {i : IWord} : (s.fetchSled th i).wf := by
  unfold State.fetchSled
  dsimp only
  split
  · exact h.faultAt
  · exact .ite h.faultAt (.ite h.faultAt (.ite h.moveOp (h.moveOp.foldl fun _ _ h => h.startJob)))

@[simp] theorem State.wf.execFetch {s : State} (h : s.wf) {th : Nat} : wfAfter (execFetch th s) := by
  unfold Machine.execFetch
  refine .ite h (h.issue fun _ _ h => ?_)
  split
  · exact h.fetchHost
  · exact h.fetchHost
  · exact h.fetchArray
  · exact h.fetchHoop
  · exact h.fetchDram
  · exact h.fetchSled

theorem State.wf.storeHost {s : State} (h : s.wf) {th : Nat} {i : IWord} : (s.storeHost th i).wf :=
  .ite h.faultAt (.ite h.moveOp (.ite h.moveOp.countDeny (.ite (h.moveOp.foldl fun _ _ h => h.hostWrite) ((h.moveOp.foldl fun _ _ h =>
    h.hostWrite).asyncDone))))

theorem State.wf.storeDram {s : State} (h : s.wf) {th : Nat} {i : IWord} : (s.storeDram th i).wf := .ite h.faultAt h.dramWrite.moveOp
theorem State.wf.stage {s : State} (h : s.wf) {th : Nat} {i : IWord} : (s.stage th i).wf := .ite h.faultAt (.ite h.faultAt h.setThr.moveOp)

@[simp] theorem State.wf.execStoreStage {s : State} (h : s.wf) {th : Nat} : wfAfter (execStoreStage th s) := by
  unfold Machine.execStoreStage
  refine .ite h (h.issue fun _ _ h => ?_)
  split
  · exact h.storeHost
  · exact h.storeHost
  · exact h.storeDram
  · exact h.stage

@[simp] theorem State.wf.execStoreCommit {s : State} (h : s.wf) {th : Nat} : wfAfter (execStoreCommit th s) := by
  unfold Machine.execStoreCommit
  refine h.issue fun _ _ h => .ite h.setThr.async ?_
  dsimp only
  split
  · exact h.setThr.mirrorBlocks.async.beginBankWait.tryCommit.drive
  · exact h.setThr.mirrorBlocks.async.beginBankWait

theorem State.wf.contribute {s : State} (h : s.wf) {th : Nat} {img : List Byte} {fmt col k : Nat} {x : Info} :
    (s.contribute th img fmt col k x).wf := by
  unfold State.contribute
  split
  · exact h.foldl fun _ _ h => .ite h h.setRunInfo
  · exact h

theorem State.wf.contributeAll {s : State} (h : s.wf) {th a : Nat} {img : List Byte} {fmt col : Nat} {l : List Info} :
    (s.contributeAll th a img fmt col l).wf :=
  h.foldl fun _ _ h => .ite h.contribute h.contribute.logOpen

@[simp] theorem State.wf.execEmit {s : State} (h : s.wf) {th : Nat} : wfAfter (execEmit th s) :=
  h.issue fun _ _ h => .ite h.faultAt (.ite h.faultAt (.ite h.faultAt (.ite h.async (.ite h.faultAt (.ite h.faultAt (.ite h.faultAt (.ite
    (.sendProgram (.async (.setCentry (.ite h.contributeAll h)))) (.async (.setCentry (.ite h.contributeAll h))))))))))

/-! ### Machine/RegOps.lean -/

theorem State.wf.regNotice {s : State} (h : s.wf) {code off : Nat} {value : Word} {detail : Nat} : (s.regNotice code off value detail).wf :=
  h.notice

theorem State.wf.gate {s : State} (h : s.wf) {off size : Nat} {value : Word} {k : State → State} (hk : (k s).wf) :
    (s.gate off size value k).wf :=
  .ite h (.ite h.regNotice (.ite h.regNotice (.ite h.regNotice hk)))

theorem State.wf.command {s : State} (h : s.wf) {off size : Nat} {value : Word} {hi : Bool} {k : Nat → State → State}
    (hk : ∀ v, (k v s).wf) : (s.command off size value hi k).wf :=
  h.gate (.ite h.regNotice (hk _))

theorem State.wf.storeReg {s : State} (h : s.wf) {off size : Nat} {value : Word} : (s.storeReg off size value).wf := h.setReg

/-! ### Machine/EntryOps.lean -/

theorem State.wf.acceptEntry {s : State} (h : s.wf) {r : Nat} {e : Entry} : (s.acceptEntry r e).wf := h.setSub.setF.fenceSync

theorem State.wf.takeEarly {s : State} (h : s.wf) {r n : Nat} : (s.takeEarly r n).wf := by
  induction n generalizing s with
  | zero => exact h
  | succ n ih =>
    unfold State.takeEarly
    repeat' split
    · exact h
    · exact h
    · exact ih h.setSub.acceptEntry

theorem State.wf.entryArrived {s : State} (h : s.wf) {r index : Nat} {res : HostResult} : (s.entryArrived r index res).wf := by
  unfold State.entryArrived
  refine .ite h ?_
  split
  · exact .ite h.satF.aer.ringHalt (.ite h.ringHalt h.setSub.takeEarly)
  · exact h.satF.ringHalt

theorem State.wf.fetchOne {s : State} (h : s.wf) {r : Nat} : (s.fetchOne r).wf := by
  unfold State.fetchOne
  extract_lets i
  split
  case h_1 s1 hread => exact (h.hostRead.ofFst hread).setSub.incF
  case h_2 s1 hread => exact h.hostRead.ofFst hread

theorem State.wf.fetchMany {s : State} (h : s.wf) {r n : Nat} : (s.fetchMany r n).wf := by
  induction n generalizing s with
  | zero => exact h
  | succ n ih =>
    unfold State.fetchMany
    exact ih h.fetchOne

theorem State.wf.startCall {s : State} (h : s.wf) {r th : Nat} {e : Entry} : (s.startCall r th e).wf := h.startThread.setThr

theorem State.wf.dispatch {s : State} (h : s.wf) {r : Nat} {ok : Nat → Bool} : (s.dispatch r ok).wf := by
  unfold State.dispatch
  split
  · exact h
  · refine .ite h (.ite (.ite h.setSub.completeEntry h) ?_)
    split
    · exact h.setSub.startCall
    · exact h

/-! ### Machine/Rings.lean -/

theorem State.wf.sqDoorbell {s : State} (h : s.wf) {r v : Nat} : (s.sqDoorbell r v).wf := .ite h.setF h.ringHalt
theorem State.wf.cqDoorbell {s : State} (h : s.wf) {q v : Nat} : (s.cqDoorbell q v).wf := .ite h.setF.holdingFreed h.ringHalt

theorem State.wf.doorbell {s : State} (h : s.wf) {cq : Bool} {e r size : Nat} {value : Word} {act : State → State} (hact : (act s).wf) :
    (s.doorbell cq e r size value act).wf :=
  .ite h (.ite h.aer (.ite h (.ite h.regNotice (.ite h.regNotice (.ite h.update (.ite h.regNotice hact))))))

@[simp] theorem State.wf.execSqDoorbell {s : State} (h : s.wf) {e r size : Nat} {value : Word} :
    wfAfter (execSqDoorbell e r size value s) :=
  h.doorbell h.sqDoorbell

@[simp] theorem State.wf.execCqDoorbell {s : State} (h : s.wf) {e q size : Nat} {value : Word} :
    wfAfter (execCqDoorbell e q size value s) :=
  h.doorbell h.cqDoorbell

theorem State.wf.replayDoorbells {s : State} (h : s.wf) : s.replayDoorbells.wf :=
  h.update.foldl fun _ _ h => .ite h (.ite (.ite h.cqDoorbell h.regNotice) (.ite h.sqDoorbell h.regNotice))

@[simp] theorem State.wf.execEntryFetch {s : State} (h : s.wf) : wfAfter (execEntryFetch s) := by
  unfold Machine.execEntryFetch
  refine .ite h ?_
  split
  · exact h.fetchMany.update
  · exact h

@[simp] theorem State.wf.execEntryFetchComplete {s : State} (h : s.wf) {r : Nat} {res : HostResult} :
    wfAfter (execEntryFetchComplete r res s) := by
  unfold Machine.execEntryFetchComplete
  split
  · exact h
  · split
    · exact h.update.entryArrived
    · exact h

@[simp] theorem State.wf.execThreadDispatch {s : State} (h : s.wf) {r : Nat} : wfAfter (execThreadDispatch r s) := h.dispatch
@[simp] theorem State.wf.execCallEntry {s : State} (h : s.wf) {r : Nat} : wfAfter (execCallEntry r s) := h.dispatch
@[simp] theorem State.wf.execInlineEntry {s : State} (h : s.wf) {r : Nat} : wfAfter (execInlineEntry r s) := h.dispatch

@[simp] theorem State.wf.execNopEntry {s : State} (h : s.wf) {r : Nat} : wfAfter (execNopEntry r s) := by
  unfold Machine.execNopEntry
  split
  · exact .ite h h.setSub.completeEntry
  · exact h

@[simp] theorem State.wf.execFenceEntry {s : State} (h : s.wf) {r : Nat} : wfAfter (execFenceEntry r s) := by
  unfold Machine.execFenceEntry
  split
  · exact .ite h (.ite h.setSub.fenceSync.completeEntry h)
  · exact h

@[simp] theorem State.wf.execCoalesceTimer {s : State} (h : s.wf) {q : Nat} : wfAfter (execCoalesceTimer q s) := by
  unfold Machine.execCoalesceTimer
  split
  · exact .ite h.cqVector h
  · exact h

theorem State.wf.storeCtl {s : State} (h : s.wf) {off size : Nat} {value : Word} {fixup : Nat → Nat} :
    (s.storeCtl off size value fixup).wf :=
  h.setReg

theorem State.wf.refuseEn {s : State} (h : s.wf) {seqerr : Field} {off : Nat} {value : Word} : (s.refuseEn seqerr off value).wf :=
  h.setFlag.regNotice

theorem State.wf.enableSq {s : State} (h : s.wf) {r : Nat} : (s.enableSq r).wf := h.setFlag.setF.setF.setSub.setF.incF.setFlag.ltrSync
theorem State.wf.disableSq {s : State} (h : s.wf) {r : Nat} : (s.disableSq r).wf := h.setFlag.setFlag.inflightDone.ltrSync

theorem State.wf.writeSqCtl {s : State} (h : s.wf) {r off size : Nat} {value : Word} : (s.writeSqCtl r off size value).wf :=
  .ite (.disableSq (.ite (.ite h.regNotice h) h.storeCtl)) (.ite (.ite (.refuseEn (.ite (.ite h.regNotice h) h.storeCtl)) (.enableSq (.ite
    (.ite h.regNotice h) h.storeCtl))) (.ite (.ite h.regNotice h) h.storeCtl))

theorem State.wf.writeCqCtl {s : State} (h : s.wf) {q off size : Nat} {value : Word} : (s.writeCqCtl q off size value).wf :=
  .ite (.ite (.refuseEn (.ite (.ite h.regNotice h) h.storeCtl)) (.setFlag (.ite (.ite h.regNotice h) h.storeCtl))) (.ite (.setCpl (.setF
    (.setF (.setFlag (.ite (.ite h.regNotice h) h.storeCtl))))) (.ite (.ite h.regNotice h) h.storeCtl))

@[simp] theorem State.wf.execSqEnable {s : State} (h : s.wf) {r : Nat} {value : Word} : wfAfter (execSqEnable r value s) :=
  h.gate h.writeSqCtl

@[simp] theorem State.wf.execSqDisable {s : State} (h : s.wf) {r : Nat} {value : Word} : wfAfter (execSqDisable r value s) :=
  h.gate h.writeSqCtl

@[simp] theorem State.wf.execCqEnable {s : State} (h : s.wf) {q : Nat} {value : Word} : wfAfter (execCqEnable q value s) :=
  h.gate h.writeCqCtl

@[simp] theorem State.wf.execCqDisable {s : State} (h : s.wf) {q : Nat} {value : Word} : wfAfter (execCqDisable q value s) :=
  h.gate h.writeCqCtl

/-! ### Machine/Shuttle.lean -/

theorem State.wf.setSkeinByte {s : State} (h : s.wf) {a : Nat} {b : Byte} : (s.setSkeinByte a b).wf := .ite h.setSkein h.setSkein

theorem State.wf.shtWrite {s : State} (h : s.wf) {n sp a : Nat} {bs : List Byte} : (s.shtWrite n sp a bs).wf := by
  unfold State.shtWrite
  split
  · exact h.hostWrite
  · exact h.hostWrite
  · exact h.dramWrite
  · exact h.foldl fun _ _ h => h.setSkeinByte
  · obtain ⟨hdram, hvault, hbar0, hdump⟩ := h
    exact ⟨hdram, Mem.wf_writeBytes bs hvault a, hbar0, hdump⟩

theorem State.wf.shtEvent {s : State} (h : s.wf) : s.shtEvent.wf := h.raiseEvent

theorem State.wf.shtEnd {s : State} (h : s.wf) {n state ecode : Nat} : (s.shtEnd n state ecode).wf :=
  .shtForget (.setChan (.setFlag (.setF (.setFlag (.setF (.ite h.setFlag h))))))

theorem State.wf.shtAllStop {s : State} (h : s.wf) {n addr : Nat} : (s.shtAllStop n addr).wf :=
  ((((((h.foldl fun _ _ h => h.shtEnd).setF).setReg).setFlag).setF).logDeferred).shtEvent

theorem State.wf.shtAsk {s : State} (h : s.wf) {n : Nat} {d : ShtDesc} : (s.shtAsk n d).wf := by
  unfold State.shtAsk
  split
  · exact h.hostRead
  · exact h

theorem State.wf.shtBusError {s : State} (h : s.wf) {n addr : Nat} : (s.shtBusError n addr).wf := by
  unfold State.shtBusError
  split
  · exact h
  · split
    · exact h.shtAllStop
    · exact h.shtAllStop
    · exact .ite h.setF.setChan.shtAsk h.shtEnd.setReg.setF.shtEvent

theorem State.wf.shtUnit {s : State} (h : s.wf) {n : Nat} {d : ShtDesc} {dstBytes : Option (List Byte)} : (s.shtUnit n d dstBytes).wf := by
  unfold State.shtUnit
  refine .ite ?_ h.setChan.shtWrite.setF
  split
  · exact h.setChan.setChan
  · exact h.setChan.setF

theorem State.wf.shtNext {s : State} (h : s.wf) {n : Nat} {d : ShtDesc} : (s.shtNext n d).wf := by
  unfold State.shtNext
  refine .ite h (.ite h.shtEnd.shtEvent ?_)
  split
  · exact .shtBusError (.ite h.satF h)
  · exact h.shtAsk

theorem State.wf.shtAdvance {s : State} (h : s.wf) {n upto k : Nat} : (s.shtAdvance n upto k).wf := by
  induction k generalizing s with
  | zero => exact h
  | succ k ih =>
    unfold State.shtAdvance
    split
    · exact h
    · refine .ite h (.ite h.shtEnd.shtEvent (.ite h.shtNext ?_))
      split
      · exact ih h.shtBusError
      · exact ih h.shtUnit

theorem State.wf.shtStart {s : State} (h : s.wf) {n : Nat} {d : ShtDesc} : (s.shtStart n d).wf :=
  h.setF.setFlag.setReg.setReg.setChan.shtNext

theorem State.wf.shtGo {s : State} (h : s.wf) {n : Nat} : (s.shtGo n).wf :=
  .ite h.setFlag.setF.regNotice (.ite h.setFlag.setChan h.shtStart)

@[simp] theorem State.wf.execShuttleGo {s : State} (h : s.wf) {n size : Nat} {value : Word} : wfAfter (execShuttleGo n size value s) :=
  h.command fun _ => .ite h.shtGo h

theorem State.wf.shtDone {s : State} (h : s.wf) {n : Nat} {d : ShtDesc} : (s.shtDone n d).wf := by
  unfold State.shtDone
  extract_lets x s0 s1 s2
  have h0 : s0.wf := .ite h.setReg.setFlag h
  have h2 : s2.wf := .ite h0.incF.setFlag.setF.setReg.shtEvent h0.incF.setFlag.setF
  split
  · exact h2.shtStart
  · exact h2.setChan

@[simp] theorem State.wf.execShuttleComplete {s : State} (h : s.wf) {n : Nat} : wfAfter (execShuttleComplete n s) := by
  unfold Machine.execShuttleComplete
  split
  · exact h
  · exact .ite h.shtAdvance.shtDone h.shtAdvance

@[simp] theorem State.wf.execShuttleBusError {s : State} (h : s.wf) {n pos addr : Nat} : wfAfter (execShuttleBusError n pos addr s) := by
  unfold Machine.execShuttleBusError
  split
  · exact h
  · exact h.shtAdvance.shtBusError

@[simp] theorem State.wf.execShuttleWindowHalt {s : State} (h : s.wf) {n : Nat} : wfAfter (execShuttleWindowHalt n s) := by
  unfold Machine.execShuttleWindowHalt
  split
  · exact h
  · dsimp only
    split
    · exact h
    · exact .ite h.shtAdvance.shtEnd.shtEvent h.shtAdvance

theorem State.wf.allstopClear {s : State} (h : s.wf) : s.allstopClear.wf := h.setFlag.foldl fun _ _ h => .ite h.setF h

@[simp] theorem State.wf.execAllstopClear {s : State} (h : s.wf) {size : Nat} {value : Word} : wfAfter (execAllstopClear size value s) :=
  h.gate (.ite h.allstopClear h)

theorem State.wf.writeShtStat {s : State} (h : s.wf) {n off size : Nat} {value : Word} : (s.writeShtStat n off size value).wf :=
  .ite h.storeReg.setF h.storeReg

@[simp] theorem State.wf.execChannelErrClear {s : State} (h : s.wf) {n size : Nat} {value : Word} :
    wfAfter (execChannelErrClear n size value s) :=
  h.gate h.writeShtStat

theorem State.wf.writeShadow {s : State} (h : s.wf) {n off size : Nat} {value : Word} : (s.writeShadow n off size value).wf :=
  .ite h.regNotice h.storeReg

theorem State.wf.shtArrived {s : State} (h : s.wf) {n : Nat} {bs : List Byte} : (s.shtArrived n bs).wf := by
  unfold State.shtArrived
  split
  · exact h
  · refine .ite h.shtEnd.shtEvent (.ite (.shtNext (.ite h.setChan h)) ?_)
    split
    · exact .shtBusError (.setChan (.ite h.setChan h))
    · exact .ite (.shtUnit (.ite h.setChan h)) (.shtNext (.shtUnit (.ite h.setChan h)))

/-! ### Machine/HostPort.lean -/

theorem State.wf.winLast {s : State} (h : s.wf) {e off reqid : Nat} {read : Bool} : (s.winLast e off reqid read).wf :=
  h.setF.setFlag.setF.setF

theorem State.wf.refuseWrite {s : State} (h : s.wf) {e off reqid : Nat} : (s.refuseWrite e off reqid).wf := h.incF.winLast.notice.aer
theorem State.wf.poisonLines {s : State} (h : s.wf) {addr len : Nat} : (s.poisonLines addr len).wf := h.update
theorem State.wf.poisonSeen {s : State} (h : s.wf) {e : Nat} {sev : Severity} : (s.poisonSeen e sev).wf := h.satF.aer

@[simp] theorem State.wf.execBar2Write {s : State} (h : s.wf) {ep off reqid : Nat} {bytes : List Byte} {poisoned : Bool} :
    wfAfter (execBar2Write ep off reqid bytes poisoned s) := by
  unfold Machine.execBar2Write
  refine .ite h (.ite (.aer (.ite h.poisonSeen h)) (.ite (.notice (.ite h.poisonSeen h)) ?_))
  split
  · exact .ite (.poisonLines (.dramWrite (.ite h.poisonSeen h))) (.dramWrite (.ite h.poisonSeen h))
  · exact .refuseWrite (.ite h.poisonSeen h)

@[simp] theorem State.wf.execBar2Read {s : State} (h : s.wf) {ep off reqid len : Nat} : wfAfter (execBar2Read ep off reqid len s) := by
  unfold Machine.execBar2Read
  refine .ite h (.ite h.send.aer ?_)
  split
  · exact h.send
  · exact h.satF.winLast.notice.send.aer

theorem State.wf.windowRefused {s : State} (h : s.wf) {off : Nat} {value : Word} : (s.windowRefused off value).wf := h.setFlag.regNotice

theorem State.wf.writeWin0 {s : State} (h : s.wf) {w off size : Nat} {value : Word} : (s.writeWin0 w off size value).wf :=
  .ite h.storeReg.setFlag.windowRefused h.storeReg

theorem State.wf.writeWin1 {s : State} (h : s.wf) {w off size : Nat} {value : Word} : (s.writeWin1 w off size value).wf :=
  .ite h.windowRefused h.storeReg

@[simp] theorem State.wf.execWindowWord0Write {s : State} (h : s.wf) {w size : Nat} {value : Word} :
    wfAfter (execWindowWord0Write w size value s) :=
  h.gate h.writeWin0

@[simp] theorem State.wf.execWindowWord1Write {s : State} (h : s.wf) {w size : Nat} {value : Word} :
    wfAfter (execWindowWord1Write w size value s) :=
  h.gate h.writeWin1

theorem State.wf.runInvals {s : State} (h : s.wf) {n : Nat} : (s.runInvals n).wf := by
  induction n generalizing s with
  | zero => exact h
  | succ n ih =>
    unfold State.runInvals
    split
    · exact ih h.update.send
    · refine .ite ?_ h
      split
      · exact ih h.update
      · exact h

theorem State.wf.settleInvals {s : State} (h : s.wf) : s.settleInvals.wf := h.runInvals

@[simp] theorem State.wf.execAtsInvalidateRequest {s : State} (h : s.wf) {ep itag page count : Nat} :
    wfAfter (execAtsInvalidateRequest ep itag page count s) :=
  .ite h h.update.settleInvals

theorem State.wf.dropAts {s : State} (h : s.wf) {e : Nat} : (s.dropAts e).wf := h.update

@[simp] theorem State.wf.execAtsEnableClear {s : State} (h : s.wf) {ep : Nat} {value : Bool} : wfAfter (execAtsEnableClear ep value s) :=
  .ite h (.ite h.setEp h.setEp.dropAts)

theorem State.wf.freeTag {s : State} (h : s.wf) {k : Nat} : (s.freeTag k).wf := h.update.settleInvals

theorem State.wf.shtRetryAsk {s : State} (h : s.wf) : s.shtRetryAsk.wf := by
  unfold State.shtRetryAsk
  refine h.foldl fun _ _ h => ?_
  split
  · exact .ite h.shtNext h
  · exact h

theorem State.wf.threadHostFails {s : State} (h : s.wf) {th id outcome : Nat} : (s.threadHostFails th id outcome).wf := h.asyncDone

theorem State.wf.putHostBlocks {s : State} (h : s.wf) {th : Nat} {f : Xfer} {bs : List Byte} {marked : List (Nat × Nat)} :
    (s.putHostBlocks th f bs marked).wf :=
  h.foldl fun _ _ h => h.setRunInfo

theorem State.wf.threadHostEnds {s : State} (h : s.wf) {e th id : Nat} {res : HostResult} : (s.threadHostEnds e th id res).wf := by
  unfold State.threadHostEnds
  split
  · split
    · exact .ite h.putHostBlocks.asyncDone h.putHostBlocks.asyncDone.poisonSeen
    · exact h
  · exact h.satF.threadHostFails

theorem State.wf.shtHostEnds {s : State} (h : s.wf) {e n : Nat} {res : HostResult} : (s.shtHostEnds e n res).wf := by
  unfold State.shtHostEnds
  split
  · exact .ite h.shtArrived h.poisonSeen.shtBusError
  · exact h.satF.shtBusError

theorem State.wf.shtWriteFails {s : State} (h : s.wf) {n addr : Nat} {m : OutMsg} : (s.shtWriteFails n addr m).wf := by
  unfold State.shtWriteFails
  split
  · exact .ite h.setF.setChan.hostWrite h.setF.setChan.shtBusError
  · exact h

theorem State.wf.xlatFails {s : State} (h : s.wf) {rd : Reader} {m : OutMsg} : (s.xlatFails rd m).wf := by
  unfold State.xlatFails
  dsimp only
  split
  · exact h.satF
  · exact h.satF.ringHalt
  · exact h.satF.ringHalt
  · exact h.satF.threadHostFails
  · split
    · exact h.satF.shtWriteFails
    · exact h.satF.shtBusError

theorem State.wf.sendXlated {s : State} (hs : s.wf) {k : Nat} {h : HostTag} {m : OutMsg} : (s.sendXlated k h m).wf := by
  unfold State.sendXlated
  split
  · exact hs.update.xlatTouch.send
  · dsimp only
    split
    · exact .ite hs.freeTag hs.freeTag.xlatTouch.send.coalesce.holdingFreed
    · exact .ite hs.freeTag.xlatTouch.send hs.freeTag.xlatTouch.send.asyncDone
    · exact hs.freeTag.xlatTouch.send
  · exact hs

theorem State.wf.xlatEnds {s : State} (hs : s.wf) {k : Nat} {h : HostTag} {m : OutMsg} {res : HostResult} : (s.xlatEnds k h m res).wf := by
  unfold State.xlatEnds
  dsimp only
  split
  · exact .ite hs.xlatAdd.freeTag (.ite hs.xlatAdd.sendXlated hs.xlatAdd.freeTag.xlatFails)
  · exact hs
  · exact hs.freeTag.xlatFails

theorem State.wf.lateCompletion {s : State} (h : s.wf) {e k : Nat} : (s.lateCompletion e k).wf := by
  unfold State.lateCompletion
  split
  · exact .ite h.freeTag.incF h.freeTag.incF.aer
  · exact h.incF.aer

@[simp] theorem State.wf.execHostCompletion {s : State} (h : s.wf) {ep t : Nat} {res : HostResult} :
    wfAfter (execHostCompletion ep t res s) := by
  unfold Machine.execHostCompletion
  refine .ite h ?_
  split
  · exact h.lateCompletion
  · refine .ite h.lateCompletion ?_
    split
    · exact h.xlatEnds
    · exact h
    · refine .recRetry (.shtRetryAsk ?_)
      split
      · exact h.freeTag.entryArrived
      · exact h.freeTag.threadHostEnds
      · exact h.freeTag.shtHostEnds
      · exact h.freeTag
      · exact h.freeTag

@[simp] theorem State.wf.execCompletionTimeout {s : State} (h : s.wf) {ep t : Nat} : wfAfter (execCompletionTimeout ep t s) := by
  unfold Machine.execCompletionTimeout
  show State.wf _
  split
  case h_1 x hx =>
    refine .ite h ?_
    extract_lets s1
    have h1 : s1.wf := h.update.settleInvals.satF.aer
    split
    · exact h1.ringHalt
    · exact h1.ringHalt
    · exact h1.threadHostFails
    · split
      · exact h1.shtWriteFails
      · exact h1.shtBusError
    · exact h1
  · exact h

@[simp] theorem State.wf.execUnexpectedCompletion {s : State} (h : s.wf) {ep t : Nat} : wfAfter (execUnexpectedCompletion ep t s) := by
  unfold Machine.execUnexpectedCompletion
  refine .ite h ?_
  split
  · exact .ite h.lateCompletion h
  · exact h.lateCompletion

@[simp] theorem State.wf.execTagReservationExpiry {s : State} (h : s.wf) {ep t : Nat} : wfAfter (execTagReservationExpiry ep t s) := by
  unfold Machine.execTagReservationExpiry
  split
  · dsimp only
    split
    · exact .ite h.freeTag.shtRetryAsk.recRetry h
    · exact h
  · exact h

@[simp] theorem State.wf.execMsixTableWrite {s : State} (h : s.wf) {ep off size : Nat} {value : Word} {poisoned : Bool}
    {control : Option (Bool × Bool)} : wfAfter (execMsixTableWrite ep off size value poisoned control s) := by
  unfold Machine.execMsixTableWrite
  refine .ite h ?_
  split
  · exact .ite h h.setEp.msixRelease
  · exact .ite h.poisonSeen.notice (.ite h.aer (.ite h.notice (.ite h.notice (.ite h.noticeOther h.setEp.msixRelease))))

theorem State.wf.hostReleased {s : State} (h : s.wf) {e : Nat} : (s.hostReleased e).wf :=
  (h.foldl fun _ _ h => .ite h h.holdingFreed).msixRelease

@[simp] theorem State.wf.execDStateChange {s : State} (h : s.wf) {ep pmcsr : Nat} : wfAfter (execDStateChange ep pmcsr s) := by
  unfold Machine.execDStateChange
  refine .ite h ?_
  dsimp only
  split
  · exact h.setEp.setEp
  · exact h.setEp.setEp
  · exact h.setEp.setEp.update.hostReleased.ltrSync
  · exact h.setEp.setEp.update.hostReleased.ltrSync
  · exact h.setEp

@[simp] theorem State.wf.execPmeTurnOff {s : State} (h : s.wf) {ep : Nat} : wfAfter (execPmeTurnOff ep s) := h.setEp.send

@[simp] theorem State.wf.execBusMasterEnable {s : State} (h : s.wf) {ep : Nat} {c : ConfigBits} : wfAfter (execBusMasterEnable ep c s) :=
  .ite h (.ltrSync (.ite h.setEp.hostReleased h.setEp))

@[simp] theorem State.wf.execAspmL1Entry {s : State} (h : s.wf) {ep : Nat} : wfAfter (execAspmL1Entry ep s) := .ite h.send h
theorem State.wf.clockSync {s : State} (h : s.wf) {c : Nat} : (s.clockSync c).wf := h.setFlag

/-- A register takes another value at its own offset, and those that then have their reset value are not listed. -/
theorem State.wf.resetRegs {s : State} (h : s.wf) {e : Nat} : (s.resetRegs e).wf :=
  .ite h.mapBar0 (h.mapBar0.foldl fun _ _ h => h.clockSync)

theorem State.wf.endCalls {s : State} (h : s.wf) {e : Nat} : (s.endCalls e).wf := h.foldl fun _ _ h => h.abandonOwned.endThread
theorem State.wf.silenceThreads {s : State} (h : s.wf) {e : Nat} : (s.silenceThreads e).wf := h.foldl fun _ _ h => .ite h.setThr h
theorem State.wf.resetUnits {s : State} (h : s.wf) {e : Nat} : (s.resetUnits e).wf := h.update

theorem State.wf.resetEndpoint {s : State} (h : s.wf) {e : Nat} {busy : Bool} : (s.resetEndpoint e busy).wf := by
  unfold State.resetEndpoint
  extract_lets s1 s2 s2' _ _ s3
  have h2 : s2'.wf := h.endCalls.silenceThreads.resetUnits.resetRegs.setEp.dropAts.update
  have h3 : s3.wf := .ite h2 h2.update
  exact .ite h3.dumpWindows h3

@[simp] theorem State.wf.execHotReset {s : State} (h : s.wf) {ep : Nat} : wfAfter (execHotReset ep s) := .ite h h.resetEndpoint
@[simp] theorem State.wf.execPerst1Reset {s : State} (h : s.wf) : wfAfter (execPerst1Reset s) := .ite h.resetEndpoint h

@[simp] theorem State.wf.execFunctionLevelReset {s : State} (h : s.wf) {ep : Nat} : wfAfter (execFunctionLevelReset ep s) :=
  .ite h h.resetEndpoint

@[simp] theorem State.wf.execFlrComplete {s : State} (h : s.wf) {ep : Nat} : wfAfter (execFlrComplete ep s) := h.setEp

/-! ### Machine/MapIns.lean -/

theorem State.wf.maplu {s : State} (h : s.wf) {th : Nat} {i : IWord} : (s.maplu th i).wf := by
  unfold State.maplu
  dsimp only
  split
  · exact (h.checkedEntry.ofFst ‹_›).wr
  · exact ((h.checkedEntry.ofFst ‹_›).wr).bumpFree

theorem State.wf.locate {s : State} (h : s.wf) {th : Nat} {i : IWord} : (s.locate th i).wf := .ite h.faultAt h.wr.wr

@[simp] theorem State.wf.execMaplu {s : State} (h : s.wf) {th : Nat} : wfAfter (execMaplu th s) :=
  .ite h.startWriteBack (h.issue fun _ _ h => .ite h.maplu h.locate)

@[simp] theorem State.wf.execMapup {s : State} (h : s.wf) {th : Nat} : wfAfter (execMapup th s) :=
  .ite h.setFlag (.ite h.startWriteBack (h.issue fun _ _ h => h.mapup.setThr))

@[simp] theorem State.wf.execMaplock {s : State} (h : s.wf) {th : Nat} : wfAfter (execMaplock th s) := by
  unfold Machine.execMaplock
  refine h.issue fun _ _ h => .ite ?_ h.setThr
  split
  · exact .ite h (.ite h.faultAt h.setThr)
  · exact .ite h.faultAt h.setThr

@[simp] theorem State.wf.execMaplockGrant {s : State} (h : s.wf) {th : Nat} : wfAfter (execMaplockGrant th s) := by
  unfold Machine.execMaplockGrant
  split
  · exact .ite h.setThr h
  · exact h

theorem State.wf.stripeDone {s : State} (h : s.wf) {th : Nat} {i : IWord} {outcome : Nat} : (s.stripeDone th i outcome).wf := h.async
theorem State.wf.stripeRefused {s : State} (h : s.wf) {th : Nat} {i : IWord} {e : Nat} : (s.stripeRefused th i e).wf := h.async

theorem State.wf.onEntry {s : State} (h : s.wf) {th : Nat} {i : IWord} {f : Nat → State} (hf : ∀ e, (f e).wf) : (s.onEntry th i f).wf :=
  .ite (hf _) h.faultAt

theorem State.wf.tryOpen {s : State} (h : s.wf) {th : Nat} {o : AsyncOp} : (s.tryOpen th o).wf := by
  unfold State.tryOpen
  split
  · dsimp only
    split
    · exact h.openStripe.setThr
    · exact .ite h.openStripe.setThr h.openStripe
  · exact h

@[simp] theorem State.wf.execStripeOpen {s : State} (h : s.wf) {th : Nat} : wfAfter (execStripeOpen th s) := by
  unfold Machine.execStripeOpen
  refine h.issue fun _ _ h => ?_
  dsimp only
  split
  · exact h.faultAt
  · refine .ite h.faultAt ?_
    split
    · exact h.async.tryOpen
    · exact h.async

theorem State.wf.tryIpnext {s : State} (h : s.wf) {th : Nat} {o : AsyncOp} : (s.tryIpnext th o).wf := by
  unfold State.tryIpnext
  split
  · refine .ite h.asyncDone ?_
    split
    · exact ((h.interimSlot.ofFst ‹_›).setCentry).setThr
    · exact h.interimSlot.ofFst ‹_›
  · exact h

@[simp] theorem State.wf.execStripeIpnext {s : State} (h : s.wf) {th : Nat} : wfAfter (execStripeIpnext th s) := by
  unfold Machine.execStripeIpnext
  refine .ite h (h.issue fun _ _ h => h.onEntry fun _ => ?_)
  dsimp only
  split
  · exact h.async.tryIpnext
  · exact h.async

@[simp] theorem State.wf.execStripeIpset {s : State} (h : s.wf) {th : Nat} : wfAfter (execStripeIpset th s) :=
  .ite h (h.issue fun _ _ h => h.onEntry fun _ => .ite h.stripeRefused h.setJobs.setCentry.stripeDone)

@[simp] theorem State.wf.execStripeClosing {s : State} (h : s.wf) {th : Nat} : wfAfter (execStripeClosing th s) :=
  .ite h (h.issue fun _ _ h => h.onEntry fun _ => .ite h.setCentry.stripeDone h.stripeRefused)

@[simp] theorem State.wf.execStripeClose {s : State} (h : s.wf) {th : Nat} : wfAfter (execStripeClose th s) :=
  .ite h (h.issue fun _ _ h => h.onEntry fun _ => .ite h.closeStripe.setThr.stripeDone h.stripeRefused)

@[simp] theorem State.wf.execStripeAbandon {s : State} (h : s.wf) {th : Nat} : wfAfter (execStripeAbandon th s) :=
  h.issue fun _ _ h => h.onEntry fun _ => .ite h.abandonEntry.setThr.stripeDone (.ite h.stripeDone h.stripeRefused)

/-! ### Machine/Events.lean -/

theorem State.wf.endWaitev {s : State} (h : s.wf) {th d mask : Nat} {limit : Bool} : (s.endWaitev th d mask limit).wf := h.setThr

theorem State.wf.wake {s : State} (h : s.wf) {th : Nat} : (s.wake th).wf := by
  unfold State.wake
  split
  · exact .ite h.endWaitev h
  · exact h

@[simp] theorem State.wf.execWaitev {s : State} (h : s.wf) {th : Nat} : wfAfter (execWaitev th s) := h.issue fun _ _ h => h.setThr.wake

@[simp] theorem State.wf.execWaitevLimitExpiry {s : State} (h : s.wf) {th : Nat} : wfAfter (execWaitevLimitExpiry th s) := by
  unfold Machine.execWaitevLimitExpiry
  split
  · exact .ite h.endWaitev h
  · exact h

theorem State.wf.deliver {s : State} (h : s.wf) {target : Nat} {w : Word} : (s.deliver target w).wf := h.setThr.wake

@[simp] theorem State.wf.execSignalSend {s : State} (h : s.wf) {th : Nat} : wfAfter (execSignalSend th s) :=
  h.issue fun _ _ h => .ite h.async (.ite h.async (.ite h.async.deliver h.async))

theorem State.wf.startWork {s : State} (h : s.wf) {c pattern : Nat} {words : List Word} {starter : Option (Nat × Nat)} :
    (s.startWork c pattern words starter).1.wf := by
  unfold State.startWork
  split
  · exact h
  · exact h.startThread.setThr

theorem State.wf.signalCall {s : State} (h : s.wf) {th : Nat} {i : IWord} {c : Nat} : (s.signalCall th i c).wf := by
  unfold State.signalCall
  refine .ite h.faultAt (.ite h.async (.ite h.async (.ite h.async ?_)))
  split
  · exact (h.async.startWork.ofFst ‹_›).setThr
  · exact h.async.startWork.ofFst ‹_›

@[simp] theorem State.wf.execSignalCall {s : State} (h : s.wf) {th : Nat} : wfAfter (execSignalCall th s) :=
  h.issue fun _ _ h => h.signalCall

@[simp] theorem State.wf.execSignalRecv {s : State} (h : s.wf) {th : Nat} : wfAfter (execSignalRecv th s) := by
  unfold Machine.execSignalRecv
  refine h.issue fun _ _ h => ?_
  split
  · exact h.wr.wp
  · exact h.setThr.wr.wp

theorem State.wf.setFed {s : State} (h : s.wf) {x : FedState} : (s.setFed x).wf := h.update
theorem State.wf.fedAsk {s : State} (h : s.wf) {dev th id : Nat} {body : FedBody} : (s.fedAsk dev th id body).wf := h.setFed.send
@[simp] theorem State.wf.execTimerWait {s : State} (h : s.wf) {th : Nat} : wfAfter (execTimerWait th s) := h.issue fun _ _ h => h.setThr
@[simp] theorem State.wf.execTimerRead {s : State} (h : s.wf) {th : Nat} : wfAfter (execTimerRead th s) := h.issue fun _ _ h => h.wr

/-! ### Machine/Parity.lean -/

@[simp] theorem State.wf.execGfmac {s : State} (h : s.wf) {th : Nat} : wfAfter (execGfmac th s) :=
  h.issue fun _ _ h => .ite (.ite h.faultAt h.putInfos.async) h.wr

@[simp] theorem State.wf.execSyndBind {s : State} (h : s.wf) {th : Nat} : wfAfter (execSyndBind th s) :=
  h.issue fun _ _ h => .ite h.faultAt (.ite h.faultAt (.ite h.faultAt (.ite h.faultAt (.async (.ite h.setThr (h.setThr.foldl fun _ _ h =>
    h.putInfos))))))

@[simp] theorem State.wf.execSyndAdd {s : State} (h : s.wf) {th : Nat} : wfAfter (execSyndAdd th s) := by
  unfold Machine.execSyndAdd
  refine h.issue fun _ _ h => ?_
  dsimp only
  split
  · exact h.faultAt
  · exact .ite h.faultAt (.ite h.faultAt h.contributeAll.putInfos.async)

@[simp] theorem State.wf.execSyndWait {s : State} (h : s.wf) {th : Nat} : wfAfter (execSyndWait th s) :=
  h.issue fun _ _ h => .ite h.faultAt h.async

@[simp] theorem State.wf.execSyndUnbind {s : State} (h : s.wf) {th : Nat} : wfAfter (execSyndUnbind th s) :=
  h.issue fun _ _ h => h.setThr.async

@[simp] theorem State.wf.execSolve {s : State} (h : s.wf) {th : Nat} : wfAfter (execSolve th s) := by
  unfold Machine.execSolve
  refine h.issue fun _ _ h => ?_
  dsimp only
  split
  · exact h.faultAt
  · refine .ite h.faultAt (.ite h.faultAt ?_)
    split
    · exact .ite h.async ((h.foldl fun _ _ h => h.putInfos).async)
    · exact h.async

/-! ### Machine/Completion.lean -/

theorem State.wf.postCalls {s : State} (h : s.wf) {th status result : Nat} : (s.postCalls th status result).wf :=
  .ite h.setThr.postOrStall.setThr h.setThr.postOrStall

theorem State.wf.postNone {s : State} (h : s.wf) {th status : Nat} : (s.postNone th status).wf := by
  unfold State.postNone
  split
  · exact h.tellStarter
  · exact h.tellStarter
  · exact h.logFault.bumpFree

@[simp] theorem State.wf.execPost {s : State} (h : s.wf) {th : Nat} : wfAfter (execPost th s) :=
  .ite h (h.issue fun _ _ h => .ite h.postNone h.postCalls)

@[simp] theorem State.wf.execPostStallResume {s : State} (h : s.wf) {q : Nat} : wfAfter (execPostStallResume q s) := by
  unfold Machine.execPostStallResume
  split
  · exact h
  · exact .ite (.ite h.setCpl.completeCalls.holdingFreed.setThr h.setCpl.completeCalls.holdingFreed) h

@[simp] theorem State.wf.execBatch {s : State} (h : s.wf) {th : Nat} : wfAfter (execBatch th s) := by
  unfold Machine.execBatch
  refine h.issue fun _ _ h => .ite h.faultAt ?_
  split
  · exact h.wp
  · split
    · exact h.wp
    · exact .ite ((h.setSub.setThr.foldl fun _ _ h => h.wr).wp) h.wp

@[simp] theorem State.wf.execTrap {s : State} (h : s.wf) {th : Nat} : wfAfter (execTrap th s) := h.issue fun _ _ h => h.faultAt
theorem State.wf.haltThread {s : State} (h : s.wf) {th : Nat} : (s.haltThread th).wf := .ite h.faultAt h.endThread

@[simp] theorem State.wf.execHalt {s : State} (h : s.wf) {th : Nat} : wfAfter (execHalt th s) :=
  h.issue fun _ _ h => .ite h.haltThread h.setThr

theorem State.wf.retireAsync {s : State} (h : s.wf) {th : Nat} {o : AsyncOp} : (s.retireAsync th o).wf := by
  unfold State.retireAsync
  dsimp only
  split
  · exact .ite h.setThr.finishThread h.setThr
  · exact .ite h.setThr.haltThread h.setThr
  · exact .ite h.setThr.settleFault h.setThr
  · exact h.setThr.wake

theorem State.wf.tryQueued {s : State} (h : s.wf) {th : Nat} {o : AsyncOp} {c p : Nat} {words : List Word} :
    (s.tryQueued th o c p words).wf := by
  unfold State.tryQueued
  refine .ite h (.ite h.retireAsync ?_)
  split
  · exact (h.startWork.ofFst ‹_›).setThr
  · exact h.startWork.ofFst ‹_›

theorem State.wf.sendNow {s : State} (h : s.wf) {th : Nat} {o : AsyncOp} {target : Nat} {w : Word} {pc : Nat} :
    (s.sendNow th o target w pc).wf :=
  .ite h (.ite h.retireAsync (.ite h.deliver.retireAsync h.setThr))

@[simp] theorem State.wf.execAsyncInstructionComplete {s : State} (h : s.wf) {th id : Nat} :
    wfAfter (execAsyncInstructionComplete th id s) := by
  unfold Machine.execAsyncInstructionComplete
  split
  · exact h
  · refine .ite h ?_
    split
    · exact h.retireAsync
    · exact h.retireAsync
    · exact .ite h.retireAsync h
    · exact .ite h h.retireAsync
    · exact .ite h.retireAsync h
    · exact .ite h.retireAsync (.ite h.deliver.retireAsync h)
    · exact h.sendNow
    · exact h.runBehind
    · exact .ite h (.ite h.asyncDone h.setThr.fedAsk)
    · exact h.tryQueued
    · exact h

@[simp] theorem State.wf.execWaitLimitExpiry {s : State} (h : s.wf) {th : Nat} : wfAfter (execWaitLimitExpiry th s) := by
  unfold Machine.execWaitLimitExpiry
  refine .ite h ?_
  split
  · exact .ite h.faultAt h
  · exact .ite h.faultAt h
  · split
    · split
      · exact .ite h.retireAsync h.setThr.threadFault
      · exact h
    · exact h

theorem State.wf.dropMirrored {s : State} (h : s.wf) {o : AsyncOp} : (s.dropMirrored o).wf := by
  unfold State.dropMirrored
  split
  · exact .ite h h.mirror
  · exact h

@[simp] theorem State.wf.execBankWaitTimeout {s : State} (h : s.wf) {th : Nat} : wfAfter (execBankWaitTimeout th s) := by
  unfold Machine.execBankWaitTimeout
  split
  · exact .ite h.endBankWait.dropMirrored.asyncDone h
  · exact h

@[simp] theorem State.wf.execStoreCommitResume {s : State} (h : s.wf) {th : Nat} : wfAfter (execStoreCommitResume th s) := by
  unfold Machine.execStoreCommitResume
  split
  · exact .ite h.tryCommit.drive h
  · exact h

@[simp] theorem State.wf.execStripeOpenResume {s : State} (h : s.wf) {th : Nat} : wfAfter (execStripeOpenResume th s) := by
  unfold Machine.execStripeOpenResume
  split
  · exact .ite h.tryOpen.tryIpnext h
  · exact h.drive

/-! ### Machine/Hoop.lean -/

theorem State.wf.setRepl {s : State} (h : s.wf) {r : Replication} : (s.setRepl r).wf := h.update

@[simp] theorem State.wf.execCouchingReplication {s : State} (h : s.wf) : wfAfter (execCouchingReplication s) :=
  .ite h (.setRepl (.ite (.foldl (.ite (h.foldl fun _ _ h => h.writeRecord) ((h.foldl fun _ _ h => h.writeRecord).foldl fun _ _ h =>
    h.send)) fun _ _ h => h.send) (.ite (h.foldl fun _ _ h => h.writeRecord) ((h.foldl fun _ _ h => h.writeRecord).foldl fun _ _ h =>
    h.send))))

theorem State.wf.syncCopies {s : State} (h : s.wf) : s.syncCopies.wf := h.setF.setF
theorem State.wf.syncAll {s : State} (h : s.wf) : s.syncAll.wf := h.foldl fun _ _ h => h.syncMembers

@[simp] theorem State.wf.execCopyRecordAck {s : State} (h : s.wf) {sled rseq : Nat} : wfAfter (execCopyRecordAck sled rseq s) :=
  .ite h.setRepl.syncCopies.syncAll.drive h

theorem State.wf.resyncDue {s : State} (h : s.wf) : s.resyncDue.wf := .ite h h.update.setFlag.setF.setF
theorem State.wf.syncRuns {s : State} (h : s.wf) : s.syncRuns.wf := h.foldl fun _ _ h => h.syncRun

theorem State.wf.resyncNext {s : State} (h : s.wf) {rest : List Nat} {total : Nat} : (s.resyncNext rest total).wf :=
  .ite h.update.setFlag.setF.setF.syncAll.raiseEvent h.update.setF.setF

/-! ### Machine/Members.lean -/

theorem State.wf.setDlog {s : State} (h : s.wf) {l : DeltaLog} : (s.setDlog l).wf := h.update

theorem State.wf.writeCkptStripe {s : State} (h : s.wf) {a b st : Nat} {words : List Info} : (s.writeCkptStripe a b st words).wf := by
  unfold State.writeCkptStripe
  refine h.foldl fun _ _ h => ?_
  split
  · exact h
  · exact .ite h h.setDlog.sendSled

theorem State.wf.ckptBand {s : State} (h : s.wf) {a c m : Nat} : (s.ckptBand a c m).1.wf := by
  unfold State.ckptBand
  split
  · exact .fstIte h h.closeBand
  · split
    · exact h
    · exact .fstIte h (.fstIte h.openBand h.nameBand)

theorem State.wf.writeSegment {s : State} (h : s.wf) {seg : Nat} : (s.writeSegment seg).wf := by
  unfold State.writeSegment
  split
  · exact h
  · dsimp only
    split
    · exact h.ckptBand.ofFst ‹_›
    · exact (((h.ckptBand.ofFst ‹_›).foldl fun _ _ h => h.writeCkptStripe).setBand).setDlog

theorem State.wf.sendDirectory {s : State} (h : s.wf) : s.sendDirectory.wf := .ite (h.setDlog.send.foldl fun _ _ h => h.send) h

theorem State.wf.stepEpoch {s : State} (h : s.wf) : s.stepEpoch.wf :=
  .ite h (.sendDirectory (.foldl (.ite h.setDlog h) fun _ _ h => h.writeSegment))

theorem State.wf.cleanLines {s : State} (h : s.wf) : s.cleanLines.wf := h.foldl fun _ _ h => h.cleanLine

theorem State.wf.startEpoch {s : State} (h : s.wf) {extra : List Nat} : (s.startEpoch extra).wf :=
  .ite h.setDlog h.cleanLines.setDlog.setFlag.stepEpoch

theorem State.wf.ckptAcked {s : State} (h : s.wf) {a b : Nat} {ok onBlock : Bool} : (s.ckptAcked a b ok onBlock).wf :=
  .stepEpoch (.ite h.setDlog h.setDlog.closeBand)

theorem State.wf.takeLogBlocks {s : State} (h : s.wf) {n : Nat} : (s.takeLogBlocks n).wf := by
  unfold State.takeLogBlocks
  refine h.foldl fun _ _ h => ?_
  split
  · exact h.setEword
  · exact h

theorem State.wf.joinCopy {s : State} (h : s.wf) {n : Nat} : (s.joinCopy n).wf := by
  unfold State.joinCopy
  extract_lets one s1 s2 s3
  have hone {s : State} (h : s.wf) {kind page count : Nat} {slots : List Byte} : (one s kind page count slots).wf := h.update.send
  have h2 : s2.wf := hone (h.takeLogBlocks.foldl fun _ _ h => hone h)
  exact h2.send.send.setRepl

theorem State.wf.chooseCopiesBut {s : State} (h : s.wf) {bar : List Nat} : (s.chooseCopiesBut bar).wf :=
  .ite ((((h.setF.setF.setF.setFlag.foldl fun _ _ h => h.joinCopy).syncCopies).foldl fun _ _ h => h.syncArray).healthEvent)
    (((h.setF.setF.setF.setFlag.foldl fun _ _ h => h.joinCopy).syncCopies).foldl fun _ _ h => h.syncArray)

theorem State.wf.chooseCopies {s : State} (h : s.wf) : s.chooseCopies.wf := h.chooseCopiesBut

theorem State.wf.rerouteReads {s : State} (h : s.wf) {n : Nat} : (s.rerouteReads n).wf := by
  unfold State.rerouteReads
  refine (h.setPort.foldl fun _ _ h => h.update).foldl fun _ _ h => ?_
  split
  · exact h.readErased
  · exact h

theorem State.wf.commandLost {s : State} (h : s.wf) {c : SledCmd} : (s.commandLost c).wf := by
  unfold State.commandLost
  split
  · exact h.asyncDone
  · exact h.ckptAcked
  · split
    · exact h.update
    · exact h
  · exact h.readErased
  · exact h

theorem State.wf.resetSled {s : State} (h : s.wf) {n : Nat} : (s.resetSled n).wf := by
  unfold State.resetSled
  extract_lets x gone kept free _ s1 s2 s3
  have hfree {s : State} (h : s.wf) : (free s).wf := h.update
  have h1 : s1.wf := (hfree h).setPort
  have h2 : s2.wf := hfree h1.sendSled
  have h3 : s3.wf := h2.foldl fun _ _ h => h.commandLost
  exact h3.setHop.retryWaiting

theorem State.wf.abandonOn {s : State} (h : s.wf) {n : Nat} : (s.abandonOn n).wf :=
  (h.foldl fun _ _ h => h.abandonEntry).foldl fun _ _ h => h.closeBand

theorem State.wf.showFailed {s : State} (h : s.wf) {n : Nat} : (s.showFailed n).wf := .ite h.setF.setHop h

theorem State.wf.declareFailed {s : State} (h : s.wf) {n cause : Nat} : (s.declareFailed n cause).wf := by
  unfold State.declareFailed
  extract_lets x y s1 s2 s3 s4 segs s5 s6
  refine .ite h ?_
  have h2 : s2.wf := h.setSled.mirror.rerouteReads.abandonOn
  have h3 : s3.wf := .ite h2.chooseCopies.startEpoch h2
  have h4 : s4.wf := .ite h3.logArrayOpen (h3.foldl fun _ _ h => h.raiseEvent.logArrayOpen)
  have h5 : s5.wf := State.wf.syncAll (.ite h4 h4.startEpoch)
  have h6 : s6.wf := .ite h5.resetSled h5
  exact h6.showFailed.drive

theorem State.wf.countTimeout {s : State} (h : s.wf) {n : Nat} {underLoss : Bool} : (s.countTimeout n underLoss).wf :=
  .ite h.setSledHealth (.ite h.setSledHealth.setSled.declareFailed h.setSledHealth.setSled)

theorem State.wf.fatalReport {s : State} (h : s.wf) {n : Nat} : (s.fatalReport n).wf := .ite h.declareFailed h.setHop
theorem State.wf.startJudging {s : State} (h : s.wf) : s.startJudging.wf := h.update.foldl fun _ _ h => .ite h.setHop.declareFailed h
theorem State.wf.countMissing {s : State} (h : s.wf) : s.countMissing.wf := h.update
theorem State.wf.restartEpoch {s : State} (h : s.wf) : s.restartEpoch.wf := h.setDlog.foldl fun _ _ h => h.closeBand

/-! ### Machine/Purge.lean -/

theorem State.wf.clearRange {s : State} (h : s.wf) {a : Nat} : (s.clearRange a).wf := h.foldl fun _ _ h => h.setRegion

theorem State.wf.endReads {s : State} (h : s.wf) {a : Nat} : (s.endReads a).wf := by
  unfold State.endReads
  refine h.update.foldl fun _ _ h => ?_
  dsimp only
  split
  · exact h.update.noteXfer
  · exact h.update

theorem State.wf.endCommits {s : State} (h : s.wf) {a : Nat} : (s.endCommits a).wf := h.foldl fun _ _ h => h.endBankWait.asyncDone

theorem State.wf.purgeArray {s : State} (h : s.wf) {a : Nat} : (s.purgeArray a).wf :=
  .ite h.endReads.endCommits.clearRange.filterBar0.update.setF.syncDirty.syncLost
    h.endReads.endCommits.clearRange.filterBar0.update.setF.syncDirty.syncLost.startEpoch

/-! ### Machine/ModeOps.lean -/

theorem State.wf.beginMove {s : State} (h : s.wf) {tgt : Mode} {cause : Nat} {drain : Bool} : (s.beginMove tgt cause drain).wf := h.update

theorem State.wf.enterMode {s : State} (h : s.wf) {m : Mode} : (s.enterMode m).wf := by
  unfold State.enterMode
  extract_lets _ s1 s2 s3 s4 s5
  have h2 : s2.wf := .ite h.update.stopShuttle h.update
  have h3 : s3.wf := .ite h2 h2.raiseEvent
  have h4 : s4.wf := .ite h3.startJudging h3
  have h5 : s5.wf := State.wf.syncRuns (State.wf.ltrSync (.ite h4.copyAon h4))
  exact .ite h5.sayHello h5

theorem State.wf.writeClk {s : State} (h : s.wf) {c off size : Nat} {value : Word} : (s.writeClk c off size value).wf :=
  h.gate (.clockSync (.ite h.storeReg.setF h.storeReg))

@[simp] theorem State.wf.execSeClkWrite {s : State} (h : s.wf) {c size : Nat} {value : Word} : wfAfter (execSeClkWrite c size value s) :=
  h.writeClk

@[simp] theorem State.wf.execClockStepComplete {s : State} (h : s.wf) {c : Nat} : wfAfter (execClockStepComplete c s) :=
  .ite h h.setF.clockSync

theorem State.wf.setCaps {s : State} (h : s.wf) {f : Nat → Nat} : (s.setCaps f).wf := h.foldl fun _ _ h => h.setF.clockSync
theorem State.wf.ledger {s : State} (h : s.wf) {step event unit : Nat} : (s.ledger step event unit).wf := h.update.bumpFree

theorem State.wf.syncBank {s : State} (h : s.wf) : s.syncBank.wf :=
  .ite (.drive (.forceAll (.ite h.setHealthy.setFlag.setF.setFlag.raiseEvent h.setHealthy.setFlag.setF))) (.ite
    h.setHealthy.setFlag.setF.setFlag.raiseEvent h.setHealthy.setFlag.setF)

theorem State.wf.recompute {s : State} (h : s.wf) {dv : Nat} : (s.recompute dv).wf :=
  .syncBank (.ite (.healthEvent (.ite h.update.setF.setFlag.healthEvent.raiseEvent h.update.setF)) (.ite
    h.update.setF.setFlag.healthEvent.raiseEvent h.update.setF))

/-! ### Machine/Power.lean -/

theorem State.wf.beginFlush {s : State} (h : s.wf) {src : Nat} : (s.beginFlush src).wf :=
  h.update.setFlag.setFlag.setFlag.setFlag.setF.slowClocks

theorem State.wf.enterFlush {s : State} (h : s.wf) {src : Nat} : (s.enterFlush src).wf := by
  unfold State.enterFlush
  refine .update (.beginFlush (.enterMode (.update ?_)))
  split
  · exact .ledger (.ite h.logOpen h)
  · exact .ite h.logOpen h

theorem State.wf.powerLost {s : State} (h : s.wf) : s.powerLost.wf := h.update

@[simp] theorem State.wf.execPowerFailDetection {s : State} (h : s.wf) {src : Nat} : wfAfter (execPowerFailDetection src s) := by
  unfold Machine.execPowerFailDetection
  refine .ite h ?_
  split
  · exact h.logAon.bumpFree.powerLost
  · exact h.logAon.bumpFree.powerLost
  · refine State.wf.beginFlush ?_
    exact h.cutDump.updateDump rfl
  · exact h
  · exact h.enterFlush

theorem State.wf.saveHealth {s : State} (h : s.wf) : s.saveHealth.wf := h.update

@[simp] theorem State.wf.execFlushCommit {s : State} (h : s.wf) {vend : Nat} : wfAfter (execFlushCommit vend s) := by
  unfold Machine.execFlushCommit
  split
  · exact h
  · exact .ite h (.ite h.setF.setF.setF.setFlag.update.update.saveHealth h.setF.setF.setF.setFlag.update)

@[simp] theorem State.wf.execBankRundown {s : State} (h : s.wf) : wfAfter (execBankRundown s) := by
  unfold Machine.execBankRundown
  split
  · exact h
  · exact .powerLost (.ite h.setF.update h)

theorem State.wf.askTest {s : State} (h : s.wf) : s.askTest.wf := .ite h h.update
theorem State.wf.endTest {s : State} (h : s.wf) : s.endTest.wf := .ite h.update.setFlag h

theorem State.wf.writeHuCtl {s : State} (h : s.wf) {off size : Nat} {value : Word} : (s.writeHuCtl off size value).wf :=
  h.gate (.ite (.ite (.recompute (.update (.endTest (.ite h.storeReg.askTest h.storeReg)))) (.syncBank (.update (.update (.endTest (.ite
    h.storeReg.askTest h.storeReg)))))) (.ite (.syncBank (.update (.ite h.storeReg.askTest h.storeReg))) (.ite h.storeReg.askTest
    h.storeReg)))

@[simp] theorem State.wf.execHuTestRequest {s : State} (h : s.wf) {size : Nat} {value : Word} : wfAfter (execHuTestRequest size value s) :=
  h.writeHuCtl

@[simp] theorem State.wf.execCapTestTimer {s : State} (h : s.wf) : wfAfter (execCapTestTimer s) := .ite h.askTest h
@[simp] theorem State.wf.execCapTestStart {s : State} (h : s.wf) : wfAfter (execCapTestStart s) := .ite h.update.setFlag h

@[simp] theorem State.wf.execCapTestComplete {s : State} (h : s.wf) {c : Nat} : wfAfter (execCapTestComplete c s) :=
  .ite (.recompute (.ite h.setFlag.setF.setF.update.setFlag.raiseEvent h.setFlag.setF.setF.update)) h

@[simp] theorem State.wf.execVchgWrite {s : State} (h : s.wf) {size : Nat} {value : Word} : wfAfter (execVchgWrite size value s) :=
  h.writeHuCtl

@[simp] theorem State.wf.execBankReachesVchg {s : State} (h : s.wf) : wfAfter (execBankReachesVchg s) :=
  .ite h (.ite h.update.setF.recompute h.update.setF.syncBank)

@[simp] theorem State.wf.execChargerFault {s : State} (h : s.wf) {present : Bool} : wfAfter (execChargerFault present s) :=
  .ite h.update.syncBank h

@[simp] theorem State.wf.execVaultImageConsumed {s : State} (h : s.wf) : wfAfter (execVaultImageConsumed s) := by
  unfold Machine.execVaultImageConsumed
  split
  · exact h
  · exact .ite h.update.syncBank h

@[simp] theorem State.wf.execVaultEraseSufficient {s : State} (h : s.wf) : wfAfter (execVaultEraseSufficient s) := .ite h.update.syncBank h

theorem State.wf.throttle {s : State} (h : s.wf) {new sensor : Nat} : (s.throttle new sensor).wf :=
  .ite h (.ite (.healthEvent (.ite h.setF.setFlag.raiseEvent.logOpen.setCaps h.setF.setFlag.raiseEvent.logOpen)) (.ite
    h.setF.setFlag.raiseEvent.logOpen.setCaps h.setF.setFlag.raiseEvent.logOpen))

theorem State.wf.caseReads {s : State} (h : s.wf) {t : Nat} : (s.caseReads t).wf := .ite h.update.setF.healthEvent h.update.setF

theorem State.wf.pollStores {s : State} (h : s.wf) {temps : List Nat} {vin iin vbank : Nat} {pfail : Bool} :
    (s.pollStores temps vin iin vbank pfail).wf :=
  ((((((h.foldl fun _ _ h => h.update).setF).setF).setF).setFlag).setF).setFlag

theorem State.wf.pollActs {s : State} (h : s.wf) : s.pollActs.wf := by
  unfold State.pollActs
  dsimp only
  split
  · exact .ite (.ite h h.syncBank) (.caseReads (.ite h h.syncBank))
  · exact .throttle (.setF (.setF (.ite (.ite h h.syncBank) (.caseReads (.ite h h.syncBank)))))

@[simp] theorem State.wf.execSensorPoll {s : State} (h : s.wf) {temps : List Nat} {vin iin vbank : Nat} {pfail : Bool} :
    wfAfter (execSensorPoll temps vin iin vbank pfail s) :=
  .ite h h.pollStores.pollActs

@[simp] theorem State.wf.execThrottleStepTimer {s : State} (h : s.wf) : wfAfter (execThrottleStepTimer s) :=
  .ite h (.ite h.update.setCaps (.ite h.update.setCaps h.update))

@[simp] theorem State.wf.execThermalTrip {s : State} (h : s.wf) {i : Nat} : wfAfter (execThermalTrip i s) := by
  unfold Machine.execThermalTrip
  split
  · exact .ite h.halt h
  · exact h

@[simp] theorem State.wf.execThermalPowerRemoval {s : State} (h : s.wf) {i : Nat} : wfAfter (execThermalPowerRemoval i s) := by
  unfold Machine.execThermalPowerRemoval
  refine .ite h (.powerLost (.logAon ?_))
  split
  · exact .ite h.setF.update h
  · exact h

/-! ### Machine/PairOps.lean -/

theorem State.wf.pairStat {s : State} {f : State → State} (hf : (f s).wf) : (s.pairStat f).wf := .ite hf hf.setFlag.raiseEvent
theorem State.wf.setClaim {s : State} (h : s.wf) {c : Nat} : (s.setClaim c).wf := h.update.setF

theorem State.wf.claimSled {s : State} (h : s.wf) {n : Nat} : (s.claimSled n).wf := by
  unfold State.claimSled
  extract_lets s1
  have h1 : s1.wf := by
    refine State.wf.foldl h fun t a h => ?_
    exact h.sendSled
  exact h1.sendSled

theorem State.wf.claimAll {s : State} (h : s.wf) : s.claimAll.wf := h.foldl fun _ _ h => h.claimSled
theorem State.wf.sendWit {s : State} (h : s.wf) {wcode : Nat} {body : List Byte} : (s.sendWit wcode body).wf := h.update.send

theorem State.wf.sendHello {s : State} (h : s.wf) : s.sendHello.wf := by
  unfold State.sendHello
  split
  · exact .ite h h.sendWit
  · exact h

theorem State.wf.fromWitness {s : State} (h : s.wf) : s.fromWitness.wf := .pairStat h.update.setFlag

theorem State.wf.releaseEmits {s : State} (h : s.wf) : s.releaseEmits.wf := by
  unfold State.releaseEmits
  refine h.releaseHeld.foldl fun _ _ h => h.foldl fun _ _ h => ?_
  split
  · exact .ite h.setThr.sendProgram h
  · exact h

theorem State.wf.syncDurable {s : State} (h : s.wf) : s.syncDurable.wf := .ite h.update h

theorem State.wf.setMirroring {s : State} (h : s.wf) {b : Bool} : (s.setMirroring b).wf :=
  .ite h.update h.update.syncDurable.releaseEmits.settleWorks

theorem State.wf.regatherLoose {s : State} (h : s.wf) : s.regatherLoose.wf := h.update
theorem State.wf.syncHoop {s : State} (h : s.wf) : s.syncHoop.wf := h.syncDirty.setF.setF.syncLost.syncDlog
theorem State.wf.declarePeerLost {s : State} (h : s.wf) : s.declarePeerLost.wf := .ite h.update.sendWit h
theorem State.wf.lapseCommits {s : State} (h : s.wf) : s.lapseCommits.wf := ((h.foldl fun _ _ h => h.setThr).setBankWaits).bumpFree
theorem State.wf.loseLease {s : State} (h : s.wf) : s.loseLease.wf := .pairStat h.update.lapseCommits.setF.setFlag
theorem State.wf.logWithheld {s : State} (h : s.wf) {r : Nat} {tags : List Nat} : (s.logWithheld r tags).wf := h.logRec.bumpFree

theorem State.wf.withholdRing {s : State} (h : s.wf) {r : Nat} : (s.withholdRing r).wf :=
  (h.setSub.setF.foldl fun _ _ h => h.logWithheld).inflightDone

theorem State.wf.withholdHeld {s : State} (h : s.wf) {q : Nat} : (s.withholdHeld q).wf :=
  (h.setCpl.setF.setF.foldl fun _ _ h => h.logWithheld).holdingFreed

theorem State.wf.withhold {s : State} (h : s.wf) : s.withhold.wf :=
  ((h.foldl fun _ _ h => h.abandonOwned.endThread).foldl fun _ _ h => h.withholdHeld).foldl fun _ _ h => h.withholdRing

theorem State.wf.dropMedia {s : State} (h : s.wf) : s.dropMedia.wf :=
  ((h.update.foldl fun _ _ h => h.update).update).foldl fun _ _ h => h.commandLost

/-! ### Machine/Links.lean -/

theorem State.wf.protoError {s : State} (h : s.wf) {p type : Nat} : (s.protoError p type).wf := .ite h h.satF.setF.noticeOther

theorem State.wf.takeAck {s : State} (h : s.wf) {link : Nat} {f : Frame} : (s.takeAck link f).wf :=
  .ite (.ite h.setPort.satF h.setPort) h.setPort

@[simp] theorem State.wf.execFrameReceive {s : State} (h : s.wf) {link : Nat} {f : Frame} : wfAfter (execFrameReceive link f s) := by
  unfold Machine.execFrameReceive
  refine State.wf.ite h ?_
  extract_lets _ s0 s1' _ s1 s2 x s3
  have h0 : s0.wf := .ite h.update h
  refine .ite (State.wf.setPort (.ite h0.satF h0)) ?_
  have h2 : s2.wf := State.wf.takeAck (.ite h0.satF h0)
  have h3 : s3.wf := .ite h2 (.ite h2.setPort h2.setPort)
  exact h3.pump

@[simp] theorem State.wf.execCredit {s : State} (h : s.wf) {link ctrl bulk : Nat} {hcrcOk : Bool} :
    wfAfter (execCredit link ctrl bulk hcrcOk s) :=
  .ite h (.ite h.protoError h.setPort.pump)

theorem State.wf.hopLost {s : State} (hs : s.wf) {p h : Nat} : (s.hopLost p h).wf := by
  unfold State.hopLost
  refine .ite hs (.ite (.setF ?_) ?_)
  · split
    · exact hs.setHop.update.setSled
    · exact hs.setHop.update
  · split
    · exact hs.setHop.update.setSled
    · exact hs.setHop.update

theorem State.wf.hopsLost {s : State} (hs : s.wf) {p h : Nat} : (s.hopsLost p h).wf :=
  .ite ((hs.foldl fun _ _ h => h.hopLost).setF) (((((hs.foldl fun _ _ h => h.hopLost).setF).setPort).setFlag).setFlag)

theorem State.wf.retrain {s : State} (h : s.wf) {p : Nat} : (s.retrain p).wf := .ite h.hopsLost.setF.satF h.hopsLost.setF
theorem State.wf.pairPortUp {s : State} (h : s.wf) {link : Nat} {up : Bool} : (s.pairPortUp link up).wf := .pairStat h.setF.setFlag

@[simp] theorem State.wf.execBobbinLinkDown {s : State} (h : s.wf) {link hop : Nat} {signal : Bool} :
    wfAfter (execBobbinLinkDown link hop signal s) :=
  .ite h (.ite (.ite h.retrain h.hopsLost) (.ite h.setPort.pairPortUp h.setPort))

theorem State.wf.learnPeer {s : State} (h : s.wf) {serial : Nat} : (s.learnPeer serial).wf :=
  .ite h.update.setF.setF.noticeOther h.update.setF.setF.sendHello

theorem State.wf.linkTrained {s : State} (h : s.wf) {link hop ack ctrl bulk serial : Nat} :
    (s.linkTrained link hop ack ctrl bulk serial).wf :=
  .ite (.pump (.setF (.setHop (.ite h.setPort.setF.setFlag.setFlag h)))) (.pump (.ite h.setPort.pairPortUp.learnPeer h.setPort))

@[simp] theorem State.wf.execLinkTrained {s : State} (h : s.wf) {link hop ack ctrl bulk serial : Nat} :
    wfAfter (execLinkTrained link hop ack ctrl bulk serial s) :=
  .ite h (.ite (.ite h.linkTrained h) (.ite h h.linkTrained))

theorem State.wf.powerOff {s : State} (hs : s.wf) {p h state : Nat} : (s.powerOff p h state).wf :=
  .ite hs.hopsLost.setHop.setFlag.setF.setF.setReg.setReg.setReg.setF.setPort
    hs.hopsLost.setHop.setFlag.setF.setF.setReg.setReg.setReg.setPort

theorem State.wf.portOff {s : State} (h : s.wf) {p state : Nat} : (s.portOff p state).wf := h.foldl fun _ _ h => h.powerOff

theorem State.wf.writeBpCtl {s : State} (h : s.wf) {p off size : Nat} {value : Word} : (s.writeBpCtl p off size value).wf :=
  h.gate (.ite (.retrain (.ite h.storeReg.portOff (.ite (h.storeReg.foldl fun _ _ h => .ite h.setF h) h.storeReg))) (.ite
    h.storeReg.portOff (.ite (h.storeReg.foldl fun _ _ h => .ite h.setF h) h.storeReg)))

@[simp] theorem State.wf.execRetrain {s : State} (h : s.wf) {p : Nat} : wfAfter (execRetrain p s) := h.writeBpCtl

@[simp] theorem State.wf.execPortEnWrite {s : State} (h : s.wf) {p size : Nat} {value : Word} : wfAfter (execPortEnWrite p size value s) :=
  h.writeBpCtl

/-! ### Machine/DevReads.lean -/

theorem State.wf.setVictim {s : State} (h : s.wf) {a c b : Nat} : (s.setVictim a c b).wf := h.update

theorem State.wf.beginRead {s : State} (h : s.wf) {r : StripeRead} : (s.beginRead r).wf :=
  h.update.setBand.foldl fun _ _ h => .ite h.setVictim h

theorem State.wf.startRead {s : State} (h : s.wf) {goal : ReadGoal} {a b st : Nat} {want : List (Nat × List Nat)} :
    (s.startRead goal a b st want).wf := by
  unfold State.startRead
  split
  · exact h.update.foldl fun _ _ h => h.startJob
  · exact h

theorem State.wf.readStripe {s : State} (h : s.wf) {goal : ReadGoal} {a b st : Nat} : (s.readStripe goal a b st).wf := h.startRead

theorem State.wf.noteLoss {s : State} (h : s.wf) {d : DevRead} : (s.noteLoss d).wf := by
  unfold State.noteLoss
  split
  · exact .ite h h.readStripe
  · exact h
  · exact .ite h h.findLost

theorem State.wf.copyGrain {s : State} (h : s.wf) {a source g pga : Nat} {words : List (Option WordRead)} :
    (s.copyGrain a source g pga words).wf :=
  .ite h (.ite h.update (.ite h.mapup h))

theorem State.wf.copyStripe {s : State} (h : s.wf) {d : DevRead} {source : Nat} : (s.copyStripe d source).wf := by
  unfold State.copyStripe
  refine h.foldl fun _ _ h => ?_
  dsimp only
  split
  · exact h.copyGrain
  · exact h

theorem State.wf.padCopies {s : State} (h : s.wf) {a source : Nat} : (s.padCopies a source).wf := h.foldl fun _ _ h => .ite h.writeCopies h

theorem State.wf.nextGc {s : State} (h : s.wf) {a c b st : Nat} : (s.nextGc a c b st).wf := by
  unfold State.nextGc
  refine .ite h ?_
  split
  · exact h.readStripe
  · exact h

theorem State.wf.nextReshape {s : State} (h : s.wf) {a c b st : Nat} : (s.nextReshape a c b st).wf := by
  unfold State.nextReshape
  refine .ite h ?_
  split
  · exact h.beginRead.readStripe
  · exact h

theorem State.wf.scrubbed {s : State} (h : s.wf) {d : DevRead} : (s.scrubbed d).wf := .ite h.copyStripe h

theorem State.wf.resyncDelta {s : State} (h : s.wf) {a source g pga vseq : Nat} {poisoned : Bool} :
    (s.resyncDelta a source g pga vseq poisoned).wf :=
  .ite h.mapup (.ite h.logEntry h.mapAccess)

theorem State.wf.resynced {s : State} (h : s.wf) {d : DevRead} {e eseq : Nat} : (s.resynced d e eseq).wf := by
  unfold State.resynced
  refine .ite h ((h.foldl fun _ _ h => ?_).closeStripe)
  dsimp only
  split
  · exact h.resyncDelta
  · exact h

theorem State.wf.regionStep {s : State} (h : s.wf) : s.regionStep.wf := by
  unfold State.regionStep
  split
  · dsimp only
    split
    · exact .ite h (.drive (.resyncNext (.ite h h.setRegion)))
    · exact h
  · exact h

theorem State.wf.enterFilled {s : State} (h : s.wf) {v : Version} {fill : List (Nat × Info)} : (s.enterFilled v fill).wf := by
  unfold State.enterFilled
  dsimp only
  split
  · exact h
  · exact .drive (.ite h.placeVersion.forceAll h.placeVersion)

theorem State.wf.filled {s : State} (h : s.wf) {d : DevRead} {g seq pga : Nat} : (s.filled d g seq pga).wf := by
  unfold State.filled
  split
  · exact h
  · exact h.enterFilled

theorem State.wf.readFill {s : State} (h : s.wf) {v : Version} {l : List Nat} : (s.readFill v l).wf := .ite h h.startRead

theorem State.wf.releaseJobs {s : State} (h : s.wf) {a b st : Nat} : (s.releaseJobs a b st).wf := by
  unfold State.releaseJobs
  refine h.foldl fun _ _ h => ?_
  split
  · exact h.endFetch
  · exact h

theorem State.wf.recount {s : State} (h : s.wf) : s.recount.wf := h.update.foldl fun _ _ h => h.setF.syncArray

theorem State.wf.finishLoad {s : State} (h : s.wf) : s.finishLoad.wf := by
  unfold State.finishLoad
  split
  · exact h
  · exact .ite h h.update.recount.syncAll

theorem State.wf.beginLoad {s : State} (h : s.wf) : s.beginLoad.wf :=
  .ite h ((h.update.foldl fun _ _ h => h.foldl fun _ _ h => h.readStripe).finishLoad)

theorem State.wf.segmentRead {s : State} (h : s.wf) {d : DevRead} {seg part : Nat} : (s.segmentRead d seg part).wf := by
  unfold State.segmentRead
  split
  · exact h
  · exact .finishLoad (.ite h.update h.update.setFlag)

theorem State.wf.finishRead {s : State} (h : s.wf) {d : DevRead} : (s.finishRead d).wf := by
  unfold State.finishRead
  dsimp only
  split
  · exact h.noteLoss.copyStripe.drive.nextGc
  · exact h.noteLoss.copyStripe.settleWorks
  · exact h.noteLoss.copyStripe.settleWorks.nextReshape
  · exact h.noteLoss.scrubbed.drive
  · exact .regionStep (.ite h.noteLoss h.noteLoss.copyStripe.drive)
  · exact h.noteLoss.resynced.regionStep
  · exact h.noteLoss.filled
  · exact h.noteLoss.releaseJobs
  · exact h.noteLoss.segmentRead

theorem State.wf.examineHeld {s : State} (h : s.wf) : s.examineHeld.wf := h.foldl fun _ _ h => .ite h h.readStripe

theorem State.wf.settleDev {s : State} (h : s.wf) {n : Nat} : (s.settleDev n).wf := by
  induction n generalizing s with
  | zero => exact h
  | succ n ih =>
    unfold State.settleDev
    split
    · exact ih h.update.finishRead
    · exact h

theorem State.wf.runReads {s : State} (h : s.wf) : s.runReads.wf := h.examineHeld.settleDev

/-! ### Machine/Relocate.lean -/

@[simp] theorem State.wf.execGrainAgeExpiry {s : State} (h : s.wf) {a g : Nat} {_fill : Unit} :
    wfAfter (execGrainAgeExpiry a g _fill s) := by
  unfold Machine.execGrainAgeExpiry
  split
  · exact h
  · refine .ite h ?_
    split
    · exact h.enterFilled
    · exact h.readFill.runReads

theorem State.wf.resyncEntry {s : State} (h : s.wf) {e : Nat} : (s.resyncEntry e).wf := .ite h.readStripe h.abandonEntry.closeBand

theorem State.wf.checkBands {s : State} (h : s.wf) {r : Nat} : (s.checkBands r).wf :=
  h.update.foldl fun _ _ h => h.foldl fun _ _ h => h.readStripe

@[simp] theorem State.wf.execResyncRegion {s : State} (h : s.wf) {_found _lost : Unit} : wfAfter (execResyncRegion _found _lost s) := by
  unfold Machine.execResyncRegion
  split
  · exact h
  · split
    · exact h.resyncNext
    · exact .ite h (.ite h.regionStep ((((h.update.foldl fun _ _ h => h.resyncEntry).checkBands).runReads).regionStep))

@[simp] theorem State.wf.execCheckpointEpochTimer {s : State} (h : s.wf) : wfAfter (execCheckpointEpochTimer s) := .ite h h.startEpoch

@[simp] theorem State.wf.execCheckpointEpochCommit {s : State} (h : s.wf) : wfAfter (execCheckpointEpochCommit s) :=
  .ite h (.ite h.sendDirectory.setDlog.setFlag.setFlag.incF.syncDlog.mirror.settleWorks.startEpoch
    h.sendDirectory.setDlog.setFlag.setFlag.incF.syncDlog.mirror.settleWorks)

@[simp] theorem State.wf.execGcVictimSelect {s : State} (h : s.wf) {a c : Nat} {_units _lost : Unit} :
    wfAfter (execGcVictimSelect a c _units _lost s) := by
  unfold Machine.execGcVictimSelect
  refine .ite h (.ite h.padCopies.setVictim.syncSpace (.ite h (.ite h.nextGc.runReads ?_)))
  dsimp only
  split
  · exact h.setVictim.syncSpace.setVictim.nextGc.runReads
  · exact h.setVictim.syncSpace.padCopies

theorem State.wf.issueErases {s : State} (h : s.wf) {a b : Nat} : (s.issueErases a b).wf :=
  .ite ((h.foldl fun _ _ h => .ite h h.retireBlock).finishErase) ((h.foldl fun _ _ h => .ite h h.retireBlock).foldl fun _ _ h =>
    h.sendSled)

@[simp] theorem State.wf.execBandEraseStart {s : State} (h : s.wf) {a b : Nat} : wfAfter (execBandEraseStart a b s) :=
  .ite h (.ite (.issueErases (.ite ((h.foldl fun _ _ h => .ite h.setVictim h).setBandLogged) h)) (.ite ((h.foldl fun _ _ h => .ite
    h.setVictim h).setBandLogged) h))

@[simp] theorem State.wf.execRateInterval {s : State} (h : s.wf) : wfAfter (execRateInterval s) :=
  .ite h ((h.update.foldl fun _ _ h => h.update).foldl fun _ _ h => h.retryWaiting)

@[simp] theorem State.wf.execRebuildStripe {s : State} (h : s.wf) {a c : Nat} {_units _lost : Unit} :
    wfAfter (execRebuildStripe a c _units _lost s) := by
  unfold Machine.execRebuildStripe
  refine .ite h.syncMembers (.ite h ?_)
  split
  · exact h.padCopies.settleWorks
  · exact h.beginRead.readStripe.runReads

@[simp] theorem State.wf.execLostUnitScan {s : State} (h : s.wf) {a pga : Nat} {_vseq : Unit} :
    wfAfter (execLostUnitScan a pga _vseq s) := by
  unfold Machine.execLostUnitScan
  refine .ite h ?_
  dsimp only
  split
  · exact h.update.syncLost
  · exact h.update.addLostGrain.update.syncLost

theorem State.wf.syncReshape {s : State} (h : s.wf) {a : Nat} : (s.syncReshape a).wf := .ite h h.setF.setF.setFlag.setF.setF.setF.setF
theorem State.wf.closeRetiring {s : State} (h : s.wf) {a c : Nat} : (s.closeRetiring a c).wf := h.foldl fun _ _ h => h.closeBand

@[simp] theorem State.wf.execReshapeRelocateBand {s : State} (h : s.wf) {a c : Nat} {_units _lost : Unit} :
    wfAfter (execReshapeRelocateBand a c _units _lost s) := by
  unfold Machine.execReshapeRelocateBand
  refine .ite h.syncReshape (.ite h ?_)
  split
  · exact h.padCopies.closeRetiring.settleWorks.syncReshape
  · exact h.nextReshape.runReads.syncReshape

theorem State.wf.settleArrays {s : State} (h : s.wf) : s.settleArrays.wf :=
  .ite h (h.foldl fun _ _ h => h.syncArray.syncSpace.syncMembers.syncReshape)

@[simp] theorem State.wf.execScrubStripe {s : State} (h : s.wf) {a : Nat} {_bad _units _lost : Unit} :
    wfAfter (execScrubStripe a _bad _units _lost s) := by
  unfold Machine.execScrubStripe
  refine .ite h ?_
  split
  · exact h.setArr
  · exact h.setArr.readStripe.runReads

/-! ### Machine/Sleds.lean -/

theorem State.wf.staleClaim {s : State} (h : s.wf) : s.staleClaim.wf := .ite h.loseLease h

theorem State.wf.hopSend {s : State} (hs : s.wf) {p h step : Nat} {kind : SledKind} {array : Nat} {scope : Bool} :
    (s.hopSend p h step kind array scope).wf :=
  hs.issueSled

theorem State.wf.identified {s : State} (hs : s.wf) {p h : Nat} {l : List Byte} : (s.identified p h l).wf :=
  .ite hs (.ite ((hs.setHop.setReg.setReg.setReg.hopSend.foldl fun _ _ h => h.hopSend).hopSend) hs.setHop.setReg.setReg.setReg.hopSend)

theorem State.wf.setupDone {s : State} (hs : s.wf) {p h : Nat} : (s.setupDone p h).wf := .ite hs hs.setHop.hopSend

theorem State.wf.seatSled {s : State} (hs : s.wf) {p h n : Nat} : (s.seatSled p h n).wf :=
  .ite hs.setSled.setHop.setF.setF.mirror.chooseCopies.syncAll.resetSled hs.setSled.setHop.setF.setF.mirror.chooseCopies.syncAll

theorem State.wf.seatNew {s : State} (hs : s.wf) {p h : Nat} : (s.seatNew p h).wf := hs.setHop.setF.setF

theorem State.wf.recordRead {s : State} (hs : s.wf) {p h : Nat} {ok : Bool} : (s.recordRead p h ok).wf := by
  unfold State.recordRead
  dsimp only
  split
  · exact hs.seatSled
  · exact hs.seatNew

theorem State.wf.statusBlock {s : State} (hs : s.wf) {p h : Nat} {l : List Byte} : (s.statusBlock p h l).wf := by
  unfold State.statusBlock
  refine .ite hs ?_
  extract_lets state down s1 next _ s2 x s3 known
  have h1 : s1.wf := by
    unfold s1
    split
    · exact .ite hs.setSledHealth.fatalReport (.ite hs.setSledHealth.setHop hs.setSledHealth)
    · exact hs
  have h2 : s2.wf := .ite (.ite h1.setHop (.ite h1.hopsLost h1)) h1
  have h3 : s3.wf := h2.setF
  exact .ite h2 (.ite h3.seatSled (.ite h3.setHop.hopSend h3))

@[simp] theorem State.wf.execEnumerateHop {s : State} (hs : s.wf) {p h : Nat} : wfAfter (execEnumerateHop p h s) :=
  .ite hs hs.setHop.hopSend

@[simp] theorem State.wf.execSetTimeTimer {s : State} (h : s.wf) : wfAfter (execSetTimeTimer s) := by
  unfold Machine.execSetTimeTimer
  refine .ite h ((h.foldl fun _ _ h => ?_).update)
  dsimp only
  split
  · exact .ite h.sendHop.sendSled h.sendHop
  · exact h.sendHop

@[simp] theorem State.wf.execInitStatusPoll {s : State} (hs : s.wf) {p h : Nat} : wfAfter (execInitStatusPoll p h s) :=
  .ite hs hs.setHop.hopSend

@[simp] theorem State.wf.execSledInitTimeout {s : State} (hs : s.wf) {p h : Nat} : wfAfter (execSledInitTimeout p h s) := by
  unfold Machine.execSledInitTimeout
  dsimp only
  split
  · exact .ite hs.powerOff.logOpen hs
  · exact hs

theorem State.wf.hopRefuse {s : State} (hs : s.wf) {p h value : Nat} : (s.hopRefuse p h value).wf := hs.setFlag.noticeOther

theorem State.wf.enrolHop {s : State} (hs : s.wf) {p h : Nat} : (s.enrolHop p h).wf := by
  unfold State.enrolHop
  refine .ite hs.hopRefuse ?_
  split
  · exact hs.hopRefuse
  · exact hs.setHop.sendHop

theorem State.wf.enrolFailed {s : State} (hs : s.wf) {p h status : Nat} : (s.enrolFailed p h status).wf := hs.setHop.hopRefuse

theorem State.wf.enrolWords {s : State} (h : s.wf) {n blocks : Nat} {wear bad : List Byte} : (s.enrolWords n blocks wear bad).wf :=
  h.foldl fun _ _ h => .ite h h.setEword

theorem State.wf.startHealth {s : State} (h : s.wf) {n bad : Nat} : (s.startHealth n bad).wf := h.setSledHealth

theorem State.wf.enrolNext {s : State} (hs : s.wf) {p h : Nat} : (s.enrolNext p h).wf := by
  unfold State.enrolNext
  dsimp only
  split
  · exact hs
  · exact .ite hs.setHop.sendHop (.ite hs.setHop.sendHop hs.setHop.setSled.enrolWords.startHealth.seatSled)

theorem State.wf.disenrolHop {s : State} (hs : s.wf) {p h : Nat} : (s.disenrolHop p h).wf := by
  unfold State.disenrolHop
  split
  · exact hs.hopRefuse
  · exact .ite hs.hopRefuse (.syncAll (.chooseCopies (.setHop (.setF (.setF (.mirror (.setSled (.ite hs.sendHop hs))))))))

theorem State.wf.writeHopCmd {s : State} (hs : s.wf) {p h size : Nat} {value : Word} : (s.writeHopCmd p h size value).wf := by
  unfold State.writeHopCmd
  refine hs.command fun _ => ?_
  split
  · exact hs.enrolHop
  · exact hs.disenrolHop
  · exact hs.hopRefuse

@[simp] theorem State.wf.execEnrol {s : State} (hs : s.wf) {p h : Nat} : wfAfter (execEnrol p h s) := hs.writeHopCmd
@[simp] theorem State.wf.execDisenrol {s : State} (hs : s.wf) {p h : Nat} : wfAfter (execDisenrol p h s) := hs.writeHopCmd

theorem State.wf.logData {s : State} (h : s.wf) {p : Nat} {c : SledCmd} {bs : List Byte} : (s.logData p c bs).wf := by
  unfold State.logData
  dsimp only
  split
  · exact h.setHop
  · exact h.setHop
  · exact h.setHop
  · split
    · exact h.setSledHealth
    · exact h
  · exact h

@[simp] theorem State.wf.execRdata {s : State} (h : s.wf) {p tag hop seg : Nat} {d : ReadData} {hcrcOk : Bool} :
    wfAfter (execRdata p tag hop seg d hcrcOk s) := by
  unfold Machine.execRdata
  refine .ite h (.ite h.returnCredit.protoError ?_)
  split
  · exact h.returnCredit.protoError
  · refine .ite h.returnCredit (.ite h.returnCredit.protoError ?_)
    split
    · exact h.returnCredit.columnData.runReads
    · exact h.returnCredit.logData
    · exact h.returnCredit

theorem State.wf.sledNotReady {s : State} (h : s.wf) {n : Nat} : (s.sledNotReady n).wf := .ite h.setSled.countTimeout h.setSled
theorem State.wf.sledAnswered {s : State} (h : s.wf) {n : Nat} : (s.sledAnswered n).wf := h.setSled
theorem State.wf.holdCommand {s : State} (h : s.wf) {p : Nat} {c : SledCmd} : (s.holdCommand p c).wf := h.setPort

theorem State.wf.readEnded {s : State} (h : s.wf) {c : SledCmd} {j col : Nat} : (s.readEnded c j col).wf := by
  unfold State.readEnded
  split
  · split
    · exact .ite h.readErased h
    · exact h
  · exact h

theorem State.wf.eraseEnded {s : State} (h : s.wf) {a b : Nat} : (s.eraseEnded a b).wf := .ite h.finishErase h

theorem State.wf.blockErased {s : State} (h : s.wf) {a b n blk : Nat} {slc : Bool} : (s.blockErased a b n blk slc).wf :=
  .ite h.setEword (.ite h.setEword.setBand.eraseEnded h.setEword.retryWaiting)

theorem State.wf.retarget {s : State} (h : s.wf) {n old new : Nat} : (s.retarget n old new).wf := h.setPort

theorem State.wf.dropPrograms {s : State} (h : s.wf) {n old : Nat} : (s.dropPrograms n old).wf := by
  unfold State.dropPrograms
  refine h.setPort.foldl fun _ _ h => ?_
  split
  · exact h.programFailed.asyncDone
  · exact h.ckptAcked
  · exact h

theorem State.wf.eraseFailed {s : State} (h : s.wf) {a b n blk : Nat} {slc : Bool} : (s.eraseFailed a b n blk slc).wf := by
  unfold State.eraseFailed
  refine .ite h.setEword (.ite h.eraseEnded (.ite h.retireBlock.eraseEnded.syncArray ?_))
  dsimp only
  split
  · exact h.retireBlock.setBand.takeBlock.retarget.retryWaiting.syncArray
  · exact h.retireBlock.setBand.closeBand.dropPrograms.syncArray

theorem State.wf.programEnded {s : State} (h : s.wf) {th id e col : Nat} {interim : Bool} {status : Nat} :
    (s.programEnded th id e col interim status).wf :=
  .ite (.ite h.workAcked h.setCentry.asyncDone) (.ite h.staleClaim.asyncDone (.ite h.programFailed.asyncDone.drive
    h.programFailed.asyncDone.drive))

theorem State.wf.configEnded {s : State} (h : s.wf) {p : Nat} {c : SledCmd} {what status : Nat} : (s.configEnded p c what status).wf := by
  unfold State.configEnded
  split
  · exact .ite h.enrolNext h.enrolFailed
  · split
    · exact h.update
    · exact h
  · split
    · exact h.update
    · exact h

theorem State.wf.hopEnded {s : State} (h : s.wf) {p : Nat} {c : SledCmd} {step status : Nat} {body : List Byte} :
    (s.hopEnded p c step status body).wf :=
  .ite (.ite h.identified h) (.ite (.setupDone (.ite h.staleClaim h)) (.ite (.ite h.statusBlock h) (.ite h.recordRead h)))

theorem State.wf.settleRsp {s : State} (h : s.wf) {p : Nat} {c : SledCmd} {status : Nat} {body : List Byte} :
    (s.settleRsp p c status body).wf := by
  unfold State.settleRsp
  extract_lets media s0
  have h0 : s0.wf := by
    unfold s0
    split
    · exact .ite h.sledNotReady (.ite h.sledAnswered.fatalReport (.ite h.sledAnswered h))
    · exact h
  split
  · refine State.wf.readEnded (.ite h0 (.ite h0.staleClaim ?_))
    split
    · exact h0.protoError.countTimeout
    · exact h0
  · exact .ite h0.holdCommand h0.programEnded
  · exact .ite h0.holdCommand (.ite h0.blockErased (.ite h0.staleClaim.eraseEnded (.ite h0.eraseEnded h0.eraseFailed)))
  · exact .ite h0.holdCommand (State.wf.ckptAcked (.ite h0.staleClaim h0))
  · exact .ite h0.holdCommand (State.wf.configEnded (.ite h0.staleClaim h0))
  · exact .ite h0.holdCommand h0.hopEnded
  · refine .ite h0.holdCommand ?_
    split
    · exact .ite h0.statusBlock h0
    · exact .ite h0.staleClaim h0
    · exact h0

@[simp] theorem State.wf.execRsp {s : State} (h : s.wf) {p tag hop status : Nat} {body : List Byte} {hcrcOk : Bool} :
    wfAfter (execRsp p tag hop status body hcrcOk s) := by
  unfold Machine.execRsp
  refine .ite h (.ite h.returnCredit.protoError ?_)
  split
  · exact h.returnCredit.protoError
  · exact .ite h.returnCredit.protoError (.ite h.returnCredit.satF.endSled h.returnCredit.endSled.settleRsp.retryWaiting.runReads)

@[simp] theorem State.wf.execAlert {s : State} (h : s.wf) {p hop : Nat} {body : List Byte} {hcrcOk : Bool} :
    wfAfter (execAlert p hop body hcrcOk s) :=
  .ite h (.ite h.returnCredit.protoError h.returnCredit.statusBlock.runReads)

theorem State.wf.reserveTag {s : State} (h : s.wf) {k : Nat} {c : SledCmd} : (s.reserveTag k c).wf := h.update

theorem State.wf.reissue {s : State} (h : s.wf) {p : Nat} {c : SledCmd} : (s.reissue p c).wf := by
  unfold State.reissue
  extract_lets c2
  exact h.issueSled

theorem State.wf.notAnswering {s : State} (h : s.wf) {p : Nat} {c : SledCmd} : (s.notAnswering p c).wf := by
  unfold State.notAnswering
  dsimp only
  split
  · refine .enrolFailed ?_
    split
    · exact h.setSled
    · exact h
  · refine .commandLost ?_
    split
    · exact h.setSled
    · exact h
  · refine .seatNew ?_
    split
    · exact h.setSled
    · exact h
  · split
    · exact h.setSled
    · exact h

theorem State.wf.commandTimeout {s : State} (h : s.wf) {p k : Nat} {c : SledCmd} : (s.commandTimeout p k c).wf := by
  unfold State.commandTimeout
  extract_lets s0 s1
  have h1 : s1.wf := by
    unfold s1
    split
    · exact h.reserveTag.countTimeout
    · exact h.reserveTag
  split
  · exact h1.programFailed.asyncDone.drive
  · exact h1.ckptAcked
  · exact .ite h1.eraseEnded (.ite h1.eraseFailed h1.reissue)
  · split
    · exact h1.enrolFailed
    · exact .ite h1.notAnswering h1.reissue

@[simp] theorem State.wf.execMemberReadTimeout {s : State} (h : s.wf) {p tag : Nat} : wfAfter (execMemberReadTimeout p tag s) := by
  unfold Machine.execMemberReadTimeout
  dsimp only
  split
  · split
    · refine .ite (.runReads ?_) h
      split
      · exact h.reserveTag.readEnded.countTimeout
      · exact h.reserveTag.readEnded
    · exact h
  · exact h

@[simp] theorem State.wf.execCommandTimeout {s : State} (h : s.wf) {p tag : Nat} : wfAfter (execCommandTimeout p tag s) := by
  unfold Machine.execCommandTimeout
  dsimp only
  split
  · split
    · exact h
    · exact .ite h.commandTimeout.runReads h
  · exact h

@[simp] theorem State.wf.execNotReadyRetry {s : State} (h : s.wf) {p : Nat} : wfAfter (execNotReadyRetry p s) :=
  .ite h h.setPort.retryWaiting

@[simp] theorem State.wf.execLinkLossDeclare {s : State} (h : s.wf) {n : Nat} : wfAfter (execLinkLossDeclare n s) := by
  unfold Machine.execLinkLossDeclare
  split
  · exact .ite h.declareFailed.runReads h
  · exact h

/-! ### Machine/Bay.lean -/

theorem State.wf.presenceChanged {s : State} (hs : s.wf) {p h : Nat} {present : Bool} : (s.presenceChanged p h present).wf := by
  unfold State.presenceChanged
  refine .ite hs.setFlag.setFlag.raiseEvent.setF (.setHop (.powerOff ?_))
  split
  · exact hs.setFlag.setFlag.raiseEvent.declareFailed
  · exact hs.setFlag.setFlag.raiseEvent

theorem State.wf.sampleBay {s : State} (hs : s.wf) {p h word : Nat} : (s.sampleBay p h word).wf :=
  .ite (.presenceChanged (.ite hs.setHop.setFlag.setFlag.setFlag.setFlag.raiseEvent hs.setHop.setFlag.setFlag)) (.ite
    hs.setHop.setFlag.setFlag.setFlag.setFlag.raiseEvent hs.setHop.setFlag.setFlag)

theorem State.wf.pollExpander {s : State} (h : s.wf) {e : Nat} {word : Option Nat} : (s.pollExpander e word).wf := by
  unfold State.pollExpander
  dsimp only
  split
  · exact .ite (h.update.setF.setF.foldl fun _ _ h => h.sampleBay) h.update.setF.setF
  · exact .ite h.update.setF.setF.raiseEvent h.update

theorem State.wf.settleMissing {s : State} (h : s.wf) : s.settleMissing.wf := .ite h.countMissing h

@[simp] theorem State.wf.execBayPoll {s : State} (h : s.wf) {inputs : List (Option Nat)} : wfAfter (execBayPoll inputs s) :=
  .ite h ((h.update.foldl fun _ _ h => h.pollExpander).settleMissing)

theorem State.wf.powerBay {s : State} (hs : s.wf) {p h : Nat} : (s.powerBay p h).wf :=
  .ite hs.setHop.setFlag.setF.setF hs.setHop.setFlag.setF

@[simp] theorem State.wf.execBayPowerOn {s : State} (hs : s.wf) {p h : Nat} : wfAfter (execBayPowerOn p h s) := .ite hs.powerBay hs

@[simp] theorem State.wf.execSledTrainTimeout {s : State} (hs : s.wf) {p h : Nat} : wfAfter (execSledTrainTimeout p h s) := by
  unfold Machine.execSledTrainTimeout
  dsimp only
  split
  · exact .ite (.ite hs.powerOff.logOpen hs.powerOff.setHop) hs
  · exact hs

@[simp] theorem State.wf.execSledPowerRetry {s : State} (hs : s.wf) {p h : Nat} : wfAfter (execSledPowerRetry p h s) := by
  unfold Machine.execSledPowerRetry
  dsimp only
  split
  · exact .ite hs.setHop.powerBay hs
  · exact hs

theorem State.wf.writeHopCtl {s : State} (hs : s.wf) {p h off size : Nat} {value : Word} : (s.writeHopCtl p h off size value).wf :=
  hs.gate (.ite (.ite hs.storeReg.setFlag.hopRefuse (.ite hs.storeReg.powerOff hs.storeReg)) (.ite hs.storeReg.setF hs.storeReg))

@[simp] theorem State.wf.execPwroff {s : State} (hs : s.wf) {p h size : Nat} {value : Word} : wfAfter (execPwroff p h size value s) :=
  hs.writeHopCtl

theorem State.wf.sledsOff {s : State} (h : s.wf) : s.sledsOff.wf :=
  ((h.foldl fun _ _ h => h.sendHop).foldl fun _ _ h => .ite h.portOff h).update

theorem State.wf.sledsGone {s : State} (h : s.wf) : s.sledsGone.wf := (h.update.foldl fun _ _ h => h.commandLost).update
theorem State.wf.queueBays {s : State} (h : s.wf) : s.queueBays.wf := h.foldl fun _ _ h => h.foldl fun _ _ h => .ite h.setF h

/-! ### Machine/Boot.lean -/

theorem State.wf.coldRegs {s : State} (h : s.wf) : s.coldRegs.wf := h.filterBar0
theorem State.wf.coldSlots {s : State} (h : s.wf) : s.coldSlots.wf := h.update

theorem State.wf.coldShow {s : State} (h : s.wf) {old : State} : (s.coldShow old).wf :=
  h.setF.setFlag.setF.setF.setReg.setFlag.setReg.setReg.setFlag.setF

theorem State.wf.startStep {s : State} (h : s.wf) {st : Nat} : (s.startStep st).wf := h.update.setF.ledger

/-- DRAM and the dump in it are kept or dropped together (R351, R486). -/
theorem State.wf.convReset {s : State} (h : s.wf) {cause : Nat} {pins : Straps} : (s.convReset cause pins).wf := by
  unfold State.convReset
  extract_lets keep _ _ _ _ s1 paired _ f _ b _ s2 s3
  have h2 : s2.wf := h.keepOrDrop keep rfl rfl rfl rfl
  have h3 : s3.wf := h2.coldRegs.coldSlots.coldShow
  exact .ite h3 h3.startStep

@[simp] theorem State.wf.execControlIslandResetRelease {s : State} (h : s.wf) : wfAfter (execControlIslandResetRelease s) :=
  .ite h.update.startStep h

@[simp] theorem State.wf.execPerstAssert {s : State} (h : s.wf) : wfAfter (execPerstAssert s) :=
  .ite h.update.setEp (.ite h.update h.update.endCalls.endCalls.silenceThreads.silenceThreads)

@[simp] theorem State.wf.execPerstDeassert {s : State} (h : s.wf) {pins : Straps} : wfAfter (execPerstDeassert pins s) :=
  .ite h (.ite h.update (.ite h.update.update.resetEndpoint (.ite h.update.update h.update.convReset)))

@[simp] theorem State.wf.execInternalReset {s : State} (h : s.wf) : wfAfter (execInternalReset s) := by
  unfold Machine.execInternalReset
  split
  · exact .ite h.convReset h
  · exact h

theorem State.wf.measure {s : State} (h : s.wf) {slot pattern : Nat} {digest : BitVec 384} {version : Word} :
    (s.measure slot pattern digest version).wf :=
  h.update.setF.setFlag.bumpFree

theorem State.wf.measureStep {s : State} (h : s.wf) {st : Nat} {digests : List (BitVec 384)} : (s.measureStep st digests).wf :=
  h.foldl fun _ _ h => h.measure

theorem State.wf.setAlt {s : State} (h : s.wf) {st n : Nat} : (s.setAlt st n).wf := h.update

theorem State.wf.nextAlt {s : State} (h : s.wf) {st unit : Nat} : ∀ t, s.nextAlt st unit = some t → t.wf := by
  intro t ht
  simp only [State.nextAlt] at ht
  split at ht
  all_goals simp only [Option.ite_none_right_eq_some, Option.some.injEq, reduceCtorEq] at ht
  case h_1 | h_3 => obtain ⟨-, rfl⟩ := ht; exact h.setAlt.setAlt
  case h_2 | h_4 | h_8 => obtain ⟨-, rfl⟩ := ht; exact h.setAlt
  case h_5 | h_6 | h_7 => obtain ⟨-, rfl⟩ := ht; exact h.setAlt.update

theorem State.wf.clearAlts {s : State} (h : s.wf) : s.clearAlts.wf := h.update

theorem State.wf.chooseAlts {s : State} (h : s.wf) : s.chooseAlts.1.wf := by
  refine .fstIte h.clearAlts.update.setFlag (State.wf.foldlFst h fun p st h => ?_)
  split
  · split
    · exact (h.nextAlt _ ‹_›).ledger
    · exact h.ledger.clearAlts
  · exact h

theorem State.wf.showElog {s : State} (h : s.wf) {l : ErrorLog} : (s.showElog l).wf := h.update.setF.setF.setFlag
theorem State.wf.fromVault {s : State} (h : s.wf) {im : VaultImage} : (s.fromVault im).wf := h.showElog.update.setF.setF.update
theorem State.wf.fromDram {s : State} (h : s.wf) : s.fromDram.wf := h.setF.setF.update
theorem State.wf.undoErasing {s : State} (h : s.wf) {gone : List Delta} : (s.undoErasing gone).wf := h.foldl fun _ _ h => .ite h.setBand h

theorem State.wf.noHoop {s : State} (h : s.wf) : s.noHoop.wf :=
  .ite h.update.undoErasing.showElog.notice.setF.setF h.update.undoErasing.showElog

theorem State.wf.restoreHoop {s : State} (h : s.wf) {x : BootEnd} : (s.restoreHoop x).wf := by
  unfold State.restoreHoop
  refine .resyncDue (.syncHoop (.restartEpoch (.regatherLoose (.update ?_))))
  split
  · exact .ite h.fromVault (.ite h.fromDram h.noHoop)
  · exact .ite h.fromDram h.noHoop

theorem State.wf.restoreSlots {s : State} (h : s.wf) {bad : List Nat} : (s.restoreSlots bad).wf := h.update
theorem State.wf.restoreCopies {s : State} (h : s.wf) {records : List (Nat × Nat × List Byte)} : (s.restoreCopies records).wf := h.update

theorem State.wf.recoverCopies {s : State} (h : s.wf) {x : BootEnd} : (s.recoverCopies x).wf :=
  ((((((h.foldl fun _ _ h => h.setCentry).foldl fun _ _ h => h.closeBand.setRegion).update).healthEvent).raiseEvent).syncHoop).resyncDue

theorem State.wf.loadBook {s : State} (h : s.wf) : s.loadBook.wf := (h.foldl fun _ _ h => h.foldl fun _ _ h => h.setReg).update

theorem State.wf.leaveBoot {s : State} (h : s.wf) : s.leaveBoot.wf :=
  .replayDoorbells (.ite (.pairStat (.setF (.enterMode (.update (.ite h.setF.setF.setF.sledsOff h.setF.setF.setF))))) (.enterMode (.update
    (.ite h.setF.setF.setF.sledsOff h.setF.setF.setF))))

theorem State.wf.stepDone {s : State} (h : s.wf) {st : Nat} {x : BootEnd} : (s.stepDone st x).wf := by
  unfold State.stepDone
  split
  · exact h.setF.setF.setFlag
  · exact h.setFlag
  · exact h.setF.restoreSlots.restoreHoop.moveDump
  · exact h.loadBook.leaveBoot
  · exact h.restoreCopies.countMissing
  · exact .ite h.recoverCopies h
  · exact h

theorem State.wf.nextStep {s : State} (h : s.wf) {st : Nat} : (s.nextStep st).wf := .ite h.startStep.beginLoad.runReads h.startStep
theorem State.wf.bootHalt {s : State} (h : s.wf) {kind cause st : Nat} : (s.bootHalt kind cause st).wf := h.update.halt
theorem State.wf.releaseSync {s : State} (h : s.wf) {st : Nat} : (s.releaseSync st).wf := .ite h.update h

@[simp] theorem State.wf.execBootStepEnd {s : State} (h : s.wf) {x : BootEnd} : wfAfter (execBootStepEnd x s) := by
  unfold Machine.execBootStepEnd
  show State.wf _
  split
  · exact h
  · refine State.wf.ite h (.ite h.measureStep.ledger.releaseSync.bootHalt (.ite h ?_))
    extract_lets s1 p _ _ s2 s3
    have hp : p.1.wf := .fstIte h.measureStep.ledger.releaseSync.chooseAlts h.measureStep.ledger.releaseSync
    split
    · exact hp.bootHalt
    · have h3 : s3.wf := hp.stepDone.update.setF
      exact .ite h3 h3.nextStep

@[simp] theorem State.wf.execBootStepTimeout {s : State} (h : s.wf) {unit : Nat} : wfAfter (execBootStepTimeout unit s) := by
  unfold Machine.execBootStepTimeout
  split
  · exact h
  · exact .ite h (.bootHalt (.releaseSync (.ite h h.ledger)))

@[simp] theorem State.wf.execMapLoadComplete {s : State} (h : s.wf) : wfAfter (execMapLoadComplete s) :=
  .ite (.ite h.beginLoad.runReads.enterMode h.beginLoad.runReads) h

/-! ### Machine/Firmware.lean -/

theorem State.wf.fwRefuse {s : State} (h : s.wf) {off : Nat} {value : Word} : (s.fwRefuse off value).wf := h.setFlag.regNotice

theorem State.wf.fwCommand {s : State} (h : s.wf) {v off : Nat} {value : Word} : (s.fwCommand v off value).wf := by
  unfold State.fwCommand
  dsimp only
  split
  · exact h
  · exact .ite h.fwRefuse h.update.setFlag
  · split
    · exact .ite h.fwRefuse h.update.setFlag
    · exact h.fwRefuse
  · exact h.fwRefuse

theorem State.wf.writeFw {s : State} (h : s.wf) {off size : Nat} {value : Word} : (s.writeFw off size value).wf :=
  h.command fun _ => .fwCommand (.ite h.setFlag h)

@[simp] theorem State.wf.execFwWrite {s : State} (h : s.wf) {size : Nat} {value : Word} : wfAfter (execFwWrite size value s) := h.writeFw
@[simp] theorem State.wf.execFwSelect {s : State} (h : s.wf) {size : Nat} {value : Word} : wfAfter (execFwSelect size value s) := h.writeFw

@[simp] theorem State.wf.execFwWriteComplete {s : State} (h : s.wf) {ok : Bool} : wfAfter (execFwWriteComplete ok s) := by
  unfold Machine.execFwWriteComplete
  split
  · exact h
  · exact .ite h (.ite h.update.setFlag.setFlag h.update.setFlag.update)

/-! ### Machine/Prickings.lean -/

theorem State.wf.setRun {s : State} (h : s.wf) {r : Option PrkRun} : (s.setRun r).wf := h.update

theorem State.wf.prkRecord {s : State} (h : s.wf) {op slot code : Nat} : (s.prkRecord op slot code).wf :=
  .ite h.setF.setF.setF h.setF.setF.setF.setFlag

theorem State.wf.tellCall {s : State} (h : s.wf) {th : Option Nat} {code result : Nat} : (s.tellCall th code result).wf := by
  unfold State.tellCall
  split
  · exact .ite h.setThr h
  · exact h

theorem State.wf.prkEnd {s : State} (h : s.wf) {r : PrkRun} {code : Nat} : (s.prkEnd r code).wf :=
  .tellCall (.ite h.setRun.setFlag h.setRun.setFlag.prkRecord)

theorem State.wf.prkDone {s : State} (h : s.wf) {r : PrkRun} {code : Nat} : (s.prkDone r code).wf := .ite h.prkEnd h.setRun

theorem State.wf.writePricking {s : State} (h : s.wf) {a slot : Nat} {img : List Byte} : (s.writePricking a slot img).wf :=
  h.foldl fun _ _ h => h.sendSled

theorem State.wf.prkBegin {s : State} (h : s.wf) {op : PrkOp} {slot : Nat} {image : List Byte} {th : Option Nat} :
    (s.prkBegin op slot image th).wf :=
  .ite h.prkRecord.tellCall (.ite h.setRun.setFlag.setF.setF.writePricking h.setRun.setFlag.setF.setF)

theorem State.wf.takeEngine {s : State} (h : s.wf) {th slot : Nat} {op : PrkOp} : (s.takeEngine th slot op).wf := h.setRun.setFlag.setF.setF

theorem State.wf.giveImage {s : State} (h : s.wf) {op : PrkOp} {slot : Nat} {image : List Byte} {th : Option Nat} :
    (s.giveImage op slot image th).wf :=
  h.setRun.setFlag.prkBegin

theorem State.wf.writePrkCmd {s : State} (h : s.wf) {off size : Nat} {value : Word} : (s.writePrkCmd off size value).wf := by
  unfold State.writePrkCmd
  refine h.command fun _ => .ite h.regNotice ?_
  split
  · exact h.prkRecord
  · exact h.prkBegin

theorem State.wf.askPrk {s : State} (h : s.wf) {op size : Nat} {value : Word} : (s.askPrk op size value).wf := h.writePrkCmd

@[simp] theorem State.wf.execPrkCmdLoad {s : State} (h : s.wf) {size : Nat} {value : Word} : wfAfter (execPrkCmdLoad size value s) :=
  h.askPrk

@[simp] theorem State.wf.execPrkCmdBind {s : State} (h : s.wf) {size : Nat} {value : Word} : wfAfter (execPrkCmdBind size value s) :=
  h.askPrk

@[simp] theorem State.wf.execPrkCmdArm {s : State} (h : s.wf) {size : Nat} {value : Word} : wfAfter (execPrkCmdArm size value s) := h.askPrk

@[simp] theorem State.wf.execPrkCmdDrop {s : State} (h : s.wf) {size : Nat} {value : Word} : wfAfter (execPrkCmdDrop size value s) :=
  h.askPrk

@[simp] theorem State.wf.execPrkCmdReserved {s : State} (h : s.wf) {size : Nat} {value : Word} :
    wfAfter (execPrkCmdReserved size value s) :=
  h.askPrk

@[simp] theorem State.wf.execPrkCommandComplete {s : State} (h : s.wf) : wfAfter (execPrkCommandComplete s) := by
  unfold Machine.execPrkCommandComplete
  split
  · exact h
  · refine .ite h ?_
    split
    · exact .ite h.prkEnd h
    · split
      · exact .ite h.setSlot.prkDone h.prkDone
      · exact .ite h.setSlot.prkDone h.prkDone
      · exact h.setSlot.prkDone
      · exact h

theorem State.wf.sealAll {s : State} (h : s.wf) {a : Nat} : (s.sealAll a).wf := h.foldl fun _ _ h => h.sealGather
theorem State.wf.closeOld {s : State} (h : s.wf) {a gen : Nat} : (s.closeOld a gen).wf := h.foldl fun _ _ h => h.closeBand

theorem State.wf.beginReshape {s : State} (h : s.wf) {a slot old : Nat} : (s.beginReshape a slot old).wf :=
  h.sealAll.closeOld.syncArray.startEpoch.setFlag.setF.setF.setF.setF.setF.setF.raiseEvent.syncMembers.syncReshape.syncSpace.mirrorRegs

theorem State.wf.putArmed {s : State} (h : s.wf) {old : Option (Nat × Slot)} {slot : Nat} {x : Slot} {a gen : Nat} :
    (s.putArmed old slot x a gen).wf := by
  unfold State.putArmed
  refine .mirror (.update (.putSlot ?_))
  split
  · exact h.putSlot
  · exact h

theorem State.wf.armSlot {s : State} (h : s.wf) {slot : Nat} {img : List Byte} : (s.armSlot slot img).wf := by
  unfold State.armSlot
  dsimp only
  split
  · exact h.putArmed.beginReshape
  · exact h.putArmed.syncArray

theorem State.wf.createArray {s : State} (h : s.wf) {a grain pifmt pitype grains limit : Nat} {img : List Byte} :
    (s.createArray a grain pifmt pitype grains limit img).wf :=
  h.setF.setF.setF.setF.setF.setF.setFlag.setArr

@[simp] theorem State.wf.execArmCommit {s : State} (h : s.wf) : wfAfter (execArmCommit s) := by
  unfold Machine.execArmCommit
  split
  · exact h
  · refine .ite h (.ite h.prkEnd (.ite h.prkDone (.ite h ?_)))
    split
    · exact h.armSlot.drive.prkDone
    · exact h.createArray.armSlot.syncMembers.chooseCopies.mirrorRegs.prkDone

theorem State.wf.sendMarker {s : State} (h : s.wf) {a gen : Nat} {l : List Nat} : (s.sendMarker a gen l).wf :=
  h.foldl fun _ _ h => .ite h h.sendSled

@[simp] theorem State.wf.execRetirementSwitchover {s : State} (h : s.wf) {a : Nat} : wfAfter (execRetirementSwitchover a s) := by
  unfold Machine.execRetirementSwitchover
  split
  · exact h
  · exact .ite h (.ite h.sendMarker (.ite h.chooseCopiesBut.startEpoch (.ite h h.update.sendMarker)))

theorem State.wf.logRetired {s : State} (h : s.wf) {a gen : Nat} {rel : List Nat} : (s.logRetired a gen rel).wf :=
  h.foldl fun _ _ h => h.logRec.bumpFree

@[simp] theorem State.wf.execRetirementCommit {s : State} (h : s.wf) {a : Nat} : wfAfter (execRetirementCommit a s) := by
  unfold Machine.execRetirementCommit
  split
  · exact h
  · split
    · exact h
    · exact .ite h (.mirrorRegs (.syncArray (.syncMembers (.logRetired (.raiseEvent (.ite
        h.syncReshape.putMarker.update.setSlot.setFlag.setFlag.setF.setFlag
        h.syncReshape.putMarker.update.setSlot.setFlag.setFlag.setF.setFlag.setFlag))))))

/-! ### Machine/FedOps.lean -/

theorem State.wf.fedPart {s : State} (h : s.wf) {th m : Nat} {f : Option Xfer} {body : FedBody} : (s.fedPart th m f body).wf := by
  unfold State.fedPart
  dsimp only
  split
  · exact h.setThr.fedAsk
  · exact h.setThr

/-! ### Machine/Health.lean -/

theorem State.wf.checkSled {s : State} (h : s.wf) {n : Nat} : (s.checkSled n).wf :=
  .ite (.healthEvent (.ite h.setSledHealth.healthEvent h.setSledHealth)) (.ite h.setSledHealth.healthEvent h.setSledHealth)

@[simp] theorem State.wf.execHealthReportForm {s : State} (h : s.wf) : wfAfter (execHealthReportForm s) :=
  .ite h (.bumpFree (.ite (((h.foldl fun _ _ h => h.checkSled).update).send) ((h.foldl fun _ _ h => h.checkSled).update)))

@[simp] theorem State.wf.execHealthRecordSave {s : State} (h : s.wf) : wfAfter (execHealthRecordSave s) := .ite h h.saveHealth.update

theorem State.wf.writeHlthCtl {s : State} (h : s.wf) {off size : Nat} {value : Word} : (s.writeHlthCtl off size value).wf :=
  .ite h.storeReg h.storeReg.update

@[simp] theorem State.wf.execHlthFreeze {s : State} (h : s.wf) {size : Nat} {value : Word} : wfAfter (execHlthFreeze size value s) :=
  h.gate h.writeHlthCtl

theorem State.wf.poisonHoop {s : State} (h : s.wf) {a blk : Nat} : (s.poisonHoop a blk).wf := by
  unfold State.poisonHoop
  dsimp only
  split
  · exact h
  · exact h.putVersion.mirrorVersion

@[simp] theorem State.wf.execCorrectedErrorLog {s : State} (h : s.wf) {src unit addr : Nat} {hit : Option (Nat × Nat × Bool)} :
    wfAfter (execCorrectedErrorLog src unit addr hit s) := by
  unfold Machine.execCorrectedErrorLog
  refine .ite h ?_
  split
  · exact h.update.poisonHoop.logOpen
  · exact h.update.logCorrected
  · exact .logCorrected (.ite h.update h)

@[simp] theorem State.wf.execHlthGet {s : State} (h : s.wf) {scope offset : Nat} : wfAfter (execHlthGet scope offset s) := by
  unfold Machine.execHlthGet
  refine .ite h ?_
  split
  · exact h.send
  · exact h.send
  · exact h

@[simp] theorem State.wf.execDumpGet {s : State} (h : s.wf) {src len offset : Nat} : wfAfter (execDumpGet src len offset s) := by
  unfold Machine.execDumpGet
  refine .ite h ?_
  split
  · exact h.send
  · exact .ite h.send h.send

/-! ### Machine/MapCache.lean -/

theorem State.wf.mcRefuse {s : State} (h : s.wf) {ecode off : Nat} {value : Word} : (s.mcRefuse ecode off value).wf :=
  h.setFlag.setF.regNotice

theorem State.wf.setMaintRun {s : State} (h : s.wf) {r : Option MaintRun} : (s.setMaintRun r).wf := h.update
theorem State.wf.dropLine {s : State} (h : s.wf) {k : Nat} : (s.dropLine k).wf := h.setLine

theorem State.wf.preloadLine {s : State} (h : s.wf) {r : MaintRun} {tag : Nat} : (s.preloadLine r tag).1.wf := by
  unfold State.preloadLine
  refine .fstIte h ?_
  split
  · exact h
  · exact h.cleanLine.fillLine

theorem State.wf.preloadFrom {s : State} (h : s.wf) {r : MaintRun} {n : Nat} : (s.preloadFrom r n).1.wf := by
  induction n generalizing s r with
  | zero => exact h
  | succ n ih =>
    unfold State.preloadFrom
    split
    · exact h.preloadLine.ofFst ‹_›
    · exact ih (h.preloadLine.ofFst ‹_›)

theorem State.wf.holdWays {s : State} (h : s.wf) {w : Nat} : (s.holdWays w).wf := h.setF.update
theorem State.wf.dropHolds {s : State} (h : s.wf) : s.dropHolds.wf := h.setF
theorem State.wf.lockWays {s : State} (h : s.wf) {ways : Nat} : (s.lockWays ways).wf := h.setF.setF

theorem State.wf.maintVisit {s : State} (h : s.wf) {r : MaintRun} {n : Nat} : (s.maintVisit r n).1.wf := by
  unfold State.maintVisit
  dsimp only
  split
  · exact h.foldl fun _ _ h => h.cleanLine
  · exact h.foldl fun _ _ h => h.dropLine
  · exact h.foldl fun _ _ h => .ite h.cleanLine h.cleanLine.dropLine
  · exact h.preloadFrom

theorem State.wf.maintShow {s : State} (h : s.wf) {r : MaintRun} : (s.maintShow r).wf := h.setF.setF
theorem State.wf.maintOver {s : State} (h : s.wf) : s.maintOver.wf := h.setMaintRun.setFlag

theorem State.wf.maintClose {s : State} (h : s.wf) {r : MaintRun} {stop : Bool} : (s.maintClose r stop).wf := by
  unfold State.maintClose
  refine .maintOver (.ite h.maintShow.mcRefuse ?_)
  split
  · exact .ite h.maintShow.setFlag h.maintShow
  · exact h.maintShow.holdWays
  · exact h.maintShow.lockWays
  · exact h.maintShow

theorem State.wf.maintEnd {s : State} (h : s.wf) {r : MaintRun} : (s.maintEnd r).wf := h.maintVisit.maintClose

theorem State.wf.maintTick {s : State} (h : s.wf) : s.maintTick.wf := by
  unfold State.maintTick
  split
  · exact h
  · exact .ite h (.ite h.maintVisit.maintClose h.maintVisit.maintShow.setMaintRun)

theorem State.wf.maintCommand {s : State} (h : s.wf) {v off : Nat} {value : Word} : (s.maintCommand v off value).wf :=
  .ite h.mcRefuse (.ite h.setFlag.setF.maintShow.dropHolds.setMaintRun.maintEnd h.setFlag.setF.maintShow.dropHolds.setMaintRun)

theorem State.wf.writeMaint {s : State} (h : s.wf) {size : Nat} {value : Word} : (s.writeMaint size value).wf :=
  h.command fun _ => h.maintCommand

@[simp] theorem State.wf.execMcClean {s : State} (h : s.wf) {size : Nat} {value : Word} : wfAfter (execMcClean size value s) := h.writeMaint
@[simp] theorem State.wf.execMcInval {s : State} (h : s.wf) {size : Nat} {value : Word} : wfAfter (execMcInval size value s) := h.writeMaint
@[simp] theorem State.wf.execMcClinv {s : State} (h : s.wf) {size : Nat} {value : Word} : wfAfter (execMcClinv size value s) := h.writeMaint

@[simp] theorem State.wf.execMcPreload {s : State} (h : s.wf) {size : Nat} {value : Word} : wfAfter (execMcPreload size value s) :=
  h.writeMaint

@[simp] theorem State.wf.execMcLock {s : State} (h : s.wf) {size : Nat} {value : Word} : wfAfter (execMcLock size value s) := h.writeMaint

@[simp] theorem State.wf.execMcMaintComplete {s : State} (h : s.wf) : wfAfter (execMcMaintComplete s) := by
  unfold Machine.execMcMaintComplete
  split
  · exact .ite h.maintEnd h
  · exact h

@[simp] theorem State.wf.execPreloadHoldExpiry {s : State} (h : s.wf) : wfAfter (execPreloadHoldExpiry s) := .ite h.dropHolds h

theorem State.wf.writeWaylock {s : State} (h : s.wf) {new off : Nat} {value : Word} : (s.writeWaylock new off value).wf :=
  .ite h.mcRefuse (.ite h.setF.setF h.setF.setF.mcRefuse)

@[simp] theorem State.wf.execMcWaylockWrite {s : State} (h : s.wf) {size : Nat} {value : Word} :
    wfAfter (execMcWaylockWrite size value s) :=
  h.gate h.writeWaylock

theorem State.wf.beginDrain {s : State} (h : s.wf) : s.beginDrain.wf := h.setFlag.setFlag.setF.setFlag.setFlag

theorem State.wf.writeMcCtl {s : State} (h : s.wf) {off size : Nat} {value : Word} : (s.writeMcCtl off size value).wf :=
  .ite h (.ite (.ite (.ite h.setFlag h) (.ite (.setF (.setFlag (.ite h.setFlag h))) (.regNotice (.setFlag (.ite h.setFlag h))))) (.ite
    (.beginDrain (.ite h.setFlag h)) (.ite h.setFlag h)))

@[simp] theorem State.wf.execMcEnable {s : State} (h : s.wf) {size : Nat} {value : Word} : wfAfter (execMcEnable size value s) :=
  h.gate h.writeMcCtl

@[simp] theorem State.wf.execMcDisable {s : State} (h : s.wf) {size : Nat} {value : Word} : wfAfter (execMcDisable size value s) :=
  h.gate h.writeMcCtl

theorem State.wf.endDrain {s : State} (h : s.wf) : s.endDrain.wf :=
  ((((((h.foldl fun _ _ h => h.cleanLine).update).setF).setF).setF).setFlag).setFlag

@[simp] theorem State.wf.execMcDrainComplete {s : State} (h : s.wf) : wfAfter (execMcDrainComplete s) := .ite h.endDrain h
@[simp] theorem State.wf.execMcWritebackAck {s : State} (h : s.wf) {set : Nat} : wfAfter (execMcWritebackAck set s) := h.ackSet

theorem State.wf.rebuildLine {s : State} (h : s.wf) {k : Nat} : (s.rebuildLine k).wf :=
  .ite (h.foldl fun _ _ h => .ite h.setDramEntry.logCorrected h.setDramEntry.logOpen) h

theorem State.wf.disableWay {s : State} (h : s.wf) {w : Nat} {bad : Option Nat} {cls : Nat} : (s.disableWay w bad cls).wf :=
  ((((((h.foldl fun _ _ h => .dropLine (.ite h.rebuildLine h.cleanLine)).setF).setF).setF).incF).logOpen).raiseEvent

theorem State.wf.wayFails {s : State} (h : s.wf) {w : Nat} {bad : Option Nat} {cls : Nat} : (s.wayFails w bad cls).wf := by
  unfold State.wayFails
  refine .ite h (.ite h.disableWay (.ite (.beginDrain (.raiseEvent (.healthEvent (.setFlag ?_)))) (.raiseEvent (.healthEvent (.setFlag
    ?_)))))
  · split
    · exact h.rebuildLine.dropLine
    · exact h
  · split
    · exact h.rebuildLine.dropLine
    · exact h

@[simp] theorem State.wf.execMcEccError {s : State} (h : s.wf) {way set : Nat} {uncorrectable : Bool} :
    wfAfter (execMcEccError way set uncorrectable s) :=
  .ite h.setF.satF.logDeferred.wayFails (.ite h.setF.update.satF.logCorrected.wayFails h.setF.update.satF.logCorrected)

/-! ### Machine/Pair.lean -/

theorem State.wf.pairFrame {s : State} (h : s.wf) : s.pairFrame.wf := h.update
theorem State.wf.mirrorDelta {s : State} (h : s.wf) {d : Delta} : (s.mirrorDelta d).wf := .ite h.update.syncDlog.update h.update.syncDlog
theorem State.wf.mirrorVersionIn {s : State} (h : s.wf) {v : Version} : (s.mirrorVersionIn v).wf := h.update.update.syncDirty
theorem State.wf.mirrorSled {s : State} (h : s.wf) {n : Nat} {x : Sled} : (s.mirrorSled n x).wf := h.setSled

theorem State.wf.applyMirror {s : State} (h : s.wf) {i : MirrorItem} : (s.applyMirror i).wf := by
  unfold State.applyMirror
  split
  · exact h.update
  · exact h.mirrorDelta
  · exact h.setCentry
  · exact h.setRegion
  · exact h.setReg
  · exact h.setSlot
  · exact h.update
  · exact h.update
  · exact h.update
  · exact h.mirrorSled
  · exact h.update.syncLost
  · exact h.setArr
  · exact h.purgeArray
  · exact h.update.syncDlog
  · refine .update (.putSlot ?_)
    split
    · exact h.putSlot
    · exact h
  · exact h.putMarker
  · exact h.update
  · exact h.mirrorVersionIn
  · exact h.update.syncDirty
  · exact h.update.syncDlog
  · exact h.update
  · exact h.update

theorem State.wf.clearPhase {s : State} (h : s.wf) {phase : Nat} : (s.clearPhase phase).wf := by
  unfold State.clearPhase
  split
  · exact h.filterBar0.update
  · exact h.update
  · exact h.update

@[simp] theorem State.wf.execMirror {s : State} (h : s.wf) {seq : Nat} {i : MirrorItem} : wfAfter (execMirror seq i s) :=
  .ite h (.ite h.pairFrame (.ite h.pairFrame.applyMirror.update.send (.ite h.pairFrame.update.satF.send (.pairStat
    h.pairFrame.setFlag.setF))))

@[simp] theorem State.wf.execConfirm {s : State} (h : s.wf) {seq : Nat} : wfAfter (execConfirm seq s) :=
  .ite h.pairFrame.update.syncDurable.releaseEmits.settleWorks h

theorem State.wf.inSyncNow {s : State} (h : s.wf) : s.inSyncNow.wf := .pairStat h.setF.setF.setFlag.setFlag.setFlag

@[simp] theorem State.wf.execSync {s : State} (h : s.wf) {phase permille : Nat} {items : List MirrorItem} :
    wfAfter (execSync phase permille items s) :=
  .ite (.setF (.setF (.setF (.ite (.update (.foldl (.ite h.pairFrame h.pairFrame.clearPhase) fun _ _ h => .ite h.applyMirror h.satF.send))
    (.foldl (.ite h.pairFrame h.pairFrame.clearPhase) fun _ _ h => .ite h.applyMirror h.satF.send))))) (.ite h.pairFrame.inSyncNow h)

theorem State.wf.startSync {s : State} (h : s.wf) : s.startSync.wf := (h.update.foldl fun _ _ h => h.send).setF
@[simp] theorem State.wf.execSyncComplete {s : State} (h : s.wf) : wfAfter (execSyncComplete s) := .ite h.setF.setF.sendWit h

@[simp] theorem State.wf.execRenew {s : State} (h : s.wf) {answer : Bool} : wfAfter (execRenew answer s) := by
  unfold Machine.execRenew
  refine .ite h (.ite ?_ (.ite h.pairFrame.update.send h.pairFrame))
  split
  · exact .ite (.pairStat h.pairFrame.update.setFlag) h.pairFrame
  · exact h.pairFrame

@[simp] theorem State.wf.execLeaseRenewTimer {s : State} (h : s.wf) : wfAfter (execLeaseRenewTimer s) :=
  .ite (.send (.update (.sendWit (.ite (.pairStat h.setFlag) h)))) h

@[simp] theorem State.wf.execLeaseAck {s : State} (h : s.wf) {seq : Nat} : wfAfter (execLeaseAck seq s) := by
  unfold Machine.execLeaseAck
  refine .ite h ?_
  dsimp only
  split
  · exact .ite (.pairStat h.fromWitness.update.setFlag) h.fromWitness
  · exact h.fromWitness

@[simp] theorem State.wf.execLeaseExpiry {s : State} (h : s.wf) : wfAfter (execLeaseExpiry s) := by
  unfold Machine.execLeaseExpiry
  split
  · exact .ite h.loseLease h
  · exact h

@[simp] theorem State.wf.execLeaseDeny {s : State} (h : s.wf) {_claim : Nat} : wfAfter (execLeaseDeny _claim s) :=
  .ite h (.ite h.fromWitness.loseLease h.fromWitness)

theorem State.wf.becomeStale {s : State} (h : s.wf) : s.becomeStale.wf :=
  .dropMedia (.setF (.pairStat h.lapseCommits.update.regatherLoose.enterMode.setF.setFlag.setFlag.setFlag))

@[simp] theorem State.wf.execPostWindowExpiry {s : State} (h : s.wf) : wfAfter (execPostWindowExpiry s) := by
  unfold Machine.execPostWindowExpiry
  split
  · exact .ite h h.withhold.update.becomeStale.sendHello
  · exact h

@[simp] theorem State.wf.execRideThroughStart {s : State} (h : s.wf) : wfAfter (execRideThroughStart s) :=
  .ite (.pairStat h.update.setFlag) h

@[simp] theorem State.wf.execClaimGrant {s : State} (h : s.wf) {claim ago : Nat} : wfAfter (execClaimGrant claim ago s) :=
  .ite h (.ite h.fromWitness.sendWit (.ite h.fromWitness (.pairStat
    h.fromWitness.setClaim.sendWit.update.beginMove.beginLoad.setF.setFlag.setFlag)))

theorem State.wf.enterStaged {s : State} (h : s.wf) : s.enterStaged.wf := h.update.enterHoop

@[simp] theorem State.wf.execGapEnd {s : State} (h : s.wf) {tablesOk : Bool} : wfAfter (execGapEnd tablesOk s) :=
  .ite h (.ite h.halt (.ite h.beginLoad (.drive (.resyncDue (.foldl (.claimAll (.foldl (.pairStat
    h.setReg.regatherLoose.enterStaged.syncHoop.setF.update.enterMode.setF.setF) fun _ _ h => h.holdingFreed)) fun _ _ h =>
    h.retryWaiting)))))

@[simp] theorem State.wf.execPairHealth {s : State} (h : s.wf) {r : PairReport} : wfAfter (execPairHealth r s) :=
  .ite h (.ite (.startSync (.ite (.declarePeerLost (.ite h.pairFrame.update.recompute h.pairFrame.update)) (.ite
    h.pairFrame.update.recompute h.pairFrame.update))) (.ite (.declarePeerLost (.ite h.pairFrame.update.recompute h.pairFrame.update))
    (.ite h.pairFrame.update.recompute h.pairFrame.update)))

@[simp] theorem State.wf.execPeerTimeout {s : State} (h : s.wf) : wfAfter (execPeerTimeout s) := .ite h.declarePeerLost h

@[simp] theorem State.wf.execPeerHealthStale {s : State} (h : s.wf) : wfAfter (execPeerHealthStale s) := by
  unfold Machine.execPeerHealthStale
  split
  · exact .ite h.declarePeerLost h
  · exact h

@[simp] theorem State.wf.execPeerLostAck {s : State} (h : s.wf) : wfAfter (execPeerLostAck s) := by
  unfold Machine.execPeerLostAck
  refine State.wf.ite h ?_
  extract_lets s1 _ s2
  have h2 : s2.wf := h.fromWitness.update.setMirroring
  refine .ite (State.wf.incF (.pairStat ?_)) h.fromWitness
  exact h2.setFlag.setFlag

@[simp] theorem State.wf.execInSyncAck {s : State} (h : s.wf) : wfAfter (execInSyncAck s) :=
  .ite h (.ite h.fromWitness.inSyncNow.setMirroring.send h.fromWitness.inSyncNow)

theorem State.wf.witnessFound {s : State} (h : s.wf) : s.witnessFound.wf := .ite h h.setF.setF.bumpFree

@[simp] theorem State.wf.execHelloAck {s : State} (h : s.wf) {pairNo : Nat} {holds : Bool} : wfAfter (execHelloAck pairNo holds s) :=
  .ite h (.ite h.fromWitness.update.witnessFound (.ite (.pairStat h.fromWitness.update.witnessFound.setF)
    h.fromWitness.update.witnessFound))

theorem State.wf.startHandover {s : State} (h : s.wf) : s.startHandover.wf := h.update.beginMove
theorem State.wf.finishHandover {s : State} (h : s.wf) : s.finishHandover.wf := h.sendWit.becomeStale.sendHello
@[simp] theorem State.wf.execFailbackRequest {s : State} (h : s.wf) : wfAfter (execFailbackRequest s) := .ite h.pairFrame.startHandover h

@[simp] theorem State.wf.execHandoverDrainTimeout {s : State} (h : s.wf) : wfAfter (execHandoverDrainTimeout s) := by
  unfold Machine.execHandoverDrainTimeout
  split
  · exact .ite h.withhold.finishHandover h
  · exact h

@[simp] theorem State.wf.execHealthReportTimer {s : State} (h : s.wf) : wfAfter (execHealthReportTimer s) :=
  .ite h (.ite (.sendWit (.update (.ite h h.sendHello))) (.ite (.send (.sendWit (.update (.ite h h.sendHello)))) (.ite (.setF (.send
    (.sendWit (.update (.ite h h.sendHello))))) (.ite (.send (.update (.satF (.send (.sendWit (.update (.ite h h.sendHello))))))) (.satF
    (.send (.sendWit (.update (.ite h h.sendHello)))))))))

@[simp] theorem State.wf.execStandbySelfTest {s : State} (h : s.wf) {test : Nat} {pass : Bool} :
    wfAfter (execStandbySelfTest test pass s) :=
  .ite h h.update

@[simp] theorem State.wf.execSelfTestRerun {s : State} (h : s.wf) {test : Nat} {pass : Bool} : wfAfter (execSelfTestRerun test pass s) :=
  .ite h (.ite h.update h.update)

/-! ### Machine/Modes.lean -/

theorem State.wf.modeRefused {s : State} (h : s.wf) {value : Nat} : (s.modeRefused value).wf := h.update.notice

theorem State.wf.requestMode {s : State} (h : s.wf) {r : Mode} {value : Nat} : (s.requestMode r value).wf := by
  unfold State.requestMode
  refine .ite h.modeRefused ?_
  split
  · exact h
  · exact h.beginMove
  · exact h
  · exact .ite h.beginMove h.modeRefused
  · exact .ite h.beginMove h.modeRefused
  · exact .ite h.beginMove h.modeRefused
  · exact .ite h.beginMove h.modeRefused
  · exact h
  · exact .ite h.beginMove h.modeRefused
  · exact .ite h.beginMove h.modeRefused
  · exact h
  · exact .ite h.beginMove h.modeRefused
  · exact .ite h.beginMove h.modeRefused
  · exact h.modeRefused

theorem State.wf.writeMode {s : State} (h : s.wf) {off size : Nat} {value : Word} : (s.writeMode off size value).wf :=
  h.command fun _ => .ite (.requestMode (.ite h.update h)) (.ite h.update h)

theorem State.wf.askMode {s : State} (h : s.wf) {code size : Nat} {value : Word} : (s.askMode code size value).wf := h.writeMode

@[simp] theorem State.wf.execModeReqStandby {s : State} (h : s.wf) {size : Nat} {value : Word} :
    wfAfter (execModeReqStandby size value s) :=
  h.askMode

@[simp] theorem State.wf.execModeReqActive {s : State} (h : s.wf) {size : Nat} {value : Word} : wfAfter (execModeReqActive size value s) :=
  h.askMode

@[simp] theorem State.wf.execModeReqMaintenance {s : State} (h : s.wf) {size : Nat} {value : Word} :
    wfAfter (execModeReqMaintenance size value s) :=
  h.askMode

@[simp] theorem State.wf.execModeReqDormant {s : State} (h : s.wf) {size : Nat} {value : Word} :
    wfAfter (execModeReqDormant size value s) :=
  h.askMode

@[simp] theorem State.wf.execModeReqWitness {s : State} (h : s.wf) {size : Nat} {value : Word} :
    wfAfter (execModeReqWitness size value s) :=
  h.askMode

@[simp] theorem State.wf.execModeReqUnlisted {s : State} (h : s.wf) {k size : Nat} {value : Word} :
    wfAfter (execModeReqUnlisted k size value s) :=
  h.askMode

theorem State.wf.abandonDrain {s : State} (h : s.wf) : s.abandonDrain.wf := h.update

@[simp] theorem State.wf.execDrainComplete {s : State} (h : s.wf) : wfAfter (execDrainComplete s) := by
  unfold Machine.execDrainComplete
  refine .ite h ?_
  split
  · exact .ite (.ite h.finishHandover h) h.enterMode
  · exact h.enterMode
  · exact .ite h.sledsOff.enterMode.sledsGone h.abandonDrain
  · exact .ite h.abandonDrain h.sledsOff.enterMode.sledsGone
  · exact h

@[simp] theorem State.wf.execDormantExitComplete {s : State} (h : s.wf) : wfAfter (execDormantExitComplete s) :=
  .ite h.enterMode.queueBays.replayDoorbells h

/-! ### Machine/Native.lean -/

theorem State.wf.setBook {s : State} (h : s.wf) {th : Nat} {b : BookRun} : (s.setBook th b).wf := h.setThr

theorem State.wf.bookStep {s : State} (h : s.wf) {th p : Nat} {stage : State → State} (hstage : (stage s).wf) :
    (s.bookStep th p stage).wf :=
  .ite h (.ite h.endThread hstage)

theorem State.wf.bookPost {s : State} (h : s.wf) {th status result : Nat} : (s.bookPost th status result).wf := by
  unfold State.bookPost
  dsimp only
  split
  · exact h.setBook.send.endThread
  · exact .ite h.setBook.postNone.endThread (.ite h (.ite h.setBook.postCalls.endThread h.setBook.postCalls))

theorem State.wf.bookFault {s : State} (h : s.wf) {th : Nat} : (s.bookFault th).wf := h.threadFault.bumpFree

theorem State.wf.handOver {s : State} (h : s.wf) {th : Nat} {body : State → State} (hbody : ∀ t, t.wf → (body t).wf) :
    (s.handOver th body).wf := by
  unfold State.handOver
  refine .ite (hbody _ h) ?_
  split
  · exact h
  · exact hbody _ h.startThread.setThr.setThr

theorem State.wf.bookBegin {s : State} (h : s.wf) {th need : Nat} {checks : List Nat} {body : State → State}
    (hbody : ∀ t, t.wf → (body t).wf) : (s.bookBegin th need checks body).wf :=
  .ite h.bookFault (.ite h.bookPost (.ite (h.handOver fun _ h => hbody _ h) (hbody _ h)))

theorem State.wf.bookRun {s : State} (h : s.wf) {th n stage : Nat} : (s.bookRun th n stage).wf := h.setThr.putInfos
theorem State.wf.notePart {s : State} (h : s.wf) {th id k n : Nat} : (s.notePart th id k n).wf := h.setBook
theorem State.wf.bookAsync {s : State} (h : s.wf) {th : Nat} {w : AsyncWait} {f : Option Xfer} : (s.bookAsync th w f).wf := h.setThr
theorem State.wf.mergeFrom {s : State} (h : s.wf) {th m : Nat} : (s.mergeFrom th m).wf := h.setBook
theorem State.wf.mergeParts {s : State} (h : s.wf) {th : Nat} : (s.mergeParts th).wf := h.mergeFrom

theorem State.wf.readPiece {s : State} (h : s.wf) {th : Nat} {p : Nat × Nat} : (s.readPiece th p).wf :=
  .ite (h.bookAsync.notePart.foldl fun _ _ h => h.fetchBlock) h.fedPart.notePart

theorem State.wf.readEnd {s : State} (h : s.wf) {th : Nat} : (s.readEnd th).wf := h.bookPost

theorem State.wf.readRun {s : State} (h : s.wf) {th : Nat} : (s.readRun th).wf :=
  .ite h.readEnd (.ite h.bookPost (h.bookRun.foldl fun _ _ h => h.readPiece))

theorem State.wf.egress {s : State} (h : s.wf) {th k : Nat} : (s.egress th k).wf :=
  .ite h (.ite h.setRunInfo.setBook.logDeferred (.ite h h.setBook))

theorem State.wf.storeOut {s : State} (h : s.wf) {th k : Nat} : (s.storeOut th k).wf :=
  .ite h (.ite h.satF.setBook (.foldl (.ite h.bookAsync.notePart h) fun _ _ h => h.hostWrite))

theorem State.wf.readDone {s : State} (h : s.wf) {th : Nat} : (s.readDone th).wf :=
  .ite h.mergeFrom.setBook.setBook (.ite (h.mergeFrom.setBook.foldl fun _ _ h => h.readPiece) (.ite ((h.mergeFrom.foldl fun _ _ h =>
    h.egress).setBook) (.ite h.bookFault (.ite ((h.mergeFrom.foldl fun _ _ h => h.egress).bookPost) (.ite h (((h.mergeFrom.foldl fun _ _ h
    => h.egress).setBook).foldl fun _ _ h => h.storeOut))))))

theorem State.wf.storeDone {s : State} (h : s.wf) {th : Nat} : (s.storeDone th).wf := by
  unfold State.storeDone
  dsimp only
  split
  · exact h.bookPost
  · exact h.setBook

theorem State.wf.readStage {s : State} (h : s.wf) {th need : Nat} {host : Bool} : (s.readStage th need host).wf := by
  unfold State.readStage
  split
  · exact h.bookBegin fun _ h => h.setBook
  · exact h.readRun
  · exact h.readDone
  · exact h.storeDone

@[simp] theorem State.wf.execRead {s : State} (h : s.wf) {th : Nat} : wfAfter (execRead th s) := h.bookStep h.readStage
@[simp] theorem State.wf.execVerify {s : State} (h : s.wf) {th : Nat} : wfAfter (execVerify th s) := h.bookStep h.readStage
theorem State.wf.writeEnd {s : State} (h : s.wf) {th : Nat} : (s.writeEnd th).wf := h.bookPost
theorem State.wf.writeLast {s : State} (h : s.wf) {th : Nat} : (s.writeLast th).wf := .ite h.setThr h.writeEnd

theorem State.wf.writeRun {s : State} (h : s.wf) {th : Nat} : (s.writeRun th).wf :=
  .ite h.writeLast (.ite h.bookPost (.ite h.bookRun.putInfos (.ite h.bookFault (.ite h.bookPost (.ite h.satF.bookPost (.ite h (.ite
    h.bookRun.bookAsync.hostRead.bookAsync.hostRead h.bookRun.bookAsync.hostRead)))))))

theorem State.wf.writeParts {s : State} (h : s.wf) {th n : Nat} {infos : List Info} : (s.writeParts th n infos).wf :=
  h.foldl fun _ _ h => .ite h h.fedPart.notePart

theorem State.wf.writeData {s : State} (h : s.wf) {th : Nat} : (s.writeData th).wf := by
  unfold State.writeData
  dsimp only
  split
  · exact h.bookPost
  · refine .ite h.bookPost (.ite (.ite h.setBook h.setBook.writeParts) ?_)
    split
    · exact .drive (.tryCommit (.beginBankWait (.notePart (.bookAsync (.mirrorBlocks (.ite h.setBook h.setBook.writeParts))))))
    · exact .beginBankWait (.notePart (.bookAsync (.mirrorBlocks (.ite h.setBook h.setBook.writeParts))))

theorem State.wf.writeStored {s : State} (h : s.wf) {th : Nat} : (s.writeStored th).wf := by
  unfold State.writeStored
  dsimp only
  split
  · exact h.bookPost
  · exact .ite h.mergeParts.setBook.writeLast h.mergeParts.setBook

theorem State.wf.forceCovered {s : State} (h : s.wf) {th : Nat} : (s.forceCovered th).wf := .ite h.forceAll.drive h
theorem State.wf.writeCover {s : State} (h : s.wf) {th : Nat} : (s.writeCover th).wf := .ite h.bookPost (.ite h.writeEnd h.forceCovered)

@[simp] theorem State.wf.execWrite {s : State} (h : s.wf) {th : Nat} : wfAfter (execWrite th s) := by
  unfold Machine.execWrite
  refine h.bookStep ?_
  split
  · exact h.bookBegin fun _ h => h.setBook
  · exact h.writeRun
  · exact h.writeData
  · exact h.writeStored
  · exact h.writeCover

theorem State.wf.eachMember {s : State} (h : s.wf) {th p : Nat} : (s.eachMember th p).wf := .ite h (h.foldl fun _ _ h => h.fedPart.notePart)

theorem State.wf.flushWait {s : State} (h : s.wf) {th : Nat} : (s.flushWait th).wf :=
  .ite h.bookPost (.ite h.mergeParts.bookPost h.forceCovered)

@[simp] theorem State.wf.execFlush {s : State} (h : s.wf) {th : Nat} : wfAfter (execFlush th s) := by
  unfold Machine.execFlush
  refine h.bookStep ?_
  split
  · exact h.bookBegin fun _ h => h.setThr.eachMember
  · exact h.flushWait

theorem State.wf.discardGrain {s : State} (h : s.wf) {a g : Nat} : (s.discardGrain a g).wf := by
  unfold State.discardGrain
  split
  · exact h
  · exact h.update.mapup

theorem State.wf.discardRange {s : State} (h : s.wf) {th : Nat} : (s.discardRange th).wf :=
  .ite (((h.foldl fun _ _ h => .ite h.discardGrain.setBook h.setFlag).setBook).eachMember) (h.foldl fun _ _ h => .ite
    h.discardGrain.setBook h.setFlag)

@[simp] theorem State.wf.execDiscard {s : State} (h : s.wf) {th : Nat} : wfAfter (execDiscard th s) := by
  unfold Machine.execDiscard
  refine h.bookStep ?_
  split
  · exact h.bookBegin fun _ h => h.setBook
  · exact .ite h.discardRange h.bookPost
  · exact .ite h.mergeParts.bookPost h

/-! ### Machine/Patterns.lean -/

theorem State.wf.toStage {s : State} (h : s.wf) {th n : Nat} : (s.toStage th n).wf := h.setBook

theorem State.wf.readImage {s : State} (h : s.wf) {th addr len stage : Nat} : (s.readImage th addr len stage).wf :=
  .ite h.bookFault (.ite h.bookPost (.ite h h.bookRun.bookAsync.hostRead))

theorem State.wf.postDurable {s : State} (h : s.wf) {th status result : Nat} : (s.postDurable th status result).wf := .ite h.bookPost h

theorem State.wf.pinRange {s : State} (h : s.wf) {th a : Nat} {set : Bool} {g n : Nat} : (s.pinRange th a set g n).wf := by
  induction n generalizing s g with
  | zero => exact h.setBook
  | succ n ih => exact .ite (ih h) (.ite h.setBook.setFlag (ih h.logEntry.setBook))

@[simp] theorem State.wf.execPin {s : State} (h : s.wf) {th : Nat} : wfAfter (execPin th s) := by
  unfold Machine.execPin
  refine h.bookStep ?_
  dsimp only
  split
  · exact h.bookBegin fun _ h => h.setBook
  · exact .ite h.pinRange h.bookPost
  · exact h.postDurable

theorem State.wf.scrubCall {s : State} (h : s.wf) {th op : Nat} : (s.scrubCall th op).wf := by
  unfold State.scrubCall
  refine h.bookStep (.ite h (h.bookBegin fun _ h => .bookPost ?_))
  split
  · exact .ite h (.ite h.setArr h.setArr)
  · exact h.setArr
  · exact h

@[simp] theorem State.wf.execScrubStart {s : State} (h : s.wf) {th : Nat} : wfAfter (execScrubStart th s) := h.scrubCall
@[simp] theorem State.wf.execScrubStop {s : State} (h : s.wf) {th : Nat} : wfAfter (execScrubStop th s) := h.scrubCall
@[simp] theorem State.wf.execScrubQuery {s : State} (h : s.wf) {th : Nat} : wfAfter (execScrubQuery th s) := h.scrubCall

@[simp] theorem State.wf.execConfig {s : State} (h : s.wf) {th : Nat} : wfAfter (execConfig th s) :=
  h.bookStep (h.bookBegin fun _ h => h.update.bookPost)

@[simp] theorem State.wf.execMemberFail {s : State} (h : s.wf) {th : Nat} : wfAfter (execMemberFail th s) :=
  h.bookStep (h.bookBegin fun _ h => h.declareFailed.bookPost)

@[simp] theorem State.wf.execLogClear {s : State} (h : s.wf) {th : Nat} : wfAfter (execLogClear th s) :=
  h.bookStep (h.bookBegin fun _ h => h.update.setFlag.syncLost.bookPost)

theorem State.wf.trimGrains {s : State} (h : s.wf) {a g0 : Nat} : (s.trimGrains a g0).1.wf :=
  h.foldl fun _ _ h => .ite h.update.mapup h.setFlag

@[simp] theorem State.wf.execArrayResize {s : State} (h : s.wf) {th : Nat} : wfAfter (execArrayResize th s) := by
  unfold Machine.execArrayResize
  refine h.bookStep ?_
  dsimp only
  split
  · exact h.bookBegin fun _ h => h.toStage
  · exact .ite h.bookPost (.ite h.setF.syncArray.mirrorRegs.bookPost (.ite h.trimGrains.setF.syncArray.mirrorRegs.setBook h.trimGrains))
  · exact h.postDurable

theorem State.wf.engineBegin {s : State} (h : s.wf) {th need : Nat} {op : PrkOp} {slot busyResult : Nat} {checks : List Nat}
    {body : State → State} (hbody : ∀ t, t.wf → (body t).wf) : (s.engineBegin th need op slot busyResult checks body).wf :=
  .bookBegin (.ite h.prkRecord h) fun _ h => .ite h.bookPost (hbody _ h)

theorem State.wf.engineFails {s : State} (h : s.wf) {th status result : Nat} : (s.engineFails th status result).wf := by
  unfold State.engineFails
  refine .bookPost ?_
  split
  · exact .ite h.prkEnd h
  · exact h

theorem State.wf.askEngine {s : State} (h : s.wf) {th : Nat} {op : PrkOp} {slot : Nat} {image : List Byte} :
    (s.askEngine th op slot image).wf :=
  h.toStage.giveImage

theorem State.wf.engineEnded {s : State} (h : s.wf) {th : Nat} : (s.engineEnded th).wf := by
  unfold State.engineEnded
  split
  · exact h.bookPost
  · exact h

theorem State.wf.prkCall {s : State} (h : s.wf) {th p : Nat} {op : PrkOp} : (s.prkCall th p op).wf :=
  h.bookStep (.ite h.engineEnded (h.engineBegin fun _ h => h.askEngine))

@[simp] theorem State.wf.execPrkLoad {s : State} (h : s.wf) {th : Nat} : wfAfter (execPrkLoad th s) := by
  unfold Machine.execPrkLoad
  refine h.bookStep ?_
  dsimp only
  split
  · exact h.engineBegin fun _ h => .ite h.takeEngine.toStage h.engineFails
  · exact h.readImage
  · exact .ite h.engineFails h.askEngine
  · exact h.engineEnded

@[simp] theorem State.wf.execPrkBind {s : State} (h : s.wf) {th : Nat} : wfAfter (execPrkBind th s) := h.prkCall
@[simp] theorem State.wf.execPrkArm {s : State} (h : s.wf) {th : Nat} : wfAfter (execPrkArm th s) := h.prkCall
@[simp] theorem State.wf.execPrkDrop {s : State} (h : s.wf) {th : Nat} : wfAfter (execPrkDrop th s) := h.prkCall
theorem State.wf.askSpan {s : State} (h : s.wf) {th : Nat} : (s.askSpan th).wf := h.foldl fun _ _ h => h.fedPart.notePart

theorem State.wf.createBegin {s : State} (h : s.wf) {th : Nat} {img : List Byte} : (s.createBegin th img).wf := by
  unfold State.createBegin
  split
  exact h.toStage.setRun.setFlag.setF.setF.writePricking

@[simp] theorem State.wf.execArrayCreate {s : State} (h : s.wf) {th : Nat} : wfAfter (execArrayCreate th s) := by
  unfold Machine.execArrayCreate
  refine h.bookStep ?_
  split
  · exact h.engineBegin fun _ h => h.takeEngine.toStage.askSpan
  · exact .ite h.engineFails (.ite h.engineFails (.ite h.engineFails h.readImage))
  · exact .ite h.engineFails h.createBegin
  · exact h.engineEnded

theorem State.wf.deleteBegin {s : State} (h : s.wf) {th a : Nat} : (s.deleteBegin th a).wf :=
  h.endReads.endCommits.update.syncDirty.putMarker.sendMarker.setBook

theorem State.wf.deleteEnd {s : State} (h : s.wf) {th a : Nat} : (s.deleteEnd th a).wf :=
  .bookPost (.ite (((((h.update.foldl fun _ _ h => h.setSlot).purgeArray).mirror).chooseCopies).foldl fun _ _ h => h.sendSled)
    ((((((h.update.foldl fun _ _ h => h.setSlot).purgeArray).mirror).chooseCopies).foldl fun _ _ h => h.sendSled).update))

@[simp] theorem State.wf.execArrayDelete {s : State} (h : s.wf) {th : Nat} : wfAfter (execArrayDelete th s) := by
  unfold Machine.execArrayDelete
  refine h.bookStep ?_
  dsimp only
  split
  · exact h.bookBegin fun _ h => h.deleteBegin
  · exact .ite h.bookPost (.ite h.deleteEnd h.sendMarker)

theorem State.wf.putCopies {s : State} (h : s.wf) {p : Nat} {f : Nat → Nat} : (s.putCopies p f).wf := h.foldl fun _ _ h => h.setReg
theorem State.wf.retireExtents {s : State} (h : s.wf) {p : Nat} {keep : Option Nat} : (s.retireExtents p keep).wf := h.update.reapExtents

theorem State.wf.progInstall {s : State} (h : s.wf) {th : Nat} {bs : List Byte} : (s.progInstall th bs).wf := by
  unfold State.progInstall
  extract_lets p count s1
  have h1 : s1.wf := h.measure
  refine .ite h.bookPost ?_
  split
  · exact h1.bookPost
  · extract_lets e words s2 s3
    have h3 : s3.wf := State.wf.update (State.wf.update h1)
    exact h3.putCopies.setBook

@[simp] theorem State.wf.execProgLoad {s : State} (h : s.wf) {th : Nat} : wfAfter (execProgLoad th s) := by
  unfold Machine.execProgLoad
  refine h.bookStep ?_
  dsimp only
  split
  · exact h.bookBegin fun _ h => h.readImage
  · exact .ite h.bookPost h.progInstall
  · exact h.putCopies.toStage
  · exact h.update.retireExtents.bookPost

@[simp] theorem State.wf.execProgUnload {s : State} (h : s.wf) {th : Nat} : wfAfter (execProgUnload th s) := by
  unfold Machine.execProgUnload
  refine h.bookStep ?_
  dsimp only
  split
  · exact h.bookBegin fun _ h => .setBook (.putCopies (.ite h h.update))
  · exact .ite h.putCopies.toStage h.putCopies.retireExtents.bookPost
  · exact h.putCopies.retireExtents.update.bookPost

/-! ### Machine/Registers.lean -/

@[simp] theorem State.wf.execDevTbaseLowRead {s : State} (h : s.wf) {ep : Nat} : wfAfter (execDevTbaseLowRead ep s) :=
  .ite h (.ite h.send.aer h.update.send)

theorem State.wf.writeLock {s : State} (h : s.wf) {off size : Nat} {value : Word} : (s.writeLock off size value).wf :=
  h.gate (.ite h.setFlag h)

@[simp] theorem State.wf.execDevLockSet {s : State} (h : s.wf) {size : Nat} {value : Word} : wfAfter (execDevLockSet size value s) :=
  h.writeLock

theorem State.wf.plainWrite {s : State} (h : s.wf) {off size : Nat} {value : Word} : (s.plainWrite off size value).wf :=
  .ite h.storeReg.regNotice h.storeReg

theorem State.wf.writeBootCtl {s : State} (h : s.wf) {off size : Nat} {value : Word} : (s.writeBootCtl off size value).wf :=
  .ite h.regNotice h.storeReg

theorem State.wf.writePwrPf {s : State} (h : s.wf) {off size : Nat} {value : Word} : (s.writePwrPf off size value).wf := h.storeReg.setF

theorem State.wf.lowHalf {s : State} (h : s.wf) {off size : Nat} {value : Word} {k : State → State} (hk : (k s).wf) :
    (s.lowHalf off size value k).wf :=
  .ite (h.gate h.regNotice) hk

theorem State.wf.syncCtl {s : State} (h : s.wf) {a b : Nat} : (s.syncCtl a b).wf := .ite h.syncMembers (.ite h.syncArray.syncSpace h)

theorem State.wf.writeAt {s : State} (h : s.wf) {ep off size : Nat} {value : Word} : (s.writeAt ep off size value).wf := by
  unfold State.writeAt
  extract_lets b plain
  have hplain : (plain s).wf := h.gate h.plainWrite
  refine .ite (h.gate h) ?_
  split
  · exact .ite h.writeMode (.ite h.writeLock (.ite h.writeFw (.ite (h.gate h.writeBootCtl) hplain)))
  · exact .ite (h.gate h.writeSqCtl) (.ite (h.gate h.writeCqCtl) hplain)
  · exact .ite (h.doorbell h.sqDoorbell) (h.doorbell h.cqDoorbell)
  · exact .ite (.ite (h.gate h.writeWin0) (h.gate h.writeWin1)) hplain
  · exact .ite (h.gate h.writeMcCtl) (.ite (h.lowHalf h.writeMaint) (.ite (h.gate h.writeWaylock) hplain))
  · exact .ite (h.gate (.ite h.allstopClear h)) (.ite hplain (.ite (h.gate h.writeShadow)
      (.ite (h.command fun _ => .ite h.shtGo h) (.ite (h.gate h.writeShtStat) hplain))))
  · refine .ite h.writePrkCmd (.ite (h.gate (.ite h.regNotice h.storeReg)) ?_)
    split
    · exact h.gate h.plainWrite.syncCtl
    · exact hplain
  · exact .ite hplain (.ite h.writeBpCtl (.ite h.writeHopCtl (.ite (h.lowHalf h.writeHopCmd) hplain)))
  · exact .ite (h.gate (.ite h.regNotice h.storeReg)) hplain
  · exact .ite (h.gate h.writePwrPf) (.ite h.writeHuCtl hplain)
  · exact .ite (h.gate h.writeHlthCtl) hplain
  · exact .ite h.writeClk hplain
  · exact hplain

@[simp] theorem State.wf.execRegisterWrite {s : State} (h : s.wf) {ep off size : Nat} {value : Word} {poisoned : Bool} :
    wfAfter (execRegisterWrite ep off size value poisoned s) :=
  .ite h (.ite h.poisonSeen.regNotice (.ite h.aer h.writeAt))

/-! ### Machine/Dump.lean -/

@[simp] theorem State.wf.execUncorrectableStructureError {s : State} (h : s.wf) {src : Nat} :
    wfAfter (execUncorrectableStructureError src s) :=
  .ite h h.halt

@[simp] theorem State.wf.execFirmwareInconsistency {s : State} (h : s.wf) {core detail : Nat} :
    wfAfter (execFirmwareInconsistency core detail s) :=
  .ite h h.halt

theorem State.wf.snapped {s : State} (h : s.wf) : s.snapped.wf := .ite h (h.updateDump rfl)

/-- The dump that is written is a memory written byte by byte, and DRAM takes it whole. -/
theorem State.wf.dumpDone {s : State} (h : s.wf) {part : Bool} {body : List Nat} : (s.dumpDone part body).wf := by
  have hplaced : ∀ (t : State) (d : Dump) (poison : Tbl Bool), t.wf → d.mem.wf →
      State.wf { t with dram := t.dram.place t.dumpBase d, poison, dump := { t.dump with inDram := some d } } := by
    rintro t d poison ⟨hdram, hvault, hbar0, -⟩ hd
    exact ⟨Mem.wf_place hdram hd, hvault, hbar0, fun x hx => by cases hx; exact hd⟩
  exact (hplaced _ _ _ h.snapped (formDump_mem_wf _ _ _)).setF.setFlag.bumpFree

@[simp] theorem State.wf.execWatchdogExpiry {s : State} (h : s.wf) {core : Nat} {body : List Nat} :
    wfAfter (execWatchdogExpiry core body s) :=
  .ite h (.ite h.halt.dumpDone h.halt)

@[simp] theorem State.wf.execRegisterSnapshotCaptured {s : State} (h : s.wf) : wfAfter (execRegisterSnapshotCaptured s) := .ite h.snapped h
@[simp] theorem State.wf.execDumpInDramComplete {s : State} (h : s.wf) : wfAfter (execDumpInDramComplete s) := .ite h.dumpDone h

@[simp] theorem State.wf.execDumpCaptureTimeout {s : State} (h : s.wf) {body : List Nat} : wfAfter (execDumpCaptureTimeout body s) :=
  .ite h.dumpDone h

@[simp] theorem State.wf.execHaltVaultImageCommit {s : State} (h : s.wf) : wfAfter (execHaltVaultImageCommit s) := by
  unfold Machine.execHaltVaultImageCommit
  extract_lets _ d _ p s1
  have h1 : s1.wf := (h.updateDump (dump := d) rfl).update
  exact .ite h (.ite h1.convReset h1)

@[simp] theorem State.wf.execDumpVaultWriteComplete {s : State} (h : s.wf) : wfAfter (execDumpVaultWriteComplete s) := by
  unfold Machine.execDumpVaultWriteComplete
  split
  case h_1 d hd => exact State.wf.ite (h.saveDump (h.dumpInDram hd)).setF h
  case h_2 => exact h

/-! ### Machine/Federation.lean -/

@[simp] theorem State.wf.execSignalOwner {s : State} (h : s.wf) {th : Nat} : wfAfter (execSignalOwner th s) := by
  unfold Machine.execSignalOwner
  refine h.issue fun _ _ h => .ite h.signalCall (.ite h.faultAt ?_)
  split
  · exact h.async
  · exact .ite h.async h.async.fedAsk

/-- A start asked by another member, where a thread was free. -/
theorem State.wf.fedStart {s : State} (h : s.wf) {m : FedMsg} : ∀ t, s.fedStart m = some t → t.wf := by
  fun_cases State.fedStart s m
  case case5 s1 th hstart t =>
    simp only [Option.some.injEq, forall_eq']
    exact (h.startWork.ofFst hstart).setThr
  all_goals simp only [Option.some.injEq, forall_eq', reduceCtorEq, false_imp_iff, implies_true]
  · exact h.startThread.setThr
  · exact h.send
  · exact h.send
  · exact h

theorem State.wf.fedDrain {s : State} (h : s.wf) : s.fedDrain.wf := by
  refine State.wf.foldl h fun t _ h => ?_
  split
  · exact h
  · split
    · exact h.setFed.fedStart _ ‹_›
    · exact h

theorem State.wf.fedAnswer {s : State} (h : s.wf) {dev id outcome count : Nat} {words : List Info} :
    (s.fedAnswer dev id outcome count words).wf := by
  unfold State.fedAnswer
  split
  · exact h
  · refine .asyncDone ?_
    split
    · exact h.setFed.putInfos.setThr
    · exact h.setFed

@[simp] theorem State.wf.execFedCallPart {s : State} (h : s.wf) {m : FedMsg} : wfAfter (execFedCallPart m s) := by
  unfold Machine.execFedCallPart
  refine .ite h ?_
  split
  · exact h.fedAnswer
  · exact h.fedAnswer
  · exact h.send
  · exact h.fedAnswer
  · exact h.setFed
  · exact .ite h.setFed.fedDrain h

theorem State.wf.syncView {s : State} (h : s.wf) {relect : Bool} : (s.syncView relect).wf := .ite h.setF.setFed.sayHello h.setF.setFed

theorem State.wf.dropDevice {s : State} (h : s.wf) {dev : Nat} : (s.dropDevice dev).wf := by
  unfold State.dropDevice
  refine (h.foldl fun _ _ h => ?_).setFed
  split
  · exact h.asyncDone
  · exact h

@[simp] theorem State.wf.execFedHello {s : State} (hs : s.wf) {link : Nat} {h : FedHello} : wfAfter (execFedHello link h s) :=
  .ite hs (.ite ((hs.setFlag.setF.logOpen.foldl fun _ _ h => h.dropDevice).setFed) hs.setFed.syncView)

@[simp] theorem State.wf.execElectionStart {s : State} (h : s.wf) {high : Bool} : wfAfter (execElectionStart high s) := by
  unfold Machine.execElectionStart
  split
  · exact h
  · exact .ite h h.setFed.syncView.sayHello

@[simp] theorem State.wf.execElectionDecide {s : State} (h : s.wf) : wfAfter (execElectionDecide s) :=
  .ite h h.setF.incF.setFlag.setFlag.setFed.raiseEvent

@[simp] theorem State.wf.execFedLinkChange {s : State} (h : s.wf) {dev : Nat} {up wide : Bool} :
    wfAfter (execFedLinkChange dev up wide s) :=
  .ite h (.ite h.setF.setF (.ite (.ite h.setF.setF.send h.setF.setF.dropDevice) (.syncView (.ite h.setF.setF.send
    h.setF.setF.dropDevice))))

@[simp] theorem State.wf.execTimeMark {s : State} (h : s.wf) : wfAfter (execTimeMark s) := .ite h h.setFed.send

@[simp] theorem State.wf.execTimeMarkEdge {s : State} (h : s.wf) {theirs : Word} {long : Bool} : wfAfter (execTimeMarkEdge theirs long s) :=
  .ite h ((h.setFed.foldl fun _ _ h => h.send).setReg)

/-! ### Machine/PiIns.lean -/

theorem State.wf.piMap {s : State} (h : s.wf) {th : Nat} {i : IWord} {f : Nat → Info → Info} : (s.piMap th i f).wf :=
  .ite h.faultAt h.putInfos.wr.bumpFree

@[simp] theorem State.wf.execPigen {s : State} (h : s.wf) {th : Nat} : wfAfter (execPigen th s) := h.issue fun _ _ h => h.piMap

@[simp] theorem State.wf.execPichk {s : State} (h : s.wf) {th : Nat} : wfAfter (execPichk th s) := by
  unfold Machine.execPichk
  refine h.issue fun _ _ h => .ite h.faultAt ?_
  split
  · exact h.wr.bumpFree
  · exact h.wr

@[simp] theorem State.wf.execPixlate {s : State} (h : s.wf) {th : Nat} : wfAfter (execPixlate th s) := h.issue fun _ _ h => h.piMap

/-! ### Machine/Spdm.lean -/

theorem State.wf.spdm {s : State} (h : s.wf) {tr : Nat} {f : State → SpdmAnswer} : (s.spdm tr f).wf :=
  .ite (.ite h h.update) (.ite h.send h)

@[simp] theorem State.wf.execGetVersion {s : State} (h : s.wf) {tr : Nat} : wfAfter (execGetVersion tr s) := h.spdm
@[simp] theorem State.wf.execGetCapabilities {s : State} (h : s.wf) {tr : Nat} : wfAfter (execGetCapabilities tr s) := h.spdm

@[simp] theorem State.wf.execNegotiateAlgorithms {s : State} (h : s.wf) {tr : Nat} {sig hash measHash spec : Bool} :
    wfAfter (execNegotiateAlgorithms tr sig hash measHash spec s) :=
  h.spdm

@[simp] theorem State.wf.execGetDigests {s : State} (h : s.wf) {tr : Nat} : wfAfter (execGetDigests tr s) := h.spdm

@[simp] theorem State.wf.execGetCertificate {s : State} (h : s.wf) {tr slot offset length : Nat} :
    wfAfter (execGetCertificate tr slot offset length s) :=
  .ite h.spdm h.spdm.bumpFree

@[simp] theorem State.wf.execChallenge {s : State} (h : s.wf) {tr slot summary : Nat} {nonce : List Byte} :
    wfAfter (execChallenge tr slot summary nonce s) :=
  .ite h.spdm.bumpFree h.spdm.bumpFree

@[simp] theorem State.wf.execGetMeasurements {s : State} (h : s.wf) {tr op : Nat} {signed_ : Bool} {nonce : List Byte} :
    wfAfter (execGetMeasurements tr op signed_ nonce s) :=
  .ite h.spdm (.ite h.spdm (.ite h.spdm h.spdm.bumpFree))

@[simp] theorem State.wf.execRespondIfReady {s : State} (h : s.wf) {tr : Nat} : wfAfter (execRespondIfReady tr s) := h.spdm.bumpFree
@[simp] theorem State.wf.execSpdmUnsupportedRequest {s : State} (h : s.wf) {tr : Nat} : wfAfter (execSpdmUnsupportedRequest tr s) := h.spdm
@[simp] theorem State.wf.execDoeAbort {s : State} (h : s.wf) {ep : Nat} : wfAfter (execDoeAbort ep s) := .ite h h.update
theorem State.wf.mctp {s : State} (h : s.wf) {binding : Nat} {k : State → State} (hk : (k s).wf) : (s.mctp binding k).wf := .ite h hk

@[simp] theorem State.wf.execSetEndpointId {s : State} (h : s.wf) {binding op eid : Nat} : wfAfter (execSetEndpointId binding op eid s) :=
  h.mctp (.ite h.send.bumpFree (.ite h.send h.update.send))

@[simp] theorem State.wf.execGetEndpointId {s : State} (h : s.wf) {binding : Nat} : wfAfter (execGetEndpointId binding s) :=
  h.mctp h.send.bumpFree

@[simp] theorem State.wf.execGetEndpointUuid {s : State} (h : s.wf) {binding : Nat} : wfAfter (execGetEndpointUuid binding s) :=
  h.mctp h.send

@[simp] theorem State.wf.execGetMctpVersionSupport {s : State} (h : s.wf) {binding typ : Nat} :
    wfAfter (execGetMctpVersionSupport binding typ s) :=
  h.mctp (.ite h.send (.ite h.send.bumpFree h.send))

@[simp] theorem State.wf.execGetMessageTypeSupport {s : State} (h : s.wf) {binding : Nat} : wfAfter (execGetMessageTypeSupport binding s) :=
  h.mctp h.send

@[simp] theorem State.wf.execGetVendorDefinedMessageSupport {s : State} (h : s.wf) {binding selector : Nat} :
    wfAfter (execGetVendorDefinedMessageSupport binding selector s) :=
  h.mctp (.ite h.send.bumpFree h.send)

@[simp] theorem State.wf.execMctpUnsupportedCommand {s : State} (h : s.wf) {binding cmd : Nat} :
    wfAfter (execMctpUnsupportedCommand binding cmd s) :=
  h.mctp h.send

/-! ### Machine/Witness.lean -/

theorem State.wf.setWpair {s : State} (h : s.wf) {q : Nat} {x : WitPair} : (s.setWpair q x).wf := h.update
theorem State.wf.setStale {s : State} (h : s.wf) {q u : Nat} {b : Bool} : (s.setStale q u b).wf := .ite h.setFlag h.setFlag

theorem State.wf.answer {s : State} (h : s.wf) {q u wcode claim seq : Nat} {body : List Byte} : (s.answer q u wcode claim seq body).wf :=
  h.send

theorem State.wf.grant {s : State} (h : s.wf) {q u : Nat} : (s.grant q u).wf := h.setF.setF.setStale.setWpair.answer
theorem State.wf.noHolder {s : State} (h : s.wf) {q : Nat} : (s.noHolder q).wf := h.setF

theorem State.wf.grantFree {s : State} (h : s.wf) {q : Nat} : (s.grantFree q).wf := by
  unfold State.grantFree
  refine .ite h ?_
  dsimp only
  split
  · exact .ite h.grant (.ite h.grant h)
  · exact .ite h (.ite h.grant (.ite h.grant h))

theorem State.wf.onPair {s : State} (h : s.wf) {m : WitMsg} {f : Nat → State} (hf : ∀ q, (f q).wf) : (s.onPair m f).wf := by
  unfold State.onPair
  refine .ite h ?_
  split
  · exact hf _
  · exact h

@[simp] theorem State.wf.execHello {s : State} (h : s.wf) {m : WitMsg} : wfAfter (execHello m s) := by
  unfold Machine.execHello
  refine .ite h ?_
  dsimp only
  split
  · exact h
  · exact .grantFree (.answer (.ite (.setStale (.ite (.setF (.setWpair (.ite h.setF.setF h))) (.setWpair (.ite h.setF.setF h)))) (.ite
      (.setF (.setWpair (.ite h.setF.setF h))) (.setWpair (.ite h.setF.setF h)))))

@[simp] theorem State.wf.execLeaseReq {s : State} (h : s.wf) {m : WitMsg} : wfAfter (execLeaseReq m s) :=
  h.onPair fun _ => .ite h.setWpair.answer h.answer

@[simp] theorem State.wf.execHealth {s : State} (h : s.wf) {m : WitMsg} : wfAfter (execHealth m s) := h.onPair fun _ => h.setWpair.grantFree

@[simp] theorem State.wf.execPeerLost {s : State} (h : s.wf) {m : WitMsg} : wfAfter (execPeerLost m s) :=
  h.onPair fun _ => .ite h.setStale.answer h

@[simp] theorem State.wf.execInSync {s : State} (h : s.wf) {m : WitMsg} : wfAfter (execInSync m s) :=
  h.onPair fun _ => .ite h.setStale.answer h

@[simp] theorem State.wf.execHandover {s : State} (h : s.wf) {m : WitMsg} : wfAfter (execHandover m s) :=
  h.onPair fun _ => .ite (.ite h.grant h.noHolder) h

@[simp] theorem State.wf.execGrantAck {s : State} (h : s.wf) {m : WitMsg} : wfAfter (execGrantAck m s) := by
  unfold Machine.execGrantAck
  refine h.onPair fun _ => ?_
  split
  · exact .ite h.setWpair h
  · exact h

@[simp] theorem State.wf.execWitnessLeaseLapse {s : State} (h : s.wf) {q : Nat} : wfAfter (execWitnessLeaseLapse q s) := by
  unfold Machine.execWitnessLeaseLapse
  split
  · exact .ite (.ite h.setWpair.grant h.setWpair.noHolder) h
  · exact h

@[simp] theorem State.wf.execGrantRepeat {s : State} (h : s.wf) {q : Nat} : wfAfter (execGrantRepeat q s) := by
  unfold Machine.execGrantRepeat
  split
  · exact .ite h (.ite h.setWpair.noHolder h.setWpair.answer)
  · exact h

@[simp] theorem State.wf.execBadWitnessMessage {s : State} (h : s.wf) : wfAfter (execBadWitnessMessage s) := .ite h h.satF

/-! ### The tick, the commands and the step -/


/-! ### The tick, the commands and the step -/

theorem State.wf.tick {s : State} (h : s.wf) : s.tick.wf := h.update.maintTick.fedDrain.runReads.settleArrays

@[simp] theorem State.wf.execPowerOn {s : State} (h : s.wf) {pins : Straps} {aonLost held : Bool} :
    wfAfter (execPowerOn pins aonLost held s) :=
  .ite h (State.wf.convReset (.update (.ite h.update.setF.setFlag h.update)))

/-- Every command answers a state in canonical form. -/
theorem State.wf.exec {s : State} (h : s.wf) (c : Instr) : wfAfter (exec c s) := by
  cases c <;> simp [Machine.exec, h]

/-- Settles O57: a tick and every command keep the canonical form, operation by operation. -/
theorem memoryCanonical : Obligations.MemoryCanonical := by
  intro s t h hstep
  have hnext : wfAfter (step s) := by
    unfold step
    split
    · exact h.tick
    · exact State.wf.exec (State.wf.update h) _
  rw [hstep] at hnext
  exact hnext

end Sys2Proof.Machine

/-! ## The step, the reset, the identity registers and the error log (O1, O56, O58, O53, O55) -/

namespace Sys2Proof.Machine

/-! ### The step -/

/-- Settles O1: a step matches on the queue. -/
theorem stepRunsFrontCommand : Obligations.StepRunsFrontCommand :=
  ⟨fun _ _ => rfl, fun s h => by rw [step, h]⟩

/-- An outcome with a steady part is a next state. -/
theorem next_of_steadyAfter {o : Host.Outcome State Fault Refusal} {p : (Variant × Nat × Nat × List Instr) × Word}
    (h : steadyAfter o = some p) : ∃ t, o = .next t := by
  cases o with
  | next t => exact ⟨t, rfl⟩
  | fault f => exact absurd h (by simp [steadyAfter])
  | refused r => exact absurd h (by simp [steadyAfter])

/-- Settles O56: the power-on answers a state outright, every other command one with the same steady part. -/
theorem everyCommandAnswers : Obligations.EveryCommandAnswers := by
  intro c s
  by_cases h : ∃ pins aonLost held, c = .powerOn pins aonLost held
  · obtain ⟨pins, aonLost, held, rfl⟩ := h
    exact ⟨_, rfl⟩
  · push Not at h
    exact next_of_steadyAfter (exec_steady c s h)

/-- Settles O58: after reset the memories are empty and HOOP_SIZE alone is listed, with a value that is not its reset value. -/
theorem resetCanonical : Obligations.ResetCanonical := by
  refine ⟨⟨List.Pairwise.nil, ?_⟩, ⟨List.Pairwise.nil, ?_⟩, ⟨List.pairwise_singleton _ _, ?_⟩, ?_⟩
  · exact fun _ h => absurd h List.not_mem_nil
  · exact fun _ h => absurd h List.not_mem_nil
  · intro e he
    rw [List.mem_singleton.mp he]
    decide
  · exact fun _ h => nomatch h

/-! ### The identity registers (R460, R473) -/

/-- While the host link works the global block is served: the modes without it are those of a link that is off. -/
theorem served_global {s : State} (hdown : s.hostDown = false) {off : Nat} (hoff : off ≤ 0xFFFF)
    (hrow : (rowAt (regBase off)).isSome = true) :
    s.served off = true := by
  have hblock : blockOf off = .global := by simp [blockOf, hoff]
  have hflush : s.mode.cur ≠ .flush := fun h => by simp [State.hostDown, State.linkOff, h] at hdown
  have hmode : blockServed s.mode.cur .global = true := by
    cases hm : s.mode.cur with
    | flush => exact absurd hm hflush
    | _ => rfl
  simp [State.served, State.absentAt, hblock, hmode, hrow]

/-- A register of the global block reads as its value in its readable bits. -/
theorem readReg_global {s : State} (hdown : s.hostDown = false) {off : Nat} (hoff : off ≤ 0xFFFF)
    (hrow : (rowAt (regBase off)).isSome = true) : s.readReg off = BitVec.ofNat 64 (s.derived off &&& readMask off) := by
  simp [State.readReg, served_global hdown hoff hrow, hdown]

/-- DEV_ID reads as the variant's identifier (R460). -/
theorem readReg_devId {s : State} (hdown : s.hostDown = false) :
    s.readReg R.DEV_ID = BitVec.ofNat 64 (s.hw.variant.devId &&& readMask R.DEV_ID) :=
  readReg_global hdown (by decide) (by decide)

/-- DEV_CAP0 reads as the variant's capabilities (R473). -/
theorem readReg_cap0 {s : State} (hdown : s.hostDown = false) :
    s.readReg R.DEV_CAP0 = BitVec.ofNat 64 (s.hw.variant.cap0 &&& readMask R.DEV_CAP0) :=
  readReg_global hdown (by decide) (by decide)

/-- The readable bits of DEV_CAP1 are its three fields, side by side from bit 0. -/
theorem cap1_and_readMask (v : Nat) :
    v &&& readMask R.DEV_CAP1 = bits v 0 32 + 2 ^ 32 * bits v 32 8 + 2 ^ 40 * bits v 40 4 := by
  have hmask : readMask R.DEV_CAP1 = 2 ^ 44 - 1 := by decide
  rw [hmask, Nat.and_two_pow_sub_one_eq_mod]
  simp only [bits]
  omega

/-- DEV_CAP1 reads as the availability of the ports, clusters and brides (R473). -/
theorem readReg_cap1 {s : State} (hdown : s.hostDown = false) : s.readReg R.DEV_CAP1 =
    BitVec.ofNat 64 (s.f F.DEV_CAP1_BP_AVAIL + 2 ^ 32 * s.f F.DEV_CAP1_CL_AVAIL + 2 ^ 40 * s.f F.DEV_CAP1_BR_AVAIL) := by
  rw [readReg_global hdown (by decide) (by decide), cap1_and_readMask]
  rfl

/-- Settles O53: the three registers read as the variant gives them. -/
theorem identityRegisters : Obligations.IdentityRegisters := by
  intro s hdown hports hclusters hbrides
  rw [readReg_cap0 hdown, readReg_cap1 hdown, readReg_devId hdown, hports, hclusters, hbrides]
  refine ⟨fun hv => ?_, fun hv => ?_, fun hv => ?_⟩ <;> rw [hv] <;> decide

end Sys2Proof.Machine

/-! ## What logging and events leave unchanged, and the error log (R442, R443; O55) -/

namespace Sys2Proof.Machine

/-! ### The core of a state

Registers, endpoints, messages, logs and the count of free values are what logging and events write; the core is the rest. One frame lemma
over the core gives that of each of its fields, by congrArg. -/

/-- A state with what logging and events write taken out. -/
def State.core (s : State) : State :=
  { s with bar0 := [], out := [], ep0 := endpointReset, ep1 := endpointReset, free := 0, elog := { slots := [], next := 0 }
           aon := { recs := [], pend := 0, ovf := false }, health := { s.health with critCount := 0 }, hw := { s.hw with wake := false } }

@[simp] theorem setReg_core (s : State) (off : Nat) (w : Word) : (s.setReg off w).core = s.core := by rfl

@[simp] theorem setF_core (s : State) (x : Field) (v : Nat) : (s.setF x v).core = s.core := by rfl

@[simp] theorem setFlag_core (s : State) (x : Field) (b : Bool) : (s.setFlag x b).core = s.core := by rfl

@[simp] theorem satF_core (s : State) (x : Field) (n : Nat) : (s.satF x n).core = s.core := by rfl

@[simp] theorem storeReg_core (s : State) (off size : Nat) (value : Word) : (s.storeReg off size value).core = s.core := by rfl

@[simp] theorem send_core (s : State) (m : OutMsg) : (s.send m).core = s.core := by rfl

@[simp] theorem bumpFree_core (s : State) : s.bumpFree.core = s.core := by rfl

@[simp] theorem setEp_core (s : State) (e : Nat) (x : Endpoint) : (s.setEp e x).core = s.core := by
  unfold State.setEp
  split <;> rfl

/-- Either branch of a choice has the core of what it is chosen from. -/
theorem core_ite (c : Prop) [Decidable c] (s t : State) :
    (if c then s else t).core = if c then s.core else t.core := apply_ite State.core c s t

@[simp] theorem msixDue_core (s : State) (e v : Nat) : (s.msixDue e v).core = s.core := by
  simp only [State.msixDue, core_ite, send_core, setEp_core, ite_self]

@[simp] theorem pmeCheck_core (s : State) (e : Nat) : (s.pmeCheck e).core = s.core := by
  fun_cases State.pmeCheck s e <;> rfl

@[simp] theorem raiseEvent_core (s : State) (i : Nat) : (s.raiseEvent i).core = s.core := by
  unfold State.raiseEvent
  split
  · rfl
  · rw [foldl_keeps State.core _ (fun t e => by rw [pmeCheck_core, msixDue_core]), setReg_core]

@[simp] theorem withElog_core (s : State) (l : ErrorLog) : ({ s with elog := l } : State).core = s.core := by rfl

@[simp] theorem logRecAt_core (s : State) (t : Word) (cls src unit code addr : Nat) (detail : BitVec 256) :
    (s.logRecAt t cls src unit code addr detail).core = s.core := by
  simp only [State.logRecAt, core_ite, raiseEvent_core, setFlag_core, setF_core, withElog_core, ite_self]

@[simp] theorem logRec_core (s : State) (cls src unit code addr : Nat) (detail : BitVec 256) :
    (s.logRec cls src unit code addr detail).core = s.core := by
  simp only [State.logRec, core_ite, logRecAt_core, ite_self]

@[simp] theorem logOpen_core (s : State) (cls src unit addr : Nat) : (s.logOpen cls src unit addr).core = s.core := by
  simp only [State.logOpen, bumpFree_core, logRec_core]

@[simp] theorem withCritCount_core (s : State) (n : Nat) :
    ({ s with health := { s.health with critCount := n } } : State).core = s.core := by rfl

@[simp] theorem healthEventAt_core (s : State) (t : Word) (code : Nat) (critical : Bool) (src unit : Nat) (detail : Option (BitVec 256)) :
    (s.healthEventAt t code critical src unit detail).core = s.core := by
  unfold State.healthEventAt
  cases critical with
  | false => simp
  | true =>
    simp only [if_true, raiseEvent_core]
    exact (withCritCount_core _ _).trans (by simp)

@[simp] theorem healthEvent_core (s : State) (code : Nat) (critical : Bool) (src unit : Nat) (detail : Option (BitVec 256)) :
    (s.healthEvent code critical src unit detail).core = s.core := by
  simp only [State.healthEvent, core_ite, healthEventAt_core, ite_self]

@[simp] theorem notice_core (s : State) (src unit code off value detail : Nat) :
    (s.notice src unit code off value detail).core = s.core := by
  rw [State.notice, core_ite, logRec_core]
  exact ite_self _

@[simp] theorem logAon_core (s : State) (code detail : Nat) : (s.logAon code detail).core = s.core := by rfl

section
variable {s t : State} (h : t.core = s.core)
include h

theorem pair_of_core : t.pair = s.pair := by
  show t.core.pair = s.core.pair
  rw [h]

theorem mode_of_core : t.mode = s.mode := by
  show t.core.mode = s.core.mode
  rw [h]

theorem tbase_of_core : t.tbase = s.tbase := by
  show t.core.tbase = s.core.tbase
  rw [h]

theorem hoop_of_core : t.hoop = s.hoop := by
  show t.core.hoop = s.core.hoop
  rw [h]

theorem power_of_core : t.power = s.power := by
  show t.core.power = s.core.power
  rw [h]

theorem fed_of_core : t.fed = s.fed := by
  show t.core.fed = s.core.fed
  rw [h]

theorem boot_of_core : t.boot = s.boot := by
  show t.core.boot = s.core.boot
  rw [h]

theorem dump_of_core : t.dump = s.dump := by
  show t.core.dump = s.core.dump
  rw [h]

theorem threads_of_core : t.threads = s.threads := by
  show t.core.threads = s.core.threads
  rw [h]

end

/-! ### What is written on the way into the error log -/

/-- A record in its slot and ELOG_STAT counted on, before its event is raised. -/
def State.recorded (s : State) (r : LogRec) : State :=
  let s1 := { s with elog := { slots := Tbl.set noRec s.elog.slots (s.elog.next % 4096) (some r), next := r.seq } }
  let s2 := (s1.setF F.ELOG_STAT_COUNT (min 4096 r.seq)).setF F.ELOG_STAT_NEWSEQ r.seq
  if 4096 < r.seq then s2.setFlag F.ELOG_STAT_WRAP true else s2

section
variable (s : State) (r : LogRec)

theorem recorded_elog : (s.recorded r).elog =
    { slots := Tbl.set noRec s.elog.slots (s.elog.next % 4096) (some r), next := r.seq } := by
  unfold State.recorded
  split <;> rfl

theorem recorded_out : (s.recorded r).out = s.out := by
  unfold State.recorded
  split <;> rfl

theorem recorded_mode : (s.recorded r).mode = s.mode := by
  unfold State.recorded
  split <;> rfl

/-- Only ELOG_STAT is written. -/
theorem reg_recorded {off : Nat} (h : off ≠ R.ELOG_STAT) : (s.recorded r).reg off = s.reg off := by
  unfold State.recorded
  simp only [reg_ite, State.setFlag, reg_setF_ne _ F.ELOG_STAT_WRAP _ off h, reg_setF_ne _ F.ELOG_STAT_NEWSEQ _ off h,
    reg_setF_ne _ F.ELOG_STAT_COUNT _ off h, ite_self]
  rfl

theorem f_ite (c : Prop) [Decidable c] (s t : State) (x : Field) : (if c then s else t).f x = if c then s.f x else t.f x :=
  apply_ite (fun u => State.f u x) c s t

theorem count_recorded : (s.recorded r).f F.ELOG_STAT_COUNT = min 4096 r.seq := by
  unfold State.recorded
  simp only [f_ite, f_setFlag_of_apart (x := F.ELOG_STAT_WRAP) (y := F.ELOG_STAT_COUNT) (by decide),
    f_setF_of_apart (x := F.ELOG_STAT_NEWSEQ) (y := F.ELOG_STAT_COUNT) (by decide), ite_self]
  rw [f_setF_same _ _ _ (by decide)]
  exact Nat.mod_eq_of_lt (show min 4096 r.seq < 2 ^ 13 by omega)

theorem newSeq_recorded : (s.recorded r).f F.ELOG_STAT_NEWSEQ = r.seq % 2 ^ 32 := by
  unfold State.recorded
  simp only [f_ite, f_setFlag_of_apart (x := F.ELOG_STAT_WRAP) (y := F.ELOG_STAT_NEWSEQ) (by decide), ite_self]
  exact f_setF_same _ _ _ (by decide)

/-- The record's own registers leave the event flag to the vector. -/
theorem evt_recorded : (s.recorded r).flag F.ELOG_STAT_EVT = s.flag F.ELOG_STAT_EVT := by
  unfold State.flag State.recorded
  simp only [f_ite, f_setFlag_of_apart (x := F.ELOG_STAT_WRAP) (y := F.ELOG_STAT_EVT) (by decide),
    f_setF_of_apart (x := F.ELOG_STAT_NEWSEQ) (y := F.ELOG_STAT_EVT) (by decide),
    f_setF_of_apart (x := F.ELOG_STAT_COUNT) (y := F.ELOG_STAT_EVT) (by decide), ite_self]
  rfl

end

/-- Writing a record is storing it, and raising the error log's event for the classes from 2 where none stands. -/
theorem logRecAt_eq (s : State) (t : Word) (cls src unit code addr : Nat) (detail : BitVec 256) :
    s.logRecAt t cls src unit code addr detail =
      let u := s.recorded { tbase := t, cls, src, unit, code, addr, detail, seq := s.elog.next + 1 }
      if 2 ≤ cls && !s.flag F.ELOG_STAT_EVT then (u.setFlag F.ELOG_STAT_EVT true).raiseEvent 1 else u := by
  simp only [← evt_recorded s { tbase := t, cls, src, unit, code, addr, detail, seq := s.elog.next + 1 }]
  rfl

/-! ### What raising an event changes -/

/-- The error log is not written when an event is raised. -/
@[simp] theorem raiseEvent_elog (s : State) (i : Nat) : (s.raiseEvent i).elog = s.elog := by
  have hmsix (t : State) (e v : Nat) : (t.msixDue e v).elog = t.elog := by
    unfold State.msixDue State.setEp
    split_ifs <;> rfl
  have hpme (t : State) (e : Nat) : (t.pmeCheck e).elog = t.elog := by fun_cases State.pmeCheck t e <;> rfl
  unfold State.raiseEvent
  split
  · rfl
  · rw [foldl_keeps State.elog _ (fun t e => by rw [hpme, hmsix])]
    rfl

/-- A field outside DEV_EVT keeps its value when an event is raised. -/
theorem f_raiseEvent {x : Field} (h : x.off ≠ R.DEV_EVT) (s : State) (i : Nat) : (s.raiseEvent i).f x = s.f x := by
  rw [State.f, reg_raiseEvent h, State.f]

/-- As f_raiseEvent, for a one-bit field. -/
theorem flag_raiseEvent {x : Field} (h : x.off ≠ R.DEV_EVT) (s : State) (i : Nat) : (s.raiseEvent i).flag x = s.flag x := by
  rw [State.flag, f_raiseEvent h, State.flag]

/-- An event that is powered stands in DEV_EVT. -/
theorem bit_raiseEvent {s : State} {i : Nat} (hp : s.eventPowered i = true) (hi : i < 64) :
    bit ((s.raiseEvent i).reg R.DEV_EVT).toNat i = true := by
  have hset : bit (BitVec.ofNat 64 (putBit (s.reg R.DEV_EVT).toNat i true)).toNat i = true := by
    rw [BitVec.toNat_ofNat, bit_mod_two_pow hi, bit_putBit_same]
  unfold State.raiseEvent
  rw [if_neg (by simp [hp]), State.reg, foldl_keeps State.bar0 _ (fun t e => by rw [pmeCheck_bar0, msixDue_bar0]), ← State.reg,
    reg_setReg_eq, if_pos rfl]
  exact hset

/-! ### The error log's obligation -/

/-- A record has 60 bytes before its CRC. -/
theorem length_body (r : LogRec) : r.body.length = 60 := by
  simp [LogRec.body, length_leBytes]

/-- A record's 64 bytes end in the CRC of the others (R442). -/
theorem logRec_bytes (r : LogRec) : r.bytes.length = 64 ∧ r.bytes.drop 60 = leBytes 4 (crc32c (r.bytes.take 60)) := by
  have hlen := length_body r
  refine ⟨by simp [LogRec.bytes, hlen, length_leBytes], ?_⟩
  rw [LogRec.bytes, List.drop_left' hlen, List.take_left' hlen]

section
variable {s : State} (hmode : s.mode.cur ≠ .dormant) (cls src unit code addr : Nat) (detail : BitVec 256)
include hmode

/-- Outside Dormant a record is written at once. -/
theorem logRec_eq : s.logRec cls src unit code addr detail =
    let u := s.recorded { tbase := s.tbase, cls, src, unit, code, addr, detail, seq := s.elog.next + 1 }
    if 2 ≤ cls && !s.flag F.ELOG_STAT_EVT then (u.setFlag F.ELOG_STAT_EVT true).raiseEvent 1 else u := by
  rw [State.logRec, if_neg hmode, logRecAt_eq]

/-- The log after a record (R442). -/
theorem logRec_elog : (s.logRec cls src unit code addr detail).elog =
    { slots := Tbl.set noRec s.elog.slots (s.elog.next % 4096)
        (some { tbase := s.tbase, cls, src, unit, code, addr, detail, seq := s.elog.next + 1 }), next := s.elog.next + 1 } := by
  rw [logRec_eq hmode]
  simp only [apply_ite State.elog, raiseEvent_elog, State.setFlag, setF_elog, recorded_elog, ite_self]

/-- A field of ELOG_STAT that the event flag does not touch follows the record. -/
theorem f_logRec_stat {x : Field} (hx : x.off = R.ELOG_STAT) (hapart : x.lo + x.width ≤ 14 ∨ 15 ≤ x.lo) :
    (s.logRec cls src unit code addr detail).f x =
      (s.recorded { tbase := s.tbase, cls, src, unit, code, addr, detail, seq := s.elog.next + 1 }).f x := by
  have hevt : x.off ≠ R.DEV_EVT := hx ▸ by decide
  rw [logRec_eq hmode]
  simp only [f_ite, f_raiseEvent hevt, f_setFlag_of_apart (x := F.ELOG_STAT_EVT) (y := x) (Or.inr hapart), ite_self]

/-- A record of a class from 2 leaves EVT set (R443). -/
theorem evt_logRec (hcls : 2 ≤ cls) : (s.logRec cls src unit code addr detail).flag F.ELOG_STAT_EVT = true := by
  rw [logRec_eq hmode]
  cases hf : s.flag F.ELOG_STAT_EVT with
  | false =>
    simp only [hcls, decide_true, Bool.not_false, Bool.and_self, if_true]
    rw [flag_raiseEvent (by decide), flag_setFlag_same rfl (by decide)]
  | true => simpa using (evt_recorded s _).trans hf

/-- It raises the error log's event where EVT was 0 (R443). -/
theorem bit_logRec (hcls : 2 ≤ cls) (hf : s.flag F.ELOG_STAT_EVT = false) :
    bit ((s.logRec cls src unit code addr detail).reg R.DEV_EVT).toNat 1 = true := by
  rw [logRec_eq hmode]
  simp only [hcls, hf, decide_true, Bool.not_false, Bool.and_self, if_true]
  refine bit_raiseEvent ?_ (by decide)
  have hmode' : ((s.recorded { tbase := s.tbase, cls, src, unit, code, addr, detail, seq := s.elog.next + 1 }).setFlag
      F.ELOG_STAT_EVT true).mode = s.mode := recorded_mode s _
  rw [State.eventPowered, hmode']
  simp [hmode]

/-- Any other record only stands in the log: no message, no event (R443). -/
theorem logRec_quiet (h : cls < 2 ∨ s.flag F.ELOG_STAT_EVT = true) : s.logRec cls src unit code addr detail =
    s.recorded { tbase := s.tbase, cls, src, unit, code, addr, detail, seq := s.elog.next + 1 } := by
  rw [logRec_eq hmode]
  refine if_neg ?_
  rcases h with h | h
  · simp [Nat.not_le.mpr h]
  · simp [h]

end

/-- Settles O55: a record is stored first, and only then is its event raised. -/
theorem errorLogRecords : Obligations.ErrorLogRecords := by
  refine ⟨fun s cls src unit code addr detail hmode => ?_, logRec_bytes⟩
  have helog := logRec_elog hmode cls src unit code addr detail
  refine ⟨by rw [helog], ?_, ?_, ?_, fun k hk => ?_, evt_logRec hmode cls src unit code addr detail,
    bit_logRec hmode cls src unit code addr detail, fun h => ?_⟩
  · rw [f_logRec_stat hmode cls src unit code addr detail rfl (by decide), count_recorded]
  · rw [f_logRec_stat hmode cls src unit code addr detail rfl (by decide), newSeq_recorded]
  · rw [helog, Tbl.get_set, if_pos rfl]
  · rw [helog, Tbl.get_set, if_neg hk]
  · rw [logRec_quiet hmode cls src unit code addr detail h]
    exact ⟨recorded_out s _, reg_recorded s _ (by decide), evt_recorded s _⟩

end Sys2Proof.Machine

/-! ## Bobbin links: frames, training and credit (R355 to R357, R360, R384; O40) -/

namespace Sys2Proof.Machine

/-! ### What the packets of a port change -/

/-- The oldest control packet of a port sent. -/
def State.sendCtrl (s : State) (p : Nat) (k : TxPkt) (ks : List TxPkt) : State :=
  (s.setPort p { s.port p with ctrlQ := ks, ctrlCr := (s.port p).ctrlCr - k.slots,
                               txSeq := ((s.port p).txSeq + framesOf k.slots) % 256 }).send k.msg

/-- The oldest bulk packet of a port sent. -/
def State.sendBulk (s : State) (p : Nat) (k : TxPkt) (ks : List TxPkt) : State :=
  (s.setPort p { s.port p with bulkQ := ks, bulkCr := (s.port p).bulkCr - k.slots,
                               txSeq := ((s.port p).txSeq + framesOf k.slots) % 256 }).send k.msg

/-- A round of pumping ends it, or sends the oldest packet of a class that has the credit for it and goes on. -/
theorem pumpPort_succ (s : State) (p n : Nat) : s.pumpPort p (n + 1) = s ∨
    (∃ k ks, (s.port p).ctrlQ = k :: ks ∧ k.slots ≤ (s.port p).ctrlCr ∧ s.pumpPort p (n + 1) = (s.sendCtrl p k ks).pumpPort p n) ∨
    (∃ k ks, (s.port p).bulkQ = k :: ks ∧ k.slots ≤ (s.port p).bulkCr ∧
      s.pumpPort p (n + 1) = (s.sendBulk p k ks).pumpPort p n) := by
  have hroom {k : TxPkt} {cr : Nat} (h : (decide (k.slots ≤ cr) && (s.port p).room k.slots) = true) : k.slots ≤ cr := by
    simp only [Bool.and_eq_true, decide_eq_true_eq] at h
    exact h.1
  simp only [State.pumpPort]
  repeat' split
  all_goals first
    | exact .inl rfl
    | exact .inr (.inl ⟨_, _, ‹_›, hroom ‹_›, rfl⟩)
    | exact .inr (.inr ⟨_, _, ‹_›, hroom ‹_›, rfl⟩)

/-- Sending packets changes a port's queues, credit and sequence number, and what is sent. Whatever such an update keeps, pumping keeps. -/
theorem pumpPort_induct {P : State → Prop} (p : Nat)
    (hstep : ∀ (s : State) (y : Port) (m : OutMsg), y.up = (s.port p).up → y.rxSeq = (s.port p).rxSeq → y.nak = (s.port p).nak →
      P s → P ((s.setPort p y).send m)) (n : Nat) (s : State) (h : P s) : P (s.pumpPort p n) := by
  induction n generalizing s with
  | zero => exact h
  | succ n ih =>
    obtain hend | ⟨k, ks, -, -, hctrl⟩ | ⟨k, ks, -, -, hbulk⟩ := pumpPort_succ s p n
    · rwa [hend]
    · rw [hctrl]
      exact ih _ (hstep s _ _ rfl rfl rfl h)
    · rw [hbulk]
      exact ih _ (hstep s _ _ rfl rfl rfl h)

/-- Pumping leaves the registers. -/
@[simp] theorem pump_bar0 (s : State) (p : Nat) : (s.pump p).bar0 = s.bar0 :=
  pumpPort_induct (P := fun t => t.bar0 = s.bar0) p (fun _ _ _ _ _ _ h => h) _ s rfl

/-- Pumping leaves what the receiver keeps of a port, and whether it is up. -/
theorem port_pump (s : State) (p : Nat) : ((s.pump p).port p).up = (s.port p).up ∧ ((s.pump p).port p).rxSeq = (s.port p).rxSeq ∧
    ((s.pump p).port p).nak = (s.port p).nak := by
  refine pumpPort_induct (P := fun t => (t.port p).up = (s.port p).up ∧ (t.port p).rxSeq = (s.port p).rxSeq ∧
    (t.port p).nak = (s.port p).nak) p (fun t y m hup hrx hnak h => ?_) _ s ⟨rfl, rfl, rfl⟩
  have hy : ((t.setPort p y).send m).port p = y := by
    rw [show ((t.setPort p y).send m).port p = (t.setPort p y).port p from rfl, port_setPort, if_pos rfl]
  obtain ⟨hup', hrx', hnak'⟩ := h
  rw [hy]
  exact ⟨hup.trans hup', hrx.trans hrx', hnak.trans hnak'⟩

/-! ### Credit (R360) -/

/-- What a port sent of its queues: each packet once, oldest first in its class, its slots taken from the credit of the class. -/
def Sent (s t : State) (p : Nat) (c b : List TxPkt) : Prop :=
  (s.port p).ctrlQ = c ++ (t.port p).ctrlQ ∧ (s.port p).bulkQ = b ++ (t.port p).bulkQ ∧
    (t.port p).ctrlCr + (c.map (fun k => k.slots)).sum = (s.port p).ctrlCr ∧
    (t.port p).bulkCr + (b.map (fun k => k.slots)).sum = (s.port p).bulkCr ∧ t.out.length = s.out.length + c.length + b.length

/-- A port that sends nothing. -/
theorem Sent.refl (s : State) (p : Nat) : Sent s s p [] [] := by simp [Sent]

/-- A port after a message was sent elsewhere. -/
@[simp] theorem send_port (s : State) (m : OutMsg) (p : Nat) : (s.send m).port p = s.port p := rfl

/-- The messages after one more. -/
theorem length_out_send (s : State) (m : OutMsg) : (s.send m).out.length = s.out.length + 1 := List.length_append

/-- One control packet leaves before the rest. -/
theorem Sent.ctrl_cons {s t : State} {p : Nat} {k : TxPkt} {ks c b : List TxPkt} (hq : (s.port p).ctrlQ = k :: ks)
    (hcr : k.slots ≤ (s.port p).ctrlCr) (h : Sent (s.sendCtrl p k ks) t p c b) : Sent s t p (k :: c) b := by
  obtain ⟨hc, hb, hcc, hbc, ho⟩ := h
  rw [State.sendCtrl, send_port, port_setPort, if_pos rfl] at hc hb hcc hbc
  rw [State.sendCtrl, length_out_send, setPort_out] at ho
  refine ⟨by rw [hq, List.cons_append, ← hc], hb, ?_, hbc, ?_⟩
  · rw [List.map_cons, List.sum_cons]
    dsimp only at hcc
    omega
  · rw [List.length_cons]
    omega

/-- One bulk packet leaves before the rest. -/
theorem Sent.bulk_cons {s t : State} {p : Nat} {k : TxPkt} {ks c b : List TxPkt} (hq : (s.port p).bulkQ = k :: ks)
    (hcr : k.slots ≤ (s.port p).bulkCr) (h : Sent (s.sendBulk p k ks) t p c b) : Sent s t p c (k :: b) := by
  obtain ⟨hc, hb, hcc, hbc, ho⟩ := h
  rw [State.sendBulk, send_port, port_setPort, if_pos rfl] at hc hb hcc hbc
  rw [State.sendBulk, length_out_send, setPort_out] at ho
  refine ⟨hc, by rw [hq, List.cons_append, ← hb], hcc, ?_, ?_⟩
  · rw [List.map_cons, List.sum_cons]
    dsimp only at hbc
    omega
  · rw [List.length_cons]
    omega

/-- However many rounds a port pumps, it sends so. -/
theorem sent_pumpPort (p n : Nat) (s : State) : ∃ c b, Sent s (s.pumpPort p n) p c b := by
  induction n generalizing s with
  | zero => exact ⟨[], [], Sent.refl s p⟩
  | succ n ih =>
    obtain hend | ⟨k, ks, hq, hcr, hctrl⟩ | ⟨k, ks, hq, hcr, hbulk⟩ := pumpPort_succ s p n
    · rw [hend]
      exact ⟨[], [], Sent.refl s p⟩
    · obtain ⟨c, b, h⟩ := ih (s.sendCtrl p k ks)
      rw [hctrl]
      exact ⟨k :: c, b, h.ctrl_cons hq hcr⟩
    · obtain ⟨c, b, h⟩ := ih (s.sendBulk p k ks)
      rw [hbulk]
      exact ⟨c, k :: b, h.bulk_cons hq hcr⟩

theorem creditConserved : Claims.CreditConserved := fun s p => sent_pumpPort p _ s

/-! ### Frames (R355, R356) -/

/-- A Bobbin link is no link of the pair. -/
theorem pairLink_of_lt {p : Nat} (h : p < 32) (s : State) : s.pairLink p = false := by
  have h32 : (p == 32) = false := by simp; omega
  have h33 : (p == 33) = false := by simp; omega
  simp [State.pairLink, h32, h33]

/-- A link that is served and up takes frames. -/
theorem exec_frameReceive {s : State} {p : Nat} (f : Frame) (hp : p < 32) (hserved : s.linkServed p = true)
    (hup : (s.port p).up = true) : exec (.frameReceive p f) s = .next (if f.good then
      let s2 := (if f.corrected then s.satF (F.BP_FEC_CORR p) else s).takeAck p f
      (if f.idle then s2
        else if f.fseq % 256 = ((s2.port p).rxSeq + 1) % 256 then s2.setPort p { s2.port p with rxSeq := f.fseq % 256, nak := false }
        else s2.setPort p { s2.port p with nak := true }).pump p
      else (s.satF (F.BP_FEC_UNCORR p)).setPort p { s.port p with nak := true }) := by
  have hsat (x : Field) : (s.satF x).port p = s.port p := rfl
  rw [show exec (.frameReceive p f) s = execFrameReceive p f s from rfl, execFrameReceive]
  cases f.good <;> simp [hserved, hup, pairLink_of_lt hp, hp, hsat]

/-- An acknowledgment without NAK leaves what the receiver keeps. -/
theorem port_takeAck {s : State} {p : Nat} {f : Frame} (hnak : f.nak = false) : ((s.takeAck p f).port p).rxSeq = (s.port p).rxSeq := by
  simp only [State.takeAck, hnak, Bool.false_and, if_false, Bool.false_eq_true, port_setPort, if_true]
  split <;> rfl

section
variable {s : State} {p : Nat} {f : Frame} (hp : p < 32) (hserved : s.linkServed p = true) (hup : (s.port p).up = true)
  (hgood : f.good = true) (hcorr : f.corrected = false) (hidle : f.idle = false) (hnak : f.nak = false)
include hp hserved hup hgood hcorr hidle hnak

/-- A good frame in sequence is taken (R356). -/
theorem exec_frameReceive_next (hseq : f.fseq % 256 = ((s.port p).rxSeq + 1) % 256) :
    ∃ t : State, exec (.frameReceive p f) s = .next t ∧ (t.port p).rxSeq = f.fseq % 256 ∧ (t.port p).nak = false := by
  have hack := port_takeAck (s := s) (p := p) hnak
  rw [exec_frameReceive f hp hserved hup]
  simp only [hgood, hcorr, hidle, if_true, Bool.false_eq_true, if_false]
  generalize s.takeAck p f = u at hack ⊢
  rw [if_pos (show f.fseq % 256 = ((u.port p).rxSeq + 1) % 256 by rwa [hack])]
  obtain ⟨-, hrx, hn⟩ := port_pump (u.setPort p { u.port p with rxSeq := f.fseq % 256, nak := false }) p
  rw [port_setPort, if_pos rfl] at hrx hn
  exact ⟨_, rfl, hrx, hn⟩

/-- A good frame out of sequence is not taken, and NAKed (R356). -/
theorem exec_frameReceive_other (hseq : f.fseq % 256 ≠ ((s.port p).rxSeq + 1) % 256) :
    ∃ t : State, exec (.frameReceive p f) s = .next t ∧ (t.port p).rxSeq = (s.port p).rxSeq ∧ (t.port p).nak = true := by
  have hack := port_takeAck (s := s) (p := p) hnak
  rw [exec_frameReceive f hp hserved hup]
  simp only [hgood, hcorr, hidle, if_true, Bool.false_eq_true, if_false]
  generalize s.takeAck p f = u at hack ⊢
  rw [if_neg (show ¬f.fseq % 256 = ((u.port p).rxSeq + 1) % 256 by rwa [hack])]
  obtain ⟨-, hrx, hn⟩ := port_pump (u.setPort p { u.port p with nak := true }) p
  rw [port_setPort, if_pos rfl] at hrx hn
  exact ⟨_, rfl, hrx.trans hack, hn⟩

end

/-! ### Training and retraining (R357, R384) -/

/-- All hops of a port lost, its link is down. -/
theorem up_hopsLost (s : State) (p : Nat) : ((s.hopsLost p 0).port p).up = false := by
  rw [State.hopsLost]
  dsimp only
  rw [if_neg (not_not_intro rfl)]
  simp only [State.port, setFlag_ports]
  rw [← State.port, port_setPort, if_pos rfl]

/-- A link that retrains is down (R357). -/
theorem up_retrain (s : State) (p : Nat) : ((s.retrain p).port p).up = false := by
  simp only [State.retrain, State.port, apply_ite State.ports, satF_ports, setF_ports, ite_self]
  exact up_hopsLost s p

/-- The first hop of a port trained: its link is up, in state 2 (R357). -/
theorem linkTrained_up {p : Nat} (hp : p < 32) (s : State) (ack ctrl bulk serial : Nat) :
    ((s.linkTrained p 0 ack ctrl bulk serial).port p).up = true ∧ (s.linkTrained p 0 ack ctrl bulk serial).f (F.BP_LINK_STATE p) = 2 := by
  have hoff : (F.BP_LINK_STATE p).off ≠ (F.BP_HOP_STAT_STATE p 0).off := by
    simp only [F.BP_LINK_STATE, F.BP_HOP_STAT_STATE, R.BP_LINK, R.BP_HOP_STAT]
    omega
  have hlane0 : (F.BP_LINK_STATE p).off ≠ (F.BP_LINK_LANE0 p).off ∨ (F.BP_LINK_STATE p).lo + (F.BP_LINK_STATE p).width ≤
      (F.BP_LINK_LANE0 p).lo ∨ (F.BP_LINK_LANE0 p).lo + (F.BP_LINK_LANE0 p).width ≤ (F.BP_LINK_STATE p).lo := by
    simp [F.BP_LINK_STATE, F.BP_LINK_LANE0]
  have hlane1 : (F.BP_LINK_STATE p).off ≠ (F.BP_LINK_LANE1 p).off ∨ (F.BP_LINK_STATE p).lo + (F.BP_LINK_STATE p).width ≤
      (F.BP_LINK_LANE1 p).lo ∨ (F.BP_LINK_LANE1 p).lo + (F.BP_LINK_LANE1 p).width ≤ (F.BP_LINK_STATE p).lo := by
    simp [F.BP_LINK_STATE, F.BP_LINK_LANE1]
  simp only [State.linkTrained, if_pos hp, if_true]
  refine ⟨?_, ?_⟩
  · rw [(port_pump _ p).1]
    simp only [State.port, setF_ports, setHop_ports, setFlag_ports]
    rw [← State.port, port_setPort, if_pos rfl]
  · rw [f_congr _ (pump_bar0 _ p), f_setF_off _ _ _ _ hoff, setHop_f, f_setFlag_of_apart hlane1, f_setFlag_of_apart hlane0,
      f_setF_same _ _ _ (by simp [F.BP_LINK_STATE])]
    rfl

/-! ### BP_CTL -/

/-- A taken write of BP_CTL with the port enabled before it. -/
theorem writeBpCtl_enabled {s : State} {p size : Nat} (value : Word) (h : s.takesWrite (R.BP_CTL p) size = true)
    (hen : s.flag (F.BP_CTL_EN p) = true) : s.writeBpCtl p (R.BP_CTL p) size value =
      let s1 := s.storeReg (R.BP_CTL p) size value
      if s1.flag (F.BP_CTL_EN p) then (if bit (writtenValue (R.BP_CTL p) size value) 1 then s1.retrain p else s1)
      else s1.portOff p 7 := by
  have hoff : R.BP_CTL p % 8 = 0 := by simp [R.BP_CTL]; omega
  rw [State.writeBpCtl, gate_of_takesWrite h]
  cases hnow : (s.storeReg (R.BP_CTL p) size value).flag (F.BP_CTL_EN p) <;> simp [hen, hoff, hnow]

/-- The command that asks for a retrain writes the RETRAIN bit. -/
theorem bit_retrainValue (p : Nat) (w : Word) : bit (writtenValue (R.BP_CTL p) 4 (2 + (w &&& 1))) 1 = true := by
  have hoff : R.BP_CTL p % 8 = 0 := by simp [R.BP_CTL]; omega
  rw [bit_writtenValue_low hoff (.inl rfl) _ (by decide)]
  have hlt : (w &&& 1#64).toNat ≤ 1 := Nat.and_le_right
  have hsum : (2 + (w &&& 1) : Word).toNat = 2 + (w &&& 1#64).toNat := by
    rw [BitVec.toNat_add, Nat.mod_eq_of_lt (by simp at hlt ⊢; omega)]
    rfl
  have hone : (2 + (w &&& 1#64).toNat) / 2 ^ 1 = 1 := by omega
  rw [hsum, bit, hone]
  rfl

theorem linkFrames : Claims.LinkFrames := by
  refine ⟨fun s p f hp hserved hup => ⟨fun hbad => ?_, ?_, ?_⟩, fun s p ctrl bulk hserved hup => ?_,
    fun s p hp hserved hup hreplays => ?_,
    fun s p ack ctrl bulk serial hp hserved hstage hpwr hen => ?_, fun s p hp htakes hen s1 hs1 hen1 => ?_,
    fun s p size value hp htakes hbit s1 hs1 hen => ?_⟩
  · rw [exec_frameReceive f hp hserved hup, if_neg (by simp [hbad])]
  · exact fun hgood hcorr hidle hseq hnak => exec_frameReceive_next hp hserved hup hgood hcorr hidle hnak hseq
  · exact fun hgood hcorr hidle hseq hnak => exec_frameReceive_other hp hserved hup hgood hcorr hidle hnak hseq
  · show execCredit p ctrl bulk true s = _
    simp [execCredit, hserved, hup]
  · refine ⟨?_, up_retrain s p⟩
    show execBobbinLinkDown p 0 false s = _
    simp [execBobbinLinkDown, hserved, hup, hreplays, hp]
  · refine ⟨?_, linkTrained_up hp s ack ctrl bulk serial⟩
    show execLinkTrained p 0 ack ctrl bulk serial s = _
    simp [execLinkTrained, hserved, hp, hstage, hpwr, hen]
  · show execRetrain p s = _
    rw [execRetrain, Nat.mod_eq_of_lt hp, writeBpCtl_enabled _ htakes hen, bit_retrainValue, ← hs1, if_pos hen1, if_pos rfl]
  · have hexec : exec (.portEnWrite p size value) s = .next (s.writeBpCtl (p % 32) (R.BP_CTL (p % 32)) size value) := rfl
    rw [Nat.mod_eq_of_lt hp, writeBpCtl_enabled value htakes hen, hbit, ← hs1] at hexec
    exact ⟨fun hoff => by rw [hexec]; simp [hoff], fun hon => by rw [hexec]; simp [hon]⟩

/-- Settles O40: what a port sends it takes from its queues one packet at a time, and the link commands act as their branches say. -/
theorem linksAndCredits : Obligations.LinksAndCredits := ⟨linkFrames, creditConserved⟩

end Sys2Proof.Machine

/-! ## Sled answers and time limits (R196, R198, R199, R359 to R363, R367; O41) -/

namespace Sys2Proof.Machine

/-! ### Responses, data and alerts -/

section
variable {s : State} {p tag hop : Nat} (hp : p < 32) (htag : tag < 512) (hhop : hop < 4) (hidle : s.bobbinIdle = false)
  (hup : (s.port p).up = true)
include hp htag hhop hidle hup

/-- A port that runs takes a response: the slots go back as credit, and the command of its tag decides the rest (R359, R361). -/
theorem exec_rsp (status : Nat) (body : List Byte) (ok : Bool) : exec (.rsp p tag hop status body ok) s = .next (
    let s := s.returnCredit p (slotsOf body.length) 0
    if !ok then s.protoError p 0x20
    else match s.sledCmds.find (sledKey p tag) with
      | none => s.protoError p 0x20
      | some c =>
        if c.hop ≠ hop then s.protoError p 0x20
        else if c.timedOut.isSome then (s.satF F.ARR_LATE_LATE).endSled p tag
        else (((s.endSled p tag).settleRsp p c (status % 256) body).retryWaiting p).runReads) := by
  rw [show exec (.rsp p tag hop status body ok) s = execRsp p tag hop status body ok s from rfl, execRsp]
  simp only [Nat.mod_eq_of_lt hp, Nat.mod_eq_of_lt htag, Nat.mod_eq_of_lt hhop, hidle, hup, Bool.not_true, Bool.or_self,
    Bool.false_eq_true, if_false] <;> rfl

/-- As exec_rsp, for data (R359). -/
theorem exec_rdata (seg : Nat) (d : ReadData) : exec (.rdata p tag hop seg d true) s = .next (
    let s := s.returnCredit p 0 (match d with | .codeword _ => slotsOf 4640 | .log bs => slotsOf bs.length)
    match s.sledCmds.find (sledKey p tag) with
      | none => s.protoError p 0x21
      | some c =>
        if c.timedOut.isSome then s
        else if c.hop ≠ hop then s.protoError p 0x21
        else match c.purpose, c.kind, d with
          | .read j k, .read _ _ _ level _, .codeword raw => (s.columnData j k level seg raw).runReads
          | _, _, .log bs => s.logData p c bs
          | _, _, _ => s) := by
  rw [show exec (.rdata p tag hop seg d true) s = execRdata p tag hop seg d true s from rfl]
  unfold execRdata
  simp only [Nat.mod_eq_of_lt hp, Nat.mod_eq_of_lt htag, Nat.mod_eq_of_lt hhop, hidle, hup, Bool.not_true, Bool.or_self,
    Bool.false_eq_true, if_false] <;> rfl

omit htag in
/-- An alert is a status block (R362). -/
theorem exec_alert (body : List Byte) (ok : Bool) : exec (.alert p hop body ok) s = .next (
    let s := s.returnCredit p (slotsOf body.length) 0
    if !ok then s.protoError p 0x30 else (s.statusBlock p hop body).runReads) := by
  rw [show exec (.alert p hop body ok) s = execAlert p hop body ok s from rfl, execAlert]
  simp only [Nat.mod_eq_of_lt hp, Nat.mod_eq_of_lt hhop, hidle, hup, Bool.not_true, Bool.or_self, Bool.false_eq_true, if_false]

end

/-- Returned credit leaves the commands. -/
theorem returnCredit_sledCmds (s : State) (p ctrl bulk : Nat) : (s.returnCredit p ctrl bulk).sledCmds = s.sledCmds := rfl

/-- A page's codeword and its parity take 73 slots (R358, R361). -/
theorem slotsOf_codeword : slotsOf 4640 = 73 := by decide

theorem sledAnswers : Claims.SledAnswers := by
  intro s p tag hop hp htag hhop hidle hup
  refine ⟨fun status body => ?_, fun status body hnone => ?_, fun status body c hc hne => ?_, fun status body c t0 hc heq ht => ?_,
    fun status body c hc heq ht => ?_, fun seg bs hnone => ?_, fun seg raw hnone => ?_,
    fun seg c j col n blk pg level cw raw hc heq ht hpur hkind => ?_, fun body => ?_, fun body => ?_⟩
  · exact exec_rsp hp htag hhop hidle hup status body false
  · rw [exec_rsp hp htag hhop hidle hup]
    simp [returnCredit_sledCmds, hnone]
  · rw [exec_rsp hp htag hhop hidle hup]
    simp [returnCredit_sledCmds, hc, hne]
  · rw [exec_rsp hp htag hhop hidle hup]
    simp [returnCredit_sledCmds, hc, heq, ht]
  · rw [exec_rsp hp htag hhop hidle hup]
    simp [returnCredit_sledCmds, hc, heq, ht]
  · rw [exec_rdata hp htag hhop hidle hup]
    simp [returnCredit_sledCmds, hnone]
  · rw [exec_rdata hp htag hhop hidle hup]
    simp [returnCredit_sledCmds, hnone, slotsOf_codeword]
  · rw [exec_rdata hp htag hhop hidle hup]
    simp [returnCredit_sledCmds, hc, heq, ht, hpur, hkind, slotsOf_codeword]
  · exact exec_alert hp hhop hidle hup body true
  · exact exec_alert hp hhop hidle hup body false

/-! ### Time limits (R196, R198, R367) -/

section
variable {s : State} {p tag : Nat} {c : SledCmd} (hp : p < 32) (htag : tag < 512) (hc : s.sledCmds.find (sledKey p tag) = some c)
  (hlive : c.timedOut = none) (hlimit : s.cmdLimit c ≤ (s.tbase - c.issued).toNat)
include hp htag hc hlive hlimit

/-- A READ of an enrolled sled beyond its limit (R196, R198). -/
theorem exec_memberReadTimeout {j col n : Nat} (hpur : c.purpose = .read j col) (hsled : c.sled = some n) :
    exec (.memberReadTimeout p tag) s =
      .next ((((s.reserveTag (sledKey p tag) c).readEnded c j col).countTimeout n c.underLoss).runReads) := by
  show execMemberReadTimeout p tag s = _
  simp [-BitVec.toNat_sub, execMemberReadTimeout, Nat.mod_eq_of_lt hp, Nat.mod_eq_of_lt htag, hc, hpur, hsled, hlive, hlimit]

/-- A command of no sled and no purpose beyond its limit is repeated once (R367). -/
theorem exec_commandTimeout (hpur : c.purpose = .none) (hsled : c.sled = none) : exec (.commandTimeout p tag) s = .next (
    (if c.again then (s.reserveTag (sledKey p tag) c).notAnswering p c else (s.reserveTag (sledKey p tag) c).reissue p c).runReads) := by
  show execCommandTimeout p tag s = _
  simp [-BitVec.toNat_sub, execCommandTimeout, State.commandTimeout, Nat.mod_eq_of_lt hp, Nat.mod_eq_of_lt htag, hc, hpur, hsled,
    hlive, hlimit]

end

/-- One command that waits alone is tried, out of the list. -/
theorem retryWaiting_singleton {s : State} {p : Nat} {c : SledCmd} (hw : (s.port p).waiting = [c]) (hheld : c.heldSince = none) :
    s.retryWaiting p = (s.setPort p { s.port p with waiting := [] }).issueSled p c := by
  simp [State.retryWaiting, hw, hheld, State.tryWaiting, State.firstWaiting]

/-- A command that waits alone, held back by NOT_READY for 10 ms, goes out again (R367). -/
theorem exec_notReadyRetry {s : State} {p : Nat} {c : SledCmd} {t : Word} (hp : p < 32) (hidle : s.bobbinIdle = false)
    (hw : (s.port p).waiting = [c]) (hheld : c.heldSince = some t) (hdue : 1000000 ≤ (s.tbase - t).toNat) :
    exec (.notReadyRetry p) s = .next (((s.setPort p { s.port p with waiting := [{ c with heldSince := none }] }).setPort p
      { s.port p with waiting := [] }).issueSled p { c with heldSince := none }) := by
  have hexec : exec (.notReadyRetry p) s =
      .next ((s.setPort p { s.port p with waiting := [{ c with heldSince := none }] }).retryWaiting p) := by
    show execNotReadyRetry p s = _
    simp [-BitVec.toNat_sub, execNotReadyRetry, Nat.mod_eq_of_lt hp, hidle, hw, hheld, hdue]
  have hnow : ({ c with heldSince := none } : SledCmd).heldSince = none := rfl
  generalize ({ c with heldSince := none } : SledCmd) = d at hexec hnow ⊢
  have hport : (s.setPort p { s.port p with waiting := [d] }).port p = { s.port p with waiting := [d] } := by
    rw [port_setPort, if_pos rfl]
  rw [hexec, retryWaiting_singleton (by rw [hport]) hnow, hport]

theorem sledTimeLimits : Claims.SledTimeLimits := by
  refine ⟨fun s p tag c j col n hp htag hc hpur hsled hlive hlimit => exec_memberReadTimeout hp htag hc hlive hlimit hpur hsled,
    fun s p tag c hp htag hc hpur hlive hsled hlimit => ?_, fun s p c t hp hidle hw hheld hdue => ?_, fun s n t ht hdue => ?_⟩
  · rw [exec_commandTimeout hp htag hc hlive hlimit hpur hsled]
    exact ⟨fun h => by rw [h, if_neg Bool.false_ne_true], fun h => by rw [if_pos h]⟩
  · have hexec := exec_notReadyRetry hp hidle hw hheld hdue
    refine ⟨_, ?_, ?_, hexec⟩
    · rw [port_setPort, if_pos rfl]
    · rfl
  · show execLinkLossDeclare n s = _
    simp [-BitVec.toNat_sub, execLinkLossDeclare, ht, hdue]

/-- Settles O41: every answer goes by its tag's command, and every limit by what the command was for. -/
theorem sleds : Obligations.Sleds := ⟨sledAnswers, sledTimeLimits⟩

end Sys2Proof.Machine

/-! ## Sled enrolment and bays (R369, R374, R376 to R379, R445; O42) -/

namespace Sys2Proof.Machine

/-! ### The registers of the Bobbin ports

Logs, events and the arrays' own registers lie outside the block of the Bobbin ports (R457), which the frames here are about. -/

/-- The registers between the arrays' blocks and those of the pair. -/
def State.portRegs (s : State) (k : Fin 0x200000) : Word := s.reg (0x200000 + k)

/-- A register of the block is read through it. -/
theorem reg_of_portRegs {s t : State} (h : t.portRegs = s.portRegs) {off : Nat} (hlo : 0x200000 ≤ off) (hhi : off < 0x400000) :
    t.reg off = s.reg off := by
  have hoff := congrFun h ⟨off - 0x200000, by omega⟩
  rwa [State.portRegs, State.portRegs, show 0x200000 + (off - 0x200000) = off by omega] at hoff

/-- A field of the block is read through it. -/
theorem f_of_portRegs {s t : State} (h : t.portRegs = s.portRegs) {x : Field} (hlo : 0x200000 ≤ x.off) (hhi : x.off < 0x400000) :
    t.f x = s.f x := by
  rw [State.f, reg_of_portRegs h hlo hhi, State.f]

/-- What leaves all registers leaves the block. -/
theorem portRegs_congr {s t : State} (h : t.bar0 = s.bar0) : t.portRegs = s.portRegs := by
  funext k
  rw [State.portRegs, State.reg, h]
  rfl

/-- A register below or above the block is none of it. -/
theorem setReg_portRegs {off : Nat} (h : off < 0x200000 ∨ 0x400000 ≤ off) (s : State) (w : Word) :
    (s.setReg off w).portRegs = s.portRegs := by
  funext k
  have hk : 0x200000 + k.val ≠ off := by omega
  rw [State.portRegs, reg_setReg_eq, if_neg hk, State.portRegs]

theorem setF_portRegs {x : Field} (h : x.off < 0x200000 ∨ 0x400000 ≤ x.off) (s : State) (v : Nat) :
    (s.setF x v).portRegs = s.portRegs := setReg_portRegs h s _

theorem setFlag_portRegs {x : Field} (h : x.off < 0x200000 ∨ 0x400000 ≤ x.off) (s : State) (b : Bool) :
    (s.setFlag x b).portRegs = s.portRegs := setReg_portRegs h s _

theorem portRegs_ite (c : Prop) [Decidable c] (s t : State) :
    (if c then s else t).portRegs = if c then s.portRegs else t.portRegs := apply_ite State.portRegs c s t

@[simp] theorem bumpFree_portRegs (s : State) : s.bumpFree.portRegs = s.portRegs := portRegs_congr rfl

@[simp] theorem send_portRegs (s : State) (m : OutMsg) : (s.send m).portRegs = s.portRegs := portRegs_congr rfl

@[simp] theorem setRepl_portRegs (s : State) (r : Replication) : (s.setRepl r).portRegs = s.portRegs := portRegs_congr rfl

@[simp] theorem mirror_portRegs (s : State) (m : MirrorItem) : (s.mirror m).portRegs = s.portRegs := by
  unfold State.mirror
  split
  · exact portRegs_congr rfl
  · rfl

@[simp] theorem mirrorRegs_portRegs (s old : State) (a : Nat) : (s.mirrorRegs old a).portRegs = s.portRegs := by
  unfold State.mirrorRegs
  split
  · exact foldl_keeps _ _ (fun _ _ => mirror_portRegs _ _) _ _
  · rfl

@[simp] theorem withDlog_portRegs (s : State) (l : DeltaLog) : ({ s with dlog := l } : State).portRegs = s.portRegs := portRegs_congr rfl

@[simp] theorem appendDelta_portRegs (s : State) (kind a key : Nat) (value : Word) :
    (s.appendDelta kind a key value).portRegs = s.portRegs := by
  rw [State.appendDelta, mirror_portRegs, State.syncDlog, setF_portRegs (by decide), withDlog_portRegs]

@[simp] theorem setEword_portRegs (s : State) (n b : Nat) (e : EWord) : (s.setEword n b e).portRegs = s.portRegs := by
  rw [State.setEword, appendDelta_portRegs, mirror_portRegs]
  exact portRegs_congr rfl

/-- Logging and events write DEV_EVT and the health block. -/
theorem portRegs_of_reg {s t : State}
    (h : ∀ off, off ≠ R.DEV_EVT → off ≠ R.ELOG_STAT → off ≠ R.HLTH_EVT → t.reg off = s.reg off) :
    t.portRegs = s.portRegs := by
  funext k
  refine h _ ?_ ?_ ?_ <;> simp only [R.DEV_EVT, R.ELOG_STAT, R.HLTH_EVT] <;> omega

@[simp] theorem raiseEvent_portRegs (s : State) (i : Nat) : (s.raiseEvent i).portRegs = s.portRegs :=
  portRegs_of_reg fun _ hevt _ _ => reg_raiseEvent hevt s i

@[simp] theorem logRec_portRegs (s : State) (cls src unit code addr : Nat) (detail : BitVec 256) :
    (s.logRec cls src unit code addr detail).portRegs = s.portRegs :=
  portRegs_of_reg fun _ hevt hlog _ => reg_logRec hevt hlog s cls src unit code addr detail

@[simp] theorem logOpen_portRegs (s : State) (cls src unit addr : Nat) : (s.logOpen cls src unit addr).portRegs = s.portRegs := by
  rw [State.logOpen, bumpFree_portRegs, logRec_portRegs]

@[simp] theorem withHealth_portRegs (s : State) (x : Health) : ({ s with health := x } : State).portRegs = s.portRegs :=
  portRegs_congr rfl

@[simp] theorem healthEvent_portRegs (s : State) (code : Nat) (critical : Bool) (src unit : Nat) (detail : Option (BitVec 256)) :
    (s.healthEvent code critical src unit detail).portRegs = s.portRegs := by
  have hat : s.mode.cur ≠ .dormant → (s.logRecAt s.tbase clsHealth src unit code 0 (detail.getD s.freshDetail)).portRegs = s.portRegs :=
    fun h => by rw [← logRec_portRegs s clsHealth src unit code 0 (detail.getD s.freshDetail), State.logRec, if_neg h]
  unfold State.healthEvent
  split
  next => rfl
  next h =>
    simp only [State.healthEventAt, raiseEvent_portRegs, portRegs_ite]
    rw [withHealth_portRegs]
    simp only [setF_portRegs (x := F.HLTH_EVT_LAST) (by decide), setFlag_portRegs (x := F.HLTH_EVT_CRIT) (by decide),
      setFlag_portRegs (x := F.HLTH_EVT_EVT) (by decide), bumpFree_portRegs, hat h, ite_self]

/-! ### What the arrays and the copies of the couching log write -/

/-- As foldl_keeps, for the elements of the list. -/
theorem foldl_keeps_of_mem {α β : Type} (g : State → β) (f : State → α → State) (l : List α)
    (h : ∀ s, ∀ a ∈ l, g (f s a) = g s) (s : State) : g (l.foldl f s) = g s := by
  induction l generalizing s with
  | nil => rfl
  | cons a l ih => rw [List.foldl_cons, ih (fun s b hb => h s b (List.mem_cons_of_mem _ hb)), h s a List.mem_cons_self]

section
variable {a : Nat} (ha : a < 16)
include ha

theorem syncRun_portRegs (s : State) : (s.syncRun a).portRegs = s.portRegs := by
  have hx {x : Field} (h : x.off = R.ARR_RB_PROG a) : x.off < 0x200000 ∨ 0x400000 ≤ x.off := by
    rw [h]
    simp only [R.ARR_RB_PROG]
    omega
  unfold State.syncRun
  split
  · rfl
  · dsimp only
    rw [mirrorRegs_portRegs, setF_portRegs (hx rfl), setFlag_portRegs (hx rfl)]

theorem enterArrayState_portRegs (s : State) (st : Nat) : (s.enterArrayState a st).portRegs = s.portRegs := by
  have hx {x : Field} (h : x.off = R.ARR_STATE a) : x.off < 0x200000 ∨ 0x400000 ≤ x.off := by
    rw [h]
    simp only [R.ARR_STATE]
    omega
  unfold State.enterArrayState
  dsimp only
  split
  · rfl
  · rw [State.logArrayOpen, logOpen_portRegs, raiseEvent_portRegs, setFlag_portRegs (hx rfl), setF_portRegs (hx rfl),
      setF_portRegs (hx rfl)]

theorem syncMembers_portRegs (s : State) : (s.syncMembers a).portRegs = s.portRegs := by
  have hx {x : Field} (h : x.off ∈ [R.ARR_STATE a, R.ARR_RB_LEFT1 a, R.ARR_RB_LEFT2 a, R.ARR_RB_LEFT3 a, R.ARR_RB_TOTAL a,
      R.ARR_RB_PROG a]) : x.off < 0x200000 ∨ 0x400000 ≤ x.off := by
    simp only [R.ARR_STATE, R.ARR_RB_LEFT1, R.ARR_RB_LEFT2, R.ARR_RB_LEFT3, R.ARR_RB_TOTAL, R.ARR_RB_PROG, List.mem_cons,
      List.not_mem_nil, or_false] at h
    omega
  unfold State.syncMembers
  split
  · rfl
  · dsimp only
    rw [mirrorRegs_portRegs, enterArrayState_portRegs ha, syncRun_portRegs ha, portRegs_ite]
    simp only [setF_portRegs (x := F.ARR_STATE_LMAX a) (hx (by simp [F.ARR_STATE_LMAX])),
      setF_portRegs (x := F.ARR_STATE_TOL a) (hx (by simp [F.ARR_STATE_TOL])),
      setF_portRegs (x := F.ARR_STATE_FAILED a) (hx (by simp [F.ARR_STATE_FAILED])),
      setFlag_portRegs (x := F.ARR_STATE_NARROW a) (hx (by simp [F.ARR_STATE_NARROW])),
      setF_portRegs (x := F.ARR_RB_LEFT1_COUNT a) (hx (by simp [F.ARR_RB_LEFT1_COUNT])),
      setF_portRegs (x := F.ARR_RB_LEFT2_COUNT a) (hx (by simp [F.ARR_RB_LEFT2_COUNT])),
      setF_portRegs (x := F.ARR_RB_LEFT3_COUNT a) (hx (by simp [F.ARR_RB_LEFT3_COUNT])),
      setF_portRegs (x := F.ARR_RB_TOTAL_TOTAL a) (hx (by simp [F.ARR_RB_TOTAL_TOTAL])),
      setF_portRegs (x := F.ARR_RB_PROG_DONE a) (hx (by simp [F.ARR_RB_PROG_DONE])),
      setF_portRegs (x := F.ARR_RB_PROG_PERMILLE a) (hx (by simp [F.ARR_RB_PROG_PERMILLE])), ite_self]

theorem syncArray_portRegs (s : State) : (s.syncArray a).portRegs = s.portRegs := by
  have hx {x : Field} (h : x.off ∈ [R.ARR_BAND a, R.ARR_FILL a, R.ARR_FG a, R.ARR_GC a]) : x.off < 0x200000 ∨ 0x400000 ≤ x.off := by
    simp only [R.ARR_BAND, R.ARR_FILL, R.ARR_FG, R.ARR_GC, List.mem_cons, List.not_mem_nil, or_false] at h
    omega
  have hpace (t : State) : (t.paceAfresh a).portRegs = t.portRegs := portRegs_congr rfl
  unfold State.syncArray
  split
  · rfl
  · dsimp only
    simp only [mirrorRegs_portRegs, portRegs_ite, hpace,
      setFlag_portRegs (x := F.ARR_GC_FGFOLD a) (hx (by simp [F.ARR_GC_FGFOLD])),
      setFlag_portRegs (x := F.ARR_GC_RUN a) (hx (by simp [F.ARR_GC_RUN])),
      setFlag_portRegs (x := F.ARR_GC_URGENT a) (hx (by simp [F.ARR_GC_URGENT])),
      setF_portRegs (x := F.ARR_BAND_OPENABLE a) (hx (by simp [F.ARR_BAND_OPENABLE])),
      setF_portRegs (x := F.ARR_FILL_FILL_PM a) (hx (by simp [F.ARR_FILL_FILL_PM])),
      setF_portRegs (x := F.ARR_FG_TARGET_BP a) (hx (by simp [F.ARR_FG_TARGET_BP])),
      setF_portRegs (x := F.ARR_FG_BANDS a) (hx (by simp [F.ARR_FG_BANDS])), ite_self]

end

@[simp] theorem syncAll_portRegs (s : State) : s.syncAll.portRegs = s.portRegs :=
  foldl_keeps_of_mem _ _ _ (fun t _ ha => syncMembers_portRegs (List.mem_range.mp ha) t) s

@[simp] theorem takeLogBlocks_portRegs (s : State) (n : Nat) : (s.takeLogBlocks n).portRegs = s.portRegs := by
  refine foldl_keeps _ _ (fun t _ => ?_) _ s
  split
  · exact setEword_portRegs ..
  · rfl

@[simp] theorem withHoop_portRegs (s : State) (x : Hoop) : ({ s with hoop := x } : State).portRegs = s.portRegs := portRegs_congr rfl

@[simp] theorem joinCopy_portRegs (s : State) (n : Nat) : (s.joinCopy n).portRegs = s.portRegs := by
  unfold State.joinCopy
  dsimp only
  rw [setRepl_portRegs, send_portRegs, send_portRegs, send_portRegs, withHoop_portRegs,
    foldl_keeps State.portRegs _ (fun t p => by rw [send_portRegs, withHoop_portRegs]), takeLogBlocks_portRegs]

@[simp] theorem syncCopies_portRegs (s : State) : s.syncCopies.portRegs = s.portRegs := by
  unfold State.syncCopies
  dsimp only
  rw [setF_portRegs (by decide), setF_portRegs (by decide)]

@[simp] theorem chooseCopies_portRegs (s : State) : s.chooseCopies.portRegs = s.portRegs := by
  unfold State.chooseCopies State.chooseCopiesBut
  dsimp only
  rw [portRegs_ite, healthEvent_portRegs, ite_self]
  rw [foldl_keeps_of_mem State.portRegs _ _ (fun t a ha => syncArray_portRegs (List.mem_range.mp (List.mem_of_mem_filter ha)) t),
    syncCopies_portRegs, foldl_keeps State.portRegs _ (fun t n => joinCopy_portRegs t n), setFlag_portRegs (by decide),
    setF_portRegs (by decide), setF_portRegs (by decide), setF_portRegs (by decide)]


/-! ### Enrolment (R369, R374, R445) -/

/-- The number that an enrolment takes is free, and none below it is (R374). -/
theorem freeNumber_spec {s : State} {n : Nat} (h : s.freeNumber = some n) : (s.sled n).enrolled = false ∧ s.slotNames n = false ∧
    ∀ m, m < n → (s.sled m).enrolled = true ∨ s.slotNames m = true ∨
      s.bobbin.hops.any (fun e => e.2.enrol.any (fun r => r.number == m)) = true := by
  rw [State.freeNumber, List.find?_range_eq_some] at h
  obtain ⟨hfree, -, hbelow⟩ := h
  simp only [Bool.and_eq_true, Bool.not_eq_true'] at hfree
  refine ⟨hfree.1.1, hfree.1.2, fun m hm => ?_⟩
  have htaken := hbelow m hm
  grind

/-- A taken command of a hop goes by its lower two bits (R374). -/
theorem writeHopCmd_taken {s : State} {p h : Nat} (htakes : s.takesCmd (R.BP_HOP_CMD p h) 8 = true) (value : Word) :
    s.writeHopCmd p h 8 value = match value.toNat % 4 with
      | 1 => s.enrolHop p h
      | 2 => s.disenrolHop p h
      | _ => s.hopRefuse p h value.toNat := by
  have hoff : R.BP_HOP_CMD p h % 8 = 0 := by
    simp only [R.BP_HOP_CMD]
    omega
  have hvalue : writtenValue (R.BP_HOP_CMD p h) 8 value = value.toNat := rfl
  rw [State.writeHopCmd, command_of_takesCmd htakes hoff, hvalue] <;> rfl

section
variable {s : State} {p h : Nat} (hp : p < 32) (hh : h < 4) (htakes : s.takesCmd (R.BP_HOP_CMD p h) 8 = true)
include hp hh htakes

theorem exec_enrol : exec (.enrol p h) s = .next (s.enrolHop p h) := by
  rw [show exec (.enrol p h) s = .next (s.writeHopCmd (p % 32) (h % 4) 8 1) from rfl, Nat.mod_eq_of_lt hp, Nat.mod_eq_of_lt hh,
    writeHopCmd_taken htakes]
  rfl

theorem exec_disenrol : exec (.disenrol p h) s = .next (s.disenrolHop p h) := by
  rw [show exec (.disenrol p h) s = .next (s.writeHopCmd (p % 32) (h % 4) 8 2) from rfl, Nat.mod_eq_of_lt hp, Nat.mod_eq_of_lt hh,
    writeHopCmd_taken htakes]
  rfl

end

/-- A DISENROL that is not refused leaves the hop ready, without a number (R374). -/
theorem f_disenrolHop {s : State} {p h n : Nat} (hp : p < 32) (hh : h < 4) (hat : s.sledAt p h = some n) (hnames : s.slotNames n = false)
    (hclaim : s.holdsClaim = true) : (s.disenrolHop p h).f (F.BP_HOP_STAT_STATE p h) = 4 ∧
      (s.disenrolHop p h).f (F.BP_HOP_STAT_NUMBER p h) = 0xFFFF := by
  have hlo : 0x200000 ≤ R.BP_HOP_STAT p h := by
    simp only [R.BP_HOP_STAT]
    omega
  have hhi : R.BP_HOP_STAT p h < 0x400000 := by
    simp only [R.BP_HOP_STAT]
    omega
  rw [State.disenrolHop, hat]
  simp only [hnames, hclaim, Bool.not_true, Bool.or_self, Bool.false_eq_true, if_false]
  generalize State.mirror _ _ = u
  have hframe (t : State) : t.chooseCopies.syncAll.portRegs = t.portRegs := by rw [syncAll_portRegs, chooseCopies_portRegs]
  refine ⟨?_, ?_⟩
  · rw [f_of_portRegs (hframe _) hlo hhi, setHop_f,
      f_setF_of_apart (x := F.BP_HOP_STAT_NUMBER p h) (y := F.BP_HOP_STAT_STATE p h) (by simp [F.BP_HOP_STAT_NUMBER, F.BP_HOP_STAT_STATE]),
      f_setF_same _ _ _ (by simp [F.BP_HOP_STAT_STATE])]
    rfl
  · rw [f_of_portRegs (hframe _) hlo hhi, setHop_f, f_setF_same _ _ _ (by simp [F.BP_HOP_STAT_NUMBER])]
    rfl

theorem sledEnrolment : Claims.SledEnrolment := by
  intro s p h hp hh x
  refine ⟨fun hidle hstage => ?_, fun hidle hlive hdue => ?_, fun hidle hstage hdue => ?_, fun t ht hstage hdue => ?_,
    fun htakes => ⟨fun n hstate hclaim henrol hidle hfree => ?_, fun hstate => ?_, fun n hat hnames => ?_,
      fun n hat hnames hclaim => ?_⟩, fun n => freeNumber_spec⟩
  · show execEnumerateHop p h s = _
    simp only [execEnumerateHop, Nat.mod_eq_of_lt hp, Nat.mod_eq_of_lt hh]
    rw [if_neg (by simpa [hidle] using hstage)]
  · show execSetTimeTimer s = _
    simp only [execSetTimeTimer, hidle, hlive, List.foldl_nil]
    rw [if_neg (by simpa [-BitVec.toNat_sub] using hdue)]
  · show execInitStatusPoll p h s = _
    simp only [execInitStatusPoll, Nat.mod_eq_of_lt hp, Nat.mod_eq_of_lt hh]
    rw [if_neg (by simpa [-BitVec.toNat_sub, hidle] using ⟨hstage, hdue⟩)]
  · show execSledInitTimeout p h s = _
    simp only [execSledInitTimeout, Nat.mod_eq_of_lt hp, Nat.mod_eq_of_lt hh]
    rw [show (s.hop p h).initSince = some t from ht]
    exact congrArg _ (if_pos ⟨hstage, hdue⟩)
  · rw [exec_enrol hp hh htakes, State.enrolHop, if_neg (by simpa [hstate, hclaim, hidle] using henrol), hfree]
  · rw [exec_enrol hp hh htakes, State.enrolHop, if_pos (.inl hstate)]
  · rw [exec_disenrol hp hh htakes, State.disenrolHop, hat]
    simp [hnames]
  · rw [exec_disenrol hp hh htakes]
    exact ⟨_, rfl, f_disenrolHop hp hh hat hnames hclaim⟩

/-! ### Bays (R376 to R379) -/

/-- A bay that is powered shows PWR and trains (R377). -/
theorem powerBay_shows {p h : Nat} (s : State) : (s.powerBay p h).flag (F.BP_HOP_STAT_PWR p h) = true ∧
    (s.powerBay p h).f (F.BP_HOP_STAT_STATE p h) = 2 ∧ ((s.powerBay p h).hop p h).poweredAt = some s.tbase := by
  have hlink (t : State) (x : Field) (hx : x.off = R.BP_HOP_STAT p h) :
      (if h = 0 then t.setF (F.BP_LINK_STATE p) 1 else t).f x = t.f x := by
    rw [f_ite, f_setF_off _ _ _ _ (by rw [hx]; simp only [F.BP_LINK_STATE, R.BP_HOP_STAT, R.BP_LINK]; omega), ite_self]
  refine ⟨?_, ?_, ?_⟩
  · rw [State.flag, State.powerBay]
    dsimp only
    rw [hlink _ _ rfl, f_setF_of_apart (x := F.BP_HOP_STAT_STATE p h) (y := F.BP_HOP_STAT_PWR p h)
      (by simp [F.BP_HOP_STAT_PWR, F.BP_HOP_STAT_STATE]), ← State.flag, flag_setFlag_same rfl (by simp [F.BP_HOP_STAT_PWR])]
  · rw [State.powerBay]
    dsimp only
    rw [hlink _ _ rfl, f_setF_same _ _ _ (by simp [F.BP_HOP_STAT_STATE])]
    rfl
  · simp only [State.powerBay, State.hop, apply_ite State.bobbin, setF_bobbin, setFlag_bobbin, ite_self]
    rw [State.setHop, Tbl.get_set, if_pos rfl]

theorem bayRules : Claims.BayRules := by
  refine ⟨fun s inputs hruns hdue => ?_, fun s hpower hqueued hroom => ?_, fun s p h _ _ => powerBay_shows s,
    fun s p h t hp hh ht hstage hident hdue => ?_, fun s p h t hp hh ht hpower hdue hpresent hoff hen hroom => ?_,
    fun s p h size value hp hh htakes hwas s1 hs1 hnow => ?_⟩
  · show execBayPoll inputs s = _
    rw [execBayPoll, if_neg (by simpa [-BitVec.toNat_sub, hruns] using hdue)]
  · show execBayPowerOn 0 0 s = _
    simp [execBayPowerOn, hpower, hqueued, hroom]
  · have hexec : exec (.sledTrainTimeout p h) s = .next (if (s.hop p h).retried then (s.powerOff p h 7).logOpen clsNotice 6 p h
        else (s.powerOff p h 7).setHop p h { (s.powerOff p h 7).hop p h with offSince := some s.tbase }) := by
      show execSledTrainTimeout p h s = _
      simp only [execSledTrainTimeout, Nat.mod_eq_of_lt hp, Nat.mod_eq_of_lt hh, ht]
      rw [if_pos ⟨hstage, hident, hdue⟩]
    exact ⟨fun h => by rw [hexec, if_pos h], fun h => by rw [hexec, h, if_neg Bool.false_ne_true]⟩
  · show execSledPowerRetry p h s = _
    simp only [execSledPowerRetry, Nat.mod_eq_of_lt hp, Nat.mod_eq_of_lt hh, ht]
    rw [if_pos (by simpa [-BitVec.toNat_sub, hpower, hpresent, hoff, hen, hroom] using hdue)]
  · have hexec : exec (.pwroff p h size value) s = .next (
        let keep := match s.sledAt p h with | some n => s.doNotRemove n | none => false
        if keep then (s1.setFlag (F.BP_HOP_CTL_PWROFF p h) false).hopRefuse p h value.toNat
        else if s1.flag (F.BP_HOP_STAT_PRESENT p h) then s1.powerOff p h 7 else s1) := by
      show execPwroff p h size value s = _
      rw [execPwroff, Nat.mod_eq_of_lt hp, Nat.mod_eq_of_lt hh, State.writeHopCtl, gate_of_takesWrite htakes, ← hs1]
      simp only [hwas, hnow, Bool.not_false, Bool.and_self, if_true] <;> rfl
    exact ⟨fun n hat hkeep => by rw [hexec]; simp [hat, hkeep], fun hat hpresent => by rw [hexec]; simp [hat, hpresent]⟩

/-- Settles O42: each command acts where its conditions hold, and what DISENROL does to the arrays leaves the hop's registers. -/
theorem sledsAndBays : Obligations.SledsAndBays := ⟨sledEnrolment, bayRules⟩

end Sys2Proof.Machine

/-! ## The pair: mirroring, sync and the lease (R187, R385, R389, R391 to R393, R398; O36, O37) -/

namespace Sys2Proof.Machine

/-! ### PAIR_STAT and its event -/

/-- PAIR_STAT is written as asked; where it changed the event flag follows (R383). -/
@[simp] theorem pairStat_core (s : State) (g : State → State) : (s.pairStat g).core = (g s).core := by
  simp only [State.pairStat, core_ite, raiseEvent_core, setFlag_core, ite_self]

/-- A field apart from the event flag is as it was written. -/
theorem f_pairStat {x : Field} (hevt : x.off ≠ R.DEV_EVT)
    (h : x.off ≠ F.PAIR_STAT_EVT.off ∨ x.lo + x.width ≤ F.PAIR_STAT_EVT.lo ∨ F.PAIR_STAT_EVT.lo + F.PAIR_STAT_EVT.width ≤ x.lo)
    (s : State) (g : State → State) : (s.pairStat g).f x = (g s).f x := by
  simp only [State.pairStat, f_ite, f_raiseEvent hevt, f_setFlag_of_apart h, ite_self]

/-- As f_pairStat, for a one-bit field. -/
theorem flag_pairStat {x : Field} (hevt : x.off ≠ R.DEV_EVT)
    (h : x.off ≠ F.PAIR_STAT_EVT.off ∨ x.lo + x.width ≤ F.PAIR_STAT_EVT.lo ∨ F.PAIR_STAT_EVT.lo + F.PAIR_STAT_EVT.width ≤ x.lo)
    (s : State) (g : State → State) : (s.pairStat g).flag x = (g s).flag x := by
  rw [State.flag, f_pairStat hevt h, State.flag]

/-- The pair's data are not in PAIR_STAT. -/
theorem pair_pairStat (s : State) (g : State → State) : (s.pairStat g).pair = (g s).pair := pair_of_core (pairStat_core s g)

/-- Nor is the hoop. -/
theorem hoop_pairStat (s : State) (g : State → State) : (s.pairStat g).hoop = (g s).hoop := hoop_of_core (pairStat_core s g)

/-- A message from the witness leaves the pair number to its content. -/
theorem witnessFound_core (s : State) : s.witnessFound.core = s.core := by
  unfold State.witnessFound
  split
  · rfl
  · dsimp only
    rw [bumpFree_core, setF_core, setF_core]

/-- The link frame of a message from the peer. -/
theorem pairFrame_hoop (s : State) : s.pairFrame.hoop = s.hoop := rfl

/-! ### Mirroring (R187, R385) -/

theorem mirrorProtocol : Claims.MirrorProtocol := by
  refine ⟨fun s seq i hopen => ?_, fun s seq hruns hlive hlo hhi => ?_, fun s i hlive => ?_⟩
  · have hexec : exec (.mirror seq i) s = .next (
        if seq ≠ s.pair.rxSeq + 1 then s.pairFrame
        else if s.mirrorGood i then
          ({ (s.pairFrame.applyMirror i) with
            pair := { (s.pairFrame.applyMirror i).pair with rxSeq := seq, resends := 0 } } : State).send (.confirm seq)
        else if s.pair.resends < 3 then
          ((({ s.pairFrame with pair := { s.pairFrame.pair with resends := s.pairFrame.pair.resends + 1 } } : State).satF
            F.PAIR_LINK_RESENDS).send (.resend seq))
        else s.pairFrame.pairStat (fun s => (s.setFlag F.PAIR_STAT_PEER_UP false).setF F.PAIR_LINK_UP 0)) := by
      show execMirror seq i s = _
      rw [execMirror, hopen, Bool.not_true, if_neg Bool.false_ne_true]
    rw [hexec]
    refine ⟨fun hseq hgood => ?_, fun hseq hbad hfew => ?_, fun hseq hbad hmany => ?_, fun hseq => ?_⟩
    · rw [if_neg (not_not_intro hseq), if_pos hgood]
      exact ⟨_, rfl, rfl, rfl, List.getLast?_concat⟩
    · rw [if_neg (not_not_intro hseq), hbad, if_neg Bool.false_ne_true, if_pos hfew]
      exact ⟨_, rfl, rfl, rfl, rfl, rfl⟩
    · rw [if_neg (not_not_intro hseq), hbad, if_neg Bool.false_ne_true, if_neg (Nat.not_lt.mpr hmany)]
      refine ⟨_, rfl, ?_, ?_, ?_⟩
      · rw [pair_pairStat]
        rfl
      · rw [hoop_pairStat]
        rfl
      · rw [flag_pairStat (by decide) (by decide), flag_setF_of_apart (by decide), flag_setFlag_same rfl (by decide)]
    · rw [if_pos hseq]
  · show execConfirm seq s = _
    simp [execConfirm, hruns, hlive, hlo, hhi]
  · rw [State.mirror, if_pos hlive]
    exact ⟨rfl, rfl⟩

/-! ### Sync (R389, R398) -/

/-- IN_SYNC_ACK's effect on the registers (R398). -/
theorem inSyncNow_shows (s : State) : s.inSyncNow.flag F.PAIR_STAT_INSYNC = true ∧ s.inSyncNow.flag F.PAIR_STAT_STALE = false ∧
    s.inSyncNow.flag F.PAIR_STAT_PEER_LOST = false ∧ s.inSyncNow.f F.PAIR_SYNC_PHASE = 4 := by
  rw [State.inSyncNow]
  refine ⟨?_, ?_, ?_, ?_⟩
  · rw [flag_pairStat (by decide) (by decide), flag_setFlag_of_apart (by decide), flag_setFlag_of_apart (by decide),
      flag_setFlag_same rfl (by decide)]
  · rw [flag_pairStat (by decide) (by decide), flag_setFlag_of_apart (by decide), flag_setFlag_same rfl (by decide)]
  · rw [flag_pairStat (by decide) (by decide), flag_setFlag_same rfl (by decide)]
  · rw [f_pairStat (by decide) (by decide), f_setFlag_of_apart (by decide), f_setFlag_of_apart (by decide),
      f_setFlag_of_apart (by decide), f_setF_of_apart (by decide), f_setF_same _ _ _ (by decide)]
    rfl

section
variable {s : State} {phase : Nat} (pm : Nat) (hopen : s.mirrorOpen = true) (hsync : s.flag F.PAIR_STAT_INSYNC = false)
  (hlo : 1 ≤ phase) (hhi : phase ≤ 3)
include hopen hsync hlo hhi

/-- A word of a phase without data (R398). -/
theorem exec_sync_nil : exec (.sync phase pm []) s = .next (
    let s0 := if s.f F.PAIR_SYNC_PHASE = phase then s.pairFrame else s.pairFrame.clearPhase phase
    let s1 : State := if phase = 3 then { s0 with power := { s0.power with mapLoaded := true, loading := none } } else s0
    ((s1.setF F.PAIR_SYNC_PHASE phase).setF F.PAIR_SYNC_PERMILLE (min 1000 pm)).setF F.CLOG_STAT_SRC 2) := by
  rw [show exec (.sync phase pm []) s = execSync phase pm [] s from rfl, execSync]
  dsimp only [List.foldl_nil]
  rw [if_pos (by simp [hopen, hsync, hlo, hhi])]

/-- What a phase replaces is empty when its first word has come (R398; log entry 80). -/
theorem exec_sync_first (hphase : s.f F.PAIR_SYNC_PHASE ≠ phase) : ∃ t : State, exec (.sync phase pm []) s = .next t ∧
    t.f F.PAIR_SYNC_PHASE = phase ∧ (phase = 1 → t.prk.slots = [] ∧ t.arrays = [] ∧ t.bands = []) ∧ (phase = 2 → t.map = []) ∧
    (phase = 3 → t.hoop.versions = [] ∧ t.pair.staged = [] ∧ t.power.mapLoaded = true) := by
  rw [exec_sync_nil pm hopen hsync hlo hhi]
  simp only [if_neg hphase]
  refine ⟨_, rfl, ?_, ?_, ?_, ?_⟩
  · rw [f_setF_of_apart (by decide), f_setF_of_apart (by decide), f_setF_same _ _ _ (by decide)]
    exact Nat.mod_eq_of_lt (show phase < 2 ^ 3 by omega)
  · rintro rfl
    exact ⟨rfl, rfl, rfl⟩
  · rintro rfl
    rfl
  · rintro rfl
    exact ⟨rfl, rfl, rfl⟩

end

/-- HELLO_ACK without the claim makes a unit the standby of its pair (R389). -/
theorem exec_helloAck_standby {s : State} (n : Nat) (hpaired : s.paired = true) (hoff : s.linkOff = false)
    (hrole : s.role = 2 ∨ s.role = 5) : ∃ t : State, exec (.helloAck n false) s = .next t ∧ t.role = 2 ∧ t.pair.pairNo = n % 4 := by
  rw [show exec (.helloAck n false) s = execHelloAck n false s from rfl, execHelloAck]
  simp only [hpaired, hoff, Bool.not_true, Bool.or_self, Bool.false_eq_true, if_false, if_pos hrole]
  refine ⟨_, rfl, ?_, ?_⟩
  · rw [State.role, f_pairStat (by decide) (by decide), f_setF_same _ _ _ (by decide)]
    rfl
  · rw [pair_pairStat, setF_pair, pair_of_core (witnessFound_core _)]

theorem syncProtocol : Claims.SyncProtocol := by
  refine ⟨fun s phase pm hopen hsync hlo hhi => ⟨fun hphase h3 => ?_, exec_sync_first pm hopen hsync hlo hhi⟩,
    fun s pm hopen hphase => ?_, inSyncNow_shows, fun s hruns hrole hlive hsync => ?_,
    fun s hpaired hoff => ⟨fun hrole => ?_, fun hrole hlive => ?_⟩,
    fun s n hpaired hoff hrole => exec_helloAck_standby n hpaired hoff hrole⟩
  · rw [exec_sync_nil pm hopen hsync hlo hhi]
    simp only [if_pos hphase, if_neg h3]
  · rw [show exec (.sync 4 pm []) s = execSync 4 pm [] s from rfl, execSync]
    rw [if_neg (by simp), if_pos (by simp [hopen, hphase])]
  · show execSyncComplete s = _
    simp [execSyncComplete, hruns, hrole, hlive, hsync]
  · show execInSyncAck s = _
    simp [execInSyncAck, hpaired, hoff, hrole]
  · show execInSyncAck s = _
    simp [execInSyncAck, hpaired, hoff, hrole, hlive]

/-- Settles O36: each message acts as its branch says, and PAIR_STAT's event leaves the fields beside it. -/
theorem mirrorAndSync : Obligations.MirrorAndSync := ⟨mirrorProtocol, syncProtocol⟩

/-! ### The lease (R391 to R393) -/

/-- The renewal of the lease, with the witness and with the peer (R391). -/
theorem exec_leaseRenewTimer {s : State} (hruns : s.linkRuns = true) (hmode : s.mode.cur ≠ .halted) (hrole : s.role = 1 ∨ s.role = 3)
    (hdue : ∀ e, s.pair.reqSent.head? = some e → 500000 ≤ (s.tbase - e.2).toNat) :
    ∃ t : State, exec .leaseRenewTimer s = .next t ∧ t.pair.renewSent = some s.tbase ∧
      t.pair.reqSent.head? = some (t.pair.msgSeq, s.tbase) ∧ t.out.getLast? = some (.renew false) := by
  have hrole' : (s.role == 1 || s.role == 3) = true := by simpa using hrole
  rw [show exec .leaseRenewTimer s = execLeaseRenewTimer s from rfl, execLeaseRenewTimer]
  cases hhead : s.pair.reqSent.head? with
  | none =>
    simp only [hruns, hrole', hmode, Bool.and_self, decide_not, decide_false, Bool.not_false, if_true]
    exact ⟨_, rfl, rfl, rfl, List.getLast?_concat⟩
  | some e =>
    have hsent := hdue e hhead
    simp only [hruns, hrole', hmode, hsent, Bool.and_self, decide_not, decide_false, decide_true, Bool.not_false, if_true]
    exact ⟨_, rfl, rfl, rfl, List.getLast?_concat⟩

/-- Settles O37: each clause is the branch of its command whose conditions are given. -/
theorem leaseRules : Obligations.LeaseRules := by
  refine ⟨fun s hruns hmode hrole hdue => ?_, fun s seq u hpaired hoff hrole hfind hlater => ?_, fun s u hruns hrole hsent => ?_,
    fun s hruns hrole hriding => ?_, fun s u hrole hlost hlease hdue => ?_, fun s claim hpaired hoff hrole hlost => ?_,
    fun s u hlost hdue hmode hoff => ?_, fun s hruns hrole hriding hdue => ?_⟩
  · exact exec_leaseRenewTimer hruns hmode hrole hdue
  · have hkeep : s.pair.lease.any (fun l => decide ((s.tbase - l).toNat < (s.tbase - u).toNat)) = false := by
      cases hl : s.pair.lease with
      | none => rfl
      | some l => exact decide_eq_false (Nat.not_lt.mpr (hlater l hl))
    rw [show exec (.leaseAck seq) s = execLeaseAck seq s from rfl, execLeaseAck]
    simp only [hpaired, hoff, hfind, if_pos hrole, hkeep, Bool.not_true, Bool.or_self, Bool.false_eq_true, if_false]
    refine ⟨_, rfl, ?_⟩
    rw [pair_pairStat]
    rfl
  · rw [show exec (.renew true) s = execRenew true s from rfl, execRenew]
    simp only [hruns, hrole, hsent, Bool.not_true, Bool.false_eq_true, if_false, if_true]
    refine ⟨_, rfl, ?_⟩
    rw [pair_pairStat]
    exact ⟨rfl, rfl⟩
  · show execRenew false s = _
    simp [execRenew, hruns, hrole, hriding]
  · show execLeaseExpiry s = _
    simp [-BitVec.toNat_sub, execLeaseExpiry, hrole, hlost, hlease, hdue]
  · show execLeaseDeny claim s = _
    rcases hrole with hrole | hrole <;> simp [execLeaseDeny, hpaired, hoff, hrole, hlost]
  · show execPostWindowExpiry s = _
    simp [-BitVec.toNat_sub, execPostWindowExpiry, hlost, hmode, hoff, Nat.not_lt.mpr hdue]
  · have hrole' : (s.role == 2) = true := by simp [hrole]
    rw [show exec .rideThroughStart s = execRideThroughStart s from rfl, execRideThroughStart]
    simp only [hruns, hrole', hriding, hdue, Bool.not_false, Bool.and_self, decide_true, if_true]
    refine ⟨_, rfl, ?_, ?_⟩
    · rw [pair_pairStat]
      rfl
    · rw [flag_pairStat (by decide) (by decide), flag_setFlag_same rfl (by decide)]

end Sys2Proof.Machine

/-! ## Handover, self-tests and the witness (R388 to R392, R396, R398 to R401; O39) -/

namespace Sys2Proof.Machine

/-! ### Handover, reports and self-tests (R399 to R401) -/

/-- A set bit of a number that was put in, or one of the number beside it. -/
theorem bit_putBit (v i k : Nat) (b : Bool) : bit (putBit v i b) k = if k = i then b else bit v k := by
  split
  next h => rw [h, bit_putBit_same]
  next h =>
    rw [bit_eq_testBit, putBit, testBit_putBits, if_neg (by omega), ← bit_eq_testBit]

/-- A number with a set bit is not 0. -/
theorem ne_zero_of_bit {v i : Nat} (h : bit v i = true) : v ≠ 0 := by
  rintro rfl
  simp [bit] at h

/-- Every standing failure has failed its rerun. -/
theorem bitsClear_eq_false {v w : Nat} (h : ∀ k, k < 5 → bit v k = true → bit w k = true) : bitsClear v w = false := by
  rw [bitsClear, List.any_eq_false]
  intro k hk
  have hrerun := h k (List.mem_range.mp hk)
  grind

/-- A unit whose standing failures all failed their rerun reports FAULTED (R400). -/
theorem pairReport_faulted {s : State} (hmode : s.mode.cur ≠ .maintenance) {test : Nat} (htest : bit s.pair.standing test = true)
    (hall : ∀ k, k < 5 → bit s.pair.standing k = true → bit s.pair.rerunFailed k = true) : s.pairReport.state = 3 := by
  simp [State.pairReport, hmode, bitsClear_eq_false hall, ne_zero_of_bit htest]

theorem handoverAndTests : Claims.HandoverAndTests := by
  refine ⟨fun s hruns hrole hen hbusy hlost hpeer hsync hmode => ?_, fun s u hhand hruns hmode hdue => ?_,
    fun s hruns hmode hdue hrole hup => ?_, fun s test hruns hrole htest => ⟨?_, fun hbit => ⟨?_, ?_⟩⟩⟩
  · rw [show exec .failbackRequest s = execFailbackRequest s from rfl, execFailbackRequest,
      if_pos (by simp [hruns, hrole, hen, hbusy, hlost, hpeer, hsync, hmode])]
    exact ⟨_, rfl, rfl, rfl, rfl, rfl, rfl⟩
  · rw [show exec .handoverDrainTimeout s = execHandoverDrainTimeout s from rfl, execHandoverDrainTimeout, hhand]
    simp [-BitVec.toNat_sub, hruns, hmode, hdue]
  · rw [show exec .healthReportTimer s = execHealthReportTimer s from rfl, execHealthReportTimer,
      if_neg (by simpa [-BitVec.toNat_sub, hruns, hmode] using hdue)]
    simp only [hrole, hup, if_true]
    rfl
  · rw [show exec (.standbySelfTest test false) s = execStandbySelfTest test false s from rfl, execStandbySelfTest,
      if_neg (by simp [hruns, hrole, htest])]
    exact ⟨_, rfl, bit_putBit_same .., rfl⟩
  · rw [show exec (.selfTestRerun test true) s = execSelfTestRerun test true s from rfl, execSelfTestRerun,
      if_neg (by simp [hruns, hrole, htest, hbit]), if_pos rfl]
    exact ⟨_, rfl, bit_putBit_same ..⟩
  · rw [show exec (.selfTestRerun test false) s = execSelfTestRerun test false s from rfl, execSelfTestRerun,
      if_neg (by simp [hruns, hrole, htest, hbit]), if_neg Bool.false_ne_true]
    refine ⟨_, rfl, bit_putBit_same .., fun hall hmode => pairReport_faulted hmode hbit fun k hk hstands => ?_⟩
    rw [bit_putBit]
    split
    · rfl
    next hne => exact hall k hk hne hstands

/-! ### The witness's registers of a pair (R388) -/

section
variable (s : State) (q : Nat)

theorem claim_setStale (u : Nat) (b : Bool) : (s.setStale q u b).f (F.WIT_PAIR_CLAIM q) = s.f (F.WIT_PAIR_CLAIM q) := by
  unfold State.setStale
  split
  · exact f_setFlag_of_apart (.inr (.inl (show 0 + 32 ≤ 34 by decide))) s b
  · exact f_setFlag_of_apart (.inr (.inl (show 0 + 32 ≤ 35 by decide))) s b

theorem holder_setStale (u : Nat) (b : Bool) : (s.setStale q u b).f (F.WIT_PAIR_HOLDER q) = s.f (F.WIT_PAIR_HOLDER q) := by
  unfold State.setStale
  split
  · exact f_setFlag_of_apart (.inr (.inl (show 32 + 2 ≤ 34 by decide))) s b
  · exact f_setFlag_of_apart (.inr (.inl (show 32 + 2 ≤ 35 by decide))) s b

theorem witStale_setStale (u : Nat) (b : Bool) : (s.setStale q u b).witStale q u = b := by
  unfold State.setStale State.witStale
  split
  · exact flag_setFlag_same rfl (show 34 + 1 ≤ 64 by decide) s b
  · exact flag_setFlag_same rfl (show 35 + 1 ≤ 64 by decide) s b

theorem pair_setStale (u : Nat) (b : Bool) : (s.setStale q u b).pair = s.pair := by
  unfold State.setStale
  split <;> rfl

theorem wpair_setWpair (x : WitPair) : (s.setWpair q x).wpair q = x := by
  rw [State.wpair, State.setWpair, Tbl.get_set, if_pos rfl]

/-- A pair with a holder has none to grant to (R390). -/
theorem grantFree_of_holder {s : State} {q : Nat} (h : s.f (F.WIT_PAIR_HOLDER q) ≠ 2) : s.grantFree q = s := by
  rw [State.grantFree]
  exact if_pos h

/-- A grant makes its unit the holder, the other STALE, and waits for the acknowledgment (R390, R392). -/
theorem grant_shows {u : Nat} (hu : u < 2) : (s.grant q u).f (F.WIT_PAIR_HOLDER q) = u ∧ (s.grant q u).witStale q (1 - u) = true ∧
    ((s.grant q u).wpair q).granting = some (u, s.tbase) := by
  have hreg (t : State) (x : WitPair) (c : Nat) (k : Nat) : ((t.setWpair q x).answer q u 5 c 0 []).reg k = t.reg k := rfl
  refine ⟨?_, ?_, ?_⟩
  · rw [State.grant, State.f, hreg, ← State.f, holder_setStale, f_setF_same _ _ _ (show 32 + 2 ≤ 64 by decide)]
    exact Nat.mod_eq_of_lt (show u < 2 ^ 2 by omega)
  · rw [State.grant, State.witStale]
    simp only [State.flag, State.f, hreg]
    exact witStale_setStale _ q (1 - u) true
  · exact congrArg WitPair.granting (wpair_setWpair _ q _)

end

/-! ### Messages to the witness -/

section
variable {s : State} {m : WitMsg} (hwit : s.witnessing = true) (hpair : m.pair < 4) (hused : s.pairUsed m.pair = true) (hunit : m.unit < 2)
include hwit hpair hused hunit

/-- A message of a unit of a known pair is about that pair (R388). -/
theorem onPair_eq (g : Nat → State) : s.onPair m g = g m.pair := by
  have hof : s.pairOf m = some m.pair := by simp [State.pairOf, hpair, hused, hunit]
  rw [State.onPair, hwit, hof]
  rfl

end

/-- An answered HELLO of a pair with a holder leaves the entry and the claim. -/
theorem helloAnswer_keeps {s : State} {q u : Nat} (hholder : s.f (F.WIT_PAIR_HOLDER q) < 2) (stale : Bool) (x : WitPair) (c seq : Nat)
    (body : List Byte) :
    let t := (((if stale then (s.setWpair q x).setStale q u true else s.setWpair q x).answer q u 2 c seq body).grantFree q)
    t.wpair q = x ∧ t.f (F.WIT_PAIR_CLAIM q) = s.f (F.WIT_PAIR_CLAIM q) := by
  intro t
  have hset (x : WitPair) : (s.setWpair q x).f (F.WIT_PAIR_HOLDER q) = s.f (F.WIT_PAIR_HOLDER q) := rfl
  have ht : t = (if stale then (s.setWpair q x).setStale q u true else s.setWpair q x).answer q u 2 c seq body := by
    refine grantFree_of_holder (show (if stale then (s.setWpair q x).setStale q u true else s.setWpair q x).f
      (F.WIT_PAIR_HOLDER q) ≠ 2 from ?_)
    rw [f_ite, holder_setStale, ite_self, hset]
    omega
  rw [ht]
  refine ⟨?_, ?_⟩
  · show (if stale then (s.setWpair q x).setStale q u true else s.setWpair q x).wpair q = x
    rw [State.wpair, apply_ite State.pair, pair_setStale, ite_self, ← State.wpair, wpair_setWpair]
  · show (if stale then (s.setWpair q x).setStale q u true else s.setWpair q x).f (F.WIT_PAIR_CLAIM q) = _
    rw [f_ite, claim_setStale, ite_self]
    rfl

/-- A HELLO of a unit of a known pair that has a holder (R389). -/
theorem exec_hello_known {s : State} {m : WitMsg} {q : Nat} (hwit : s.witnessing = true) (hunit : m.unit < 2)
    (hfind : (List.range 4).find? (fun q => s.pairUsed q && (s.wpair q).id == (leNat (m.body.take 8), leNat ((m.body.drop 8).take 8))) =
      some q) (hholder : s.f (F.WIT_PAIR_HOLDER q) < 2) (hclaim : claimAbove m.claim (s.f (F.WIT_PAIR_CLAIM q)) = false) :
    ∃ t : State, exec (.hello m) s = .next t ∧ (t.wpair q).hello m.unit = true ∧
      t.f (F.WIT_PAIR_CLAIM q) = s.f (F.WIT_PAIR_CLAIM q) := by
  have hused : s.pairUsed q = true := by
    have h := List.find?_some hfind
    simp only [Bool.and_eq_true] at h
    exact h.1
  rw [show exec (.hello m) s = execHello m s from rfl, execHello, if_neg (by simp [hwit, hunit])]
  dsimp only
  rw [hfind]
  have hset (x : WitPair) : (s.setWpair q x).f (F.WIT_PAIR_CLAIM q) = s.f (F.WIT_PAIR_CLAIM q) := rfl
  simp only [Option.some_or, hused, Bool.not_true, Bool.false_eq_true, if_false, hset, hclaim]
  refine ⟨_, rfl, ?_, (helloAnswer_keeps hholder ..).2⟩
  rw [(helloAnswer_keeps hholder ..).1, WitPair.hello]
  by_cases hu : m.unit = 0
  · simp only [hu, if_true, apply_ite WitPair.hello0, ite_self]
  · simp only [hu, if_false, apply_ite WitPair.hello1, ite_self]

theorem witnessRules : Claims.WitnessRules := by
  refine ⟨fun s m hwit hpair hused hunit => ?_, fun s m q hwit hunit hq hfind hholder hclaim =>
    exec_hello_known hwit hunit hfind hholder hclaim, fun s q t hwit hq hlease hgrant hholder hdue u s1 hu hs1 => ?_,
    fun s q u hq hu => grant_shows s q hu, fun s q u t hwit hq hgrant hdue hfresh => ?_, fun s hoff => ?_⟩
  · have hon (g : Nat → State) : s.onPair m g = g m.pair := onPair_eq hwit hpair hused hunit g
    refine ⟨fun hholder hstale hlapsed => ?_, fun hholder => ?_, fun hholder => ?_, fun hholder => ?_, fun hholder hel => ?_,
      fun hholder hel => ?_, fun hholder hu => ?_, fun u t hgrant hu hclaim => ?_⟩
    · show execLeaseReq m s = _
      rw [execLeaseReq, hon]
      simp [hholder, hstale, hlapsed]
    · show execLeaseReq m s = _
      rw [execLeaseReq, hon]
      simp [hholder]
    · show execPeerLost m s = _
      rw [execPeerLost, hon, if_pos hholder]
    · show execInSync m s = _
      rw [execInSync, hon, if_pos hholder]
    · show execHandover m s = _
      rw [execHandover, hon, if_pos hholder, if_pos hel]
    · show execHandover m s = _
      rw [execHandover, hon, if_pos hholder, hel, if_neg Bool.false_ne_true]
    · show execHealth m s = _
      rw [execHealth, hon]
      dsimp only
      rw [if_pos hu]
      exact congrArg _ (grantFree_of_holder hholder)
    · show execGrantAck m s = _
      rw [execGrantAck, hon, hgrant]
      exact congrArg _ (if_pos ⟨hu, hclaim⟩)
  · show execWitnessLeaseLapse q s = _
    rw [execWitnessLeaseLapse, hlease]
    dsimp only
    rw [if_pos (by simp [-BitVec.toNat_sub, hwit, hq, hholder, hdue, hgrant]), ← hu, ← hs1]
  · show execGrantRepeat q s = _
    rw [execGrantRepeat, hgrant]
    simp [-BitVec.toNat_sub, hwit, hq, hdue, hfresh]
  · show execBadWitnessMessage s = _
    rw [execBadWitnessMessage, hoff, if_neg Bool.false_ne_true]

/-- Settles O39: each message is about the pair it names, and each clause is a branch of its command. -/
theorem handoverAndWitness : Obligations.HandoverAndWitness := ⟨handoverAndTests, witnessRules⟩

end Sys2Proof.Machine

/-! ## The federation (R405, R407 to R411; O47) -/

namespace Sys2Proof.Machine

/-! ### Tables by key -/

/-- A key that stands nowhere is not found. -/
theorem Tbl.find_eq_none {α : Type} {t : Tbl α} {k : Nat} (h : ∀ e ∈ t, e.1 ≠ k) : t.find k = none := by
  rw [Tbl.find, Option.map_eq_none_iff, List.find?_eq_none]
  exact fun e he => by simpa using h e he

/-- What is found stands under its key. -/
theorem Tbl.mem_of_find {α : Type} {t : Tbl α} {k : Nat} {v : α} (h : t.find k = some v) : (k, v) ∈ t := by
  rw [Tbl.find, Option.map_eq_some_iff] at h
  obtain ⟨⟨j, w⟩, hfind, rfl⟩ := h
  have hkey := List.find?_some hfind
  rw [beq_iff_eq] at hkey
  exact hkey ▸ List.mem_of_find?_eq_some hfind

/-- An erased key is not found. -/
theorem Tbl.find_erase_same {α : Type} (t : Tbl α) (k : Nat) : (t.erase k).find k = none :=
  Tbl.find_eq_none fun e he => by simpa [Tbl.erase] using (List.mem_filter.mp he).2

/-- Among entries of which a key's are all kept, the key is found as before. -/
theorem Tbl.find_filter_of_forall {α : Type} {t : Tbl α} {k : Nat} {p : Nat × α → Bool} (h : ∀ e ∈ t, e.1 = k → p e = true) :
    Tbl.find (t.filter p) k = t.find k := by
  rw [Tbl.find, Tbl.find, List.find?_filter]
  congr 1
  induction t with
  | nil => rfl
  | cons e t ih =>
    have htail := ih fun x hx => h x (List.mem_cons_of_mem _ hx)
    rw [List.find?_cons, List.find?_cons, htail]
    by_cases hk : e.1 = k
    · simp [hk, h e List.mem_cons_self hk]
    · have hkey : (e.1 == k) = false := by simpa using hk
      simp [hkey]

/-- An entry that is put in under a new key is found. -/
theorem Tbl.find_put_same {α : Type} {t : Tbl α} {k : Nat} (v : α) (h : ∀ e ∈ t, e.1 ≠ k) :
    Tbl.find (Tbl.put k v t) k = some v := by
  induction t with
  | nil => simp [Tbl.put, Tbl.find]
  | cons e t ih =>
    have htail := ih fun x hx => h x (List.mem_cons_of_mem _ hx)
    have hkey : (e.1 == k) = false := by simpa using h e List.mem_cons_self
    unfold Tbl.put
    split
    · simp [Tbl.find]
    · rw [Tbl.find] at htail ⊢
      rwa [List.find?_cons, hkey]

/-- An inserted entry is found. -/
theorem Tbl.find_insert_same {α : Type} (t : Tbl α) (k : Nat) (v : α) : (t.insert k v).find k = some v :=
  Tbl.find_put_same v fun e he => by simpa [Tbl.erase] using (List.mem_filter.mp he).2

/-- It stands in the table. -/
theorem Tbl.mem_insert_self {α : Type} (t : Tbl α) (k : Nat) (v : α) : (k, v) ∈ t.insert k v :=
  Tbl.mem_of_find (Tbl.find_insert_same t k v)

/-! ### The view of a member (R407) -/

/-- A bit of a union. -/
theorem bit_or (v w i : Nat) : bit (v ||| w) i = (bit v i || bit w i) := by
  simp only [bit_eq_testBit, Nat.testBit_or]

/-- The view that a fold over the peers gathers holds what it began with. -/
theorem bit_foldl_view {l : Tbl FedHello} {v i : Nat} (h : bit v i = true) :
    bit (l.foldl (fun v e => v ||| 2 ^ (e.1 % 8) ||| (e.2.view % 256)) v) i = true := by
  induction l generalizing v with
  | nil => exact h
  | cons e l ih =>
    rw [List.foldl_cons]
    exact ih (by rw [bit_or, bit_or, h]; rfl)

/-- It holds each peer and what each peer saw. -/
theorem bit_foldl_view_of_mem {l : Tbl FedHello} {e : Nat × FedHello} (he : e ∈ l) {i : Nat} (hi : i < 8)
    (h : e.1 % 8 = i ∨ bit e.2.view i = true) (v : Nat) :
    bit (l.foldl (fun v e => v ||| 2 ^ (e.1 % 8) ||| (e.2.view % 256)) v) i = true := by
  induction l generalizing v with
  | nil => exact absurd he List.not_mem_nil
  | cons a l ih =>
    rw [List.foldl_cons]
    rcases List.mem_cons.mp he with rfl | hl
    · refine bit_foldl_view ?_
      rw [bit_or, bit_or]
      rcases h with rfl | h
      · simp [bit_eq_testBit]
      · rw [show (256 : Nat) = 2 ^ 8 from rfl, bit_mod_two_pow hi, h, Bool.or_true]
    · exact ih hl _

/-- HELLO only sends. -/
theorem sayHello_keeps {β : Type} (g : State → β) (h : ∀ s m, g (s.send m) = g s) (s : State) : g s.sayHello = g s :=
  foldl_keeps g _ (fun _ _ => h _ _) _ s

/-- The member's view follows its peers; where it changed or a link did, an election begins anew (R409). -/
theorem syncView_shows (s : State) (relect : Bool) : (s.syncView relect).f F.FED_STAT_VIEW = s.viewNow % 2 ^ 8 ∧
    (∀ x : Field, (x.off ≠ R.FED_STAT ∨ x.lo + x.width ≤ 8 ∨ 16 ≤ x.lo) → (s.syncView relect).f x = s.f x) ∧
    (s.syncView relect).fed = { s.fed with
      seen := s.fed.seen ||| s.viewNow
      stable := if s.viewNow != s.f F.FED_STAT_VIEW || relect then s.tbase else s.fed.stable
      electing := s.fed.electing || (s.viewNow != s.f F.FED_STAT_VIEW || relect) && decide (0 < s.f F.FED_STAT_EPOCH) } ∧
    (s.syncView relect).threads = s.threads := by
  have hsay (c : Bool) (t : State) : (if c then t.sayHello else t).bar0 = t.bar0 ∧ (if c then t.sayHello else t).fed = t.fed ∧
      (if c then t.sayHello else t).threads = t.threads := by
    split
    · exact ⟨sayHello_keeps State.bar0 (fun _ _ => rfl) t, sayHello_keeps State.fed (fun _ _ => rfl) t,
        sayHello_keeps State.threads (fun _ _ => rfl) t⟩
    · exact ⟨rfl, rfl, rfl⟩
  unfold State.syncView
  dsimp only
  refine ⟨?_, fun x hx => ?_, ?_, ?_⟩
  · rw [f_congr _ (hsay _ _).1]
    exact f_setF_same s _ _ (by decide)
  · rw [f_congr _ (hsay _ _).1]
    exact f_setF_of_apart (x := F.FED_STAT_VIEW) hx s _
  · rw [(hsay _ _).2.1]
    rfl
  · rw [(hsay _ _).2.2]
    rfl

/-! ### The parts of a device that is dropped (R411) -/

/-- The waiting instruction of a request to a device (R411). -/
theorem fedWaiter_eq_some {s : State} {dev id th : Nat} {x : AsyncOp} : s.fedWaiter dev id = some (th, x) ↔
    ∃ o, s.fed.waits.find id = some (th, o) ∧ (s.thr th).async? o = some x ∧ x.wait = .remote dev := by
  unfold State.fedWaiter
  cases hfind : s.fed.waits.find id with
  | none => simp
  | some e =>
    obtain ⟨k, o⟩ := e
    simp only [Option.bind_eq_some_iff, Option.some.injEq, Prod.mk.injEq]
    constructor
    · rintro ⟨y, hy, hif⟩
      split at hif
      next hwait =>
        obtain ⟨rfl, rfl⟩ := Prod.mk.inj (Option.some.inj hif)
        exact ⟨o, ⟨rfl, rfl⟩, hy, hwait⟩
      next => exact absurd hif (by simp)
    · rintro ⟨_, ⟨rfl, rfl⟩, hy, hwait⟩
      exact ⟨x, hy, if_pos hwait⟩

/-- The waiting instructions for a device of a list of requests ended as those of an absent device. -/
def State.endParts (s : State) (dev : Nat) (l : Tbl (Nat × Nat)) : State :=
  l.foldl (fun (s : State) e =>
    match s.fedWaiter dev e.1 with
    | some (th, o) => s.asyncDone th o.id 0x0504
    | none => s) s

/-- Ending parts writes threads. -/
theorem endParts_keeps {β : Type} (g : State → β) (hthr : ∀ s th t, g (s.setThr th t) = g s) (s : State) (dev : Nat)
    (l : Tbl (Nat × Nat)) : g (s.endParts dev l) = g s := by
  refine foldl_keeps g _ (fun t e => ?_) l s
  split
  · exact hthr _ _ _
  · rfl

/-- Dropping a device changes the threads and the federation's own data. -/
theorem dropDevice_keeps {β : Type} (g : State → β) (hthr : ∀ s th t, g (s.setThr th t) = g s) (hfed : ∀ s x, g (s.setFed x) = g s)
    (s : State) (dev : Nat) : g (s.dropDevice dev) = g s :=
  (hfed _ _).trans (endParts_keeps g hthr s dev _)

/-- An instruction is found after another, or itself, was completed. -/
theorem async?_mapAsync_done (t : Thread) (id k outcome : Nat) :
    (t.mapAsync id (fun o => { o with wait := .done, outcome })).async? k =
      (t.async? k).map (fun x => if x.id == id then { x with wait := .done, outcome } else x) := by
  have hsame : ((fun x : AsyncOp => x.id == k) ∘ fun x => if x.id == id then { x with wait := .done, outcome } else x) =
      fun x => x.id == k := by
    funext o
    dsimp only [Function.comp]
    split <;> rfl
  rw [Thread.async?, Thread.mapAsync, List.find?_map, hsame, Thread.async?]

/-- Only instructions that waited before wait for a device after some were completed. -/
def WaitsWithin (s t : State) (dev : Nat) : Prop :=
  ∀ th o x, (t.thr th).async? o = some x → x.wait = .remote dev → (s.thr th).async? o = some x

/-- Completing an instruction adds none that waits. -/
theorem WaitsWithin.asyncDone {s t : State} {dev : Nat} (h : WaitsWithin s t dev) (th id outcome : Nat) :
    WaitsWithin s (t.asyncDone th id outcome) dev := by
  intro k o x hx hwait
  rw [State.asyncDone, thr_setThr] at hx
  split at hx
  next hk =>
    rw [async?_mapAsync_done, Option.map_eq_some_iff] at hx
    obtain ⟨y, hy, rfl⟩ := hx
    split at hwait
    next => exact absurd hwait (by simp)
    next hne =>
      rw [if_neg hne]
      exact hk ▸ h th o y hy hwait
  next => exact h k o x hx hwait

/-- Ending parts adds none that waits. -/
theorem WaitsWithin.endParts {s t : State} {dev : Nat} (h : WaitsWithin s t dev) (l : Tbl (Nat × Nat)) :
    WaitsWithin s (t.endParts dev l) dev := by
  induction l generalizing t with
  | nil => exact h
  | cons e l ih =>
    rw [State.endParts, List.foldl_cons]
    refine ih ?_
    split
    · exact h.asyncDone _ _ _
    · exact h

/-- Nothing waits any more for a device that was dropped. -/
theorem fedWaiter_dropDevice (s : State) (dev id : Nat) : (s.dropDevice dev).fedWaiter dev id = none := by
  have hwaits : (s.dropDevice dev).fed.waits = s.fed.waits.filter (fun e => (s.fedWaiter dev e.1).isNone) := by
    show (s.endParts dev s.fed.waits).fed.waits.filter _ = _
    rw [endParts_keeps State.fed (fun _ _ _ => rfl)]
  rw [Option.eq_none_iff_forall_ne_some]
  rintro ⟨th, x⟩ hx
  obtain ⟨o, hfind, hasync, hwait⟩ := fedWaiter_eq_some.mp hx
  rw [hwaits] at hfind
  have hnone : s.fedWaiter dev id = none := by simpa using (List.mem_filter.mp (Tbl.mem_of_find hfind)).2
  rw [Tbl.find_filter_of_forall (fun e _ he => by rw [he, hnone]; rfl)] at hfind
  have hstart : WaitsWithin s s dev := fun _ _ _ h _ => h
  have hbefore := hstart.endParts s.fed.waits th o x hasync hwait
  exact absurd (fedWaiter_eq_some.mpr ⟨o, hfind, hbefore, hwait⟩) (by simp [hnone])

/-! ### The commands of a federation -/

/-- The lowest set bit of a number of eight bits. -/
theorem head_setBits {v : Nat} (hv : v < 2 ^ 8) (h : v ≠ 0) : ∃ c, (setBits v 8).head? = some c ∧ c < 8 ∧ bit v c = true ∧
    ∀ d, d < c → bit v d = false := by
  rw [setBits, List.head?_filter]
  cases hfind : (List.range 8).find? (bit v) with
  | none =>
    refine absurd (Nat.eq_of_testBit_eq fun i => ?_) h
    rw [Nat.zero_testBit, ← bit_eq_testBit]
    by_cases hi : i < 8
    · simpa using List.find?_eq_none.mp hfind i (List.mem_range.mpr hi)
    · rw [bit_eq_testBit]
      exact Nat.testBit_lt_two_pow (lt_of_lt_of_le hv (Nat.pow_le_pow_right (by decide) (by omega)))
  | some c =>
    obtain ⟨hset, hc, hlow⟩ := List.find?_range_eq_some.mp hfind
    exact ⟨c, rfl, List.mem_range.mp hc, hset, fun d hd => by simpa using hlow d hd⟩

/-- Dropping devices keeps what threads and the federation's data are not part of. -/
theorem foldl_dropDevice_keeps {β : Type} (g : State → β) (hthr : ∀ s th t, g (s.setThr th t) = g s)
    (hfed : ∀ s x, g (s.setFed x) = g s) (l : List Nat) (s : State) : g (l.foldl (fun (s : State) d => s.dropDevice d) s) = g s :=
  foldl_keeps g _ (fun t d => dropDevice_keeps g hthr hfed t d) l s

/-- Logging leaves the registers of the federation. -/
theorem f_logOpen {x : Field} (hevt : x.off ≠ R.DEV_EVT) (hlog : x.off ≠ R.ELOG_STAT) (s : State) (cls src unit addr : Nat) :
    (s.logOpen cls src unit addr).f x = s.f x := by
  rw [State.f, State.logOpen, show ((s.logRec cls src unit (s.freshVal.toNat % 65536) addr s.freshDetail).bumpFree).reg x.off =
    (s.logRec cls src unit (s.freshVal.toNat % 65536) addr s.freshDetail).reg x.off from rfl, reg_logRec hevt hlog, State.f]

/-- As f_logOpen, for a one-bit field. -/
theorem flag_logOpen {x : Field} (hevt : x.off ≠ R.DEV_EVT) (hlog : x.off ≠ R.ELOG_STAT) (s : State) (cls src unit addr : Nat) :
    (s.logOpen cls src unit addr).flag x = s.flag x := by
  rw [State.flag, f_logOpen hevt hlog, State.flag]

/-- An open record goes to the log. -/
theorem elogNext_logOpen {s : State} (hmode : s.mode.cur ≠ .dormant) (cls src unit addr : Nat) :
    (s.logOpen cls src unit addr).elog.next = s.elog.next + 1 :=
  congrArg ErrorLog.next (logRec_elog hmode cls src unit _ addr _)

section
variable {s : State} (hmember : s.member = true) (hdup : s.flag F.FED_STAT_DUP = false)
include hmember hdup

/-- A HELLO with this unit's DEVID: DUP, and a federation of one (R405). -/
theorem exec_fedHello_dup {link : Nat} {h : FedHello} (hup : bit (s.f F.FED_LINK_UP) link = true) (hlink : link < 8)
    (hdev : h.dev = s.hw.straps.devid) : ∃ t : State, exec (.fedHello link h) s = .next t ∧ t.flag F.FED_STAT_DUP = true ∧
      t.f F.FED_STAT_VIEW = 2 ^ (s.hw.straps.devid % 8) ∧ t.fed.peers = [] ∧ t.fed.electing = false ∧
      (s.mode.cur ≠ .dormant → t.elog.next = s.elog.next + 1) := by
  rw [show exec (.fedHello link h) s = execFedHello link h s from rfl, execFedHello,
    if_neg (by simp [hmember, hup, hlink, hdup]), if_pos hdev]
  have hbar (t : State) : ((List.range 8).foldl (fun (s : State) d => s.dropDevice d) t).bar0 = t.bar0 :=
    foldl_dropDevice_keeps State.bar0 (fun _ _ _ => rfl) (fun _ _ => rfl) _ t
  have helog (t : State) : ((List.range 8).foldl (fun (s : State) d => s.dropDevice d) t).elog = t.elog :=
    foldl_dropDevice_keeps State.elog (fun _ _ _ => rfl) (fun _ _ => rfl) _ t
  dsimp only
  refine ⟨_, rfl, ?_, ?_, rfl, rfl, fun hmode => ?_⟩
  · rw [setFed_flag, State.flag, f_congr _ (hbar _), ← State.flag, flag_logOpen (by decide) (by decide),
      flag_setF_of_apart (by decide), flag_setFlag_same rfl (by decide)]
  · rw [setFed_f, f_congr _ (hbar _), f_logOpen (by decide) (by decide), f_setF_same _ _ _ (by decide)]
    exact Nat.mod_eq_of_lt (Nat.pow_lt_pow_right (by decide) (Nat.mod_lt _ (by decide)))
  · rw [setFed_elog, helog]
    exact elogNext_logOpen (s := (s.setFlag F.FED_STAT_DUP true).setF F.FED_STAT_VIEW (2 ^ (s.hw.straps.devid % 8))) hmode _ _ _ _

/-- A HELLO of another device: its sender and its view enter the view, and a changed view is elected upon (R407, R409). -/
theorem exec_fedHello_other {link : Nat} {h : FedHello} (hup : bit (s.f F.FED_LINK_UP) link = true) (hlink : link < 8)
    (hdev : h.dev ≠ s.hw.straps.devid) : ∃ t : State, exec (.fedHello link h) s = .next t ∧
      bit (t.f F.FED_STAT_VIEW) (h.dev % 8) = true ∧ (∀ d, d < 8 → bit h.view d = true → bit (t.f F.FED_STAT_VIEW) d = true) ∧
      (t.f F.FED_STAT_VIEW ≠ s.f F.FED_STAT_VIEW → 0 < s.f F.FED_STAT_EPOCH → t.fed.electing = true ∧ t.fed.stable = s.tbase) := by
  rw [show exec (.fedHello link h) s = execFedHello link h s from rfl, execFedHello,
    if_neg (by simp [hmember, hup, hlink, hdup]), if_neg hdev]
  obtain ⟨hview, -, hfed, -⟩ := syncView_shows (s.setFed { s.fed with peers := s.fed.peers.insert (h.dev % 8) h }) false
  have hpeer := Tbl.mem_insert_self s.fed.peers (h.dev % 8) h
  refine ⟨_, rfl, ?_, fun d hd hbit => ?_, fun hchanged hepoch => ?_⟩
  · rw [hview, bit_mod_two_pow (Nat.mod_lt _ (by decide))]
    exact bit_foldl_view_of_mem hpeer (Nat.mod_lt _ (by decide)) (.inl (Nat.mod_mod _ _)) _
  · rw [hview, bit_mod_two_pow hd]
    exact bit_foldl_view_of_mem hpeer hd (.inr hbit) _
  · rw [hview] at hchanged
    rw [hfed]
    generalize (s.setFed { s.fed with peers := s.fed.peers.insert (h.dev % 8) h }).viewNow = v at hchanged
    have hne : (v != s.f F.FED_STAT_VIEW) = true := by
      rw [bne_iff_ne]
      rintro rfl
      exact hchanged (Nat.mod_eq_of_lt (f_lt s F.FED_STAT_VIEW))
    exact ⟨by simp [hne, hepoch], by simp [hne]⟩

/-- A member begins to elect when FED_SYNC is high, or 2 s after it released it (R409). -/
theorem exec_electionStart {high : Bool} {u : Word} (hrel : s.fed.released = some u) (hidle : s.fed.electing = false)
    (hepoch : s.f F.FED_STAT_EPOCH = 0) (hdue : high = true ∨ 200000000 ≤ (s.tbase - u).toNat) :
    ∃ t : State, exec (.electionStart high) s = .next t ∧ t.fed.electing = true ∧ t.fed.stable = s.tbase ∧
      t.f F.FED_STAT_EPOCH = 0 := by
  rw [show exec (.electionStart high) s = execElectionStart high s from rfl, execElectionStart, hrel]
  dsimp only
  have hgo : (high || decide (200000000 ≤ (s.tbase - u).toNat)) = true := by simpa [-BitVec.toNat_sub] using hdue
  rw [hmember, hdup, hidle, hepoch, hgo, if_neg (by simp)]
  obtain ⟨-, hrest, hfed, -⟩ := syncView_shows (s.setFed { s.fed with electing := true, stable := s.tbase }) false
  refine ⟨_, rfl, ?_, ?_, ?_⟩
  · rw [sayHello_keeps State.fed (fun _ _ => rfl), hfed]
    rfl
  · rw [sayHello_keeps State.fed (fun _ _ => rfl), hfed]
    exact ite_self _
  · rw [sayHello_keeps (fun t => t.f F.FED_STAT_EPOCH) (fun _ _ => rfl), hrest _ (by decide)]
    exact hepoch

/-- Of a view that is not empty the lowest DEVID is the coordinator, and EPOCH rises (R409). -/
theorem exec_electionDecide (helect : s.fed.electing = true) (hstable : 1000000 ≤ (s.tbase - s.fed.stable).toNat)
    (hview : s.f F.FED_STAT_VIEW ≠ 0) : ∃ t : State, exec .electionDecide s = .next t ∧
      bit (s.f F.FED_STAT_VIEW) (t.f F.FED_STAT_COORD) = true ∧
      (∀ d, d < t.f F.FED_STAT_COORD → bit (s.f F.FED_STAT_VIEW) d = false) ∧
      t.f F.FED_STAT_EPOCH = (s.f F.FED_STAT_EPOCH + 1) % 2 ^ 32 ∧ t.flag F.FED_STAT_EVT = true ∧ t.fed.electing = false := by
  rw [show exec .electionDecide s = execElectionDecide s from rfl, execElectionDecide,
    if_neg (by simpa [-BitVec.toNat_sub, hmember, hdup, helect] using hstable)]
  obtain ⟨c, hhead, hc, hset, hlow⟩ := head_setBits (f_lt s F.FED_STAT_VIEW) hview
  simp only [hhead, Option.getD_some]
  have hcoord (t : State) (b e : Bool) (x : FedState) : (((((s.setF F.FED_STAT_COORD c).incF F.FED_STAT_EPOCH).setFlag
      F.FED_STAT_SPLIT b).setFlag F.FED_STAT_EVT e).setFed x).f F.FED_STAT_COORD = c := by
    rw [setFed_f, f_setFlag_of_apart (by decide), f_setFlag_of_apart (by decide), State.incF, f_setF_of_apart (by decide),
      f_setF_same _ _ _ (by decide)]
    exact Nat.mod_eq_of_lt (show c < 2 ^ 3 by omega)
  have hstep {x : Field} (hx : x.off ≠ R.DEV_EVT) (u : State) : (u.raiseEvent 9).f x = u.f x := f_raiseEvent hx u 9
  refine ⟨_, rfl, ?_, ?_, ?_, ?_, ?_⟩
  · rw [hstep (by decide), hcoord s]
    exact hset
  · rw [hstep (by decide), hcoord s]
    exact hlow
  · rw [hstep (by decide), setFed_f, f_setFlag_of_apart (by decide), f_setFlag_of_apart (by decide), State.incF,
      f_setF_same _ _ _ (by decide), f_setF_of_apart (by decide)]
    rfl
  · rw [flag_raiseEvent (by decide), setFed_flag, flag_setFlag_same rfl (by decide)]
  · rw [fed_of_core (raiseEvent_core _ _)]
    rfl

/-- The coordinator's mark goes out each second (R409). -/
theorem exec_timeMark (helect : s.fed.electing = false) (hepoch : s.f F.FED_STAT_EPOCH ≠ 0)
    (hcoord : s.f F.FED_STAT_COORD = s.hw.straps.devid) (hdue : 100000000 ≤ (s.tbase - s.fed.lastMark).toNat) :
    exec .timeMark s = .next ((s.setFed { s.fed with lastMark := s.tbase }).send .timeMark) := by
  rw [show exec .timeMark s = execTimeMark s from rfl, execTimeMark,
    if_neg (by simpa [-BitVec.toNat_sub, hmember, hdup, helect, hepoch, hcoord] using hdue)]

/-- A mark's edge latches TBASE, and FED_TOFF holds the difference (R409). -/
theorem exec_timeMarkEdge (theirs : Word) : ∃ t : State, exec (.timeMarkEdge theirs false) s = .next t ∧ t.fed.latch = s.tbase ∧
    t.reg R.FED_TOFF = (if s.f F.FED_STAT_COORD = s.hw.straps.devid then 0 else theirs - s.tbase) := by
  rw [show exec (.timeMarkEdge theirs false) s = execTimeMarkEdge theirs false s from rfl, execTimeMarkEdge,
    if_neg (by simp [hmember, hdup])]
  have hsend {β : Type} (g : State → β) (h : ∀ s m, g (s.send m) = g s) (l : List Nat) (t : State) :
      g (l.foldl (fun (u : State) d => u.send (.fedLatch d u.tbase)) t) = g t := foldl_keeps g _ (fun _ _ => h _ _) l t
  refine ⟨_, rfl, ?_, ?_⟩
  · rw [setReg_fed, hsend State.fed (fun _ _ => rfl)]
    rfl
  · rw [reg_setReg_eq, if_pos rfl, hsend State.hw (fun _ _ => rfl), hsend (fun t => t.f F.FED_STAT_COORD) (fun _ _ => rfl)]
    simp

end

/-- A link's state in FED_LINK, the others as they were (R407). -/
theorem linkUp_stored (s : State) {dev d : Nat} (hd : d < 8) (up : Bool) (w : Nat) :
    bit (((s.setF F.FED_LINK_UP (putBit (s.f F.FED_LINK_UP) dev up)).setF F.FED_LINK_WIDE w).f F.FED_LINK_UP) d =
      if d = dev then up else bit (s.f F.FED_LINK_UP) d := by
  rw [f_setF_of_apart (by decide), f_setF_same _ _ _ (by decide), show F.FED_LINK_UP.width = 8 from rfl, bit_mod_two_pow hd,
    bit_putBit]

/-- Electing upon a changed link leaves what waits. -/
theorem fedWaiter_syncView (s : State) (relect : Bool) (dev id : Nat) : (s.syncView relect).fedWaiter dev id = s.fedWaiter dev id := by
  obtain ⟨-, -, hfed, hthr⟩ := syncView_shows s relect
  simp only [State.fedWaiter, State.thr, hthr, hfed]

/-- What follows a link that came up or went down leaves FED_LINK's own field. -/
theorem linkUp_followed (s : State) (dev : Nat) (up : Bool) (m : OutMsg) :
    (let s2 := if up then s.send m else s.dropDevice dev
      if s2.flag F.FED_STAT_DUP then s2 else s2.syncView true).f F.FED_LINK_UP = s.f F.FED_LINK_UP := by
  have hbar : (if up then s.send m else s.dropDevice dev).bar0 = s.bar0 := by
    split
    · rfl
    · exact dropDevice_keeps State.bar0 (fun _ _ _ => rfl) (fun _ _ => rfl) s dev
  generalize (if up then s.send m else s.dropDevice dev) = u at hbar ⊢
  dsimp only
  rw [f_ite, (syncView_shows u true).2.1 _ (by decide), ite_self, f_congr _ hbar]

/-- A link that changes is shown, and a lost one takes the parts of its device with it (R407, R411). -/
theorem exec_fedLinkChange {s : State} {dev : Nat} (up wide : Bool) (hmember : s.member = true) (hdev : dev < 8)
    (hne : dev ≠ s.hw.straps.devid) (havail : s.brideAvail (2 + dev / 4) = true) (hmode : s.mode.cur ≠ .dormant) :
    ∃ t : State, exec (.fedLinkChange dev up wide) s = .next t ∧ bit (t.f F.FED_LINK_UP) dev = up ∧
      (∀ d, d < 8 → d ≠ dev → bit (t.f F.FED_LINK_UP) d = bit (s.f F.FED_LINK_UP) d) ∧
      (bit (s.f F.FED_LINK_UP) dev = true → up = false → ∀ id, t.fedWaiter dev id = none) := by
  have hstored {d : Nat} (hd : d < 8) := linkUp_stored s (dev := dev) hd up
    (putBit (s.f F.FED_LINK_WIDE) dev (up && wide && s.wideOk dev))
  rw [show exec (.fedLinkChange dev up wide) s = execFedLinkChange dev up wide s from rfl, execFedLinkChange]
  dsimp only
  rw [if_neg (by simp [hmember, hdev, hne, havail, hmode])]
  generalize (s.setF F.FED_LINK_UP (putBit (s.f F.FED_LINK_UP) dev up)).setF F.FED_LINK_WIDE
    (putBit (s.f F.FED_LINK_WIDE) dev (up && wide && s.wideOk dev)) = s1 at hstored ⊢
  refine ⟨_, rfl, ?_, fun d hd hdne => ?_, fun hwas hup id => ?_⟩
  · rw [f_ite, linkUp_followed, ite_self, hstored hdev, if_pos rfl]
  · rw [f_ite, linkUp_followed, ite_self, hstored hd, if_neg hdne]
  · subst hup
    rw [if_neg (by simp [hwas]), if_neg Bool.false_ne_true]
    split
    · exact fedWaiter_dropDevice s1 dev id
    · rw [fedWaiter_syncView, fedWaiter_dropDevice]

theorem federationCommands : Claims.FederationCommands := by
  refine ⟨fun s link h hmember hup hlink hdup => ⟨exec_fedHello_dup hmember hdup hup hlink,
      exec_fedHello_other hmember hdup hup hlink⟩,
    fun s high u hrel hmember hdup hidle hepoch hdue => exec_electionStart hmember hdup hrel hidle hepoch hdue,
    fun s hmember hdup helect hstable hview => exec_electionDecide hmember hdup helect hstable hview,
    fun s dev up wide hmember hdev hne havail hmode => exec_fedLinkChange up wide hmember hdev hne havail hmode,
    fun s hmember hdup helect hepoch hcoord hdue => ⟨_, exec_timeMark hmember hdup helect hepoch hcoord hdue, rfl, rfl⟩,
    fun s theirs hmember hdup => exec_timeMarkEdge hmember hdup theirs, fun s theirs => ?_⟩
  show execTimeMarkEdge theirs true s = _
  simp [execTimeMarkEdge]

/-! ### Spanning parts (R408, R410, R411) -/

/-- An instruction that is completed is found completed. -/
theorem async?_asyncDone {s : State} {th id : Nat} {x : AsyncOp} (h : (s.thr th).async? id = some x) (outcome : Nat) :
    ((s.asyncDone th id outcome).thr th).async? id = some { x with wait := .done, outcome } := by
  have hid : x.id = id := by simpa using List.find?_some h
  rw [State.asyncDone, thr_setThr, if_pos rfl, async?_mapAsync_done, h, Option.map_some, if_pos (beq_iff_eq.mpr hid)]

/-- The answer of another device ends the instruction that waits for it (R411). -/
theorem exec_fedCallPart_startDone {s : State} {dev id th : Nat} {o : AsyncOp} (status : Nat) (hup : s.fedUp dev = true)
    (hwaiter : s.fedWaiter dev id = some (th, o)) (hxfer : o.xfer = none) :
    ∃ t : State, exec (.fedCallPart { dev, id, body := .startDone status }) s = .next t ∧ t.fedWaiter dev id = none ∧
      (t.thr th).async? o.id = some { o with wait := .done, outcome := status } := by
  obtain ⟨k, hfind, hasync, hwait⟩ := fedWaiter_eq_some.mp hwaiter
  have hid : o.id = k := by simpa using List.find?_some hasync
  rw [show exec (.fedCallPart { dev, id, body := .startDone status }) s = execFedCallPart _ s from rfl, execFedCallPart,
    if_neg (by simp [hup])]
  dsimp only
  rw [State.fedAnswer, hwaiter]
  dsimp only
  rw [hxfer]
  have hdone := async?_asyncDone (s := s.setFed { s.fed with waits := s.fed.waits.erase id }) (hid.symm ▸ hasync) status
  rw [hxfer] at hdone
  refine ⟨_, rfl, ?_, hdone⟩
  rw [State.fedWaiter, show ((s.setFed { s.fed with waits := s.fed.waits.erase id }).asyncDone th o.id status).fed.waits =
    s.fed.waits.erase id from rfl, Tbl.find_erase_same]

/-- A request of which the start waits leaves the queue as it is. -/
theorem fedDrain_singleton {s : State} {m : FedMsg} (hq : s.fed.queue = [m])
    (hnone : (s.setFed { s.fed with queue := [] }).fedStart m = none) : s.fedDrain = s := by
  rw [State.fedDrain, hq, List.length_singleton, List.range_one, List.foldl_cons, List.foldl_nil]
  simp only [hq, hnone]

/-- A work call without a free thread of its cluster does not start. -/
theorem fedStart_start_none {s : State} {dev id a b p : Nat} {words : List Word} (havail : s.clusterAvail (s.bandCluster a b) = true)
    (hvalid : ptValid (s.ptab (s.bandCluster a b) p) = true) (hfree : s.freeThread (s.bandCluster a b) true = none) :
    s.fedStart { dev, id, body := .start a b p words } = none := by
  simp [State.fedStart, havail, hvalid, State.startWork, hfree]

/-- A request that finds no free thread waits in the queue (R410). -/
theorem exec_fedCallPart_start {s : State} {dev a b p : Nat} (id : Nat) (words : List Word) (hup : s.fedUp dev = true)
    (hruns : s.threadsRun = true) (hqueue : s.fed.queue = []) (havail : s.clusterAvail (s.bandCluster a b) = true)
    (hvalid : ptValid (s.ptab (s.bandCluster a b) p) = true) (hfree : s.freeThread (s.bandCluster a b) true = none) :
    ∃ t : State, exec (.fedCallPart { dev, id, body := .start a b p words }) s = .next t ∧ t.threads = s.threads := by
  rw [show exec (.fedCallPart { dev, id, body := .start a b p words }) s = execFedCallPart _ s from rfl, execFedCallPart,
    if_neg (by simp [hup])]
  dsimp only
  rw [if_pos (by simp [State.fedServes, hup, hruns])]
  refine ⟨_, rfl, ?_⟩
  rw [hqueue, List.nil_append]
  refine (congrArg State.threads (fedDrain_singleton (m := { dev, id, body := .start a b p words }) rfl ?_)).trans rfl
  exact fedStart_start_none havail hvalid hfree

theorem spanningParts : Claims.SpanningParts := by
  refine ⟨fun s dev id status th o hup hwaiter hxfer => exec_fedCallPart_startDone status hup hwaiter hxfer,
    fun s dev id a hup hexists => ?_, fun s dev id bytes hup => ?_,
    fun s dev id a b p words hup hruns hqueue havail hvalid hfree =>
      exec_fedCallPart_start id words hup hruns hqueue havail hvalid hfree, fun s m hup => ?_⟩
  · show execFedCallPart _ s = _
    simp [execFedCallPart, hup, hexists]
  · rw [show exec (.fedCallPart { dev, id, body := .report bytes }) s = execFedCallPart _ s from rfl, execFedCallPart,
      if_neg (by simp [hup])]
    exact ⟨_, rfl, Tbl.find_insert_same _ _ _⟩
  · show execFedCallPart m s = _
    simp [execFedCallPart, hup]

/-- Settles O47: what an election and a dropped device leave is said once, and each command follows from it. -/
theorem federation : Obligations.Federation := ⟨federationCommands, spanningParts⟩

end Sys2Proof.Machine

/-! ## Firmware images (R416, R418; O48) -/

namespace Sys2Proof.Machine

/-- A field put into a word leaves it a word. -/
theorem putBits_lt {v lo w x n : Nat} (hv : v < 2 ^ n) (hfit : lo + w ≤ n) : putBits v lo w x < 2 ^ n := by
  refine Nat.lt_pow_two_of_testBit _ fun i hi => ?_
  rw [testBit_putBits, if_neg (by omega)]
  exact Nat.testBit_lt_two_pow (lt_of_lt_of_le hv (Nat.pow_le_pow_right (by decide) hi))

/-- A taken command of DEV_FW with OP put in and ERR not written (R416). -/
theorem writeFw_taken {s : State} {value : Word} (htakes : s.takesCmd R.DEV_FW 8 = true) (herr : bit value.toNat 4 = false) (op : Nat) :
    s.writeFw R.DEV_FW 8 (BitVec.ofNat 64 (putBits value.toNat 0 2 op)) =
      s.fwCommand (putBits value.toNat 0 2 op) R.DEV_FW (BitVec.ofNat 64 (putBits value.toNat 0 2 op)) := by
  have hvalue : writtenValue R.DEV_FW 8 (BitVec.ofNat 64 (putBits value.toNat 0 2 op)) = putBits value.toNat 0 2 op :=
    Nat.mod_eq_of_lt (putBits_lt value.isLt (by decide))
  have hbit : bit (putBits value.toNat 0 2 op) 4 = false := by
    rw [bit_eq_testBit, testBit_putBits, if_neg (by omega), ← bit_eq_testBit, herr]
  rw [State.writeFw, command_of_takesCmd htakes (by decide), hvalue, hbit, if_neg Bool.false_ne_true]

/-- A refused command shows ERR, starts nothing, and is noted (R416, R462). -/
theorem fwRefuse_shows (s : State) (value : Word) : (s.fwRefuse R.DEV_FW value).flag F.DEV_FW_ERR = true ∧
    (s.fwRefuse R.DEV_FW value).boot = s.boot ∧
    (s.mode.cur ≠ .dormant → (s.fwRefuse R.DEV_FW value).elog.next = s.elog.next + 1) := by
  refine ⟨?_, ?_, fun hmode => ?_⟩
  · rw [State.fwRefuse, State.flag, State.f, reg_regNotice (by decide) (by decide) (by decide), ← State.f, ← State.flag,
      flag_setFlag_same rfl (by decide)]
  · exact boot_of_core ((notice_core _ _ _ _ _ _ _).trans (setFlag_core _ _ _))
  · have hnotice : s.fwRefuse R.DEV_FW value = (s.setFlag F.DEV_FW_ERR true).logRec clsNotice (srcOf R.DEV_FW).1 (srcOf R.DEV_FW).2 3
        R.DEV_FW (noticeDetail value.toNat 0) := if_neg hmode
    rw [hnotice, logRec_elog (s := s.setFlag F.DEV_FW_ERR true) hmode]
    rfl

/-- The boot data are no register. -/
theorem flag_withBoot (s : State) (x : BootState) (y : Field) : ({ s with boot := x } : State).flag y = s.flag y := rfl

/-- Settles O48: each command is the branch of DEV_FW's OP, and the completion writes the image that does not run. -/
theorem firmwareUpdate : Obligations.FirmwareUpdate := by
  unfold Obligations.FirmwareUpdate
  refine ⟨?_, fun s value b htakes herr hwritten hbusy => ?_, fun s addr len hrun hoff hmode => ⟨?_, ?_⟩⟩
  · intro s value htakes herr v ok
    have hexec : exec (.fwWrite 8 value) s = .next (s.fwCommand v R.DEV_FW (BitVec.ofNat 64 v)) :=
      congrArg _ (writeFw_taken htakes herr 1)
    have hop : bits v 0 2 = 1 := bits_putBits _ _ _ _
    rw [hexec]
    refine ⟨fun hok => ?_, fun hok => ?_⟩
    · obtain ⟨hdis, hmode, hbusy, hrange⟩ := hok
      rw [State.fwCommand]
      simp only [hop, hdis, hmode, hbusy, hrange]
      refine ⟨_, rfl, ?_, rfl, rfl, rfl⟩
      exact flag_setFlag_same rfl (by decide) _ _
    · have hrefuse : s.fwCommand v R.DEV_FW (BitVec.ofNat 64 v) = s.fwRefuse R.DEV_FW (BitVec.ofNat 64 v) := by
        rw [State.fwCommand]
        simp only [hop]
        refine if_pos ?_
        by_contra hall
        exact hok (by simpa [and_assoc] using hall)
      rw [hrefuse]
      exact ⟨_, rfl, fwRefuse_shows s _⟩
  · have hexec : exec (.fwSelect 8 value) s = .next (s.fwCommand (putBits value.toNat 0 2 2) R.DEV_FW
        (BitVec.ofNat 64 (putBits value.toNat 0 2 2))) := congrArg _ (writeFw_taken htakes herr 2)
    have hop : bits (putBits value.toNat 0 2 2) 0 2 = 2 := bits_putBits _ _ _ _
    rw [hexec, State.fwCommand]
    simp only [hop, hwritten, hbusy, Bool.false_eq_true, if_false]
    exact ⟨_, rfl, flag_setFlag_same rfl (by decide) _ _, rfl⟩
  · rw [show exec (.fwWriteComplete false) s = execFwWriteComplete false s from rfl, execFwWriteComplete]
    simp only [hrun, hoff, hmode, decide_false, Bool.or_self, Bool.false_eq_true, if_false, Bool.not_false, if_true]
    refine ⟨_, rfl, flag_setFlag_same rfl (by decide) _ _, ?_, rfl, rfl⟩
    rw [flag_setFlag_of_apart (by decide), flag_setFlag_same rfl (by decide)]
  · rw [show exec (.fwWriteComplete true) s = execFwWriteComplete true s from rfl, execFwWriteComplete]
    simp only [hrun, hoff, hmode, decide_false, Bool.or_self, Bool.false_eq_true, if_false, Bool.not_true]
    refine ⟨_, rfl, ?_, ?_, fun himage => ?_, fun himage => ?_⟩
    · rw [flag_withBoot, flag_setFlag_same rfl (by decide)]
    · cases s.flag F.DEV_BOOT_STAT_IMAGE <;> rfl
    · rw [himage]
      exact ⟨rfl, rfl⟩
    · rw [himage]
      exact ⟨rfl, rfl⟩

end Sys2Proof.Machine

/-! ## SPDM and MCTP control answers (R419, R420; O49) -/

namespace Sys2Proof.Machine

/-! ### SPDM (R419) -/

/-- A portion of a chain ends within it, and the rest is counted. -/
theorem certificate_portion {c : List Byte} {offset : Nat} (h : offset < c.length) (length : Nat) :
    c = c.take offset ++ (c.drop offset).take length ++ c.drop (offset + ((c.drop offset).take length).length) ∧
      c.length - offset - min length (c.length - offset) + ((c.drop offset).take length).length + offset = c.length := by
  have hlen : ((c.drop offset).take length).length = min length (c.length - offset) := by simp
  have hrest := List.prefix_iff_eq_append.mp (List.take_prefix length (c.drop offset))
  refine ⟨?_, by omega⟩
  rw [← List.drop_drop, List.append_assoc, hrest, List.take_append_drop]

section
variable {s : State} {tr : Nat} (hhears : Claims.hears s tr)
include hhears

/-- A request that is heard is answered, and nothing else changes. -/
theorem answers_spdm (f : State → SpdmAnswer) : Claims.answers s (s.spdm tr f) tr (f s) := by
  unfold Claims.hears at hhears
  unfold Claims.answers State.spdm
  by_cases htr : tr < 2
  · rw [if_pos htr] at hhears
    obtain ⟨hdown, hflr, hbif⟩ := hhears
    have hgo : ¬ ((s.hostDown || (s.ep tr).flrBusy || (tr == 1 && !s.bifurcated)) = true) := by
      simpa [hdown, hflr] using hbif
    rw [if_pos htr, if_pos htr, if_neg hgo]
    exact ⟨⟨Tbl.find_insert_same _ _ _, rfl⟩, rfl⟩
  · rw [if_neg htr] at hhears
    rw [if_neg htr, if_neg htr, if_pos hhears]
    exact ⟨⟨rfl, rfl⟩, rfl⟩

/-- As answers_spdm, where the answer took a free value. -/
theorem answers_spdm_bumpFree (f : State → SpdmAnswer) : Claims.answers s (s.spdm tr f).bumpFree tr (f s) :=
  answers_spdm hhears f

/-- A request for slot 0 within the chain (R419). -/
theorem exec_getCertificate {offset : Nat} (length : Nat) (h : offset < Config.certificateChain.length) :
    ∃ t p r, exec (.getCertificate tr 0 offset length) s = .next t ∧ Claims.answers s t tr (.certificate p r) ∧
      Config.certificateChain = Config.certificateChain.take offset ++ p ++ Config.certificateChain.drop (offset + p.length) ∧
      r + p.length + offset = Config.certificateChain.length := by
  rw [show exec (.getCertificate tr 0 offset length) s = execGetCertificate tr 0 offset length s from rfl, execGetCertificate,
    if_pos ⟨rfl, h⟩]
  exact ⟨_, _, _, rfl, answers_spdm hhears _, certificate_portion h length⟩

/-- A request for the digests of all measurement blocks returns the seven in order (R419). -/
theorem exec_getMeasurements_all (sig : Bool) (nonce : List Byte) : ∃ t l g,
    exec (.getMeasurements tr 0xFF sig nonce) s = .next t ∧ Claims.answers s t tr (.measurements 7 l g) ∧ l.length = 7 ∧
      ∀ n, n < 7 → l[n]? = some (n + 1, [0, 1, 1, 1, 2, 3, 1].getD n 0, Tbl.get measReset s.boot.slots n) := by
  rw [show exec (.getMeasurements tr 0xFF sig nonce) s = execGetMeasurements tr 0xFF sig nonce s from rfl, execGetMeasurements]
  dsimp only
  rw [if_neg (by decide), if_pos rfl]
  refine ⟨_, s.measBlocks, _, rfl, answers_spdm hhears _, rfl, fun n hn => ?_⟩
  interval_cases n <;> rfl

/-- A request for the number of blocks (R419). -/
theorem exec_getMeasurements_count (sig : Bool) (nonce : List Byte) : ∃ t g, exec (.getMeasurements tr 0 sig nonce) s = .next t ∧
    Claims.answers s t tr (.measurements 7 [] g) ∧ g.isSome = sig := by
  rw [show exec (.getMeasurements tr 0 sig nonce) s = execGetMeasurements tr 0 sig nonce s from rfl, execGetMeasurements]
  dsimp only
  rw [if_pos rfl]
  exact ⟨_, _, rfl, answers_spdm hhears _, by cases sig <;> rfl⟩

/-- A request for one block. -/
theorem exec_getMeasurements_one (sig : Bool) (nonce : List Byte) {n : Nat} (hlo : 1 ≤ n) (hhi : n ≤ 7) : ∃ t d g,
    exec (.getMeasurements tr n sig nonce) s = .next t ∧
      Claims.answers s t tr (.measurements 1 [(n, d, Tbl.get measReset s.boot.slots (n - 1))] g) := by
  rw [show exec (.getMeasurements tr n sig nonce) s = execGetMeasurements tr n sig nonce s from rfl, execGetMeasurements]
  dsimp only
  rw [if_neg (by omega), if_neg (by omega), if_pos hhi]
  exact ⟨_, blockType n, _, rfl, answers_spdm hhears _⟩

end

theorem spdmAnswers : Claims.SpdmAnswers := by
  intro s tr hhears
  refine ⟨⟨_, rfl, answers_spdm hhears _⟩, ⟨_, rfl, answers_spdm hhears _⟩, fun a b c d => ⟨_, rfl, answers_spdm hhears _⟩,
    ⟨_, rfl, answers_spdm hhears _⟩, fun offset length h => exec_getCertificate hhears length h, fun slot offset length hslot => ?_,
    fun nonce => ⟨_, rfl, answers_spdm_bumpFree hhears _⟩, fun nonce sig => exec_getMeasurements_count hhears sig nonce,
    fun nonce sig => exec_getMeasurements_all hhears sig nonce,
    fun nonce sig n hlo hhi => exec_getMeasurements_one hhears sig nonce hlo hhi, ⟨_, _, rfl, answers_spdm_bumpFree hhears _⟩,
    ⟨_, rfl, answers_spdm hhears _⟩, fun htr => ?_⟩
  · rw [show exec (.getCertificate tr slot offset length) s = execGetCertificate tr slot offset length s from rfl,
      execGetCertificate, if_neg (by simp [hslot])]
    exact ⟨_, _, rfl, answers_spdm_bumpFree hhears _⟩
  · rw [Claims.hears, if_pos htr] at hhears
    obtain ⟨hdown, hflr, -⟩ := hhears
    rw [show exec (.doeAbort tr) s = execDoeAbort tr s from rfl, execDoeAbort, if_neg (by simp [hdown, hflr])]
    exact ⟨_, rfl, Tbl.find_erase_same _ _, fun k hk =>
      Tbl.find_filter_of_forall fun e _ he => by simpa [he] using hk⟩

/-! ### MCTP control (R420) -/

section
variable {s : State} {b : Nat} (hhears : Claims.mctpHears s b)
include hhears

/-- A command that is heard acts. -/
theorem mctp_heard (k : State → State) : s.mctp b k = k s := by
  obtain ⟨hpower, hb, hdown, hbif⟩ := hhears
  have hgo : ¬ ((!s.hw.powered || decide (4 ≤ b) || (decide (2 ≤ b) && s.hostDown) || (b == 3 && !s.bifurcated)) = true) := by
    simp only [hpower, Bool.not_true, Bool.false_or, Bool.or_eq_true, decide_eq_true_eq, Bool.and_eq_true, beq_iff_eq,
      Bool.not_eq_true']
    rintro ((h | ⟨h, hd⟩) | ⟨h, hd⟩)
    · omega
    · exact absurd (hdown h) (by simp [hd])
    · exact absurd (hbif h) (by simp [hd])
  rw [State.mctp, if_neg hgo]

/-- As mctp_heard, of the command. -/
theorem exec_mctp {c : Instr} {k : State → State} (hc : exec c s = .next (s.mctp b k)) : exec c s = .next (k s) :=
  hc.trans (congrArg _ (mctp_heard hhears k))

/-- An endpoint ID that is set is read (R420). -/
theorem exec_setEndpointId {op eid : Nat} (hop : op < 2) (hlo : 0 < eid) (hhi : eid < 255) :
    ∃ t bs, exec (.setEndpointId b op eid) s = .next t ∧ t.out = s.out ++ [.mctp b 1 0 bs] ∧
      ∃ u rest, exec (.getEndpointId b) t = .next u ∧ u.out = t.out ++ [.mctp b 2 0 (leBytes 1 eid ++ rest)] ∧ u.eids = t.eids := by
  rw [show exec (.setEndpointId b op eid) s = execSetEndpointId b op eid s from rfl, execSetEndpointId, mctp_heard hhears,
    if_neg (by omega), if_neg (by omega), Nat.mod_eq_of_lt (by omega)]
  refine ⟨_, _, rfl, rfl, ?_⟩
  generalize hu : (State.send ({ s with eids := Tbl.set eidReset s.eids b eid } : State)
    (.mctp b 1 0 (leBytes 1 0 ++ leBytes 1 eid ++ leBytes 1 0))) = t
  have hheard : Claims.mctpHears t b := hu ▸ hhears
  have heid : Tbl.get eidReset t.eids b = eid := by
    rw [← hu, show (State.send ({ s with eids := Tbl.set eidReset s.eids b eid } : State) _).eids = Tbl.set eidReset s.eids b eid
      from rfl, Tbl.get_set, if_pos rfl]
  rw [show exec (.getEndpointId b) t = execGetEndpointId b t from rfl, execGetEndpointId, mctp_heard hheard, heid,
    List.append_assoc]
  exact ⟨_, _, rfl, rfl, rfl⟩

end

theorem mctpControl : Claims.MctpControl := by
  intro s b hhears
  refine ⟨fun op eid hop hlo hhi => exec_setEndpointId hhears hop hlo hhi, fun op eid hop heid => ?_,
    ⟨_, exec_mctp hhears rfl, rfl, rfl⟩, ⟨_, exec_mctp hhears rfl, ?_⟩,
    ⟨_, exec_mctp hhears rfl, rfl⟩, ⟨_, beBytes 2 (Config.boardValue 9).toNat ++ leBytes 2 s.freshVal.toNat,
      exec_mctp hhears rfl, ?_⟩,
    fun cmd => ⟨_, exec_mctp hhears rfl, rfl, rfl⟩⟩
  · rw [exec_mctp (c := .setEndpointId b op eid) hhears rfl, if_neg (by omega), if_pos (by omega)]
  · rw [if_pos (.inl rfl)]
    rfl
  · rw [if_pos rfl]
    rfl

/-- Settles O49: an answer goes out where the request is heard, and what it holds is read off its command. -/
theorem trustAnswers : Obligations.TrustAnswers := ⟨spdmAnswers, mctpControl⟩

end Sys2Proof.Machine

/-! ## The bank and the thermal rules (R429 to R432, R438 to R440; O34) -/

namespace Sys2Proof.Machine

/-! ### Bank tests (R429 to R432) -/

/-- A write of HU_CTL that reaches it (R430, R432). -/
theorem writeHuCtl_taken {s : State} (htakes : s.takesWrite R.HU_CTL 8 = true) (value : Word) : s.writeHuCtl R.HU_CTL 8 value =
    let s1 := s.storeReg R.HU_CTL 8 value
    let new := s1.f F.HU_CTL_VCHG_DV
    let s2 := if bit value.toNat 32 then s1.askTest else s1
    if new < s.f F.HU_CTL_VCHG_DV then
      let s3 : State := { s2.endTest with power := { s2.endTest.power with lowering := true } }
      if s3.power.tested then s3.recompute new else ({ s3 with power := { s3.power with vchg := new } } : State).syncBank
    else if s.f F.HU_CTL_VCHG_DV < new then
      ({ s2 with power := { s2.power with
        lowering := false, vchg := if s2.power.tested || s2.flag F.HU_STAT_TESTING then s2.power.vchg else new } } : State).syncBank
    else s2 := by
  rw [State.writeHuCtl, gate_of_takesWrite htakes]
  rfl

/-- A request for a test leaves the others to wait (R430). -/
theorem askTest_idle {s : State} (htesting : s.flag F.HU_STAT_TESTING = false) (hpending : s.power.testPending = false) :
    s.askTest = { s with power := { s.power with testPending := true } } := by
  simp [State.askTest, htesting, hpending]

/-- HU_STAT is not HU_CTL. -/
theorem flag_testing_storeReg (s : State) (value : Word) :
    (s.storeReg R.HU_CTL 8 value).flag F.HU_STAT_TESTING = s.flag F.HU_STAT_TESTING := by
  rw [State.flag, State.storeReg, f_setReg_of_ne (by decide), State.flag]

/-- A test that is asked for with VCHG as it is (R430). -/
theorem writeHuCtl_test {s s1 : State} {w : Word} (htakes : s.takesWrite R.HU_CTL 8 = true)
    (htesting : s.flag F.HU_STAT_TESTING = false) (hpending : s.power.testPending = false) (hs1 : s1 = s.storeReg R.HU_CTL 8 w)
    (hbit : bit w.toNat 32 = true) (hsame : s1.f F.HU_CTL_VCHG_DV = s.f F.HU_CTL_VCHG_DV) :
    s.writeHuCtl R.HU_CTL 8 w = { s1 with power := { s1.power with testPending := true } } := by
  have hask : s1.askTest = { s1 with power := { s1.power with testPending := true } } :=
    askTest_idle (by rw [hs1, flag_testing_storeReg, htesting]) (by rw [hs1]; exact hpending)
  rw [writeHuCtl_taken htakes, ← hs1]
  dsimp only
  rw [hbit, if_pos rfl, hsame, if_neg (lt_irrefl _), if_neg (lt_irrefl _), hask]

/-- As writeHuCtl_test, of the command. -/
theorem exec_huTestRequest {s s1 : State} {value : Word} (htakes : s.takesWrite R.HU_CTL 8 = true)
    (htesting : s.flag F.HU_STAT_TESTING = false) (hpending : s.power.testPending = false)
    (hs1 : s1 = s.storeReg R.HU_CTL 8 (BitVec.ofNat 64 (putBit value.toNat 32 true)))
    (hsame : s1.f F.HU_CTL_VCHG_DV = s.f F.HU_CTL_VCHG_DV) :
    exec (.huTestRequest 8 value) s = .next { s1 with power := { s1.power with testPending := true } } := by
  have hbit : bit (BitVec.ofNat 64 (putBit value.toNat 32 true)).toNat 32 = true := by
    rw [BitVec.toNat_ofNat, bit_mod_two_pow (by decide), bit_putBit_same]
  rw [show exec (.huTestRequest 8 value) s = execHuTestRequest 8 value s from rfl, execHuTestRequest, if_neg (by decide),
    if_neg (by decide), writeHuCtl_test htakes htesting hpending hs1 hbit hsame]

/-- VCHG raised with a test measured: the bank charges on (R432). -/
theorem exec_vchgWrite {s s1 : State} {value : Word} (htakes : s.takesWrite R.HU_CTL 8 = true) (hbit : bit value.toNat 32 = false)
    (hs1 : s1 = s.storeReg R.HU_CTL 8 value) (hup : s.f F.HU_CTL_VCHG_DV < s1.f F.HU_CTL_VCHG_DV) (htested : s.power.tested = true) :
    exec (.vchgWrite 8 value) s = .next ({ s1 with power := { s1.power with lowering := false } } : State).syncBank := by
  have htested1 : s1.power.tested = true := by rw [hs1]; exact htested
  rw [show exec (.vchgWrite 8 value) s = .next (s.writeHuCtl R.HU_CTL 8 value) from rfl, writeHuCtl_taken htakes, ← hs1]
  dsimp only
  rw [hbit, if_neg Bool.false_ne_true, if_neg (Nat.lt_asymm hup), if_pos hup, htested1, Bool.true_or, if_pos rfl]

/-- A completed test shows what was measured, and MAX_MIB is recomputed from it (R430, R431). -/
theorem exec_capTestComplete {s : State} (c : Nat) (hpower : s.hw.powered = true) (htesting : s.flag F.HU_STAT_TESTING = true)
    (hmode : s.mode.cur ≠ .boot) : ∃ t : State,
      exec (.capTestComplete c) s = .next (t.recompute (min t.power.vchg (t.f F.HU_CTL_VCHG_DV))) ∧
      t.flag F.HU_STAT_TESTING = false ∧ t.power.tested = true ∧ t.power.lastTest = s.tbase ∧
      t.f F.HU_CAP_C_DMF = min c 65535 ∧ t.f F.HU_CAP_PREV_DMF = s.f F.HU_CAP_C_DMF := by
  rw [show exec (.capTestComplete c) s = execCapTestComplete c s from rfl, execCapTestComplete,
    if_pos (by simp [hpower, htesting, hmode])]
  dsimp only
  have hraise (c : Prop) [Decidable c] (u : State) {x : Field} (hx : x.off ≠ R.DEV_EVT)
      (hapart : x.off ≠ R.HU_STAT ∨ x.lo + x.width ≤ 14 ∨ 15 ≤ x.lo) :
      (if c then (u.setFlag F.HU_STAT_EVT true).raiseEvent 6 else u).f x = u.f x := by
    rw [f_ite, f_raiseEvent hx, f_setFlag_of_apart (x := F.HU_STAT_EVT) hapart, ite_self]
  have hpow (c : Prop) [Decidable c] (u : State) : (if c then (u.setFlag F.HU_STAT_EVT true).raiseEvent 6 else u).power = u.power := by
    rw [apply_ite State.power, power_of_core (raiseEvent_core _ _), setFlag_power, ite_self]
  have hreg (u : State) (x : PowerState) (y : Field) : ({ u with power := x } : State).f y = u.f y := rfl
  refine ⟨_, rfl, ?_, ?_, ?_, ?_, ?_⟩
  · rw [State.flag, hraise _ _ (by decide) (by decide), hreg, f_setF_of_apart (by decide), f_setF_of_apart (by decide), ← State.flag,
      flag_setFlag_same rfl (by decide)]
  · rw [hpow]
  · rw [hpow]
  · rw [hraise _ _ (by decide) (by decide), hreg, f_setF_same _ _ _ (by decide)]
    exact Nat.mod_eq_of_lt (show min c 65535 < 2 ^ 16 by omega)
  · rw [hraise _ _ (by decide) (by decide), hreg, f_setF_of_apart (by decide), f_setF_same _ _ _ (by decide)]
    exact Nat.mod_eq_of_lt (f_lt s F.HU_CAP_C_DMF)

theorem bankTests : Claims.BankTests := by
  intro s hpower
  refine ⟨fun value htakes htesting hpending s1 hs1 hsame => exec_huTestRequest htakes htesting hpending hs1 hsame,
    fun value htakes hbit s1 hs1 hup htested => exec_vchgWrite htakes hbit hs1 hup htested, fun hdue htesting hpending => ?_,
    fun hpending hcharged hlow hflush => ?_, fun c htesting hmode => exec_capTestComplete c hpower htesting hmode,
    fun hflush htested hlow => ?_, fun b => ?_⟩
  · show execCapTestTimer s = _
    rw [execCapTestTimer, if_pos (by simpa [-BitVec.toNat_sub, hpower] using hdue), askTest_idle htesting hpending]
  · show execCapTestStart s = _
    rw [execCapTestStart, if_pos (by simpa [hpower, hpending, hlow, hflush] using hcharged)]
  · show execBankReachesVchg s = _
    rw [execBankReachesVchg, if_neg (by simp [hpower, hflush, hlow])]
    simp [htested]
  · show execChargerFault b s = _
    rw [execChargerFault, if_pos hpower]

/-! ### Bank health (R429) -/

/-- The bank is ready where none of the six conditions stands. -/
theorem notReady_eq_zero (s : State) : s.notReady = 0 ↔ 15 * s.power.vchg ≤ 16 * s.f F.HU_STAT_VBANK_DV ∧ s.power.tested = true ∧
    64 ≤ s.f F.HOOP_DIRTY_LIMIT_MAX_MIB ∧ s.power.chargerFault = false ∧ s.power.erased = true ∧ s.power.waiting = none := by
  unfold State.notReady
  rw [← Option.not_isSome_iff_eq_none, ← not_lt, ← not_lt (b := 64)]
  by_cases hbank : 16 * s.f F.HU_STAT_VBANK_DV < 15 * s.power.vchg
  · simp [hbank]
  by_cases hmib : s.f F.HOOP_DIRTY_LIMIT_MAX_MIB < 64
  · cases s.power.tested <;> simp [hbank, hmib]
  · cases s.power.tested <;> cases s.power.chargerFault <;> cases s.power.erased <;> simp [hbank, hmib]

/-- Whether dirty data are written out is no matter of registers or logs. -/
theorem destages_of_core {s t : State} (h : t.core = s.core) : t.destages = s.destages := by
  show t.core.destages = s.core.destages
  rw [h]

/-- Nor of the bank's health as it is shown. -/
theorem destages_setHealthy (s : State) (b fault : Bool) (n : Nat) :
    (((s.setHealthy b).setFlag F.HU_STAT_FAULT fault).setF F.HU_STAT_NOTREADY n).destages = s.destages := rfl

/-- HU_STAT shows health and the first of the conditions (R429). -/
theorem syncBank_shows {s : State} (h : s.destages = false) : s.syncBank.flag F.HU_STAT_HEALTHY = decide (s.notReady = 0) ∧
    s.syncBank.f F.HU_STAT_NOTREADY = s.notReady := by
  have hraise (c : Bool) (u : State) {x : Field} (hx : x.off ≠ R.DEV_EVT)
      (hapart : x.off ≠ R.HU_STAT ∨ x.lo + x.width ≤ 14 ∨ 15 ≤ x.lo) :
      (if c then (u.setFlag F.HU_STAT_EVT true).raiseEvent 6 else u).f x = u.f x := by
    rw [f_ite, f_raiseEvent hx, f_setFlag_of_apart (x := F.HU_STAT_EVT) hapart, ite_self]
  have hdest (c : Bool) (u : State) : (if c then (u.setFlag F.HU_STAT_EVT true).raiseEvent 6 else u).destages = u.destages := by
    cases c with
    | false => rfl
    | true => exact destages_of_core (raiseEvent_core _ _)
  have hlt : s.notReady < 8 := by
    unfold State.notReady
    split_ifs <;> decide
  unfold State.syncBank
  dsimp only
  rw [hdest, destages_setHealthy, h, Bool.and_false, if_neg Bool.false_ne_true]
  refine ⟨?_, ?_⟩
  · rw [State.flag, hraise _ _ (by decide) (by decide), f_setF_of_apart (by decide), f_setFlag_of_apart (by decide), ← State.flag,
      State.setHealthy, flag_setFlag_same rfl (by decide)]
    rfl
  · rw [hraise _ _ (by decide) (by decide), f_setF_same _ _ _ (by decide)]
    exact Nat.mod_eq_of_lt hlt

theorem bankHealth : Claims.BankHealth := fun s => ⟨notReady_eq_zero s, syncBank_shows⟩

/-! ### Thermal rules (R438 to R440) -/

/-- The throttle level by temperature (R439). -/
theorem throttleLevel_eq (l : Nat) (t : Int) (hl : l ≤ 3) : throttleLevel l t =
    if 105 ≤ t then 3 else if 100 ≤ t then max 2 (if l = 3 then 3 else 2) else if 95 ≤ t then (if 2 ≤ l then 2 else 1)
    else if 90 ≤ t then min l 1 else 0 := by
  unfold throttleLevel
  split_ifs <;> omega

/-- What a sensor reads now. -/
theorem cur_reads (x : Sensor) (t : Nat) (now : Word) : (x.reads t now).cur = t := by
  unfold Sensor.reads
  dsimp only
  split
  next h => exact h.symm
  next => rfl

/-- The sensors of a list read in turn, an absent one as no reading. -/
def State.readSensors (s : State) (temps : List Nat) (l : List Nat) : State :=
  l.foldl (fun s i =>
    let x := (s.sensor i).reads (if s.sensorAbsent i then 0x80 else temps.getD i 0x80 % 256) s.tbase
    { s with thermal := { s.thermal with sensors := Tbl.set sensorReset s.thermal.sensors i x } }) s

/-- Each sensor that is there holds its reading (R438). -/
theorem cur_readSensors {temps : List Nat} {l : List Nat} {s : State} {i : Nat} (hpresent : s.sensorAbsent i = false)
    (h : i ∈ l ∨ (s.sensor i).cur = temps.getD i 0x80 % 256) : ((s.readSensors temps l).sensor i).cur = temps.getD i 0x80 % 256 := by
  induction l generalizing s with
  | nil => exact h.resolve_left List.not_mem_nil
  | cons a l ih =>
    rw [State.readSensors, List.foldl_cons]
    refine ih (s := _) hpresent ?_
    by_cases hi : i = a
    · refine .inr ?_
      dsimp only
      rw [State.sensor, Tbl.get_set, if_pos hi, ← hi, cur_reads, hpresent, if_neg Bool.false_ne_true]
    · refine h.imp (fun hmem => (List.mem_cons.mp hmem).resolve_left hi) fun hcur => ?_
      dsimp only
      rw [State.sensor, Tbl.get_set, if_neg hi, ← State.sensor, hcur]

/-- What a poll stores (R438). -/
theorem pollStores_shows (s : State) (temps : List Nat) (vin iin vbank : Nat) (pfail : Bool) :
    let t := s.pollStores temps vin iin vbank pfail
    t.f F.PWR_VIN_VIN_MV = vin % 2 ^ 16 ∧ t.f F.PWR_VIN_IIN_10MA = iin % 2 ^ F.PWR_VIN_IIN_10MA.width ∧
      t.f F.HU_STAT_VBANK_DV = vbank % 2 ^ F.HU_STAT_VBANK_DV.width ∧
      (∀ i < 28, s.sensorAbsent i = false → (t.sensor i).cur = temps.getD i 0x80 % 256) ∧ t.tbase = s.tbase := by
  have hsensor (u : State) (x : Field) (v i : Nat) : (u.setF x v).sensor i = u.sensor i := rfl
  have hflag (u : State) (x : Field) (b : Bool) (i : Nat) : (u.setFlag x b).sensor i = u.sensor i := rfl
  have htbase : (s.readSensors temps (List.range 28)).tbase = s.tbase := by
    refine foldl_keeps State.tbase _ (fun u i => ?_) _ s
    rfl
  unfold State.pollStores
  dsimp only
  refine ⟨?_, ?_, ?_, fun i hi hpresent => ?_, htbase⟩
  · rw [f_setFlag_of_apart (by decide), f_setF_of_apart (by decide), f_setFlag_of_apart (by decide), f_setF_of_apart (by decide),
      f_setF_of_apart (by decide), f_setF_same _ _ _ (by decide)]
    rfl
  · rw [f_setFlag_of_apart (by decide), f_setF_of_apart (by decide), f_setFlag_of_apart (by decide), f_setF_of_apart (by decide),
      f_setF_same _ _ _ (by decide)]
  · rw [f_setFlag_of_apart (by decide), f_setF_same _ _ _ (by decide)]
  · rw [hflag, hsensor, hflag, hsensor, hsensor, hsensor]
    exact cur_readSensors hpresent (.inl (List.mem_range.mpr hi))

theorem thermalRules : Claims.ThermalRules := by
  refine ⟨throttleLevel_eq, fun s temps vin iin vbank pfail hpower => ⟨s.pollStores temps vin iin vbank pfail, ?_,
    pollStores_shows s temps vin iin vbank pfail⟩, ?_, fun s i t hhot hi hdue hpower => ?_, fun s i hi hpower hflush => ?_⟩
  · show execSensorPoll temps vin iin vbank pfail s = _
    simp [execSensorPoll, hpower]
  · intro s hruns hdue s1 t
    have hexec : exec .throttleStepTimer s = .next (
        if s.f F.TEMP_STAT_LEVEL = 1 ∧ 95 ≤ t then s1.setCaps (fun c => if 3 < c then c - 1 else c)
        else if s.f F.TEMP_STAT_LEVEL ≤ 1 ∧ t < 90 then s1.setCaps (fun c => min 7 (c + 1)) else s1) := by
      show execThrottleStepTimer s = _
      simp only [execThrottleStepTimer]
      rw [if_neg (by simpa [-BitVec.toNat_sub, hruns] using hdue)]
    rw [hexec]
    refine ⟨fun hl ht => ?_, fun hl ht => ?_, fun hl => ?_⟩
    · rw [if_pos ⟨hl, ht⟩]
    · rw [if_neg (by omega), if_pos ⟨hl, ht⟩]
    · rw [if_neg (by omega), if_neg (by omega)]
  · show execThermalTrip i s = _
    rw [execThermalTrip, hhot]
    dsimp only
    rw [if_pos ⟨hi, hdue, hpower⟩]
  · show execThermalPowerRemoval i s = _
    rw [execThermalPowerRemoval, if_neg (by simp [hi, hpower]), hflush]

/-- Settles O34: each rule of the bank and of the sensors is one command or what it shares with the others. -/
theorem bankAndThermal : Obligations.BankAndThermal := ⟨bankTests, bankHealth, thermalRules⟩

end Sys2Proof.Machine

/-! ## Health reports, saved counters, corrected errors, HLTH_GET and DUMP_GET (R443, R445 to R450; O50) -/

namespace Sys2Proof.Machine

/-! ### What checking a sled leaves unchanged (R446) -/

/-- A health event writes HLTH_EVT, and what its record and its vector write. -/
theorem reg_healthEvent {off : Nat} (hevt : off ≠ R.DEV_EVT) (hlog : off ≠ R.ELOG_STAT) (hown : off ≠ R.HLTH_EVT) (s : State)
    (code : Nat) (critical : Bool) (src unit : Nat) (detail : Option (BitVec 256)) :
    (s.healthEvent code critical src unit detail).reg off = s.reg off := by
  have hat (h : s.mode.cur ≠ .dormant) :
      (s.logRecAt s.tbase clsHealth src unit code 0 (detail.getD s.freshDetail)).reg off = s.reg off := by
    rw [← reg_logRec hevt hlog s clsHealth src unit code 0 (detail.getD s.freshDetail), State.logRec, if_neg h]
  have hhealth (t : State) (x : Health) : ({ t with health := x } : State).reg off = t.reg off := rfl
  have hfree (t : State) : t.bumpFree.reg off = t.reg off := rfl
  unfold State.healthEvent
  split
  next => rfl
  next h =>
    simp only [State.healthEventAt, reg_raiseEvent hevt, reg_ite, hhealth, State.setFlag, reg_setF_ne _ F.HLTH_EVT_LAST _ off hown,
      reg_setF_ne _ F.HLTH_EVT_CRIT _ off hown, reg_setF_ne _ F.HLTH_EVT_EVT _ off hown, hfree, hat h, ite_self]

/-- What a report takes over from the state it is formed in. -/
def State.reporting (s : State) : List (Nat × Sled) × Word × Nat × List Byte × Word :=
  (s.sleds, s.tbase, s.health.seq, s.health.readable, s.reg R.HLTH_CTL)

theorem reporting_ite (c : Prop) [Decidable c] (s t : State) :
    (if c then s else t).reporting = if c then s.reporting else t.reporting := apply_ite State.reporting c s t

theorem reporting_of_core {s t : State} (h : t.core = s.core) (hctl : t.reg R.HLTH_CTL = s.reg R.HLTH_CTL) :
    t.reporting = s.reporting := by
  have hcore : (t.core.sleds, t.core.tbase, t.core.health.seq, t.core.health.readable) =
      (s.core.sleds, s.core.tbase, s.core.health.seq, s.core.health.readable) := by rw [h]
  obtain ⟨hsleds, htbase, hseq, hread⟩ := by simpa only [Prod.mk.injEq] using hcore
  exact Prod.ext hsleds (Prod.ext htbase (Prod.ext hseq (Prod.ext hread hctl)))

@[simp] theorem healthEvent_reporting (s : State) (code : Nat) (critical : Bool) (src unit : Nat) (detail : Option (BitVec 256)) :
    (s.healthEvent code critical src unit detail).reporting = s.reporting :=
  reporting_of_core (healthEvent_core s code critical src unit detail)
    (reg_healthEvent (by decide) (by decide) (by decide) s code critical src unit detail)

@[simp] theorem setSledHealth_reporting (s : State) (n : Nat) (x : SledHealth) : (s.setSledHealth n x).reporting = s.reporting := by rfl

@[simp] theorem checkSled_reporting (s : State) (n : Nat) : (s.checkSled n).reporting = s.reporting := by
  simp only [State.checkSled, reporting_ite, healthEvent_reporting, setSledHealth_reporting, ite_self]

/-! ### The report (R445, R447) -/

theorem length_flatMap_leBytes {α : Type} (n : Nat) (f : α → Nat) (l : List α) :
    (l.flatMap (fun x => leBytes n (f x))).length = n * l.length := by
  rw [List.length_flatMap, List.map_congr_left (g := fun _ => n) (fun _ _ => length_leBytes _ _), List.map_const', List.sum_replicate,
    smul_eq_mul, mul_comm]

theorem length_moduleReport (s : State) : s.moduleReport.length = 256 := by
  simp only [State.moduleReport, List.length_append, length_leBytes, length_flatMap_leBytes, List.length_range]

theorem length_sledReport (s : State) (n : Nat) : (s.sledReport n).length = 128 := by
  simp only [State.sledReport, List.length_append, length_leBytes, length_flatMap_leBytes, List.length_range]

/-- 320 bytes, and 128 for each enrolled sled (R445). -/
theorem length_healthReport (s : State) (seq : Nat) : (s.healthReport seq).length = 320 + 128 * s.enrolledSleds.length := by
  have hsleds : (s.enrolledSleds.flatMap s.sledReport).length = 128 * s.enrolledSleds.length := by
    rw [List.length_flatMap, List.map_congr_left (g := fun _ => 128) (fun n _ => length_sledReport s n), List.map_const',
      List.sum_replicate, smul_eq_mul, mul_comm]
  simp only [State.healthReport, List.length_append, length_leBytes, length_moduleReport, hsleds]
  omega

/-- A report begins with its magic number and format (R445). -/
theorem take_healthReport (s : State) (seq : Nat) : (s.healthReport seq).take 5 = [0x48, 0x4C, 0x54, 0x48, 0x01] := by
  simp only [State.healthReport, List.append_assoc]
  rfl

/-- R445: a report that is due. -/
theorem healthReportForm_due {s : State} (hreports : s.reports = true) (hpow : s.hw.powered = true)
    (hdue : 100000000 ≤ (s.tbase - s.health.formedAt).toNat) :
    ∃ t : State, exec .healthReportForm s = .next t ∧ t.health.seq = s.health.seq + 1 ∧ t.health.formedAt = s.tbase ∧
      t.health.newest.length = 320 + 128 * s.enrolledSleds.length ∧ t.health.newest.take 5 = [0x48, 0x4C, 0x54, 0x48, 0x01] ∧
      t.health.readable = (if s.flag F.HLTH_CTL_FREEZE then s.health.readable else t.health.newest) := by
  rw [show exec .healthReportForm s = execHealthReportForm s from rfl, execHealthReportForm,
    if_neg (by simp [-BitVec.toNat_sub, hreports, hpow, hdue])]
  dsimp only
  generalize hs1 : s.enrolledSleds.foldl (fun (s : State) n => s.checkSled n) s = s1
  have hkept : s1.reporting = s.reporting := by
    rw [← hs1]
    exact foldl_keeps State.reporting _ checkSled_reporting _ s
  obtain ⟨hsleds, htbase, hseq, hread, hctl⟩ := by simpa only [State.reporting, Prod.mk.injEq] using hkept
  have hlist : s1.enrolledSleds = s.enrolledSleds := by rw [State.enrolledSleds, hsleds, State.enrolledSleds]
  have hfreeze : s1.flag F.HLTH_CTL_FREEZE = s.flag F.HLTH_CTL_FREEZE := by
    simp only [State.flag, State.f, show F.HLTH_CTL_FREEZE.off = R.HLTH_CTL from rfl, hctl]
  have hsent (c : Prop) [Decidable c] (t : State) (m : OutMsg) : (if c then t.send m else t).bumpFree.health = t.health := by
    split <;> rfl
  refine ⟨_, rfl, ?_⟩
  rw [hsent]
  dsimp only
  rw [hseq, hread, htbase, hfreeze, ← hlist]
  exact ⟨rfl, rfl, length_healthReport s1 _, take_healthReport s1 _, rfl⟩

/-! ### HLTH_CTL and the saved counters (R448, R450) -/

/-- R450: saving that is due. -/
theorem healthRecordSave_due {s : State} (hpow : s.hw.powered = true) (hmode : s.mode.cur = .active)
    (hdue : 6000000000 ≤ (s.tbase - s.health.savedAt).toNat) :
    ∃ t : State, exec .healthRecordSave s = .next t ∧ t.health.savedAt = s.tbase ∧ t.health.savedCe = s.health.dramCe ∧
      t.health.savedUe = s.health.dramUe ∧ t.health.savedSleds = s.health.sleds := by
  rw [show exec .healthRecordSave s = execHealthRecordSave s from rfl, execHealthRecordSave]
  dsimp only
  rw [if_neg (by simp [-BitVec.toNat_sub, hpow, hmode, hdue])]
  exact ⟨_, rfl, rfl, rfl, rfl, rfl⟩

/-- FREEZE is the one bit of HLTH_CTL that a write reaches. -/
theorem stored_hlthCtl (s : State) (value : Word) : s.stored R.HLTH_CTL 8 value =
    ((s.reg R.HLTH_CTL).toNat - ((s.reg R.HLTH_CTL).toNat &&& 1)) ||| (value.toNat &&& 1) := by
  have hrw (b : Bool) : fieldMask (regBase R.HLTH_CTL) (fun a => a == .rw || a == .rws || (a == .rwl && b)) = 1 := by cases b <;> rfl
  have hclr : fieldMask (regBase R.HLTH_CTL) (fun a => a == .rw1c) = 0 := by rfl
  have hfit (v : Nat) : clampReg (regBase R.HLTH_CTL) v = v := by rfl
  rw [State.stored]
  simp only [hrw, hclr, hfit]
  rw [show regBase R.HLTH_CTL = R.HLTH_CTL from rfl]
  simp [writtenMask, writtenValue]

/-- FREEZE is what the write says. -/
theorem freeze_storeReg (s : State) (value : Word) : (s.storeReg R.HLTH_CTL 8 value).flag F.HLTH_CTL_FREEZE = bit value.toNat 0 := by
  have hstored : s.stored R.HLTH_CTL 8 value % 2 ^ 1 = value.toNat % 2 ^ 1 := by
    rw [stored_hlthCtl, Nat.or_mod_two_pow, Nat.and_one_is_mod, Nat.and_one_is_mod,
      show ((s.reg R.HLTH_CTL).toNat - (s.reg R.HLTH_CTL).toNat % 2) % 2 ^ 1 = 0 by omega, Nat.zero_or, Nat.mod_mod, pow_one]
  have hreg : (s.storeReg R.HLTH_CTL 8 value).reg R.HLTH_CTL = BitVec.ofNat 64 (s.stored R.HLTH_CTL 8 value) := by
    rw [State.storeReg, show regBase R.HLTH_CTL = R.HLTH_CTL from rfl, reg_setReg_eq, if_pos rfl]
  have hlow (n : Nat) : n % 2 ^ 64 % 2 ^ 1 = n % 2 ^ 1 := by omega
  rw [State.flag, State.f, show F.HLTH_CTL_FREEZE.off = R.HLTH_CTL from rfl, hreg, BitVec.toNat_ofNat]
  show (s.stored R.HLTH_CTL 8 value % 2 ^ 64 / 2 ^ 0 % 2 ^ 1 == 1) = (value.toNat / 2 ^ 0 % 2 ^ 1 == 1)
  rw [pow_zero, Nat.div_one, Nat.div_one, hlow, hstored]

/-- R448: a write of FREEZE. -/
theorem hlthFreeze_taken {s : State} (value : Word) (htakes : s.takesWrite R.HLTH_CTL 8 = true) :
    ∃ t : State, exec (.hlthFreeze 8 value) s = .next t ∧ t.flag F.HLTH_CTL_FREEZE = bit value.toNat 0 ∧
      t.health.newest = s.health.newest ∧ t.health.readable = (if bit value.toNat 0 then s.health.readable else s.health.newest) := by
  have hflag := freeze_storeReg s value
  rw [show exec (.hlthFreeze 8 value) s = execHlthFreeze 8 value s from rfl, execHlthFreeze, gate_of_takesWrite htakes, State.writeHlthCtl]
  dsimp only
  refine ⟨_, rfl, ?_⟩
  generalize hs1 : s.storeReg R.HLTH_CTL 8 value = s1 at hflag
  have hhealth : s1.health = s.health := by rw [← hs1, storeReg_health]
  rw [hflag]
  split
  next => exact ⟨hflag, congrArg _ hhealth, congrArg _ hhealth⟩
  next => exact ⟨hflag, by rw [← hhealth], by rw [← hhealth]⟩

/-! ### Corrected errors (R443) -/

section
variable {s : State} {src unit addr : Nat}

/-- Within 60 s of a record of the unit the error is counted. -/
theorem logCorrected_counts {x : Word} (hrecent : (s.tbase - x).toNat < 6000000000) :
    let d : Nat → CorrUnit := fun _ => { count := 0, lastLog := none }
    let u := Tbl.get d s.corrected (src * 65536 + unit)
    u.lastLog = some x → s.logCorrected src unit addr =
      { s with corrected := Tbl.set d s.corrected (src * 65536 + unit) { count := u.count + 1, lastLog := some x } } := by
  intro d u hlast
  have hlate : ¬ 6000000000 ≤ (s.tbase - x).toNat := by omega
  unfold State.logCorrected
  dsimp only
  rw [show (Tbl.get d s.corrected (src * 65536 + unit)).lastLog = some x from hlast]
  dsimp only
  rw [if_neg (by simpa [-BitVec.toNat_sub] using hlate)]

/-- Else it is logged, with those counted since. -/
theorem logCorrected_logs (hmode : s.mode.cur ≠ .dormant) :
    let u := Tbl.get (fun _ => ({ count := 0, lastLog := none } : CorrUnit)) s.corrected (src * 65536 + unit)
    (u.lastLog = none ∨ ∃ x, u.lastLog = some x ∧ 6000000000 ≤ (s.tbase - x).toNat) → (s.logCorrected src unit addr).elog =
      { slots := Tbl.set noRec s.elog.slots (s.elog.next % 4096) (some
          { tbase := s.tbase, cls := 1, src, unit, code := s.freshVal.toNat % 65536, addr, detail := BitVec.ofNat 256 (u.count + 1),
            seq := s.elog.next + 1 })
        next := s.elog.next + 1 } := by
  intro u hdue
  have hlogs (x : List (Nat × CorrUnit)) := logRec_elog (s := { s with corrected := x }) hmode
    clsCorrectable src unit (s.freshVal.toNat % 65536) addr (BitVec.ofNat 256 (u.count + 1))
  unfold State.logCorrected
  dsimp only
  obtain hnone | ⟨x, hx, hlate⟩ := hdue
  · rw [show (Tbl.get _ s.corrected (src * 65536 + unit)).lastLog = none from hnone]
    exact hlogs _
  · rw [show (Tbl.get _ s.corrected (src * 65536 + unit)).lastLog = some x from hx]
    dsimp only
    rw [if_pos (by simpa [-BitVec.toNat_sub] using hlate)]
    exact hlogs _

end

/-- A corrected error outside the hoop is one of its unit; that of source 5 is also timed. -/
theorem exec_correctedErrorLog {s : State} (hpow : s.hw.powered = true) (src unit addr : Nat) : ∃ p : PairState,
    exec (.correctedErrorLog src unit addr none) s = .next (({ s with pair := p } : State).logCorrected src unit addr) := by
  rw [show exec (.correctedErrorLog src unit addr none) s = execCorrectedErrorLog src unit addr none s from rfl, execCorrectedErrorLog]
  dsimp only
  rw [if_neg (by simp [hpow])]
  by_cases h : src = 5
  · rw [if_pos h]
    exact ⟨_, rfl⟩
  · rw [if_neg h]
    exact ⟨s.pair, rfl⟩

/-! ### HLTH_GET and DUMP_GET (R449, R454) -/

theorem exec_hlthGet_newest {s : State} (hpow : s.hw.powered = true) (offset : Nat) : exec (.hlthGet 0 offset) s = .next (s.send
    (if s.health.newest.length ≤ offset then .management 0x21 ([1, 0, 0, 0] ++ leBytes 4 s.health.newest.length)
      else .management 0x21 ([0, 0, 0, 0] ++ leBytes 4 s.health.newest.length ++ (s.health.newest.drop offset).take 1024))) := by
  rw [show exec (.hlthGet 0 offset) s = execHlthGet 0 offset s from rfl, execHlthGet, hpow]
  rfl

theorem exec_hlthGet_federation {s : State} (hpow : s.hw.powered = true) (hcoord : s.coordinates = false) (offset : Nat) :
    exec (.hlthGet 1 offset) s = .next (s.send (.management 0x21 [3, 0, 0, 0, 0, 0, 0, 0])) := by
  rw [show exec (.hlthGet 1 offset) s = execHlthGet 1 offset s from rfl, execHlthGet, hpow, hcoord]
  rfl

theorem exec_dumpGet_none {s : State} (hpow : s.hw.powered = true) {src len : Nat} (offset : Nat) (hsrc : src ≤ 2) (hone : 1 ≤ len)
    (hlen : len ≤ 1024) : ∃ t : State, exec (.dumpGet src len offset) s = .next t ∧ (s.dumpOf src = none →
      t.out = s.out ++ [.management 0x23 ([1, 0, 0, 0, 0, 0, 0, 0] ++ leBytes 8 offset)]) := by
  have hserved : ¬ (2 < src ∨ len = 0 ∨ 1024 < len) := by omega
  rw [show exec (.dumpGet src len offset) s = execDumpGet src len offset s from rfl, execDumpGet]
  dsimp only
  rw [if_neg (by simp [hpow, hserved])]
  refine ⟨_, rfl, fun hnone => ?_⟩
  rw [hnone]
  rfl

/-- Settles O50: the reports, the saved counters, the corrected errors, and the answers of HLTH_GET and DUMP_GET. -/
theorem healthCommands : Obligations.HealthCommands := by
  unfold Obligations.HealthCommands
  refine ⟨fun s => healthReportForm_due, fun s => healthRecordSave_due, fun s value => hlthFreeze_taken value, ?_, ?_, ?_, ?_⟩
  · intro s src unit addr hpow _ _ u
    obtain ⟨p, hexec⟩ := exec_correctedErrorLog hpow src unit addr
    refine ⟨fun x hlast hrecent => ⟨_, hexec, ?_⟩, fun hmode hdue => ⟨_, hexec, ?_⟩⟩
    · rw [logCorrected_counts (s := { s with pair := p }) hrecent hlast]
      exact ⟨rfl, by rw [Tbl.get_set, if_pos rfl]⟩
    · rw [logCorrected_logs (s := { s with pair := p }) hmode hdue]
      refine ⟨rfl, ?_⟩
      rw [Tbl.get_set, if_pos rfl]
      rfl
  · intro s offset hpow
    refine ⟨fun hbeyond => ⟨_, exec_hlthGet_newest hpow offset, ?_⟩, fun hwithin => ⟨_, exec_hlthGet_newest hpow offset, ?_⟩⟩
    · rw [if_pos hbeyond]
      rfl
    · rw [if_neg (by omega)]
      rfl
  · exact fun s offset hpow hcoord => ⟨_, exec_hlthGet_federation hpow hcoord offset, rfl⟩
  · exact fun s src len offset hpow hsrc hone hlen => exec_dumpGet_none hpow offset hsrc hone hlen

end Sys2Proof.Machine

/-! ## Entry into Halted and the fatal dump (R442, R451 to R454; O51) -/

namespace Sys2Proof.Machine

/-! ### What follows the entry into Halted leaves unchanged -/

/-- The mode, the dump and the registers that show the cause of a halt and the state of its dump. -/
def State.haltView (s : State) : ModeReg × DumpState × Word × Word × Word :=
  (s.mode, s.dump, s.reg R.DEV_HALT_CAUSE, s.reg R.DEV_HALT_DETAIL, s.reg R.HLTH_DMP_STAT)

theorem haltView_ite (c : Prop) [Decidable c] (s t : State) :
    (if c then s else t).haltView = if c then s.haltView else t.haltView := apply_ite State.haltView c s t

/-- What writes other registers, and neither the mode nor the dump, leaves the view. -/
theorem haltView_of_reg {s t : State} (hmode : t.mode = s.mode) (hdump : t.dump = s.dump)
    (hreg : ∀ off, off = R.DEV_HALT_CAUSE ∨ off = R.DEV_HALT_DETAIL ∨ off = R.HLTH_DMP_STAT → t.reg off = s.reg off) :
    t.haltView = s.haltView := by
  simp only [State.haltView, hmode, hdump, hreg R.DEV_HALT_CAUSE (.inl rfl), hreg R.DEV_HALT_DETAIL (.inr (.inl rfl)),
    hreg R.HLTH_DMP_STAT (.inr (.inr rfl))]

/-- What leaves all registers, the mode and the dump. -/
theorem haltView_congr {s t : State} (hmode : t.mode = s.mode) (hdump : t.dump = s.dump) (hbar : t.bar0 = s.bar0) :
    t.haltView = s.haltView :=
  haltView_of_reg hmode hdump fun off _ => by rw [State.reg, hbar, State.reg]

/-- A register between DEV_HALT_DETAIL and HLTH_DMP_STAT, or above it, is none of the three. -/
theorem setReg_haltView {off : Nat} (h : 0x30 < off ∧ off < 0x580030 ∨ 0x580030 < off) (s : State) (w : Word) :
    (s.setReg off w).haltView = s.haltView := by
  refine haltView_of_reg rfl rfl fun k hk => ?_
  rw [reg_setReg_eq, if_neg]
  simp only [R.DEV_HALT_CAUSE, R.DEV_HALT_DETAIL, R.HLTH_DMP_STAT] at hk
  omega

theorem setF_haltView {x : Field} (h : 0x30 < x.off ∧ x.off < 0x580030 ∨ 0x580030 < x.off) (s : State) (v : Nat) :
    (s.setF x v).haltView = s.haltView := setReg_haltView h s _

theorem setFlag_haltView {x : Field} (h : 0x30 < x.off ∧ x.off < 0x580030 ∨ 0x580030 < x.off) (s : State) (b : Bool) :
    (s.setFlag x b).haltView = s.haltView := setReg_haltView h s _

@[simp] theorem bumpFree_haltView (s : State) : s.bumpFree.haltView = s.haltView := haltView_congr rfl rfl rfl

@[simp] theorem send_haltView (s : State) (m : OutMsg) : (s.send m).haltView = s.haltView := haltView_congr rfl rfl rfl

@[simp] theorem setEp_haltView (s : State) (e : Nat) (x : Endpoint) : (s.setEp e x).haltView = s.haltView := by
  unfold State.setEp
  split <;> exact haltView_congr rfl rfl rfl

/-- Logging and events lie outside the core, and outside the three registers. -/
theorem haltView_of_core {s t : State} (h : t.core = s.core)
    (hreg : ∀ off, off = R.DEV_HALT_CAUSE ∨ off = R.DEV_HALT_DETAIL ∨ off = R.HLTH_DMP_STAT → t.reg off = s.reg off) :
    t.haltView = s.haltView := haltView_of_reg (mode_of_core h) (dump_of_core h) hreg

@[simp] theorem raiseEvent_haltView (s : State) (i : Nat) : (s.raiseEvent i).haltView = s.haltView :=
  haltView_of_core (raiseEvent_core s i) fun off hoff =>
    reg_raiseEvent (by obtain rfl | rfl | rfl := hoff <;> decide) s i

@[simp] theorem logRec_haltView (s : State) (cls src unit code addr : Nat) (detail : BitVec 256) :
    (s.logRec cls src unit code addr detail).haltView = s.haltView :=
  haltView_of_core (logRec_core s cls src unit code addr detail) fun off hoff =>
    reg_logRec (by obtain rfl | rfl | rfl := hoff <;> decide) (by obtain rfl | rfl | rfl := hoff <;> decide) s cls src unit code addr detail

@[simp] theorem logAon_haltView (s : State) (code detail : Nat) : (s.logAon code detail).haltView = s.haltView :=
  haltView_of_core (logAon_core s code detail) fun off hoff =>
    reg_logAon (by obtain rfl | rfl | rfl := hoff <;> decide) s code detail

@[simp] theorem aer_haltView (s : State) (e : Nat) (k : AerError) (sev : Severity) : (s.aer e k sev).haltView = s.haltView := by
  simp only [State.aer, bumpFree_haltView, haltView_ite, logAon_haltView, logRec_haltView, send_haltView, setEp_haltView, ite_self]

@[simp] theorem setChan_haltView (s : State) (n : Nat) (x : ShtChan) : (s.setChan n x).haltView = s.haltView := haltView_congr rfl rfl rfl

@[simp] theorem shtForget_haltView (s : State) (n : Nat) : (s.shtForget n).haltView = s.haltView := haltView_congr rfl rfl rfl

/-- The status of a Shuttle channel lies below the health block. -/
theorem shtStat_apart {n : Nat} (hn : n < 32) : 0x30 < R.SHT_CH_STAT n ∧ R.SHT_CH_STAT n < 0x580030 ∨ 0x580030 < R.SHT_CH_STAT n := by
  unfold R.SHT_CH_STAT
  omega

theorem stopChan_haltView {n : Nat} (hn : n < 32) (s : State) (ecode : Nat) : (s.stopChan n ecode).haltView = s.haltView := by
  have hstat := shtStat_apart hn
  simp only [State.stopChan, haltView_ite, shtForget_haltView, setChan_haltView,
    setFlag_haltView (x := F.SHT_CH_STAT_ERR n) hstat, setFlag_haltView (x := F.SHT_CH_STAT_QUEUED n) hstat,
    setFlag_haltView (x := F.SHT_CH_STAT_DROPPED n) hstat, setF_haltView (x := F.SHT_CH_STAT_STATE n) hstat,
    setF_haltView (x := F.SHT_CH_STAT_ECODE n) hstat, ite_self]

@[simp] theorem stopShuttle_haltView (s : State) : s.stopShuttle.haltView = s.haltView :=
  foldl_keeps_of_mem State.haltView _ _ (fun t _ hn => stopChan_haltView (List.mem_range.mp hn) t 10) s

@[simp] theorem dumpWindows_haltView (s : State) : s.dumpWindows.haltView = s.haltView := by
  refine foldl_keeps_of_mem State.haltView _ _ (fun t i hi => ?_) s
  have hw := List.mem_range.mp hi
  rw [setReg_haltView (by unfold R.WIN_W0; omega), setReg_haltView (by unfold R.WIN_W1; omega)]

@[simp] theorem slowClocks_haltView (s : State) : s.slowClocks.haltView = s.haltView := by
  refine foldl_keeps State.haltView _ (fun t c => ?_) _ s
  have hclk : 0x30 < R.SE_CLK c ∧ R.SE_CLK c < 0x580030 ∨ 0x580030 < R.SE_CLK c := by
    unfold R.SE_CLK
    omega
  rw [setFlag_haltView (x := F.SE_CLK_BUSY c) hclk, setF_haltView (x := F.SE_CLK_CUR c) hclk]

@[simp] theorem ltrSync_haltView (s : State) : s.ltrSync.haltView = s.haltView := by
  refine foldl_keeps State.haltView _ (fun t e => ?_) _ s
  split
  · rw [haltView_ite, send_haltView, setEp_haltView, ite_self]
  · rfl

@[simp] theorem sayHello_haltView (s : State) : s.sayHello.haltView = s.haltView :=
  foldl_keeps State.haltView _ (fun t _ => send_haltView t _) _ s

/-! ### Entering Halted (R451, R452) -/

/-- The mode that a halt enters. -/
def State.haltedMode (s : State) (cause : Nat) : ModeReg :=
  { s.mode with cur := .halted, busy := false, tgt := .halted, cause := cause, draining := false, prev := s.mode.cur }

/-- The dump that a halt begins. -/
def State.begunDump (s : State) : DumpState :=
  { s.dump with dseq := s.dump.dseq + 1, prevMode := s.mode.cur, tdetect := s.tbase, snapshot := none
                imageEnded := false, imageRunning := true, inDram := none }

/-- DEV_HALT_CAUSE of a halt. -/
def haltCause (kind mcode : Nat) (cq : Bool) (ring index unit : Nat) : Nat :=
  kind + 2 ^ 8 * mcode + 2 ^ 12 * cq.toNat + 2 ^ 13 * (ring % 1024) + 2 ^ 23 * (index % 2 ^ 17) + 2 ^ 40 * unit

/-- HLTH_DMP_STAT as a halt begins a dump. -/
def State.dumpShown (s : State) (dseq : Nat) : State :=
  ((s.setF F.HLTH_DMP_STAT_STATE 1).setFlag F.HLTH_DMP_STAT_PARTIAL false).setF F.HLTH_DMP_STAT_DSEQ dseq

/-- It shows a dump that is being taken, and the cause stays. -/
theorem dumpShown_shows (s : State) (dseq : Nat) : (s.dumpShown dseq).f F.HLTH_DMP_STAT_STATE = 1 ∧
    (s.dumpShown dseq).reg R.DEV_HALT_CAUSE = s.reg R.DEV_HALT_CAUSE ∧
    (s.dumpShown dseq).reg R.DEV_HALT_DETAIL = s.reg R.DEV_HALT_DETAIL := by
  have hother (off : Nat) (hoff : off ≠ R.HLTH_DMP_STAT) : (s.dumpShown dseq).reg off = s.reg off := by
    rw [State.dumpShown, State.setFlag, reg_setF_ne _ F.HLTH_DMP_STAT_DSEQ _ off hoff,
      reg_setF_ne _ F.HLTH_DMP_STAT_PARTIAL _ off hoff, reg_setF_ne _ F.HLTH_DMP_STAT_STATE _ off hoff]
  refine ⟨?_, hother _ (by decide), hother _ (by decide)⟩
  rw [State.dumpShown, f_setF_of_apart (by decide), f_setFlag_of_apart (by decide), f_setF_same _ _ _ (by decide)]
  rfl

section
variable {s : State} (hcur : s.mode.cur ≠ .halted) (hflush : s.mode.cur ≠ .flush)
include hcur hflush

/-- What a halt shows is what it writes: the rest of it is elsewhere. -/
theorem halt_haltView (kind mcode : Nat) (cq : Bool) (ring index unit detail : Nat) : ∃ u : State,
    u.haltView = (s.haltedMode 7, s.begunDump, BitVec.ofNat 64 (haltCause kind mcode cq ring index unit),
      BitVec.ofNat 64 (detail % 2 ^ 32 + 2 ^ 32 * bits s.tbase.toNat 10 32), s.reg R.HLTH_DMP_STAT) ∧
    (s.halt 7 kind mcode cq ring index unit detail).haltView = (u.dumpShown (s.dump.dseq + 1)).haltView := by
  unfold State.halt
  extract_lets s1 v s2 mode m dump d s3 s4 s5
  rw [if_neg (by simp [hcur, hflush])]
  have hs1 : s1.haltView = s.haltView := by rw [bumpFree_haltView, logRec_haltView]
  obtain ⟨hmode, hdump, hcause, hdetail, hstat⟩ := by simpa only [State.haltView, Prod.mk.injEq] using hs1
  have hs2 (off : Nat) : s2.reg off = if off = R.DEV_HALT_DETAIL then
      BitVec.ofNat 64 (detail % 2 ^ 32 + 2 ^ 32 * bits s.tbase.toNat 10 32)
      else if off = R.DEV_HALT_CAUSE then BitVec.ofNat 64 v else s1.reg off := by
    simp only [s2, reg_setReg_eq]
  have hm : m = s.haltedMode 7 := by
    show ({ s1.mode with
      cur := .halted, busy := false, tgt := .halted, cause := 7, draining := false, prev := s.mode.cur } : ModeReg) = _
    rw [hmode, State.haltedMode]
  have hd : d = s.begunDump := by
    show ({ s1.dump with
      dseq := s.dump.dseq + 1, prevMode := s.mode.cur, tdetect := s.tbase, snapshot := none
      imageEnded := false, imageRunning := true, inDram := none } : DumpState) = _
    rw [hdump, State.begunDump]
  have hs4 : s4.haltView = s3.haltView := by
    simp only [s4, haltView_ite]
    rw [foldl_keeps State.haltView _ (fun t e => aer_haltView t e _ _), ite_self]
  refine ⟨s4.dumpWindows, ?_, ?_⟩
  · rw [dumpWindows_haltView, hs4, raiseEvent_haltView, stopShuttle_haltView]
    show (m, d, s2.reg R.DEV_HALT_CAUSE, s2.reg R.DEV_HALT_DETAIL, s2.reg R.HLTH_DMP_STAT) = _
    rw [hs2, hs2, hs2, if_neg (by decide), if_pos rfl, if_pos rfl, if_neg (by decide), if_neg (by decide), hstat, hm, hd]
    rfl
  · rw [haltView_ite, sayHello_haltView, ite_self, ltrSync_haltView, slowClocks_haltView]
    rfl

/-- R451, R452: a halt of CAUSE 7, and the dump that it begins. -/
theorem halt_enters {kind unit : Nat} (hkind : kind < 256) (hunit : unit < 256) (detail : Nat) :
    let t := s.halt 7 kind 0 false 0 0 unit detail
    t.mode.cur = .halted ∧ t.mode.cause = 7 ∧ t.mode.prev = s.mode.cur ∧ t.f F.DEV_HALT_CAUSE_KIND = kind ∧
      t.f F.DEV_HALT_CAUSE_UNIT = unit ∧ t.f F.DEV_HALT_DETAIL_DETAIL = detail % 2 ^ 32 ∧ t.f F.HLTH_DMP_STAT_STATE = 1 ∧
      t.dump.dseq = s.dump.dseq + 1 ∧ t.dump.tdetect = s.tbase := by
  obtain ⟨u, hu, ht⟩ := halt_haltView hcur hflush kind 0 false 0 0 unit detail
  generalize s.halt 7 kind 0 false 0 0 unit detail = t at ht
  obtain ⟨humode, hudump, hucause, hudetail, -⟩ := by simpa only [State.haltView, Prod.mk.injEq] using hu
  obtain ⟨htmode, htdump, htcause, htdetail, htstat⟩ := by simpa only [State.haltView, Prod.mk.injEq] using ht
  obtain ⟨hstate, hcause, hdetail⟩ := dumpShown_shows u (s.dump.dseq + 1)
  have hmode : t.mode = s.haltedMode 7 := htmode.trans humode
  have hdump : t.dump = s.begunDump := htdump.trans hudump
  have hv : haltCause kind 0 false 0 0 unit = kind + 2 ^ 40 * unit := by simp [haltCause]
  have hcause : t.reg R.DEV_HALT_CAUSE = BitVec.ofNat 64 (kind + 2 ^ 40 * unit) := by rw [htcause, hcause, hucause, hv]
  have hdetail : t.reg R.DEV_HALT_DETAIL = BitVec.ofNat 64 (detail % 2 ^ 32 + 2 ^ 32 * bits s.tbase.toNat 10 32) := by
    rw [htdetail, hdetail, hudetail]
  have hkindAt : (kind + 2 ^ 40 * unit) % 2 ^ 64 / 2 ^ 0 % 2 ^ 8 = kind := by omega
  have hunitAt : (kind + 2 ^ 40 * unit) % 2 ^ 64 / 2 ^ 40 % 2 ^ 8 = unit := by omega
  have hdetailAt (n : Nat) : (detail % 2 ^ 32 + 2 ^ 32 * n) % 2 ^ 64 / 2 ^ 0 % 2 ^ 32 = detail % 2 ^ 32 := by omega
  refine ⟨by rw [hmode, State.haltedMode], by rw [hmode, State.haltedMode], by rw [hmode, State.haltedMode], ?_, ?_, ?_, ?_,
    by rw [hdump, State.begunDump], by rw [hdump, State.begunDump]⟩
  · rw [State.f, show F.DEV_HALT_CAUSE_KIND.off = R.DEV_HALT_CAUSE from rfl, hcause, BitVec.toNat_ofNat]
    exact hkindAt
  · rw [State.f, show F.DEV_HALT_CAUSE_UNIT.off = R.DEV_HALT_CAUSE from rfl, hcause, BitVec.toNat_ofNat]
    exact hunitAt
  · rw [State.f, show F.DEV_HALT_DETAIL_DETAIL.off = R.DEV_HALT_DETAIL from rfl, hdetail, BitVec.toNat_ofNat]
    exact hdetailAt _
  · rw [← hstate, State.f, show F.HLTH_DMP_STAT_STATE.off = R.HLTH_DMP_STAT from rfl, htstat]
    rfl

end

/-- R452: a halt in Halted is logged. -/
theorem halt_halted {s : State} (hcur : s.mode.cur = .halted) (cause kind mcode : Nat) (cq : Bool) (ring index unit detail : Nat) :
    let t := s.halt cause kind mcode cq ring index unit detail
    t.mode = s.mode ∧ t.reg R.DEV_HALT_CAUSE = s.reg R.DEV_HALT_CAUSE ∧ t.elog.next = s.elog.next + 1 := by
  intro t
  have ht : t = (s.logRec clsFatal (fatalSrc kind unit) (fatalUnit kind ring unit) kind 0 s.freshDetail).bumpFree := if_pos (.inl hcur)
  have hdormant : s.mode.cur ≠ .dormant := by simp [hcur]
  have hview : t.haltView = s.haltView := by rw [ht, bumpFree_haltView, logRec_haltView]
  obtain ⟨hmode, -, hcause, -, -⟩ := by simpa only [State.haltView, Prod.mk.injEq] using hview
  refine ⟨hmode, hcause, ?_⟩
  rw [ht]
  exact congrArg ErrorLog.next (logRec_elog hdormant _ _ _ _ _ _)

/-! ### The fatal conditions (R451) -/

/-- The conditions that R451 names, and what they halt with. -/
theorem exec_fatal {s : State} (hpow : s.hw.powered = true) (hmode : s.mode.cur ≠ .dormant) (hcap : s.capturing = false)
    {c : Instr} {kind unit detail : Nat}
    (hc : (c = .uncorrectableStructureError unit ∧ unit < 13 ∧ kind = 2 ∧ detail = 0) ∨
      (c = .firmwareInconsistency unit detail ∧ unit < 4 ∧ kind = 8) ∨ (c = .watchdogExpiry unit [] ∧ unit < 4 ∧ kind = 7 ∧ detail = 0)) :
    exec c s = .next (s.halt 7 kind 0 false 0 0 unit detail) ∧ kind < 256 ∧ unit < 256 := by
  have hidle : ¬ (!s.hw.powered || s.mode.cur == .dormant) = true := by simp [hpow, hmode]
  obtain ⟨rfl, hunit, rfl, rfl⟩ | ⟨rfl, hunit, rfl⟩ | ⟨rfl, hunit, rfl, rfl⟩ := hc
  · refine ⟨?_, by decide, by omega⟩
    rw [show exec (.uncorrectableStructureError unit) s = execUncorrectableStructureError unit s from rfl,
      execUncorrectableStructureError, if_neg hidle]
  · refine ⟨?_, by decide, by omega⟩
    rw [show exec (.firmwareInconsistency unit detail) s = execFirmwareInconsistency unit detail s from rfl,
      execFirmwareInconsistency, if_neg hidle, Nat.mod_eq_of_lt hunit]
  · refine ⟨?_, by decide, by omega⟩
    rw [show exec (.watchdogExpiry unit []) s = execWatchdogExpiry unit [] s from rfl, execWatchdogExpiry]
    dsimp only
    rw [if_neg hidle, hcap, if_neg Bool.false_ne_true, Nat.mod_eq_of_lt hunit]

/-! ### The dump (R452 to R454) -/

/-- What capturing asks for (R452). -/
theorem capturing_iff {s : State} : s.capturing = true ↔
    ((s.mode.cur = .halted ∧ s.f F.HLTH_DMP_STAT_STATE = 1) ∧ s.power.flush = none) ∧ s.hw.powered = true := by
  simp [State.capturing, and_assoc]

/-- HLTH_DMP_STAT of a dump that stands in DRAM. -/
theorem dumpDone_shows (s : State) (part : Bool) (body : List Nat) :
    (s.dumpDone part body).f F.HLTH_DMP_STAT_STATE = 2 ∧ (s.dumpDone part body).flag F.HLTH_DMP_STAT_PARTIAL = part := by
  unfold State.dumpDone
  extract_lets s0 d lo hi dump s1
  have hfree (t : State) (x : Field) : t.bumpFree.f x = t.f x := rfl
  refine ⟨?_, ?_⟩
  · rw [hfree, f_setFlag_of_apart (by decide), f_setF_same _ _ _ (by decide)]
    rfl
  · rw [State.flag, hfree, ← State.flag, flag_setFlag_same rfl (by decide)]

/-- Bytes that were written at the start read back. -/
theorem readBytes_writeBytes_zero {bs : List Byte} (m : Mem) (k n : Nat) (h : k + n ≤ bs.length) :
    (m.writeBytes 0 bs).readBytes k n = (bs.drop k).take n := by
  induction n generalizing k with
  | zero => rfl
  | succ n ih =>
    have hk : k < bs.length := by omega
    have hread : (m.writeBytes 0 bs).read k = bs[k] := by
      rw [← Mem.read_writeBytes_in bs m 0 k hk, Nat.zero_add]
    rw [Mem.readBytes, hread, ih (k + 1) (by omega), List.drop_eq_getElem_cons hk, List.take_succ_cons]

/-- A dump's header begins with MAGIC, FMT and PARTIAL, and holds its DSEQ (R453). -/
theorem dumpHeader_begins (s : State) (part : Bool) (secs : List (Nat × Nat × List Byte)) (len : Nat) : ∃ rest : List Byte,
    s.dumpHeader part secs len = [0x44, 0x55, 0x4D, 0x50, 0x01] ++ leBytes 1 part.toNat ++ leBytes 2 secs.length ++
      leBytes 8 s.dump.dseq ++ rest := by
  unfold State.dumpHeader
  extract_lets slot id b
  simp only [b, List.append_assoc]
  exact ⟨_, rfl⟩

/-- So it reads back from the memory of a dump that is complete. -/
theorem formDump_header (s : State) (body : List Nat) :
    (s.formDump false body).mem.readBytes 0 6 = [0x44, 0x55, 0x4D, 0x50, 0x01, 0x00] ∧
      (s.formDump false body).mem.readBytes 8 8 = leBytes 8 s.dump.dseq := by
  unfold State.formDump
  extract_lets head rest secs len bytes
  obtain ⟨more, hheader⟩ := dumpHeader_begins s false secs len
  have hlen : 16 ≤ (s.dumpHeader false secs len).length := by
    rw [hheader]
    simp only [List.length_append, length_leBytes, List.length_cons, List.length_nil]
    omega
  dsimp only
  rw [readBytes_writeBytes_zero bytes 0 6 (by omega), readBytes_writeBytes_zero bytes 8 8 (by omega), hheader]
  refine ⟨rfl, ?_⟩
  rw [List.append_assoc, List.drop_left' (by simp), List.take_left' (by simp)]

/-- DEV_MODE as the register table has it. -/
def devModeRow : RegRow :=
  ⟨0x18, 8, 1, 8, 1, [⟨0, 3, .ro, 1⟩, ⟨3, 1, .ro, 0⟩, ⟨4, 3, .ro, 1⟩, ⟨7, 1, .wo, 0⟩, ⟨12, 3, .wo, 0⟩, ⟨15, 1, .rw1c, 0⟩, ⟨16, 8, .ro, 0⟩]⟩

/-- DEV_MODE is a register. -/
theorem devMode_mem_allRegs : R.DEV_MODE ∈ allRegs := by
  have hglobal : devModeRow ∈ regRows_global := by decide
  exact List.mem_flatMap.mpr ⟨devModeRow, by simp only [regRows, List.mem_append, hglobal, true_or], by decide⟩

/-- R453: the snapshot has every register of a present island with its value, DEV_MODE among them. -/
theorem snapshotNow_holds (s : State) :
    (∀ e ∈ s.snapshotNow, e.2 = s.readReg e.1) ∧ (R.DEV_MODE, s.readReg R.DEV_MODE) ∈ s.snapshotNow := by
  have hpresent : ((arrayOf R.DEV_MODE).isSome || !s.absentAt R.DEV_MODE) = true := by rfl
  refine ⟨fun e he => ?_, List.mem_map.mpr ⟨R.DEV_MODE, List.mem_filter.mpr ⟨devMode_mem_allRegs, hpresent⟩, rfl⟩⟩
  obtain ⟨off, -, rfl⟩ := List.mem_map.mp he
  rfl

/-- The other slot of the vault (R454). -/
theorem dumpSlot_setDumpSlot (s : State) (i k : Nat) (d : Option Dump) :
    (s.setDumpSlot i d).dumpSlot k = if k % 2 = i % 2 then d else s.dumpSlot k := by
  obtain hi | hi := Nat.mod_two_eq_zero_or_one i <;> obtain hk | hk := Nat.mod_two_eq_zero_or_one k <;>
    simp [State.dumpSlot, State.setDumpSlot, hi, hk]

/-- A slot that holds a dump is one of those that count. -/
theorem vaultDumps_ne_nil {s : State} {i : Nat} {d : Dump} (h : s.dumpSlot i = some d) : s.vaultDumps ≠ [] := by
  unfold State.vaultDumps
  split
  next => split <;> exact List.cons_ne_nil _ _
  next => exact List.cons_ne_nil _ _
  next => exact List.cons_ne_nil _ _
  next h0 h1 => simp [State.dumpSlot, h0, h1] at h

/-- A dump in the vault has its address shown. -/
theorem valid_syncVaddr {s : State} {i : Nat} {d : Dump} (h : s.dumpSlot i = some d) :
    s.syncVaddr.flag F.HLTH_DMP_VADDR_VALID = true := by
  obtain ⟨first, rest, hlist⟩ := List.exists_cons_of_ne_nil (vaultDumps_ne_nil h)
  rw [State.syncVaddr, hlist]
  dsimp only
  rw [flag_setFlag_same rfl (by decide)]

/-- The address that is shown is in a register. -/
theorem dump_syncVaddr (s : State) : s.syncVaddr.dump = s.dump := by
  have hshown (n : Nat) (b : Bool) : ((s.setF F.HLTH_DMP_VADDR_ADDR n).setFlag F.HLTH_DMP_VADDR_VALID b).dump = s.dump := rfl
  unfold State.syncVaddr
  split
  next => exact hshown _ _
  next => exact hshown _ _

/-- R454: a dump that is written to the vault. -/
theorem saveDump_shows (s : State) (d : Dump) : (s.saveDump d).dumpSlot d.dseq = some d ∧
    (s.saveDump d).dumpSlot (d.dseq + 1) = s.dumpSlot (d.dseq + 1) ∧ (s.saveDump d).flag F.HLTH_DMP_VADDR_VALID = true := by
  unfold State.saveDump
  extract_lets s1
  have hslot (k : Nat) : (s1.setDumpSlot d.dseq (some d)).syncVaddr.dumpSlot k = if k % 2 = d.dseq % 2 then some d else s.dumpSlot k := by
    rw [State.dumpSlot, dump_syncVaddr, ← State.dumpSlot, dumpSlot_setDumpSlot]
    rfl
  refine ⟨by rw [hslot, if_pos rfl], by rw [hslot, if_neg (by omega)], valid_syncVaddr (i := d.dseq) (d := d) ?_⟩
  rw [dumpSlot_setDumpSlot, if_pos rfl]

/-! ### The obligation -/

/-- The first part of O51. -/
theorem fatalConditions : Claims.FatalConditions := by
  refine ⟨fun s c kind unit detail hpow hmode hc => ⟨fun hcur hflush => ?_, fun hcur hcap => ?_⟩, fun s core body hcap => ?_⟩
  · have hcap : s.capturing = false := by simp [State.capturing, hcur]
    obtain ⟨hexec, hkind, hunit⟩ := exec_fatal hpow hmode hcap hc
    exact ⟨_, hexec, halt_enters hcur hflush hkind hunit detail⟩
  · obtain ⟨hexec, -, -⟩ := exec_fatal hpow hmode hcap hc
    exact ⟨_, hexec, halt_halted hcur 7 kind 0 false 0 0 unit detail⟩
  · obtain ⟨⟨⟨hcur, -⟩, -⟩, hpow⟩ := capturing_iff.mp hcap
    rw [show exec (.watchdogExpiry core body) s = execWatchdogExpiry core body s from rfl, execWatchdogExpiry]
    dsimp only
    rw [if_neg (by simp [hpow, hcur]), hcap, if_pos rfl]
    exact ⟨_, rfl, dumpDone_shows _ true body⟩

/-- The second part of O51. -/
theorem dumpSequence : Claims.DumpSequence := by
  refine ⟨fun s hcap hnone => ?_, fun s hcap hsome => ?_, fun s body hcap hlate => ?_, ?_, ?_⟩
  · rw [show exec .registerSnapshotCaptured s = execRegisterSnapshotCaptured s from rfl, execRegisterSnapshotCaptured,
      if_pos (by simp [hcap, hnone]), State.snapped, if_neg (by simp [hnone])]
    obtain ⟨hvalues, hmode⟩ := snapshotNow_holds s
    exact ⟨_, s.snapshotNow, rfl, rfl, hvalues, hmode, rfl, rfl⟩
  · rw [show exec .dumpInDramComplete s = execDumpInDramComplete s from rfl, execDumpInDramComplete, if_pos (by simp [hcap, hsome])]
    obtain ⟨hstate, hpartial⟩ := dumpDone_shows s false [7, 8, 9]
    have hsnapped : s.snapped = s := by rw [State.snapped, if_pos hsome]
    obtain ⟨hmagic, hdseq⟩ := formDump_header s [7, 8, 9]
    refine ⟨_, s.formDump false [7, 8, 9], rfl, hstate, hpartial, ?_, rfl, hmagic, hdseq⟩
    rw [State.dumpDone, hsnapped]
    rfl
  · rw [show exec (.dumpCaptureTimeout body) s = execDumpCaptureTimeout body s from rfl, execDumpCaptureTimeout,
      if_pos (by simp [-BitVec.toNat_sub, hcap, hlate])]
    exact ⟨_, rfl, dumpDone_shows s true body⟩
  · intro s hcur hrunning hflush hpow hwaits
    rw [show exec .haltVaultImageCommit s = execHaltVaultImageCommit s from rfl, execHaltVaultImageCommit]
    dsimp only
    rw [if_neg (by simp [hcur, hrunning, hflush, hpow]), hwaits, if_neg Bool.false_ne_true]
    refine ⟨_, rfl, rfl, rfl, fun hdue => ?_, fun hdue => ?_⟩
    · dsimp only
      rw [hdue]
      rfl
    · dsimp only
      rw [hdue]
      rfl
  · intro s d hdram hcur hended hstate hflush hpow
    rw [show exec .dumpVaultWriteComplete s = execDumpVaultWriteComplete s from rfl, execDumpVaultWriteComplete, hdram]
    dsimp only
    rw [if_pos (by simp [hcur, hended, hstate, hflush, hpow])]
    obtain ⟨hslot, hother, hvalid⟩ := saveDump_shows s d
    refine ⟨_, rfl, ?_, hslot, ?_, hother⟩
    · rw [f_setF_same _ _ _ (by decide)]
      rfl
    · rw [State.flag, f_setF_off _ _ _ _ (by decide), ← State.flag, hvalid]

/-- Settles O51: the fatal conditions, and the dump's way from the snapshot to the vault. -/
theorem fatalErrorsAndDumps : Obligations.FatalErrorsAndDumps := ⟨fatalConditions, dumpSequence⟩

end Sys2Proof.Machine

/-! ## The switch-over (R387, R392, R394, R395, R401; O38) -/

namespace Sys2Proof.Machine

/-! ### What the work of a switch-over leaves unchanged

The gap, its start, and whether items are mirrored are written by the switch-over itself. One lemma for each operation that the load of the
tables, the move to Active and the release of what waits can reach: it keeps the three. They stand in the order of the model's files, as
those about the steady part, and none of them is proved by rfl for the same reason. -/

/-- The gap, its start, and whether items are mirrored. -/
def State.pairing (s : State) : Bool × Word × Bool := (s.pair.gap, s.pair.gapStart, s.pair.mirroring)

/-- Any fields but those three may be replaced; the queue and TBASE stand for the state that is kept. -/
@[simp] theorem pairing_update (s : State) (pair : PairState) (hgap : pair.gap = s.pair.gap) (hstart : pair.gapStart = s.pair.gapStart)
    (hmir : pair.mirroring = s.pair.mirroring) (hw : Hw) (mode : ModeReg) (bar0 : Tbl Word) (elog : ErrorLog)
    (aon : AonLog) (corrected : Tbl CorrUnit) (health : Health) (dump : DumpState) (ep0 ep1 : Endpoint) (subRings : Tbl SubRing)
    (cplRings : Tbl CplRing)
    (threads : Tbl Thread) (skeins : Tbl Info) (skeinUsed : Tbl Bool) (pmem master : Tbl Word) (extents : List Extent)
    (maskCleared : Tbl Bool) (faults : Tbl FaultRec) (workFaults : Tbl Nat) (prk : PrkState) (arrays : Tbl ArrayInfo) (bands : Tbl Band)
    (ewords : Tbl EWord) (sleds : Tbl Sled) (hoop : Hoop) (lost : LostTables) (map : Tbl Word) (dlog : DeltaLog) (mc : MapCache)
    (dram : Mem) (poison : Tbl Bool) (hostTags : Tbl HostTag) (ats : List AtsEntry) (invals : List Inval) (vault : Mem)
    (sht : Tbl ShtChan) (sledCmds : Tbl SledCmd) (ports : Tbl Port) (readJobs : Tbl ReadJob) (devReads : Tbl DevRead)
    (bobbin : BobbinState) (recorder : Tbl Word) (power : PowerState) (thermal : Thermal) (boot : BootState) (fed : FedState)
    (doe : Tbl SpdmAnswer) (eids : Tbl Nat) (tbaseLatch fetchLast : Nat) (out : List OutMsg) (free : Nat) :
    State.pairing { s with
      hw, mode, bar0, elog, aon, corrected, health, dump, ep0, ep1, subRings, cplRings, pair, threads, skeins, skeinUsed, pmem,
      master, extents, maskCleared, faults, workFaults, prk, arrays, bands, ewords, sleds, hoop, lost, map, dlog, mc, dram, poison,
      hostTags, ats, invals, vault, sht, sledCmds, ports, readJobs, devReads, bobbin, recorder, power, thermal, boot, fed, doe, eids,
      tbaseLatch, fetchLast, out, free } = s.pairing := by
  simp [State.pairing, hgap, hstart, hmir]

/-- The first component of an answer, under the name an equation gives it. -/
theorem pairing_of_fst {α : Type} {s t : State} {p : State × α} {x : α} (h : p = (t, x)) (hp : p.1.pairing = s.pairing) :
    t.pairing = s.pairing := by
  rw [← hp, h]

/-- A branch keeps what both its sides keep. -/
@[simp] theorem pairing_ite (c : Prop) [Decidable c] (s t : State) :
    (if c then s else t).pairing = if c then s.pairing else t.pairing := apply_ite State.pairing c s t

/-- As pairing_ite, for an operation that also answers a value. -/
@[simp] theorem pairing_fst_ite {α : Type} (c : Prop) [Decidable c] (p q : State × α) :
    (if c then p else q).1.pairing = if c then p.1.pairing else q.1.pairing := apply_ite (fun p => p.1.pairing) c p q

/-- An operation repeated along a list keeps what it keeps once. -/
@[simp] theorem foldl_pairing {α : Type} (f : State → α → State) (h : ∀ s a, (f s a).pairing = s.pairing) (l : List α) (s : State) :
    (l.foldl f s).pairing = s.pairing := by
  induction l generalizing s with
  | nil => rfl
  | cons a l ih => rw [List.foldl_cons, ih, h]

/-- As foldl_pairing, for an operation that carries a value along. -/
@[simp] theorem foldl_fst_pairing {α β : Type} (f : State × β → α → State × β) (h : ∀ p a, (f p a).1.pairing = p.1.pairing)
    (l : List α) (p : State × β) : (l.foldl f p).1.pairing = p.1.pairing := by
  induction l generalizing p with
  | nil => rfl
  | cons a l ih => rw [List.foldl_cons, ih, h]

/-! ### Machine/Regs.lean -/

@[simp] theorem setReg_pairing (s : State) (off : Nat) (w : Word) : (s.setReg off w).pairing = s.pairing := by simp [State.setReg]
@[simp] theorem setF_pairing (s : State) (x : Field) (v : Nat) : (s.setF x v).pairing = s.pairing := by simp [State.setF]
@[simp] theorem setFlag_pairing (s : State) (x : Field) (b : Bool) : (s.setFlag x b).pairing = s.pairing := by simp [State.setFlag]
@[simp] theorem incF_pairing (s : State) (x : Field) (n : Nat) : (s.incF x n).pairing = s.pairing := by simp [State.incF]
@[simp] theorem satF_pairing (s : State) (x : Field) (n : Nat) : (s.satF x n).pairing = s.pairing := by simp [State.satF]

/-! ### Machine/Ops.lean -/

@[simp] theorem bumpFree_pairing (s : State) : s.bumpFree.pairing = s.pairing := by simp [State.bumpFree]
@[simp] theorem send_pairing (s : State) (m : OutMsg) : (s.send m).pairing = s.pairing := by simp [State.send]
@[simp] theorem mirror_pairing (s : State) (m : MirrorItem) : (s.mirror m).pairing = s.pairing := by simp [State.mirror]

@[simp] theorem setEp_pairing (s : State) (e : Nat) (x : Endpoint) : (s.setEp e x).pairing = s.pairing := by
  simp [State.setEp]

@[simp] theorem msixDue_pairing (s : State) (e v : Nat) : (s.msixDue e v).pairing = s.pairing := by simp [State.msixDue]
@[simp] theorem pmeCheck_pairing (s : State) (e : Nat) : (s.pmeCheck e).pairing = s.pairing := by fun_cases State.pmeCheck s e <;> simp
@[simp] theorem raiseEvent_pairing (s : State) (i : Nat) : (s.raiseEvent i).pairing = s.pairing := by simp [State.raiseEvent]

@[simp] theorem logRecAt_pairing (s : State) (t : Word) (cls src unit code addr : Nat) (detail : BitVec 256) :
    (s.logRecAt t cls src unit code addr detail).pairing = s.pairing := by
  simp [State.logRecAt]

@[simp] theorem logRec_pairing (s : State) (cls src unit code addr : Nat) (detail : BitVec 256) :
    (s.logRec cls src unit code addr detail).pairing = s.pairing := by
  simp [State.logRec]

@[simp] theorem logAon_pairing (s : State) (code detail : Nat) : (s.logAon code detail).pairing = s.pairing := by simp [State.logAon]

@[simp] theorem logCorrected_pairing (s : State) (src unit addr : Nat) : (s.logCorrected src unit addr).pairing = s.pairing := by
  simp [State.logCorrected]

@[simp] theorem logOpen_pairing (s : State) (cls src unit addr : Nat) : (s.logOpen cls src unit addr).pairing = s.pairing := by
  simp [State.logOpen]

@[simp] theorem logArrayOpen_pairing (s : State) (a addr : Nat) : (s.logArrayOpen a addr).pairing = s.pairing := by
  simp [State.logArrayOpen]

@[simp] theorem healthEventAt_pairing (s : State) (t : Word) (code : Nat) (critical : Bool) (src unit : Nat)
    (detail : Option (BitVec 256)) :
    (s.healthEventAt t code critical src unit detail).pairing = s.pairing := by
  simp [State.healthEventAt]

@[simp] theorem healthEvent_pairing (s : State) (code : Nat) (critical : Bool) (src unit : Nat) (detail : Option (BitVec 256)) :
    (s.healthEvent code critical src unit detail).pairing = s.pairing := by
  simp [State.healthEvent]

@[simp] theorem aer_pairing (s : State) (e : Nat) (k : AerError) (sev : Severity) : (s.aer e k sev).pairing = s.pairing := by
  fun_cases State.aer s e k sev
  simp +zetaDelta

@[simp] theorem copyAon_pairing (s : State) : s.copyAon.pairing = s.pairing := by simp [State.copyAon]

/-! ### Machine/McOps.lean -/

@[simp] theorem setLine_pairing (s : State) (set way : Nat) (l : CacheLine) : (s.setLine set way l).pairing = s.pairing := by
  simp [State.setLine]

@[simp] theorem setDramEntry_pairing (s : State) (a g : Nat) (w : Word) : (s.setDramEntry a g w).pairing = s.pairing := by
  simp [State.setDramEntry]

@[simp] theorem writeLine_pairing (s : State) (l : CacheLine) : (s.writeLine l).pairing = s.pairing := by simp [State.writeLine]
@[simp] theorem touchWay_pairing (s : State) (set w : Nat) : (s.touchWay set w).pairing = s.pairing := by simp [State.touchWay]

@[simp] theorem fillLine_pairing (s : State) (set w tag : Nat) (fresh : Bool) : (s.fillLine set w tag fresh).pairing = s.pairing := by
  simp [State.fillLine]

@[simp] theorem waitWriteBack_pairing (s : State) (x : WriteBack) : (s.waitWriteBack x).pairing = s.pairing := by simp [State.waitWriteBack]
@[simp] theorem cleanLine_pairing (s : State) (k : Nat) : (s.cleanLine k).pairing = s.pairing := by simp [State.cleanLine]

@[simp] theorem refill_pairing (s : State) (x : WriteBack) (way : Option Nat) : (s.refill x way).pairing = s.pairing := by
  unfold State.refill
  split <;> simp

@[simp] theorem ackWriteBack_pairing (s : State) (x : WriteBack) : (s.ackWriteBack x).pairing = s.pairing := by simp [State.ackWriteBack]

@[simp] theorem ackSet_pairing (s : State) (set : Nat) : (s.ackSet set).pairing = s.pairing := by
  unfold State.ackSet
  split <;> simp

@[simp] theorem mapAccess_pairing (s : State) (a g : Nat) : (s.mapAccess a g).pairing = s.pairing := by
  simp only [State.mapAccess]
  repeat' split
  all_goals simp

@[simp] theorem mapPut_pairing (s : State) (a g : Nat) (v : Word) : (s.mapPut a g v).pairing = s.pairing := by
  fun_cases State.mapPut s a g v <;> simp +zetaDelta

/-! ### Machine/HostOps.lean -/

@[simp] theorem setChan_pairing (s : State) (n : Nat) (x : ShtChan) : (s.setChan n x).pairing = s.pairing := by simp [State.setChan]
@[simp] theorem shtForget_pairing (s : State) (n : Nat) : (s.shtForget n).pairing = s.pairing := by simp [State.shtForget]
@[simp] theorem stopChan_pairing (s : State) (n ecode : Nat) : (s.stopChan n ecode).pairing = s.pairing := by simp [State.stopChan]
@[simp] theorem stopShuttle_pairing (s : State) : s.stopShuttle.pairing = s.pairing := by simp [State.stopShuttle]

@[simp] theorem ltrSync_pairing (s : State) : s.ltrSync.pairing = s.pairing := by
  simp only [State.ltrSync]
  refine foldl_pairing _ (fun s x => ?_) _ _
  split <;> simp

@[simp] theorem sayHello_pairing (s : State) : s.sayHello.pairing = s.pairing := by simp [State.sayHello]
@[simp] theorem slowClocks_pairing (s : State) : s.slowClocks.pairing = s.pairing := by simp [State.slowClocks]
@[simp] theorem dumpWindows_pairing (s : State) : s.dumpWindows.pairing = s.pairing := by simp [State.dumpWindows]

@[simp] theorem halt_pairing (s : State) (cause kind mcode : Nat) (cq : Bool) (ring index unit detail : Nat) :
    (s.halt cause kind mcode cq ring index unit detail).pairing = s.pairing := by
  simp [State.halt]

@[simp] theorem ringHalt_pairing (s : State) (mcode : Nat) (cq : Bool) (ring index : Nat) :
    (s.ringHalt mcode cq ring index).pairing = s.pairing := by
  simp [State.ringHalt]

@[simp] theorem xlatTouch_pairing (s : State) (e addr len : Nat) : (s.xlatTouch e addr len).pairing = s.pairing := by simp [State.xlatTouch]

@[simp] theorem hostWrite_pairing (s : State) (e : Nat) (rd : Reader) (addr : Nat) (ats ep_ : Bool) (bytes : List Byte) :
    (s.hostWrite e rd addr ats ep_ bytes).pairing = s.pairing := by
  fun_cases State.hostWrite s e rd addr ats ep_ bytes <;> simp

/-! ### Machine/RingOps.lean -/

@[simp] theorem setSub_pairing (s : State) (r : Nat) (x : SubRing) : (s.setSub r x).pairing = s.pairing := by simp [State.setSub]
@[simp] theorem setCpl_pairing (s : State) (q : Nat) (x : CplRing) : (s.setCpl q x).pairing = s.pairing := by simp [State.setCpl]
@[simp] theorem cqVector_pairing (s : State) (q : Nat) : (s.cqVector q).pairing = s.pairing := by simp [State.cqVector]
@[simp] theorem coalesce_pairing (s : State) (q : Nat) (irq : Bool) : (s.coalesce q irq).pairing = s.pairing := by simp [State.coalesce]

@[simp] theorem recWrite_pairing (s : State) (q e addr : Nat) (ats : Bool) (bytes : List Byte) (irq : Bool) :
    (s.recWrite q e addr ats bytes irq).pairing = s.pairing := by
  simp [State.recWrite]

@[simp] theorem writeRec_pairing (s : State) (q : Nat) (x : CplRec) : (s.writeRec q x).pairing = s.pairing := by simp [State.writeRec]

@[simp] theorem setFetchStop_pairing (s : State) (q : Nat) (b : Bool) : (s.setFetchStop q b).pairing = s.pairing := by
  simp [State.setFetchStop]

@[simp] theorem backpressure_pairing (s : State) (q : Nat) : (s.backpressure q).pairing = s.pairing := by simp [State.backpressure]
@[simp] theorem holdRec_pairing (s : State) (q : Nat) (x : CplRec) : (s.holdRec q x).pairing = s.pairing := by simp [State.holdRec]
@[simp] theorem pushRec_pairing (s : State) (q : Nat) (x : CplRec) : (s.pushRec q x).pairing = s.pairing := by simp [State.pushRec]

@[simp] theorem drainHolding_pairing (q n : Nat) (s : State) : (State.drainHolding q n s).pairing = s.pairing := by
  fun_induction State.drainHolding q n s <;> simp [*]

@[simp] theorem holdingFreed_pairing (s : State) (q : Nat) : (s.holdingFreed q).pairing = s.pairing := by simp [State.holdingFreed]
@[simp] theorem inflightDone_pairing (s : State) (r n : Nat) : (s.inflightDone r n).pairing = s.pairing := by simp [State.inflightDone]
@[simp] theorem flushBatches_pairing (s : State) (r : Nat) : (s.flushBatches r).pairing = s.pairing := by simp [State.flushBatches]

@[simp] theorem completeEntry_pairing (s : State) (r num status result : Nat) :
    (s.completeEntry r num status result).pairing = s.pairing := by
  simp [State.completeEntry]

@[simp] theorem completeCalls_pairing (s : State) (cs : List Call) (status result : Nat) :
    (s.completeCalls cs status result).pairing = s.pairing := by
  simp [State.completeCalls]

@[simp] theorem postOrStall_pairing (s : State) (th : Nat) (cs : List Call) (status result : Nat) :
    (s.postOrStall th cs status result).1.pairing = s.pairing := by
  unfold State.postOrStall
  split <;> simp

/-! ### Machine/FtlOps.lean -/

@[simp] theorem setBand_pairing (s : State) (a b : Nat) (x : Band) : (s.setBand a b x).pairing = s.pairing := by simp [State.setBand]
@[simp] theorem setSled_pairing (s : State) (n : Nat) (x : Sled) : (s.setSled n x).pairing = s.pairing := by simp [State.setSled]
@[simp] theorem mirrorRegs_pairing (s old : State) (a : Nat) : (s.mirrorRegs old a).pairing = s.pairing := by simp [State.mirrorRegs]
@[simp] theorem paceAfresh_pairing (s : State) (a : Nat) : (s.paceAfresh a).pairing = s.pairing := by simp [State.paceAfresh]

@[simp] theorem syncArray_pairing (s : State) (a : Nat) : (s.syncArray a).pairing = s.pairing := by
  unfold State.syncArray
  split <;> simp

@[simp] theorem syncDlog_pairing (s : State) : s.syncDlog.pairing = s.pairing := by simp [State.syncDlog]

@[simp] theorem appendDelta_pairing (s : State) (kind a key : Nat) (value : Word) :
    (s.appendDelta kind a key value).pairing = s.pairing := by
  simp [State.appendDelta]

@[simp] theorem setEword_pairing (s : State) (n b : Nat) (e : EWord) : (s.setEword n b e).pairing = s.pairing := by simp [State.setEword]

@[simp] theorem setBandLogged_pairing (s : State) (a b : Nat) (x : Band) : (s.setBandLogged a b x).pairing = s.pairing := by
  simp [State.setBandLogged]

@[simp] theorem countValid_pairing (s : State) (a pga : Nat) (up : Bool) : (s.countValid a pga up).pairing = s.pairing := by
  simp [State.countValid]

@[simp] theorem applyEntry_pairing (s : State) (a g low : Nat) : (s.applyEntry a g low).pairing = s.pairing := by simp [State.applyEntry]
@[simp] theorem logEntry_pairing (s : State) (a g low : Nat) : (s.logEntry a g low).pairing = s.pairing := by simp [State.logEntry]
@[simp] theorem syncDirty_pairing (s : State) : s.syncDirty.pairing = s.pairing := by simp [State.syncDirty]

@[simp] theorem mirrorVersion_pairing (s : State) (seq : Nat) : (s.mirrorVersion seq).pairing = s.pairing := by
  fun_cases State.mirrorVersion s seq <;> simp

@[simp] theorem putVersion_pairing (s : State) (v : Version) : (s.putVersion v).pairing = s.pairing := by simp [State.putVersion]
@[simp] theorem setRegion_pairing (s : State) (r : Nat) (b : Bool) : (s.setRegion r b).pairing = s.pairing := by simp [State.setRegion]
@[simp] theorem setCentry_pairing (s : State) (e : Nat) (x : CEntry) : (s.setCentry e x).pairing = s.pairing := by simp [State.setCentry]
@[simp] theorem clearRegion_pairing (s : State) (a b : Nat) : (s.clearRegion a b).pairing = s.pairing := by simp [State.clearRegion]
@[simp] theorem dropEntry_pairing (s : State) (e : Nat) : (s.dropEntry e).pairing = s.pairing := by simp [State.dropEntry]
@[simp] theorem freeEntryOf_pairing (s : State) (e : Nat) : (s.freeEntryOf e).pairing = s.pairing := by simp [State.freeEntryOf]
@[simp] theorem reapEntry_pairing (s : State) (e : Nat) : (s.reapEntry e).pairing = s.pairing := by simp [State.reapEntry]
@[simp] theorem reapAll_pairing (s : State) : s.reapAll.pairing = s.pairing := by simp [State.reapAll]

@[simp] theorem setGather_pairing (s : State) (a c : Nat) (fg : Bool) (x : Gather) : (s.setGather a c fg x).pairing = s.pairing := by
  simp [State.setGather]

@[simp] theorem setJobs_pairing (s : State) (l : List StripeJob) : (s.setJobs l).pairing = s.pairing := by simp [State.setJobs]

@[simp] theorem stripeFull_pairing (s : State) (a c : Nat) (fg : Bool) : (s.stripeFull a c fg).pairing = s.pairing := by
  simp [State.stripeFull]

@[simp] theorem placeVersion_pairing (s : State) (v : Version) : (s.placeVersion v).pairing = s.pairing := by simp [State.placeVersion]
@[simp] theorem forceOut_pairing (s : State) (a c : Nat) (fg : Bool) : (s.forceOut a c fg).pairing = s.pairing := by simp [State.forceOut]
@[simp] theorem forceAll_pairing (s : State) (p : Nat → Bool) : (s.forceAll p).pairing = s.pairing := by simp [State.forceAll]

@[simp] theorem placeGrains_pairing (s : State) (l : List (Nat × Nat)) : (s.placeGrains l).pairing = s.pairing := by
  simp only [State.placeGrains]
  refine foldl_pairing _ (fun s x => ?_) _ _
  split <;> simp

@[simp] theorem regather_pairing (s : State) (e : Nat) : (s.regather e).pairing = s.pairing := by simp [State.regather]

@[simp] theorem closeBand_pairing (s : State) (a b : Nat) (early pfail : Bool) : (s.closeBand a b early pfail).pairing = s.pairing := by
  simp [State.closeBand]

@[simp] theorem abandonEntry_pairing (s : State) (e : Nat) (pfail : Bool) : (s.abandonEntry e pfail).pairing = s.pairing := by
  simp [State.abandonEntry]

@[simp] theorem passStep6_pairing (s : State) (a g seq : Nat) : (s.passStep6 a g seq).pairing = s.pairing := by simp [State.passStep6]

/-! ### Machine/LostOps.lean -/

@[simp] theorem syncLost_pairing (s : State) : s.syncLost.pairing = s.pairing := by simp [State.syncLost]
@[simp] theorem freeLostGrain_pairing (s : State) (a g : Nat) : (s.freeLostGrain a g).pairing = s.pairing := by simp [State.freeLostGrain]
@[simp] theorem syncRun_pairing (s : State) (a : Nat) : (s.syncRun a).pairing = s.pairing := by simp [State.syncRun]

@[simp] theorem enterArrayState_pairing (s : State) (a st : Nat) : (s.enterArrayState a st).pairing = s.pairing := by
  simp [State.enterArrayState]

@[simp] theorem syncMembers_pairing (s : State) (a : Nat) : (s.syncMembers a).pairing = s.pairing := by simp [State.syncMembers]

/-! ### Machine/Threads.lean -/

@[simp] theorem setThr_pairing (s : State) (th : Nat) (t : Thread) : (s.setThr th t).pairing = s.pairing := by simp [State.setThr]
@[simp] theorem setSkein_pairing (s : State) (c i : Nat) (x : Info) : (s.setSkein c i x).pairing = s.pairing := by simp [State.setSkein]

@[simp] theorem markSkeins_pairing (s : State) (c : Nat) (l : List Nat) (b : Bool) : (s.markSkeins c l b).pairing = s.pairing := by
  simp [State.markSkeins]

@[simp] theorem freeRuns_pairing (s : State) (th : Nat) : (s.freeRuns th).pairing = s.pairing := by simp [State.freeRuns]

@[simp] theorem setRunInfo_pairing (s : State) (th h k : Nat) (x : Info) : (s.setRunInfo th h k x).pairing = s.pairing := by
  simp [State.setRunInfo]

@[simp] theorem asyncDone_pairing (s : State) (th id outcome : Nat) : (s.asyncDone th id outcome).pairing = s.pairing := by
  simp [State.asyncDone]

@[simp] theorem reapExtents_pairing (s : State) : s.reapExtents.pairing = s.pairing := by simp [State.reapExtents]

@[simp] theorem tellStarter_pairing (s : State) (th status : Nat) : (s.tellStarter th status).pairing = s.pairing := by
  unfold State.tellStarter
  split <;> simp

@[simp] theorem freeHelper_pairing (s : State) (th : Nat) : (s.freeHelper th).pairing = s.pairing := by
  unfold State.freeHelper
  split <;> simp

@[simp] theorem finishThread_pairing (s : State) (th : Nat) : (s.finishThread th).pairing = s.pairing := by simp [State.finishThread]
@[simp] theorem leaveEngine_pairing (s : State) (th : Nat) : (s.leaveEngine th).pairing = s.pairing := by simp [State.leaveEngine]
@[simp] theorem endThread_pairing (s0 : State) (th : Nat) : (s0.endThread th).pairing = s0.pairing := by simp [State.endThread]
@[simp] theorem abandonOwned_pairing (s : State) (th : Nat) : (s.abandonOwned th).pairing = s.pairing := by simp [State.abandonOwned]

@[simp] theorem logFault_pairing (s : State) (th status trap pc : Nat) (w : Word) :
    (s.logFault th status trap pc w).pairing = s.pairing := by
  simp [State.logFault]

@[simp] theorem countWorkFault_pairing (s : State) (th : Nat) : (s.countWorkFault th).pairing = s.pairing := by simp [State.countWorkFault]

@[simp] theorem settleFault_pairing (s : State) (th status trap pc : Nat) (w : Word) :
    (s.settleFault th status trap pc w).pairing = s.pairing := by
  simp [State.settleFault]

@[simp] theorem threadFault_pairing (s : State) (th status trap pc : Nat) (w : Word) :
    (s.threadFault th status trap pc w).pairing = s.pairing := by
  simp [State.threadFault]

@[simp] theorem faultAt_pairing (s : State) (th status trap : Nat) : (s.faultAt th status trap).pairing = s.pairing := by
  simp [State.faultAt]

@[simp] theorem async_pairing (s : State) (th : Nat) (i : IWord) (wait : AsyncWait) (outcome : Nat) (wr rd : List Nat) :
    (s.async th i wait outcome wr rd).pairing = s.pairing := by
  simp [State.async]

/-! ### Machine/SledOps.lean -/

@[simp] theorem setPort_pairing (s : State) (p : Nat) (x : Port) : (s.setPort p x).pairing = s.pairing := by simp [State.setPort]

@[simp] theorem pumpPort_pairing (s : State) (p n : Nat) : (s.pumpPort p n).pairing = s.pairing := by
  induction n generalizing s with
  | zero => rfl
  | succ n ih => 
    simp only [State.pumpPort]
    repeat' split
    all_goals simp [ih]

@[simp] theorem pump_pairing (s : State) (p : Nat) : (s.pump p).pairing = s.pairing := by simp [State.pump]
@[simp] theorem setHop_pairing (s : State) (p h : Nat) (x : Hop) : (s.setHop p h x).pairing = s.pairing := by simp [State.setHop]

@[simp] theorem chargeShare_pairing (s : State) (n : Nat) (sh : Share) (cost : Nat) : (s.chargeShare n sh cost).pairing = s.pairing := by
  unfold State.chargeShare
  split <;> simp

@[simp] theorem keepCommand_pairing (s : State) (p : Nat) (c : SledCmd) : (s.keepCommand p c).pairing = s.pairing := by
  simp [State.keepCommand]

/-- A command to a sled, sent or kept. The number of tags is generalised, so that the search for a free one is not evaluated. -/
@[simp] theorem issueSled_pairing (s : State) (p : Nat) (c : SledCmd) : (s.issueSled p c).pairing = s.pairing := by
  unfold State.issueSled
  generalize s.sledCmds.fresh (sledKey p 0) 512 = tag
  cases tag with
  | none => exact keepCommand_pairing s p c
  | some k =>
    dsimp only
    rw [pairing_ite, keepCommand_pairing, pump_pairing, setPort_pairing, pairing_update _ _ rfl rfl rfl]
    cases c.sled <;> simp

@[simp] theorem sendSled_pairing (s : State) (n : Nat) (kind : SledKind) (array : Nat) (scope : Bool) (why : Purpose) (share : Share) :
    (s.sendSled n kind array scope why share).pairing = s.pairing := by
  simp [State.sendSled]

@[simp] theorem tryWaiting_pairing (s : State) (p n : Nat) (l : List SledCmd) : (s.tryWaiting p n l).pairing = s.pairing := by
  fun_induction State.tryWaiting s p n l <;> simp [*]

@[simp] theorem retryWaiting_pairing (s : State) (p : Nat) : (s.retryWaiting p).pairing = s.pairing := by simp [State.retryWaiting]

@[simp] theorem setSledHealth_pairing (s : State) (n : Nat) (x : SledHealth) : (s.setSledHealth n x).pairing = s.pairing := by
  simp [State.setSledHealth]

@[simp] theorem countCodeword_pairing (s : State) (n step : Nat) : (s.countCodeword n step).pairing = s.pairing := by
  simp [State.countCodeword]

@[simp] theorem countUncorrectable_pairing (s : State) (n : Nat) : (s.countUncorrectable n).pairing = s.pairing := by
  simp [State.countUncorrectable]

@[simp] theorem setJob_pairing (s : State) (j : Nat) (x : ReadJob) : (s.setJob j x).pairing = s.pairing := by simp [State.setJob]

@[simp] theorem readCol_pairing (s : State) (j : Nat) (x : ReadJob) (k level : Nat) : (s.readCol j x k level).1.pairing = s.pairing := by
  unfold State.readCol
  split <;> simp

@[simp] theorem readCols_pairing (s : State) (j : Nat) (x : ReadJob) (keys : List Nat) : (s.readCols j x keys).1.pairing = s.pairing := by
  simp [State.readCols]

@[simp] theorem recover_pairing (s : State) (x : ReadJob) (k step : Nat) (w : Info) : (s.recover x k step w).1.pairing = s.pairing := by
  simp [State.recover]

@[simp] theorem giveUp_pairing (s : State) (x : ReadJob) (k : Nat) (last : Info) : (s.giveUp x k last).1.pairing = s.pairing := by
  simp [State.giveUp]

@[simp] theorem solveCols_pairing (s : State) (x : ReadJob) (step : Nat) (cols : List Nat) :
    (s.solveCols x step cols).1.pairing = s.pairing := by
  refine foldl_fst_pairing _ (fun p c => ?_) _ _
  dsimp only
  split <;> simp

@[simp] theorem jointRound_pairing (s : State) (x : ReadJob) (iter : Nat) : (s.jointRound x iter).1.pairing = s.pairing := by
  refine foldl_fst_pairing _ (fun p k => ?_) _ _
  dsimp only
  split <;> simp

@[simp] theorem endAssist_pairing (s : State) (j : Nat) (x : ReadJob) : (s.endAssist j x).1.pairing = s.pairing := by
  fun_cases State.endAssist s j x
  case case1 => exact readCols_pairing ..
  case case2 p q =>
    calc q.1.pairing = p.1.pairing := foldl_fst_pairing _ (fun r k => by split <;> simp) _ _
      _ = s.pairing := solveCols_pairing ..

@[simp] theorem runJoint_pairing (s : State) (j : Nat) (x : ReadJob) (n : Nat) : (s.runJoint j x n).1.pairing = s.pairing := by
  induction n generalizing s x with
  | zero => exact endAssist_pairing s j x
  | succ n ih =>
    simp only [State.runJoint]
    repeat' split
    all_goals simp [ih]

@[simp] theorem assistJob_pairing (s : State) (j : Nat) (x : ReadJob) : (s.assistJob j x).1.pairing = s.pairing := by
  fun_cases State.assistJob s j x <;> simp

@[simp] theorem noteXfer_pairing (s : State) (th id step : Nat) (bad : Bool) (status : Nat) :
    (s.noteXfer th id step bad status).pairing = s.pairing := by
  fun_cases State.noteXfer s th id step bad status <;> simp +zetaDelta

@[simp] theorem endFetch_pairing (s : State) (j : Nat) (x : ReadJob) (th id place : Nat) (expect : Option (Nat × Nat)) :
    (s.endFetch j x th id place expect).pairing = s.pairing := by
  fun_cases State.endFetch s j x th id place expect <;> simp +zetaDelta

@[simp] theorem endDevice_pairing (s : State) (j k : Nat) (x : ReadJob) : (s.endDevice j k x).pairing = s.pairing := by
  simp only [State.endDevice]
  split <;> simp

@[simp] theorem endJob_pairing (s : State) (j : Nat) (x : ReadJob) : (s.endJob j x).pairing = s.pairing := by
  unfold State.endJob
  split <;> simp

@[simp] theorem unassisted_pairing (s : State) (x : ReadJob) : (s.unassisted x).pairing = s.pairing := by simp [State.unassisted]
@[simp] theorem settleJob_pairing (s : State) (j : Nat) (x : ReadJob) : (s.settleJob j x).pairing = s.pairing := by simp [State.settleJob]
@[simp] theorem runJob_pairing (s : State) (j a : Nat) : (s.runJob j a).pairing = s.pairing :=
  by fun_induction State.runJob s j a <;> simp [*]

@[simp] theorem startJob_pairing (s : State) (x : ReadJob) : (s.startJob x).pairing = s.pairing := by
  unfold State.startJob
  split <;> simp

@[simp] theorem readErased_pairing (s : State) (j k : Nat) : (s.readErased j k).pairing = s.pairing := by
  fun_cases State.readErased s j k <;> simp

/-! ### Machine/BandOps.lean -/

@[simp] theorem writeRecord_pairing (s : State) (kind page count : Nat) (slots : List Byte) :
    (s.writeRecord kind page count slots).pairing = s.pairing := by
  simp [State.writeRecord]

@[simp] theorem nameBand_pairing (s : State) (a b : Nat) : (s.nameBand a b).pairing = s.pairing := by simp [State.nameBand]

@[simp] theorem takeBlock_pairing (s : State) (a b n blk : Nat) (slc : Bool) : (s.takeBlock a b n blk slc).pairing = s.pairing := by
  simp [State.takeBlock]

@[simp] theorem openBand_pairing (s : State) (a b : Nat) (kind : BandKind) : (s.openBand a b kind).pairing = s.pairing := by
  unfold State.openBand
  split
  · rfl
  · rw [syncArray_pairing, setBandLogged_pairing, pairing_update _ _ rfl rfl rfl]
    refine foldl_fst_pairing _ (fun p k => ?_) _ _
    dsimp only
    repeat' split
    all_goals simp

@[simp] theorem closeFull_pairing (s : State) (a c : Nat) (kind : BandKind) : (s.closeFull a c kind).pairing = s.pairing := by
  unfold State.closeFull
  split <;> simp

/-- A stripe opens: in the fourth case the band it goes to is open, or has been opened first. -/
@[simp] theorem openStripeAt_pairing (s : State) (c owner : Nat) (kind : BandKind) (a b st source : Nat) :
    (s.openStripeAt c owner kind a b st source).1.pairing = s.pairing := by
  fun_cases State.openStripeAt s c owner kind a b st source
  case case4 ready s1 hready s2 _ _ _ _ _ _ _ _ =>
    have h1 : s1.pairing = s.pairing := by
      revert hready
      dsimp only [ready]
      repeat' split
      all_goals rintro ⟨⟩
      · rfl
      · simp
    simp +zetaDelta [h1]
  all_goals simp +zetaDelta

@[simp] theorem interimSlot_pairing (s : State) (a cluster gen : Nat) : (s.interimSlot a cluster gen).1.pairing = s.pairing := by
  fun_cases State.interimSlot s a cluster gen <;> simp +zetaDelta

@[simp] theorem syncSpace_pairing (s : State) (a : Nat) : (s.syncSpace a).pairing = s.pairing := by simp [State.syncSpace]
@[simp] theorem closeIfFull_pairing (s : State) (a b : Nat) : (s.closeIfFull a b).pairing = s.pairing := by simp [State.closeIfFull]
@[simp] theorem closeStripe_pairing (s : State) (e : Nat) : (s.closeStripe e).pairing = s.pairing := by simp [State.closeStripe]

/-! ### Machine/Writer.lean -/

@[simp] theorem endLoss_pairing (s : State) (a g seq : Nat) : (s.endLoss a g seq).pairing = s.pairing := by simp [State.endLoss]
@[simp] theorem mapup_pairing (s : State) (a g cond d low : Nat) : (s.mapup a g cond d low).pairing = s.pairing := by simp [State.mapup]

@[simp] theorem sendProgram_pairing (s : State) (th id e col : Nat) (interim : Bool) (first : Nat) (words : List Info) :
    (s.sendProgram th id e col interim first words).pairing = s.pairing := by
  unfold State.sendProgram
  split <;> simp

@[simp] theorem setWorks_pairing (s : State) (l : List StripeWork) : (s.setWorks l).pairing = s.pairing := by simp [State.setWorks]
@[simp] theorem putWork_pairing (s : State) (w : StripeWork) : (s.putWork w).pairing = s.pairing := by simp [State.putWork]
@[simp] theorem dropWorks_pairing (s : State) : s.dropWorks.pairing = s.pairing := by simp [State.dropWorks]

@[simp] theorem putProgram_pairing (s : State) (e col : Nat) (interim : Bool) (first : Nat) (words : List Info) :
    (s.putProgram e col interim first words).pairing = s.pairing := by
  simp [State.putProgram]

@[simp] theorem releaseHeld_pairing (s : State) : s.releaseHeld.pairing = s.pairing := by simp [State.releaseHeld]

@[simp] theorem startRound_pairing (s : State) (w : StripeWork) (lo : Nat) (interim : Bool) (stage : WorkStage) :
    (s.startRound w lo interim stage).pairing = s.pairing := by
  simp [State.startRound]

@[simp] theorem sealGather_pairing (s : State) (a c : Nat) (fg : Bool) : (s.sealGather a c fg).pairing = s.pairing := by
  simp only [State.sealGather]
  split <;> simp

@[simp] theorem logUnsealed_pairing (s : State) (a : Nat) (g : Nat × Nat) : (s.logUnsealed a g).pairing = s.pairing := by
  unfold State.logUnsealed
  split <;> simp

@[simp] theorem startJobRound_pairing (s : State) (j : StripeJob) (w : StripeWork) : (s.startJobRound j w).pairing = s.pairing := by
  fun_cases State.startJobRound s j w
  case case3 s1 slot hslot => simp +zetaDelta [pairing_of_fst hslot (interimSlot_pairing ..)]
  case case4 s1 hslot => simp +zetaDelta [pairing_of_fst hslot (interimSlot_pairing ..)]
  all_goals simp +zetaDelta

@[simp] theorem nextPlace_pairing (s : State) (a c : Nat) (kind : BandKind) : (s.nextPlace a c kind).1.pairing = s.pairing := by
  unfold State.nextPlace
  split <;> simp

@[simp] theorem openWork_pairing (s : State) (a c : Nat) (kind : BandKind) (source : Nat) :
    (s.openWork a c kind source).1.pairing = s.pairing := by
  grind [State.openWork, nextPlace_pairing, openStripeAt_pairing, setWorks_pairing]

@[simp] theorem gatherAgain_pairing (s : State) (j : StripeJob) : (s.gatherAgain j).pairing = s.pairing := by simp [State.gatherAgain]

@[simp] theorem openJob_pairing (s : State) (j : StripeJob) : (s.openJob j).pairing = s.pairing := by
  unfold State.openJob
  split <;> simp

@[simp] theorem runStripeJob_pairing (s : State) (j : StripeJob) : (s.runStripeJob j).pairing = s.pairing := by
  unfold State.runStripeJob
  split <;> simp

@[simp] theorem writeCopies_pairing (s : State) (key : Nat) (pad : Bool) : (s.writeCopies key pad).pairing = s.pairing := by
  fun_cases State.writeCopies s key pad
  case case1 => rfl
  case case2 hwork _ _ _ _ => simp +zetaDelta [pairing_of_fst hwork (openWork_pairing ..)]
  case case3 hwork _ => exact pairing_of_fst hwork (openWork_pairing ..)
  case case4 hwork => exact pairing_of_fst hwork (openWork_pairing ..)

@[simp] theorem drive_pairing (s : State) : s.drive.pairing = s.pairing := by simp [State.drive]
@[simp] theorem stepSix_pairing (s : State) (w : StripeWork) (hi : Nat) : (s.stepSix w hi).pairing = s.pairing := by simp [State.stepSix]
@[simp] theorem settleReads_pairing (s : State) : s.settleReads.pairing = s.pairing := by simp [State.settleReads]

@[simp] theorem finishRound_pairing (s : State) (w : StripeWork) : (s.finishRound w).pairing = s.pairing := by
  unfold State.finishRound
  split <;> simp

@[simp] theorem settleWorks_pairing (s : State) : s.settleWorks.pairing = s.pairing := by
  rw [State.settleWorks, drive_pairing, settleReads_pairing]
  refine (foldl_pairing _ (fun t w => ?_) _ _).trans (foldl_pairing _ (fun t w => ?_) _ _) <;> split <;> simp

/-! ### Machine/Movement.lean -/

@[simp] theorem moveOp_pairing (s : State) (th : Nat) (i : IWord) (wait : AsyncWait) (outcome : Nat) (wr rd : List Nat) (f : Xfer) :
    (s.moveOp th i wait outcome wr rd f).pairing = s.pairing := by
  simp [State.moveOp]

@[simp] theorem stage_pairing (s : State) (th : Nat) (i : IWord) : (s.stage th i).pairing = s.pairing := by simp [State.stage]

/-! ### Machine/Hoop.lean -/

@[simp] theorem setRepl_pairing (s : State) (r : Replication) : (s.setRepl r).pairing = s.pairing := by simp [State.setRepl]
@[simp] theorem syncCopies_pairing (s : State) : s.syncCopies.pairing = s.pairing := by simp [State.syncCopies]
@[simp] theorem syncAll_pairing (s : State) : s.syncAll.pairing = s.pairing := by simp [State.syncAll]
@[simp] theorem resyncDue_pairing (s : State) : s.resyncDue.pairing = s.pairing := by simp [State.resyncDue]
@[simp] theorem syncRuns_pairing (s : State) : s.syncRuns.pairing = s.pairing := by simp [State.syncRuns]

/-! ### Machine/Members.lean -/

@[simp] theorem setDlog_pairing (s : State) (l : DeltaLog) : (s.setDlog l).pairing = s.pairing := by simp [State.setDlog]

@[simp] theorem writeCkptStripe_pairing (s : State) (a b st : Nat) (words : List Info) :
    (s.writeCkptStripe a b st words).pairing = s.pairing := by
  simp only [State.writeCkptStripe]
  refine foldl_pairing _ (fun s x => ?_) _ _
  split <;> simp

@[simp] theorem ckptBand_pairing (s : State) (a c m : Nat) : (s.ckptBand a c m).1.pairing = s.pairing := by
  fun_cases State.ckptBand s a c m <;> simp

@[simp] theorem writeSegment_pairing (s : State) (seg : Nat) : (s.writeSegment seg).pairing = s.pairing := by
  fun_cases State.writeSegment s seg
  case case1 => rfl
  case case2 hband => exact pairing_of_fst hband (ckptBand_pairing ..)
  case case3 hband _ _ _ _ => simp +zetaDelta [pairing_of_fst hband (ckptBand_pairing ..)]

@[simp] theorem sendDirectory_pairing (s : State) : s.sendDirectory.pairing = s.pairing := by simp [State.sendDirectory]
@[simp] theorem stepEpoch_pairing (s : State) : s.stepEpoch.pairing = s.pairing := by simp [State.stepEpoch]
@[simp] theorem cleanLines_pairing (s : State) : s.cleanLines.pairing = s.pairing := by simp [State.cleanLines]
@[simp] theorem startEpoch_pairing (s : State) (extra : List Nat) : (s.startEpoch extra).pairing = s.pairing := by simp [State.startEpoch]

@[simp] theorem ckptAcked_pairing (s : State) (a b : Nat) (ok onBlock : Bool) : (s.ckptAcked a b ok onBlock).pairing = s.pairing := by
  simp [State.ckptAcked]

@[simp] theorem takeLogBlocks_pairing (s : State) (n : Nat) : (s.takeLogBlocks n).pairing = s.pairing := by
  simp only [State.takeLogBlocks]
  refine foldl_pairing _ (fun s x => ?_) _ _
  split <;> simp

@[simp] theorem joinCopy_pairing (s : State) (n : Nat) : (s.joinCopy n).pairing = s.pairing := by
  simp only [State.joinCopy, setRepl_pairing, send_pairing, pairing_update, foldl_pairing, takeLogBlocks_pairing, implies_true]

@[simp] theorem chooseCopiesBut_pairing (s : State) (bar : List Nat) : (s.chooseCopiesBut bar).pairing = s.pairing := by
  simp [State.chooseCopiesBut]

@[simp] theorem chooseCopies_pairing (s : State) : s.chooseCopies.pairing = s.pairing := by simp [State.chooseCopies]

@[simp] theorem rerouteReads_pairing (s : State) (n : Nat) : (s.rerouteReads n).pairing = s.pairing := by
  refine (foldl_pairing _ (fun t c => ?_) _ _).trans (by simp)
  split <;> simp

@[simp] theorem commandLost_pairing (s : State) (c : SledCmd) : (s.commandLost c).pairing = s.pairing := by
  fun_cases State.commandLost s c <;> simp

@[simp] theorem resetSled_pairing (s : State) (n : Nat) : (s.resetSled n).pairing = s.pairing := by simp [State.resetSled]
@[simp] theorem abandonOn_pairing (s : State) (n : Nat) : (s.abandonOn n).pairing = s.pairing := by simp [State.abandonOn]
@[simp] theorem showFailed_pairing (s : State) (n : Nat) : (s.showFailed n).pairing = s.pairing := by simp [State.showFailed]

@[simp] theorem declareFailed_pairing (s : State) (n cause : Nat) : (s.declareFailed n cause).pairing = s.pairing := by
  simp [State.declareFailed]

@[simp] theorem startJudging_pairing (s : State) : s.startJudging.pairing = s.pairing := by simp [State.startJudging]

/-! ### Machine/ModeOps.lean -/

@[simp] theorem enterMode_pairing (s : State) (m : Mode) : (s.enterMode m).pairing = s.pairing := by simp [State.enterMode]

/-! ### Machine/PairOps.lean -/

/-- PAIR_STAT's event changes no more than the update it follows. -/
@[simp] theorem pairStat_pairing (s : State) (f : State → State) (hf : (f s).pairing = s.pairing) : (s.pairStat f).pairing = s.pairing := by
  simp [State.pairStat, hf]

@[simp] theorem setClaim_pairing (s : State) (c : Nat) : (s.setClaim c).pairing = s.pairing := by simp [State.setClaim]
@[simp] theorem claimSled_pairing (s : State) (n : Nat) : (s.claimSled n).pairing = s.pairing := by simp [State.claimSled]
@[simp] theorem claimAll_pairing (s : State) : s.claimAll.pairing = s.pairing := by simp [State.claimAll]

@[simp] theorem sendWit_pairing (s : State) (wcode : Nat) (body : List Byte) : (s.sendWit wcode body).pairing = s.pairing := by
  simp [State.sendWit]

@[simp] theorem fromWitness_pairing (s : State) : s.fromWitness.pairing = s.pairing := by simp [State.fromWitness]

@[simp] theorem releaseEmits_pairing (s : State) : s.releaseEmits.pairing = s.pairing := by
  refine (foldl_pairing _ (fun t e => foldl_pairing _ (fun u o => ?_) _ _) _ _).trans (releaseHeld_pairing s)
  split <;> simp

@[simp] theorem syncDurable_pairing (s : State) : s.syncDurable.pairing = s.pairing := by simp [State.syncDurable]

/-! ### Machine/DevReads.lean -/

@[simp] theorem startRead_pairing (s : State) (goal : ReadGoal) (a b st : Nat) (want : List (Nat × List Nat)) :
    (s.startRead goal a b st want).pairing = s.pairing := by
  unfold State.startRead
  split <;> simp

@[simp] theorem readStripe_pairing (s : State) (goal : ReadGoal) (a b st : Nat) : (s.readStripe goal a b st).pairing = s.pairing := by
  simp [State.readStripe]

@[simp] theorem recount_pairing (s : State) : s.recount.pairing = s.pairing := by simp [State.recount]

@[simp] theorem finishLoad_pairing (s : State) : s.finishLoad.pairing = s.pairing := by
  unfold State.finishLoad
  split <;> simp

@[simp] theorem beginLoad_pairing (s : State) : s.beginLoad.pairing = s.pairing := by simp [State.beginLoad]

end Sys2Proof.Machine

/-! ## Claim grants, the switch-over gap, and the loss of the peer (R387, R392, R394, R395, R401; O38) -/

namespace Sys2Proof.Machine

section
variable {s : State} {gap mirroring : Bool} {start : Word} (h : s.pairing = (gap, start, mirroring))
include h

theorem gap_of_pairing : s.pair.gap = gap := congrArg Prod.fst h

theorem gapStart_of_pairing : s.pair.gapStart = start := congrArg (fun v => v.2.1) h

theorem mirroring_of_pairing : s.pair.mirroring = mirroring := congrArg (fun v => v.2.2) h

end

/-- Loading the tables starts reads (R395). -/
theorem beginLoad_mode (s : State) : s.beginLoad.mode = s.mode := by
  have hphase : s.beginLoad.phase = s.phase := by simp [State.beginLoad]
  exact congrArg Prod.fst hphase

/-- R392, R394: a grant that is taken. -/
theorem claimGrant_taken {s : State} {claim : Nat} (ago : Nat) (hpaired : s.paired = true) (hlink : s.linkOff = false)
    (hrole : s.role = 2) (hcur : s.mode.cur = .standby) (hbusy : s.mode.busy = false) (habove : claimAbove claim s.pair.claim = true)
    (hbarred : s.grantBarred = false) (hasked : s.pair.failbackAsked = none) :
    ∃ t : State, exec (.claimGrant claim ago) s = .next t ∧ t.role = 3 ∧ t.pair.gap = true ∧
      t.pair.gapStart = s.tbase - BitVec.ofNat 64 ago ∧ t.mode.busy = true ∧ t.mode.tgt = .active ∧ t.mode.cause = 3 := by
  rw [show exec (.claimGrant claim ago) s = execClaimGrant claim ago s from rfl, execClaimGrant, if_neg (by simp [hpaired, hlink])]
  extract_lets s1 cause s2 pair p
  rw [if_neg (by simp [hrole]), if_neg (by simp [hbarred, hcur, hbusy, habove, hrole])]
  have hcause : cause = 3 := if_neg (by simp [hasked])
  generalize hmoved : ({ s2 with pair := p } : State).beginMove .active cause false = u
  have hpair : u.pairing = (true, s.tbase - BitVec.ofNat 64 ago, false) := by
    rw [← hmoved]
    rfl
  have hmode : u.mode.busy = true ∧ u.mode.tgt = .active ∧ u.mode.cause = 3 := by
    rw [← hmoved]
    exact ⟨rfl, rfl, hcause⟩
  have hcore (v : State) : (v.pairStat fun s => ((s.setF F.PAIR_STAT_ROLE 3).setFlag F.PAIR_STAT_PEER_LOST true).setFlag
      F.PAIR_STAT_INSYNC false).core = v.core := by
    rw [pairStat_core, setFlag_core, setFlag_core, setF_core]
  have hkept : u.beginLoad.pairing = u.pairing := beginLoad_pairing u
  have hgap := gap_of_pairing (hkept.trans hpair)
  have hstart := gapStart_of_pairing (hkept.trans hpair)
  refine ⟨_, rfl, ?_, ?_, ?_, ?_⟩
  · rw [State.role, f_pairStat (by decide) (by decide), f_setFlag_of_apart (by decide), f_setFlag_of_apart (by decide),
      f_setF_same _ _ _ (by decide)]
    rfl
  · rw [pair_of_core (hcore _), hgap]
  · rw [pair_of_core (hcore _), hstart]
  · rw [mode_of_core (hcore _), beginLoad_mode]
    exact hmode

/-- R391: a grant within 15 ms of a RENEW that was answered. -/
theorem claimGrant_barred {s : State} {claim : Nat} (ago : Nat) (hpaired : s.paired = true) (hlink : s.linkOff = false)
    (hrole : s.role = 2) (hbarred : s.grantBarred = true) : exec (.claimGrant claim ago) s = .next s.fromWitness := by
  rw [show exec (.claimGrant claim ago) s = execClaimGrant claim ago s from rfl, execClaimGrant, if_neg (by simp [hpaired, hlink])]
  extract_lets s1 cause s2 pair p
  rw [if_neg (by simp [hrole]), if_pos (by simp [hbarred])]

/-- R395: once the tables are loaded the gap ends. -/
theorem gapEnd_loaded {s : State} (hgap : s.pair.gap = true) (hcur : s.mode.cur = .standby) (hloaded : s.power.mapLoaded = true) :
    ∃ t : State, exec (.gapEnd true) s = .next t ∧ t.pair.gap = false := by
  rw [show exec (.gapEnd true) s = execGapEnd true s from rfl, execGapEnd, if_neg (by simp [hgap, hcur]),
    if_neg (by decide), if_neg (by simp [hloaded])]
  extract_lets s1 pair s2 s3 s4 s5
  have hs2 : s2.pairing = (false, s1.pair.gapStart, s1.pair.mirroring) := by
    simp only [s2, enterMode_pairing]
    rfl
  have hs3 : s3.pairing = s2.pairing := pairStat_pairing _ _ (by rw [setF_pairing, setF_pairing])
  have hs4 : s4.pairing = s3.pairing := foldl_pairing _ holdingFreed_pairing _ _
  have hdone (l : List Nat) : (l.foldl (fun (s : State) p => s.retryWaiting p) s5).resyncDue.drive.pairing =
      (false, s1.pair.gapStart, s1.pair.mirroring) := by
    rw [drive_pairing, resyncDue_pairing, foldl_pairing _ retryWaiting_pairing, claimAll_pairing, hs4, hs3, hs2]
  refine ⟨_, rfl, ?_⟩
  exact gap_of_pairing (hdone _)

/-- R387: after PEER_LOST_ACK the device acknowledges alone. -/
theorem peerLostAck_taken {s : State} (hpaired : s.paired = true) (hlink : s.linkOff = false) (hrole : s.role = 1)
    (hpending : s.pair.lostPending = true) : ∃ t : State, exec .peerLostAck s = .next t ∧ t.pair.mirroring = false ∧
      t.flag F.PAIR_STAT_PEER_LOST = true ∧ t.flag F.PAIR_STAT_INSYNC = false := by
  rw [show exec .peerLostAck s = execPeerLostAck s from rfl, execPeerLostAck, if_neg (by simp [hpaired, hlink])]
  extract_lets s1 pair s2
  rw [if_pos (by simp [hpending, hrole])]
  have hs2 : s2.pairing = (s1.pair.gap, s1.pair.gapStart, false) := by
    simp only [s2, State.setMirroring, if_neg Bool.false_ne_true, settleWorks_pairing, releaseEmits_pairing, syncDurable_pairing]
    rfl
  have hdone : ((s2.pairStat fun s => (s.setFlag F.PAIR_STAT_PEER_LOST true).setFlag F.PAIR_STAT_INSYNC false).incF
      F.PAIR_LINK_LOSSES).pairing = s2.pairing := by
    rw [State.incF, setF_pairing, pairStat_pairing _ _ (by rw [setFlag_pairing, setFlag_pairing])]
  have hlosses (t : State) {x : Field} (hx : x.off ≠ F.PAIR_LINK_LOSSES.off) : (t.incF F.PAIR_LINK_LOSSES).flag x = t.flag x := by
    rw [State.flag, State.incF, f_setF_off _ _ _ _ hx, State.flag]
  refine ⟨_, rfl, ?_, ?_, ?_⟩
  · exact mirroring_of_pairing (hdone.trans hs2)
  · rw [hlosses _ (by decide), flag_pairStat (by decide) (by decide), flag_setFlag_of_apart (by decide),
      flag_setFlag_same rfl (by decide)]
  · rw [hlosses _ (by decide), flag_pairStat (by decide) (by decide), flag_setFlag_same rfl (by decide)]

/-- R401: a report that is not READY of a peer of which nothing hangs. -/
theorem pairHealth_notReady {s : State} {r : PairReport} (hruns : s.linkRuns = true) (hrole : s.role = 1)
    (htested : s.power.tested = false) (hlive : s.pair.live = true) (hready : r.state = 0) :
    exec (.pairHealth r) s = .next { s.pairFrame with
      pair := { s.pairFrame.pair with peerReport := some (r, s.tbase) }, power := { s.power with peerBank := some r.bankMf } } := by
  rw [show exec (.pairHealth r) s = execPairHealth r s from rfl, execPairHealth, if_neg (by simp [hruns, hrole])]
  extract_lets frame pair power s1 s2 s3
  have htested1 : s1.power.tested = false := htested
  have hs2 : s2 = s1 := if_neg (by simp [htested1])
  have hs3 : s3 = s1 := (if_neg (by simp [hready])).trans hs2
  have hlive3 : s3.pair.live = true := by
    rw [hs3]
    exact hlive
  rw [if_neg (by simp [hlive3]), hs3]

/-- Settles O38: grants, the gap, and the loss of the peer. -/
theorem switchOver : Obligations.SwitchOver := by
  unfold Obligations.SwitchOver
  refine ⟨?_, ?_, ?_, ?_, ?_, ?_, ?_⟩
  · exact fun s claim ago hpaired hlink hrole hcur hbusy habove _ =>
      ⟨claimGrant_taken ago hpaired hlink hrole hcur hbusy habove, claimGrant_barred ago hpaired hlink hrole⟩
  · refine fun s hgap hcur => ⟨gapEnd_loaded hgap hcur, fun hload => ?_⟩
    rw [show exec (.gapEnd true) s = execGapEnd true s from rfl, execGapEnd, if_neg (by simp [hgap, hcur]),
      if_neg (by decide), if_pos (by simp [hload])]
  · intro s hgap hcur
    rw [show exec (.gapEnd false) s = execGapEnd false s from rfl, execGapEnd, if_neg (by simp [hgap, hcur]), if_pos (by decide)]
  · exact fun s r hruns hrole htested hlive hready => pairHealth_notReady hruns hrole htested hlive hready
  · intro s hruns _ hlate
    rw [show exec .peerTimeout s = execPeerTimeout s from rfl, execPeerTimeout, if_pos (by simp [-BitVec.toNat_sub, hruns, hlate])]
  · intro s r u hruns hreport hlate
    rw [show exec .peerHealthStale s = execPeerHealthStale s from rfl, execPeerHealthStale, hreport]
    dsimp only
    rw [if_pos (by simp [-BitVec.toNat_sub, hruns, hlate])]
  · exact fun s hpaired hlink hrole hpending => peerLostAck_taken hpaired hlink hrole hpending

end Sys2Proof.Machine
